-- ==== Sys2Proof/Word.lean ====
section
/-! DEFINITION. The word types of the register window and of memory, and their plainest arithmetic. -/

namespace Sys2Proof

/-- A register of the window is 32 bits wide (R36). -/
abbrev Word := BitVec 32

/-- Memory is addressed by byte (R62, R386). -/
abbrev Byte := BitVec 8

/-- Bits `hi` down to `lo` of a natural number, the manual's `[hi:lo]`. -/
def bitsOf (v hi lo : Nat) : Nat := (v >>> lo) % 2 ^ (hi + 1 - lo)

/-- Bit `i` of a natural number. -/
def bitOf (v i : Nat) : Bool := v.testBit i

/-- `v` with the bits `hi` down to `lo` replaced by the low bits of `x`. -/
def putBits (v hi lo x : Nat) : Nat :=
  v - (bitsOf v hi lo) * 2 ^ lo + (x % 2 ^ (hi + 1 - lo)) * 2 ^ lo

/-- The signed value of the low `w` bits of `v`, two's complement. -/
def signedOf (w v : Nat) : Int := (BitVec.ofNat w v).toInt

/-- The low `w` bits of a signed value, as a natural number. -/
def unsignedOf (w : Nat) (i : Int) : Nat := (BitVec.ofInt w i).toNat

/-- Sparse data by key: the entries of `l` in rising order of key, none equal to the value `d` that an unlisted key
reads as. The value at key `k` is `sget d l k`. -/
def sget {α : Type} (d : α) : List (Nat × α) → Nat → α
  | [], _ => d
  | (k, v) :: t, i => if i = k then v else sget d t i

/-- Removes every entry of a key. -/
def serase {α : Type} : List (Nat × α) → Nat → List (Nat × α)
  | [], _ => []
  | (k, v) :: t, i => if i = k then serase t i else (k, v) :: serase t i

/-- Inserts an entry before the first entry of a greater key. -/
def sinsert {α : Type} : List (Nat × α) → Nat → α → List (Nat × α)
  | [], i, v => [(i, v)]
  | (k, w) :: t, i, v => if i < k then (i, v) :: (k, w) :: t else (k, w) :: sinsert t i v

/-- Writes value `v` at key `i`: the value `d` that an unlisted key reads as is not listed. -/
def sset {α : Type} [DecidableEq α] (d : α) (l : List (Nat × α)) (i : Nat) (v : α) : List (Nat × α) :=
  if v = d then serase l i else sinsert (serase l i) i v

/-- Removes every entry whose key meets `p`. -/
def sdrop {α : Type} (p : Nat → Bool) (l : List (Nat × α)) : List (Nat × α) := l.filter (fun e => !p e.1)

/-- The canonical form of sparse data: keys strictly rising, no entry equal to what its key reads as when unlisted. -/
def swf {α : Type} [DecidableEq α] (d : Nat → α) : List (Nat × α) → Bool
  | [] => true
  | [(k, v)] => decide (v ≠ d k)
  | (k, v) :: (k', v') :: t => decide (v ≠ d k) && decide (k < k') && swf d ((k', v') :: t)

/-- A saturating increment of a counter of 32 bits. -/
def satInc (v : Nat) : Nat := if v ≥ 4294967295 then 4294967295 else v + 1

end Sys2Proof
end

