-- ==== Sys2Proof/Config.lean ====
section
/-! DEFINITION. What one part fixes for good, the free values that the spec leaves open, and the small types that name
the senders of commands and the pages of the register window. -/

namespace Sys2Proof

/-- Who issues a register access (R36, R58). `hostQueue q` is the host acting through queue pair q: its identity is the
host's, and it carries the partition tag of that queue (R471). -/
inductive Agent where
  | mgmt
  | host
  | hostQueue (q : Fin 16)
  | hart (h : Fin 8)
  | fabric (a : Fin 1024)
  deriving DecidableEq, Repr

/-- The identity of R58: 0x000 MGMT, 0x001 host, 0x010 to 0x017 harts, 0x400 + a a fabric peer. -/
def Agent.ident : Agent → Nat
  | .mgmt => 0
  | .host => 1
  | .hostQueue _ => 1
  | .hart h => 0x10 + h
  | .fabric a => 0x400 + a

/-- The kinds of page of R34. -/
inductive PageKind where
  | dev | fuse | clk | rst | pwr | seq | tg | pgr | vc | cu | tia | dec | syn | sched | hic | trace | red | hart | flt
  | dram | alloc | dma | fq | fp | fab | hostp | hq | time | cal | part | mc
  deriving DecidableEq, Repr

/-- The reasons of a rejection (R44), with their codes. -/
inductive Reason where
  | range | state | agent | owner | locked | align | order
  deriving DecidableEq, Repr

/-- The code in xx_REJECT_ADDR.REASON (R44). -/
def Reason.code : Reason → Nat
  | .range => 1 | .state => 2 | .agent => 3 | .owner => 4 | .locked => 5 | .align => 6 | .order => 7

/-- A source of TRIG_OUT whose pulse the part times (R498): the TPULSE of the pin, a capture unit, a synthesis channel's
marker, a pulse generator. -/
inductive PulseSource where
  | tpulse
  | capture (u : Fin 8)
  | marker (ch : Fin 16) (m : Fin 4)
  | gen (k : Fin 4)
  deriving DecidableEq, Repr

/-- A firmware image as the boot ROM finds it in the flash (R487, R488). The outcome of the signature and key-hash checks
is an operand: the key engine's cryptography is not in the spec. -/
structure BootImage where
  magic : Word
  version : BitVec 16
  seq : Word
  mgmtLen : Word
  entry : Word
  payloadLen : Word
  signatureOk : Bool
  keyHash : BitVec 384
  code : List Byte
  deriving DecidableEq, Repr

/-- The microcode patch image as the boot ROM finds it (R120, R121): whether its MAGIC and header version match, whether its
signature and its tag are valid, its header, its payload after decryption. -/
structure PatchImage where
  magicOk : Bool
  sigOk : Bool
  tagOk : Bool
  romId : Word
  abiMaj : BitVec 8
  abiMin : BitVec 8
  version : Word
  payload : List Word
  deriving DecidableEq, Repr

/-- What the boot ROM meets on its way (R489): fuse errors, PLL locks, the two images, the patch image. -/
structure BootInputs where
  fuseCorrected : Bool
  fuseDouble : Bool
  spllLocks : Bool
  tpllLocks : Bool
  lockUs : BitVec 16
  imageA : BootImage
  imageB : BootImage
  patch : Option PatchImage
  deriving DecidableEq, Repr

/-- One command of the QSPI command port (20, the boot ROM; R486): what firmware sets, and what the flash returns. -/
structure QspiCommand where
  opcode : Byte
  addrBytes : Fin 5
  addr : BitVec 32
  dummy : BitVec 8
  isWrite : Bool
  data : List Byte
  deriving DecidableEq, Repr

/-- A requester of DRAM accesses (15, the table before R397). -/
inductive Requester where
  | refresh | urgent | pager | walker | capture (u : Fin 8) | solder | dma | hart | host | trace
  deriving DecidableEq, Repr

/-- The 4-bit identity of a requester. -/
def Requester.ident : Requester → Nat
  | .refresh => 0 | .urgent => 1 | .pager => 2 | .walker => 3 | .capture _ => 4 | .solder => 5 | .dma => 6 | .hart => 7
  | .host => 8 | .trace => 9

/-- What the check of a DRAM read finds (R389): no error, a correctable one, an uncorrectable one whose re-read checks
correct or correctable, a lasting one. -/
inductive ReadCheck where
  | clean | corrected | transient | lasting
  deriving DecidableEq, Repr

/-- What the SECDED check of a stored word finds. -/
inductive EccCheck where
  | clean | corrected | double
  deriving DecidableEq, Repr

/-- The block attached to an instruction, as its record gives it (R69): the flags SIDE and HOLD_SAFE, the encoding, LEN, and
bits [41:6] of the address of the block data. -/
structure BlockHead where
  side : Bool
  holdSafe : Bool
  enc : BitVec 2
  len : BitVec 20
  vaddr : BitVec 36
  deriving DecidableEq, Repr

/-- How a beat of a DMA transfer fails (R412): poisoned DRAM data, a failed DRAM write, a failed host request, a double-bit
error in the channel buffer, a poisoned queue word. -/
inductive DmaError where
  | poison | writeFail | hostErr | bufUc | queueUc
  deriving DecidableEq, Repr

/-- An activate that an access needs: the bank, numbered within its subchannel over both ranks, and the row. The placement of
addresses is internal to the controller (R392). -/
structure Activate where
  bank : BitVec 8
  row : BitVec 18
  deriving DecidableEq, Repr

/-- How an ALERT_n goes on (R394): released and not repeated, asserted again during the replay, or still asserted. -/
inductive AlertOutcome where
  | released | again | held
  deriving DecidableEq, Repr

/-- The code density of an interpolator (R232): 2u the start of TUu, 2u + 1 its stop. `counts` are the hits of each code,
`outside` those outside the codes. -/
structure TiaHits where
  interp : Fin 128
  counts : List Nat
  outside : Nat
  deriving DecidableEq, Repr

/-- The two sets of stamps of a DRV or DEN line (R453): the sum of their errors in 1/64 ps, and the sum of the squares. -/
structure OutStamps where
  line : Fin 1024
  sum1 : Int
  sq1 : Nat
  sum2 : Int
  sq2 : Nat
  deriving DecidableEq, Repr

/-- The flip-code searches of a comparator at the low and the high level (R454): for each code tried, in the order of the search,
whether at least half of the samples read CMPH = 1 (CMPL = 0). -/
structure ThReadings where
  line : Fin 1024
  low : List Bool
  high : List Bool
  deriving DecidableEq, Repr

/-- The two sweeps of a comparator line (R456): the counts k(δ), from −SPAN_PS on. -/
structure InSweep where
  line : Fin 1024
  first : List Nat
  second : List Nat
  deriving DecidableEq, Repr

/-- The values accumulated of a decimation channel (R457): the sum of the post-filter outputs v in units of 2^-22, and the sum of
their squares. -/
structure DecSums where
  ch : Fin 32
  sum : Int
  sq : Nat
  deriving DecidableEq, Repr

/-! ### The host link (17) -/

/-- What a PCI Express configuration request addresses (R429). `other` is a doubleword of the configuration space whose contents
PCI Express Base 5.0 gives, not the manual. -/
inductive CfgItem where
  | deviceId | classCode | subsystem | command | pmcsr | msixControl | serialLo | serialHi | aerCe | aerUe
  | other (dword : BitVec 10)
  deriving DecidableEq, Repr

/-- A PCI Express configuration request (R427, R429). -/
inductive CfgRequest where
  | read (i : CfgItem)
  | busMaster (en : Bool)
  | msix (en fmask : Bool)
  | power (d3 : Bool)
  | clearCe (bits : Word)
  | clearUe (bits : Word)
  | otherWrite (dword : BitVec 10) (v : Word)
  deriving DecidableEq, Repr

/-- How a request that the part has issued to the host ends (R432). -/
inductive BusResult where
  | data (l : List Byte) | timeout | unsupported | abort | poisoned
  deriving DecidableEq, Repr

/-- An inbound memory request of the device on the root port (R446). -/
inductive RpRequest where
  | read (len : Fin 4097)
  | write (data : List Byte)
  deriving DecidableEq, Repr

/-! ### The fabric (13) -/

/-- The fields of a LINKINFO packet (R349). -/
structure LinkInfo where
  uid : BitVec 64
  rev : BitVec 2
  prio : Byte
  addr : Option (BitVec 10)
  root : BitVec 64
  rootPrio : Byte
  dist : BitVec 5
  port : Fin 6
  weight : BitVec 5
  deriving DecidableEq, Repr

/-- An entry of a ROUTE vector (R352, R365): a destination, the sender's weighted distance from it, the lowest revision on the
way. -/
structure RouteEntry where
  dst : BitVec 10
  dist : BitVec 5
  rev : BitVec 2
  deriving DecidableEq, Repr

/-- What a JOIN packet tells of a group (R353) about the members on the sender's side of the link: how many, the largest tree
distance of one from the sender, the largest between two of them, whether one has DET set. -/
structure JoinEntry where
  grp : Byte
  count : BitVec 11
  far : BitVec 5
  diam : BitVec 5
  det : Bool
  deriving DecidableEq, Repr

/-- An ASSIGN request or grant (R351). A grant without an address says that all are taken. -/
inductive AssignMsg where
  | request (uid : BitVec 64) (held fixed : Option (BitVec 10))
  | grant (uid : BitVec 64) (addr : Option (BitVec 10))
  deriving DecidableEq, Repr

/-- The routing part of a packet header (R342). -/
structure PktHead where
  mc : Bool
  dst : BitVec 10
  ttl : BitVec 5
  src : BitVec 10
  deriving DecidableEq, Repr

/-- A register message (R354). -/
structure RegReq where
  write : Bool
  offset : BitVec 24
  count : Fin 16
  tag : Byte
  data : List Word
  deriving DecidableEq, Repr

/-- The answer to a register message (R354): RESULT, REASON and INDEX as in FAB_RM_STAT. -/
structure RegRsp where
  tag : Byte
  result : BitVec 3
  reason : BitVec 4
  index : BitVec 5
  data : List Word
  deriving DecidableEq, Repr

/-- The contents of a packet (R342, R355). -/
inductive PktBody where
  | linkInfo (i : LinkInfo)
  | route (root tree : Bool) (vec : List RouteEntry)
  | join (l : List JoinEntry)
  | tsync (t2 t3 : BitVec 64)
  | assign (m : AssignMsg)
  | rreq (r : RegReq)
  | rrsp (r : RegRsp)
  | unreach (lost : BitVec 10)
  | preq (spage : BitVec 21) (grp : Byte) (mc : Bool)
  | pbreq (spage : BitVec 21) (grp : Byte) (mc : Bool) (count : Fin 16)
  | pdata (spage : BitVec 21) (index : Fin 4096) (last : Bool) (data : List Byte)
  | prep (spage : BitVec 21) (index : Fin 4096) (last : Bool) (word : List Byte)
  | pnak (spage : BitVec 21) (cause : BitVec 4)
  deriving DecidableEq, Repr

/-- A packet (R342). -/
structure Packet where
  head : PktHead
  body : PktBody
  deriving DecidableEq, Repr

/-- What a message of the deterministic class brings beside its own fields (R346): whether its first copy fails its CRC, its
group, its sender. -/
structure DetHead where
  second : Bool
  grp : Byte
  src : BitVec 10
  deriving DecidableEq, Repr

/-! ### Harts (11) -/

/-- A block that a cache gives up before an access: from the L1D of a hart, or from L2. The manual gives no replacement policy. -/
inductive Victim where
  | l1 (h : Fin 8) (block : BitVec 34)
  | l2 (block : BitVec 34)
  deriving DecidableEq, Repr

/-- What the checks on the way of a hart's access find (11): a corrected error in L1, a double-bit error in a line of L1, a
corrected or a double-bit one in L2, a DRAM access that fails lasting. -/
inductive CacheCheck where
  | clean | l1Corrected | l1Double | l2Corrected | l2Double | dramLost
  deriving DecidableEq, Repr

/-- What an instruction of a hart meets beside the state: its L1I no longer holds the blocks that it is fetched from, the blocks
that the data caches give up before it, the checks, an SC that fails although its reservation holds. -/
structure HartEnv where
  refetch : Bool
  victims : List Victim
  chk : CacheCheck
  scFails : Bool
  deriving DecidableEq, Repr

/-- The kind of a scheduler task (11): a thread or a Solder node. -/
inductive TaskKind where
  | thread
  | node
  deriving DecidableEq, Repr

namespace Config

/-- A value that the spec leaves open. The counter of `State` makes each one drawn a fresh one; nothing is known of any
(assumption 5). -/
opaque freeValue (k : Nat) (w : Nat) : BitVec w

/-- The identity of the microcode ROM, MC_ROMID (04): per ROM, not in the spec (assumption 4). -/
opaque romId : Word

/-- Words of the microcode ROM, 0x0000 to 0x3FFF (R104): not in the spec (assumption 4). -/
opaque romWord (addr : Nat) : Word

/-- Words A and B of the ROM's dispatch entries 0x00 to 0xBF (R111): not in the spec (assumption 4). -/
opaque romDispatch (opcode : Nat) : Word × Word

/-- The major revision of the die in IDCODE[31:28] (R527): not in the spec (assumption 4). -/
opaque dieRevision : BitVec 4

/-- The JEDEC identity in IDCODE[11:1] (R527): not in the spec (assumption 4). -/
opaque jedecId : BitVec 11

/-- A word of a fuse field whose FIELD code the spec does not list (R530, assumption 4). -/
opaque fuseWord (field word : Nat) : Word

/-- The vendor ID assigned to Plihorn (R429): not in the spec (assumption 4). -/
opaque pciVendor : BitVec 16

/-- A byte of MGMT's boot ROM: not in the spec (assumption 4). -/
opaque romByte (addr : Nat) : Byte

/-- Block-specific capability bits xx_CAP[27:0] that the spec calls "per block" and does not list (assumption 4). -/
opaque blockCap (ordinal : Nat) : BitVec 28

/-- The CSRs of MGMT that name the implementation (misa, mvendorid, marchid, mimpid, mhartid): not in the spec (assumption 27). -/
opaque mgmtCsr (addr : Nat) : Word

/-- The address at which MGMT takes an NMI: not in the spec (assumption 27). -/
opaque mgmtNmi : Word

/-- The offset of MGMT_DWIN in the private page of MGMT, and the frame that a value of it names: the spec gives the page no layout
(assumption 27). -/
opaque dwinOffset : BitVec 12

opaque dwinFrame (v : Word) : BitVec 18

end Config

end Sys2Proof
end

