-- ==== Sys2Proof/Syntax.lean ====
section
/-! DEFINITION. The commands of the block: one constructor for each row of spec/opcode_table.json, in its order, with the
operands that the rule of the row names. -/

namespace Sys2Proof

/-- A command (R21 to R539): what an agent, a link, a pin, a clock or an engine presents to the part. -/
inductive Instr where
  /-- PWRGD_ASSERT (R24): PWRGD is asserted with RST_N high, and the device leaves COLD for BOOT. -/
  | pwrgdAssert
  /-- PWRGD_DEASSERT (R483): PWRGD is deasserted, or held low long enough to pass its filter, and the device enters COLD, keeping only the fuses. -/
  | pwrgdDeassert
  /-- RST_N_ASSERT (R483): RST_N is held low for 1 µs or longer; the device enters COLD and keeps the retained set. -/
  | rstNAssert
  /-- RST_N_RELEASE (R24): RST_N is released while PWRGD is asserted, and the device enters BOOT. -/
  | rstNRelease
  /-- RST_CHIP (R485): A write of RST_CHIP with the correct key starts a chip reset with cause SOFT; any other key is rejected. -/
  | rstChip (a : Agent) (key : BitVec 16)
  /-- CHIP_RESET_END (R483): The 10 µs of COLD that a chip reset imposes expire, and the device enters BOOT. -/
  | chipResetEnd
  /-- BOOT_ROM_SEQUENCE (R489): The boot ROM runs at BOOT entry: it loads the fuses, locks the PLLs, picks and verifies a firmware image, loads the microcode patch, locks the key engine and jumps to MGMT firmware. -/
  | bootRomSequence (b : BootInputs)
  /-- DEV_BOOT_DONE (R490): A write of DEV_BOOT.DONE moves the device from BOOT to TRAIN. -/
  | devBootDone (a : Agent)
  /-- DEV_BOOT_TRAINED (R490): A write of DEV_BOOT.TRAINED moves the device from TRAIN to READY once its preconditions hold. -/
  | devBootTrained (a : Agent)
  /-- RAIL_OUT_OF_RANGE (R478): A supply monitor sees its rail out of range for 2 µs and raises RAIL_MON; LAST_OUT records the rail. -/
  | railOutOfRange (rail : Fin 7)
  /-- TPLL_LOCK_LOSS (R481): The timing PLL loses lock, which raises the FATAL source TPLL_LOCK. -/
  | tpllLockLoss
  /-- SYSPLL_LOCK_LOSS (R481): A system PLL loses lock, which raises the FATAL source SYSPLL_LOCK. -/
  | syspllLockLoss (pll : Fin 2)
  /-- THERM_WARN (R323): The junction sensor reaches 115 °C and raises the CE source THERM_WARN. -/
  | thermWarn (t : BitVec 16)
  /-- THERM_TRIP (R323): The junction sensor reaches 130 °C and raises the FATAL source THERM_TRIP. -/
  | thermTrip (t : BitVec 16)
  /-- DEV_MODE_REQ_CALIBRATE (R24): DEV_MODE.REQ = CALIBRATE moves the device into CALIBRATE from READY or MEASURE when every partition is IDLE. -/
  | devModeReqCalibrate (a : Agent)
  /-- DEV_MODE_REQ_READY (R24): DEV_MODE.REQ = READY leaves CALIBRATE, DIAGNOSE or SERVICE; a calibration run in progress is abandoned, and leaving DIAGNOSE or SERVICE disables the measurement units. -/
  | devModeReqReady (a : Agent)
  /-- DEV_MODE_REQ_DIAGNOSE (R24): DEV_MODE.REQ = DIAGNOSE moves the device from READY into DIAGNOSE when every partition is IDLE. -/
  | devModeReqDiagnose (a : Agent)
  /-- DEV_MODE_REQ_SERVICE (R24): DEV_MODE.REQ = SERVICE moves the device into SERVICE from READY or MEASURE when every partition is IDLE. -/
  | devModeReqService (a : Agent)
  /-- DEV_MODE_REQ_DOZE (R494): An accepted DOZE request sets BUSY, drains work, sends SLEEP on the fabric ports and puts DRAM in self-refresh. -/
  | devModeReqDoze (a : Agent)
  /-- DEV_MODE_REQ_HIBERNATE (R494): An accepted HIBERNATE request runs the sleep entry steps, with the timing PLL and the SerDes to be powered down. -/
  | devModeReqHibernate (a : Agent)
  /-- SLEEP_SAMPLE (R494): At the 32.768 kHz edge, the sleep controller samples the wake latches and, if none is pending, gates the clocks and enters DOZE or HIBERNATE. -/
  | sleepSample
  /-- SLEEP_DRAIN_TIMEOUT (R494): Step 1 of sleep entry has not finished within PWR_SLEEP_TMO, and the entry is abandoned with ABORT_CAUSE DRAIN. -/
  | sleepDrainTimeout
  /-- WAKE_LATCH_SET (R493): An enabled wake source sets its latch asynchronously, which starts a wake or aborts a sleep entry in progress. -/
  | wakeLatchSet (src : Fin 5)
  /-- WAKE_TIMER_EXPIRE (R493): PWR_WAKE_TMR ticks pass since the clocks were gated, and the timer sets its wake latch. -/
  | wakeTimerExpire
  /-- WAKE_DOZE_COMPLETE (R496): Wake from DOZE completes, and the device reads READY with PREV DOZE. -/
  | wakeDozeComplete (ticks : BitVec 32)
  /-- WAKE_HIBERNATE_COMPLETE (R496): Wake from HIBERNATE completes with the timing PLL relocked, and the device reads TRAIN. -/
  | wakeHibernateComplete (lockUs : BitVec 16) (ticks : BitVec 32)
  /-- TRIG_IN_EVENT (R497): A TRIG_IN level change passes the glitch filter and is synchronised, which makes triggers pending, pulses interrupt sources and feeds capture, jumps and event stamps. -/
  | trigInEvent (pin : Fin 8) (rising : Bool)
  /-- SYNC_IN_EVENT (R499): A filtered SYNC_IN event is delivered, and it is routed to a TRIG_IN when ROUTE selects one. -/
  | syncInEvent (rising : Bool)
  /-- DEV_SYNC_PULSE (R499): A write of DEV_SYNC.PULSE drives a pulse on SYNC_OUT when OUT_SRC is 3. -/
  | devSyncPulse (a : Agent)
  /-- TRIG_OUT_PULSE_END (R221): The WIDTH count of a TRIG_OUT pulse expires, and the source releases the pin. -/
  | trigOutPulseEnd (pin : Fin 8) (src : PulseSource)
  /-- QSPI_COMMAND (R486): MGMT sends one command through the QSPI command port to erase or program the flash. -/
  | qspiCommand (c : QspiCommand)
  /-- SMBUS_MODE (R526): The SMBus MODE command returns DEV_MODE.MODE. -/
  | smbusMode
  /-- SMBUS_TEMP (R526): The SMBus TEMP command returns PWR_TEMP. -/
  | smbusTemp
  /-- SMBUS_RAIL (R526): The SMBus RAIL command returns PWR_RAIL. -/
  | smbusRail
  /-- SMBUS_FIRST (R526): The SMBus FIRST command returns FLT_FIRST. -/
  | smbusFirst
  /-- SMBUS_UID (R526): The SMBus UID command returns the unique ID. -/
  | smbusUid
  /-- SMBUS_ALIVE (R526): The SMBus ALIVE command returns the ALIVE state and ERR_N. -/
  | smbusAlive
  /-- SMBUS_CAUSE (R526): The SMBus CAUSE command returns RST_CAUSE. -/
  | smbusCause
  /-- SMBUS_OTHER (R526): An SMBus write command, or an unlisted command code, is acknowledged and ignored. -/
  | smbusOther (code : Byte)
  /-- TAP_RESET (R527): TRST_N low, or five TCK cycles with TMS high, resets the TAP to Test-Logic-Reset with IDCODE selected. -/
  | tapReset
  /-- EXTEST (R528): The EXTEST instruction makes the boundary cells drive and capture the balls, in COLD only. -/
  | tapExtest (cells : List Bool) (balls : List Bool)
  /-- SAMPLE_PRELOAD (R528): The SAMPLE/PRELOAD instruction captures the balls and preloads the boundary cells. -/
  | tapSamplePreload (cells : List Bool) (balls : List Bool)
  /-- IDCODE (R528): The IDCODE instruction selects the 32-bit IDCODE register. -/
  | tapIdcode
  /-- CLAMP (R528): The CLAMP instruction holds the outputs from the boundary cells with the bypass register selected. -/
  | tapClamp
  /-- HIGHZ (R528): The HIGHZ instruction leaves every output that has a control cell undriven. -/
  | tapHighz
  /-- FUSE_READ (R528): The FUSE_READ instruction shifts out the fuse word last addressed by FUSE_ADDR. -/
  | tapFuseRead
  /-- FUSE_ADDR (R528): The FUSE_ADDR instruction loads the fuse field and word to be read. -/
  | tapFuseAddr (addr : BitVec 16)
  /-- FUSE_PROG (R530): At Update-DR, FUSE_PROG blows the 1 bits of DATA in the named field word, subject to the lifecycle rules. -/
  | tapFuseProg (field : BitVec 8) (word : BitVec 8) (data : BitVec 32) (supplyOk : Bool)
  /-- FUSE_PROG_DONE (R530): A fuse program completes: BUSY clears and RESULT is set. -/
  | tapFuseProgDone (verifyOk : Bool)
  /-- FUSE_STAT (R528): The FUSE_STAT instruction returns BUSY and the RESULT of the latest FUSE_PROG. -/
  | tapFuseStat
  /-- DEBUG (R528): The DEBUG instruction gives access to the RISC-V debug module, unless DEBUG_LOCK is blown. -/
  | tapDebug (dmi : BitVec 41)
  /-- BYPASS (R528): The BYPASS instruction, or any unlisted code, selects the 1-bit bypass register. -/
  | tapBypass (tdi : Bool)
  /-- REGISTER_WRITE (R40): A write to a register that has no row of its own is checked for range, state, agent, owner, alignment and lock, and is either applied whole or rejected. -/
  | registerWrite (a : Agent) (off : BitVec 26) (be : BitVec 4) (v : Word)
  /-- RESERVED_WRITE (R35): A write to a reserved offset is dropped, and Monel records a crossbar CE fault. -/
  | reservedWrite (a : Agent) (off : BitVec 26) (v : Word)
  /-- RC_READ (R535): A read of an RC field returns its value and restarts it. -/
  | rcRead (a : Agent) (off : BitVec 26)
  /-- COHERENT_LO_READ (R103): A read of the LO half of a coherent pair latches the HI half, and the pair's other latched fields, for the same agent. -/
  | coherentLoRead (a : Agent) (off : BitVec 26)
  /-- BLOCK_RESET (R52): A write of xx_CTRL.BLOCK_RESET resets the page, discards its armed commit and raises a reset fence. -/
  | blockReset (a : Agent) (page : Fin 115)
  /-- BLOCK_RESET_END (R484): The reset duration of a block expires, and IN_RESET falls. -/
  | blockResetEnd (page : Fin 115)
  /-- FAULT_INJECT (R39): A write of xx_FLT_INJ makes the next check of that checker use inverted check bits. -/
  | faultInject (a : Agent) (page : Fin 115) (bits : Word)
  /-- OWNER_WRITE (R58): MGMT writes xx_OWNER, which sets the owner checked under R59. -/
  | ownerWrite (a : Agent) (page : Fin 115) (v : Word)
  /-- SHADOW_WRITE (R49): A write to a shadowed register goes to the shadow, counts in WCOUNT and cancels an ARMED or HELD commit. -/
  | shadowWrite (a : Agent) (off : BitVec 26) (v : Word)
  /-- TABLE_WRITE (R54): A 32-bit or 64-bit write to a table window is checked for width and order, and is applied to the table or its shadow. -/
  | tableWrite (a : Agent) (off : BitVec 26) (wide : Bool) (v : BitVec 64)
  /-- COMMIT_REQUEST (R46): A write of xx_COMMIT is compared with xx_SHADOW_GEN, and the commit is armed or refused. -/
  | commitRequest (a : Agent) (page : Fin 115) (expect : Word)
  /-- SHADOW_TRANSFER (R48): At the block's commit point, an armed commit transfers the whole shadow to the active copy. -/
  | shadowTransfer (page : Fin 115) (channels : BitVec 8)
  /-- EMIT (R75): The EMIT instruction emits its block once and continues with the next instruction. -/
  | wsqEmit (n : Fin 16) (r : BlockHead)
  /-- REPEAT (R76): The REPEAT instruction emits its block COUNT times, or skips when COUNT is 0. -/
  | wsqRepeat (n : Fin 16) (r : BlockHead) (count : Word)
  /-- LOOP (R77): The LOOP instruction pushes a loop-stack entry and emits its block, or skips the body when COUNT is 0. -/
  | wsqLoop (n : Fin 16) (r : BlockHead) (exitOfs : BitVec 24) (count : Word)
  /-- ENDLOOP (R78): The ENDLOOP instruction emits its block, decrements the innermost loop count, and iterates or pops the loop. -/
  | wsqEndloop (n : Fin 16) (r : BlockHead)
  /-- CALL (R79): The CALL instruction emits its block, pushes the return address and continues at TARGET. -/
  | wsqCall (n : Fin 16) (r : BlockHead) (target : BitVec 38)
  /-- RET (R79): The RET instruction emits its block, pops the call stack and the loop entries of the current call depth, and returns. -/
  | wsqRet (n : Fin 16) (r : BlockHead)
  /-- JUMP (R80): The JUMP instruction emits its block and continues at TARGET. -/
  | wsqJump (n : Fin 16) (r : BlockHead) (target : BitVec 38)
  /-- JUMPC (R80): The JUMPC instruction emits its block, samples COND at its decision point, and continues at TARGET or at the next instruction. -/
  | wsqJumpc (n : Fin 16) (r : BlockHead) (cond : Byte) (target : BitVec 38)
  /-- MATCH (R89): The MATCH instruction repeats its block until every unmasked partition has matched or the timeout is reached. -/
  | wsqMatch (n : Fin 16) (r : BlockHead) (timeout : Word)
  /-- WAIT (R92): The WAIT instruction repeats its block until COND is true or the timeout expires. -/
  | wsqWait (n : Fin 16) (r : BlockHead) (cond : Byte) (noTimeout : Bool) (timeout : Word)
  /-- FLAG_SET (R83): The FLAG instruction with OP set sets the sequencer flags named in MASK. -/
  | wsqFlagSet (n : Fin 16) (r : BlockHead) (mask : BitVec 16)
  /-- FLAG_CLEAR (R83): The FLAG instruction with OP clear clears the sequencer flags named in MASK. -/
  | wsqFlagClear (n : Fin 16) (r : BlockHead) (mask : BitVec 16)
  /-- FLAG_INVERT (R83): The FLAG instruction with OP invert inverts the sequencer flags named in MASK. -/
  | wsqFlagInvert (n : Fin 16) (r : BlockHead) (mask : BitVec 16)
  /-- CCLR (R86): The FLAG instruction with OP CCLR clears the condition accumulator of every partition of the gang. -/
  | wsqCclr (n : Fin 16) (r : BlockHead)
  /-- TCLR (R83): The FLAG instruction with OP TCLR clears the pending bits of the triggers named in MASK. -/
  | wsqTclr (n : Fin 16) (r : BlockHead) (mask : BitVec 16)
  /-- SIGNAL (R94): The SIGNAL instruction sets event flag EFLAG of scheduler thread THREAD at the end of its block. -/
  | wsqSignal (n : Fin 16) (r : BlockHead) (thread : BitVec 8) (eflag : BitVec 5)
  /-- CAPON (R93): The CAPON instruction enables the named capture kinds in the named capture units from the first cycle of its block. -/
  | wsqCapon (n : Fin 16) (r : BlockHead) (kind : BitVec 3) (units : BitVec 8)
  /-- CAPOFF (R93): The CAPOFF instruction disables the named capture kinds in the named capture units from the first cycle of its block. -/
  | wsqCapoff (n : Fin 16) (r : BlockHead) (kind : BitVec 3) (units : BitVec 8)
  /-- MARK (R95): The MARK instruction places a mark record in the pattern trace and in the enabled capture units. -/
  | wsqMark (n : Fin 16) (r : BlockHead) (id : Word)
  /-- HALT (R81): The HALT instruction emits its block, which may be empty, and stops the sequencer with cause HALT. -/
  | wsqHalt (n : Fin 16) (r : BlockHead)
  /-- TAPSTATE (R128): The TAPSTATE instruction walks the DUT's TAP to TARGET and dwells there. -/
  | wsqTapstate (n : Fin 16) (r : BlockHead) (target : BitVec 4) (dwell : BitVec 24) (force : Bool)
  /-- TAPSHIFT (R129): The TAPSHIFT instruction shifts N bits through the instruction or data register, with TDO compared per bit. -/
  | wsqTapshift (n : Fin 16) (r : BlockHead) (ir : Bool) (pauseEnd : Bool) (cmp : Bool) (bits : BitVec 25)
  /-- SENTTX (R132): The SENTTX instruction transmits SENT fast-channel frames on up to four pins. -/
  | wsqSenttx (n : Fin 16) (r : BlockHead) (operands : BitVec 56)
  /-- SENTRX (R134): The SENTRX instruction receives and checks SENT frames from the DUT through a capture unit's decoder. -/
  | wsqSentrx (n : Fin 16) (r : BlockHead) (operands : BitVec 56)
  /-- CUSTOM_INSTRUCTION (R96): An opcode from 0xC0 to 0xFF dispatches to its bound open-region micro-routine. -/
  | customInstruction (n : Fin 16) (opcode : Byte) (r : BlockHead) (operands : BitVec 56)
  /-- DECISION_POINT (R72): At DP of a block, conditional exits sample their conditions, MATCH and WAIT decide, and pause, resume and abort requests are sampled. -/
  | decisionPoint (n : Fin 16)
  /-- BLOCK_BOUNDARY (R114): At the end of a block, the queued descriptor becomes the streaming block and sampled requests take effect. -/
  | blockBoundary (n : Fin 16)
  /-- BOUNDARY_STALL (R97): The next record or block data is not admitted in time, and the stall policy applies: ABORT stops the gang, and HOLD emits the hold vector. -/
  | boundaryStall (n : Fin 16) (line : BitVec 30)
  /-- MID_BLOCK_STALL (R191): The expansion stage reaches a line beyond the admitted 512 KiB that is absent, and the stall policy applies. -/
  | midBlockStall (n : Fin 16) (line : BitVec 30)
  /-- SEQ_LATE (R73): The descriptor of the next block has not been transferred by the end of the current block, and lateness is handled as a stall. -/
  | seqLate (n : Fin 16)
  /-- HOLD_UNIT_DECISION (R192): At the decision point of a hold unit, the sequencer checks for the missing lines and resumes the stream when they are present. -/
  | holdUnitDecision (n : Fin 16)
  /-- HOLD_LIMIT_REACHED (R192): PGR_SQ_HOLD_LIMIT hold units pass without a resume, and the stall is taken as ABORT. -/
  | holdLimitReached (n : Fin 16)
  /-- PAUSE_UNIT_DECISION (R100): At the decision point of a pause unit, a sampled resume takes effect at the end of the unit. -/
  | pauseUnitDecision (n : Fin 16)
  /-- COND_RELEASE (R85): A compare result is released to the sequencer at its strobe time plus the condition lead. -/
  | condRelease (n : Fin 16) (present : Bool)
  /-- SEQ_START (R99): A write of SEQ_RUN.START arms a register or trigger start, and a register start begins at the next DCLK edge. -/
  | seqStart (a : Agent) (n : Fin 16) (src : BitVec 2) (trig : BitVec 4)
  /-- SEQ_TRIGGER_START (R99): Trigger START_TRIG becomes pending for an armed trigger start, and the gang starts at the next DCLK edge, consuming the pending bit. -/
  | seqTriggerStart (n : Fin 16)
  /-- SEQ_PAUSE (R100): A write of SEQ_RUN.PAUSE requests a gang pause at a decision point. -/
  | seqPause (a : Agent) (n : Fin 16)
  /-- SEQ_RESUME (R100): A write of SEQ_RUN.RESUME requests the resume of a paused gang. -/
  | seqResume (a : Agent) (n : Fin 16)
  /-- SEQ_ABORT (R100): A write of SEQ_RUN.ABORT requests an abort of the whole gang. -/
  | seqAbort (a : Agent) (n : Fin 16)
  /-- SEQ_GANG (R537): A write of SEQ_GANG.LAST rebinds timing groups to SQn and discards the commits of the gangs it changes. -/
  | seqGang (a : Agent) (n : Fin 16) (last : BitVec 4)
  /-- SEQ_FLAG_SET (R83): A software write sets sequencer flags through SEQ_FLAG_SET. -/
  | seqFlagSet (a : Agent) (n : Fin 16) (mask : BitVec 16)
  /-- SEQ_FLAG_CLR (R83): A software write clears sequencer flags through SEQ_FLAG_CLR. -/
  | seqFlagClr (a : Agent) (n : Fin 16) (mask : BitVec 16)
  /-- SEQ_TRIG_PEND_CLEAR (R84): A software write clears pending triggers in SEQ_TRIG_PEND; a trigger arriving in the same DCLK stays pending. -/
  | seqTrigPendClear (a : Agent) (n : Fin 16) (mask : BitVec 16)
  /-- UWDOG_EXPIRE (R117): A micro-routine pass would begin its 4,097th micro-cycle; it is aborted and the sequencer stops with cause UWDOG. -/
  | uwdogExpire (n : Fin 16)
  /-- NOP (R108): The micro-operation NOP does nothing for one micro-cycle. -/
  | uopNop (n : Fin 16) (chk : EccCheck)
  /-- ADD (R108): The micro-operation ADD writes RA + RB to RD and sets Z, N and C. -/
  | uopAdd (n : Fin 16) (rd : Fin 16) (ra : Fin 16) (rb : Fin 16) (chk : EccCheck)
  /-- SUB (R108): The micro-operation SUB writes RA − RB to RD and sets Z, N and C. -/
  | uopSub (n : Fin 16) (rd : Fin 16) (ra : Fin 16) (rb : Fin 16) (chk : EccCheck)
  /-- AND (R108): The micro-operation AND writes RA and RB to RD. -/
  | uopAnd (n : Fin 16) (rd : Fin 16) (ra : Fin 16) (rb : Fin 16) (chk : EccCheck)
  /-- OR (R108): The micro-operation OR writes RA or RB to RD. -/
  | uopOr (n : Fin 16) (rd : Fin 16) (ra : Fin 16) (rb : Fin 16) (chk : EccCheck)
  /-- XOR (R108): The micro-operation XOR writes RA xor RB to RD. -/
  | uopXor (n : Fin 16) (rd : Fin 16) (ra : Fin 16) (rb : Fin 16) (chk : EccCheck)
  /-- SHL (R108): The micro-operation SHL shifts RA left by IMM14[4:0] into RD. -/
  | uopShl (n : Fin 16) (rd : Fin 16) (ra : Fin 16) (imm : BitVec 14) (chk : EccCheck)
  /-- SHR (R108): The micro-operation SHR shifts RA logically right by IMM14[4:0] into RD. -/
  | uopShr (n : Fin 16) (rd : Fin 16) (ra : Fin 16) (imm : BitVec 14) (chk : EccCheck)
  /-- ADDI (R108): The micro-operation ADDI adds the sign-extended IMM14 to RA into RD. -/
  | uopAddi (n : Fin 16) (rd : Fin 16) (ra : Fin 16) (imm : BitVec 14) (chk : EccCheck)
  /-- ORI (R108): The micro-operation ORI ors the zero-extended IMM14 with RA into RD. -/
  | uopOri (n : Fin 16) (rd : Fin 16) (ra : Fin 16) (imm : BitVec 14) (chk : EccCheck)
  /-- LUI (R108): The micro-operation LUI loads IMM16 shifted left by 16 into RD. -/
  | uopLui (n : Fin 16) (rd : Fin 16) (imm : BitVec 16) (chk : EccCheck)
  /-- MOVS (R108): The micro-operation MOVS copies a special register into RD. -/
  | uopMovs (n : Fin 16) (rd : Fin 16) (sel : BitVec 6) (chk : EccCheck)
  /-- MOVD (R108): The micro-operation MOVD writes RA to a special register. -/
  | uopMovd (n : Fin 16) (ra : Fin 16) (sel : BitVec 6) (chk : EccCheck)
  /-- LDP (R108): The micro-operation LDP loads a word of block data into RD; an address outside the block data is a UBOUNDS fault. -/
  | uopLdp (n : Fin 16) (rd : Fin 16) (ra : Fin 16) (imm : BitVec 14) (chk : EccCheck)
  /-- CRC4_STEP (R108): The micro-operation CRC with IMM14 = 0 performs one CRC-4 step over a nibble. -/
  | uopCrc4Step (n : Fin 16) (rd : Fin 16) (ra : Fin 16) (rb : Fin 16) (chk : EccCheck)
  /-- CRC6_STEP (R108): The micro-operation CRC with IMM14 = 1 performs one CRC-6 step over two bits. -/
  | uopCrc6Step (n : Fin 16) (rd : Fin 16) (ra : Fin 16) (rb : Fin 16) (chk : EccCheck)
  /-- BR (R109): The micro-operation BR branches to TARGET when BCOND holds. -/
  | uopBr (n : Fin 16) (cond : BitVec 4) (ra : Fin 16) (target : BitVec 15) (chk : EccCheck)
  /-- CALLU (R109): The micro-operation CALLU pushes the return address on the micro-call stack and jumps to TARGET. -/
  | uopCallu (n : Fin 16) (target : BitVec 15) (chk : EccCheck)
  /-- RETU (R109): The micro-operation RETU pops the micro-call stack and jumps to the popped address. -/
  | uopRetu (n : Fin 16) (chk : EccCheck)
  /-- TSTC (R108): The micro-operation TSTC waits for the decision point and sets Z from the instruction's COND. -/
  | uopTstc (n : Fin 16) (chk : EccCheck)
  /-- SEQOP (R108): The micro-operation SEQOP performs a flag operation that takes effect with the next EMITD's block. -/
  | uopSeqop (n : Fin 16) (ra : Fin 16) (imm : BitVec 14) (chk : EccCheck)
  /-- SIG_SIGNAL (R108): The micro-operation SIG with IMM14 0 performs a SIGNAL. -/
  | uopSigSignal (n : Fin 16) (ra : Fin 16) (chk : EccCheck)
  /-- SIG_MARK (R108): The micro-operation SIG with IMM14 1 performs a MARK. -/
  | uopSigMark (n : Fin 16) (ra : Fin 16) (chk : EccCheck)
  /-- SIG_CAPON (R108): The micro-operation SIG with IMM14 2 performs a CAPON. -/
  | uopSigCapon (n : Fin 16) (ra : Fin 16) (chk : EccCheck)
  /-- SIG_CAPOFF (R108): The micro-operation SIG with IMM14 3 performs a CAPOFF. -/
  | uopSigCapoff (n : Fin 16) (ra : Fin 16) (chk : EccCheck)
  /-- OVL (R118): The micro-operation OVL configures the kind and codes of an overlay slot. -/
  | uopOvl (n : Fin 16) (slot : Fin 16) (ra : Fin 16) (kind : BitVec 4) (code0 : BitVec 4) (code1 : BitVec 4) (codex : BitVec 4) (chk : EccCheck)
  /-- OPUSH (R119): The micro-operation OPUSH pushes RA into an overlay slot's queue, waiting while the queue is full. -/
  | uopOpush (n : Fin 16) (ra : Fin 16) (imm : BitVec 14) (chk : EccCheck)
  /-- EMITD (R114): The micro-operation EMITD transfers the built descriptor and overlay configuration, waiting while a queued descriptor has not started. -/
  | uopEmitd (n : Fin 16) (chk : EccCheck)
  /-- BOUND_NEXT (R113): The micro-operation BOUND NEXT ends the instruction; the abort and fault latches are checked and the next record is dispatched. -/
  | uopBoundNext (n : Fin 16) (chk : EccCheck)
  /-- BOUND_AGAIN (R113): The micro-operation BOUND AGAIN ends an iteration and jumps to the AGAIN routine. -/
  | uopBoundAgain (n : Fin 16) (chk : EccCheck)
  /-- STOP (R108): The micro-operation STOP stops the sequencer with the cause in IMM14. -/
  | uopStop (n : Fin 16) (cause : BitVec 4) (chk : EccCheck)
  /-- STK (R108): The vendor-only micro-operation STK transfers loop-stack and call-stack entries. -/
  | uopStk (n : Fin 16) (r : Fin 16) (sel : BitVec 6) (imm : BitVec 16) (chk : EccCheck)
  /-- MC_DRAIN (R123): A write of 1 to MC_DRAIN bit n drains SQn. -/
  | mcDrain (a : Agent) (n : Fin 16)
  /-- MC_RELEASE (R123): A write of 0 to MC_DRAIN bit n validates the open region and releases SQn, or leaves it drained with a failure result. -/
  | mcRelease (a : Agent) (n : Fin 16) (chk : EccCheck)
  /-- MC_RELOAD (R124): A write of MC_RELOAD bit n starts copying the master store into a drained SQn. -/
  | mcReload (a : Agent) (n : Fin 16)
  /-- MC_RELOAD_DONE (R124): The master-store copy completes: the MC_RELOAD bit clears and RELOADED is set. -/
  | mcReloadDone (n : Fin 16) (masterOk : Bool)
  /-- MC_PLOAD_DATA (R124): In BOOT, MGMT writes a patch word to every sequencer of SEQMASK and to the master store. -/
  | mcPloadData (a : Agent) (v : Word)
  /-- MC_PLOAD_FIN (R121): MGMT writes MC_PLOAD_FIN to set the patch state and the effective ABI. -/
  | mcPloadFin (a : Agent) (v : Word)
  /-- CYCLE_START (R139): A cycle of the gang starts: each evaluated pin's entry is read, its edges and strobes are enqueued, and window drops and undefined codes are handled. -/
  | cycleStart (n : Fin 16) (chk : EccCheck)
  /-- EDGE_PLACE (R147): An edge reaches its time on the time line and is placed, or dropped if it falls closer than the minimum spacing after the last edge placed on its line. -/
  | edgePlace (pin : Fin 256) (den : Bool)
  /-- STROBE_SAMPLE (R149): A strobe samples CMPH and CMPL at its time or over its window, and hands the result and sample on. -/
  | strobeSample (pin : Fin 256) (levels : List (Bool × Bool))
  /-- SB_FRAME_START (R165): A write of PE_SB_CMD starts a sideband frame, unless the bus is busy or taken by Constantan. -/
  | sbFrameStart (a : Agent) (n : Fin 16) (wr : Bool) (chip : Fin 16) (addr : BitVec 16)
  /-- SB_FRAME_END (R164): A sideband frame's response is checked; a bad response is repeated once, and a second bad response sets SB_FAIL. -/
  | sbFrameEnd (n : Fin 16) (crcOk : Bool) (data : BitVec 16)
  /-- PE_DIAG_START (R166): A write of PE_DIAG_CMD.START in DIAGNOSE starts a PAD or PE self-test. -/
  | peDiagStart (a : Agent) (n : Fin 16)
  /-- PE_DIAG_ABORT (R168): A self-test in progress ends at once with RESULT ABORTED. -/
  | peDiagAbort (a : Agent) (n : Fin 16)
  /-- PE_DIAG_END (R167): A self-test ends after its last test cycle, with RESULT PASS or FAIL. -/
  | peDiagEnd (n : Fin 16) (errs : List (BitVec 16 × BitVec 16))
  /-- PGR_ENABLE (R173): Setting PGR_CTRL.ENABLE allocates a SYSTEM frame and creates the level-1 page table. -/
  | pgrEnable (a : Agent)
  /-- PGR_MAP (R195): The map operation MAP writes LOC and STATE for COUNT pages, creating level-2 tables as needed. -/
  | pgrMap (a : Agent) (count : BitVec 16) (hold : Bool) (verify : Bool)
  /-- PGR_UNMAP (R195): The map operation UNMAP clears the pages and returns their resident frames. -/
  | pgrUnmap (a : Agent) (count : BitVec 16)
  /-- PGR_PRELOAD (R195): The map operation PRELOAD sets HELD and requests a fetch of each ABSENT page. -/
  | pgrPreload (a : Agent) (count : BitVec 16)
  /-- PGR_RELEASE (R195): The map operation RELEASE clears HELD. -/
  | pgrRelease (a : Agent) (count : BitVec 16)
  /-- PGR_REFETCH (R195): The map operation REFETCH returns FAILED pages to ABSENT. -/
  | pgrRefetch (a : Agent) (count : BitVec 16)
  /-- PGR_QUERY (R195): The map operation QUERY returns a page's STATE and LOC. -/
  | pgrQuery (a : Agent)
  /-- PGR_MAP_OP_DONE (R195): A map operation finishes its last page, or stops at a failing page, and BUSY clears. -/
  | pgrMapOpDone
  /-- WALKER_STEP (R184): The lookahead walker examines one record, requests its pages and lines, advances W and follows the predicted path. -/
  | walkerStep (n : Fin 16)
  /-- FETCH_FRAME_OBTAINED (R176): A fetch waiting for a frame obtains one and proceeds. -/
  | fetchFrameObtained (page : BitVec 21)
  /-- PAGE_FETCH_ARRIVAL (R177): A page fetch completes and is checked; it becomes RESIDENT, or is repeated once, or becomes FAILED. -/
  | pageFetchArrival (page : BitVec 21) (refused : Bool) (data : List Byte)
  /-- FETCH_TIMEOUT (R177): PGR_FETCH_TMO expires before the page has arrived, which fails the fetch attempt. -/
  | fetchTimeout (page : BitVec 21)
  /-- MULTICAST_PAGE_DELIVERY (R178): A multicast page delivery is accepted for an ABSENT or FETCHING page, or is discarded. -/
  | multicastPageDelivery (node : BitVec 10) (spage : BitVec 21) (page : BitVec 21) (data : List Byte)
  /-- LINE_FILL (R180): A cache line is filled from its page's DRAM frame, evicting a farther line when one qualifies. -/
  | lineFill (n : Fin 16) (line : BitVec 30) (chk : EccCheck)
  /-- PGR_SQ_HIST_CLEAR (R186): A write of PGR_SQ_HIST.CLEAR clears the sequencer's history table. -/
  | pgrSqHistClear (a : Agent) (n : Fin 16)
  /-- PGR_SQ_HSEED (R186): A write of PGR_SQ_HSEED_VAL inserts a history entry. -/
  | pgrSqHseed (a : Agent) (n : Fin 16) (taken : Bool) (reps : BitVec 24)
  /-- VC_SQ_CFG (R179): A write of VC_SQ_CFG assigns slices and pin lines to a sequencer and discards its lines. -/
  | vcSqCfg (a : Agent) (n : Fin 16) (pinLines : BitVec 14) (slices : BitVec 5)
  /-- CAP_P_RELEASE (R201): A write of CAP_P_STAT.RELEASE returns an IDLE partition's retained regions to the pool. -/
  | capPRelease (a : Agent) (u : Fin 8) (k : Fin 64)
  /-- CAP_P_FLOG_RD (R209): A write of CAP_P_FLOG_RD consumes fail-log records up to RD. -/
  | capPFlogRd (a : Agent) (u : Fin 8) (k : Fin 64) (v : Word)
  /-- CAPTURE_CYCLE_PROCESS (R203): A capture unit processes a released cycle: it updates verdicts and counters, writes records, and runs the trigger sequencer. -/
  | captureCycleProcess (u : Fin 8)
  /-- AUTO_TRIGGER_TIMEOUT (R220): The auto timer reaches TRG_AUTO without a trigger, and a forced trigger is taken. -/
  | autoTriggerTimeout (u : Fin 8)
  /-- REARM_END (R221): The 64 DCLK of re-arm expire, and the next segment starts in PRE. -/
  | rearmEnd (u : Fin 8)
  /-- TRG_TIMER_EXPIRE (R218): A trigger-sequencer timer reaches TRG_TM_LIM and reads as expired. -/
  | trgTimerExpire (u : Fin 8) (k : Fin 4)
  /-- TU_ARM (R229): A write of TU_CTRL.ARM clears the unit's stamps and arms it from the arm point. -/
  | tuArm (a : Agent) (u : Fin 64)
  /-- TU_DISARM (R230): A write of TU_CTRL.DISARM ends an ARMED unit as DONE with CANCEL set. -/
  | tuDisarm (a : Agent) (u : Fin 64)
  /-- TU_EN_WRITE (R236): A write of TU_CTRL.EN enables the unit, or disables it, ending an ARMED measurement as a disarm. -/
  | tuEnWrite (a : Agent) (u : Fin 64) (en : Bool)
  /-- FRONT_END_EDGE (R224): A qualifying edge passes a source's front end and launches stamps in the waiting interpolators, subject to re-arm. -/
  | frontEndEdge (src : BitVec 10) (page : Fin 8) (rise : Bool) (sub : Fin 4) (fine : Fin 192) (fines : List (Fin 128 × Fin 192))
  /-- TU_TIMEOUT (R230): TU_TMO expires on an ARMED unit, which ends DONE with the missing stamps flagged. -/
  | tuTimeout (u : Fin 64)
  /-- DEC_OUTPUT_SAMPLE (R241): A decimation channel forms an output sample, suppressing it while settling or delivering it to its detectors, limits and queue. -/
  | decOutputSample (ch : Fin 32) (us : List Word) (chk : EccCheck)
  /-- DEC_EN (R244): A write of DEC_CH_CTRL.EN enables the channel with a restart, or stops it. -/
  | decEn (a : Agent) (ch : Fin 32) (en : Bool)
  /-- DEC_RESTART (R244): A write of DEC_CH_CTRL.RESTART restarts the channel at the next output-sample boundary. -/
  | decRestart (a : Agent) (ch : Fin 32)
  /-- CLOCK_LOSS_TIMEOUT (R245): 2,000 DCLK pass with no modulator clock edge, and the page's enabled channels enter NO_CLOCK. -/
  | clockLossTimeout (n : Fin 4)
  /-- MOD_CLOCK_RESUME (R245): The first modulator clock edge after NO_CLOCK restarts every enabled channel of the page. -/
  | modClockResume (n : Fin 4)
  /-- FREQ_MEASURE_INTERVAL (R246): A 25.6 µs measurement interval ends, updating FREQ_KHZ and the overclock state. -/
  | freqMeasureInterval (n : Fin 4) (edges : BitVec 12)
  /-- DEC_SWAP_REQUEST (R250): A write of DEC_CH_SWAP places a bank swap request in the pending slot. -/
  | decSwapRequest (a : Agent) (ch : Fin 32) (target : Bool) (xfade : BitVec 12)
  /-- COEF_BANK_WRITE (R249): A write to a coefficient bank not in use takes effect at once; a write to the bank in use is rejected. -/
  | coefBankWrite (a : Agent) (ch : Fin 32) (bank : Bool) (word : Fin 1024) (v : Word)
  /-- SYN_START (R268): A write of SYN_CTRL.START arms the synthesis channel for its start source. -/
  | synStart (a : Agent) (n : Fin 16)
  /-- SYN_START_INSTANT (R268): The selected start instant arrives: ACC is cleared, FIRST_SEG is entered and the first sample is formed. -/
  | synStartInstant (n : Fin 16) (chk : EccCheck)
  /-- SYN_SAMPLE_BOUNDARY (R258): At a channel's sample boundary, it applies any commit, ends or jumps visits, takes list values and forms a sample. -/
  | synSampleBoundary (n : Fin 16) (chk : EccCheck)
  /-- SYN_DRV_EDGE (R271): An EDGE-mode channel places a DRV edge at a change of θ[47], and completes a graceful stop at its edge to 0. -/
  | synDrvEdge (n : Fin 16)
  /-- SYN_STOP (R269): A write of SYN_CTRL.STOP requests a graceful stop at the next boundary. -/
  | synStop (a : Agent) (n : Fin 16)
  /-- SYN_EN_CLEAR (R269): Writing SYN_CTRL.EN to 0 stops the channel immediately, with its outputs returned to idle. -/
  | synEnClear (a : Agent) (n : Fin 16)
  /-- SYN_JUMP (R265): A write of SYN_JUMP places a jump request in the pending slot. -/
  | synJump (a : Agent) (n : Fin 16) (target : Byte) (atEnd : Bool)
  /-- HART_ENABLE (R279): Writing a hart's xx_CTRL.ENABLE to 1 starts it in machine mode at HART_BOOT. -/
  | hartEnable (a : Agent) (h : Fin 8)
  /-- HART_INSTRUCTION (R274): A hart executes an instruction of its RV64IMAC profile. -/
  | hartInstruction (h : Fin 8) (env : HartEnv)
  /-- HART_WINDOW_ACCESS (R276): A hart load or store to the register window is sent as 32-bit accesses, or split, or faults. -/
  | hartWindowAccess (h : Fin 8) (store : Bool) (size : Fin 4) (off : BitVec 26) (v : BitVec 64)
  /-- FENCE_I (R280): FENCE.I makes a hart's instruction fetch see its earlier stores. -/
  | fenceI (h : Fin 8)
  /-- CBO_CLEAN (R282): cbo.clean writes a dirty 64-byte block back to DRAM. -/
  | cboClean (h : Fin 8) (rs1 : Fin 32)
  /-- CBO_FLUSH (R282): cbo.flush writes a 64-byte block back to DRAM and invalidates it. -/
  | cboFlush (h : Fin 8) (rs1 : Fin 32)
  /-- CBO_INVAL (R283): cbo.inval discards a 64-byte block from the caches. -/
  | cboInval (h : Fin 8) (rs1 : Fin 32)
  /-- HART_NMI (R277): An NMI from Monel is taken by the hart at HART_NMI, whatever mstatus.MIE holds. -/
  | hartNmi (h : Fin 8)
  /-- HART_INTERRUPT (R277): An enabled machine interrupt (MSIP, MTIP, MEIP or SCHED) is taken by the hart. -/
  | hartInterrupt (h : Fin 8)
  /-- HART_SCHED_WAIT (R293): The port command WAIT puts the hart's thread in WAITING and dispatches for the hart. -/
  | hartSchedWait (a : Agent) (h : Fin 8)
  /-- HART_SCHED_YIELD (R293): The port command YIELD makes the hart's thread READY, last among its priority, and dispatches. -/
  | hartSchedYield (a : Agent) (h : Fin 8)
  /-- HART_SCHED_END (R293): The port command END makes the hart's thread IDLE and dispatches. -/
  | hartSchedEnd (a : Agent) (h : Fin 8)
  /-- HART_SCHED_NEXT (R293): The port command NEXT asks for a thread for a free hart. -/
  | hartSchedNext (a : Agent) (h : Fin 8)
  /-- HART_SCHED_PREEMPTED (R293): The port command PREEMPTED makes the hart's thread READY, first among its priority, and dispatches. -/
  | hartSchedPreempted (a : Agent) (h : Fin 8)
  /-- SCHED_ARM (R286): The SCHED_CMD ARM sets a task's mask, mode and priority and moves it to WAITING or READY. -/
  | schedArm (a : Agent) (k : TaskKind) (id : Fin 1024)
  /-- SCHED_CANCEL (R290): The SCHED_CMD CANCEL moves a WAITING or READY task to IDLE and clears its flags. -/
  | schedCancel (a : Agent) (k : TaskKind) (id : Fin 1024) (race : Option (Fin 32))
  /-- SCHED_SETFLAG (R287): The SCHED_CMD SETFLAG sets a named flag of a named task. -/
  | schedSetflag (a : Agent) (k : TaskKind) (id : Fin 1024) (f : Fin 32)
  /-- SCHED_CLRFLAG (R287): The SCHED_CMD CLRFLAG clears a named flag of a named task. -/
  | schedClrflag (a : Agent) (k : TaskKind) (id : Fin 1024) (f : Fin 32)
  /-- THREAD_WAIT_TIMEOUT (R294): A WAITING thread's deadline passes, and it becomes READY with TIMEDOUT. -/
  | threadWaitTimeout (t : Fin 256)
  /-- NODE_DISPATCH (R296): A free execution unit takes the highest-priority READY node and reads its descriptor. -/
  | nodeDispatch
  /-- NODE_COMPLETE (R303): A node completes with a status: on OK it sets its successors' flags, otherwise the error route; it then re-arms or goes to IDLE. -/
  | nodeComplete (u : Fin 8) (fail : Option (Bool × Nat))
  /-- TRACE_ENABLE (R305): Setting TRACE_CTRL.S_EN or P_EN allocates the stream's ring. -/
  | traceEnable (a : Agent) (pattern : Bool)
  /-- HART_CNT_CLR (R308): A write of HART_CNT_CLR clears the BUSY, WAIT and DEPTH counters. -/
  | hartCntClr (a : Agent) (h : Fin 8)
  /-- HIC_SWI (R314): A write of HIC_SWI sends a pulse to each named software interrupt source. -/
  | hicSwi (a : Agent) (bits : BitVec 16)
  /-- HIC_CLAIM (R318): A read of HIC_T_CLAIM by the target claims the highest deliverable source and pushes it on the nesting stack. -/
  | hicClaim (a : Agent) (t : Fin 10)
  /-- HIC_COMPLETE (R319): A write of HIC_T_COMPLETE pops the nesting stack when it names the top source. -/
  | hicComplete (a : Agent) (t : Fin 10) (src : BitVec 9)
  /-- MSIX_ISSUE (R322): A host source becomes deliverable and unmasked, and the MSI-X message for its vector is issued. -/
  | msixIssue (v : BitVec 8)
  /-- HOLDOFF_EXPIRE (R321): A target's moderation hold-off expires, and its notification may be asserted again. -/
  | holdoffExpire (t : Fin 10)
  /-- FAULT_TAKE (R324): Monel takes a fault: it escalates, logs and records it, and starts its reactions. -/
  | faultTake
  /-- CHIP_RESET_DELAY_EXPIRE (R324): The CHIPRST_DLY_US delay of a CHIP_RESET reaction expires, and the device enters COLD. -/
  | chipResetDelayExpire
  /-- FLT_ACK (R325): A write of FLT_ACK acknowledges a source and sets OPEN(s) to 0. -/
  | fltAck (a : Agent) (src : BitVec 8)
  /-- FENCE_END (R328): A reset fence ends 16 clocks of the page's domain after IN_RESET fell. -/
  | fenceEnd (page : Fin 115)
  /-- FLT_KICK (R330): A write of FLT_KICK with the kick key kicks the heartbeat, and the first kick starts ALIVE toggling. -/
  | fltKick (a : Agent) (key : BitVec 16)
  /-- KICK_MISSED (R330): The kick window passes without a kick, which raises MGMT_WDOG and stops ALIVE. -/
  | kickMissed
  /-- ALIVE_TOGGLE (R330): ALIVE toggles every HALF_US, or from the always-on clock in DOZE and HIBERNATE. -/
  | aliveToggle
  /-- FLT_ERRN_RELEASE (R331): A write of FLT_ERRN.RELEASE clears ASSERTED and releases ERR_N, except in QUARANTINE. -/
  | fltErrnRelease (a : Agent)
  /-- FLT_DEV_INJ (R323): A write of FLT_DEV_INJ raises a device source as an injected fault. -/
  | fltDevInj (a : Agent) (src : BitVec 8)
  /-- FLT_LOG_RD (R327): A write of FLT_LOG_RD consumes fault-log entries. -/
  | fltLogRd (a : Agent) (v : Word)
  /-- TS1 (R338): A TS1 ordered set is received, which moves a DOWN port to ALIGN and builds symbol lock and lane numbering. -/
  | osTs1 (f : Fin 6) (lane : Fin 4) (num : Fin 4) (slock : Bool) (offFreq : Bool)
  /-- TS2 (R338): A TS2 ordered set is received, from which the link width is chosen. -/
  | osTs2 (f : Fin 6) (lane : Fin 4) (num : Fin 4) (peer : BitVec 4)
  /-- EQR (R337): An EQR request is received, and the transmitter applies the nearest legal taps and answers with EQA. -/
  | osEqr (f : Fin 6) (lane : Fin 4) (pre : Byte) (post : Byte)
  /-- EQA (R337): An EQA answer is received, giving the taps that the partner applied. -/
  | osEqa (f : Fin 6) (lane : Fin 4) (pre : Byte) (post : Byte) (more : Option (Fin 9 × Fin 17))
  /-- EQD (R337): An EQD ordered set is received, ending equalisation of the lane. -/
  | osEqd (f : Fin 6) (lane : Fin 4)
  /-- EIOS (R339): An EIOS is received, and the partner's transmit direction enters electrical idle. -/
  | osEios (f : Fin 6)
  /-- FTS (R339): FTS ordered sets are received on the fast exit from electrical idle. -/
  | osFts (f : Fin 6)
  /-- TSX (R364): A TSX ordered set is stamped at departure or arrival for a time exchange. -/
  | osTsx (f : Fin 6) (num : Byte)
  /-- LBK (R340): An LBK ordered set is received, asking the port to enter or leave far-end loopback. -/
  | osLbk (f : Fin 6) (enter : Bool)
  /-- QUAR (R335): A QUAR ordered set is received: the partner is quarantined, and the port goes DOWN with cause PEER_QUAR. -/
  | osQuar (f : Fin 6)
  /-- SLEEP (R335): A SLEEP ordered set is received, and the port goes DOWN with cause PEER_SLEEP. -/
  | osSleep (f : Fin 6)
  /-- TS1_BEACON (R338): In DOWN, a port's transmitters send TS1 every 100 ms. -/
  | ts1Beacon (f : Fin 6)
  /-- TRAIN_LIMIT_EXPIRE (R338): A training state's time limit expires, and the port returns to DOWN with cause TRAIN_TIMEOUT. -/
  | trainLimitExpire (f : Fin 6)
  /-- ACK (R344): An ACK link control word is received, and the packets it covers leave the replay buffer. -/
  | lcwAck (f : Fin 6) (seq : BitVec 12)
  /-- NAK (R344): A NAK is received: the transmitter resends from the oldest unacknowledged packet, or handles a lasting failure. -/
  | lcwNak (f : Fin 6) (seq : BitVec 12) (mask : BitVec 4)
  /-- CREDIT (R343): A CREDIT link control word returns buffer credits for a class. -/
  | lcwCredit (f : Fin 6) (page : Bool) (n : Byte)
  /-- LINK_IDLE (R341): An IDLE filler link control word is received. -/
  | linkIdle (f : Fin 6)
  /-- BAD_PACKET (R344): A packet that fails its checks, or arrives out of sequence, is discarded and NAKed. -/
  | badPacket (f : Fin 6) (seq : BitVec 12) (mask : BitVec 4)
  /-- LINK_REPLAY_TIMEOUT (R344): REPLAY_NS passes without an ACK, and the transmitter resends. -/
  | linkReplayTimeout (f : Fin 6)
  /-- BURST_TIMEOUT (R345): BURST_FC fabric clocks pass within an open packet, and the partial packet is discarded. -/
  | burstTimeout (f : Fin 6)
  /-- ELECTRICAL_IDLE_ENTER (R339): Nothing has been queued for IDLE_US, and the transmit direction sends EIOS and idles. -/
  | electricalIdleEnter (f : Fin 6)
  /-- IDLE_EXIT_TIMEOUT (R339): No valid link word arrives within 1 µs of an idle exit, which is a lasting failure. -/
  | idleExitTimeout (f : Fin 6)
  /-- FP_LB_WRITE (R340): A write of FP_LB selects a loopback mode on an offline port, or leaves loopback. -/
  | fpLbWrite (a : Agent) (f : Fin 6) (v : Word)
  /-- FE_LB_TIMEOUT (R340): The partner does not return the LBK within 100 µs, and FE_REFUSED is set. -/
  | feLbTimeout (f : Fin 6)
  /-- FP_RETRAIN (R338): A write of FP_CMD.RETRAIN retrains the port with all LANES_EN. -/
  | fpRetrain (a : Agent) (f : Fin 6)
  /-- LINKINFO (R349): A LINKINFO packet is received, carrying the neighbour's identity, election view and hop weight. -/
  | pktLinkinfo (f : Fin 6) (seq : BitVec 12) (info : LinkInfo)
  /-- ROUTE (R352): A ROUTE vector is received, and the route table is recomputed. -/
  | pktRoute (f : Fin 6) (seq : BitVec 12) (root : Bool) (tree : Bool) (vec : List RouteEntry)
  /-- JOIN (R353): A JOIN packet is received, updating group trees, counts, diameters and DET. -/
  | pktJoin (f : Fin 6) (seq : BitVec 12) (l : List JoinEntry)
  /-- TSYNC (R364): A TSYNC packet completes a time exchange, giving the channel delay and an offset for the servo. -/
  | pktTsync (f : Fin 6) (seq : BitVec 12) (t2 : BitVec 64) (t3 : BitVec 64)
  /-- ASSIGN (R351): An ASSIGN request or grant is received and is forwarded toward the root or applied. -/
  | pktAssign (f : Fin 6) (seq : BitVec 12) (m : AssignMsg)
  /-- RREQ (R354): An RREQ is executed as a fabric-agent register access, and it is answered with RRSP. -/
  | pktRreq (f : Fin 6) (seq : BitVec 12) (hd : PktHead) (r : RegReq)
  /-- RRSP (R354): An RRSP answers the outstanding register message, with its result. -/
  | pktRrsp (f : Fin 6) (seq : BitVec 12) (hd : PktHead) (r : RegRsp)
  /-- UNREACH (R352): An UNREACH packet reports a packet dropped for lack of a route. -/
  | pktUnreach (f : Fin 6) (seq : BitVec 12) (hd : PktHead) (lost : BitVec 10)
  /-- PREQ (R355): A store node takes a page request, and queues a delivery or answers with PNAK. -/
  | pktPreq (f : Fin 6) (seq : BitVec 12) (hd : PktHead) (spage : BitVec 21) (grp : Byte) (mc : Bool)
  /-- PBREQ (R355): A store node takes a batch request for up to 16 consecutive pages. -/
  | pktPbreq (f : Fin 6) (seq : BitVec 12) (hd : PktHead) (spage : BitVec 21) (grp : Byte) (mc : Bool) (count : Fin 16)
  /-- PDATA (R356): A page data packet of a delivery is received. -/
  | pktPdata (f : Fin 6) (seq : BitVec 12) (hd : PktHead) (spage : BitVec 21) (index : Fin 4096) (last : Bool) (data : List Byte)
  /-- PREP (R357): A compressed repeated-word page packet is received, and is expanded where needed. -/
  | pktPrep (f : Fin 6) (seq : BitVec 12) (hd : PktHead) (spage : BitVec 21) (index : Fin 4096) (last : Bool) (word : List Byte)
  /-- PNAK (R355): A PNAK refuses a page request, and the pager takes it as a refusal. -/
  | pktPnak (f : Fin 6) (seq : BitVec 12) (hd : PktHead) (spage : BitVec 21) (cause : BitVec 4)
  /-- PAGE_DELIVERY_SEND (R355): A store node sends the next packet of a delivery in progress, interleaving up to 8 deliveries. -/
  | pageDeliverySend
  /-- ELECTION_SETTLE (R350): 100 µs pass without a change of root, and NSTATE passes from ELECT to ASSIGN. -/
  | electionSettle
  /-- ASSIGN_COLLECT_END (R351): The root's 200 µs collection ends, and it grants addresses in order. -/
  | assignCollectEnd
  /-- FAB_RM_READ (R354): The FAB_RM_CMD read operation sends a register read message. -/
  | fabRmRead (a : Agent) (count : BitVec 5)
  /-- FAB_RM_WRITE (R354): The FAB_RM_CMD write operation sends a register write message. -/
  | fabRmWrite (a : Agent) (count : BitVec 5)
  /-- FAB_RM_TIMEOUT (R354): FAB_RM_TMO passes without an answer, and the request ends with TIMEOUT. -/
  | fabRmTimeout
  /-- FAB_SPAN_ENABLE (R358): A write setting FAB_SPAN_CFG.EN binds the gang to a span slot after its checks. -/
  | fabSpanEnable (a : Agent) (k : Fin 16) (v : Word)
  /-- FAB_SPAN_GO (R359): On the leader, a write of FAB_SPAN_GO.SYNC sends CSYNC with start time T. -/
  | fabSpanGo (a : Agent) (k : Fin 16)
  /-- CSYNC (R359): A CSYNC message is received by a member, carrying the start time T. -/
  | csync (f : Fin 6) (d : DetHead) (t : BitVec 64)
  /-- CSYNC_START (R359): Time T arrives, and each member with an armed partition starts its gang, or ends the slot with SYNC_LATE or NOT_ARMED. -/
  | csyncStart (k : Fin 16)
  /-- COND_SEND (R360): At the block's reference time plus its lead contribution, a member sends COND for the block. -/
  | condSend (k : Fin 16)
  /-- DET_COND (R360): A COND message is received and held for release at the reference time plus LEAD_NS. -/
  | detCond (f : Fin 6) (d : DetHead) (body : BitVec 64) (matchRep : Bool)
  /-- DET_STALL (R194): A STALL notice is received from a member that stalled. -/
  | detStall (f : Fin 6) (d : DetHead) (cycle : Word)
  /-- DET_PAUSE (R362): A PAUSE notice is received for the running span. -/
  | detPause (f : Fin 6) (d : DetHead) (cycle : Word)
  /-- DET_RESUME (R362): A RESUME notice is received for the running span. -/
  | detResume (f : Fin 6) (d : DetHead) (cycle : Word)
  /-- DET_ABORT (R362): An ABORT notice is received for the running span. -/
  | detAbort (f : Fin 6) (d : DetHead) (cycle : Word)
  /-- DET_FAULT (R362): A FAULT notice is received from a member whose gang stopped on a contained fault. -/
  | detFault (f : Fin 6) (d : DetHead) (cycle : Word)
  /-- DET_TRIG (R363): A TRIG message is received, carrying a fabric trigger's release time. -/
  | detTrig (f : Fin 6) (d : DetHead) (k : Fin 8) (t : BitVec 64)
  /-- DET_SYNC_LATE (R359): A SYNC_LATE message reports that a member did not start. -/
  | detSyncLate (f : Fin 6) (d : DetHead)
  /-- SPAN_NOTICE_APPLY (R362): A released span notice is applied at the end of its block or pause unit, in priority order. -/
  | spanNoticeApply (k : Fin 16)
  /-- FAB_TRIG_SEND (R363): A write of FAB_TRIG_SEND sends a fabric trigger with its release time. -/
  | fabTrigSend (a : Agent) (bits : Byte)
  /-- FABRIC_TRIG_RAISE (R363): Release time T arrives, and fabric trigger k is raised on each member. -/
  | fabricTrigRaise (k : Fin 8)
  /-- TIME_EXCHANGE (R364): Every 1 ms on each ACTIVE link, the ends start a four-stamp time exchange. -/
  | timeExchange (p : Fin 6)
  /-- EXCHANGE_TIMEOUT (R372): An exchange's stamps are not complete within 100 µs, and it is counted as an outlier. -/
  | exchangeTimeout (p : Fin 6)
  /-- HOLDOVER_TIMEOUT (R374): No exchange is accepted for 5 ms while a source exists, and the servo enters HOLDOVER. -/
  | holdoverTimeout
  /-- TIME_SET (R376): A write of TIME_CMD.SET makes the counter equal TIME_SET at the next DCLK edge. -/
  | timeSet (a : Agent)
  /-- TRIM_SLEW_STEP (R378): The phase trim moves toward its target by at most TRIM_SLEW ps per ms. -/
  | trimSlewStep
  /-- PG_ENABLE (R383): Setting PG_CFG.EN arms a pulse generator, with due pulses fired late or skipped. -/
  | pgEnable (a : Agent) (k : Fin 4)
  /-- PULSE_FIRE (R382): A pulse generator's pulse is due at the current DCLK edge and fires. -/
  | pulseFire (k : Fin 4)
  /-- TIME_ES_HEAD_READ (R384): A read of TIME_ES_HEAD_LO removes the oldest event-stamp entry and latches the rest of it. -/
  | timeEsHeadRead (a : Agent)
  /-- DRAM_READ (R389): A DRAM read is checked: correctable errors are corrected, and an uncorrectable error is re-read, then delivered corrected or poisoned. -/
  | dramRead (addr : BitVec 40) (r : Requester) (chk : ReadCheck) (act : Option Activate)
  /-- DRAM_WRITE (R393): A DRAM write is served in burst order; a write to a FAULTED channel fails lasting. -/
  | dramWrite (addr : BitVec 40) (r : Requester) (data : List Byte) (act : Option Activate)
  /-- SCRUB_READ (R391): A scheduled scrub read checks a burst and writes back corrected data. -/
  | scrubRead (n : Fin 8) (addr : BitVec 40) (chk : ReadCheck) (last : Bool)
  /-- CA_PARITY_ALERT (R394): ALERT_n reports a CA parity error, and the subchannel replays its retry buffer. -/
  | caParityAlert (n : Fin 8) (o : AlertOutcome)
  /-- CA_REPLAY_TIMEOUT (R394): ALERT_n is still asserted after 2 µs, which is lasting, and the channel enters FAULTED. -/
  | caReplayTimeout (n : Fin 8)
  /-- IDLE_SELF_REFRESH_ENTER (R396): IDLE_US passes with no request, and the channel enters idle self-refresh. -/
  | idleSelfRefreshEnter (n : Fin 8)
  /-- RH_THROTTLE_END (R397): HOLD_US passes, and the throttle on the offending requester ends. -/
  | rhThrottleEnd (n : Fin 8)
  /-- RH_WINDOW_END (R397): A 32 ms refresh window ends, and every row-hammer tracker clears. -/
  | rhWindowEnd (n : Fin 8)
  /-- DRAM_INIT (R398): Setting ENABLE after DRAM_GEOM runs the component reset and initialisation, entering TRAINING. -/
  | dramInit (a : Agent) (n : Fin 8)
  /-- CS_SWEEP (R398): The training operation CS_SWEEP sweeps the chip-select delay of each rank. -/
  | dramTrnCsSweep (a : Agent) (n : Fin 8) (rank : Bool) (sub : Bool)
  /-- CA_SWEEP (R398): The training operation CA_SWEEP sweeps the delay of each CA lane. -/
  | dramTrnCaSweep (a : Agent) (n : Fin 8) (rank : Bool) (sub : Bool)
  /-- MRW (R398): The training operation MRW writes a component mode register. -/
  | dramTrnMrw (a : Agent) (n : Fin 8) (rank : Bool) (sub : Bool)
  /-- MRR (R398): The training operation MRR reads a component mode register. -/
  | dramTrnMrr (a : Agent) (n : Fin 8) (rank : Bool) (sub : Bool)
  /-- WLEVEL (R398): The training operation WLEVEL performs write levelling. -/
  | dramTrnWlevel (a : Agent) (n : Fin 8) (rank : Bool) (sub : Bool)
  /-- RD_SWEEP (R398): The training operation RD_SWEEP trains the read gate and the read delays. -/
  | dramTrnRdSweep (a : Agent) (n : Fin 8) (rank : Bool) (sub : Bool)
  /-- WR_SWEEP (R398): The training operation WR_SWEEP trains the write delays and VrefDQ. -/
  | dramTrnWrSweep (a : Agent) (n : Fin 8) (rank : Bool) (sub : Bool)
  /-- APPLY (R398): The training operation APPLY puts every chosen delay setting in force at once. -/
  | dramTrnApply (a : Agent) (n : Fin 8) (rank : Bool) (sub : Bool)
  /-- VERIFY (R398): The training operation VERIFY writes and reads PRBS23 data, and the channel becomes READY with no error. -/
  | dramTrnVerify (a : Agent) (n : Fin 8) (rank : Bool) (sub : Bool)
  /-- DRAM_RESUME (R399): The training operation RESUME exits self-refresh with the retained settings and verifies them. -/
  | dramResume (a : Agent) (n : Fin 8) (rank : Bool) (sub : Bool)
  /-- RVERIFY (R399): The training operation RVERIFY reads the training pattern on every lane without touching the array. -/
  | dramTrnRverify (a : Agent) (n : Fin 8) (rank : Bool) (sub : Bool)
  /-- DRAM_TRN_DONE (R398): A training operation ends with its RESULT, and TRN_DONE is set. -/
  | dramTrnDone (n : Fin 8) (passed : Bool) (windows : List (BitVec 7 × Word)) (errs : List (BitVec 7 × Word))
  /-- DRAM_TRN_TIMEOUT (R398): A training step exceeds 50 ms, and the channel fails training. -/
  | dramTrnTimeout (n : Fin 8)
  /-- ALLOC_MAP (R407): MGMT writes ALLOC_MAP once in TRAIN, which fixes the interleave and validates the map. -/
  | allocMap (a : Agent) (w : BitVec 2) (chmask : BitVec 8)
  /-- FRAME_ALLOC (R403): The ALLOC_CMD operation ALLOC allocates frames to the HART, DMA or PATTERN pool. -/
  | frameAlloc (a : Agent) (pool : BitVec 3) (count : BitVec 18)
  /-- FRAME_FREE (R403): The ALLOC_CMD operation FREE frees a range of frames, all or none. -/
  | frameFree (a : Agent) (pool : BitVec 3) (count : BitVec 18)
  /-- FRAME_RETIRE (R404): The ALLOC_CMD operation RETIRE retires a frame. -/
  | frameRetire (a : Agent)
  /-- FRAME_QUERY (R403): The ALLOC_CMD operation QUERY returns a frame's state, pool and owner. -/
  | frameQuery (a : Agent)
  /-- ALLOC_SERVE (R402): At an MCLK edge, the allocator serves every pending request: frees, retirements, hardware allocations, then ALLOC_CMD. -/
  | allocServe
  /-- DMA_START (R410): A START of a DMA channel runs the start checks and begins the transfer, or ends it at once. -/
  | dmaStart (a : Agent) (ch : Fin 32) (v : BitVec 5)
  /-- DMA_ABORT (R412): A write of DMA_CH_CTRL.ABORT stops the issue of reads, and the transfer ends ABORTED. -/
  | dmaAbort (a : Agent) (ch : Fin 32)
  /-- DMA_DONE (R416): Every write of a transfer, and its CRC store, has been accepted, and DONE is set. -/
  | dmaDone (ch : Fin 32) (data : List Byte) (fail : Option (Nat × DmaError))
  /-- DMA_QUEUE_WAIT_END (R411): A waiting channel finds a complete item, or room to reserve one, and resumes. -/
  | dmaQueueWaitEnd (ch : Fin 32)
  /-- DMA_QUEUE_TIMEOUT (R411): A queue wait lasts DMA_CH_TMO.US, and the transfer ends TIMEOUT. -/
  | dmaQueueTimeout (ch : Fin 32)
  /-- FQ_ENABLE (R417): A write of FQ_Q_CFG.EN gives a queue its pool words, or disables it, discarding its contents. -/
  | fqEnable (a : Agent) (k : Fin 32) (v : Word)
  /-- FQ_PUSH (R419): A write of FQ_Q_PUSH_HI after its LO half pushes one word, opening or continuing an item. -/
  | fqPush (a : Agent) (k : Fin 32) (hi : Word)
  /-- FQ_POP (R421): A read of FQ_Q_POP_LO takes the oldest word of a complete item, or reports an underrun. -/
  | fqPop (a : Agent) (k : Fin 32) (chk : EccCheck)
  /-- FQ_FLUSH (R423): A write of FQ_Q_CTRL.FLUSH discards the queue's items and records the words of an open item to be dropped. -/
  | fqFlush (a : Agent) (k : Fin 32)
  /-- HOST_LINK_RESET (R428): HL_PERST_N, a hot reset, or the link going down resets the host link, the HQ page and the HIF agreement. -/
  | hostLinkReset
  /-- PCIE_CONFIG_REQUEST (R427): A PCI Express configuration request is answered, with retry status until CFG_READY. -/
  | pcieConfigRequest (req : CfgRequest)
  /-- BAR2_READ (R434): A BAR2 read reaches DRAM through its segment, or completes with Completer Abort. -/
  | bar2Read (off : BitVec 36) (len : Fin 4097) (chk : ReadCheck)
  /-- BAR2_WRITE (R434): A BAR2 write reaches DRAM through its segment, or is dropped and counted. -/
  | bar2Write (off : BitVec 36) (data : List Byte) (poisoned : Bool)
  /-- HIF_OFFER (R438): A write of HOST_HIF_OFFER negotiates the HIF version. -/
  | hifOffer (a : Agent) (v : Word)
  /-- SQ_TAIL_DOORBELL (R439): A write of HQ_SQ_TAIL submits commands. -/
  | sqTailDoorbell (a : Agent) (q : Fin 16) (v : Word)
  /-- CQ_HEAD_DOORBELL (R439): A write of HQ_CQ_HEAD frees completion entries. -/
  | cqHeadDoorbell (a : Agent) (q : Fin 16) (v : Word)
  /-- COMMAND_FETCH (R443): A queue reserves a CQ entry and fetches its next command, posting FETCH_ERR if the fetch fails. -/
  | commandFetch (q : Fin 16) (cmd : Option (BitVec 512))
  /-- HQ_NOP (R441): The NOP command does nothing. -/
  | hqNop (q : Fin 16)
  /-- REG_WRITE (R441): The REG_WRITE command writes up to 6 registers as agent host, stopping at the first rejection. -/
  | hqRegWrite (q : Fin 16)
  /-- REG_READ (R441): The REG_READ command reads consecutive registers and writes them to host memory. -/
  | hqRegRead (q : Fin 16)
  /-- XFER (R441): The XFER command programs and starts the queue's DMA channel and waits for its end. -/
  | hqXfer (q : Fin 16)
  /-- FW (R444): The FW command is placed in the firmware ring, or waits for room. -/
  | hqFw (q : Fin 16)
  /-- BAD_OPCODE (R441): A command with an unknown opcode completes with BAD_OPCODE. -/
  | hqBadOpcode (q : Fin 16)
  /-- COMPLETION_POST (R442): A command's completion entry is posted to the CQ with the current phase. -/
  | completionPost (q : Fin 16)
  /-- FW_CPL (R444): A write of HQ_FW_CPL_HI after its LO half posts the completion of an outstanding FW command. -/
  | fwCpl (a : Agent) (hi : Word)
  /-- HQ_QUEUE_ENABLE (R447): Setting HQ_Q_CFG.EN enables a queue pair, once HIF has been agreed. -/
  | hqQueueEnable (a : Agent) (q : Fin 16) (v : Word)
  /-- HQ_QUEUE_DISABLE (R445): Writing EN = 0 stops a queue: the command in execution finishes and the rest are discarded. -/
  | hqQueueDisable (a : Agent) (q : Fin 16)
  /-- RP_CFG_RD (R446): The root-port command CFG_RD reads the downstream configuration space. -/
  | rpCfgRd (a : Agent) (be : BitVec 4)
  /-- RP_CFG_WR (R446): The root-port command CFG_WR writes the downstream configuration space. -/
  | rpCfgWr (a : Agent) (be : BitVec 4)
  /-- RP_MEM_RD (R446): The root-port command MEM_RD reads downstream memory. -/
  | rpMemRd (a : Agent) (be : BitVec 4)
  /-- RP_MEM_WR (R446): The root-port command MEM_WR writes downstream memory. -/
  | rpMemWr (a : Agent) (be : BitVec 4)
  /-- RP_CMD_DONE (R446): A root-port command completes with its RESULT. -/
  | rpCmdDone (res : BusResult) (crs : Bool)
  /-- RP_INBOUND_REQUEST (R446): An inbound request from the downstream device reaches DRAM, or is taken as an MSI, or is answered with Unsupported Request. -/
  | rpInboundRequest (addr : BitVec 64) (req : RpRequest)
  /-- RP_RETRAIN (R446): A write of HOST_RP_CTRL.RETRAIN retrains the root-port link. -/
  | rpRetrain (a : Agent)
  /-- CAL_START (R450): A write of CAL_CMD.START begins a calibration run over its items and scope. -/
  | calStart (a : Agent)
  /-- CAL_TIA_ITEM (R232): The TIA item collects code-density hits and computes new bin tables. -/
  | calTiaItem (hits : List TiaHits)
  /-- CAL_OUT_ITEM (R453): The OUT item measures and computes the output deskew of each DRV and DEN line. -/
  | calOutItem (stamps : List OutStamps)
  /-- CAL_TH_ITEM (R454): The TH item searches the flip codes and writes the new threshold codes. -/
  | calThItem (readings : List ThReadings) (sbFail : List (Fin 16))
  /-- CAL_IN_ITEM (R456): The IN item sweeps strobes and computes the input deskew of each comparator line. -/
  | calInItem (sweeps : List InSweep)
  /-- CAL_DEC_ITEM (R457): After GO, the DEC item measures the decimation offsets for a range. -/
  | calDecItem (sums : List DecSums)
  /-- CAL_GO (R457): A write of CAL_CMD.GO releases the DEC item's wait for a range. -/
  | calGo (a : Agent)
  /-- CAL_ABANDON (R460): A write of CAL_CMD.ABANDON abandons the run and starts the restore. -/
  | calAbandon (a : Agent)
  /-- CAL_RUN_TIMEOUT (R460): CAL_RUN_TMO passes since START, and the run is abandoned with END TIMEOUT. -/
  | calRunTimeout
  /-- CAL_RESTORE_END (R460): The restore of the threshold codes ends, and STATE becomes IDLE. -/
  | calRestoreEnd
  /-- CAL_EXPORT_START (R463): A write of CAL_EXP_CTRL.START begins an export of the set in force. -/
  | calExportStart (a : Agent) (ver : Byte)
  /-- CAL_EXP_DATA_READ (R463): A read of CAL_EXP_DATA returns the next word of the export stream. -/
  | calExpDataRead (a : Agent) (chk : EccCheck)
  /-- CAL_IMPORT_BEGIN (R464): A write of CAL_IMP_CTRL.BEGIN empties the staging buffer and opens an import. -/
  | calImportBegin (a : Agent)
  /-- CAL_IMPORT_DATA (R464): A write of CAL_IMP_DATA appends one word to the staged stream. -/
  | calImportData (a : Agent) (v : Word)
  /-- CAL_IMPORT_CANCEL (R464): A write of CAL_IMP_CTRL.CANCEL discards the staged stream. -/
  | calImportCancel (a : Agent)
  /-- CAL_IMPORT_COMMIT (R464): A write of CAL_IMP_CTRL.COMMIT validates the stream and starts writing its threshold codes. -/
  | calImportCommit (a : Agent)
  /-- CAL_IMPORT_APPLY (R464): An accepted import comes into force at one DCLK edge after its sideband writes, or fails with SB. -/
  | calImportApply
  /-- PART_ARM (R473): The PART_CMD ARM moves a defined IDLE partition to ARMED, with its capture regions allocated. -/
  | partArm (a : Agent) (p : Fin 64)
  /-- PART_DISARM (R473): The PART_CMD DISARM returns an ARMED partition to IDLE and frees its regions. -/
  | partDisarm (a : Agent) (p : Fin 64)
  /-- PART_PAUSE (R473): The PART_CMD PAUSE pauses the partition's gang. -/
  | partPause (a : Agent) (p : Fin 64)
  /-- PART_RESUME (R473): The PART_CMD RESUME resumes the partition's gang. -/
  | partResume (a : Agent) (p : Fin 64)
  /-- PART_ABORT (R474): The PART_CMD ABORT aborts one partition at the end of the sampled block, while the gang continues. -/
  | partAbort (a : Agent) (p : Fin 64)
  /-- PART_SERVICE (R473): The PART_CMD SERVICE moves an IDLE or FAULTED partition into SERVICE. -/
  | partService (a : Agent) (p : Fin 64)
  /-- PART_END_SERVICE (R473): The PART_CMD END_SERVICE returns a partition from SERVICE to IDLE. -/
  | partEndService (a : Agent) (p : Fin 64)
  /-- PART_ISOLATE (R475): The PART_CMD ISOLATE moves a running partition to FAULTED at once, with its pins safe and its compares masked. -/
  | partIsolate (a : Agent) (p : Fin 64)
  /-- PART_RECOVER (R475): The PART_CMD RECOVER returns a FAULTED partition to IDLE when its conditions hold. -/
  | partRecover (a : Agent) (p : Fin 64)
  /-- PART_DEFINE (R467): Setting PART_P_CFG.DEFINED validates and defines a partition's resources. -/
  | partDefine (a : Agent) (p : Fin 64)
  /-- PART_UNDEFINE (R467): Clearing PART_P_CFG.DEFINED releases an IDLE partition's resources. -/
  | partUndefine (a : Agent) (p : Fin 64)
  /-- PART_RETIRE (R477): MGMT sets a PART_RET bit, which retires a quad, unit, channel, port or sequencer until COLD. -/
  | partRetire (a : Agent) (reg : Fin 7) (bits : Word)
  /-- CONTEXT_CHECK_PASS (R536): The background pass reads every partition context, and a double-bit error moves that partition to FAULTED. -/
  | contextCheckPass (bad : List (Fin 64))
  /-- SREF_LOST (R480): The SREF reference stops, CLK_EVT.SREF_LOST is set and the fabric lanes lose their transmit clock. -/
  | srefLost
  /-- SREF_BACK (R480): The SREF reference returns and CLK_EVT.SREF_BACK is set, so the fabric ports can train again. -/
  | srefBack
  /-- RAIL_IN_RANGE (R478): A monitored rail returns within its range, PWR_RAIL.IN_RANGE sets its bit, and with VDD_KIO back the Electrum lines leave the undriven state for the safe state. -/
  | railInRange (rail : Fin 7)
  /-- HOST_LINK_UP (R427): Host-link training completes, the data link comes up, CFG_READY and HOST_EVT.LINK_UP are set, and configuration requests are answered normally. -/
  | hostLinkUp (width : BitVec 4) (speed : BitVec 3)
  /-- RP_LINK_CHANGE (R446): The root port's downstream link comes up or goes down, updating HOST_RP_STAT and setting HOST_EVT.RP_LINK. -/
  | rpLinkChange (up : Bool) (width : BitVec 4) (speed : BitVec 3)
  /-- MSIX_TABLE_WRITE (R322): A host memory request to the MSI-X table in BAR4 changes an entry's vector or mask, and clearing a mask issues a message held for that vector. -/
  | msixTableWrite (off : BitVec 12) (v : Word)
  /-- BUS_MASTER_COMPLETION (R432): A completion, or a completion error or timeout, arrives for a DMA channel's host read, delivering data or ending the transfer with HOST_ERR. -/
  | busMasterCompletion (ch : Fin 32) (res : BusResult)
  /-- MGMT_INSTRUCTION (R489): MGMT executes one instruction from its ROM or SRAM, including WFI and accesses whose SRAM check errors raise MGMT_SRAM_CE or MGMT_SRAM_UC. -/
  | mgmtInstruction (flash : BitVec 64) (chk : EccCheck)
  /-- MGMT_INTERRUPT (R317): MGMT takes its external interrupt from the interrupt controller, or an NMI sent by a Monel reaction. -/
  | mgmtInterrupt
  /-- DET_MESSAGE_LOST (R346): Both copies of a received DET message fail their CRC; the message is lost and the port degrades a lane or goes down as in R344. -/
  | detMessageLost (f : Fin 6) (mask1 : BitVec 4) (mask2 : BitVec 4)
  /-- ASPM_L1_CHANGE (R493): The host link enters or leaves ASPM L1, updating HOST_STAT.ASPM_L1 and deciding whether the HOST wake source stays set. -/
  | aspmL1Change (l1 : Bool)
  deriving DecidableEq, Repr

end Sys2Proof
end

