-- ==== Sys2Proof/Machine/RegMap.lean ====
section
/-! DEFINITION. The map of the register window (R33, R34, R38): the pages, the offset of every register and the place of
every field, as the register tables of spec/ give them; the access type of every bit and the reset value of every
register. The names are the manual's: `R.<register>` is an offset in the window, `F.<register>_<field>` a field of it,
`E.<page>_<event>` and `X.<page>_<fault>` the number of an event or fault bit. -/

namespace Sys2Proof.Machine

/-- A field of a register of the window: the offset of its register and its bits [hi:lo]. -/
structure Fld where
  off : Nat
  hi : Nat
  lo : Nat
  deriving DecidableEq, Repr

/-- A page of the window (R34): its first offset, how many pages the row has, its type code and its page ordinal (12). -/
structure PageRow where
  kind : PageKind
  base : Nat
  count : Nat
  type : Nat
  ordinal : Nat
  deriving DecidableEq, Repr

/-- The pages of R34 with the ordinals of the list before R313. -/
def pageRows : List PageRow := [
  ⟨.dev, 0x0, 1, 0x1, 0⟩,
  ⟨.fuse, 0x1000, 1, 0x2, 1⟩,
  ⟨.clk, 0x2000, 1, 0x3, 2⟩,
  ⟨.rst, 0x3000, 1, 0x4, 3⟩,
  ⟨.pwr, 0x4000, 1, 0x5, 4⟩,
  ⟨.seq, 0x10000, 16, 0x10, 5⟩,
  ⟨.tg, 0x20000, 16, 0x11, 21⟩,
  ⟨.pgr, 0x30000, 1, 0x12, 37⟩,
  ⟨.vc, 0x31000, 1, 0x13, 38⟩,
  ⟨.cu, 0x40000, 8, 0x14, 39⟩,
  ⟨.tia, 0x50000, 8, 0x15, 47⟩,
  ⟨.dec, 0x60000, 4, 0x16, 55⟩,
  ⟨.syn, 0x70000, 16, 0x17, 59⟩,
  ⟨.sched, 0x80000, 1, 0x20, 75⟩,
  ⟨.hic, 0x81000, 1, 0x21, 76⟩,
  ⟨.trace, 0x82000, 1, 0x22, 77⟩,
  ⟨.red, 0x83000, 1, 0x23, 78⟩,
  ⟨.hart, 0x84000, 8, 0x24, 79⟩,
  ⟨.flt, 0x90000, 1, 0x25, 87⟩,
  ⟨.dram, 0xA0000, 8, 0x30, 88⟩,
  ⟨.alloc, 0xA8000, 1, 0x31, 96⟩,
  ⟨.dma, 0xB0000, 4, 0x32, 97⟩,
  ⟨.fq, 0xB8000, 1, 0x33, 101⟩,
  ⟨.fp, 0xC0000, 6, 0x40, 102⟩,
  ⟨.fab, 0xC8000, 1, 0x41, 108⟩,
  ⟨.hostp, 0xD0000, 1, 0x42, 109⟩,
  ⟨.hq, 0xD1000, 1, 0x43, 110⟩,
  ⟨.time, 0xE0000, 1, 0x50, 111⟩,
  ⟨.cal, 0xF0000, 1, 0x51, 112⟩,
  ⟨.part, 0x100000, 1, 0x52, 113⟩,
  ⟨.mc, 0x110000, 1, 0x53, 114⟩]

/-- One row of a register table of the spec: the offset within the page, the two levels of repetition (count and stride),
the masks of the bits of each access type (R37), the shadowed bits (R45) and the reset value. -/
structure RegRow where
  off : Nat
  n1 : Nat
  s1 : Nat
  n2 : Nat
  s2 : Nat
  rw : Nat
  w1c : Nat
  w1s : Nat
  wo : Nat
  rc : Nat
  shadowed : Nat
  reset : Nat
  deriving DecidableEq, Repr

/-- The first offset of page DEV (R34). -/
abbrev P.DEV : Nat := 0x0
/-- The first offset of page FUSE (R34). -/
abbrev P.FUSE : Nat := 0x1000
/-- The first offset of page CLK (R34). -/
abbrev P.CLK : Nat := 0x2000
/-- The first offset of page RST (R34). -/
abbrev P.RST : Nat := 0x3000
/-- The first offset of page PWR (R34). -/
abbrev P.PWR : Nat := 0x4000
/-- The first offset of page SEQn (R34). -/
abbrev P.SEQ (n : Nat) : Nat := 0x10000 + 0x1000 * n
/-- The first offset of page TGn (R34). -/
abbrev P.TG (n : Nat) : Nat := 0x20000 + 0x1000 * n
/-- The first offset of page PGR (R34). -/
abbrev P.PGR : Nat := 0x30000
/-- The first offset of page VC (R34). -/
abbrev P.VC : Nat := 0x31000
/-- The first offset of page CUn (R34). -/
abbrev P.CU (n : Nat) : Nat := 0x40000 + 0x1000 * n
/-- The first offset of page TIAn (R34). -/
abbrev P.TIA (n : Nat) : Nat := 0x50000 + 0x1000 * n
/-- The first offset of page DECn (R34). -/
abbrev P.DEC (n : Nat) : Nat := 0x60000 + 0x1000 * n
/-- The first offset of page SYNn (R34). -/
abbrev P.SYN (n : Nat) : Nat := 0x70000 + 0x1000 * n
/-- The first offset of page SCHED (R34). -/
abbrev P.SCHED : Nat := 0x80000
/-- The first offset of page HIC (R34). -/
abbrev P.HIC : Nat := 0x81000
/-- The first offset of page TRACE (R34). -/
abbrev P.TRACE : Nat := 0x82000
/-- The first offset of page RED (R34). -/
abbrev P.RED : Nat := 0x83000
/-- The first offset of page HARTn (R34). -/
abbrev P.HART (n : Nat) : Nat := 0x84000 + 0x1000 * n
/-- The first offset of page FLT (R34). -/
abbrev P.FLT : Nat := 0x90000
/-- The first offset of page DRAMn (R34). -/
abbrev P.DRAM (n : Nat) : Nat := 0xA0000 + 0x1000 * n
/-- The first offset of page ALLOC (R34). -/
abbrev P.ALLOC : Nat := 0xA8000
/-- The first offset of page DMAn (R34). -/
abbrev P.DMA (n : Nat) : Nat := 0xB0000 + 0x1000 * n
/-- The first offset of page FQ (R34). -/
abbrev P.FQ : Nat := 0xB8000
/-- The first offset of page FPn (R34). -/
abbrev P.FP (n : Nat) : Nat := 0xC0000 + 0x1000 * n
/-- The first offset of page FAB (R34). -/
abbrev P.FAB : Nat := 0xC8000
/-- The first offset of page HOST (R34). -/
abbrev P.HOST : Nat := 0xD0000
/-- The first offset of page HQ (R34). -/
abbrev P.HQ : Nat := 0xD1000
/-- The first offset of page TIME (R34). -/
abbrev P.TIME : Nat := 0xE0000
/-- The first offset of page CAL (R34). -/
abbrev P.CAL : Nat := 0xF0000
/-- The first offset of page PART (R34). -/
abbrev P.PART : Nat := 0x100000
/-- The first offset of page MC (R34). -/
abbrev P.MC : Nat := 0x110000

/-! ### The common header (R38): `p` is the first offset of the page -/
abbrev R.xx_ID (p : Nat) : Nat := p + 0x0
abbrev R.xx_CAP (p : Nat) : Nat := p + 0x4
abbrev R.xx_CTRL (p : Nat) : Nat := p + 0x8
abbrev R.xx_STAT (p : Nat) : Nat := p + 0xC
abbrev R.xx_EVT (p : Nat) : Nat := p + 0x10
abbrev R.xx_EVT_EN (p : Nat) : Nat := p + 0x14
abbrev R.xx_FLT (p : Nat) : Nat := p + 0x18
abbrev R.xx_FLT_INJ (p : Nat) : Nat := p + 0x1C
abbrev R.xx_SHADOW_GEN (p : Nat) : Nat := p + 0x20
abbrev R.xx_COMMIT (p : Nat) : Nat := p + 0x24
abbrev R.xx_COMMIT_STAT (p : Nat) : Nat := p + 0x28
abbrev R.xx_OWNER (p : Nat) : Nat := p + 0x2C
abbrev R.xx_CE_COUNT (p : Nat) : Nat := p + 0x30
abbrev R.xx_REJECT_COUNT (p : Nat) : Nat := p + 0x34
abbrev R.xx_REJECT_ADDR (p : Nat) : Nat := p + 0x38
abbrev R.xx_BLK_COUNT (p : Nat) : Nat := p + 0x3C
abbrev F.xx_CTRL_FREEZE_SHADOW (p : Nat) : Fld := ⟨R.xx_CTRL p, 3, 3⟩
abbrev F.xx_CTRL_BLOCK_RESET (p : Nat) : Fld := ⟨R.xx_CTRL p, 2, 2⟩
abbrev F.xx_CTRL_QUIESCE (p : Nat) : Fld := ⟨R.xx_CTRL p, 1, 1⟩
abbrev F.xx_CTRL_ENABLE (p : Nat) : Fld := ⟨R.xx_CTRL p, 0, 0⟩
abbrev F.xx_STAT_BLOCK_STAT (p : Nat) : Fld := ⟨R.xx_STAT p, 31, 16⟩
abbrev F.xx_STAT_REJECT_FIELD (p : Nat) : Fld := ⟨R.xx_STAT p, 15, 8⟩
abbrev F.xx_STAT_SHADOW_DIRTY (p : Nat) : Fld := ⟨R.xx_STAT p, 4, 4⟩
abbrev F.xx_STAT_CONFIG_REJECT (p : Nat) : Fld := ⟨R.xx_STAT p, 3, 3⟩
abbrev F.xx_STAT_IN_RESET (p : Nat) : Fld := ⟨R.xx_STAT p, 2, 2⟩
abbrev F.xx_STAT_QUIESCED (p : Nat) : Fld := ⟨R.xx_STAT p, 1, 1⟩
abbrev F.xx_STAT_ACTIVE (p : Nat) : Fld := ⟨R.xx_STAT p, 0, 0⟩
abbrev F.xx_SHADOW_GEN_XFER (p : Nat) : Fld := ⟨R.xx_SHADOW_GEN p, 31, 24⟩
abbrev F.xx_SHADOW_GEN_WCOUNT (p : Nat) : Fld := ⟨R.xx_SHADOW_GEN p, 23, 0⟩
abbrev F.xx_COMMIT_STAT_LAST_XFER (p : Nat) : Fld := ⟨R.xx_COMMIT_STAT p, 31, 24⟩
abbrev F.xx_COMMIT_STAT_PENDING (p : Nat) : Fld := ⟨R.xx_COMMIT_STAT p, 5, 5⟩
abbrev F.xx_COMMIT_STAT_CANCEL (p : Nat) : Fld := ⟨R.xx_COMMIT_STAT p, 4, 4⟩
abbrev F.xx_COMMIT_STAT_STATE (p : Nat) : Fld := ⟨R.xx_COMMIT_STAT p, 3, 0⟩
abbrev F.xx_OWNER_KIND (p : Nat) : Fld := ⟨R.xx_OWNER p, 31, 30⟩
abbrev F.xx_OWNER_ID (p : Nat) : Fld := ⟨R.xx_OWNER p, 11, 0⟩
abbrev F.xx_REJECT_ADDR_REASON (p : Nat) : Fld := ⟨R.xx_REJECT_ADDR p, 31, 28⟩
abbrev F.xx_REJECT_ADDR_OFFSET (p : Nat) : Fld := ⟨R.xx_REJECT_ADDR p, 25, 0⟩

/-! ### DEV page -/
abbrev R.DEV_MODE : Nat := 0x40
abbrev F.DEV_MODE_BUSY : Fld := ⟨R.DEV_MODE, 31, 31⟩
abbrev F.DEV_MODE_PREV : Fld := ⟨R.DEV_MODE, 23, 20⟩
abbrev F.DEV_MODE_REQ : Fld := ⟨R.DEV_MODE, 15, 12⟩
abbrev F.DEV_MODE_MODE : Fld := ⟨R.DEV_MODE, 3, 0⟩

/-! ### FUSE page -/
abbrev R.FUSE_AAT_MGMT : Nat := 0x1040
abbrev F.FUSE_AAT_MGMT_DENY : Fld := ⟨R.FUSE_AAT_MGMT, 31, 0⟩
abbrev R.FUSE_AAT_HOST : Nat := 0x1044
abbrev F.FUSE_AAT_HOST_DENY : Fld := ⟨R.FUSE_AAT_HOST, 31, 0⟩
abbrev R.FUSE_AAT_HART : Nat := 0x1048
abbrev F.FUSE_AAT_HART_DENY : Fld := ⟨R.FUSE_AAT_HART, 31, 0⟩
abbrev R.FUSE_AAT_FABRIC : Nat := 0x104C
abbrev F.FUSE_AAT_FABRIC_DENY : Fld := ⟨R.FUSE_AAT_FABRIC, 31, 0⟩
abbrev R.FUSE_AAT_SELF : Nat := 0x1050
abbrev F.FUSE_AAT_SELF_DENY : Fld := ⟨R.FUSE_AAT_SELF, 31, 0⟩

/-! ### SEQ page -/
abbrev R.SEQ_RUN (n : Nat) : Nat := 0x10040 + 0x1000 * n
abbrev F.SEQ_RUN_START_TRIG (n : Nat) : Fld := ⟨R.SEQ_RUN n, 19, 16⟩
abbrev F.SEQ_RUN_START_SRC (n : Nat) : Fld := ⟨R.SEQ_RUN n, 9, 8⟩
abbrev F.SEQ_RUN_ABORT (n : Nat) : Fld := ⟨R.SEQ_RUN n, 3, 3⟩
abbrev F.SEQ_RUN_RESUME (n : Nat) : Fld := ⟨R.SEQ_RUN n, 2, 2⟩
abbrev F.SEQ_RUN_PAUSE (n : Nat) : Fld := ⟨R.SEQ_RUN n, 1, 1⟩
abbrev F.SEQ_RUN_START (n : Nat) : Fld := ⟨R.SEQ_RUN n, 0, 0⟩
abbrev R.SEQ_GANG (n : Nat) : Nat := 0x10044 + 0x1000 * n
abbrev F.SEQ_GANG_LAST (n : Nat) : Fld := ⟨R.SEQ_GANG n, 3, 0⟩
abbrev R.SEQ_STATE (n : Nat) : Nat := 0x10048 + 0x1000 * n
abbrev F.SEQ_STATE_WAITING (n : Nat) : Fld := ⟨R.SEQ_STATE n, 14, 14⟩
abbrev F.SEQ_STATE_MATCHING (n : Nat) : Fld := ⟨R.SEQ_STATE n, 13, 13⟩
abbrev F.SEQ_STATE_CALL_DEPTH (n : Nat) : Fld := ⟨R.SEQ_STATE n, 12, 8⟩
abbrev F.SEQ_STATE_LOOP_DEPTH (n : Nat) : Fld := ⟨R.SEQ_STATE n, 7, 4⟩
abbrev F.SEQ_STATE_STATE (n : Nat) : Fld := ⟨R.SEQ_STATE n, 3, 0⟩
abbrev R.SEQ_STOP (n : Nat) : Nat := 0x1004C + 0x1000 * n
abbrev F.SEQ_STOP_CAUSE (n : Nat) : Fld := ⟨R.SEQ_STOP n, 3, 0⟩
abbrev R.SEQ_START_ADDR_LO (n : Nat) : Nat := 0x10050 + 0x1000 * n
abbrev F.SEQ_START_ADDR_LO_ADDR (n : Nat) : Fld := ⟨R.SEQ_START_ADDR_LO n, 31, 4⟩
abbrev R.SEQ_START_ADDR_HI (n : Nat) : Nat := 0x10054 + 0x1000 * n
abbrev F.SEQ_START_ADDR_HI_ADDR (n : Nat) : Fld := ⟨R.SEQ_START_ADDR_HI n, 9, 0⟩
abbrev R.SEQ_START_SEL (n : Nat) : Nat := 0x10058 + 0x1000 * n
abbrev F.SEQ_START_SEL_PERIOD_IDX (n : Nat) : Fld := ⟨R.SEQ_START_SEL n, 15, 8⟩
abbrev F.SEQ_START_SEL_TS_IDX (n : Nat) : Fld := ⟨R.SEQ_START_SEL n, 5, 0⟩
abbrev R.SEQ_STALL (n : Nat) : Nat := 0x1005C + 0x1000 * n
abbrev F.SEQ_STALL_POLICY (n : Nat) : Fld := ⟨R.SEQ_STALL n, 0, 0⟩
abbrev R.SEQ_HOLD_ADDR_LO (n : Nat) : Nat := 0x10060 + 0x1000 * n
abbrev F.SEQ_HOLD_ADDR_LO_ADDR (n : Nat) : Fld := ⟨R.SEQ_HOLD_ADDR_LO n, 31, 6⟩
abbrev R.SEQ_HOLD_ADDR_HI (n : Nat) : Nat := 0x10064 + 0x1000 * n
abbrev F.SEQ_HOLD_ADDR_HI_ADDR (n : Nat) : Fld := ⟨R.SEQ_HOLD_ADDR_HI n, 9, 0⟩
abbrev R.SEQ_COND_LEAD (n : Nat) : Nat := 0x10068 + 0x1000 * n
abbrev F.SEQ_COND_LEAD_HOPS (n : Nat) : Fld := ⟨R.SEQ_COND_LEAD n, 31, 24⟩
abbrev F.SEQ_COND_LEAD_LEAD_NS (n : Nat) : Fld := ⟨R.SEQ_COND_LEAD n, 15, 0⟩
abbrev R.SEQ_SPAN_FLOOR (n : Nat) : Nat := 0x1006C + 0x1000 * n
abbrev F.SEQ_SPAN_FLOOR_FLOOR_NS (n : Nat) : Fld := ⟨R.SEQ_SPAN_FLOOR n, 15, 0⟩
abbrev R.SEQ_FLAG_SET (n : Nat) : Nat := 0x10070 + 0x1000 * n
abbrev F.SEQ_FLAG_SET_F (n : Nat) : Fld := ⟨R.SEQ_FLAG_SET n, 15, 0⟩
abbrev R.SEQ_FLAG_CLR (n : Nat) : Nat := 0x10074 + 0x1000 * n
abbrev F.SEQ_FLAG_CLR_F (n : Nat) : Fld := ⟨R.SEQ_FLAG_CLR n, 15, 0⟩
abbrev R.SEQ_TRIG_PEND (n : Nat) : Nat := 0x10078 + 0x1000 * n
abbrev F.SEQ_TRIG_PEND_PEND (n : Nat) : Fld := ⟨R.SEQ_TRIG_PEND n, 15, 0⟩
abbrev R.SEQ_STATUS (n : Nat) : Nat := 0x1007C + 0x1000 * n
abbrev F.SEQ_STATUS_WTO (n : Nat) : Fld := ⟨R.SEQ_STATUS n, 1, 1⟩
abbrev F.SEQ_STATUS_MTO (n : Nat) : Fld := ⟨R.SEQ_STATUS n, 0, 0⟩
abbrev R.SEQ_MATCH_REPS (n : Nat) : Nat := 0x10080 + 0x1000 * n
abbrev F.SEQ_MATCH_REPS_REPS (n : Nat) : Fld := ⟨R.SEQ_MATCH_REPS n, 31, 0⟩
abbrev R.SEQ_PC_LO (n : Nat) : Nat := 0x10084 + 0x1000 * n
abbrev F.SEQ_PC_LO_VALUE (n : Nat) : Fld := ⟨R.SEQ_PC_LO n, 31, 4⟩
abbrev R.SEQ_PC_HI (n : Nat) : Nat := 0x10088 + 0x1000 * n
abbrev F.SEQ_PC_HI_ADDR (n : Nat) : Fld := ⟨R.SEQ_PC_HI n, 9, 0⟩
abbrev R.SEQ_LAST_LO (n : Nat) : Nat := 0x1008C + 0x1000 * n
abbrev F.SEQ_LAST_LO_VALUE (n : Nat) : Fld := ⟨R.SEQ_LAST_LO n, 31, 4⟩
abbrev R.SEQ_LAST_HI (n : Nat) : Nat := 0x10090 + 0x1000 * n
abbrev F.SEQ_LAST_HI_ADDR (n : Nat) : Fld := ⟨R.SEQ_LAST_HI n, 9, 0⟩
abbrev R.SEQ_CYCLE_LO (n : Nat) : Nat := 0x10094 + 0x1000 * n
abbrev R.SEQ_CYCLE_HI (n : Nat) : Nat := 0x10098 + 0x1000 * n
abbrev R.SEQ_PMASK_LO (n : Nat) : Nat := 0x1009C + 0x1000 * n
abbrev R.SEQ_PMASK_HI (n : Nat) : Nat := 0x100A0 + 0x1000 * n
abbrev R.SEQ_PMATCH_LO (n : Nat) : Nat := 0x100A4 + 0x1000 * n
abbrev R.SEQ_PMATCH_HI (n : Nat) : Nat := 0x100A8 + 0x1000 * n

/-! ### MC page -/
abbrev R.MC_ABI : Nat := 0x110040
abbrev F.MC_ABI_ROM_MAJ : Fld := ⟨R.MC_ABI, 31, 24⟩
abbrev F.MC_ABI_ROM_MIN : Fld := ⟨R.MC_ABI, 23, 16⟩
abbrev F.MC_ABI_EFF_MAJ : Fld := ⟨R.MC_ABI, 15, 8⟩
abbrev F.MC_ABI_EFF_MIN : Fld := ⟨R.MC_ABI, 7, 0⟩
abbrev R.MC_ROMID : Nat := 0x110044
abbrev F.MC_ROMID_ROMID : Fld := ⟨R.MC_ROMID, 31, 0⟩
abbrev R.MC_PATCH_STAT : Nat := 0x110048
abbrev F.MC_PATCH_STAT_LOADED : Fld := ⟨R.MC_PATCH_STAT, 31, 16⟩
abbrev F.MC_PATCH_STAT_PSTATE : Fld := ⟨R.MC_PATCH_STAT, 3, 0⟩
abbrev R.MC_PATCH_VER : Nat := 0x11004C
abbrev F.MC_PATCH_VER_IMAGE_VER : Fld := ⟨R.MC_PATCH_VER, 31, 0⟩
abbrev R.MC_DRAIN : Nat := 0x110050
abbrev F.MC_DRAIN_REQ : Fld := ⟨R.MC_DRAIN, 15, 0⟩
abbrev R.MC_DRAINED : Nat := 0x110054
abbrev F.MC_DRAINED_DRAINED : Fld := ⟨R.MC_DRAINED, 15, 0⟩
abbrev R.MC_RELEASE_STAT : Nat := 0x110058
abbrev F.MC_RELEASE_STAT_SEQ : Fld := ⟨R.MC_RELEASE_STAT, 19, 16⟩
abbrev F.MC_RELEASE_STAT_RESULT : Fld := ⟨R.MC_RELEASE_STAT, 3, 0⟩
abbrev R.MC_RELOAD : Nat := 0x11005C
abbrev F.MC_RELOAD_SEQ : Fld := ⟨R.MC_RELOAD, 15, 0⟩
abbrev R.MC_PLOAD_ADDR : Nat := 0x110060
abbrev F.MC_PLOAD_ADDR_TARGET : Fld := ⟨R.MC_PLOAD_ADDR, 31, 30⟩
abbrev F.MC_PLOAD_ADDR_INDEX : Fld := ⟨R.MC_PLOAD_ADDR, 14, 0⟩
abbrev R.MC_PLOAD_DATA : Nat := 0x110064
abbrev F.MC_PLOAD_DATA_DATA : Fld := ⟨R.MC_PLOAD_DATA, 31, 0⟩
abbrev R.MC_PLOAD_FIN : Nat := 0x110068
abbrev F.MC_PLOAD_FIN_SEQMASK : Fld := ⟨R.MC_PLOAD_FIN, 31, 16⟩
abbrev F.MC_PLOAD_FIN_PSTATE : Fld := ⟨R.MC_PLOAD_FIN, 15, 12⟩
abbrev F.MC_PLOAD_FIN_ABI_MAJ : Fld := ⟨R.MC_PLOAD_FIN, 11, 8⟩
abbrev F.MC_PLOAD_FIN_ABI_MIN : Fld := ⟨R.MC_PLOAD_FIN, 7, 0⟩
abbrev R.MC_SQ_ITER (k : Nat) : Nat := 0x110400 + 0x20 * k
abbrev R.MC_SQ_USTOP (k : Nat) : Nat := 0x110404 + 0x20 * k
abbrev F.MC_SQ_USTOP_VALID (k : Nat) : Fld := ⟨R.MC_SQ_USTOP k, 15, 15⟩
abbrev F.MC_SQ_USTOP_UPC (k : Nat) : Fld := ⟨R.MC_SQ_USTOP k, 14, 0⟩
abbrev R.MC_SQ_UMAX (k : Nat) : Nat := 0x110408 + 0x20 * k
abbrev F.MC_SQ_UMAX_MAX (k : Nat) : Fld := ⟨R.MC_SQ_UMAX k, 12, 0⟩
abbrev R.MC_SQ_TAP (k : Nat) : Nat := 0x11040C + 0x20 * k
abbrev F.MC_SQ_TAP_TAPST (k : Nat) : Fld := ⟨R.MC_SQ_TAP k, 3, 0⟩
abbrev R.MC_SQ_CE (k : Nat) : Nat := 0x110410 + 0x20 * k

/-! ### TG page -/
abbrev R.TG_MODE (n : Nat) : Nat := 0x20040 + 0x1000 * n
abbrev F.TG_MODE_MODE (n : Nat) : Fld := ⟨R.TG_MODE n, 0, 0⟩
abbrev R.TG_RS_SRC (n : Nat) : Nat := 0x20044 + 0x1000 * n
abbrev F.TG_RS_SRC_SRC_PS (n : Nat) : Fld := ⟨R.TG_RS_SRC n, 22, 0⟩
abbrev R.TG_RS_ACC (n : Nat) : Nat := 0x20048 + 0x1000 * n
abbrev F.TG_RS_ACC_ACC (n : Nat) : Fld := ⟨R.TG_RS_ACC n, 22, 0⟩
abbrev R.TG_STATE (n : Nat) : Nat := 0x2004C + 0x1000 * n
abbrev F.TG_STATE_FIRST (n : Nat) : Fld := ⟨R.TG_STATE n, 31, 28⟩
abbrev F.TG_STATE_LAST (n : Nat) : Fld := ⟨R.TG_STATE n, 27, 24⟩
abbrev F.TG_STATE_PERIOD_IDX (n : Nat) : Fld := ⟨R.TG_STATE n, 15, 8⟩
abbrev F.TG_STATE_TS_IDX (n : Nat) : Fld := ⟨R.TG_STATE n, 5, 0⟩
abbrev R.TG_PERIOD_NOW (n : Nat) : Nat := 0x20050 + 0x1000 * n
abbrev F.TG_PERIOD_NOW_PERIOD_PS (n : Nat) : Fld := ⟨R.TG_PERIOD_NOW n, 22, 0⟩
abbrev R.PE_CFG (n : Nat) : Nat := 0x20800 + 0x1000 * n
abbrev F.PE_CFG_SWING (n : Nat) : Fld := ⟨R.PE_CFG n, 3, 0⟩
abbrev R.PE_POL_LO (n : Nat) : Nat := 0x20804 + 0x1000 * n
abbrev R.PE_POL_HI (n : Nat) : Nat := 0x20808 + 0x1000 * n
abbrev R.PE_CMP_MODE (n : Nat) : Nat := 0x2080C + 0x1000 * n
abbrev R.PE_DLY (n : Nat) (k : Nat) : Nat := 0x20840 + 0x1000 * n + 0x10 * k
abbrev F.PE_DLY_CABLE_PS (n : Nat) (k : Nat) : Fld := ⟨R.PE_DLY n k, 31, 16⟩
abbrev F.PE_DLY_PE_PS (n : Nat) (k : Nat) : Fld := ⟨R.PE_DLY n k, 15, 0⟩
abbrev R.PE_DESKEW_OUT (n : Nat) (k : Nat) : Nat := 0x20940 + 0x1000 * n + 0x8 * k
abbrev F.PE_DESKEW_OUT_DEN (n : Nat) (k : Nat) : Fld := ⟨R.PE_DESKEW_OUT n k, 27, 16⟩
abbrev F.PE_DESKEW_OUT_DRV (n : Nat) (k : Nat) : Fld := ⟨R.PE_DESKEW_OUT n k, 11, 0⟩
abbrev R.PE_DESKEW_IN (n : Nat) (k : Nat) : Nat := 0x20944 + 0x1000 * n + 0x8 * k
abbrev F.PE_DESKEW_IN_CMPL (n : Nat) (k : Nat) : Fld := ⟨R.PE_DESKEW_IN n k, 27, 16⟩
abbrev F.PE_DESKEW_IN_CMPH (n : Nat) (k : Nat) : Fld := ⟨R.PE_DESKEW_IN n k, 11, 0⟩
abbrev R.PE_RT_MAX (n : Nat) : Nat := 0x20A00 + 0x1000 * n
abbrev F.PE_RT_MAX_RT_PS (n : Nat) : Fld := ⟨R.PE_RT_MAX n, 17, 0⟩
abbrev R.PE_EDGE_COLLIDE (n : Nat) : Nat := 0x20A04 + 0x1000 * n
abbrev R.PE_WIN_DROP (n : Nat) : Nat := 0x20A08 + 0x1000 * n
abbrev R.PE_STROBE_DROP (n : Nat) : Nat := 0x20A0C + 0x1000 * n
abbrev R.PE_UNDEF_CODE (n : Nat) : Nat := 0x20A10 + 0x1000 * n
abbrev R.PE_LAST_DROP (n : Nat) : Nat := 0x20A14 + 0x1000 * n
abbrev F.PE_LAST_DROP_KIND (n : Nat) : Fld := ⟨R.PE_LAST_DROP n, 31, 29⟩
abbrev F.PE_LAST_DROP_LINE (n : Nat) : Fld := ⟨R.PE_LAST_DROP n, 28, 28⟩
abbrev F.PE_LAST_DROP_PIN (n : Nat) : Fld := ⟨R.PE_LAST_DROP n, 27, 24⟩
abbrev F.PE_LAST_DROP_CYCLE (n : Nat) : Fld := ⟨R.PE_LAST_DROP n, 23, 0⟩
abbrev R.PE_SB_CFG (n : Nat) : Nat := 0x20B00 + 0x1000 * n
abbrev F.PE_SB_CFG_DIV (n : Nat) : Fld := ⟨R.PE_SB_CFG n, 7, 0⟩
abbrev R.PE_SB_MAP (n : Nat) : Nat := 0x20B04 + 0x1000 * n
abbrev F.PE_SB_MAP_TH_BASE (n : Nat) : Fld := ⟨R.PE_SB_MAP n, 31, 16⟩
abbrev F.PE_SB_MAP_TH_STRIDE (n : Nat) : Fld := ⟨R.PE_SB_MAP n, 15, 8⟩
abbrev F.PE_SB_MAP_CHIPS_LOG2 (n : Nat) : Fld := ⟨R.PE_SB_MAP n, 2, 0⟩
abbrev R.PE_SB_WDATA (n : Nat) : Nat := 0x20B08 + 0x1000 * n
abbrev F.PE_SB_WDATA_WDATA (n : Nat) : Fld := ⟨R.PE_SB_WDATA n, 15, 0⟩
abbrev R.PE_SB_CMD (n : Nat) : Nat := 0x20B0C + 0x1000 * n
abbrev F.PE_SB_CMD_WR (n : Nat) : Fld := ⟨R.PE_SB_CMD n, 31, 31⟩
abbrev F.PE_SB_CMD_CHIP (n : Nat) : Fld := ⟨R.PE_SB_CMD n, 23, 20⟩
abbrev F.PE_SB_CMD_ADDR (n : Nat) : Fld := ⟨R.PE_SB_CMD n, 15, 0⟩
abbrev R.PE_SB_STAT (n : Nat) : Nat := 0x20B10 + 0x1000 * n
abbrev F.PE_SB_STAT_BUSY (n : Nat) : Fld := ⟨R.PE_SB_STAT n, 31, 31⟩
abbrev F.PE_SB_STAT_RESULT (n : Nat) : Fld := ⟨R.PE_SB_STAT n, 30, 28⟩
abbrev F.PE_SB_STAT_RDATA (n : Nat) : Fld := ⟨R.PE_SB_STAT n, 15, 0⟩
abbrev R.PE_DIAG_CFG (n : Nat) : Nat := 0x20C00 + 0x1000 * n
abbrev F.PE_DIAG_CFG_TEST (n : Nat) : Fld := ⟨R.PE_DIAG_CFG n, 29, 28⟩
abbrev F.PE_DIAG_CFG_CYC_LOG2 (n : Nat) : Fld := ⟨R.PE_DIAG_CFG n, 27, 23⟩
abbrev F.PE_DIAG_CFG_PERIOD_PS (n : Nat) : Fld := ⟨R.PE_DIAG_CFG n, 22, 0⟩
abbrev R.PE_DIAG_PINS (n : Nat) : Nat := 0x20C04 + 0x1000 * n
abbrev F.PE_DIAG_PINS_PINS (n : Nat) : Fld := ⟨R.PE_DIAG_PINS n, 15, 0⟩
abbrev R.PE_DIAG_CMD (n : Nat) : Nat := 0x20C08 + 0x1000 * n
abbrev F.PE_DIAG_CMD_ABORT (n : Nat) : Fld := ⟨R.PE_DIAG_CMD n, 1, 1⟩
abbrev F.PE_DIAG_CMD_START (n : Nat) : Fld := ⟨R.PE_DIAG_CMD n, 0, 0⟩
abbrev R.PE_DIAG_STAT (n : Nat) : Nat := 0x20C0C + 0x1000 * n
abbrev F.PE_DIAG_STAT_BUSY (n : Nat) : Fld := ⟨R.PE_DIAG_STAT n, 31, 31⟩
abbrev F.PE_DIAG_STAT_RESULT (n : Nat) : Fld := ⟨R.PE_DIAG_STAT n, 30, 28⟩
abbrev F.PE_DIAG_STAT_FAILPINS (n : Nat) : Fld := ⟨R.PE_DIAG_STAT n, 15, 0⟩
abbrev R.PE_DIAG_ERR (n : Nat) (i : Nat) : Nat := 0x20C40 + 0x1000 * n + 0x4 * i
abbrev F.PE_DIAG_ERR_OUT_ERR (n : Nat) (i : Nat) : Fld := ⟨R.PE_DIAG_ERR n i, 31, 16⟩
abbrev F.PE_DIAG_ERR_IN_ERR (n : Nat) (i : Nat) : Fld := ⟨R.PE_DIAG_ERR n i, 15, 0⟩

/-! ### PGR page -/
abbrev R.PGR_PT_BASE : Nat := 0x30040
abbrev F.PGR_PT_BASE_L1 : Fld := ⟨R.PGR_PT_BASE, 24, 0⟩
abbrev R.PGR_DRAM_LIMIT : Nat := 0x30044
abbrev F.PGR_DRAM_LIMIT_FRAMES : Fld := ⟨R.PGR_DRAM_LIMIT, 17, 0⟩
abbrev R.PGR_DRAM_USED : Nat := 0x30048
abbrev F.PGR_DRAM_USED_FRAMES : Fld := ⟨R.PGR_DRAM_USED, 17, 0⟩
abbrev R.PGR_DRAM_MAX : Nat := 0x3004C
abbrev F.PGR_DRAM_MAX_FRAMES : Fld := ⟨R.PGR_DRAM_MAX, 17, 0⟩
abbrev R.PGR_FETCH_TMO : Nat := 0x30050
abbrev F.PGR_FETCH_TMO_US : Fld := ⟨R.PGR_FETCH_TMO, 15, 0⟩
abbrev R.PGR_MAP_LO : Nat := 0x30060
abbrev R.PGR_MAP_HI : Nat := 0x30064
abbrev R.PGR_MAP_CRC : Nat := 0x30068
abbrev R.PGR_MAP_PAGE : Nat := 0x3006C
abbrev F.PGR_MAP_PAGE_PAGE : Fld := ⟨R.PGR_MAP_PAGE, 20, 0⟩
abbrev R.PGR_MAP_OP : Nat := 0x30070
abbrev F.PGR_MAP_OP_COUNT : Fld := ⟨R.PGR_MAP_OP, 31, 16⟩
abbrev F.PGR_MAP_OP_HOLD : Fld := ⟨R.PGR_MAP_OP, 5, 5⟩
abbrev F.PGR_MAP_OP_VERIFY : Fld := ⟨R.PGR_MAP_OP, 4, 4⟩
abbrev F.PGR_MAP_OP_OP : Fld := ⟨R.PGR_MAP_OP, 3, 0⟩
abbrev R.PGR_MAP_STAT : Nat := 0x30074
abbrev F.PGR_MAP_STAT_BUSY : Fld := ⟨R.PGR_MAP_STAT, 31, 31⟩
abbrev F.PGR_MAP_STAT_STATE : Fld := ⟨R.PGR_MAP_STAT, 30, 28⟩
abbrev F.PGR_MAP_STAT_RESULT : Fld := ⟨R.PGR_MAP_STAT, 27, 24⟩
abbrev F.PGR_MAP_STAT_DONE : Fld := ⟨R.PGR_MAP_STAT, 15, 0⟩
abbrev R.PGR_SQ_WALK (k : Nat) : Nat := 0x30400 + 0x40 * k
abbrev F.PGR_SQ_WALK_ALT_64K (k : Nat) : Fld := ⟨R.PGR_SQ_WALK k, 12, 8⟩
abbrev F.PGR_SQ_WALK_REACH_MIB (k : Nat) : Fld := ⟨R.PGR_SQ_WALK k, 4, 0⟩
abbrev R.PGR_SQ_HOLD_LIMIT (k : Nat) : Nat := 0x30404 + 0x40 * k
abbrev F.PGR_SQ_HOLD_LIMIT_UNITS (k : Nat) : Fld := ⟨R.PGR_SQ_HOLD_LIMIT k, 31, 0⟩
abbrev R.PGR_STALL_CYCLES_LO (k : Nat) : Nat := 0x30408 + 0x40 * k
abbrev R.PGR_STALL_CYCLES_HI (k : Nat) : Nat := 0x3040C + 0x40 * k
abbrev R.PGR_SQ_STALLS (k : Nat) : Nat := 0x30410 + 0x40 * k
abbrev R.PGR_SQ_MISPRED (k : Nat) : Nat := 0x30414 + 0x40 * k
abbrev R.PGR_SQ_STAT (k : Nat) : Nat := 0x30418 + 0x40 * k
abbrev F.PGR_SQ_STAT_FIRST_READY (k : Nat) : Fld := ⟨R.PGR_SQ_STAT k, 31, 31⟩
abbrev F.PGR_SQ_STAT_WALKING (k : Nat) : Fld := ⟨R.PGR_SQ_STAT k, 30, 30⟩
abbrev F.PGR_SQ_STAT_AHEAD_KIB (k : Nat) : Fld := ⟨R.PGR_SQ_STAT k, 23, 0⟩
abbrev R.PGR_SQ_MISS_LO (k : Nat) : Nat := 0x3041C + 0x40 * k
abbrev F.PGR_SQ_MISS_LO_VALUE (k : Nat) : Fld := ⟨R.PGR_SQ_MISS_LO k, 31, 12⟩
abbrev R.PGR_SQ_MISS_HI (k : Nat) : Nat := 0x30420 + 0x40 * k
abbrev F.PGR_SQ_MISS_HI_ADDR (k : Nat) : Fld := ⟨R.PGR_SQ_MISS_HI k, 9, 0⟩
abbrev R.PGR_SQ_HIST (k : Nat) : Nat := 0x30424 + 0x40 * k
abbrev F.PGR_SQ_HIST_CLEAR (k : Nat) : Fld := ⟨R.PGR_SQ_HIST k, 0, 0⟩
abbrev R.PGR_SQ_HSEED_ADDR_LO (k : Nat) : Nat := 0x30428 + 0x40 * k
abbrev F.PGR_SQ_HSEED_ADDR_LO_VALUE (k : Nat) : Fld := ⟨R.PGR_SQ_HSEED_ADDR_LO k, 31, 4⟩
abbrev R.PGR_SQ_HSEED_ADDR_HI (k : Nat) : Nat := 0x3042C + 0x40 * k
abbrev F.PGR_SQ_HSEED_ADDR_HI_ADDR (k : Nat) : Fld := ⟨R.PGR_SQ_HSEED_ADDR_HI k, 9, 0⟩
abbrev R.PGR_SQ_HSEED_VAL (k : Nat) : Nat := 0x30430 + 0x40 * k
abbrev F.PGR_SQ_HSEED_VAL_TAKEN (k : Nat) : Fld := ⟨R.PGR_SQ_HSEED_VAL k, 31, 31⟩
abbrev F.PGR_SQ_HSEED_VAL_REPS (k : Nat) : Fld := ⟨R.PGR_SQ_HSEED_VAL k, 23, 0⟩

/-! ### VC page -/
abbrev R.VC_FREE : Nat := 0x31040
abbrev F.VC_FREE_SLICES : Fld := ⟨R.VC_FREE, 5, 0⟩
abbrev R.VC_SQ_CFG (k : Nat) : Nat := 0x31400 + 0x20 * k
abbrev F.VC_SQ_CFG_PIN_LINES (k : Nat) : Fld := ⟨R.VC_SQ_CFG k, 29, 16⟩
abbrev F.VC_SQ_CFG_SLICES (k : Nat) : Fld := ⟨R.VC_SQ_CFG k, 4, 0⟩
abbrev R.VC_SQ_USED (k : Nat) : Nat := 0x31404 + 0x20 * k
abbrev F.VC_SQ_USED_PINNED (k : Nat) : Fld := ⟨R.VC_SQ_USED k, 29, 16⟩
abbrev F.VC_SQ_USED_VALID (k : Nat) : Fld := ⟨R.VC_SQ_USED k, 13, 0⟩
abbrev R.VC_SQ_MAX (k : Nat) : Nat := 0x31408 + 0x20 * k
abbrev F.VC_SQ_MAX_VALID (k : Nat) : Fld := ⟨R.VC_SQ_MAX k, 13, 0⟩
abbrev R.VC_SQ_FILLS (k : Nat) : Nat := 0x3140C + 0x20 * k
abbrev R.VC_SQ_MISSES (k : Nat) : Nat := 0x31410 + 0x20 * k

/-! ### CU page -/
abbrev R.CAP_SRC (n : Nat) : Nat := 0x40040 + 0x1000 * n
abbrev F.CAP_SRC_SEQ (n : Nat) : Fld := ⟨R.CAP_SRC n, 3, 0⟩
abbrev R.CAP_PMASK_LO (n : Nat) : Nat := 0x40044 + 0x1000 * n
abbrev R.CAP_PMASK_HI (n : Nat) : Nat := 0x40048 + 0x1000 * n
abbrev R.CAP_CFG (n : Nat) : Nat := 0x4004C + 0x1000 * n
abbrev F.CAP_CFG_RAW_FRAMES (n : Nat) : Fld := ⟨R.CAP_CFG n, 31, 16⟩
abbrev F.CAP_CFG_FLOG_FRAMES (n : Nat) : Fld := ⟨R.CAP_CFG n, 15, 8⟩
abbrev F.CAP_CFG_RAW_STROBE (n : Nat) : Fld := ⟨R.CAP_CFG n, 2, 2⟩
abbrev F.CAP_CFG_RAW_EN (n : Nat) : Fld := ⟨R.CAP_CFG n, 1, 1⟩
abbrev F.CAP_CFG_FLOG_EN (n : Nat) : Fld := ⟨R.CAP_CFG n, 0, 0⟩
abbrev R.TRG_CFG (n : Nat) : Nat := 0x40050 + 0x1000 * n
abbrev F.TRG_CFG_SEGS (n : Nat) : Fld := ⟨R.TRG_CFG n, 14, 8⟩
abbrev F.TRG_CFG_REARM (n : Nat) : Fld := ⟨R.TRG_CFG n, 2, 2⟩
abbrev F.TRG_CFG_MODE (n : Nat) : Fld := ⟨R.TRG_CFG n, 1, 0⟩
abbrev R.CAP_PRE (n : Nat) : Nat := 0x40054 + 0x1000 * n
abbrev R.CAP_POST (n : Nat) : Nat := 0x40058 + 0x1000 * n
abbrev R.CAP_PRE_EFF (n : Nat) : Nat := 0x4005C + 0x1000 * n
abbrev R.CAP_POST_EFF (n : Nat) : Nat := 0x40060 + 0x1000 * n
abbrev R.TRG_AUTO (n : Nat) : Nat := 0x40064 + 0x1000 * n
abbrev R.TRG_MARKID (n : Nat) : Nat := 0x40068 + 0x1000 * n
abbrev R.TRG_OUT (n : Nat) : Nat := 0x4006C + 0x1000 * n
abbrev F.TRG_OUT_WIDTH (n : Nat) : Fld := ⟨R.TRG_OUT n, 15, 8⟩
abbrev F.TRG_OUT_EN (n : Nat) : Fld := ⟨R.TRG_OUT n, 3, 3⟩
abbrev F.TRG_OUT_PIN (n : Nat) : Fld := ⟨R.TRG_OUT n, 2, 0⟩
abbrev R.TRG_STATE (n : Nat) : Nat := 0x40070 + 0x1000 * n
abbrev F.TRG_STATE_SEG (n : Nat) : Fld := ⟨R.TRG_STATE n, 13, 8⟩
abbrev F.TRG_STATE_PHASE (n : Nat) : Fld := ⟨R.TRG_STATE n, 6, 4⟩
abbrev F.TRG_STATE_STATE (n : Nat) : Fld := ⟨R.TRG_STATE n, 3, 0⟩
abbrev R.TRG_MISSED (n : Nat) : Nat := 0x40074 + 0x1000 * n
abbrev R.TRG_CYCLE_LO (n : Nat) : Nat := 0x40078 + 0x1000 * n
abbrev R.TRG_CYCLE_HI (n : Nat) : Nat := 0x4007C + 0x1000 * n
abbrev F.TRG_CYCLE_HI_VALUE (n : Nat) : Fld := ⟨R.TRG_CYCLE_HI n, 15, 0⟩
abbrev R.CAP_PRE_ACT (n : Nat) : Nat := 0x40080 + 0x1000 * n
abbrev R.CAP_FLAGS (n : Nat) : Nat := 0x40084 + 0x1000 * n
abbrev F.CAP_FLAGS_CUT (n : Nat) : Fld := ⟨R.CAP_FLAGS n, 6, 6⟩
abbrev F.CAP_FLAGS_STOPPED (n : Nat) : Fld := ⟨R.CAP_FLAGS n, 5, 5⟩
abbrev F.CAP_FLAGS_PRE_CLIPPED (n : Nat) : Fld := ⟨R.CAP_FLAGS n, 4, 4⟩
abbrev F.CAP_FLAGS_POST_CLIPPED (n : Nat) : Fld := ⟨R.CAP_FLAGS n, 3, 3⟩
abbrev F.CAP_FLAGS_PRE_SHORT (n : Nat) : Fld := ⟨R.CAP_FLAGS n, 2, 2⟩
abbrev F.CAP_FLAGS_FORCED (n : Nat) : Fld := ⟨R.CAP_FLAGS n, 1, 1⟩
abbrev F.CAP_FLAGS_TRIGGERED (n : Nat) : Fld := ⟨R.CAP_FLAGS n, 0, 0⟩
abbrev R.TRG_CT_CFG (n : Nat) (i : Nat) : Nat := 0x40088 + 0x1000 * n + 0x8 * i
abbrev F.TRG_CT_CFG_COND (n : Nat) (i : Nat) : Fld := ⟨R.TRG_CT_CFG n i, 7, 0⟩
abbrev R.TRG_CT_TERM (n : Nat) (i : Nat) : Nat := 0x4008C + 0x1000 * n + 0x8 * i
abbrev R.TRG_TM_LIM (n : Nat) (i : Nat) : Nat := 0x400A8 + 0x1000 * n + 0x4 * i
abbrev R.TRG_CT_VAL (n : Nat) (i : Nat) : Nat := 0x400B8 + 0x1000 * n + 0x4 * i
abbrev R.TRG_TM_VAL (n : Nat) (i : Nat) : Nat := 0x400C8 + 0x1000 * n + 0x4 * i
abbrev F.TRG_TM_VAL_RUN (n : Nat) (i : Nat) : Fld := ⟨R.TRG_TM_VAL n i, 31, 31⟩
abbrev F.TRG_TM_VAL_VALUE (n : Nat) (i : Nat) : Fld := ⟨R.TRG_TM_VAL n i, 30, 0⟩
abbrev R.CAP_LOST (n : Nat) : Nat := 0x400D8 + 0x1000 * n
abbrev R.CAP_ARM_STAT (n : Nat) : Nat := 0x400DC + 0x1000 * n
abbrev F.CAP_ARM_STAT_RESULT (n : Nat) : Fld := ⟨R.CAP_ARM_STAT n, 3, 0⟩
abbrev R.TRG_MASK_TG (n : Nat) : Nat := 0x40200 + 0x1000 * n
abbrev F.TRG_MASK_TG_TG (n : Nat) : Fld := ⟨R.TRG_MASK_TG n, 3, 0⟩
abbrev R.TRG_MASK_LO (n : Nat) : Nat := 0x40204 + 0x1000 * n
abbrev R.TRG_MASK_HI (n : Nat) : Nat := 0x40208 + 0x1000 * n
abbrev R.CAP_P_STAT (n : Nat) (k : Nat) : Nat := 0x40400 + 0x1000 * n + 0x30 * k
abbrev F.CAP_P_STAT_RELEASE (n : Nat) (k : Nat) : Fld := ⟨R.CAP_P_STAT n k, 31, 31⟩
abbrev F.CAP_P_STAT_ARMED (n : Nat) (k : Nat) : Fld := ⟨R.CAP_P_STAT n k, 30, 30⟩
abbrev F.CAP_P_STAT_RETAINED (n : Nat) (k : Nat) : Fld := ⟨R.CAP_P_STAT n k, 29, 29⟩
abbrev F.CAP_P_STAT_FLOG_FULL (n : Nat) (k : Nat) : Fld := ⟨R.CAP_P_STAT n k, 28, 28⟩
abbrev F.CAP_P_STAT_KINDS (n : Nat) (k : Nat) : Fld := ⟨R.CAP_P_STAT n k, 10, 8⟩
abbrev F.CAP_P_STAT_DUT_FAIL (n : Nat) (k : Nat) : Fld := ⟨R.CAP_P_STAT n k, 4, 4⟩
abbrev F.CAP_P_STAT_FIRST_VALID (n : Nat) (k : Nat) : Fld := ⟨R.CAP_P_STAT n k, 3, 3⟩
abbrev F.CAP_P_STAT_STATUS (n : Nat) (k : Nat) : Fld := ⟨R.CAP_P_STAT n k, 2, 0⟩
abbrev R.CAP_P_FLOG_BASE (n : Nat) (k : Nat) : Nat := 0x40404 + 0x1000 * n + 0x30 * k
abbrev F.CAP_P_FLOG_BASE_FRAME (n : Nat) (k : Nat) : Fld := ⟨R.CAP_P_FLOG_BASE n k, 17, 0⟩
abbrev R.CAP_P_FLOG_WR (n : Nat) (k : Nat) : Nat := 0x40408 + 0x1000 * n + 0x30 * k
abbrev R.CAP_P_FLOG_RD (n : Nat) (k : Nat) : Nat := 0x4040C + 0x1000 * n + 0x30 * k
abbrev R.CAP_P_FLOG_MAX (n : Nat) (k : Nat) : Nat := 0x40410 + 0x1000 * n + 0x30 * k
abbrev R.CAP_P_RAW_BASE (n : Nat) (k : Nat) : Nat := 0x40414 + 0x1000 * n + 0x30 * k
abbrev F.CAP_P_RAW_BASE_FRAME (n : Nat) (k : Nat) : Fld := ⟨R.CAP_P_RAW_BASE n k, 17, 0⟩
abbrev R.CAP_P_FIRST_LO (n : Nat) (k : Nat) : Nat := 0x40418 + 0x1000 * n + 0x30 * k
abbrev R.CAP_P_FIRST_HI (n : Nat) (k : Nat) : Nat := 0x4041C + 0x1000 * n + 0x30 * k
abbrev F.CAP_P_FIRST_HI_MTO_COUNT (n : Nat) (k : Nat) : Fld := ⟨R.CAP_P_FIRST_HI n k, 31, 16⟩
abbrev F.CAP_P_FIRST_HI_VALUE (n : Nat) (k : Nat) : Fld := ⟨R.CAP_P_FIRST_HI n k, 15, 0⟩
abbrev R.CAP_P_CMP_LO (n : Nat) (k : Nat) : Nat := 0x40420 + 0x1000 * n + 0x30 * k
abbrev R.CAP_P_CMP_HI (n : Nat) (k : Nat) : Nat := 0x40424 + 0x1000 * n + 0x30 * k
abbrev F.CAP_P_CMP_HI_VALUE (n : Nat) (k : Nat) : Fld := ⟨R.CAP_P_CMP_HI n k, 15, 0⟩
abbrev R.CAP_P_FAILC_LO (n : Nat) (k : Nat) : Nat := 0x40428 + 0x1000 * n + 0x30 * k
abbrev R.CAP_P_FAILC_HI (n : Nat) (k : Nat) : Nat := 0x4042C + 0x1000 * n + 0x30 * k
abbrev F.CAP_P_FAILC_HI_VALUE (n : Nat) (k : Nat) : Fld := ⟨R.CAP_P_FAILC_HI n k, 15, 0⟩

/-! ### TIA page -/
abbrev R.TIA_TCNT_LO (n : Nat) : Nat := 0x50040 + 0x1000 * n
abbrev R.TIA_TCNT_HI (n : Nat) : Nat := 0x50044 + 0x1000 * n
abbrev F.TIA_TCNT_HI_EPOCH (n : Nat) : Fld := ⟨R.TIA_TCNT_HI n, 31, 24⟩
abbrev F.TIA_TCNT_HI_TCNT (n : Nat) : Fld := ⟨R.TIA_TCNT_HI n, 23, 0⟩
abbrev R.TIA_CAL_CFG (n : Nat) : Nat := 0x50048 + 0x1000 * n
abbrev F.TIA_CAL_CFG_HITS_LOG2 (n : Nat) : Fld := ⟨R.TIA_CAL_CFG n, 4, 0⟩
abbrev R.TIA_GEN (n : Nat) : Nat := 0x5004C + 0x1000 * n
abbrev F.TIA_GEN_GEN (n : Nat) : Fld := ⟨R.TIA_GEN n, 7, 0⟩
abbrev R.TU_CTRL (n : Nat) (k : Nat) : Nat := 0x50080 + 0x1000 * n + 0x40 * k
abbrev F.TU_CTRL_TMO_EN (n : Nat) (k : Nat) : Fld := ⟨R.TU_CTRL n k, 3, 3⟩
abbrev F.TU_CTRL_DISARM (n : Nat) (k : Nat) : Fld := ⟨R.TU_CTRL n k, 2, 2⟩
abbrev F.TU_CTRL_ARM (n : Nat) (k : Nat) : Fld := ⟨R.TU_CTRL n k, 1, 1⟩
abbrev F.TU_CTRL_EN (n : Nat) (k : Nat) : Fld := ⟨R.TU_CTRL n k, 0, 0⟩
abbrev R.TU_START_CFG (n : Nat) (k : Nat) : Nat := 0x50084 + 0x1000 * n + 0x40 * k
abbrev F.TU_START_CFG_SKIP (n : Nat) (k : Nat) : Fld := ⟨R.TU_START_CFG n k, 31, 16⟩
abbrev F.TU_START_CFG_EDGE (n : Nat) (k : Nat) : Fld := ⟨R.TU_START_CFG n k, 15, 14⟩
abbrev F.TU_START_CFG_SRC (n : Nat) (k : Nat) : Fld := ⟨R.TU_START_CFG n k, 9, 0⟩
abbrev R.TU_STOP_CFG (n : Nat) (k : Nat) : Nat := 0x50088 + 0x1000 * n + 0x40 * k
abbrev F.TU_STOP_CFG_SKIP (n : Nat) (k : Nat) : Fld := ⟨R.TU_STOP_CFG n k, 31, 16⟩
abbrev F.TU_STOP_CFG_EDGE (n : Nat) (k : Nat) : Fld := ⟨R.TU_STOP_CFG n k, 15, 14⟩
abbrev F.TU_STOP_CFG_SRC (n : Nat) (k : Nat) : Fld := ⟨R.TU_STOP_CFG n k, 9, 0⟩
abbrev F.TU_STOP_CFG_ARM_AFTER (n : Nat) (k : Nat) : Fld := ⟨R.TU_STOP_CFG n k, 13, 13⟩
abbrev R.TU_TMO (n : Nat) (k : Nat) : Nat := 0x5008C + 0x1000 * n + 0x40 * k
abbrev R.TU_STAT (n : Nat) (k : Nat) : Nat := 0x50090 + 0x1000 * n + 0x40 * k
abbrev F.TU_STAT_GEN (n : Nat) (k : Nat) : Fld := ⟨R.TU_STAT n k, 31, 24⟩
abbrev F.TU_STAT_STALE (n : Nat) (k : Nat) : Fld := ⟨R.TU_STAT n k, 12, 12⟩
abbrev F.TU_STAT_CANCEL (n : Nat) (k : Nat) : Fld := ⟨R.TU_STAT n k, 11, 11⟩
abbrev F.TU_STAT_STOP_MISS (n : Nat) (k : Nat) : Fld := ⟨R.TU_STAT n k, 10, 10⟩
abbrev F.TU_STAT_START_MISS (n : Nat) (k : Nat) : Fld := ⟨R.TU_STAT n k, 9, 9⟩
abbrev F.TU_STAT_TOO_CLOSE_STOP (n : Nat) (k : Nat) : Fld := ⟨R.TU_STAT n k, 8, 8⟩
abbrev F.TU_STAT_TOO_CLOSE_START (n : Nat) (k : Nat) : Fld := ⟨R.TU_STAT n k, 7, 7⟩
abbrev F.TU_STAT_ORDER (n : Nat) (k : Nat) : Fld := ⟨R.TU_STAT n k, 6, 6⟩
abbrev F.TU_STAT_COINCIDENT (n : Nat) (k : Nat) : Fld := ⟨R.TU_STAT n k, 5, 5⟩
abbrev F.TU_STAT_STOP_TAKEN (n : Nat) (k : Nat) : Fld := ⟨R.TU_STAT n k, 4, 4⟩
abbrev F.TU_STAT_START_TAKEN (n : Nat) (k : Nat) : Fld := ⟨R.TU_STAT n k, 3, 3⟩
abbrev F.TU_STAT_STATE (n : Nat) (k : Nat) : Fld := ⟨R.TU_STAT n k, 2, 0⟩
abbrev R.TU_START_C_LO (n : Nat) (k : Nat) : Nat := 0x50094 + 0x1000 * n + 0x40 * k
abbrev R.TU_START_C_HI (n : Nat) (k : Nat) : Nat := 0x50098 + 0x1000 * n + 0x40 * k
abbrev F.TU_START_C_HI_FINE (n : Nat) (k : Nat) : Fld := ⟨R.TU_START_C_HI n k, 31, 24⟩
abbrev F.TU_START_C_HI_COARSE (n : Nat) (k : Nat) : Fld := ⟨R.TU_START_C_HI n k, 23, 0⟩
abbrev R.TU_START_IT_LO (n : Nat) (k : Nat) : Nat := 0x5009C + 0x1000 * n + 0x40 * k
abbrev R.TU_START_IT_HI (n : Nat) (k : Nat) : Nat := 0x500A0 + 0x1000 * n + 0x40 * k
abbrev R.TU_STOP_C_LO (n : Nat) (k : Nat) : Nat := 0x500A4 + 0x1000 * n + 0x40 * k
abbrev R.TU_STOP_C_HI (n : Nat) (k : Nat) : Nat := 0x500A8 + 0x1000 * n + 0x40 * k
abbrev F.TU_STOP_C_HI_FINE (n : Nat) (k : Nat) : Fld := ⟨R.TU_STOP_C_HI n k, 31, 24⟩
abbrev F.TU_STOP_C_HI_COARSE (n : Nat) (k : Nat) : Fld := ⟨R.TU_STOP_C_HI n k, 23, 0⟩
abbrev R.TU_STOP_IT_LO (n : Nat) (k : Nat) : Nat := 0x500AC + 0x1000 * n + 0x40 * k
abbrev R.TU_STOP_IT_HI (n : Nat) (k : Nat) : Nat := 0x500B0 + 0x1000 * n + 0x40 * k
abbrev R.TU_EDGES (n : Nat) (k : Nat) : Nat := 0x500B4 + 0x1000 * n + 0x40 * k
abbrev F.TU_EDGES_STOP (n : Nat) (k : Nat) : Fld := ⟨R.TU_EDGES n k, 31, 16⟩
abbrev F.TU_EDGES_START (n : Nat) (k : Nat) : Fld := ⟨R.TU_EDGES n k, 15, 0⟩
abbrev R.TU_CAL_INFO (n : Nat) (k : Nat) : Nat := 0x500B8 + 0x1000 * n + 0x40 * k
abbrev F.TU_CAL_INFO_STOP_NBINS (n : Nat) (k : Nat) : Fld := ⟨R.TU_CAL_INFO n k, 31, 24⟩
abbrev F.TU_CAL_INFO_STOP_MAXW (n : Nat) (k : Nat) : Fld := ⟨R.TU_CAL_INFO n k, 23, 16⟩
abbrev F.TU_CAL_INFO_START_NBINS (n : Nat) (k : Nat) : Fld := ⟨R.TU_CAL_INFO n k, 15, 8⟩
abbrev F.TU_CAL_INFO_START_MAXW (n : Nat) (k : Nat) : Fld := ⟨R.TU_CAL_INFO n k, 7, 0⟩
abbrev R.TU_GEN (n : Nat) (k : Nat) : Nat := 0x500BC + 0x1000 * n + 0x40 * k
abbrev F.TU_GEN_STOP_GEN (n : Nat) (k : Nat) : Fld := ⟨R.TU_GEN n k, 15, 8⟩
abbrev F.TU_GEN_START_GEN (n : Nat) (k : Nat) : Fld := ⟨R.TU_GEN n k, 7, 0⟩
abbrev R.TU_BIN_START (n : Nat) (k : Nat) (i : Nat) : Nat := 0x50400 + 0x1000 * n + 0x180 * k + 0x4 * i
abbrev R.TU_BIN_STOP (n : Nat) (k : Nat) (i : Nat) : Nat := 0x504C0 + 0x1000 * n + 0x180 * k + 0x4 * i

/-! ### DEC page -/
abbrev R.DEC_CLK_CFG (n : Nat) : Nat := 0x60040 + 0x1000 * n
abbrev F.DEC_CLK_CFG_EDGE (n : Nat) : Fld := ⟨R.DEC_CLK_CFG n, 0, 0⟩
abbrev R.DEC_CLK_STAT (n : Nat) : Nat := 0x60044 + 0x1000 * n
abbrev F.DEC_CLK_STAT_NO_CLOCK (n : Nat) : Fld := ⟨R.DEC_CLK_STAT n, 31, 31⟩
abbrev F.DEC_CLK_STAT_OVERCLOCK (n : Nat) : Fld := ⟨R.DEC_CLK_STAT n, 30, 30⟩
abbrev F.DEC_CLK_STAT_FREQ_KHZ (n : Nat) : Fld := ⟨R.DEC_CLK_STAT n, 15, 0⟩
abbrev R.DEC_CLK_LOSS (n : Nat) : Nat := 0x60048 + 0x1000 * n
abbrev R.DEC_CH_CTRL (n : Nat) (k : Nat) : Nat := 0x60100 + 0x1000 * n + 0x100 * k
abbrev F.DEC_CH_CTRL_RESTART (n : Nat) (k : Nat) : Fld := ⟨R.DEC_CH_CTRL n k, 2, 2⟩
abbrev F.DEC_CH_CTRL_EN (n : Nat) (k : Nat) : Fld := ⟨R.DEC_CH_CTRL n k, 0, 0⟩
abbrev R.DEC_CH_CFG (n : Nat) (k : Nat) : Nat := 0x60104 + 0x1000 * n + 0x100 * k
abbrev F.DEC_CH_CFG_INV (n : Nat) (k : Nat) : Fld := ⟨R.DEC_CH_CFG n k, 23, 23⟩
abbrev F.DEC_CH_CFG_INPUT (n : Nat) (k : Nat) : Fld := ⟨R.DEC_CH_CFG n k, 22, 20⟩
abbrev F.DEC_CH_CFG_RANGE (n : Nat) (k : Nat) : Fld := ⟨R.DEC_CH_CFG n k, 17, 16⟩
abbrev F.DEC_CH_CFG_POST_OSR (n : Nat) (k : Nat) : Fld := ⟨R.DEC_CH_CFG n k, 13, 8⟩
abbrev F.DEC_CH_CFG_PRESET (n : Nat) (k : Nat) : Fld := ⟨R.DEC_CH_CFG n k, 2, 0⟩
abbrev R.DEC_DET_CFG (n : Nat) (k : Nat) : Nat := 0x60108 + 0x1000 * n + 0x100 * k
abbrev F.DEC_DET_CFG_RELEASE (n : Nat) (k : Nat) : Fld := ⟨R.DEC_DET_CFG n k, 23, 20⟩
abbrev F.DEC_DET_CFG_ATTACK (n : Nat) (k : Nat) : Fld := ⟨R.DEC_DET_CFG n k, 19, 16⟩
abbrev F.DEC_DET_CFG_RMS_LOG2 (n : Nat) (k : Nat) : Fld := ⟨R.DEC_DET_CFG n k, 12, 8⟩
abbrev F.DEC_DET_CFG_PK_LOG2 (n : Nat) (k : Nat) : Fld := ⟨R.DEC_DET_CFG n k, 4, 0⟩
abbrev R.DEC_CH_OUT (n : Nat) (k : Nat) : Nat := 0x6010C + 0x1000 * n + 0x100 * k
abbrev F.DEC_CH_OUT_EN (n : Nat) (k : Nat) : Fld := ⟨R.DEC_CH_OUT n k, 8, 8⟩
abbrev F.DEC_CH_OUT_QUEUE (n : Nat) (k : Nat) : Fld := ⟨R.DEC_CH_OUT n k, 5, 0⟩
abbrev R.DEC_CH_GAIN (n : Nat) (k : Nat) (i : Nat) : Nat := 0x60110 + 0x1000 * n + 0x100 * k + 0x4 * i
abbrev F.DEC_CH_GAIN_GAIN (n : Nat) (k : Nat) (i : Nat) : Fld := ⟨R.DEC_CH_GAIN n k i, 23, 0⟩
abbrev R.DEC_CH_OFFSET (n : Nat) (k : Nat) (i : Nat) : Nat := 0x60120 + 0x1000 * n + 0x100 * k + 0x4 * i
abbrev F.DEC_CH_OFFSET_OFFSET (n : Nat) (k : Nat) (i : Nat) : Fld := ⟨R.DEC_CH_OFFSET n k i, 23, 0⟩
abbrev R.DEC_CH_CAL_OFS (n : Nat) (k : Nat) (i : Nat) : Nat := 0x60130 + 0x1000 * n + 0x100 * k + 0x4 * i
abbrev F.DEC_CH_CAL_OFS_CAL_OFS (n : Nat) (k : Nat) (i : Nat) : Fld := ⟨R.DEC_CH_CAL_OFS n k i, 23, 0⟩
abbrev R.DEC_CH_SWAP (n : Nat) (k : Nat) : Nat := 0x60140 + 0x1000 * n + 0x100 * k
abbrev F.DEC_CH_SWAP_TARGET (n : Nat) (k : Nat) : Fld := ⟨R.DEC_CH_SWAP n k, 16, 16⟩
abbrev F.DEC_CH_SWAP_XFADE (n : Nat) (k : Nat) : Fld := ⟨R.DEC_CH_SWAP n k, 11, 0⟩
abbrev R.DEC_CH_SWAP_STAT (n : Nat) (k : Nat) : Nat := 0x60144 + 0x1000 * n + 0x100 * k
abbrev F.DEC_CH_SWAP_STAT_ACTIVE (n : Nat) (k : Nat) : Fld := ⟨R.DEC_CH_SWAP_STAT n k, 31, 31⟩
abbrev F.DEC_CH_SWAP_STAT_FADING (n : Nat) (k : Nat) : Fld := ⟨R.DEC_CH_SWAP_STAT n k, 30, 30⟩
abbrev F.DEC_CH_SWAP_STAT_PENDING (n : Nat) (k : Nat) : Fld := ⟨R.DEC_CH_SWAP_STAT n k, 29, 29⟩
abbrev F.DEC_CH_SWAP_STAT_PEND_TARGET (n : Nat) (k : Nat) : Fld := ⟨R.DEC_CH_SWAP_STAT n k, 28, 28⟩
abbrev F.DEC_CH_SWAP_STAT_RESULT (n : Nat) (k : Nat) : Fld := ⟨R.DEC_CH_SWAP_STAT n k, 27, 24⟩
abbrev F.DEC_CH_SWAP_STAT_FADE_LEFT (n : Nat) (k : Nat) : Fld := ⟨R.DEC_CH_SWAP_STAT n k, 11, 0⟩
abbrev R.DEC_SWAP_DEFERRED (n : Nat) (k : Nat) : Nat := 0x60148 + 0x1000 * n + 0x100 * k
abbrev R.DEC_CH_STAT (n : Nat) (k : Nat) : Nat := 0x6014C + 0x1000 * n + 0x100 * k
abbrev F.DEC_CH_STAT_LIM_HI (n : Nat) (k : Nat) : Fld := ⟨R.DEC_CH_STAT n k, 31, 31⟩
abbrev F.DEC_CH_STAT_LIM_LO (n : Nat) (k : Nat) : Fld := ⟨R.DEC_CH_STAT n k, 30, 30⟩
abbrev F.DEC_CH_STAT_SAT (n : Nat) (k : Nat) : Fld := ⟨R.DEC_CH_STAT n k, 29, 29⟩
abbrev F.DEC_CH_STAT_STALE (n : Nat) (k : Nat) : Fld := ⟨R.DEC_CH_STAT n k, 28, 28⟩
abbrev F.DEC_CH_STAT_SETTLE_LEFT (n : Nat) (k : Nat) : Fld := ⟨R.DEC_CH_STAT n k, 23, 12⟩
abbrev F.DEC_CH_STAT_STATE (n : Nat) (k : Nat) : Fld := ⟨R.DEC_CH_STAT n k, 2, 0⟩
abbrev R.DEC_CH_VAL (n : Nat) (k : Nat) : Nat := 0x60150 + 0x1000 * n + 0x100 * k
abbrev F.DEC_CH_VAL_BANK (n : Nat) (k : Nat) : Fld := ⟨R.DEC_CH_VAL n k, 29, 29⟩
abbrev F.DEC_CH_VAL_RANGE (n : Nat) (k : Nat) : Fld := ⟨R.DEC_CH_VAL n k, 28, 27⟩
abbrev F.DEC_CH_VAL_FADE (n : Nat) (k : Nat) : Fld := ⟨R.DEC_CH_VAL n k, 26, 26⟩
abbrev F.DEC_CH_VAL_FIRST (n : Nat) (k : Nat) : Fld := ⟨R.DEC_CH_VAL n k, 25, 25⟩
abbrev F.DEC_CH_VAL_SAT (n : Nat) (k : Nat) : Fld := ⟨R.DEC_CH_VAL n k, 24, 24⟩
abbrev F.DEC_CH_VAL_VALUE (n : Nat) (k : Nat) : Fld := ⟨R.DEC_CH_VAL n k, 23, 0⟩
abbrev R.DEC_CH_VSTAMP_LO (n : Nat) (k : Nat) : Nat := 0x60154 + 0x1000 * n + 0x100 * k
abbrev R.DEC_CH_VSTAMP_HI (n : Nat) (k : Nat) : Nat := 0x60158 + 0x1000 * n + 0x100 * k
abbrev R.DEC_CH_SEQ (n : Nat) (k : Nat) : Nat := 0x6015C + 0x1000 * n + 0x100 * k
abbrev F.DEC_CH_SEQ_SEQ (n : Nat) (k : Nat) : Fld := ⟨R.DEC_CH_SEQ n k, 15, 0⟩
abbrev R.DEC_CH_DROP (n : Nat) (k : Nat) : Nat := 0x60160 + 0x1000 * n + 0x100 * k
abbrev R.DEC_CH_SUPP (n : Nat) (k : Nat) : Nat := 0x60164 + 0x1000 * n + 0x100 * k
abbrev R.DEC_DET_PKMAX (n : Nat) (k : Nat) : Nat := 0x60168 + 0x1000 * n + 0x100 * k
abbrev F.DEC_DET_PKMAX_VALUE (n : Nat) (k : Nat) : Fld := ⟨R.DEC_DET_PKMAX n k, 23, 0⟩
abbrev R.DEC_DET_PKMIN (n : Nat) (k : Nat) : Nat := 0x6016C + 0x1000 * n + 0x100 * k
abbrev F.DEC_DET_PKMIN_VALUE (n : Nat) (k : Nat) : Fld := ⟨R.DEC_DET_PKMIN n k, 23, 0⟩
abbrev R.DEC_DET_PKSTAMP_LO (n : Nat) (k : Nat) : Nat := 0x60170 + 0x1000 * n + 0x100 * k
abbrev R.DEC_DET_PKSTAMP_HI (n : Nat) (k : Nat) : Nat := 0x60174 + 0x1000 * n + 0x100 * k
abbrev R.DEC_DET_MS_LO (n : Nat) (k : Nat) : Nat := 0x60178 + 0x1000 * n + 0x100 * k
abbrev R.DEC_DET_MS_HI (n : Nat) (k : Nat) : Nat := 0x6017C + 0x1000 * n + 0x100 * k
abbrev F.DEC_DET_MS_HI_VALUE (n : Nat) (k : Nat) : Fld := ⟨R.DEC_DET_MS_HI n k, 15, 0⟩
abbrev R.DEC_DET_RMS (n : Nat) (k : Nat) : Nat := 0x60180 + 0x1000 * n + 0x100 * k
abbrev F.DEC_DET_RMS_VALUE (n : Nat) (k : Nat) : Fld := ⟨R.DEC_DET_RMS n k, 23, 0⟩
abbrev R.DEC_DET_ENV (n : Nat) (k : Nat) : Nat := 0x60184 + 0x1000 * n + 0x100 * k
abbrev F.DEC_DET_ENV_VALUE (n : Nat) (k : Nat) : Fld := ⟨R.DEC_DET_ENV n k, 23, 0⟩
abbrev R.DEC_DET_LIMIT_HI (n : Nat) (k : Nat) : Nat := 0x60188 + 0x1000 * n + 0x100 * k
abbrev F.DEC_DET_LIMIT_HI_VALUE (n : Nat) (k : Nat) : Fld := ⟨R.DEC_DET_LIMIT_HI n k, 23, 0⟩
abbrev R.DEC_DET_LIMIT_LO (n : Nat) (k : Nat) : Nat := 0x6018C + 0x1000 * n + 0x100 * k
abbrev F.DEC_DET_LIMIT_LO_VALUE (n : Nat) (k : Nat) : Fld := ⟨R.DEC_DET_LIMIT_LO n k, 23, 0⟩
abbrev R.DEC_DET_LIMSTAMP_LO (n : Nat) (k : Nat) : Nat := 0x60190 + 0x1000 * n + 0x100 * k
abbrev R.DEC_DET_LIMSTAMP_HI (n : Nat) (k : Nat) : Nat := 0x60194 + 0x1000 * n + 0x100 * k

/-! ### SYN page -/
abbrev R.SYN_CTRL (n : Nat) : Nat := 0x70040 + 0x1000 * n
abbrev F.SYN_CTRL_STOP (n : Nat) : Fld := ⟨R.SYN_CTRL n, 2, 2⟩
abbrev F.SYN_CTRL_START (n : Nat) : Fld := ⟨R.SYN_CTRL n, 1, 1⟩
abbrev F.SYN_CTRL_EN (n : Nat) : Fld := ⟨R.SYN_CTRL n, 0, 0⟩
abbrev R.SYN_CFG (n : Nat) : Nat := 0x70044 + 0x1000 * n
abbrev F.SYN_CFG_SDIV (n : Nat) : Fld := ⟨R.SYN_CFG n, 31, 16⟩
abbrev F.SYN_CFG_OUT (n : Nat) : Fld := ⟨R.SYN_CFG n, 13, 12⟩
abbrev F.SYN_CFG_FIRST_SEG (n : Nat) : Fld := ⟨R.SYN_CFG n, 7, 0⟩
abbrev R.SYN_START (n : Nat) : Nat := 0x70048 + 0x1000 * n
abbrev F.SYN_START_ARG (n : Nat) : Fld := ⟨R.SYN_START n, 11, 8⟩
abbrev F.SYN_START_SRC (n : Nat) : Fld := ⟨R.SYN_START n, 5, 4⟩
abbrev R.SYN_START_TIME_LO (n : Nat) : Nat := 0x7004C + 0x1000 * n
abbrev R.SYN_START_TIME_HI (n : Nat) : Nat := 0x70050 + 0x1000 * n
abbrev R.SYN_PIN (n : Nat) : Nat := 0x70054 + 0x1000 * n
abbrev F.SYN_PIN_EN_B (n : Nat) : Fld := ⟨R.SYN_PIN n, 31, 31⟩
abbrev F.SYN_PIN_PIN_B (n : Nat) : Fld := ⟨R.SYN_PIN n, 23, 16⟩
abbrev F.SYN_PIN_EN_A (n : Nat) : Fld := ⟨R.SYN_PIN n, 15, 15⟩
abbrev F.SYN_PIN_PIN_A (n : Nat) : Fld := ⟨R.SYN_PIN n, 7, 0⟩
abbrev R.SYN_JUMP (n : Nat) : Nat := 0x70058 + 0x1000 * n
abbrev F.SYN_JUMP_MODE (n : Nat) : Fld := ⟨R.SYN_JUMP n, 17, 16⟩
abbrev F.SYN_JUMP_TARGET (n : Nat) : Fld := ⟨R.SYN_JUMP n, 7, 0⟩
abbrev R.SYN_JUMP_TRIG (n : Nat) : Nat := 0x7005C + 0x1000 * n
abbrev F.SYN_JUMP_TRIG_EN (n : Nat) : Fld := ⟨R.SYN_JUMP_TRIG n, 31, 31⟩
abbrev F.SYN_JUMP_TRIG_MODE (n : Nat) : Fld := ⟨R.SYN_JUMP_TRIG n, 17, 16⟩
abbrev F.SYN_JUMP_TRIG_TRIG (n : Nat) : Fld := ⟨R.SYN_JUMP_TRIG n, 10, 8⟩
abbrev F.SYN_JUMP_TRIG_TARGET (n : Nat) : Fld := ⟨R.SYN_JUMP_TRIG n, 7, 0⟩
abbrev R.SYN_JUMP_STAT (n : Nat) : Nat := 0x70060 + 0x1000 * n
abbrev F.SYN_JUMP_STAT_PENDING (n : Nat) : Fld := ⟨R.SYN_JUMP_STAT n, 31, 31⟩
abbrev F.SYN_JUMP_STAT_PEND_MODE (n : Nat) : Fld := ⟨R.SYN_JUMP_STAT n, 30, 30⟩
abbrev F.SYN_JUMP_STAT_PEND_TARGET (n : Nat) : Fld := ⟨R.SYN_JUMP_STAT n, 15, 8⟩
abbrev F.SYN_JUMP_STAT_LAST_TARGET (n : Nat) : Fld := ⟨R.SYN_JUMP_STAT n, 7, 0⟩
abbrev R.SYN_JUMP_REPL (n : Nat) : Nat := 0x70064 + 0x1000 * n
abbrev R.SYN_STAT (n : Nat) : Nat := 0x70068 + 0x1000 * n
abbrev F.SYN_STAT_SEG (n : Nat) : Fld := ⟨R.SYN_STAT n, 31, 24⟩
abbrev F.SYN_STAT_XFADING (n : Nat) : Fld := ⟨R.SYN_STAT n, 23, 23⟩
abbrev F.SYN_STAT_SAT (n : Nat) : Fld := ⟨R.SYN_STAT n, 22, 22⟩
abbrev F.SYN_STAT_LATE_START (n : Nat) : Fld := ⟨R.SYN_STAT n, 21, 21⟩
abbrev F.SYN_STAT_STATE (n : Nat) : Fld := ⟨R.SYN_STAT n, 2, 0⟩
abbrev R.SYN_POS (n : Nat) : Nat := 0x7006C + 0x1000 * n
abbrev R.SYN_ACC_LO (n : Nat) : Nat := 0x70070 + 0x1000 * n
abbrev R.SYN_ACC_HI (n : Nat) : Nat := 0x70074 + 0x1000 * n
abbrev F.SYN_ACC_HI_VALUE (n : Nat) : Fld := ⟨R.SYN_ACC_HI n, 15, 0⟩
abbrev R.SYN_SAMPLES_LO (n : Nat) : Nat := 0x70078 + 0x1000 * n
abbrev R.SYN_SAMPLES_HI (n : Nat) : Nat := 0x7007C + 0x1000 * n
abbrev R.SYN_MKR_CFG (n : Nat) (i : Nat) : Nat := 0x70080 + 0x1000 * n + 0x8 * i
abbrev F.SYN_MKR_CFG_EN (n : Nat) (i : Nat) : Fld := ⟨R.SYN_MKR_CFG n i, 31, 31⟩
abbrev F.SYN_MKR_CFG_SEG (n : Nat) (i : Nat) : Fld := ⟨R.SYN_MKR_CFG n i, 27, 20⟩
abbrev F.SYN_MKR_CFG_OFFSET (n : Nat) (i : Nat) : Fld := ⟨R.SYN_MKR_CFG n i, 19, 0⟩
abbrev R.SYN_MKR_OUT (n : Nat) (i : Nat) : Nat := 0x70084 + 0x1000 * n + 0x8 * i
abbrev F.SYN_MKR_OUT_WIDTH (n : Nat) (i : Nat) : Fld := ⟨R.SYN_MKR_OUT n i, 15, 8⟩
abbrev F.SYN_MKR_OUT_EN (n : Nat) (i : Nat) : Fld := ⟨R.SYN_MKR_OUT n i, 3, 3⟩
abbrev F.SYN_MKR_OUT_PIN (n : Nat) (i : Nat) : Fld := ⟨R.SYN_MKR_OUT n i, 2, 0⟩
abbrev R.SYN_MKR_STAMP_LO (n : Nat) (i : Nat) : Nat := 0x700A0 + 0x1000 * n + 0x8 * i
abbrev R.SYN_MKR_STAMP_HI (n : Nat) (i : Nat) : Nat := 0x700A4 + 0x1000 * n + 0x8 * i
abbrev R.DP_CFG (n : Nat) : Nat := 0x70100 + 0x1000 * n
abbrev F.DP_CFG_EN (n : Nat) : Fld := ⟨R.DP_CFG n, 31, 31⟩
abbrev F.DP_CFG_SRC (n : Nat) : Fld := ⟨R.DP_CFG n, 27, 24⟩
abbrev F.DP_CFG_FMT (n : Nat) : Fld := ⟨R.DP_CFG n, 16, 16⟩
abbrev R.DP_CLK (n : Nat) : Nat := 0x70104 + 0x1000 * n
abbrev F.DP_CLK_CLKOFS (n : Nat) : Fld := ⟨R.DP_CLK n, 15, 0⟩
abbrev R.DP_IDLE (n : Nat) : Nat := 0x70108 + 0x1000 * n
abbrev F.DP_IDLE_CODE (n : Nat) : Fld := ⟨R.DP_IDLE n, 15, 0⟩
abbrev R.DP_STAT (n : Nat) : Nat := 0x7010C + 0x1000 * n
abbrev F.DP_STAT_ACTIVE (n : Nat) : Fld := ⟨R.DP_STAT n, 31, 31⟩
abbrev F.DP_STAT_LAST (n : Nat) : Fld := ⟨R.DP_STAT n, 15, 0⟩

/-! ### HART page -/
abbrev R.HART_BOOT_LO (n : Nat) : Nat := 0x84040 + 0x1000 * n
abbrev F.HART_BOOT_LO_ADDR (n : Nat) : Fld := ⟨R.HART_BOOT_LO n, 31, 1⟩
abbrev R.HART_BOOT_HI (n : Nat) : Nat := 0x84044 + 0x1000 * n
abbrev F.HART_BOOT_HI_ADDR (n : Nat) : Fld := ⟨R.HART_BOOT_HI n, 8, 0⟩
abbrev R.HART_NMI_LO (n : Nat) : Nat := 0x84048 + 0x1000 * n
abbrev F.HART_NMI_LO_ADDR (n : Nat) : Fld := ⟨R.HART_NMI_LO n, 31, 1⟩
abbrev R.HART_NMI_HI (n : Nat) : Nat := 0x8404C + 0x1000 * n
abbrev F.HART_NMI_HI_ADDR (n : Nat) : Fld := ⟨R.HART_NMI_HI n, 8, 0⟩
abbrev R.HART_STAT (n : Nat) : Nat := 0x84050 + 0x1000 * n
abbrev F.HART_STAT_STATE (n : Nat) : Fld := ⟨R.HART_STAT n, 2, 0⟩
abbrev R.HART_MSIP (n : Nat) : Nat := 0x84054 + 0x1000 * n
abbrev F.HART_MSIP_MSIP (n : Nat) : Fld := ⟨R.HART_MSIP n, 0, 0⟩
abbrev R.HART_TIMECMP_LO (n : Nat) : Nat := 0x84058 + 0x1000 * n
abbrev R.HART_TIMECMP_HI (n : Nat) : Nat := 0x8405C + 0x1000 * n
abbrev R.HART_SCHED_CMD (n : Nat) : Nat := 0x84060 + 0x1000 * n
abbrev F.HART_SCHED_CMD_OP (n : Nat) : Fld := ⟨R.HART_SCHED_CMD n, 3, 0⟩
abbrev R.HART_SCHED_MASK (n : Nat) : Nat := 0x84064 + 0x1000 * n
abbrev R.HART_SCHED_WCFG (n : Nat) : Nat := 0x84068 + 0x1000 * n
abbrev F.HART_SCHED_WCFG_MODE (n : Nat) : Fld := ⟨R.HART_SCHED_WCFG n, 31, 31⟩
abbrev F.HART_SCHED_WCFG_TMO_US (n : Nat) : Fld := ⟨R.HART_SCHED_WCFG n, 23, 0⟩
abbrev R.HART_SCHED_CUR (n : Nat) : Nat := 0x8406C + 0x1000 * n
abbrev F.HART_SCHED_CUR_VALID (n : Nat) : Fld := ⟨R.HART_SCHED_CUR n, 31, 31⟩
abbrev F.HART_SCHED_CUR_TIMEDOUT (n : Nat) : Fld := ⟨R.HART_SCHED_CUR n, 30, 30⟩
abbrev F.HART_SCHED_CUR_PREEMPT_REQ (n : Nat) : Fld := ⟨R.HART_SCHED_CUR n, 29, 29⟩
abbrev F.HART_SCHED_CUR_PRIO (n : Nat) : Fld := ⟨R.HART_SCHED_CUR n, 12, 8⟩
abbrev F.HART_SCHED_CUR_THREAD (n : Nat) : Fld := ⟨R.HART_SCHED_CUR n, 7, 0⟩
abbrev R.HART_SCHED_GOT (n : Nat) : Nat := 0x84070 + 0x1000 * n
abbrev R.HART_CNT_DISP (n : Nat) : Nat := 0x84074 + 0x1000 * n
abbrev R.HART_CNT_DEPTH_MAX (n : Nat) : Nat := 0x84078 + 0x1000 * n
abbrev F.HART_CNT_DEPTH_MAX_VALUE (n : Nat) : Fld := ⟨R.HART_CNT_DEPTH_MAX n, 8, 0⟩
abbrev R.HART_CNT_CLR (n : Nat) : Nat := 0x8407C + 0x1000 * n
abbrev F.HART_CNT_CLR_CLR (n : Nat) : Fld := ⟨R.HART_CNT_CLR n, 0, 0⟩
abbrev R.HART_CNT_BUSY_LO (n : Nat) : Nat := 0x84080 + 0x1000 * n
abbrev R.HART_CNT_BUSY_HI (n : Nat) : Nat := 0x84084 + 0x1000 * n
abbrev R.HART_CNT_WAIT_LO (n : Nat) : Nat := 0x84088 + 0x1000 * n
abbrev R.HART_CNT_WAIT_HI (n : Nat) : Nat := 0x8408C + 0x1000 * n
abbrev R.HART_CNT_DEPTH_LO (n : Nat) : Nat := 0x84090 + 0x1000 * n
abbrev R.HART_CNT_DEPTH_HI (n : Nat) : Nat := 0x84094 + 0x1000 * n
abbrev R.HART_PMP_ADDR_LO (n : Nat) (i : Nat) : Nat := 0x84100 + 0x1000 * n + 0x8 * i
abbrev R.HART_PMP_ADDR_HI (n : Nat) (i : Nat) : Nat := 0x84104 + 0x1000 * n + 0x8 * i
abbrev R.HART_PMP_CFG (n : Nat) (i : Nat) : Nat := 0x84180 + 0x1000 * n + 0x4 * i

/-! ### SCHED page -/
abbrev R.SCHED_CFG : Nat := 0x80040
abbrev F.SCHED_CFG_PREEMPT_EN : Fld := ⟨R.SCHED_CFG, 0, 0⟩
abbrev R.SCHED_CMD : Nat := 0x80044
abbrev F.SCHED_CMD_OP : Fld := ⟨R.SCHED_CMD, 31, 28⟩
abbrev F.SCHED_CMD_KIND : Fld := ⟨R.SCHED_CMD, 27, 27⟩
abbrev F.SCHED_CMD_ID : Fld := ⟨R.SCHED_CMD, 25, 16⟩
abbrev F.SCHED_CMD_FLAG : Fld := ⟨R.SCHED_CMD, 4, 0⟩
abbrev R.SCHED_ARG_MASK : Nat := 0x80048
abbrev R.SCHED_ARG_CFG : Nat := 0x8004C
abbrev F.SCHED_ARG_CFG_MODE : Fld := ⟨R.SCHED_ARG_CFG, 31, 31⟩
abbrev F.SCHED_ARG_CFG_PRIO : Fld := ⟨R.SCHED_ARG_CFG, 20, 16⟩
abbrev F.SCHED_ARG_CFG_AFFINITY : Fld := ⟨R.SCHED_ARG_CFG, 7, 0⟩
abbrev R.SCHED_Q_SEL : Nat := 0x80050
abbrev F.SCHED_Q_SEL_KIND : Fld := ⟨R.SCHED_Q_SEL, 27, 27⟩
abbrev F.SCHED_Q_SEL_ID : Fld := ⟨R.SCHED_Q_SEL, 25, 16⟩
abbrev R.SCHED_Q_STAT : Nat := 0x80054
abbrev F.SCHED_Q_STAT_MODE : Fld := ⟨R.SCHED_Q_STAT, 31, 31⟩
abbrev F.SCHED_Q_STAT_STATE : Fld := ⟨R.SCHED_Q_STAT, 30, 28⟩
abbrev F.SCHED_Q_STAT_UNIT : Fld := ⟨R.SCHED_Q_STAT, 27, 24⟩
abbrev F.SCHED_Q_STAT_AFFINITY : Fld := ⟨R.SCHED_Q_STAT, 23, 16⟩
abbrev F.SCHED_Q_STAT_PRIO : Fld := ⟨R.SCHED_Q_STAT, 12, 8⟩
abbrev R.SCHED_Q_FLAGS : Nat := 0x80058
abbrev R.SCHED_Q_MASK : Nat := 0x8005C
abbrev R.SCHED_EV_SEL : Nat := 0x80060
abbrev F.SCHED_EV_SEL_SRC : Fld := ⟨R.SCHED_EV_SEL, 8, 0⟩
abbrev R.SCHED_EV_ROUTE : Nat := 0x80064
abbrev F.SCHED_EV_ROUTE_EN : Fld := ⟨R.SCHED_EV_ROUTE, 31, 31⟩
abbrev F.SCHED_EV_ROUTE_KIND : Fld := ⟨R.SCHED_EV_ROUTE, 30, 30⟩
abbrev F.SCHED_EV_ROUTE_ID : Fld := ⟨R.SCHED_EV_ROUTE, 25, 16⟩
abbrev F.SCHED_EV_ROUTE_FLAG : Fld := ⟨R.SCHED_EV_ROUTE, 4, 0⟩
abbrev R.SCHED_READY : Nat := 0x80068
abbrev F.SCHED_READY_NODES : Fld := ⟨R.SCHED_READY, 26, 16⟩
abbrev F.SCHED_READY_THREADS : Fld := ⟨R.SCHED_READY, 8, 0⟩
abbrev R.SCHED_RACE : Nat := 0x8006C

/-! ### RED page -/
abbrev R.RED_GRAPH_LO : Nat := 0x83040
abbrev F.RED_GRAPH_LO_ADDR : Fld := ⟨R.RED_GRAPH_LO, 31, 16⟩
abbrev R.RED_GRAPH_HI : Nat := 0x83044
abbrev F.RED_GRAPH_HI_ADDR : Fld := ⟨R.RED_GRAPH_HI, 7, 0⟩
abbrev R.RED_N_SEL : Nat := 0x83048
abbrev F.RED_N_SEL_NODE : Fld := ⟨R.RED_N_SEL, 9, 0⟩
abbrev R.RED_N_STATUS : Nat := 0x8304C
abbrev F.RED_N_STATUS_DONE : Fld := ⟨R.RED_N_STATUS, 31, 16⟩
abbrev F.RED_N_STATUS_STATUS : Fld := ⟨R.RED_N_STATUS, 3, 0⟩
abbrev R.RED_N_RESULT_LO : Nat := 0x83050
abbrev R.RED_N_RESULT_HI : Nat := 0x83054
abbrev R.RED_ERR_ROUTE : Nat := 0x83058
abbrev R.RED_EU (i : Nat) : Nat := 0x83080 + 0x4 * i
abbrev F.RED_EU_BUSY (i : Nat) : Fld := ⟨R.RED_EU i, 31, 31⟩
abbrev F.RED_EU_NODE (i : Nat) : Fld := ⟨R.RED_EU i, 9, 0⟩
abbrev R.RED_EU_BUSY_LO (i : Nat) : Nat := 0x830C0 + 0x8 * i
abbrev R.RED_EU_BUSY_HI (i : Nat) : Nat := 0x830C4 + 0x8 * i

/-! ### TRACE page -/
abbrev R.TRACE_CTRL : Nat := 0x82040
abbrev F.TRACE_CTRL_P_EN : Fld := ⟨R.TRACE_CTRL, 1, 1⟩
abbrev F.TRACE_CTRL_S_EN : Fld := ⟨R.TRACE_CTRL, 0, 0⟩
abbrev R.TRACE_S_TYPES : Nat := 0x82044
abbrev F.TRACE_S_TYPES_TYPES : Fld := ⟨R.TRACE_S_TYPES, 15, 0⟩
abbrev R.TRACE_S_FRAMES : Nat := 0x82048
abbrev F.TRACE_S_FRAMES_FRAMES : Fld := ⟨R.TRACE_S_FRAMES, 15, 0⟩
abbrev R.TRACE_S_BASE : Nat := 0x8204C
abbrev F.TRACE_S_BASE_FRAME : Fld := ⟨R.TRACE_S_BASE, 17, 0⟩
abbrev R.TRACE_S_WR : Nat := 0x82050
abbrev R.TRACE_S_RD : Nat := 0x82054
abbrev R.TRACE_S_MAX : Nat := 0x82058
abbrev R.TRACE_S_LOST : Nat := 0x8205C
abbrev R.TRACE_P_FRAMES : Nat := 0x82068
abbrev F.TRACE_P_FRAMES_FRAMES : Fld := ⟨R.TRACE_P_FRAMES, 15, 0⟩
abbrev R.TRACE_P_BASE : Nat := 0x8206C
abbrev F.TRACE_P_BASE_FRAME : Fld := ⟨R.TRACE_P_BASE, 17, 0⟩
abbrev R.TRACE_P_WR : Nat := 0x82070
abbrev R.TRACE_P_RD : Nat := 0x82074
abbrev R.TRACE_P_MAX : Nat := 0x82078
abbrev R.TRACE_P_LOST : Nat := 0x8207C

/-! ### HIC page -/
abbrev R.HIC_SEL : Nat := 0x81040
abbrev F.HIC_SEL_SRC : Fld := ⟨R.HIC_SEL, 8, 0⟩
abbrev R.HIC_SRC_CFG : Nat := 0x81044
abbrev F.HIC_SRC_CFG_VECTOR : Fld := ⟨R.HIC_SRC_CFG, 31, 24⟩
abbrev F.HIC_SRC_CFG_TARGET : Fld := ⟨R.HIC_SRC_CFG, 11, 8⟩
abbrev F.HIC_SRC_CFG_LEVEL : Fld := ⟨R.HIC_SRC_CFG, 3, 0⟩
abbrev R.HIC_SRC_BIND : Nat := 0x81048
abbrev F.HIC_SRC_BIND_BOUND : Fld := ⟨R.HIC_SRC_BIND, 31, 31⟩
abbrev F.HIC_SRC_BIND_PAGE : Fld := ⟨R.HIC_SRC_BIND, 6, 0⟩
abbrev R.HIC_SRC_MASK : Nat := 0x8104C
abbrev F.HIC_SRC_MASK_MASK : Fld := ⟨R.HIC_SRC_MASK, 31, 0⟩
abbrev R.HIC_SWI : Nat := 0x81050
abbrev F.HIC_SWI_SWI : Fld := ⟨R.HIC_SWI, 15, 0⟩
abbrev R.HIC_EN (i : Nat) : Nat := 0x81080 + 0x4 * i
abbrev R.HIC_PEND (i : Nat) : Nat := 0x810C0 + 0x4 * i
abbrev R.HIC_T_THRESH (k : Nat) : Nat := 0x81200 + 0x20 * k
abbrev F.HIC_T_THRESH_THRESH (k : Nat) : Fld := ⟨R.HIC_T_THRESH k, 3, 0⟩
abbrev R.HIC_T_CLAIM (k : Nat) : Nat := 0x81204 + 0x20 * k
abbrev F.HIC_T_CLAIM_VALID (k : Nat) : Fld := ⟨R.HIC_T_CLAIM k, 31, 31⟩
abbrev F.HIC_T_CLAIM_LEVEL (k : Nat) : Fld := ⟨R.HIC_T_CLAIM k, 12, 9⟩
abbrev F.HIC_T_CLAIM_SRC (k : Nat) : Fld := ⟨R.HIC_T_CLAIM k, 8, 0⟩
abbrev R.HIC_T_COMPLETE (k : Nat) : Nat := 0x81208 + 0x20 * k
abbrev F.HIC_T_COMPLETE_SRC (k : Nat) : Fld := ⟨R.HIC_T_COMPLETE k, 8, 0⟩
abbrev R.HIC_T_MOD (k : Nat) : Nat := 0x8120C + 0x20 * k
abbrev F.HIC_T_MOD_BYPASS (k : Nat) : Fld := ⟨R.HIC_T_MOD k, 31, 28⟩
abbrev F.HIC_T_MOD_HOLDOFF (k : Nat) : Fld := ⟨R.HIC_T_MOD k, 15, 0⟩
abbrev R.HIC_T_STAT (k : Nat) : Nat := 0x81210 + 0x20 * k
abbrev F.HIC_T_STAT_NOTIFY (k : Nat) : Fld := ⟨R.HIC_T_STAT k, 31, 31⟩
abbrev F.HIC_T_STAT_HELD_OFF (k : Nat) : Fld := ⟨R.HIC_T_STAT k, 30, 30⟩
abbrev F.HIC_T_STAT_IDLE (k : Nat) : Fld := ⟨R.HIC_T_STAT k, 29, 29⟩
abbrev F.HIC_T_STAT_TOP_SRC (k : Nat) : Fld := ⟨R.HIC_T_STAT k, 24, 16⟩
abbrev F.HIC_T_STAT_DEPTH (k : Nat) : Fld := ⟨R.HIC_T_STAT k, 7, 4⟩
abbrev F.HIC_T_STAT_TOP_LEVEL (k : Nat) : Fld := ⟨R.HIC_T_STAT k, 3, 0⟩
abbrev R.HIC_T_DELIV (k : Nat) : Nat := 0x81214 + 0x20 * k

/-! ### FLT page -/
abbrev R.FLT_SEL : Nat := 0x90040
abbrev F.FLT_SEL_SRC : Fld := ⟨R.FLT_SEL, 7, 0⟩
abbrev R.FLT_SRC_CFG : Nat := 0x90044
abbrev F.FLT_SRC_CFG_ESC_EN : Fld := ⟨R.FLT_SRC_CFG, 31, 31⟩
abbrev F.FLT_SRC_CFG_LOG_EN : Fld := ⟨R.FLT_SRC_CFG, 30, 30⟩
abbrev F.FLT_SRC_CFG_NMI_TGT : Fld := ⟨R.FLT_SRC_CFG, 20, 12⟩
abbrev F.FLT_SRC_CFG_ERR_N : Fld := ⟨R.FLT_SRC_CFG, 4, 4⟩
abbrev F.FLT_SRC_CFG_CHIP_RESET : Fld := ⟨R.FLT_SRC_CFG, 3, 3⟩
abbrev F.FLT_SRC_CFG_BLOCK_RESET : Fld := ⟨R.FLT_SRC_CFG, 2, 2⟩
abbrev F.FLT_SRC_CFG_NMI : Fld := ⟨R.FLT_SRC_CFG, 1, 1⟩
abbrev F.FLT_SRC_CFG_INT : Fld := ⟨R.FLT_SRC_CFG, 0, 0⟩
abbrev R.FLT_SRC_STAT : Nat := 0x90048
abbrev F.FLT_SRC_STAT_NATIVE : Fld := ⟨R.FLT_SRC_STAT, 25, 24⟩
abbrev F.FLT_SRC_STAT_OPEN : Fld := ⟨R.FLT_SRC_STAT, 17, 16⟩
abbrev R.FLT_SRC_COUNT : Nat := 0x9004C
abbrev R.FLT_ACK : Nat := 0x90050
abbrev F.FLT_ACK_SRC : Fld := ⟨R.FLT_ACK, 7, 0⟩
abbrev R.FLT_FIRST : Nat := 0x90054
abbrev F.FLT_FIRST_VALID : Fld := ⟨R.FLT_FIRST, 31, 31⟩
abbrev F.FLT_FIRST_INJ : Fld := ⟨R.FLT_FIRST, 30, 30⟩
abbrev F.FLT_FIRST_RAISED : Fld := ⟨R.FLT_FIRST, 29, 28⟩
abbrev F.FLT_FIRST_NATIVE : Fld := ⟨R.FLT_FIRST, 27, 26⟩
abbrev F.FLT_FIRST_BIT : Fld := ⟨R.FLT_FIRST, 20, 16⟩
abbrev F.FLT_FIRST_SRC : Fld := ⟨R.FLT_FIRST, 7, 0⟩
abbrev R.FLT_FIRST_STAMP_LO : Nat := 0x90058
abbrev R.FLT_FIRST_STAMP_HI : Nat := 0x9005C
abbrev R.FLT_LOG_WR : Nat := 0x90060
abbrev R.FLT_LOG_RD : Nat := 0x90064
abbrev R.FLT_LOG_MAX : Nat := 0x90068
abbrev F.FLT_LOG_MAX_VALUE : Fld := ⟨R.FLT_LOG_MAX, 7, 0⟩
abbrev R.FLT_LOG_LOST : Nat := 0x9006C
abbrev R.FLT_FENCE_SUPPRESSED : Nat := 0x90070
abbrev R.FLT_DEV_INJ : Nat := 0x90078
abbrev F.FLT_DEV_INJ_SRC : Fld := ⟨R.FLT_DEV_INJ, 7, 0⟩
abbrev R.FLT_CFG : Nat := 0x9007C
abbrev F.FLT_CFG_CHIPRST_DLY_US : Fld := ⟨R.FLT_CFG, 15, 0⟩
abbrev R.FLT_FENCE (i : Nat) : Nat := 0x90080 + 0x4 * i
abbrev R.FLT_ALIVE_CFG : Nat := 0x90090
abbrev F.FLT_ALIVE_CFG_KICK_MS : Fld := ⟨R.FLT_ALIVE_CFG, 31, 16⟩
abbrev F.FLT_ALIVE_CFG_HALF_US : Fld := ⟨R.FLT_ALIVE_CFG, 15, 0⟩
abbrev R.FLT_ALIVE_FIRST : Nat := 0x90094
abbrev F.FLT_ALIVE_FIRST_FIRST_MS : Fld := ⟨R.FLT_ALIVE_FIRST, 15, 0⟩
abbrev R.FLT_KICK : Nat := 0x90098
abbrev F.FLT_KICK_KEY : Fld := ⟨R.FLT_KICK, 15, 0⟩
abbrev R.FLT_ALIVE_STAT : Nat := 0x9009C
abbrev F.FLT_ALIVE_STAT_RUN : Fld := ⟨R.FLT_ALIVE_STAT, 31, 31⟩
abbrev F.FLT_ALIVE_STAT_STOPPED : Fld := ⟨R.FLT_ALIVE_STAT, 30, 30⟩
abbrev F.FLT_ALIVE_STAT_LEVEL : Fld := ⟨R.FLT_ALIVE_STAT, 29, 29⟩
abbrev F.FLT_ALIVE_STAT_LEFT_MS : Fld := ⟨R.FLT_ALIVE_STAT, 15, 0⟩
abbrev R.FLT_ERRN : Nat := 0x900A0
abbrev F.FLT_ERRN_ASSERTED : Fld := ⟨R.FLT_ERRN, 31, 31⟩
abbrev F.FLT_ERRN_RELEASE : Fld := ⟨R.FLT_ERRN, 0, 0⟩
abbrev R.FLT_QUAR : Nat := 0x900A4
abbrev F.FLT_QUAR_VALID : Fld := ⟨R.FLT_QUAR, 31, 31⟩
abbrev F.FLT_QUAR_SRC : Fld := ⟨R.FLT_QUAR, 7, 0⟩
abbrev R.FLT_QUAR_STAMP_LO : Nat := 0x900A8
abbrev R.FLT_QUAR_STAMP_HI : Nat := 0x900AC
abbrev R.FLT_LOG (i : Nat) : Nat := 0x90800 + 0x10 * i

/-! ### FP page -/
abbrev R.FP_CFG (n : Nat) : Nat := 0xC0040 + 0x1000 * n
abbrev F.FP_CFG_LANES_EN (n : Nat) : Fld := ⟨R.FP_CFG n, 31, 28⟩
abbrev F.FP_CFG_REV_MAX (n : Nat) : Fld := ⟨R.FP_CFG n, 25, 24⟩
abbrev F.FP_CFG_IDLE_US (n : Nat) : Fld := ⟨R.FP_CFG n, 23, 16⟩
abbrev F.FP_CFG_FE_LB_OK (n : Nat) : Fld := ⟨R.FP_CFG n, 2, 2⟩
abbrev F.FP_CFG_OFFLINE (n : Nat) : Fld := ⟨R.FP_CFG n, 0, 0⟩
abbrev R.FP_STAT (n : Nat) : Nat := 0xC0044 + 0x1000 * n
abbrev F.FP_STAT_STATE (n : Nat) : Fld := ⟨R.FP_STAT n, 31, 28⟩
abbrev F.FP_STAT_LANES (n : Nat) : Fld := ⟨R.FP_STAT n, 27, 24⟩
abbrev F.FP_STAT_REV (n : Nat) : Fld := ⟨R.FP_STAT n, 23, 22⟩
abbrev F.FP_STAT_DOWN_CAUSE (n : Nat) : Fld := ⟨R.FP_STAT n, 19, 16⟩
abbrev F.FP_STAT_PEER_PORT (n : Nat) : Fld := ⟨R.FP_STAT n, 2, 0⟩
abbrev R.FP_PEER_ID_LO (n : Nat) : Nat := 0xC0048 + 0x1000 * n
abbrev R.FP_PEER_ID_HI (n : Nat) : Nat := 0xC004C + 0x1000 * n
abbrev R.FP_PEER_ADDR (n : Nat) : Nat := 0xC0050 + 0x1000 * n
abbrev F.FP_PEER_ADDR_VALID (n : Nat) : Fld := ⟨R.FP_PEER_ADDR n, 31, 31⟩
abbrev F.FP_PEER_ADDR_ADDR (n : Nat) : Fld := ⟨R.FP_PEER_ADDR n, 9, 0⟩
abbrev R.FP_DELAY (n : Nat) : Nat := 0xC0054 + 0x1000 * n
abbrev F.FP_DELAY_WEIGHT (n : Nat) : Fld := ⟨R.FP_DELAY n, 31, 27⟩
abbrev F.FP_DELAY_DELAY_PS (n : Nat) : Fld := ⟨R.FP_DELAY n, 23, 0⟩
abbrev R.FP_EQ_CFG (n : Nat) : Nat := 0xC0058 + 0x1000 * n
abbrev F.FP_EQ_CFG_FIXED (n : Nat) : Fld := ⟨R.FP_EQ_CFG n, 31, 31⟩
abbrev F.FP_EQ_CFG_POST (n : Nat) : Fld := ⟨R.FP_EQ_CFG n, 12, 8⟩
abbrev F.FP_EQ_CFG_PRE (n : Nat) : Fld := ⟨R.FP_EQ_CFG n, 3, 0⟩
abbrev R.FP_EQ_STAT (n : Nat) (i : Nat) : Nat := 0xC0060 + 0x1000 * n + 0x4 * i
abbrev F.FP_EQ_STAT_POST (n : Nat) (i : Nat) : Fld := ⟨R.FP_EQ_STAT n i, 20, 16⟩
abbrev F.FP_EQ_STAT_PRE (n : Nat) (i : Nat) : Fld := ⟨R.FP_EQ_STAT n i, 11, 8⟩
abbrev F.FP_EQ_STAT_DONE (n : Nat) (i : Nat) : Fld := ⟨R.FP_EQ_STAT n i, 0, 0⟩
abbrev R.FP_LB (n : Nat) : Nat := 0xC0070 + 0x1000 * n
abbrev F.FP_LB_PRBS_EN (n : Nat) : Fld := ⟨R.FP_LB n, 9, 9⟩
abbrev F.FP_LB_FE_REFUSED (n : Nat) : Fld := ⟨R.FP_LB n, 8, 8⟩
abbrev F.FP_LB_MODE (n : Nat) : Fld := ⟨R.FP_LB n, 1, 0⟩
abbrev R.FP_PRBS_ERR (n : Nat) (i : Nat) : Nat := 0xC0074 + 0x1000 * n + 0x4 * i
abbrev R.FP_LANE_CV (n : Nat) (i : Nat) : Nat := 0xC0084 + 0x1000 * n + 0x4 * i
abbrev R.FP_TMO (n : Nat) : Nat := 0xC0094 + 0x1000 * n
abbrev F.FP_TMO_REPLAY_NS (n : Nat) : Fld := ⟨R.FP_TMO n, 31, 16⟩
abbrev F.FP_TMO_BURST_FC (n : Nat) : Fld := ⟨R.FP_TMO n, 7, 0⟩
abbrev R.FP_CMD (n : Nat) : Nat := 0xC0098 + 0x1000 * n
abbrev F.FP_CMD_RETRAIN (n : Nat) : Fld := ⟨R.FP_CMD n, 0, 0⟩
abbrev R.FP_RETRY (n : Nat) : Nat := 0xC009C + 0x1000 * n
abbrev R.FP_STALE (n : Nat) : Nat := 0xC00A0 + 0x1000 * n
abbrev R.FP_DET_RETRY (n : Nat) : Nat := 0xC00A4 + 0x1000 * n
abbrev R.FP_TRAIN_FAILS (n : Nat) : Nat := 0xC00A8 + 0x1000 * n
abbrev R.FP_DETQ_MAX (n : Nat) : Nat := 0xC00AC + 0x1000 * n
abbrev F.FP_DETQ_MAX_VALUE (n : Nat) : Fld := ⟨R.FP_DETQ_MAX n, 5, 0⟩

/-! ### FAB page -/
abbrev R.FAB_CFG : Nat := 0xC8040
abbrev F.FAB_CFG_ROOT_PRIO : Fld := ⟨R.FAB_CFG, 31, 24⟩
abbrev F.FAB_CFG_FIXED_EN : Fld := ⟨R.FAB_CFG, 16, 16⟩
abbrev F.FAB_CFG_FIXED_ADDR : Fld := ⟨R.FAB_CFG, 9, 0⟩
abbrev R.FAB_STAT : Nat := 0xC8044
abbrev F.FAB_STAT_NSTATE : Fld := ⟨R.FAB_STAT, 31, 28⟩
abbrev F.FAB_STAT_ROOT : Fld := ⟨R.FAB_STAT, 27, 27⟩
abbrev F.FAB_STAT_STABLE : Fld := ⟨R.FAB_STAT, 26, 26⟩
abbrev F.FAB_STAT_PARTS : Fld := ⟨R.FAB_STAT, 20, 10⟩
abbrev R.FAB_ADDR : Nat := 0xC8048
abbrev F.FAB_ADDR_VALID : Fld := ⟨R.FAB_ADDR, 31, 31⟩
abbrev F.FAB_ADDR_ADDR : Fld := ⟨R.FAB_ADDR, 9, 0⟩
abbrev R.FAB_ROOT_LO : Nat := 0xC804C
abbrev R.FAB_ROOT_HI : Nat := 0xC8050
abbrev R.FAB_ROOT_INFO : Nat := 0xC8054
abbrev F.FAB_ROOT_INFO_ROOT_PRIO : Fld := ⟨R.FAB_ROOT_INFO, 31, 24⟩
abbrev F.FAB_ROOT_INFO_DIST : Fld := ⟨R.FAB_ROOT_INFO, 15, 8⟩
abbrev F.FAB_ROOT_INFO_ROOT_PORT : Fld := ⟨R.FAB_ROOT_INFO, 2, 0⟩
abbrev R.FAB_ROUTE_SEL : Nat := 0xC8058
abbrev F.FAB_ROUTE_SEL_DST : Fld := ⟨R.FAB_ROUTE_SEL, 9, 0⟩
abbrev R.FAB_ROUTE : Nat := 0xC805C
abbrev F.FAB_ROUTE_REACH : Fld := ⟨R.FAB_ROUTE, 31, 31⟩
abbrev F.FAB_ROUTE_PATH_REV : Fld := ⟨R.FAB_ROUTE, 30, 29⟩
abbrev F.FAB_ROUTE_PORT : Fld := ⟨R.FAB_ROUTE, 26, 24⟩
abbrev F.FAB_ROUTE_HOPS : Fld := ⟨R.FAB_ROUTE, 20, 16⟩
abbrev R.FAB_GRP_SEL : Nat := 0xC8060
abbrev F.FAB_GRP_SEL_GRP : Fld := ⟨R.FAB_GRP_SEL, 7, 0⟩
abbrev R.FAB_GRP : Nat := 0xC8064
abbrev F.FAB_GRP_MEMBER : Fld := ⟨R.FAB_GRP, 31, 31⟩
abbrev F.FAB_GRP_DET : Fld := ⟨R.FAB_GRP, 30, 30⟩
abbrev F.FAB_GRP_TREE : Fld := ⟨R.FAB_GRP, 29, 24⟩
abbrev F.FAB_GRP_DIAM : Fld := ⟨R.FAB_GRP, 20, 16⟩
abbrev F.FAB_GRP_COUNT : Fld := ⟨R.FAB_GRP, 10, 0⟩
abbrev R.FAB_RM_DST : Nat := 0xC8070
abbrev F.FAB_RM_DST_DST : Fld := ⟨R.FAB_RM_DST, 9, 0⟩
abbrev R.FAB_RM_ADDR : Nat := 0xC8074
abbrev F.FAB_RM_ADDR_OFFSET : Fld := ⟨R.FAB_RM_ADDR, 25, 2⟩
abbrev R.FAB_RM_CMD : Nat := 0xC8078
abbrev F.FAB_RM_CMD_OP : Fld := ⟨R.FAB_RM_CMD, 31, 30⟩
abbrev F.FAB_RM_CMD_COUNT : Fld := ⟨R.FAB_RM_CMD, 4, 0⟩
abbrev R.FAB_RM_STAT : Nat := 0xC807C
abbrev F.FAB_RM_STAT_BUSY : Fld := ⟨R.FAB_RM_STAT, 31, 31⟩
abbrev F.FAB_RM_STAT_RESULT : Fld := ⟨R.FAB_RM_STAT, 30, 28⟩
abbrev F.FAB_RM_STAT_REASON : Fld := ⟨R.FAB_RM_STAT, 27, 24⟩
abbrev F.FAB_RM_STAT_INDEX : Fld := ⟨R.FAB_RM_STAT, 4, 0⟩
abbrev R.FAB_RM_TMO : Nat := 0xC8080
abbrev F.FAB_RM_TMO_US : Fld := ⟨R.FAB_RM_TMO, 15, 0⟩
abbrev R.FAB_STORE : Nat := 0xC8084
abbrev F.FAB_STORE_SERVE : Fld := ⟨R.FAB_STORE, 0, 0⟩
abbrev R.FAB_PAGE_GRP : Nat := 0xC8088
abbrev F.FAB_PAGE_GRP_MC : Fld := ⟨R.FAB_PAGE_GRP, 31, 31⟩
abbrev F.FAB_PAGE_GRP_GRP : Fld := ⟨R.FAB_PAGE_GRP, 7, 0⟩
abbrev R.FAB_UNREACH : Nat := 0xC808C
abbrev R.FAB_TTL_DROP : Nat := 0xC8090
abbrev R.FAB_PAGES_SERVED : Nat := 0xC8094
abbrev R.FAB_TRIG_CFG (i : Nat) : Nat := 0xC80A0 + 0x4 * i
abbrev F.FAB_TRIG_CFG_EN (i : Nat) : Fld := ⟨R.FAB_TRIG_CFG i, 31, 31⟩
abbrev F.FAB_TRIG_CFG_SRC (i : Nat) : Fld := ⟨R.FAB_TRIG_CFG i, 30, 28⟩
abbrev F.FAB_TRIG_CFG_IDX (i : Nat) : Fld := ⟨R.FAB_TRIG_CFG i, 27, 24⟩
abbrev F.FAB_TRIG_CFG_GRP (i : Nat) : Fld := ⟨R.FAB_TRIG_CFG i, 23, 16⟩
abbrev F.FAB_TRIG_CFG_LEAD_NS (i : Nat) : Fld := ⟨R.FAB_TRIG_CFG i, 15, 0⟩
abbrev R.FAB_TRIG_SEND : Nat := 0xC80C0
abbrev F.FAB_TRIG_SEND_SEND : Fld := ⟨R.FAB_TRIG_SEND, 7, 0⟩
abbrev R.FAB_TRIG_LATE : Nat := 0xC80C4
abbrev R.FAB_RM_DATA (i : Nat) : Nat := 0xC8100 + 0x4 * i
abbrev R.FAB_SPAN_CFG (k : Nat) : Nat := 0xC8200 + 0x20 * k
abbrev F.FAB_SPAN_CFG_EN (k : Nat) : Fld := ⟨R.FAB_SPAN_CFG k, 31, 31⟩
abbrev F.FAB_SPAN_CFG_LEADER (k : Nat) : Fld := ⟨R.FAB_SPAN_CFG k, 30, 30⟩
abbrev F.FAB_SPAN_CFG_SEQ (k : Nat) : Fld := ⟨R.FAB_SPAN_CFG k, 27, 24⟩
abbrev F.FAB_SPAN_CFG_MEMBERS (k : Nat) : Fld := ⟨R.FAB_SPAN_CFG k, 20, 16⟩
abbrev F.FAB_SPAN_CFG_GRP (k : Nat) : Fld := ⟨R.FAB_SPAN_CFG k, 15, 8⟩
abbrev R.FAB_SPAN_PMASK_LO (k : Nat) : Nat := 0xC8204 + 0x20 * k
abbrev R.FAB_SPAN_PMASK_HI (k : Nat) : Nat := 0xC8208 + 0x20 * k
abbrev R.FAB_SPAN_SYNC (k : Nat) : Nat := 0xC820C + 0x20 * k
abbrev F.FAB_SPAN_SYNC_SYNC_LEAD_NS (k : Nat) : Fld := ⟨R.FAB_SPAN_SYNC k, 15, 0⟩
abbrev R.FAB_SPAN_GO (k : Nat) : Nat := 0xC8210 + 0x20 * k
abbrev F.FAB_SPAN_GO_SYNC (k : Nat) : Fld := ⟨R.FAB_SPAN_GO k, 0, 0⟩
abbrev R.FAB_SPAN_STAT (k : Nat) : Nat := 0xC8214 + 0x20 * k
abbrev F.FAB_SPAN_STAT_STATE (k : Nat) : Fld := ⟨R.FAB_SPAN_STAT k, 31, 28⟩
abbrev F.FAB_SPAN_STAT_END (k : Nat) : Fld := ⟨R.FAB_SPAN_STAT k, 27, 24⟩
abbrev R.FAB_SPAN_T_LO (k : Nat) : Nat := 0xC8218 + 0x20 * k
abbrev R.FAB_SPAN_T_HI (k : Nat) : Nat := 0xC821C + 0x20 * k

/-! ### TIME page -/
abbrev R.TIME_CFG : Nat := 0xE0040
abbrev F.TIME_CFG_ALIGN_EN : Fld := ⟨R.TIME_CFG, 2, 2⟩
abbrev F.TIME_CFG_TREF_COMMON : Fld := ⟨R.TIME_CFG, 1, 1⟩
abbrev F.TIME_CFG_SERVO_EN : Fld := ⟨R.TIME_CFG, 0, 0⟩
abbrev R.TIME_GAIN : Nat := 0xE0044
abbrev F.TIME_GAIN_KI : Fld := ⟨R.TIME_GAIN, 12, 8⟩
abbrev F.TIME_GAIN_KP : Fld := ⟨R.TIME_GAIN, 4, 0⟩
abbrev R.TIME_LOCK : Nat := 0xE0048
abbrev F.TIME_LOCK_LOCK_CNT : Fld := ⟨R.TIME_LOCK, 31, 24⟩
abbrev F.TIME_LOCK_UNLOCK_PS : Fld := ⟨R.TIME_LOCK, 23, 12⟩
abbrev F.TIME_LOCK_LOCK_PS : Fld := ⟨R.TIME_LOCK, 11, 0⟩
abbrev R.TIME_STEP : Nat := 0xE004C
abbrev F.TIME_STEP_NS : Fld := ⟨R.TIME_STEP, 31, 0⟩
abbrev R.TIME_NOW_LO : Nat := 0xE0050
abbrev R.TIME_NOW_HI : Nat := 0xE0054
abbrev R.TIME_FREQ : Nat := 0xE0058
abbrev F.TIME_FREQ_Y : Fld := ⟨R.TIME_FREQ, 31, 0⟩
abbrev R.TIME_OFFSET : Nat := 0xE005C
abbrev F.TIME_OFFSET_E : Fld := ⟨R.TIME_OFFSET, 31, 0⟩
abbrev R.TIME_STAT : Nat := 0xE0060
abbrev F.TIME_STAT_SSTATE : Fld := ⟨R.TIME_STAT, 31, 28⟩
abbrev F.TIME_STAT_ASTATE : Fld := ⟨R.TIME_STAT, 27, 25⟩
abbrev F.TIME_STAT_LOCKED : Fld := ⟨R.TIME_STAT, 24, 24⟩
abbrev F.TIME_STAT_STEP_HELD : Fld := ⟨R.TIME_STAT, 23, 23⟩
abbrev F.TIME_STAT_SRC_PORT : Fld := ⟨R.TIME_STAT, 18, 16⟩
abbrev R.TIME_SET_LO : Nat := 0xE0064
abbrev R.TIME_SET_HI : Nat := 0xE0068
abbrev R.TIME_CMD : Nat := 0xE006C
abbrev F.TIME_CMD_SET : Fld := ⟨R.TIME_CMD, 0, 0⟩
abbrev R.TIME_STEPS : Nat := 0xE0070
abbrev R.TIME_LAST_STEP : Nat := 0xE0074
abbrev F.TIME_LAST_STEP_NS : Fld := ⟨R.TIME_LAST_STEP, 31, 0⟩
abbrev R.TIME_OUTLIER : Nat := 0xE0078
abbrev R.TIME_TRIM : Nat := 0xE0080
abbrev F.TIME_TRIM_TARGET_PS : Fld := ⟨R.TIME_TRIM, 31, 16⟩
abbrev F.TIME_TRIM_TRIM_PS : Fld := ⟨R.TIME_TRIM, 15, 0⟩
abbrev R.TIME_ALIGN : Nat := 0xE0084
abbrev F.TIME_ALIGN_ALIGN_LOCK_PS : Fld := ⟨R.TIME_ALIGN, 23, 16⟩
abbrev F.TIME_ALIGN_ALIGN_AVG : Fld := ⟨R.TIME_ALIGN, 15, 8⟩
abbrev F.TIME_ALIGN_TRIM_SLEW : Fld := ⟨R.TIME_ALIGN, 7, 0⟩
abbrev R.TIME_ALIGN_ERR : Nat := 0xE0088
abbrev R.TIME_ASYM (i : Nat) : Nat := 0xE00A0 + 0x4 * i
abbrev F.TIME_ASYM_ASYM_PS (i : Nat) : Fld := ⟨R.TIME_ASYM i, 15, 0⟩
abbrev R.TIME_ES_EN : Nat := 0xE0100
abbrev F.TIME_ES_EN_EN : Fld := ⟨R.TIME_ES_EN, 7, 0⟩
abbrev R.TIME_ES_SRC_LO : Nat := 0xE0104
abbrev R.TIME_ES_SRC_HI : Nat := 0xE0108
abbrev R.TIME_ES_HEAD_LO : Nat := 0xE010C
abbrev R.TIME_ES_HEAD_HI : Nat := 0xE0110
abbrev R.TIME_ES_HEAD_INFO : Nat := 0xE0114
abbrev F.TIME_ES_HEAD_INFO_VALID : Fld := ⟨R.TIME_ES_HEAD_INFO, 31, 31⟩
abbrev F.TIME_ES_HEAD_INFO_CH : Fld := ⟨R.TIME_ES_HEAD_INFO, 18, 16⟩
abbrev F.TIME_ES_HEAD_INFO_COUNT : Fld := ⟨R.TIME_ES_HEAD_INFO, 15, 0⟩
abbrev R.TIME_ES_LEVEL : Nat := 0xE0118
abbrev F.TIME_ES_LEVEL_LEVEL : Fld := ⟨R.TIME_ES_LEVEL, 6, 0⟩
abbrev R.TIME_ES_MAX : Nat := 0xE011C
abbrev F.TIME_ES_MAX_MAX : Fld := ⟨R.TIME_ES_MAX, 6, 0⟩
abbrev R.TIME_ES_LOST : Nat := 0xE0120
abbrev R.PG_CFG (k : Nat) : Nat := 0xE0200 + 0x20 * k
abbrev F.PG_CFG_EN (k : Nat) : Fld := ⟨R.PG_CFG k, 31, 31⟩
abbrev F.PG_CFG_MODE (k : Nat) : Fld := ⟨R.PG_CFG k, 30, 29⟩
abbrev F.PG_CFG_PIN_EN (k : Nat) : Fld := ⟨R.PG_CFG k, 19, 19⟩
abbrev F.PG_CFG_PIN (k : Nat) : Fld := ⟨R.PG_CFG k, 18, 16⟩
abbrev F.PG_CFG_WIDTH (k : Nat) : Fld := ⟨R.PG_CFG k, 15, 8⟩
abbrev R.PG_START_LO (k : Nat) : Nat := 0xE0204 + 0x20 * k
abbrev R.PG_START_HI (k : Nat) : Nat := 0xE0208 + 0x20 * k
abbrev R.PG_PERIOD_LO (k : Nat) : Nat := 0xE020C + 0x20 * k
abbrev R.PG_PERIOD_HI (k : Nat) : Nat := 0xE0210 + 0x20 * k
abbrev R.PG_COUNT (k : Nat) : Nat := 0xE0214 + 0x20 * k
abbrev R.PG_STAT (k : Nat) : Nat := 0xE0218 + 0x20 * k
abbrev F.PG_STAT_ARMED (k : Nat) : Fld := ⟨R.PG_STAT k, 31, 31⟩
abbrev F.PG_STAT_LATE (k : Nat) : Fld := ⟨R.PG_STAT k, 30, 30⟩
abbrev F.PG_STAT_DONE (k : Nat) : Fld := ⟨R.PG_STAT k, 29, 29⟩
abbrev F.PG_STAT_SKIP (k : Nat) : Fld := ⟨R.PG_STAT k, 15, 0⟩
abbrev R.PG_FIRED (k : Nat) : Nat := 0xE021C + 0x20 * k

/-! ### DRAM page -/
abbrev R.DRAM_GEOM (n : Nat) : Nat := 0xA0040 + 0x1000 * n
abbrev F.DRAM_GEOM_PRESENT (n : Nat) : Fld := ⟨R.DRAM_GEOM n, 31, 31⟩
abbrev F.DRAM_GEOM_RANKS (n : Nat) : Fld := ⟨R.DRAM_GEOM n, 8, 8⟩
abbrev F.DRAM_GEOM_DENSITY (n : Nat) : Fld := ⟨R.DRAM_GEOM n, 5, 4⟩
abbrev F.DRAM_GEOM_SPEED (n : Nat) : Fld := ⟨R.DRAM_GEOM n, 1, 0⟩
abbrev R.DRAM_STAT (n : Nat) : Nat := 0xA0044 + 0x1000 * n
abbrev F.DRAM_STAT_CAP_GIB (n : Nat) : Fld := ⟨R.DRAM_STAT n, 31, 24⟩
abbrev F.DRAM_STAT_STATE (n : Nat) : Fld := ⟨R.DRAM_STAT n, 3, 0⟩
abbrev R.DRAM_SR (n : Nat) : Nat := 0xA0048 + 0x1000 * n
abbrev F.DRAM_SR_IDLE_US (n : Nat) : Fld := ⟨R.DRAM_SR n, 15, 0⟩
abbrev R.DRAM_SCRUB (n : Nat) : Nat := 0xA004C + 0x1000 * n
abbrev F.DRAM_SCRUB_HOURS (n : Nat) : Fld := ⟨R.DRAM_SCRUB n, 7, 0⟩
abbrev R.DRAM_CE_ADDR_LO (n : Nat) : Nat := 0xA0050 + 0x1000 * n
abbrev R.DRAM_CE_ADDR_HI (n : Nat) : Nat := 0xA0054 + 0x1000 * n
abbrev F.DRAM_CE_ADDR_HI_VALUE (n : Nat) : Fld := ⟨R.DRAM_CE_ADDR_HI n, 6, 0⟩
abbrev R.DRAM_UE_ADDR_LO (n : Nat) : Nat := 0xA0058 + 0x1000 * n
abbrev R.DRAM_UE_ADDR_HI (n : Nat) : Nat := 0xA005C + 0x1000 * n
abbrev F.DRAM_UE_ADDR_HI_VALUE (n : Nat) : Fld := ⟨R.DRAM_UE_ADDR_HI n, 6, 0⟩
abbrev R.DRAM_ECC_RETRY (n : Nat) : Nat := 0xA0060 + 0x1000 * n
abbrev R.DRAM_REPLAY (n : Nat) : Nat := 0xA0064 + 0x1000 * n
abbrev R.DRAM_RH_CFG (n : Nat) : Nat := 0xA0068 + 0x1000 * n
abbrev F.DRAM_RH_CFG_THRESH (n : Nat) : Fld := ⟨R.DRAM_RH_CFG n, 31, 16⟩
abbrev F.DRAM_RH_CFG_GAP_10NS (n : Nat) : Fld := ⟨R.DRAM_RH_CFG n, 15, 8⟩
abbrev F.DRAM_RH_CFG_HOLD_US (n : Nat) : Fld := ⟨R.DRAM_RH_CFG n, 7, 0⟩
abbrev R.DRAM_RH_STAT (n : Nat) : Nat := 0xA006C + 0x1000 * n
abbrev F.DRAM_RH_STAT_THROTTLING (n : Nat) : Fld := ⟨R.DRAM_RH_STAT n, 31, 31⟩
abbrev F.DRAM_RH_STAT_REQ (n : Nat) : Fld := ⟨R.DRAM_RH_STAT n, 27, 24⟩
abbrev R.DRAM_RH_EVENTS (n : Nat) : Nat := 0xA0070 + 0x1000 * n
abbrev R.DRAM_WARM (n : Nat) : Nat := 0xA0074 + 0x1000 * n
abbrev F.DRAM_WARM_USED (n : Nat) : Fld := ⟨R.DRAM_WARM n, 2, 2⟩
abbrev F.DRAM_WARM_VALID (n : Nat) : Fld := ⟨R.DRAM_WARM n, 1, 1⟩
abbrev F.DRAM_WARM_ARM (n : Nat) : Fld := ⟨R.DRAM_WARM n, 0, 0⟩
abbrev R.DRAM_TRN_CMD (n : Nat) : Nat := 0xA0100 + 0x1000 * n
abbrev F.DRAM_TRN_CMD_BUSY (n : Nat) : Fld := ⟨R.DRAM_TRN_CMD n, 31, 31⟩
abbrev F.DRAM_TRN_CMD_RESULT (n : Nat) : Fld := ⟨R.DRAM_TRN_CMD n, 30, 28⟩
abbrev F.DRAM_TRN_CMD_RANK_SUB (n : Nat) : Fld := ⟨R.DRAM_TRN_CMD n, 7, 4⟩
abbrev F.DRAM_TRN_CMD_OP (n : Nat) : Fld := ⟨R.DRAM_TRN_CMD n, 3, 0⟩
abbrev R.DRAM_TRN_ARG (n : Nat) : Nat := 0xA0104 + 0x1000 * n
abbrev F.DRAM_TRN_ARG_MR (n : Nat) : Fld := ⟨R.DRAM_TRN_ARG n, 31, 24⟩
abbrev F.DRAM_TRN_ARG_DATA (n : Nat) : Fld := ⟨R.DRAM_TRN_ARG n, 23, 16⟩
abbrev F.DRAM_TRN_ARG_VERIFY_BURSTS (n : Nat) : Fld := ⟨R.DRAM_TRN_ARG n, 15, 0⟩
abbrev R.DRAM_TRN_SWEEP (n : Nat) : Nat := 0xA0108 + 0x1000 * n
abbrev F.DRAM_TRN_SWEEP_START (n : Nat) : Fld := ⟨R.DRAM_TRN_SWEEP n, 31, 22⟩
abbrev F.DRAM_TRN_SWEEP_STOP (n : Nat) : Fld := ⟨R.DRAM_TRN_SWEEP n, 21, 12⟩
abbrev F.DRAM_TRN_SWEEP_STEP (n : Nat) : Fld := ⟨R.DRAM_TRN_SWEEP n, 11, 8⟩
abbrev R.DRAM_TRN_SEL (n : Nat) : Nat := 0xA010C + 0x1000 * n
abbrev F.DRAM_TRN_SEL_LANE (n : Nat) : Fld := ⟨R.DRAM_TRN_SEL n, 6, 0⟩
abbrev R.DRAM_TRN_RES (n : Nat) : Nat := 0xA0110 + 0x1000 * n
abbrev F.DRAM_TRN_RES_RIGHT (n : Nat) : Fld := ⟨R.DRAM_TRN_RES n, 25, 16⟩
abbrev F.DRAM_TRN_RES_LEFT (n : Nat) : Fld := ⟨R.DRAM_TRN_RES n, 9, 0⟩
abbrev R.DRAM_TRN_ERR (n : Nat) : Nat := 0xA0114 + 0x1000 * n
abbrev R.DRAM_DLY_SEL (n : Nat) : Nat := 0xA0118 + 0x1000 * n
abbrev F.DRAM_DLY_SEL_RANK (n : Nat) : Fld := ⟨R.DRAM_DLY_SEL n, 12, 12⟩
abbrev F.DRAM_DLY_SEL_KIND (n : Nat) : Fld := ⟨R.DRAM_DLY_SEL n, 11, 8⟩
abbrev F.DRAM_DLY_SEL_LANE (n : Nat) : Fld := ⟨R.DRAM_DLY_SEL n, 6, 0⟩
abbrev R.DRAM_DLY (n : Nat) : Nat := 0xA011C + 0x1000 * n
abbrev F.DRAM_DLY_VALUE (n : Nat) : Fld := ⟨R.DRAM_DLY n, 9, 0⟩

/-! ### ALLOC page -/
abbrev R.ALLOC_MAP : Nat := 0xA8040
abbrev F.ALLOC_MAP_VALID : Fld := ⟨R.ALLOC_MAP, 31, 31⟩
abbrev F.ALLOC_MAP_CHMASK : Fld := ⟨R.ALLOC_MAP, 15, 8⟩
abbrev F.ALLOC_MAP_W_LOG2 : Fld := ⟨R.ALLOC_MAP, 1, 0⟩
abbrev R.ALLOC_FRAMES : Nat := 0xA8044
abbrev F.ALLOC_FRAMES_VALUE : Fld := ⟨R.ALLOC_FRAMES, 18, 0⟩
abbrev R.ALLOC_FREE : Nat := 0xA8048
abbrev F.ALLOC_FREE_VALUE : Fld := ⟨R.ALLOC_FREE, 18, 0⟩
abbrev R.ALLOC_CMD : Nat := 0xA8050
abbrev F.ALLOC_CMD_OP : Fld := ⟨R.ALLOC_CMD, 31, 28⟩
abbrev F.ALLOC_CMD_POOL : Fld := ⟨R.ALLOC_CMD, 26, 24⟩
abbrev F.ALLOC_CMD_COUNT : Fld := ⟨R.ALLOC_CMD, 17, 0⟩
abbrev R.ALLOC_ARG : Nat := 0xA8054
abbrev F.ALLOC_ARG_FRAME : Fld := ⟨R.ALLOC_ARG, 17, 0⟩
abbrev R.ALLOC_OWNER : Nat := 0xA8058
abbrev R.ALLOC_RES : Nat := 0xA805C
abbrev F.ALLOC_RES_BUSY : Fld := ⟨R.ALLOC_RES, 31, 31⟩
abbrev F.ALLOC_RES_RESULT : Fld := ⟨R.ALLOC_RES, 30, 28⟩
abbrev F.ALLOC_RES_STATE : Fld := ⟨R.ALLOC_RES, 27, 26⟩
abbrev F.ALLOC_RES_POOL : Fld := ⟨R.ALLOC_RES, 25, 23⟩
abbrev F.ALLOC_RES_FRAME : Fld := ⟨R.ALLOC_RES, 17, 0⟩
abbrev R.ALLOC_QOWNER : Nat := 0xA8060
abbrev R.ALLOC_RETIRED : Nat := 0xA8064
abbrev F.ALLOC_RETIRED_VALUE : Fld := ⟨R.ALLOC_RETIRED, 18, 0⟩
abbrev R.ALLOC_RET_SEL : Nat := 0xA8068
abbrev F.ALLOC_RET_SEL_INDEX : Fld := ⟨R.ALLOC_RET_SEL, 18, 0⟩
abbrev R.ALLOC_RET : Nat := 0xA806C
abbrev F.ALLOC_RET_VALID : Fld := ⟨R.ALLOC_RET, 31, 31⟩
abbrev F.ALLOC_RET_FRAME : Fld := ⟨R.ALLOC_RET, 17, 0⟩
abbrev R.ALLOC_POOL_MIN (i : Nat) : Nat := 0xA8080 + 0x10 * i
abbrev F.ALLOC_POOL_MIN_MIN (i : Nat) : Fld := ⟨R.ALLOC_POOL_MIN i, 18, 0⟩
abbrev R.ALLOC_POOL_MAX (i : Nat) : Nat := 0xA8084 + 0x10 * i
abbrev F.ALLOC_POOL_MAX_MAX (i : Nat) : Fld := ⟨R.ALLOC_POOL_MAX i, 18, 0⟩
abbrev R.ALLOC_POOL_USED (i : Nat) : Nat := 0xA8088 + 0x10 * i
abbrev F.ALLOC_POOL_USED_VALUE (i : Nat) : Fld := ⟨R.ALLOC_POOL_USED i, 18, 0⟩
abbrev R.ALLOC_POOL_PEAK (i : Nat) : Nat := 0xA808C + 0x10 * i
abbrev F.ALLOC_POOL_PEAK_VALUE (i : Nat) : Fld := ⟨R.ALLOC_POOL_PEAK i, 18, 0⟩

/-! ### DMA page -/
abbrev R.DMA_ARB (n : Nat) : Nat := 0xB0040 + 0x1000 * n
abbrev F.DMA_ARB_BURST (n : Nat) : Fld := ⟨R.DMA_ARB n, 4, 0⟩
abbrev R.DMA_CH_CTRL (n : Nat) (k : Nat) : Nat := 0xB0100 + 0x1000 * n + 0x80 * k
abbrev F.DMA_CH_CTRL_CRC_WR (n : Nat) (k : Nat) : Fld := ⟨R.DMA_CH_CTRL n k, 6, 6⟩
abbrev F.DMA_CH_CTRL_URGENT (n : Nat) (k : Nat) : Fld := ⟨R.DMA_CH_CTRL n k, 5, 5⟩
abbrev F.DMA_CH_CTRL_PRIO (n : Nat) (k : Nat) : Fld := ⟨R.DMA_CH_CTRL n k, 4, 2⟩
abbrev F.DMA_CH_CTRL_ABORT (n : Nat) (k : Nat) : Fld := ⟨R.DMA_CH_CTRL n k, 1, 1⟩
abbrev F.DMA_CH_CTRL_START (n : Nat) (k : Nat) : Fld := ⟨R.DMA_CH_CTRL n k, 0, 0⟩
abbrev R.DMA_CH_SPACE (n : Nat) (k : Nat) : Nat := 0xB0104 + 0x1000 * n + 0x80 * k
abbrev F.DMA_CH_SPACE_DST_SP (n : Nat) (k : Nat) : Fld := ⟨R.DMA_CH_SPACE n k, 9, 8⟩
abbrev F.DMA_CH_SPACE_SRC_SP (n : Nat) (k : Nat) : Fld := ⟨R.DMA_CH_SPACE n k, 1, 0⟩
abbrev R.DMA_CH_SRC_LO (n : Nat) (k : Nat) : Nat := 0xB0108 + 0x1000 * n + 0x80 * k
abbrev R.DMA_CH_SRC_HI (n : Nat) (k : Nat) : Nat := 0xB010C + 0x1000 * n + 0x80 * k
abbrev R.DMA_CH_DST_LO (n : Nat) (k : Nat) : Nat := 0xB0110 + 0x1000 * n + 0x80 * k
abbrev R.DMA_CH_DST_HI (n : Nat) (k : Nat) : Nat := 0xB0114 + 0x1000 * n + 0x80 * k
abbrev R.DMA_CH_ACNT (n : Nat) (k : Nat) : Nat := 0xB0118 + 0x1000 * n + 0x80 * k
abbrev R.DMA_CH_BCCNT (n : Nat) (k : Nat) : Nat := 0xB011C + 0x1000 * n + 0x80 * k
abbrev F.DMA_CH_BCCNT_CCNT (n : Nat) (k : Nat) : Fld := ⟨R.DMA_CH_BCCNT n k, 31, 16⟩
abbrev F.DMA_CH_BCCNT_BCNT (n : Nat) (k : Nat) : Fld := ⟨R.DMA_CH_BCCNT n k, 15, 0⟩
abbrev R.DMA_CH_SRC_BSTEP (n : Nat) (k : Nat) : Nat := 0xB0120 + 0x1000 * n + 0x80 * k
abbrev R.DMA_CH_SRC_CSTEP (n : Nat) (k : Nat) : Nat := 0xB0124 + 0x1000 * n + 0x80 * k
abbrev R.DMA_CH_DST_BSTEP (n : Nat) (k : Nat) : Nat := 0xB0128 + 0x1000 * n + 0x80 * k
abbrev R.DMA_CH_DST_CSTEP (n : Nat) (k : Nat) : Nat := 0xB012C + 0x1000 * n + 0x80 * k
abbrev R.DMA_CH_CRC_SEED (n : Nat) (k : Nat) : Nat := 0xB0130 + 0x1000 * n + 0x80 * k
abbrev R.DMA_CH_CRC_ADDR_LO (n : Nat) (k : Nat) : Nat := 0xB0134 + 0x1000 * n + 0x80 * k
abbrev R.DMA_CH_CRC_ADDR_HI (n : Nat) (k : Nat) : Nat := 0xB0138 + 0x1000 * n + 0x80 * k
abbrev F.DMA_CH_CRC_ADDR_HI_VALUE (n : Nat) (k : Nat) : Fld := ⟨R.DMA_CH_CRC_ADDR_HI n k, 7, 0⟩
abbrev R.DMA_CH_TMO (n : Nat) (k : Nat) : Nat := 0xB013C + 0x1000 * n + 0x80 * k
abbrev F.DMA_CH_TMO_US (n : Nat) (k : Nat) : Fld := ⟨R.DMA_CH_TMO n k, 15, 0⟩
abbrev R.DMA_CH_STAT (n : Nat) (k : Nat) : Nat := 0xB0140 + 0x1000 * n + 0x80 * k
abbrev F.DMA_CH_STAT_STATE (n : Nat) (k : Nat) : Fld := ⟨R.DMA_CH_STAT n k, 31, 28⟩
abbrev F.DMA_CH_STAT_WAITING (n : Nat) (k : Nat) : Fld := ⟨R.DMA_CH_STAT n k, 27, 27⟩
abbrev F.DMA_CH_STAT_STATUS (n : Nat) (k : Nat) : Fld := ⟨R.DMA_CH_STAT n k, 3, 0⟩
abbrev R.DMA_CH_CRC (n : Nat) (k : Nat) : Nat := 0xB0144 + 0x1000 * n + 0x80 * k
abbrev R.DMA_CH_DONE_LO (n : Nat) (k : Nat) : Nat := 0xB0148 + 0x1000 * n + 0x80 * k
abbrev R.DMA_CH_DONE_HI (n : Nat) (k : Nat) : Nat := 0xB014C + 0x1000 * n + 0x80 * k

/-! ### FQ page -/
abbrev R.FQ_POOL : Nat := 0xB8040
abbrev F.FQ_POOL_FREE : Fld := ⟨R.FQ_POOL, 9, 0⟩
abbrev R.FQ_Q_CFG (k : Nat) : Nat := 0xB8400 + 0x40 * k
abbrev F.FQ_Q_CFG_EN (k : Nat) : Fld := ⟨R.FQ_Q_CFG k, 31, 31⟩
abbrev F.FQ_Q_CFG_DEPTH (k : Nat) : Fld := ⟨R.FQ_Q_CFG k, 24, 16⟩
abbrev F.FQ_Q_CFG_PROD (k : Nat) : Fld := ⟨R.FQ_Q_CFG k, 15, 8⟩
abbrev F.FQ_Q_CFG_CONS (k : Nat) : Fld := ⟨R.FQ_Q_CFG k, 7, 0⟩
abbrev R.FQ_Q_LEVEL (k : Nat) : Nat := 0xB8404 + 0x40 * k
abbrev F.FQ_Q_LEVEL_ITEMS (k : Nat) : Fld := ⟨R.FQ_Q_LEVEL k, 30, 16⟩
abbrev F.FQ_Q_LEVEL_WORDS (k : Nat) : Fld := ⟨R.FQ_Q_LEVEL k, 14, 0⟩
abbrev R.FQ_Q_MAX (k : Nat) : Nat := 0xB8408 + 0x40 * k
abbrev F.FQ_Q_MAX_WORDS (k : Nat) : Fld := ⟨R.FQ_Q_MAX k, 14, 0⟩
abbrev R.FQ_Q_STAT (k : Nat) : Nat := 0xB840C + 0x40 * k
abbrev F.FQ_Q_STAT_OPEN (k : Nat) : Fld := ⟨R.FQ_Q_STAT k, 31, 31⟩
abbrev F.FQ_Q_STAT_FLUSH_PARTIAL (k : Nat) : Fld := ⟨R.FQ_Q_STAT k, 30, 30⟩
abbrev F.FQ_Q_STAT_UNDERRUN (k : Nat) : Fld := ⟨R.FQ_Q_STAT k, 29, 29⟩
abbrev F.FQ_Q_STAT_POISON_SEEN (k : Nat) : Fld := ⟨R.FQ_Q_STAT k, 28, 28⟩
abbrev F.FQ_Q_STAT_DISCARD_LEFT (k : Nat) : Fld := ⟨R.FQ_Q_STAT k, 11, 0⟩
abbrev R.FQ_Q_PUSH_LO (k : Nat) : Nat := 0xB8410 + 0x40 * k
abbrev R.FQ_Q_PUSH_HI (k : Nat) : Nat := 0xB8414 + 0x40 * k
abbrev R.FQ_Q_POP_LO (k : Nat) : Nat := 0xB8418 + 0x40 * k
abbrev R.FQ_Q_POP_HI (k : Nat) : Nat := 0xB841C + 0x40 * k
abbrev R.FQ_Q_POP_INFO (k : Nat) : Nat := 0xB8420 + 0x40 * k
abbrev F.FQ_Q_POP_INFO_VALID (k : Nat) : Fld := ⟨R.FQ_Q_POP_INFO k, 31, 31⟩
abbrev F.FQ_Q_POP_INFO_EMPTY (k : Nat) : Fld := ⟨R.FQ_Q_POP_INFO k, 30, 30⟩
abbrev F.FQ_Q_POP_INFO_POISON (k : Nat) : Fld := ⟨R.FQ_Q_POP_INFO k, 29, 29⟩
abbrev F.FQ_Q_POP_INFO_NOT_CONS (k : Nat) : Fld := ⟨R.FQ_Q_POP_INFO k, 28, 28⟩
abbrev F.FQ_Q_POP_INFO_HDR (k : Nat) : Fld := ⟨R.FQ_Q_POP_INFO k, 27, 27⟩
abbrev R.FQ_Q_CTRL (k : Nat) : Nat := 0xB8424 + 0x40 * k
abbrev F.FQ_Q_CTRL_FLUSH (k : Nat) : Fld := ⟨R.FQ_Q_CTRL k, 0, 0⟩
abbrev R.FQ_Q_UNDERRUN (k : Nat) : Nat := 0xB8428 + 0x40 * k
abbrev R.FQ_Q_DROP (k : Nat) : Nat := 0xB842C + 0x40 * k
abbrev R.FQ_FLUSH_DROPPED (k : Nat) : Nat := 0xB8430 + 0x40 * k
abbrev R.FQ_Q_CE (k : Nat) : Nat := 0xB8434 + 0x40 * k

/-! ### HOST page -/
abbrev R.HOST_CFG : Nat := 0xD0040
abbrev F.HOST_CFG_MODE : Fld := ⟨R.HOST_CFG, 0, 0⟩
abbrev R.HOST_SUBSYS : Nat := 0xD0044
abbrev F.HOST_SUBSYS_SUBSYS_ID : Fld := ⟨R.HOST_SUBSYS, 31, 16⟩
abbrev F.HOST_SUBSYS_SUBSYS_VID : Fld := ⟨R.HOST_SUBSYS, 15, 0⟩
abbrev R.HOST_STAT : Nat := 0xD0048
abbrev F.HOST_STAT_CFG_READY : Fld := ⟨R.HOST_STAT, 31, 31⟩
abbrev F.HOST_STAT_DL_UP : Fld := ⟨R.HOST_STAT, 30, 30⟩
abbrev F.HOST_STAT_WIDTH : Fld := ⟨R.HOST_STAT, 29, 26⟩
abbrev F.HOST_STAT_SPEED : Fld := ⟨R.HOST_STAT, 25, 23⟩
abbrev F.HOST_STAT_DSTATE : Fld := ⟨R.HOST_STAT, 22, 21⟩
abbrev F.HOST_STAT_BME : Fld := ⟨R.HOST_STAT, 20, 20⟩
abbrev F.HOST_STAT_MSIX_EN : Fld := ⟨R.HOST_STAT, 19, 19⟩
abbrev F.HOST_STAT_MSIX_FMASK : Fld := ⟨R.HOST_STAT, 18, 18⟩
abbrev F.HOST_STAT_ASPM_L1 : Fld := ⟨R.HOST_STAT, 17, 17⟩
abbrev R.HOST_HIF_DEV : Nat := 0xD004C
abbrev F.HOST_HIF_DEV_MAX : Fld := ⟨R.HOST_HIF_DEV, 31, 16⟩
abbrev F.HOST_HIF_DEV_MIN : Fld := ⟨R.HOST_HIF_DEV, 15, 0⟩
abbrev R.HOST_HIF_OFFER : Nat := 0xD0050
abbrev F.HOST_HIF_OFFER_MAX : Fld := ⟨R.HOST_HIF_OFFER, 31, 16⟩
abbrev F.HOST_HIF_OFFER_MIN : Fld := ⟨R.HOST_HIF_OFFER, 15, 0⟩
abbrev R.HOST_HIF_AGREED : Nat := 0xD0054
abbrev F.HOST_HIF_AGREED_VALID : Fld := ⟨R.HOST_HIF_AGREED, 31, 31⟩
abbrev F.HOST_HIF_AGREED_FAIL : Fld := ⟨R.HOST_HIF_AGREED, 30, 30⟩
abbrev F.HOST_HIF_AGREED_VERSION : Fld := ⟨R.HOST_HIF_AGREED, 15, 0⟩
abbrev R.HOST_ADDR_BITS : Nat := 0xD0058
abbrev F.HOST_ADDR_BITS_BITS : Fld := ⟨R.HOST_ADDR_BITS, 6, 0⟩
abbrev R.HOST_SEG (i : Nat) : Nat := 0xD0080 + 0x4 * i
abbrev F.HOST_SEG_EN (i : Nat) : Fld := ⟨R.HOST_SEG i, 31, 31⟩
abbrev F.HOST_SEG_FRAME (i : Nat) : Fld := ⟨R.HOST_SEG i, 17, 0⟩
abbrev R.HOST_BAR2_ABORT : Nat := 0xD00C0
abbrev R.HOST_BAR2_LAST_LO : Nat := 0xD00C4
abbrev R.HOST_BAR2_LAST_HI : Nat := 0xD00C8
abbrev F.HOST_BAR2_LAST_HI_VALUE : Fld := ⟨R.HOST_BAR2_LAST_HI, 3, 0⟩
abbrev R.HOST_AER_CE : Nat := 0xD00D0
abbrev R.HOST_AER_UE : Nat := 0xD00D4
abbrev R.HOST_RP_STAT : Nat := 0xD0100
abbrev F.HOST_RP_STAT_DL_UP : Fld := ⟨R.HOST_RP_STAT, 31, 31⟩
abbrev F.HOST_RP_STAT_WIDTH : Fld := ⟨R.HOST_RP_STAT, 30, 27⟩
abbrev F.HOST_RP_STAT_SPEED : Fld := ⟨R.HOST_RP_STAT, 26, 24⟩
abbrev R.HOST_RP_CTRL : Nat := 0xD0104
abbrev F.HOST_RP_CTRL_RETRAIN : Fld := ⟨R.HOST_RP_CTRL, 1, 1⟩
abbrev F.HOST_RP_CTRL_PERST : Fld := ⟨R.HOST_RP_CTRL, 0, 0⟩
abbrev R.HOST_RP_ADDR_LO : Nat := 0xD0108
abbrev R.HOST_RP_ADDR_HI : Nat := 0xD010C
abbrev R.HOST_RP_WDATA : Nat := 0xD0110
abbrev R.HOST_RP_CMD : Nat := 0xD0114
abbrev F.HOST_RP_CMD_OP : Fld := ⟨R.HOST_RP_CMD, 31, 28⟩
abbrev F.HOST_RP_CMD_BE : Fld := ⟨R.HOST_RP_CMD, 3, 0⟩
abbrev R.HOST_RP_RES : Nat := 0xD0118
abbrev F.HOST_RP_RES_BUSY : Fld := ⟨R.HOST_RP_RES, 31, 31⟩
abbrev F.HOST_RP_RES_RESULT : Fld := ⟨R.HOST_RP_RES, 30, 28⟩
abbrev R.HOST_RP_RDATA : Nat := 0xD011C
abbrev R.HOST_RP_MSI_ADDR_LO : Nat := 0xD0120
abbrev F.HOST_RP_MSI_ADDR_LO_VALUE : Fld := ⟨R.HOST_RP_MSI_ADDR_LO, 31, 2⟩
abbrev R.HOST_RP_MSI_ADDR_HI : Nat := 0xD0124
abbrev R.HOST_RP_MSI : Nat := 0xD0128
abbrev F.HOST_RP_MSI_COUNT : Fld := ⟨R.HOST_RP_MSI, 31, 16⟩
abbrev F.HOST_RP_MSI_DATA : Fld := ⟨R.HOST_RP_MSI, 15, 0⟩

/-! ### HQ page -/
abbrev R.HQ_FW_RING : Nat := 0xD1040
abbrev F.HQ_FW_RING_EN : Fld := ⟨R.HQ_FW_RING, 31, 31⟩
abbrev F.HQ_FW_RING_FRAME : Fld := ⟨R.HQ_FW_RING, 17, 0⟩
abbrev R.HQ_FW_WR : Nat := 0xD1044
abbrev R.HQ_FW_RD : Nat := 0xD1048
abbrev R.HQ_FW_MAX : Nat := 0xD104C
abbrev F.HQ_FW_MAX_VALUE : Fld := ⟨R.HQ_FW_MAX, 15, 0⟩
abbrev R.HQ_FW_CPL_LO : Nat := 0xD1050
abbrev F.HQ_FW_CPL_LO_RESULT : Fld := ⟨R.HQ_FW_CPL_LO, 31, 0⟩
abbrev R.HQ_FW_CPL_HI : Nat := 0xD1054
abbrev F.HQ_FW_CPL_HI_Q : Fld := ⟨R.HQ_FW_CPL_HI, 31, 28⟩
abbrev F.HQ_FW_CPL_HI_STATUS : Fld := ⟨R.HQ_FW_CPL_HI, 23, 16⟩
abbrev F.HQ_FW_CPL_HI_CID : Fld := ⟨R.HQ_FW_CPL_HI, 15, 0⟩
abbrev R.HQ_Q_CFG (k : Nat) : Nat := 0xD1100 + 0x40 * k
abbrev F.HQ_Q_CFG_EN (k : Nat) : Fld := ⟨R.HQ_Q_CFG k, 31, 31⟩
abbrev F.HQ_Q_CFG_DMA_EN (k : Nat) : Fld := ⟨R.HQ_Q_CFG k, 21, 21⟩
abbrev F.HQ_Q_CFG_DMA_CH (k : Nat) : Fld := ⟨R.HQ_Q_CFG k, 20, 16⟩
abbrev R.HQ_Q_SIZE (k : Nat) : Nat := 0xD1104 + 0x40 * k
abbrev F.HQ_Q_SIZE_CQ_SIZE (k : Nat) : Fld := ⟨R.HQ_Q_SIZE k, 31, 16⟩
abbrev F.HQ_Q_SIZE_SQ_SIZE (k : Nat) : Fld := ⟨R.HQ_Q_SIZE k, 15, 0⟩
abbrev R.HQ_Q_SQ_LO (k : Nat) : Nat := 0xD1108 + 0x40 * k
abbrev F.HQ_Q_SQ_LO_VALUE (k : Nat) : Fld := ⟨R.HQ_Q_SQ_LO k, 31, 6⟩
abbrev R.HQ_Q_SQ_HI (k : Nat) : Nat := 0xD110C + 0x40 * k
abbrev R.HQ_Q_CQ_LO (k : Nat) : Nat := 0xD1110 + 0x40 * k
abbrev F.HQ_Q_CQ_LO_VALUE (k : Nat) : Fld := ⟨R.HQ_Q_CQ_LO k, 31, 4⟩
abbrev R.HQ_Q_CQ_HI (k : Nat) : Nat := 0xD1114 + 0x40 * k
abbrev R.HQ_Q_STAT (k : Nat) : Nat := 0xD1118 + 0x40 * k
abbrev F.HQ_Q_STAT_STATE (k : Nat) : Fld := ⟨R.HQ_Q_STAT k, 31, 28⟩
abbrev F.HQ_Q_STAT_PHASE (k : Nat) : Fld := ⟨R.HQ_Q_STAT k, 27, 27⟩
abbrev F.HQ_Q_STAT_SQ_HEAD (k : Nat) : Fld := ⟨R.HQ_Q_STAT k, 23, 12⟩
abbrev F.HQ_Q_STAT_CQ_TAIL (k : Nat) : Fld := ⟨R.HQ_Q_STAT k, 11, 0⟩
abbrev R.HQ_Q_FWOUT (k : Nat) : Nat := 0xD111C + 0x40 * k
abbrev F.HQ_Q_FWOUT_VALUE (k : Nat) : Fld := ⟨R.HQ_Q_FWOUT k, 12, 0⟩
abbrev R.HQ_Q_DONE (k : Nat) : Nat := 0xD1120 + 0x40 * k
abbrev R.HQ_SQ_TAIL (k : Nat) : Nat := 0xD1800 + 0x8 * k
abbrev F.HQ_SQ_TAIL_TAIL (k : Nat) : Fld := ⟨R.HQ_SQ_TAIL k, 11, 0⟩
abbrev R.HQ_CQ_HEAD (k : Nat) : Nat := 0xD1804 + 0x8 * k
abbrev F.HQ_CQ_HEAD_HEAD (k : Nat) : Fld := ⟨R.HQ_CQ_HEAD k, 11, 0⟩

/-! ### CAL page -/
abbrev R.CAL_RUN_CFG : Nat := 0xF0040
abbrev F.CAL_RUN_CFG_PART : Fld := ⟨R.CAL_RUN_CFG, 29, 24⟩
abbrev F.CAL_RUN_CFG_STRICT : Fld := ⟨R.CAL_RUN_CFG, 19, 19⟩
abbrev F.CAL_RUN_CFG_IN_MODE : Fld := ⟨R.CAL_RUN_CFG, 18, 18⟩
abbrev F.CAL_RUN_CFG_SCOPE : Fld := ⟨R.CAL_RUN_CFG, 17, 16⟩
abbrev F.CAL_RUN_CFG_DEC : Fld := ⟨R.CAL_RUN_CFG, 4, 4⟩
abbrev F.CAL_RUN_CFG_IN : Fld := ⟨R.CAL_RUN_CFG, 3, 3⟩
abbrev F.CAL_RUN_CFG_TH : Fld := ⟨R.CAL_RUN_CFG, 2, 2⟩
abbrev F.CAL_RUN_CFG_OUT : Fld := ⟨R.CAL_RUN_CFG, 1, 1⟩
abbrev F.CAL_RUN_CFG_TIA : Fld := ⟨R.CAL_RUN_CFG, 0, 0⟩
abbrev R.CAL_TG_MASK : Nat := 0xF0044
abbrev F.CAL_TG_MASK_TGS : Fld := ⟨R.CAL_TG_MASK, 15, 0⟩
abbrev R.CAL_TIA_SEL : Nat := 0xF0048
abbrev F.CAL_TIA_SEL_USE : Fld := ⟨R.CAL_TIA_SEL, 18, 16⟩
abbrev F.CAL_TIA_SEL_PAGES : Fld := ⟨R.CAL_TIA_SEL, 7, 0⟩
abbrev R.CAL_DEC_MASK : Nat := 0xF004C
abbrev R.CAL_RUN_TMO : Nat := 0xF0050
abbrev F.CAL_RUN_TMO_MS : Fld := ⟨R.CAL_RUN_TMO, 15, 0⟩
abbrev R.CAL_CYC : Nat := 0xF0054
abbrev F.CAL_CYC_PERIOD_PS : Fld := ⟨R.CAL_CYC, 22, 0⟩
abbrev R.CAL_T0 : Nat := 0xF0058
abbrev F.CAL_T0_T0_PS : Fld := ⟨R.CAL_T0, 22, 0⟩
abbrev R.CAL_OUT_CFG : Nat := 0xF005C
abbrev F.CAL_OUT_CFG_EDGES_LOG2 : Fld := ⟨R.CAL_OUT_CFG, 19, 16⟩
abbrev F.CAL_OUT_CFG_RMS_LIM_PS : Fld := ⟨R.CAL_OUT_CFG, 15, 8⟩
abbrev R.CAL_IN_CFG : Nat := 0xF0060
abbrev F.CAL_IN_CFG_N_LOG2 : Fld := ⟨R.CAL_IN_CFG, 31, 28⟩
abbrev F.CAL_IN_CFG_STEP_PS : Fld := ⟨R.CAL_IN_CFG, 23, 16⟩
abbrev F.CAL_IN_CFG_SPAN_PS : Fld := ⟨R.CAL_IN_CFG, 15, 0⟩
abbrev R.CAL_IN_LIM : Nat := 0xF0064
abbrev F.CAL_IN_LIM_W_LIM_PS : Fld := ⟨R.CAL_IN_LIM, 7, 0⟩
abbrev R.CAL_TH_CFG : Nat := 0xF0068
abbrev F.CAL_TH_CFG_FRAC_H : Fld := ⟨R.CAL_TH_CFG, 31, 24⟩
abbrev F.CAL_TH_CFG_FRAC_L : Fld := ⟨R.CAL_TH_CFG, 23, 16⟩
abbrev F.CAL_TH_CFG_N_LOG2 : Fld := ⟨R.CAL_TH_CFG, 15, 12⟩
abbrev F.CAL_TH_CFG_MIN_SPAN : Fld := ⟨R.CAL_TH_CFG, 11, 0⟩
abbrev R.CAL_TH_RANGE : Nat := 0xF006C
abbrev F.CAL_TH_RANGE_CODE_MAX : Fld := ⟨R.CAL_TH_RANGE, 31, 16⟩
abbrev F.CAL_TH_RANGE_CODE_MIN : Fld := ⟨R.CAL_TH_RANGE, 15, 0⟩
abbrev R.CAL_DEC_CFG : Nat := 0xF0070
abbrev F.CAL_DEC_CFG_SAMP_LOG2 : Fld := ⟨R.CAL_DEC_CFG, 28, 24⟩
abbrev F.CAL_DEC_CFG_RANGES : Fld := ⟨R.CAL_DEC_CFG, 23, 20⟩
abbrev F.CAL_DEC_CFG_RMS_LIM : Fld := ⟨R.CAL_DEC_CFG, 19, 0⟩
abbrev R.CAL_CMD : Nat := 0xF0080
abbrev F.CAL_CMD_GO : Fld := ⟨R.CAL_CMD, 2, 2⟩
abbrev F.CAL_CMD_ABANDON : Fld := ⟨R.CAL_CMD, 1, 1⟩
abbrev F.CAL_CMD_START : Fld := ⟨R.CAL_CMD, 0, 0⟩
abbrev R.CAL_STAT : Nat := 0xF0084
abbrev F.CAL_STAT_STATE : Fld := ⟨R.CAL_STAT, 31, 28⟩
abbrev F.CAL_STAT_STAGE : Fld := ⟨R.CAL_STAT, 27, 24⟩
abbrev F.CAL_STAT_END : Fld := ⟨R.CAL_STAT, 23, 20⟩
abbrev F.CAL_STAT_UNSAVED : Fld := ⟨R.CAL_STAT, 19, 19⟩
abbrev F.CAL_STAT_STALE : Fld := ⟨R.CAL_STAT, 18, 18⟩
abbrev F.CAL_STAT_EMPTY : Fld := ⟨R.CAL_STAT, 17, 17⟩
abbrev F.CAL_STAT_TH_SUSPECT : Fld := ⟨R.CAL_STAT, 15, 0⟩
abbrev R.CAL_DEC_WAIT : Nat := 0xF0088
abbrev F.CAL_DEC_WAIT_WAITING : Fld := ⟨R.CAL_DEC_WAIT, 31, 31⟩
abbrev F.CAL_DEC_WAIT_DEC_RANGE : Fld := ⟨R.CAL_DEC_WAIT, 1, 0⟩
abbrev R.CAL_GEN : Nat := 0xF008C
abbrev R.CAL_SAVED : Nat := 0xF0090
abbrev F.CAL_SAVED_GEN : Fld := ⟨R.CAL_SAVED, 31, 0⟩
abbrev R.CAL_RES_SEL : Nat := 0xF0094
abbrev F.CAL_RES_SEL_LINE : Fld := ⟨R.CAL_RES_SEL, 9, 0⟩
abbrev R.CAL_RES : Nat := 0xF0098
abbrev F.CAL_RES_CAUSE : Fld := ⟨R.CAL_RES, 31, 28⟩
abbrev F.CAL_RES_TAPS : Fld := ⟨R.CAL_RES, 23, 12⟩
abbrev R.CAL_RES_ERR : Nat := 0xF009C
abbrev R.CAL_RES_SCALE : Nat := 0xF00A0
abbrev F.CAL_RES_SCALE_SCALE : Fld := ⟨R.CAL_RES_SCALE, 15, 0⟩
abbrev R.CAL_RES_TH : Nat := 0xF00A4
abbrev F.CAL_RES_TH_C_HIGH : Fld := ⟨R.CAL_RES_TH, 31, 16⟩
abbrev F.CAL_RES_TH_C_LOW : Fld := ⟨R.CAL_RES_TH, 15, 0⟩
abbrev R.CAL_FAIL_COUNT : Nat := 0xF00A8
abbrev R.CAL_DEC_FAIL : Nat := 0xF00AC
abbrev R.CAL_EXP_CTRL : Nat := 0xF00C0
abbrev F.CAL_EXP_CTRL_VER : Fld := ⟨R.CAL_EXP_CTRL, 15, 8⟩
abbrev F.CAL_EXP_CTRL_START : Fld := ⟨R.CAL_EXP_CTRL, 0, 0⟩
abbrev R.CAL_EXP_DATA : Nat := 0xF00C4
abbrev R.CAL_EXP_STAT : Nat := 0xF00C8
abbrev F.CAL_EXP_STAT_ACTIVE : Fld := ⟨R.CAL_EXP_STAT, 31, 31⟩
abbrev F.CAL_EXP_STAT_RESULT : Fld := ⟨R.CAL_EXP_STAT, 30, 28⟩
abbrev F.CAL_EXP_STAT_WORDS_LEFT : Fld := ⟨R.CAL_EXP_STAT, 15, 0⟩
abbrev R.CAL_IMP_CTRL : Nat := 0xF00D0
abbrev F.CAL_IMP_CTRL_CANCEL : Fld := ⟨R.CAL_IMP_CTRL, 2, 2⟩
abbrev F.CAL_IMP_CTRL_COMMIT : Fld := ⟨R.CAL_IMP_CTRL, 1, 1⟩
abbrev F.CAL_IMP_CTRL_BEGIN : Fld := ⟨R.CAL_IMP_CTRL, 0, 0⟩
abbrev R.CAL_IMP_DATA : Nat := 0xF00D4
abbrev R.CAL_IMP_STAT : Nat := 0xF00D8
abbrev F.CAL_IMP_STAT_STATE : Fld := ⟨R.CAL_IMP_STAT, 31, 28⟩
abbrev F.CAL_IMP_STAT_CAUSE : Fld := ⟨R.CAL_IMP_STAT, 27, 24⟩
abbrev F.CAL_IMP_STAT_RECORD : Fld := ⟨R.CAL_IMP_STAT, 23, 16⟩
abbrev F.CAL_IMP_STAT_WORDS : Fld := ⟨R.CAL_IMP_STAT, 15, 0⟩
abbrev R.CAL_TH_IMG (i : Nat) : Nat := 0xF0800 + 0x4 * i
abbrev F.CAL_TH_IMG_TH_LO (i : Nat) : Fld := ⟨R.CAL_TH_IMG i, 31, 16⟩
abbrev F.CAL_TH_IMG_TH_HI (i : Nat) : Fld := ⟨R.CAL_TH_IMG i, 15, 0⟩

/-! ### PART page -/
abbrev R.PART_CMD : Nat := 0x100040
abbrev F.PART_CMD_OP : Fld := ⟨R.PART_CMD, 31, 28⟩
abbrev F.PART_CMD_PART : Fld := ⟨R.PART_CMD, 21, 16⟩
abbrev R.PART_SHARED_OWNER : Nat := 0x100044
abbrev R.PART_ISO : Nat := 0x100048
abbrev F.PART_ISO_ENFORCED : Fld := ⟨R.PART_ISO, 0, 0⟩
abbrev R.PART_RET_QUAD_LO : Nat := 0x100050
abbrev R.PART_RET_QUAD_HI : Nat := 0x100054
abbrev R.PART_RET_TU_LO : Nat := 0x100058
abbrev R.PART_RET_TU_HI : Nat := 0x10005C
abbrev R.PART_RET_DX : Nat := 0x100060
abbrev R.PART_RET_SY : Nat := 0x100064
abbrev F.PART_RET_SY_DP : Fld := ⟨R.PART_RET_SY, 19, 16⟩
abbrev F.PART_RET_SY_SY : Fld := ⟨R.PART_RET_SY, 15, 0⟩
abbrev R.PART_RET_MISC : Nat := 0x100068
abbrev F.PART_RET_MISC_FP : Fld := ⟨R.PART_RET_MISC, 29, 24⟩
abbrev F.PART_RET_MISC_CU : Fld := ⟨R.PART_RET_MISC, 23, 16⟩
abbrev F.PART_RET_MISC_SQ : Fld := ⟨R.PART_RET_MISC, 15, 0⟩
abbrev R.PART_TTAG_SEL : Nat := 0x100070
abbrev F.PART_TTAG_SEL_THREAD : Fld := ⟨R.PART_TTAG_SEL, 7, 0⟩
abbrev R.PART_TTAG_LO : Nat := 0x100074
abbrev R.PART_TTAG_HI : Nat := 0x100078
abbrev R.PART_HQ_TAG_LO (i : Nat) : Nat := 0x100080 + 0x8 * i
abbrev R.PART_HQ_TAG_HI (i : Nat) : Nat := 0x100084 + 0x8 * i
abbrev R.PART_P_CFG (k : Nat) : Nat := 0x100200 + 0x20 * k
abbrev F.PART_P_CFG_DEFINED (k : Nat) : Fld := ⟨R.PART_P_CFG k, 31, 31⟩
abbrev R.PART_P_QUAD_LO (k : Nat) : Nat := 0x100204 + 0x20 * k
abbrev R.PART_P_QUAD_HI (k : Nat) : Nat := 0x100208 + 0x20 * k
abbrev R.PART_P_RES (k : Nat) : Nat := 0x10020C + 0x20 * k
abbrev F.PART_P_RES_DP (k : Nat) : Fld := ⟨R.PART_P_RES k, 19, 16⟩
abbrev F.PART_P_RES_SY (k : Nat) : Fld := ⟨R.PART_P_RES k, 15, 0⟩
abbrev R.PART_P_DX (k : Nat) : Nat := 0x100210 + 0x20 * k
abbrev R.PART_P_TU_LO (k : Nat) : Nat := 0x100214 + 0x20 * k
abbrev R.PART_P_TU_HI (k : Nat) : Nat := 0x100218 + 0x20 * k
abbrev R.PART_P_STAT (k : Nat) : Nat := 0x10021C + 0x20 * k
abbrev F.PART_P_STAT_STATE (k : Nat) : Fld := ⟨R.PART_P_STAT k, 31, 28⟩
abbrev F.PART_P_STAT_SEQ (k : Nat) : Fld := ⟨R.PART_P_STAT k, 27, 24⟩
abbrev F.PART_P_STAT_CUS (k : Nat) : Fld := ⟨R.PART_P_STAT k, 23, 16⟩
abbrev F.PART_P_STAT_ISOLATED (k : Nat) : Fld := ⟨R.PART_P_STAT k, 15, 15⟩
abbrev F.PART_P_STAT_SVC_BUSY (k : Nat) : Fld := ⟨R.PART_P_STAT k, 14, 14⟩
abbrev F.PART_P_STAT_STATUS (k : Nat) : Fld := ⟨R.PART_P_STAT k, 10, 8⟩
abbrev F.PART_P_STAT_DUT_FAIL (k : Nat) : Fld := ⟨R.PART_P_STAT k, 7, 7⟩
abbrev F.PART_P_STAT_FCAUSE (k : Nat) : Fld := ⟨R.PART_P_STAT k, 3, 0⟩

/-! ### DEV page -/
abbrev R.DEV_UID_LO : Nat := 0x44
abbrev R.DEV_UID_HI : Nat := 0x48
abbrev R.DEV_BOOT : Nat := 0x4C
abbrev F.DEV_BOOT_DONE : Fld := ⟨R.DEV_BOOT, 31, 31⟩
abbrev F.DEV_BOOT_TRAINED : Fld := ⟨R.DEV_BOOT, 30, 30⟩
abbrev F.DEV_BOOT_IMAGE : Fld := ⟨R.DEV_BOOT, 29, 28⟩
abbrev F.DEV_BOOT_FALLBACK : Fld := ⟨R.DEV_BOOT, 27, 27⟩
abbrev R.DEV_BOOT_PREF : Nat := 0x50
abbrev F.DEV_BOOT_PREF_FIRST : Fld := ⟨R.DEV_BOOT_PREF, 1, 0⟩
abbrev R.DEV_IMG_SEQ : Nat := 0x54
abbrev R.DEV_TIN (i : Nat) : Nat := 0x80 + 0x4 * i
abbrev F.DEV_TIN_EDGE (i : Nat) : Fld := ⟨R.DEV_TIN i, 9, 8⟩
abbrev F.DEV_TIN_FILT (i : Nat) : Fld := ⟨R.DEV_TIN i, 7, 0⟩
abbrev R.DEV_SIN : Nat := 0xA0
abbrev R.DEV_TOUT (i : Nat) : Nat := 0xC0 + 0x4 * i
abbrev F.DEV_TOUT_SW_LEVEL (i : Nat) : Fld := ⟨R.DEV_TOUT i, 31, 31⟩
abbrev F.DEV_TOUT_TP_EN (i : Nat) : Fld := ⟨R.DEV_TOUT i, 30, 30⟩
abbrev F.DEV_TOUT_TP_SEQ (i : Nat) : Fld := ⟨R.DEV_TOUT i, 27, 24⟩
abbrev F.DEV_TOUT_TP_WIDTH (i : Nat) : Fld := ⟨R.DEV_TOUT i, 15, 8⟩
abbrev R.DEV_SYNC : Nat := 0xE0
abbrev F.DEV_SYNC_PULSE : Fld := ⟨R.DEV_SYNC, 31, 31⟩
abbrev F.DEV_SYNC_ROUTE : Fld := ⟨R.DEV_SYNC, 11, 8⟩
abbrev F.DEV_SYNC_OUT_SRC : Fld := ⟨R.DEV_SYNC, 5, 4⟩
abbrev F.DEV_SYNC_OUT_ARG : Fld := ⟨R.DEV_SYNC, 3, 0⟩

/-! ### FUSE page -/
abbrev R.FUSE_LC : Nat := 0x1060
abbrev F.FUSE_LC_ISO : Fld := ⟨R.FUSE_LC, 7, 7⟩
abbrev F.FUSE_LC_DEBUG_LOCK : Fld := ⟨R.FUSE_LC, 6, 6⟩
abbrev F.FUSE_LC_CKEY_REVOKE : Fld := ⟨R.FUSE_LC, 5, 4⟩
abbrev F.FUSE_LC_LIFECYCLE : Fld := ⟨R.FUSE_LC, 1, 0⟩
abbrev R.FUSE_MOSC : Nat := 0x1064
abbrev F.FUSE_MOSC_TRIM : Fld := ⟨R.FUSE_MOSC, 7, 0⟩
abbrev R.FUSE_VKEY_HASH (i : Nat) : Nat := 0x1080 + 0x4 * i
abbrev R.FUSE_CKEY_HASH0 (i : Nat) : Nat := 0x10C0 + 0x4 * i
abbrev R.FUSE_CKEY_HASH1 (i : Nat) : Nat := 0x1100 + 0x4 * i

/-! ### CLK page -/
abbrev R.CLK_TPLL : Nat := 0x2040
abbrev F.CLK_TPLL_LOCKED : Fld := ⟨R.CLK_TPLL, 31, 31⟩
abbrev F.CLK_TPLL_EPOCH : Fld := ⟨R.CLK_TPLL, 23, 16⟩
abbrev F.CLK_TPLL_LOCK_US : Fld := ⟨R.CLK_TPLL, 15, 0⟩
abbrev R.CLK_SPLL : Nat := 0x2044
abbrev F.CLK_SPLL_LOCK0 : Fld := ⟨R.CLK_SPLL, 31, 31⟩
abbrev F.CLK_SPLL_LOCK1 : Fld := ⟨R.CLK_SPLL, 30, 30⟩
abbrev R.CLK_MCLK : Nat := 0x2048
abbrev F.CLK_MCLK_SRC : Fld := ⟨R.CLK_MCLK, 31, 31⟩
abbrev R.CLK_REF : Nat := 0x204C
abbrev F.CLK_REF_TREF_OK : Fld := ⟨R.CLK_REF, 31, 31⟩
abbrev F.CLK_REF_SREF_OK : Fld := ⟨R.CLK_REF, 30, 30⟩
abbrev F.CLK_REF_HLREF_OK : Fld := ⟨R.CLK_REF, 29, 29⟩
abbrev F.CLK_REF_XTAL_OK : Fld := ⟨R.CLK_REF, 28, 28⟩

/-! ### RST page -/
abbrev R.RST_CAUSE : Nat := 0x3040
abbrev F.RST_CAUSE_CAUSE : Fld := ⟨R.RST_CAUSE, 31, 28⟩
abbrev F.RST_CAUSE_FLT_SRC : Fld := ⟨R.RST_CAUSE, 15, 8⟩
abbrev R.RST_COUNT : Nat := 0x3044
abbrev R.RST_CHIP : Nat := 0x3048
abbrev F.RST_CHIP_KEY : Fld := ⟨R.RST_CHIP, 31, 16⟩

/-! ### PWR page -/
abbrev R.PWR_WAKE_EN : Nat := 0x4040
abbrev F.PWR_WAKE_EN_EN : Fld := ⟨R.PWR_WAKE_EN, 4, 0⟩
abbrev R.PWR_WAKE_STAT : Nat := 0x4044
abbrev F.PWR_WAKE_STAT_PEND : Fld := ⟨R.PWR_WAKE_STAT, 4, 0⟩
abbrev R.PWR_WAKE_TMR : Nat := 0x4048
abbrev F.PWR_WAKE_TMR_TICKS : Fld := ⟨R.PWR_WAKE_TMR, 31, 0⟩
abbrev R.PWR_STAT : Nat := 0x404C
abbrev F.PWR_STAT_SLEEP_ABORT : Fld := ⟨R.PWR_STAT, 31, 31⟩
abbrev F.PWR_STAT_ABORT_CAUSE : Fld := ⟨R.PWR_STAT, 30, 28⟩
abbrev F.PWR_STAT_LAST_SLEEP : Fld := ⟨R.PWR_STAT, 27, 24⟩
abbrev F.PWR_STAT_LAST_WAKE : Fld := ⟨R.PWR_STAT, 4, 0⟩
abbrev R.PWR_SLEEP_TMO : Nat := 0x4050
abbrev F.PWR_SLEEP_TMO_US : Fld := ⟨R.PWR_SLEEP_TMO, 15, 0⟩
abbrev R.PWR_RAIL : Nat := 0x4054
abbrev F.PWR_RAIL_LAST_OUT : Fld := ⟨R.PWR_RAIL, 14, 8⟩
abbrev F.PWR_RAIL_IN_RANGE : Fld := ⟨R.PWR_RAIL, 6, 0⟩
abbrev R.PWR_TEMP : Nat := 0x4058
abbrev F.PWR_TEMP_T : Fld := ⟨R.PWR_TEMP, 15, 0⟩
abbrev R.PWR_TEMP_MAX : Nat := 0x405C
abbrev F.PWR_TEMP_MAX_T : Fld := ⟨R.PWR_TEMP_MAX, 15, 0⟩

/-! ### Event and fault bits of each page -/
abbrev E.SEQ_STARTED : Nat := 0
abbrev E.SEQ_STOPPED : Nat := 1
abbrev E.SEQ_PAUSED : Nat := 2
abbrev E.SEQ_RESUMED : Nat := 3
abbrev E.SEQ_MATCH_TIMEOUT : Nat := 4
abbrev E.SEQ_HOLD_BEGIN : Nat := 5
abbrev E.SEQ_HOLD_END : Nat := 6
abbrev X.SEQ_COND_LATE : Nat := 0
abbrev X.SEQ_STALL_ABORT : Nat := 1
abbrev X.SEQ_ILLEGAL : Nat := 2
abbrev X.SEQ_STACK : Nat := 3
abbrev X.SEQ_MALFORMED : Nat := 4
abbrev X.SEQ_UWDOG : Nat := 5
abbrev X.SEQ_CSTORE_ECC : Nat := 6
abbrev E.MC_DRAINED : Nat := 0
abbrev E.MC_RELEASED : Nat := 1
abbrev E.MC_RELEASE_FAIL : Nat := 2
abbrev E.MC_PATCH_LOADED : Nat := 3
abbrev E.MC_RELOADED : Nat := 4
abbrev X.MC_UOP_ILLEGAL : Nat := 0
abbrev X.MC_UBOUNDS : Nat := 1
abbrev X.MC_OVL_UNDERRUN : Nat := 2
abbrev X.MC_ROM_ECC : Nat := 3
abbrev X.MC_PATCH_ECC : Nat := 4
abbrev X.MC_OPEN_ECC : Nat := 5
abbrev X.MC_PATCH_AUTH : Nat := 6
abbrev X.MC_MASTER_ECC : Nat := 7
abbrev E.TG_XFER : Nat := 0
abbrev E.TG_SB_DONE : Nat := 1
abbrev E.TG_DROP : Nat := 2
abbrev E.TG_DIAG_DONE : Nat := 3
abbrev X.TG_EDGE_COLLIDE : Nat := 0
abbrev X.TG_WIN_DROP : Nat := 1
abbrev X.TG_STROBE_DROP : Nat := 2
abbrev X.TG_UNDEF_CODE : Nat := 3
abbrev X.TG_RS_RATIO : Nat := 4
abbrev X.TG_SB_FAIL : Nat := 5
abbrev X.TG_TABLE_ECC : Nat := 6
abbrev E.PGR_MAP_DONE : Nat := 0
abbrev E.PGR_PRELOAD_DONE : Nat := 1
abbrev E.PGR_STALL_BEGIN : Nat := 2
abbrev E.PGR_STALL_END : Nat := 3
abbrev E.PGR_PAGE_FAILED : Nat := 4
abbrev E.PGR_DRAM_LIMIT : Nat := 5
abbrev X.PGR_FETCH_RETRY : Nat := 0
abbrev X.PGR_PAGE_FAIL : Nat := 1
abbrev E.VC_PIN : Nat := 0
abbrev E.VC_UNPIN : Nat := 1
abbrev X.VC_LINE_RETRY : Nat := 0
abbrev X.VC_LINE_FAIL : Nat := 1
abbrev E.CU_TRIGGER : Nat := 0
abbrev E.CU_SEG_DONE : Nat := 1
abbrev E.CU_DONE : Nat := 2
abbrev E.CU_FLOG_FULL : Nat := 3
abbrev E.CU_TSQ : Nat := 4
abbrev E.CU_VIOL : Nat := 5
abbrev E.CU_FIRST_FAIL : Nat := 6
abbrev E.CU_END : Nat := 7
abbrev X.CU_BACKLOG : Nat := 0
abbrev X.CU_WRITE_FAIL : Nat := 1
abbrev E.TIA_DONE (u : Nat) : Nat := 0 + u
abbrev E.TIA_TOO_CLOSE (u : Nat) : Nat := 8 + u
abbrev E.TIA_TCNT_RESTART : Nat := 16
abbrev X.TIA_CAL_FAIL (u : Nat) : Nat := 0 + u
abbrev X.TIA_TBL_ECC : Nat := 8
abbrev X.TIA_RING_FAIL : Nat := 9
abbrev E.DEC_SETTLED (u : Nat) : Nat := 0 + u
abbrev E.DEC_LIMIT (u : Nat) : Nat := 8 + u
abbrev E.DEC_SWAP_DONE (u : Nat) : Nat := 16 + u
abbrev E.DEC_NO_CLOCK : Nat := 24
abbrev E.DEC_CLOCK_BACK : Nat := 25
abbrev X.DEC_CLOCK_LOSS : Nat := 0
abbrev X.DEC_OVERCLOCK : Nat := 1
abbrev X.DEC_COEF_ECC : Nat := 2
abbrev E.SYN_STARTED : Nat := 0
abbrev E.SYN_DONE : Nat := 1
abbrev E.SYN_JUMP : Nat := 2
abbrev E.SYN_SEG_ENTER : Nat := 3
abbrev E.SYN_MARKER (u : Nat) : Nat := 4 + u
abbrev X.SYN_SEG_BAD : Nat := 0
abbrev X.SYN_SKIP_LOOP : Nat := 1
abbrev X.SYN_LIST_ECC : Nat := 2
abbrev X.SYN_FTW_RANGE : Nat := 3
abbrev E.HART_STOPPED : Nat := 0
abbrev E.HART_PREEMPT : Nat := 1
abbrev E.HART_IDLE : Nat := 2
abbrev X.HART_L1_CE : Nat := 0
abbrev X.HART_L1D_UC : Nat := 1
abbrev X.HART_BUS_ERR : Nat := 2
abbrev X.HART_L2_CE : Nat := 8
abbrev X.HART_L2_UC : Nat := 9
abbrev E.SCHED_ORPHAN : Nat := 0
abbrev E.SCHED_RACE : Nat := 1
abbrev X.SCHED_STATE_ECC : Nat := 0
abbrev E.RED_NODE_ERR : Nat := 0
abbrev X.RED_READ_FAIL : Nat := 0
abbrev X.RED_WRITE_FAIL : Nat := 1
abbrev E.TRACE_S_LOSS : Nat := 0
abbrev E.TRACE_P_LOSS : Nat := 1
abbrev X.TRACE_WRITE_FAIL : Nat := 0
abbrev X.HIC_CFG_ECC : Nat := 0
abbrev E.FLT_CE : Nat := 0
abbrev E.FLT_UC : Nat := 1
abbrev E.FLT_FATAL : Nat := 2
abbrev E.FLT_LOG_LOST : Nat := 3
abbrev X.FLT_LOG_CE : Nat := 0
abbrev X.FLT_LOG_UC : Nat := 1
abbrev X.FLT_CFG_UC : Nat := 2
abbrev E.FP_UP : Nat := 0
abbrev E.FP_DOWN : Nat := 1
abbrev E.FP_DEGRADED : Nat := 2
abbrev E.FP_PEER_QUAR : Nat := 3
abbrev E.FP_PEER_SLEEP : Nat := 4
abbrev E.FP_FE_REFUSED : Nat := 5
abbrev X.FP_LINK_RETRY : Nat := 0
abbrev X.FP_DET_RETRY : Nat := 1
abbrev X.FP_LANE_DEGRADE : Nat := 2
abbrev X.FP_TRAIN_FAIL : Nat := 3
abbrev X.FP_LINK_FAIL : Nat := 4
abbrev X.FP_DET_OVF : Nat := 5
abbrev E.FAB_READY : Nat := 0
abbrev E.FAB_ROOT_CHANGE : Nat := 1
abbrev E.FAB_ROUTE_CHANGE : Nat := 2
abbrev E.FAB_ADDR_CHANGE : Nat := 3
abbrev E.FAB_SPAN_HOPS : Nat := 4
abbrev E.FAB_RM_DONE : Nat := 5
abbrev E.FAB_SPAN_END : Nat := 6
abbrev X.FAB_TABLE_ECC : Nat := 0
abbrev E.TIME_LOCKED : Nat := 0
abbrev E.TIME_UNLOCKED : Nat := 1
abbrev E.TIME_STEP : Nat := 2
abbrev E.TIME_STEP_HELD : Nat := 3
abbrev E.TIME_HOLDOVER : Nat := 4
abbrev E.TIME_ALIGN_LOCKED : Nat := 5
abbrev E.TIME_ALIGN_LOST : Nat := 6
abbrev E.TIME_PG (u : Nat) : Nat := 8 + u
abbrev X.TIME_FREQ_RANGE : Nat := 0
abbrev X.TIME_TRIM_RANGE : Nat := 1
abbrev E.DRAM_READY : Nat := 0
abbrev E.DRAM_SR_ENTER : Nat := 1
abbrev E.DRAM_SR_EXIT : Nat := 2
abbrev E.DRAM_RH : Nat := 3
abbrev E.DRAM_TRN_DONE : Nat := 4
abbrev X.DRAM_ECC_CE : Nat := 0
abbrev X.DRAM_ECC_RETRY : Nat := 1
abbrev X.DRAM_CA_REPLAY : Nat := 2
abbrev X.DRAM_ECC_UC : Nat := 3
abbrev X.DRAM_CHAN_FAIL : Nat := 4
abbrev X.DRAM_TRAIN_FAIL : Nat := 5
abbrev E.ALLOC_CMD_DONE : Nat := 0
abbrev E.ALLOC_RETIRE : Nat := 1
abbrev E.ALLOC_REFUSED : Nat := 2
abbrev X.ALLOC_FT_ECC : Nat := 0
abbrev E.DMA_DONE (u : Nat) : Nat := 0 + u
abbrev E.DMA_ERR (u : Nat) : Nat := 8 + u
abbrev X.DMA_BUF_UC : Nat := 0
abbrev X.DMA_HOST_ERR : Nat := 1
abbrev E.FQ_FLUSH_PARTIAL : Nat := 0
abbrev X.FQ_WORD_UC : Nat := 0
abbrev E.HOST_LINK_UP : Nat := 0
abbrev E.HOST_LINK_DOWN : Nat := 1
abbrev E.HOST_HIF : Nat := 2
abbrev E.HOST_DSTATE : Nat := 3
abbrev E.HOST_BAR2_ABORT : Nat := 4
abbrev E.HOST_RP_LINK : Nat := 5
abbrev E.HOST_RP_MSI : Nat := 6
abbrev X.HOST_AER_CE : Nat := 0
abbrev X.HOST_AER_UC : Nat := 1
abbrev X.HOST_RP_CE : Nat := 2
abbrev X.HOST_RP_UC : Nat := 3
abbrev E.HQ_CPL (u : Nat) : Nat := 0 + u
abbrev E.HQ_FW_CMD : Nat := 16
abbrev E.HQ_QERR : Nat := 17
abbrev X.HQ_FETCH_ERR : Nat := 0
abbrev X.HQ_POST_ERR : Nat := 1
abbrev E.CAL_RUN_END : Nat := 0
abbrev E.CAL_STAGE : Nat := 1
abbrev E.CAL_DEC_WAIT : Nat := 2
abbrev E.CAL_IMP_END : Nat := 3
abbrev E.CAL_EXP_END : Nat := 4
abbrev X.CAL_ELEM_FAIL : Nat := 0
abbrev X.CAL_RUN_TMO : Nat := 1
abbrev X.CAL_IMG_ECC : Nat := 2
abbrev X.CAL_TH_SUSPECT : Nat := 3
abbrev E.PART_STATE : Nat := 0
abbrev E.PART_ISOLATED : Nat := 1
abbrev E.PART_SVC_END : Nat := 2
abbrev X.PART_CTX_ECC : Nat := 0
abbrev E.DEV_MODE : Nat := 0
abbrev E.DEV_REJECT : Nat := 1
abbrev E.CLK_TPLL_LOCKED : Nat := 0
abbrev E.CLK_SREF_LOST : Nat := 1
abbrev E.CLK_SREF_BACK : Nat := 2
abbrev E.PWR_WAKE : Nat := 0
abbrev E.PWR_SLEEP_ABORT : Nat := 1

/-- The fault bits of class CE of each kind of page; the others are UC (R323 and the event and fault tables). -/
def ceFaults : PageKind → Nat
  | .dev => 0x0
  | .fuse => 0x0
  | .clk => 0x0
  | .rst => 0x0
  | .pwr => 0x0
  | .seq => 0x0
  | .tg => 0x7
  | .pgr => 0x1
  | .vc => 0x1
  | .cu => 0x0
  | .tia => 0xFF
  | .dec => 0x3
  | .syn => 0x0
  | .sched => 0x0
  | .hic => 0x0
  | .trace => 0x0
  | .red => 0x0
  | .hart => 0x101
  | .flt => 0x1
  | .dram => 0x7
  | .alloc => 0x0
  | .dma => 0x0
  | .fq => 0x0
  | .fp => 0xF
  | .fab => 0x0
  | .hostp => 0x5
  | .hq => 0x0
  | .time => 0x3
  | .cal => 0x3
  | .part => 0x0
  | .mc => 0x0

/-- The fault bits that each kind of page has. -/
def faultBits : PageKind → Nat
  | .dev => 0x0
  | .fuse => 0x0
  | .clk => 0x0
  | .rst => 0x0
  | .pwr => 0x0
  | .seq => 0x7F
  | .tg => 0x7F
  | .pgr => 0x3
  | .vc => 0x3
  | .cu => 0x3
  | .tia => 0x3FF
  | .dec => 0x7
  | .syn => 0xF
  | .sched => 0x1
  | .hic => 0x1
  | .trace => 0x1
  | .red => 0x3
  | .hart => 0x307
  | .flt => 0x7
  | .dram => 0x3F
  | .alloc => 0x1
  | .dma => 0x3
  | .fq => 0x1
  | .fp => 0x3F
  | .fab => 0x1
  | .hostp => 0xF
  | .hq => 0x3
  | .time => 0x3
  | .cal => 0xF
  | .part => 0x1
  | .mc => 0xFF

/-- The registers of the common header with their access types (R38). -/
def headerRows : List RegRow := [
  ⟨0x0, 1, 0, 1, 0, 0, 0, 0, 0, 0, 0, 0⟩, ⟨0x4, 1, 0, 1, 0, 0, 0, 0, 0, 0, 0, 0⟩,
  ⟨0x8, 1, 0, 1, 0, 0xB, 0, 0x4, 0, 0, 0, 0⟩, ⟨0xC, 1, 0, 1, 0, 0, 0x8, 0, 0, 0, 0, 0⟩,
  ⟨0x10, 1, 0, 1, 0, 0, 0xFFFFFFFF, 0, 0, 0, 0, 0⟩, ⟨0x14, 1, 0, 1, 0, 0xFFFFFFFF, 0, 0, 0, 0, 0, 0⟩,
  ⟨0x18, 1, 0, 1, 0, 0, 0xFFFFFFFF, 0, 0, 0, 0, 0⟩, ⟨0x1C, 1, 0, 1, 0, 0, 0, 0xFFFFFFFF, 0, 0, 0, 0⟩,
  ⟨0x20, 1, 0, 1, 0, 0, 0, 0, 0, 0, 0, 0⟩, ⟨0x24, 1, 0, 1, 0, 0, 0, 0, 0xFFFFFFFF, 0, 0, 0⟩,
  ⟨0x28, 1, 0, 1, 0, 0, 0, 0, 0, 0, 0, 0⟩, ⟨0x2C, 1, 0, 1, 0, 0xC0000FFF, 0, 0, 0, 0, 0, 0⟩,
  ⟨0x30, 1, 0, 1, 0, 0, 0, 0, 0, 0xFFFFFFFF, 0, 0⟩, ⟨0x34, 1, 0, 1, 0, 0, 0, 0, 0, 0xFFFFFFFF, 0, 0⟩,
  ⟨0x38, 1, 0, 1, 0, 0, 0, 0, 0, 0, 0, 0⟩, ⟨0x3C, 1, 0, 1, 0, 0, 0, 0, 0, 0, 0, 0⟩]

/-- The registers of the DEV page from offset 0x040 on. -/
def rowsDev : List RegRow := [
  ⟨0x40, 1, 0x0, 1, 0x0, 0x0, 0x0, 0x0, 0xF000, 0x0, 0x0, 0x1⟩ /- DEV_MODE -/,
  ⟨0x44, 1, 0x0, 1, 0x0, 0x0, 0x0, 0x0, 0x0, 0x0, 0x0, 0x0⟩ /- DEV_UID_LO -/,
  ⟨0x48, 1, 0x0, 1, 0x0, 0x0, 0x0, 0x0, 0x0, 0x0, 0x0, 0x0⟩ /- DEV_UID_HI -/,
  ⟨0x4C, 1, 0x0, 1, 0x0, 0x0, 0x0, 0xC0000000, 0x0, 0x0, 0x0, 0x0⟩ /- DEV_BOOT -/,
  ⟨0x50, 1, 0x0, 1, 0x0, 0x3, 0x0, 0x0, 0x0, 0x0, 0x0, 0x0⟩ /- DEV_BOOT_PREF -/,
  ⟨0x54, 1, 0x0, 1, 0x0, 0x0, 0x0, 0x0, 0x0, 0x0, 0x0, 0x0⟩ /- DEV_IMG_SEQ -/,
  ⟨0x80, 1, 0x0, 8, 0x4, 0x3FF, 0x0, 0x0, 0x0, 0x0, 0x0, 0x0⟩ /- DEV_TIN -/,
  ⟨0xA0, 1, 0x0, 1, 0x0, 0xFFFFFFFF, 0x0, 0x0, 0x0, 0x0, 0x0, 0x0⟩ /- DEV_SIN -/,
  ⟨0xC0, 1, 0x0, 8, 0x4, 0xCF00FF00, 0x0, 0x0, 0x0, 0x0, 0x0, 0x100⟩ /- DEV_TOUT -/,
  ⟨0xE0, 1, 0x0, 1, 0x0, 0xF3F, 0x0, 0x80000000, 0x0, 0x0, 0x0, 0x0⟩ /- DEV_SYNC -/]
/-- The registers of the FUSE page from offset 0x040 on. -/
def rowsFuse : List RegRow := [
  ⟨0x40, 1, 0x0, 1, 0x0, 0x0, 0x0, 0x0, 0x0, 0x0, 0x0, 0x0⟩ /- FUSE_AAT_MGMT -/,
  ⟨0x44, 1, 0x0, 1, 0x0, 0x0, 0x0, 0x0, 0x0, 0x0, 0x0, 0x0⟩ /- FUSE_AAT_HOST -/,
  ⟨0x48, 1, 0x0, 1, 0x0, 0x0, 0x0, 0x0, 0x0, 0x0, 0x0, 0x0⟩ /- FUSE_AAT_HART -/,
  ⟨0x4C, 1, 0x0, 1, 0x0, 0x0, 0x0, 0x0, 0x0, 0x0, 0x0, 0x0⟩ /- FUSE_AAT_FABRIC -/,
  ⟨0x50, 1, 0x0, 1, 0x0, 0x0, 0x0, 0x0, 0x0, 0x0, 0x0, 0x0⟩ /- FUSE_AAT_SELF -/,
  ⟨0x60, 1, 0x0, 1, 0x0, 0x0, 0x0, 0x0, 0x0, 0x0, 0x0, 0x0⟩ /- FUSE_LC -/,
  ⟨0x64, 1, 0x0, 1, 0x0, 0x0, 0x0, 0x0, 0x0, 0x0, 0x0, 0x0⟩ /- FUSE_MOSC -/,
  ⟨0x80, 1, 0x0, 12, 0x4, 0x0, 0x0, 0x0, 0x0, 0x0, 0x0, 0x0⟩ /- FUSE_VKEY_HASH -/,
  ⟨0xC0, 1, 0x0, 12, 0x4, 0x0, 0x0, 0x0, 0x0, 0x0, 0x0, 0x0⟩ /- FUSE_CKEY_HASH0 -/,
  ⟨0x100, 1, 0x0, 12, 0x4, 0x0, 0x0, 0x0, 0x0, 0x0, 0x0, 0x0⟩ /- FUSE_CKEY_HASH1 -/]
/-- The registers of the CLK page from offset 0x040 on. -/
def rowsClk : List RegRow := [
  ⟨0x40, 1, 0x0, 1, 0x0, 0x0, 0x0, 0x0, 0x0, 0x0, 0x0, 0x0⟩ /- CLK_TPLL -/,
  ⟨0x44, 1, 0x0, 1, 0x0, 0x0, 0x0, 0x0, 0x0, 0x0, 0x0, 0x0⟩ /- CLK_SPLL -/,
  ⟨0x48, 1, 0x0, 1, 0x0, 0x0, 0x0, 0x0, 0x0, 0x0, 0x0, 0x0⟩ /- CLK_MCLK -/,
  ⟨0x4C, 1, 0x0, 1, 0x0, 0x0, 0x0, 0x0, 0x0, 0x0, 0x0, 0x0⟩ /- CLK_REF -/]
/-- The registers of the RST page from offset 0x040 on. -/
def rowsRst : List RegRow := [
  ⟨0x40, 1, 0x0, 1, 0x0, 0x0, 0x0, 0x0, 0x0, 0x0, 0x0, 0x0⟩ /- RST_CAUSE -/,
  ⟨0x44, 1, 0x0, 1, 0x0, 0x0, 0x0, 0x0, 0x0, 0x0, 0x0, 0x0⟩ /- RST_COUNT -/,
  ⟨0x48, 1, 0x0, 1, 0x0, 0x0, 0x0, 0x0, 0xFFFF0000, 0x0, 0x0, 0x0⟩ /- RST_CHIP -/]
/-- The registers of the PWR page from offset 0x040 on. -/
def rowsPwr : List RegRow := [
  ⟨0x40, 1, 0x0, 1, 0x0, 0x1F, 0x0, 0x0, 0x0, 0x0, 0x0, 0x3⟩ /- PWR_WAKE_EN -/,
  ⟨0x44, 1, 0x0, 1, 0x0, 0x0, 0x1F, 0x0, 0x0, 0x0, 0x0, 0x0⟩ /- PWR_WAKE_STAT -/,
  ⟨0x48, 1, 0x0, 1, 0x0, 0xFFFFFFFF, 0x0, 0x0, 0x0, 0x0, 0x0, 0x0⟩ /- PWR_WAKE_TMR -/,
  ⟨0x4C, 1, 0x0, 1, 0x0, 0x0, 0x80000000, 0x0, 0x0, 0x0, 0x0, 0x0⟩ /- PWR_STAT -/,
  ⟨0x50, 1, 0x0, 1, 0x0, 0xFFFF, 0x0, 0x0, 0x0, 0x0, 0x0, 0x3E8⟩ /- PWR_SLEEP_TMO -/,
  ⟨0x54, 1, 0x0, 1, 0x0, 0x0, 0x0, 0x0, 0x0, 0x0, 0x0, 0x0⟩ /- PWR_RAIL -/,
  ⟨0x58, 1, 0x0, 1, 0x0, 0x0, 0x0, 0x0, 0x0, 0x0, 0x0, 0x0⟩ /- PWR_TEMP -/,
  ⟨0x5C, 1, 0x0, 1, 0x0, 0x0, 0x0, 0x0, 0x0, 0xFFFF, 0x0, 0x8000⟩ /- PWR_TEMP_MAX -/]
/-- The registers of the SEQ page from offset 0x040 on. -/
def rowsSeq : List RegRow := [
  ⟨0x40, 1, 0x0, 1, 0x0, 0xF0300, 0x0, 0xF, 0x0, 0x0, 0x0, 0x0⟩ /- SEQ_RUN -/,
  ⟨0x44, 1, 0x0, 1, 0x0, 0xF, 0x0, 0x0, 0x0, 0x0, 0x0, 0x0⟩ /- SEQ_GANG -/,
  ⟨0x48, 1, 0x0, 1, 0x0, 0x0, 0x0, 0x0, 0x0, 0x0, 0x0, 0x1⟩ /- SEQ_STATE -/,
  ⟨0x4C, 1, 0x0, 1, 0x0, 0x0, 0x0, 0x0, 0x0, 0x0, 0x0, 0x0⟩ /- SEQ_STOP -/,
  ⟨0x50, 1, 0x0, 1, 0x0, 0xFFFFFFF0, 0x0, 0x0, 0x0, 0x0, 0x0, 0x0⟩ /- SEQ_START_ADDR_LO -/,
  ⟨0x54, 1, 0x0, 1, 0x0, 0x3FF, 0x0, 0x0, 0x0, 0x0, 0x0, 0x0⟩ /- SEQ_START_ADDR_HI -/,
  ⟨0x58, 1, 0x0, 1, 0x0, 0xFF3F, 0x0, 0x0, 0x0, 0x0, 0x0, 0x0⟩ /- SEQ_START_SEL -/,
  ⟨0x5C, 1, 0x0, 1, 0x0, 0x1, 0x0, 0x0, 0x0, 0x0, 0x0, 0x0⟩ /- SEQ_STALL -/,
  ⟨0x60, 1, 0x0, 1, 0x0, 0xFFFFFFC0, 0x0, 0x0, 0x0, 0x0, 0x0, 0x0⟩ /- SEQ_HOLD_ADDR_LO -/,
  ⟨0x64, 1, 0x0, 1, 0x0, 0x3FF, 0x0, 0x0, 0x0, 0x0, 0x0, 0x0⟩ /- SEQ_HOLD_ADDR_HI -/,
  ⟨0x68, 1, 0x0, 1, 0x0, 0xFF000000, 0x0, 0x0, 0x0, 0x0, 0x0, 0x60⟩ /- SEQ_COND_LEAD -/,
  ⟨0x6C, 1, 0x0, 1, 0x0, 0xFFFF, 0x0, 0x0, 0x0, 0x0, 0x0, 0x0⟩ /- SEQ_SPAN_FLOOR -/,
  ⟨0x70, 1, 0x0, 1, 0x0, 0x0, 0x0, 0xFFFF, 0x0, 0x0, 0x0, 0x0⟩ /- SEQ_FLAG_SET -/,
  ⟨0x74, 1, 0x0, 1, 0x0, 0x0, 0xFFFF, 0x0, 0x0, 0x0, 0x0, 0x0⟩ /- SEQ_FLAG_CLR -/,
  ⟨0x78, 1, 0x0, 1, 0x0, 0x0, 0xFFFF, 0x0, 0x0, 0x0, 0x0, 0x0⟩ /- SEQ_TRIG_PEND -/,
  ⟨0x7C, 1, 0x0, 1, 0x0, 0x0, 0x0, 0x0, 0x0, 0x0, 0x0, 0x0⟩ /- SEQ_STATUS -/,
  ⟨0x80, 1, 0x0, 1, 0x0, 0x0, 0x0, 0x0, 0x0, 0x0, 0x0, 0x0⟩ /- SEQ_MATCH_REPS -/,
  ⟨0x84, 1, 0x0, 1, 0x0, 0x0, 0x0, 0x0, 0x0, 0x0, 0x0, 0x0⟩ /- SEQ_PC_LO -/,
  ⟨0x88, 1, 0x0, 1, 0x0, 0x0, 0x0, 0x0, 0x0, 0x0, 0x0, 0x0⟩ /- SEQ_PC_HI -/,
  ⟨0x8C, 1, 0x0, 1, 0x0, 0x0, 0x0, 0x0, 0x0, 0x0, 0x0, 0x0⟩ /- SEQ_LAST_LO -/,
  ⟨0x90, 1, 0x0, 1, 0x0, 0x0, 0x0, 0x0, 0x0, 0x0, 0x0, 0x0⟩ /- SEQ_LAST_HI -/,
  ⟨0x94, 1, 0x0, 1, 0x0, 0x0, 0x0, 0x0, 0x0, 0x0, 0x0, 0x0⟩ /- SEQ_CYCLE_LO -/,
  ⟨0x98, 1, 0x0, 1, 0x0, 0x0, 0x0, 0x0, 0x0, 0x0, 0x0, 0x0⟩ /- SEQ_CYCLE_HI -/,
  ⟨0x9C, 1, 0x0, 1, 0x0, 0x0, 0x0, 0x0, 0x0, 0x0, 0x0, 0x0⟩ /- SEQ_PMASK_LO -/,
  ⟨0xA0, 1, 0x0, 1, 0x0, 0x0, 0x0, 0x0, 0x0, 0x0, 0x0, 0x0⟩ /- SEQ_PMASK_HI -/,
  ⟨0xA4, 1, 0x0, 1, 0x0, 0x0, 0x0, 0x0, 0x0, 0x0, 0x0, 0x0⟩ /- SEQ_PMATCH_LO -/,
  ⟨0xA8, 1, 0x0, 1, 0x0, 0x0, 0x0, 0x0, 0x0, 0x0, 0x0, 0x0⟩ /- SEQ_PMATCH_HI -/]
/-- The registers of the TG page from offset 0x040 on. -/
def rowsTg : List RegRow := [
  ⟨0x40, 1, 0x0, 1, 0x0, 0x1, 0x0, 0x0, 0x0, 0x0, 0x0, 0x0⟩ /- TG_MODE -/,
  ⟨0x44, 1, 0x0, 1, 0x0, 0x7FFFFF, 0x0, 0x0, 0x0, 0x0, 0x0, 0x7D0⟩ /- TG_RS_SRC -/,
  ⟨0x48, 1, 0x0, 1, 0x0, 0x0, 0x0, 0x0, 0x0, 0x0, 0x0, 0x0⟩ /- TG_RS_ACC -/,
  ⟨0x4C, 1, 0x0, 1, 0x0, 0x0, 0x0, 0x0, 0x0, 0x0, 0x0, 0x0⟩ /- TG_STATE -/,
  ⟨0x50, 1, 0x0, 1, 0x0, 0x0, 0x0, 0x0, 0x0, 0x0, 0x0, 0x0⟩ /- TG_PERIOD_NOW -/,
  ⟨0x800, 1, 0x0, 1, 0x0, 0xF, 0x0, 0x0, 0x0, 0x0, 0x0, 0x4⟩ /- PE_CFG -/,
  ⟨0x804, 1, 0x0, 1, 0x0, 0xFFFFFFFF, 0x0, 0x0, 0x0, 0x0, 0x0, 0x0⟩ /- PE_POL_LO -/,
  ⟨0x808, 1, 0x0, 1, 0x0, 0xFFFFFFFF, 0x0, 0x0, 0x0, 0x0, 0x0, 0x0⟩ /- PE_POL_HI -/,
  ⟨0x80C, 1, 0x0, 1, 0x0, 0xFFFFFFFF, 0x0, 0x0, 0x0, 0x0, 0x0, 0x0⟩ /- PE_CMP_MODE -/,
  ⟨0x840, 16, 0x10, 1, 0x0, 0xFFFFFFFF, 0x0, 0x0, 0x0, 0x0, 0x0, 0x0⟩ /- PE_DLY -/,
  ⟨0x940, 16, 0x8, 1, 0x0, 0x0, 0x0, 0x0, 0x0, 0x0, 0x0, 0x0⟩ /- PE_DESKEW_OUT -/,
  ⟨0x944, 16, 0x8, 1, 0x0, 0x0, 0x0, 0x0, 0x0, 0x0, 0x0, 0x0⟩ /- PE_DESKEW_IN -/,
  ⟨0xA00, 1, 0x0, 1, 0x0, 0x0, 0x0, 0x0, 0x0, 0x0, 0x0, 0x0⟩ /- PE_RT_MAX -/,
  ⟨0xA04, 1, 0x0, 1, 0x0, 0x0, 0x0, 0x0, 0x0, 0xFFFFFFFF, 0x0, 0x0⟩ /- PE_EDGE_COLLIDE -/,
  ⟨0xA08, 1, 0x0, 1, 0x0, 0x0, 0x0, 0x0, 0x0, 0xFFFFFFFF, 0x0, 0x0⟩ /- PE_WIN_DROP -/,
  ⟨0xA0C, 1, 0x0, 1, 0x0, 0x0, 0x0, 0x0, 0x0, 0xFFFFFFFF, 0x0, 0x0⟩ /- PE_STROBE_DROP -/,
  ⟨0xA10, 1, 0x0, 1, 0x0, 0x0, 0x0, 0x0, 0x0, 0xFFFFFFFF, 0x0, 0x0⟩ /- PE_UNDEF_CODE -/,
  ⟨0xA14, 1, 0x0, 1, 0x0, 0x0, 0x0, 0x0, 0x0, 0x0, 0x0, 0x0⟩ /- PE_LAST_DROP -/,
  ⟨0xB00, 1, 0x0, 1, 0x0, 0xFF, 0x0, 0x0, 0x0, 0x0, 0x0, 0x3⟩ /- PE_SB_CFG -/,
  ⟨0xB04, 1, 0x0, 1, 0x0, 0xFFFFFF07, 0x0, 0x0, 0x0, 0x0, 0x0, 0x0⟩ /- PE_SB_MAP -/,
  ⟨0xB08, 1, 0x0, 1, 0x0, 0xFFFF, 0x0, 0x0, 0x0, 0x0, 0x0, 0x0⟩ /- PE_SB_WDATA -/,
  ⟨0xB0C, 1, 0x0, 1, 0x0, 0x0, 0x0, 0x0, 0x80F0FFFF, 0x0, 0x0, 0x0⟩ /- PE_SB_CMD -/,
  ⟨0xB10, 1, 0x0, 1, 0x0, 0x0, 0x0, 0x0, 0x0, 0x0, 0x0, 0x0⟩ /- PE_SB_STAT -/,
  ⟨0xC00, 1, 0x0, 1, 0x0, 0x3FFFFFFF, 0x0, 0x0, 0x0, 0x0, 0x0, 0x18002710⟩ /- PE_DIAG_CFG -/,
  ⟨0xC04, 1, 0x0, 1, 0x0, 0xFFFF, 0x0, 0x0, 0x0, 0x0, 0x0, 0x0⟩ /- PE_DIAG_PINS -/,
  ⟨0xC08, 1, 0x0, 1, 0x0, 0x0, 0x0, 0x3, 0x0, 0x0, 0x0, 0x0⟩ /- PE_DIAG_CMD -/,
  ⟨0xC0C, 1, 0x0, 1, 0x0, 0x0, 0x0, 0x0, 0x0, 0x0, 0x0, 0x0⟩ /- PE_DIAG_STAT -/,
  ⟨0xC40, 1, 0x0, 16, 0x4, 0x0, 0x0, 0x0, 0x0, 0x0, 0x0, 0x0⟩ /- PE_DIAG_ERR -/]
/-- The registers of the PGR page from offset 0x040 on. -/
def rowsPgr : List RegRow := [
  ⟨0x40, 1, 0x0, 1, 0x0, 0x0, 0x0, 0x0, 0x0, 0x0, 0x0, 0x0⟩ /- PGR_PT_BASE -/,
  ⟨0x44, 1, 0x0, 1, 0x0, 0x3FFFF, 0x0, 0x0, 0x0, 0x0, 0x0, 0x0⟩ /- PGR_DRAM_LIMIT -/,
  ⟨0x48, 1, 0x0, 1, 0x0, 0x0, 0x0, 0x0, 0x0, 0x0, 0x0, 0x0⟩ /- PGR_DRAM_USED -/,
  ⟨0x4C, 1, 0x0, 1, 0x0, 0x0, 0x0, 0x0, 0x0, 0x3FFFF, 0x0, 0x0⟩ /- PGR_DRAM_MAX -/,
  ⟨0x50, 1, 0x0, 1, 0x0, 0xFFFF, 0x0, 0x0, 0x0, 0x0, 0x0, 0x2710⟩ /- PGR_FETCH_TMO -/,
  ⟨0x60, 1, 0x0, 1, 0x0, 0xFFFFFFFF, 0x0, 0x0, 0x0, 0x0, 0x0, 0x0⟩ /- PGR_MAP_LO -/,
  ⟨0x64, 1, 0x0, 1, 0x0, 0xFFFFFFFF, 0x0, 0x0, 0x0, 0x0, 0x0, 0x0⟩ /- PGR_MAP_HI -/,
  ⟨0x68, 1, 0x0, 1, 0x0, 0xFFFFFFFF, 0x0, 0x0, 0x0, 0x0, 0x0, 0x0⟩ /- PGR_MAP_CRC -/,
  ⟨0x6C, 1, 0x0, 1, 0x0, 0x1FFFFF, 0x0, 0x0, 0x0, 0x0, 0x0, 0x0⟩ /- PGR_MAP_PAGE -/,
  ⟨0x70, 1, 0x0, 1, 0x0, 0x0, 0x0, 0x0, 0xFFFF003F, 0x0, 0x0, 0x0⟩ /- PGR_MAP_OP -/,
  ⟨0x74, 1, 0x0, 1, 0x0, 0x0, 0x0, 0x0, 0x0, 0x0, 0x0, 0x0⟩ /- PGR_MAP_STAT -/,
  ⟨0x400, 16, 0x40, 1, 0x0, 0x1F1F, 0x0, 0x0, 0x0, 0x0, 0x0, 0x410⟩ /- PGR_SQ_WALK -/,
  ⟨0x404, 16, 0x40, 1, 0x0, 0xFFFFFFFF, 0x0, 0x0, 0x0, 0x0, 0x0, 0x10000⟩ /- PGR_SQ_HOLD_LIMIT -/,
  ⟨0x408, 16, 0x40, 1, 0x0, 0x0, 0x0, 0x0, 0x0, 0x0, 0x0, 0x0⟩ /- PGR_STALL_CYCLES_LO -/,
  ⟨0x40C, 16, 0x40, 1, 0x0, 0x0, 0x0, 0x0, 0x0, 0x0, 0x0, 0x0⟩ /- PGR_STALL_CYCLES_HI -/,
  ⟨0x410, 16, 0x40, 1, 0x0, 0x0, 0x0, 0x0, 0x0, 0xFFFFFFFF, 0x0, 0x0⟩ /- PGR_SQ_STALLS -/,
  ⟨0x414, 16, 0x40, 1, 0x0, 0x0, 0x0, 0x0, 0x0, 0xFFFFFFFF, 0x0, 0x0⟩ /- PGR_SQ_MISPRED -/,
  ⟨0x418, 16, 0x40, 1, 0x0, 0x0, 0x0, 0x0, 0x0, 0x0, 0x0, 0x0⟩ /- PGR_SQ_STAT -/,
  ⟨0x41C, 16, 0x40, 1, 0x0, 0x0, 0x0, 0x0, 0x0, 0x0, 0x0, 0x0⟩ /- PGR_SQ_MISS_LO -/,
  ⟨0x420, 16, 0x40, 1, 0x0, 0x0, 0x0, 0x0, 0x0, 0x0, 0x0, 0x0⟩ /- PGR_SQ_MISS_HI -/,
  ⟨0x424, 16, 0x40, 1, 0x0, 0x0, 0x0, 0x1, 0x0, 0x0, 0x0, 0x0⟩ /- PGR_SQ_HIST -/,
  ⟨0x428, 16, 0x40, 1, 0x0, 0xFFFFFFF0, 0x0, 0x0, 0x0, 0x0, 0x0, 0x0⟩ /- PGR_SQ_HSEED_ADDR_LO -/,
  ⟨0x42C, 16, 0x40, 1, 0x0, 0x3FF, 0x0, 0x0, 0x0, 0x0, 0x0, 0x0⟩ /- PGR_SQ_HSEED_ADDR_HI -/,
  ⟨0x430, 16, 0x40, 1, 0x0, 0x0, 0x0, 0x0, 0x80FFFFFF, 0x0, 0x0, 0x0⟩ /- PGR_SQ_HSEED_VAL -/]
/-- The registers of the VC page from offset 0x040 on. -/
def rowsVc : List RegRow := [
  ⟨0x40, 1, 0x0, 1, 0x0, 0x0, 0x0, 0x0, 0x0, 0x0, 0x0, 0x2F⟩ /- VC_FREE -/,
  ⟨0x400, 16, 0x20, 1, 0x0, 0x3FFF001F, 0x0, 0x0, 0x0, 0x0, 0x0, 0x0⟩ /- VC_SQ_CFG -/,
  ⟨0x404, 16, 0x20, 1, 0x0, 0x0, 0x0, 0x0, 0x0, 0x0, 0x0, 0x0⟩ /- VC_SQ_USED -/,
  ⟨0x408, 16, 0x20, 1, 0x0, 0x0, 0x0, 0x0, 0x0, 0x3FFF, 0x0, 0x0⟩ /- VC_SQ_MAX -/,
  ⟨0x40C, 16, 0x20, 1, 0x0, 0x0, 0x0, 0x0, 0x0, 0xFFFFFFFF, 0x0, 0x0⟩ /- VC_SQ_FILLS -/,
  ⟨0x410, 16, 0x20, 1, 0x0, 0x0, 0x0, 0x0, 0x0, 0xFFFFFFFF, 0x0, 0x0⟩ /- VC_SQ_MISSES -/]
/-- The registers of the CU page from offset 0x040 on. -/
def rowsCu : List RegRow := [
  ⟨0x40, 1, 0x0, 1, 0x0, 0xF, 0x0, 0x0, 0x0, 0x0, 0x0, 0x0⟩ /- CAP_SRC -/,
  ⟨0x44, 1, 0x0, 1, 0x0, 0xFFFFFFFF, 0x0, 0x0, 0x0, 0x0, 0x0, 0x0⟩ /- CAP_PMASK_LO -/,
  ⟨0x48, 1, 0x0, 1, 0x0, 0xFFFFFFFF, 0x0, 0x0, 0x0, 0x0, 0x0, 0x0⟩ /- CAP_PMASK_HI -/,
  ⟨0x4C, 1, 0x0, 1, 0x0, 0xFFFFFF07, 0x0, 0x0, 0x0, 0x0, 0x0, 0x10101⟩ /- CAP_CFG -/,
  ⟨0x50, 1, 0x0, 1, 0x0, 0x7F07, 0x0, 0x0, 0x0, 0x0, 0x0, 0x100⟩ /- TRG_CFG -/,
  ⟨0x54, 1, 0x0, 1, 0x0, 0xFFFFFFFF, 0x0, 0x0, 0x0, 0x0, 0x0, 0x0⟩ /- CAP_PRE -/,
  ⟨0x58, 1, 0x0, 1, 0x0, 0xFFFFFFFF, 0x0, 0x0, 0x0, 0x0, 0x0, 0x0⟩ /- CAP_POST -/,
  ⟨0x5C, 1, 0x0, 1, 0x0, 0x0, 0x0, 0x0, 0x0, 0x0, 0x0, 0x0⟩ /- CAP_PRE_EFF -/,
  ⟨0x60, 1, 0x0, 1, 0x0, 0x0, 0x0, 0x0, 0x0, 0x0, 0x0, 0x0⟩ /- CAP_POST_EFF -/,
  ⟨0x64, 1, 0x0, 1, 0x0, 0xFFFFFFFF, 0x0, 0x0, 0x0, 0x0, 0x0, 0x7A120⟩ /- TRG_AUTO -/,
  ⟨0x68, 1, 0x0, 1, 0x0, 0xFFFFFFFF, 0x0, 0x0, 0x0, 0x0, 0x0, 0x0⟩ /- TRG_MARKID -/,
  ⟨0x6C, 1, 0x0, 1, 0x0, 0xFF0F, 0x0, 0x0, 0x0, 0x0, 0x0, 0x100⟩ /- TRG_OUT -/,
  ⟨0x70, 1, 0x0, 1, 0x0, 0x0, 0x0, 0x0, 0x0, 0x0, 0x0, 0x0⟩ /- TRG_STATE -/,
  ⟨0x74, 1, 0x0, 1, 0x0, 0x0, 0x0, 0x0, 0x0, 0xFFFFFFFF, 0x0, 0x0⟩ /- TRG_MISSED -/,
  ⟨0x78, 1, 0x0, 1, 0x0, 0x0, 0x0, 0x0, 0x0, 0x0, 0x0, 0x0⟩ /- TRG_CYCLE_LO -/,
  ⟨0x7C, 1, 0x0, 1, 0x0, 0x0, 0x0, 0x0, 0x0, 0x0, 0x0, 0x0⟩ /- TRG_CYCLE_HI -/,
  ⟨0x80, 1, 0x0, 1, 0x0, 0x0, 0x0, 0x0, 0x0, 0x0, 0x0, 0x0⟩ /- CAP_PRE_ACT -/,
  ⟨0x84, 1, 0x0, 1, 0x0, 0x0, 0x0, 0x0, 0x0, 0x0, 0x0, 0x0⟩ /- CAP_FLAGS -/,
  ⟨0x88, 1, 0x0, 4, 0x8, 0xFF, 0x0, 0x0, 0x0, 0x0, 0x0, 0x0⟩ /- TRG_CT_CFG -/,
  ⟨0x8C, 1, 0x0, 4, 0x8, 0xFFFFFFFF, 0x0, 0x0, 0x0, 0x0, 0x0, 0x1⟩ /- TRG_CT_TERM -/,
  ⟨0xA8, 1, 0x0, 4, 0x4, 0xFFFFFFFF, 0x0, 0x0, 0x0, 0x0, 0x0, 0x1F4⟩ /- TRG_TM_LIM -/,
  ⟨0xB8, 1, 0x0, 4, 0x4, 0x0, 0x0, 0x0, 0x0, 0x0, 0x0, 0x0⟩ /- TRG_CT_VAL -/,
  ⟨0xC8, 1, 0x0, 4, 0x4, 0x0, 0x0, 0x0, 0x0, 0x0, 0x0, 0x0⟩ /- TRG_TM_VAL -/,
  ⟨0xD8, 1, 0x0, 1, 0x0, 0x0, 0x0, 0x0, 0x0, 0xFFFFFFFF, 0x0, 0x0⟩ /- CAP_LOST -/,
  ⟨0xDC, 1, 0x0, 1, 0x0, 0x0, 0x0, 0x0, 0x0, 0x0, 0x0, 0x0⟩ /- CAP_ARM_STAT -/,
  ⟨0x200, 1, 0x0, 1, 0x0, 0xF, 0x0, 0x0, 0x0, 0x0, 0x0, 0x0⟩ /- TRG_MASK_TG -/,
  ⟨0x204, 1, 0x0, 1, 0x0, 0xFFFFFFFF, 0x0, 0x0, 0x0, 0x0, 0x0, 0xFFFFFFFF⟩ /- TRG_MASK_LO -/,
  ⟨0x208, 1, 0x0, 1, 0x0, 0xFFFFFFFF, 0x0, 0x0, 0x0, 0x0, 0x0, 0xFFFFFFFF⟩ /- TRG_MASK_HI -/,
  ⟨0x400, 64, 0x30, 1, 0x0, 0x0, 0x0, 0x80000000, 0x0, 0x0, 0x0, 0x0⟩ /- CAP_P_STAT -/,
  ⟨0x404, 64, 0x30, 1, 0x0, 0x0, 0x0, 0x0, 0x0, 0x0, 0x0, 0x0⟩ /- CAP_P_FLOG_BASE -/,
  ⟨0x408, 64, 0x30, 1, 0x0, 0x0, 0x0, 0x0, 0x0, 0x0, 0x0, 0x0⟩ /- CAP_P_FLOG_WR -/,
  ⟨0x40C, 64, 0x30, 1, 0x0, 0xFFFFFFFF, 0x0, 0x0, 0x0, 0x0, 0x0, 0x0⟩ /- CAP_P_FLOG_RD -/,
  ⟨0x410, 64, 0x30, 1, 0x0, 0x0, 0x0, 0x0, 0x0, 0xFFFFFFFF, 0x0, 0x0⟩ /- CAP_P_FLOG_MAX -/,
  ⟨0x414, 64, 0x30, 1, 0x0, 0x0, 0x0, 0x0, 0x0, 0x0, 0x0, 0x0⟩ /- CAP_P_RAW_BASE -/,
  ⟨0x418, 64, 0x30, 1, 0x0, 0x0, 0x0, 0x0, 0x0, 0x0, 0x0, 0x0⟩ /- CAP_P_FIRST_LO -/,
  ⟨0x41C, 64, 0x30, 1, 0x0, 0x0, 0x0, 0x0, 0x0, 0x0, 0x0, 0x0⟩ /- CAP_P_FIRST_HI -/,
  ⟨0x420, 64, 0x30, 1, 0x0, 0x0, 0x0, 0x0, 0x0, 0x0, 0x0, 0x0⟩ /- CAP_P_CMP_LO -/,
  ⟨0x424, 64, 0x30, 1, 0x0, 0x0, 0x0, 0x0, 0x0, 0x0, 0x0, 0x0⟩ /- CAP_P_CMP_HI -/,
  ⟨0x428, 64, 0x30, 1, 0x0, 0x0, 0x0, 0x0, 0x0, 0x0, 0x0, 0x0⟩ /- CAP_P_FAILC_LO -/,
  ⟨0x42C, 64, 0x30, 1, 0x0, 0x0, 0x0, 0x0, 0x0, 0x0, 0x0, 0x0⟩ /- CAP_P_FAILC_HI -/]
/-- The registers of the TIA page from offset 0x040 on. -/
def rowsTia : List RegRow := [
  ⟨0x40, 1, 0x0, 1, 0x0, 0x0, 0x0, 0x0, 0x0, 0x0, 0x0, 0x0⟩ /- TIA_TCNT_LO -/,
  ⟨0x44, 1, 0x0, 1, 0x0, 0x0, 0x0, 0x0, 0x0, 0x0, 0x0, 0x0⟩ /- TIA_TCNT_HI -/,
  ⟨0x48, 1, 0x0, 1, 0x0, 0x1F, 0x0, 0x0, 0x0, 0x0, 0x0, 0x14⟩ /- TIA_CAL_CFG -/,
  ⟨0x4C, 1, 0x0, 1, 0x0, 0x0, 0x0, 0x0, 0x0, 0x0, 0x0, 0x0⟩ /- TIA_GEN -/,
  ⟨0x80, 8, 0x40, 1, 0x0, 0x9, 0x0, 0x6, 0x0, 0x0, 0x0, 0x0⟩ /- TU_CTRL -/,
  ⟨0x84, 8, 0x40, 1, 0x0, 0xFFFFC3FF, 0x0, 0x0, 0x0, 0x0, 0x0, 0x0⟩ /- TU_START_CFG -/,
  ⟨0x88, 8, 0x40, 1, 0x0, 0xFFFFE3FF, 0x0, 0x0, 0x0, 0x0, 0x0, 0x0⟩ /- TU_STOP_CFG -/,
  ⟨0x8C, 8, 0x40, 1, 0x0, 0xFFFFFFFF, 0x0, 0x0, 0x0, 0x0, 0x0, 0x1F4⟩ /- TU_TMO -/,
  ⟨0x90, 8, 0x40, 1, 0x0, 0x0, 0x0, 0x0, 0x0, 0x0, 0x0, 0x0⟩ /- TU_STAT -/,
  ⟨0x94, 8, 0x40, 1, 0x0, 0x0, 0x0, 0x0, 0x0, 0x0, 0x0, 0x0⟩ /- TU_START_C_LO -/,
  ⟨0x98, 8, 0x40, 1, 0x0, 0x0, 0x0, 0x0, 0x0, 0x0, 0x0, 0x0⟩ /- TU_START_C_HI -/,
  ⟨0x9C, 8, 0x40, 1, 0x0, 0x0, 0x0, 0x0, 0x0, 0x0, 0x0, 0x0⟩ /- TU_START_IT_LO -/,
  ⟨0xA0, 8, 0x40, 1, 0x0, 0x0, 0x0, 0x0, 0x0, 0x0, 0x0, 0x0⟩ /- TU_START_IT_HI -/,
  ⟨0xA4, 8, 0x40, 1, 0x0, 0x0, 0x0, 0x0, 0x0, 0x0, 0x0, 0x0⟩ /- TU_STOP_C_LO -/,
  ⟨0xA8, 8, 0x40, 1, 0x0, 0x0, 0x0, 0x0, 0x0, 0x0, 0x0, 0x0⟩ /- TU_STOP_C_HI -/,
  ⟨0xAC, 8, 0x40, 1, 0x0, 0x0, 0x0, 0x0, 0x0, 0x0, 0x0, 0x0⟩ /- TU_STOP_IT_LO -/,
  ⟨0xB0, 8, 0x40, 1, 0x0, 0x0, 0x0, 0x0, 0x0, 0x0, 0x0, 0x0⟩ /- TU_STOP_IT_HI -/,
  ⟨0xB4, 8, 0x40, 1, 0x0, 0x0, 0x0, 0x0, 0x0, 0x0, 0x0, 0x0⟩ /- TU_EDGES -/,
  ⟨0xB8, 8, 0x40, 1, 0x0, 0x0, 0x0, 0x0, 0x0, 0x0, 0x0, 0x0⟩ /- TU_CAL_INFO -/,
  ⟨0xBC, 8, 0x40, 1, 0x0, 0x0, 0x0, 0x0, 0x0, 0x0, 0x0, 0x0⟩ /- TU_GEN -/,
  ⟨0x400, 8, 0x180, 48, 0x4, 0x0, 0x0, 0x0, 0x0, 0x0, 0x0, 0x0⟩ /- TU_BIN_START -/,
  ⟨0x4C0, 8, 0x180, 48, 0x4, 0x0, 0x0, 0x0, 0x0, 0x0, 0x0, 0x0⟩ /- TU_BIN_STOP -/]
/-- The registers of the DEC page from offset 0x040 on. -/
def rowsDec : List RegRow := [
  ⟨0x40, 1, 0x0, 1, 0x0, 0x1, 0x0, 0x0, 0x0, 0x0, 0x0, 0x0⟩ /- DEC_CLK_CFG -/,
  ⟨0x44, 1, 0x0, 1, 0x0, 0x0, 0x0, 0x0, 0x0, 0x0, 0x0, 0x0⟩ /- DEC_CLK_STAT -/,
  ⟨0x48, 1, 0x0, 1, 0x0, 0x0, 0x0, 0x0, 0x0, 0xFFFFFFFF, 0x0, 0x0⟩ /- DEC_CLK_LOSS -/,
  ⟨0x100, 8, 0x100, 1, 0x0, 0x1, 0x0, 0x4, 0x0, 0x0, 0x0, 0x0⟩ /- DEC_CH_CTRL -/,
  ⟨0x104, 8, 0x100, 1, 0x0, 0xF33F07, 0x0, 0x0, 0x0, 0x0, 0xF33F07, 0x0⟩ /- DEC_CH_CFG -/,
  ⟨0x108, 8, 0x100, 1, 0x0, 0xFF1F1F, 0x0, 0x0, 0x0, 0x0, 0xFF1F1F, 0x0⟩ /- DEC_DET_CFG -/,
  ⟨0x10C, 8, 0x100, 1, 0x0, 0x13F, 0x0, 0x0, 0x0, 0x0, 0x0, 0x0⟩ /- DEC_CH_OUT -/,
  ⟨0x110, 8, 0x100, 4, 0x4, 0xFFFFFF, 0x0, 0x0, 0x0, 0x0, 0xFFFFFF, 0x400000⟩ /- DEC_CH_GAIN -/,
  ⟨0x120, 8, 0x100, 4, 0x4, 0xFFFFFF, 0x0, 0x0, 0x0, 0x0, 0xFFFFFF, 0x0⟩ /- DEC_CH_OFFSET -/,
  ⟨0x130, 8, 0x100, 4, 0x4, 0x0, 0x0, 0x0, 0x0, 0x0, 0x0, 0x0⟩ /- DEC_CH_CAL_OFS -/,
  ⟨0x140, 8, 0x100, 1, 0x0, 0x0, 0x0, 0x0, 0x10FFF, 0x0, 0x0, 0x0⟩ /- DEC_CH_SWAP -/,
  ⟨0x144, 8, 0x100, 1, 0x0, 0x0, 0x0, 0x0, 0x0, 0x0, 0x0, 0x0⟩ /- DEC_CH_SWAP_STAT -/,
  ⟨0x148, 8, 0x100, 1, 0x0, 0x0, 0x0, 0x0, 0x0, 0xFFFFFFFF, 0x0, 0x0⟩ /- DEC_SWAP_DEFERRED -/,
  ⟨0x14C, 8, 0x100, 1, 0x0, 0x0, 0xE0000000, 0x0, 0x0, 0x0, 0x0, 0x0⟩ /- DEC_CH_STAT -/,
  ⟨0x150, 8, 0x100, 1, 0x0, 0x0, 0x0, 0x0, 0x0, 0x0, 0x0, 0x0⟩ /- DEC_CH_VAL -/,
  ⟨0x154, 8, 0x100, 1, 0x0, 0x0, 0x0, 0x0, 0x0, 0x0, 0x0, 0x0⟩ /- DEC_CH_VSTAMP_LO -/,
  ⟨0x158, 8, 0x100, 1, 0x0, 0x0, 0x0, 0x0, 0x0, 0x0, 0x0, 0x0⟩ /- DEC_CH_VSTAMP_HI -/,
  ⟨0x15C, 8, 0x100, 1, 0x0, 0x0, 0x0, 0x0, 0x0, 0x0, 0x0, 0x0⟩ /- DEC_CH_SEQ -/,
  ⟨0x160, 8, 0x100, 1, 0x0, 0x0, 0x0, 0x0, 0x0, 0xFFFFFFFF, 0x0, 0x0⟩ /- DEC_CH_DROP -/,
  ⟨0x164, 8, 0x100, 1, 0x0, 0x0, 0x0, 0x0, 0x0, 0xFFFFFFFF, 0x0, 0x0⟩ /- DEC_CH_SUPP -/,
  ⟨0x168, 8, 0x100, 1, 0x0, 0x0, 0x0, 0x0, 0x0, 0x0, 0x0, 0x0⟩ /- DEC_DET_PKMAX -/,
  ⟨0x16C, 8, 0x100, 1, 0x0, 0x0, 0x0, 0x0, 0x0, 0x0, 0x0, 0x0⟩ /- DEC_DET_PKMIN -/,
  ⟨0x170, 8, 0x100, 1, 0x0, 0x0, 0x0, 0x0, 0x0, 0x0, 0x0, 0x0⟩ /- DEC_DET_PKSTAMP_LO -/,
  ⟨0x174, 8, 0x100, 1, 0x0, 0x0, 0x0, 0x0, 0x0, 0x0, 0x0, 0x0⟩ /- DEC_DET_PKSTAMP_HI -/,
  ⟨0x178, 8, 0x100, 1, 0x0, 0x0, 0x0, 0x0, 0x0, 0x0, 0x0, 0x0⟩ /- DEC_DET_MS_LO -/,
  ⟨0x17C, 8, 0x100, 1, 0x0, 0x0, 0x0, 0x0, 0x0, 0x0, 0x0, 0x0⟩ /- DEC_DET_MS_HI -/,
  ⟨0x180, 8, 0x100, 1, 0x0, 0x0, 0x0, 0x0, 0x0, 0x0, 0x0, 0x0⟩ /- DEC_DET_RMS -/,
  ⟨0x184, 8, 0x100, 1, 0x0, 0x0, 0x0, 0x0, 0x0, 0x0, 0x0, 0x0⟩ /- DEC_DET_ENV -/,
  ⟨0x188, 8, 0x100, 1, 0x0, 0xFFFFFF, 0x0, 0x0, 0x0, 0x0, 0xFFFFFF, 0x7FFFFF⟩ /- DEC_DET_LIMIT_HI -/,
  ⟨0x18C, 8, 0x100, 1, 0x0, 0xFFFFFF, 0x0, 0x0, 0x0, 0x0, 0xFFFFFF, 0x800000⟩ /- DEC_DET_LIMIT_LO -/,
  ⟨0x190, 8, 0x100, 1, 0x0, 0x0, 0x0, 0x0, 0x0, 0x0, 0x0, 0x0⟩ /- DEC_DET_LIMSTAMP_LO -/,
  ⟨0x194, 8, 0x100, 1, 0x0, 0x0, 0x0, 0x0, 0x0, 0x0, 0x0, 0x0⟩ /- DEC_DET_LIMSTAMP_HI -/]
/-- The registers of the SYN page from offset 0x040 on. -/
def rowsSyn : List RegRow := [
  ⟨0x40, 1, 0x0, 1, 0x0, 0x1, 0x0, 0x6, 0x0, 0x0, 0x0, 0x0⟩ /- SYN_CTRL -/,
  ⟨0x44, 1, 0x0, 1, 0x0, 0xFFFF30FF, 0x0, 0x0, 0x0, 0x0, 0x0, 0x40000⟩ /- SYN_CFG -/,
  ⟨0x48, 1, 0x0, 1, 0x0, 0xF30, 0x0, 0x0, 0x0, 0x0, 0x0, 0x0⟩ /- SYN_START -/,
  ⟨0x4C, 1, 0x0, 1, 0x0, 0xFFFFFFFF, 0x0, 0x0, 0x0, 0x0, 0x0, 0x0⟩ /- SYN_START_TIME_LO -/,
  ⟨0x50, 1, 0x0, 1, 0x0, 0xFFFFFFFF, 0x0, 0x0, 0x0, 0x0, 0x0, 0x0⟩ /- SYN_START_TIME_HI -/,
  ⟨0x54, 1, 0x0, 1, 0x0, 0x80FF80FF, 0x0, 0x0, 0x0, 0x0, 0x0, 0x0⟩ /- SYN_PIN -/,
  ⟨0x58, 1, 0x0, 1, 0x0, 0x0, 0x0, 0x0, 0x300FF, 0x0, 0x0, 0x0⟩ /- SYN_JUMP -/,
  ⟨0x5C, 1, 0x0, 1, 0x0, 0x800307FF, 0x0, 0x0, 0x0, 0x0, 0x0, 0x0⟩ /- SYN_JUMP_TRIG -/,
  ⟨0x60, 1, 0x0, 1, 0x0, 0x0, 0x0, 0x0, 0x0, 0x0, 0x0, 0x0⟩ /- SYN_JUMP_STAT -/,
  ⟨0x64, 1, 0x0, 1, 0x0, 0x0, 0x0, 0x0, 0x0, 0xFFFFFFFF, 0x0, 0x0⟩ /- SYN_JUMP_REPL -/,
  ⟨0x68, 1, 0x0, 1, 0x0, 0x0, 0x600000, 0x0, 0x0, 0x0, 0x0, 0x0⟩ /- SYN_STAT -/,
  ⟨0x6C, 1, 0x0, 1, 0x0, 0x0, 0x0, 0x0, 0x0, 0x0, 0x0, 0x0⟩ /- SYN_POS -/,
  ⟨0x70, 1, 0x0, 1, 0x0, 0x0, 0x0, 0x0, 0x0, 0x0, 0x0, 0x0⟩ /- SYN_ACC_LO -/,
  ⟨0x74, 1, 0x0, 1, 0x0, 0x0, 0x0, 0x0, 0x0, 0x0, 0x0, 0x0⟩ /- SYN_ACC_HI -/,
  ⟨0x78, 1, 0x0, 1, 0x0, 0x0, 0x0, 0x0, 0x0, 0x0, 0x0, 0x0⟩ /- SYN_SAMPLES_LO -/,
  ⟨0x7C, 1, 0x0, 1, 0x0, 0x0, 0x0, 0x0, 0x0, 0x0, 0x0, 0x0⟩ /- SYN_SAMPLES_HI -/,
  ⟨0x80, 1, 0x0, 4, 0x8, 0x8FFFFFFF, 0x0, 0x0, 0x0, 0x0, 0x8FFFFFFF, 0x0⟩ /- SYN_MKR_CFG -/,
  ⟨0x84, 1, 0x0, 4, 0x8, 0xFF0F, 0x0, 0x0, 0x0, 0x0, 0xFF0F, 0x100⟩ /- SYN_MKR_OUT -/,
  ⟨0xA0, 1, 0x0, 4, 0x8, 0x0, 0x0, 0x0, 0x0, 0x0, 0x0, 0x0⟩ /- SYN_MKR_STAMP_LO -/,
  ⟨0xA4, 1, 0x0, 4, 0x8, 0x0, 0x0, 0x0, 0x0, 0x0, 0x0, 0x0⟩ /- SYN_MKR_STAMP_HI -/,
  ⟨0x100, 1, 0x0, 1, 0x0, 0x8F010000, 0x0, 0x0, 0x0, 0x0, 0x0, 0x0⟩ /- DP_CFG -/,
  ⟨0x104, 1, 0x0, 1, 0x0, 0xFFFF, 0x0, 0x0, 0x0, 0x0, 0x0, 0x2⟩ /- DP_CLK -/,
  ⟨0x108, 1, 0x0, 1, 0x0, 0xFFFF, 0x0, 0x0, 0x0, 0x0, 0x0, 0x0⟩ /- DP_IDLE -/,
  ⟨0x10C, 1, 0x0, 1, 0x0, 0x0, 0x0, 0x0, 0x0, 0x0, 0x0, 0x0⟩ /- DP_STAT -/]
/-- The registers of the SCHED page from offset 0x040 on. -/
def rowsSched : List RegRow := [
  ⟨0x40, 1, 0x0, 1, 0x0, 0x1, 0x0, 0x0, 0x0, 0x0, 0x0, 0x1⟩ /- SCHED_CFG -/,
  ⟨0x44, 1, 0x0, 1, 0x0, 0x0, 0x0, 0x0, 0xFBFF001F, 0x0, 0x0, 0x0⟩ /- SCHED_CMD -/,
  ⟨0x48, 1, 0x0, 1, 0x0, 0xFFFFFFFF, 0x0, 0x0, 0x0, 0x0, 0x0, 0x0⟩ /- SCHED_ARG_MASK -/,
  ⟨0x4C, 1, 0x0, 1, 0x0, 0x801F00FF, 0x0, 0x0, 0x0, 0x0, 0x0, 0xFF⟩ /- SCHED_ARG_CFG -/,
  ⟨0x50, 1, 0x0, 1, 0x0, 0xBFF0000, 0x0, 0x0, 0x0, 0x0, 0x0, 0x0⟩ /- SCHED_Q_SEL -/,
  ⟨0x54, 1, 0x0, 1, 0x0, 0x0, 0x0, 0x0, 0x0, 0x0, 0x0, 0x0⟩ /- SCHED_Q_STAT -/,
  ⟨0x58, 1, 0x0, 1, 0x0, 0x0, 0x0, 0x0, 0x0, 0x0, 0x0, 0x0⟩ /- SCHED_Q_FLAGS -/,
  ⟨0x5C, 1, 0x0, 1, 0x0, 0x0, 0x0, 0x0, 0x0, 0x0, 0x0, 0x0⟩ /- SCHED_Q_MASK -/,
  ⟨0x60, 1, 0x0, 1, 0x0, 0x1FF, 0x0, 0x0, 0x0, 0x0, 0x0, 0x0⟩ /- SCHED_EV_SEL -/,
  ⟨0x64, 1, 0x0, 1, 0x0, 0xC3FF001F, 0x0, 0x0, 0x0, 0x0, 0x0, 0x0⟩ /- SCHED_EV_ROUTE -/,
  ⟨0x68, 1, 0x0, 1, 0x0, 0x0, 0x0, 0x0, 0x0, 0x0, 0x0, 0x0⟩ /- SCHED_READY -/,
  ⟨0x6C, 1, 0x0, 1, 0x0, 0x0, 0x0, 0x0, 0x0, 0xFFFFFFFF, 0x0, 0x0⟩ /- SCHED_RACE -/]
/-- The registers of the HIC page from offset 0x040 on. -/
def rowsHic : List RegRow := [
  ⟨0x40, 1, 0x0, 1, 0x0, 0x1FF, 0x0, 0x0, 0x0, 0x0, 0x0, 0x0⟩ /- HIC_SEL -/,
  ⟨0x44, 1, 0x0, 1, 0x0, 0xFF000F0F, 0x0, 0x0, 0x0, 0x0, 0x0, 0x800⟩ /- HIC_SRC_CFG -/,
  ⟨0x48, 1, 0x0, 1, 0x0, 0x8000007F, 0x0, 0x0, 0x0, 0x0, 0x0, 0x0⟩ /- HIC_SRC_BIND -/,
  ⟨0x4C, 1, 0x0, 1, 0x0, 0xFFFFFFFF, 0x0, 0x0, 0x0, 0x0, 0x0, 0x0⟩ /- HIC_SRC_MASK -/,
  ⟨0x50, 1, 0x0, 1, 0x0, 0x0, 0x0, 0xFFFF, 0x0, 0x0, 0x0, 0x0⟩ /- HIC_SWI -/,
  ⟨0x80, 1, 0x0, 16, 0x4, 0xFFFFFFFF, 0x0, 0x0, 0x0, 0x0, 0x0, 0x0⟩ /- HIC_EN -/,
  ⟨0xC0, 1, 0x0, 16, 0x4, 0x0, 0xFFFFFFFF, 0x0, 0x0, 0x0, 0x0, 0x0⟩ /- HIC_PEND -/,
  ⟨0x200, 10, 0x20, 1, 0x0, 0xF, 0x0, 0x0, 0x0, 0x0, 0x0, 0x0⟩ /- HIC_T_THRESH -/,
  ⟨0x204, 10, 0x20, 1, 0x0, 0x0, 0x0, 0x0, 0x0, 0x0, 0x0, 0x0⟩ /- HIC_T_CLAIM -/,
  ⟨0x208, 10, 0x20, 1, 0x0, 0x0, 0x0, 0x0, 0x1FF, 0x0, 0x0, 0x0⟩ /- HIC_T_COMPLETE -/,
  ⟨0x20C, 10, 0x20, 1, 0x0, 0xF000FFFF, 0x0, 0x0, 0x0, 0x0, 0x0, 0xF0000000⟩ /- HIC_T_MOD -/,
  ⟨0x210, 10, 0x20, 1, 0x0, 0x0, 0x0, 0x0, 0x0, 0x0, 0x0, 0x0⟩ /- HIC_T_STAT -/,
  ⟨0x214, 10, 0x20, 1, 0x0, 0x0, 0x0, 0x0, 0x0, 0xFFFFFFFF, 0x0, 0x0⟩ /- HIC_T_DELIV -/]
/-- The registers of the TRACE page from offset 0x040 on. -/
def rowsTrace : List RegRow := [
  ⟨0x40, 1, 0x0, 1, 0x0, 0x3, 0x0, 0x0, 0x0, 0x0, 0x0, 0x0⟩ /- TRACE_CTRL -/,
  ⟨0x44, 1, 0x0, 1, 0x0, 0xFFFF, 0x0, 0x0, 0x0, 0x0, 0x0, 0x7FFE⟩ /- TRACE_S_TYPES -/,
  ⟨0x48, 1, 0x0, 1, 0x0, 0xFFFF, 0x0, 0x0, 0x0, 0x0, 0x0, 0x1⟩ /- TRACE_S_FRAMES -/,
  ⟨0x4C, 1, 0x0, 1, 0x0, 0x0, 0x0, 0x0, 0x0, 0x0, 0x0, 0x0⟩ /- TRACE_S_BASE -/,
  ⟨0x50, 1, 0x0, 1, 0x0, 0x0, 0x0, 0x0, 0x0, 0x0, 0x0, 0x0⟩ /- TRACE_S_WR -/,
  ⟨0x54, 1, 0x0, 1, 0x0, 0xFFFFFFFF, 0x0, 0x0, 0x0, 0x0, 0x0, 0x0⟩ /- TRACE_S_RD -/,
  ⟨0x58, 1, 0x0, 1, 0x0, 0x0, 0x0, 0x0, 0x0, 0xFFFFFFFF, 0x0, 0x0⟩ /- TRACE_S_MAX -/,
  ⟨0x5C, 1, 0x0, 1, 0x0, 0x0, 0x0, 0x0, 0x0, 0xFFFFFFFF, 0x0, 0x0⟩ /- TRACE_S_LOST -/,
  ⟨0x68, 1, 0x0, 1, 0x0, 0xFFFF, 0x0, 0x0, 0x0, 0x0, 0x0, 0x1⟩ /- TRACE_P_FRAMES -/,
  ⟨0x6C, 1, 0x0, 1, 0x0, 0x0, 0x0, 0x0, 0x0, 0x0, 0x0, 0x0⟩ /- TRACE_P_BASE -/,
  ⟨0x70, 1, 0x0, 1, 0x0, 0x0, 0x0, 0x0, 0x0, 0x0, 0x0, 0x0⟩ /- TRACE_P_WR -/,
  ⟨0x74, 1, 0x0, 1, 0x0, 0xFFFFFFFF, 0x0, 0x0, 0x0, 0x0, 0x0, 0x0⟩ /- TRACE_P_RD -/,
  ⟨0x78, 1, 0x0, 1, 0x0, 0x0, 0x0, 0x0, 0x0, 0xFFFFFFFF, 0x0, 0x0⟩ /- TRACE_P_MAX -/,
  ⟨0x7C, 1, 0x0, 1, 0x0, 0x0, 0x0, 0x0, 0x0, 0xFFFFFFFF, 0x0, 0x0⟩ /- TRACE_P_LOST -/]
/-- The registers of the RED page from offset 0x040 on. -/
def rowsRed : List RegRow := [
  ⟨0x40, 1, 0x0, 1, 0x0, 0xFFFF0000, 0x0, 0x0, 0x0, 0x0, 0x0, 0x0⟩ /- RED_GRAPH_LO -/,
  ⟨0x44, 1, 0x0, 1, 0x0, 0xFF, 0x0, 0x0, 0x0, 0x0, 0x0, 0x0⟩ /- RED_GRAPH_HI -/,
  ⟨0x48, 1, 0x0, 1, 0x0, 0x3FF, 0x0, 0x0, 0x0, 0x0, 0x0, 0x0⟩ /- RED_N_SEL -/,
  ⟨0x4C, 1, 0x0, 1, 0x0, 0x0, 0x0, 0x0, 0x0, 0x0, 0x0, 0x0⟩ /- RED_N_STATUS -/,
  ⟨0x50, 1, 0x0, 1, 0x0, 0x0, 0x0, 0x0, 0x0, 0x0, 0x0, 0x0⟩ /- RED_N_RESULT_LO -/,
  ⟨0x54, 1, 0x0, 1, 0x0, 0x0, 0x0, 0x0, 0x0, 0x0, 0x0, 0x0⟩ /- RED_N_RESULT_HI -/,
  ⟨0x58, 1, 0x0, 1, 0x0, 0xFFFFFFFF, 0x0, 0x0, 0x0, 0x0, 0x0, 0x0⟩ /- RED_ERR_ROUTE -/,
  ⟨0x80, 1, 0x0, 8, 0x4, 0x0, 0x0, 0x0, 0x0, 0x0, 0x0, 0x0⟩ /- RED_EU -/,
  ⟨0xC0, 1, 0x0, 8, 0x8, 0x0, 0x0, 0x0, 0x0, 0x0, 0x0, 0x0⟩ /- RED_EU_BUSY_LO -/,
  ⟨0xC4, 1, 0x0, 8, 0x8, 0x0, 0x0, 0x0, 0x0, 0x0, 0x0, 0x0⟩ /- RED_EU_BUSY_HI -/]
/-- The registers of the HART page from offset 0x040 on. -/
def rowsHart : List RegRow := [
  ⟨0x40, 1, 0x0, 1, 0x0, 0xFFFFFFFE, 0x0, 0x0, 0x0, 0x0, 0x0, 0x0⟩ /- HART_BOOT_LO -/,
  ⟨0x44, 1, 0x0, 1, 0x0, 0x1FF, 0x0, 0x0, 0x0, 0x0, 0x0, 0x80⟩ /- HART_BOOT_HI -/,
  ⟨0x48, 1, 0x0, 1, 0x0, 0xFFFFFFFE, 0x0, 0x0, 0x0, 0x0, 0x0, 0x0⟩ /- HART_NMI_LO -/,
  ⟨0x4C, 1, 0x0, 1, 0x0, 0x1FF, 0x0, 0x0, 0x0, 0x0, 0x0, 0x80⟩ /- HART_NMI_HI -/,
  ⟨0x50, 1, 0x0, 1, 0x0, 0x0, 0x0, 0x0, 0x0, 0x0, 0x0, 0x0⟩ /- HART_STAT -/,
  ⟨0x54, 1, 0x0, 1, 0x0, 0x1, 0x0, 0x0, 0x0, 0x0, 0x0, 0x0⟩ /- HART_MSIP -/,
  ⟨0x58, 1, 0x0, 1, 0x0, 0xFFFFFFFF, 0x0, 0x0, 0x0, 0x0, 0x0, 0xFFFFFFFF⟩ /- HART_TIMECMP_LO -/,
  ⟨0x5C, 1, 0x0, 1, 0x0, 0xFFFFFFFF, 0x0, 0x0, 0x0, 0x0, 0x0, 0xFFFFFFFF⟩ /- HART_TIMECMP_HI -/,
  ⟨0x60, 1, 0x0, 1, 0x0, 0x0, 0x0, 0x0, 0xF, 0x0, 0x0, 0x0⟩ /- HART_SCHED_CMD -/,
  ⟨0x64, 1, 0x0, 1, 0x0, 0xFFFFFFFF, 0x0, 0x0, 0x0, 0x0, 0x0, 0x0⟩ /- HART_SCHED_MASK -/,
  ⟨0x68, 1, 0x0, 1, 0x0, 0x80FFFFFF, 0x0, 0x0, 0x0, 0x0, 0x0, 0x0⟩ /- HART_SCHED_WCFG -/,
  ⟨0x6C, 1, 0x0, 1, 0x0, 0x0, 0x0, 0x0, 0x0, 0x0, 0x0, 0x0⟩ /- HART_SCHED_CUR -/,
  ⟨0x70, 1, 0x0, 1, 0x0, 0x0, 0x0, 0x0, 0x0, 0x0, 0x0, 0x0⟩ /- HART_SCHED_GOT -/,
  ⟨0x74, 1, 0x0, 1, 0x0, 0x0, 0x0, 0x0, 0x0, 0xFFFFFFFF, 0x0, 0x0⟩ /- HART_CNT_DISP -/,
  ⟨0x78, 1, 0x0, 1, 0x0, 0x0, 0x0, 0x0, 0x0, 0x1FF, 0x0, 0x0⟩ /- HART_CNT_DEPTH_MAX -/,
  ⟨0x7C, 1, 0x0, 1, 0x0, 0x0, 0x0, 0x1, 0x0, 0x0, 0x0, 0x0⟩ /- HART_CNT_CLR -/,
  ⟨0x80, 1, 0x0, 1, 0x0, 0x0, 0x0, 0x0, 0x0, 0x0, 0x0, 0x0⟩ /- HART_CNT_BUSY_LO -/,
  ⟨0x84, 1, 0x0, 1, 0x0, 0x0, 0x0, 0x0, 0x0, 0x0, 0x0, 0x0⟩ /- HART_CNT_BUSY_HI -/,
  ⟨0x88, 1, 0x0, 1, 0x0, 0x0, 0x0, 0x0, 0x0, 0x0, 0x0, 0x0⟩ /- HART_CNT_WAIT_LO -/,
  ⟨0x8C, 1, 0x0, 1, 0x0, 0x0, 0x0, 0x0, 0x0, 0x0, 0x0, 0x0⟩ /- HART_CNT_WAIT_HI -/,
  ⟨0x90, 1, 0x0, 1, 0x0, 0x0, 0x0, 0x0, 0x0, 0x0, 0x0, 0x0⟩ /- HART_CNT_DEPTH_LO -/,
  ⟨0x94, 1, 0x0, 1, 0x0, 0x0, 0x0, 0x0, 0x0, 0x0, 0x0, 0x0⟩ /- HART_CNT_DEPTH_HI -/,
  ⟨0x100, 1, 0x0, 16, 0x8, 0x0, 0x0, 0x0, 0x0, 0x0, 0x0, 0x0⟩ /- HART_PMP_ADDR_LO -/,
  ⟨0x104, 1, 0x0, 16, 0x8, 0x0, 0x0, 0x0, 0x0, 0x0, 0x0, 0x0⟩ /- HART_PMP_ADDR_HI -/,
  ⟨0x180, 1, 0x0, 4, 0x4, 0x0, 0x0, 0x0, 0x0, 0x0, 0x0, 0x0⟩ /- HART_PMP_CFG -/]
/-- The registers of the FLT page from offset 0x040 on. -/
def rowsFlt : List RegRow := [
  ⟨0x40, 1, 0x0, 1, 0x0, 0xFF, 0x0, 0x0, 0x0, 0x0, 0x0, 0x0⟩ /- FLT_SEL -/,
  ⟨0x44, 1, 0x0, 1, 0x0, 0xC01FF01F, 0x0, 0x0, 0x0, 0x0, 0x0, 0xC0100001⟩ /- FLT_SRC_CFG -/,
  ⟨0x48, 1, 0x0, 1, 0x0, 0x0, 0x0, 0x0, 0x0, 0x0, 0x0, 0x0⟩ /- FLT_SRC_STAT -/,
  ⟨0x4C, 1, 0x0, 1, 0x0, 0x0, 0x0, 0x0, 0x0, 0xFFFFFFFF, 0x0, 0x0⟩ /- FLT_SRC_COUNT -/,
  ⟨0x50, 1, 0x0, 1, 0x0, 0x0, 0x0, 0x0, 0xFF, 0x0, 0x0, 0x0⟩ /- FLT_ACK -/,
  ⟨0x54, 1, 0x0, 1, 0x0, 0x0, 0x80000000, 0x0, 0x0, 0x0, 0x0, 0x0⟩ /- FLT_FIRST -/,
  ⟨0x58, 1, 0x0, 1, 0x0, 0x0, 0x0, 0x0, 0x0, 0x0, 0x0, 0x0⟩ /- FLT_FIRST_STAMP_LO -/,
  ⟨0x5C, 1, 0x0, 1, 0x0, 0x0, 0x0, 0x0, 0x0, 0x0, 0x0, 0x0⟩ /- FLT_FIRST_STAMP_HI -/,
  ⟨0x60, 1, 0x0, 1, 0x0, 0x0, 0x0, 0x0, 0x0, 0x0, 0x0, 0x0⟩ /- FLT_LOG_WR -/,
  ⟨0x64, 1, 0x0, 1, 0x0, 0xFFFFFFFF, 0x0, 0x0, 0x0, 0x0, 0x0, 0x0⟩ /- FLT_LOG_RD -/,
  ⟨0x68, 1, 0x0, 1, 0x0, 0x0, 0x0, 0x0, 0x0, 0xFF, 0x0, 0x0⟩ /- FLT_LOG_MAX -/,
  ⟨0x6C, 1, 0x0, 1, 0x0, 0x0, 0x0, 0x0, 0x0, 0xFFFFFFFF, 0x0, 0x0⟩ /- FLT_LOG_LOST -/,
  ⟨0x70, 1, 0x0, 1, 0x0, 0x0, 0x0, 0x0, 0x0, 0xFFFFFFFF, 0x0, 0x0⟩ /- FLT_FENCE_SUPPRESSED -/,
  ⟨0x78, 1, 0x0, 1, 0x0, 0x0, 0x0, 0x0, 0xFF, 0x0, 0x0, 0x0⟩ /- FLT_DEV_INJ -/,
  ⟨0x7C, 1, 0x0, 1, 0x0, 0xFFFF, 0x0, 0x0, 0x0, 0x0, 0x0, 0x0⟩ /- FLT_CFG -/,
  ⟨0x80, 1, 0x0, 4, 0x4, 0x0, 0x0, 0x0, 0x0, 0x0, 0x0, 0x0⟩ /- FLT_FENCE -/,
  ⟨0x90, 1, 0x0, 1, 0x0, 0xFFFFFFFF, 0x0, 0x0, 0x0, 0x0, 0x0, 0x6401F4⟩ /- FLT_ALIVE_CFG -/,
  ⟨0x94, 1, 0x0, 1, 0x0, 0xFFFF, 0x0, 0x0, 0x0, 0x0, 0x0, 0x7D0⟩ /- FLT_ALIVE_FIRST -/,
  ⟨0x98, 1, 0x0, 1, 0x0, 0x0, 0x0, 0x0, 0xFFFF, 0x0, 0x0, 0x0⟩ /- FLT_KICK -/,
  ⟨0x9C, 1, 0x0, 1, 0x0, 0x0, 0x0, 0x0, 0x0, 0x0, 0x0, 0x0⟩ /- FLT_ALIVE_STAT -/,
  ⟨0xA0, 1, 0x0, 1, 0x0, 0x0, 0x0, 0x1, 0x0, 0x0, 0x0, 0x0⟩ /- FLT_ERRN -/,
  ⟨0xA4, 1, 0x0, 1, 0x0, 0x0, 0x0, 0x0, 0x0, 0x0, 0x0, 0x0⟩ /- FLT_QUAR -/,
  ⟨0xA8, 1, 0x0, 1, 0x0, 0x0, 0x0, 0x0, 0x0, 0x0, 0x0, 0x0⟩ /- FLT_QUAR_STAMP_LO -/,
  ⟨0xAC, 1, 0x0, 1, 0x0, 0x0, 0x0, 0x0, 0x0, 0x0, 0x0, 0x0⟩ /- FLT_QUAR_STAMP_HI -/,
  ⟨0x800, 1, 0x0, 512, 0x4, 0x0, 0x0, 0x0, 0x0, 0x0, 0x0, 0x0⟩ /- FLT_LOG -/]
/-- The registers of the DRAM page from offset 0x040 on. -/
def rowsDram : List RegRow := [
  ⟨0x40, 1, 0x0, 1, 0x0, 0x80000133, 0x0, 0x0, 0x0, 0x0, 0x0, 0x0⟩ /- DRAM_GEOM -/,
  ⟨0x44, 1, 0x0, 1, 0x0, 0x0, 0x0, 0x0, 0x0, 0x0, 0x0, 0x0⟩ /- DRAM_STAT -/,
  ⟨0x48, 1, 0x0, 1, 0x0, 0xFFFF, 0x0, 0x0, 0x0, 0x0, 0x0, 0x0⟩ /- DRAM_SR -/,
  ⟨0x4C, 1, 0x0, 1, 0x0, 0xFF, 0x0, 0x0, 0x0, 0x0, 0x0, 0x18⟩ /- DRAM_SCRUB -/,
  ⟨0x50, 1, 0x0, 1, 0x0, 0x0, 0x0, 0x0, 0x0, 0x0, 0x0, 0x0⟩ /- DRAM_CE_ADDR_LO -/,
  ⟨0x54, 1, 0x0, 1, 0x0, 0x0, 0x0, 0x0, 0x0, 0x0, 0x0, 0x0⟩ /- DRAM_CE_ADDR_HI -/,
  ⟨0x58, 1, 0x0, 1, 0x0, 0x0, 0x0, 0x0, 0x0, 0x0, 0x0, 0x0⟩ /- DRAM_UE_ADDR_LO -/,
  ⟨0x5C, 1, 0x0, 1, 0x0, 0x0, 0x0, 0x0, 0x0, 0x0, 0x0, 0x0⟩ /- DRAM_UE_ADDR_HI -/,
  ⟨0x60, 1, 0x0, 1, 0x0, 0x0, 0x0, 0x0, 0x0, 0xFFFFFFFF, 0x0, 0x0⟩ /- DRAM_ECC_RETRY -/,
  ⟨0x64, 1, 0x0, 1, 0x0, 0x0, 0x0, 0x0, 0x0, 0xFFFFFFFF, 0x0, 0x0⟩ /- DRAM_REPLAY -/,
  ⟨0x68, 1, 0x0, 1, 0x0, 0xFFFFFFFF, 0x0, 0x0, 0x0, 0x0, 0x0, 0x20000A40⟩ /- DRAM_RH_CFG -/,
  ⟨0x6C, 1, 0x0, 1, 0x0, 0x0, 0x0, 0x0, 0x0, 0x0, 0x0, 0x0⟩ /- DRAM_RH_STAT -/,
  ⟨0x70, 1, 0x0, 1, 0x0, 0x0, 0x0, 0x0, 0x0, 0xFFFFFFFF, 0x0, 0x0⟩ /- DRAM_RH_EVENTS -/,
  ⟨0x74, 1, 0x0, 1, 0x0, 0x1, 0x0, 0x0, 0x0, 0x0, 0x0, 0x0⟩ /- DRAM_WARM -/,
  ⟨0x100, 1, 0x0, 1, 0x0, 0x0, 0x0, 0x0, 0xF0, 0x0, 0x0, 0x0⟩ /- DRAM_TRN_CMD -/,
  ⟨0x104, 1, 0x0, 1, 0x0, 0xFFFFFFFF, 0x0, 0x0, 0x0, 0x0, 0x0, 0x0⟩ /- DRAM_TRN_ARG -/,
  ⟨0x108, 1, 0x0, 1, 0x0, 0xFFFFFF00, 0x0, 0x0, 0x0, 0x0, 0x0, 0x0⟩ /- DRAM_TRN_SWEEP -/,
  ⟨0x10C, 1, 0x0, 1, 0x0, 0x7F, 0x0, 0x0, 0x0, 0x0, 0x0, 0x0⟩ /- DRAM_TRN_SEL -/,
  ⟨0x110, 1, 0x0, 1, 0x0, 0x0, 0x0, 0x0, 0x0, 0x0, 0x0, 0x0⟩ /- DRAM_TRN_RES -/,
  ⟨0x114, 1, 0x0, 1, 0x0, 0x0, 0x0, 0x0, 0x0, 0x0, 0x0, 0x0⟩ /- DRAM_TRN_ERR -/,
  ⟨0x118, 1, 0x0, 1, 0x0, 0x1F7F, 0x0, 0x0, 0x0, 0x0, 0x0, 0x0⟩ /- DRAM_DLY_SEL -/,
  ⟨0x11C, 1, 0x0, 1, 0x0, 0x3FF, 0x0, 0x0, 0x0, 0x0, 0x0, 0x0⟩ /- DRAM_DLY -/]
/-- The registers of the ALLOC page from offset 0x040 on. -/
def rowsAlloc : List RegRow := [
  ⟨0x40, 1, 0x0, 1, 0x0, 0xFF03, 0x0, 0x0, 0x0, 0x0, 0x0, 0x0⟩ /- ALLOC_MAP -/,
  ⟨0x44, 1, 0x0, 1, 0x0, 0x0, 0x0, 0x0, 0x0, 0x0, 0x0, 0x0⟩ /- ALLOC_FRAMES -/,
  ⟨0x48, 1, 0x0, 1, 0x0, 0x0, 0x0, 0x0, 0x0, 0x0, 0x0, 0x0⟩ /- ALLOC_FREE -/,
  ⟨0x50, 1, 0x0, 1, 0x0, 0x0, 0x0, 0x0, 0xF703FFFF, 0x0, 0x0, 0x0⟩ /- ALLOC_CMD -/,
  ⟨0x54, 1, 0x0, 1, 0x0, 0x3FFFF, 0x0, 0x0, 0x0, 0x0, 0x0, 0x0⟩ /- ALLOC_ARG -/,
  ⟨0x58, 1, 0x0, 1, 0x0, 0xFFFFFFFF, 0x0, 0x0, 0x0, 0x0, 0x0, 0x0⟩ /- ALLOC_OWNER -/,
  ⟨0x5C, 1, 0x0, 1, 0x0, 0x0, 0x0, 0x0, 0x0, 0x0, 0x0, 0x0⟩ /- ALLOC_RES -/,
  ⟨0x60, 1, 0x0, 1, 0x0, 0x0, 0x0, 0x0, 0x0, 0x0, 0x0, 0x0⟩ /- ALLOC_QOWNER -/,
  ⟨0x64, 1, 0x0, 1, 0x0, 0x0, 0x0, 0x0, 0x0, 0x0, 0x0, 0x0⟩ /- ALLOC_RETIRED -/,
  ⟨0x68, 1, 0x0, 1, 0x0, 0x7FFFF, 0x0, 0x0, 0x0, 0x0, 0x0, 0x0⟩ /- ALLOC_RET_SEL -/,
  ⟨0x6C, 1, 0x0, 1, 0x0, 0x0, 0x0, 0x0, 0x0, 0x0, 0x0, 0x0⟩ /- ALLOC_RET -/,
  ⟨0x80, 1, 0x0, 6, 0x10, 0x7FFFF, 0x0, 0x0, 0x0, 0x0, 0x0, 0x0⟩ /- ALLOC_POOL_MIN -/,
  ⟨0x84, 1, 0x0, 6, 0x10, 0x7FFFF, 0x0, 0x0, 0x0, 0x0, 0x0, 0x7FFFF⟩ /- ALLOC_POOL_MAX -/,
  ⟨0x88, 1, 0x0, 6, 0x10, 0x0, 0x0, 0x0, 0x0, 0x0, 0x0, 0x0⟩ /- ALLOC_POOL_USED -/,
  ⟨0x8C, 1, 0x0, 6, 0x10, 0x0, 0x0, 0x0, 0x0, 0x7FFFF, 0x0, 0x0⟩ /- ALLOC_POOL_PEAK -/]
/-- The registers of the DMA page from offset 0x040 on. -/
def rowsDma : List RegRow := [
  ⟨0x40, 1, 0x0, 1, 0x0, 0x1F, 0x0, 0x0, 0x0, 0x0, 0x0, 0x10⟩ /- DMA_ARB -/,
  ⟨0x100, 8, 0x80, 1, 0x0, 0x7C, 0x0, 0x3, 0x0, 0x0, 0x0, 0x0⟩ /- DMA_CH_CTRL -/,
  ⟨0x104, 8, 0x80, 1, 0x0, 0x303, 0x0, 0x0, 0x0, 0x0, 0x0, 0x0⟩ /- DMA_CH_SPACE -/,
  ⟨0x108, 8, 0x80, 1, 0x0, 0xFFFFFFFF, 0x0, 0x0, 0x0, 0x0, 0x0, 0x0⟩ /- DMA_CH_SRC_LO -/,
  ⟨0x10C, 8, 0x80, 1, 0x0, 0xFFFFFFFF, 0x0, 0x0, 0x0, 0x0, 0x0, 0x0⟩ /- DMA_CH_SRC_HI -/,
  ⟨0x110, 8, 0x80, 1, 0x0, 0xFFFFFFFF, 0x0, 0x0, 0x0, 0x0, 0x0, 0x0⟩ /- DMA_CH_DST_LO -/,
  ⟨0x114, 8, 0x80, 1, 0x0, 0xFFFFFFFF, 0x0, 0x0, 0x0, 0x0, 0x0, 0x0⟩ /- DMA_CH_DST_HI -/,
  ⟨0x118, 8, 0x80, 1, 0x0, 0xFFFFFFFF, 0x0, 0x0, 0x0, 0x0, 0x0, 0x0⟩ /- DMA_CH_ACNT -/,
  ⟨0x11C, 8, 0x80, 1, 0x0, 0xFFFFFFFF, 0x0, 0x0, 0x0, 0x0, 0x0, 0x0⟩ /- DMA_CH_BCCNT -/,
  ⟨0x120, 8, 0x80, 1, 0x0, 0xFFFFFFFF, 0x0, 0x0, 0x0, 0x0, 0x0, 0x0⟩ /- DMA_CH_SRC_BSTEP -/,
  ⟨0x124, 8, 0x80, 1, 0x0, 0xFFFFFFFF, 0x0, 0x0, 0x0, 0x0, 0x0, 0x0⟩ /- DMA_CH_SRC_CSTEP -/,
  ⟨0x128, 8, 0x80, 1, 0x0, 0xFFFFFFFF, 0x0, 0x0, 0x0, 0x0, 0x0, 0x0⟩ /- DMA_CH_DST_BSTEP -/,
  ⟨0x12C, 8, 0x80, 1, 0x0, 0xFFFFFFFF, 0x0, 0x0, 0x0, 0x0, 0x0, 0x0⟩ /- DMA_CH_DST_CSTEP -/,
  ⟨0x130, 8, 0x80, 1, 0x0, 0xFFFFFFFF, 0x0, 0x0, 0x0, 0x0, 0x0, 0xFFFFFFFF⟩ /- DMA_CH_CRC_SEED -/,
  ⟨0x134, 8, 0x80, 1, 0x0, 0xFFFFFFFF, 0x0, 0x0, 0x0, 0x0, 0x0, 0x0⟩ /- DMA_CH_CRC_ADDR_LO -/,
  ⟨0x138, 8, 0x80, 1, 0x0, 0xFF, 0x0, 0x0, 0x0, 0x0, 0x0, 0x0⟩ /- DMA_CH_CRC_ADDR_HI -/,
  ⟨0x13C, 8, 0x80, 1, 0x0, 0xFFFF, 0x0, 0x0, 0x0, 0x0, 0x0, 0x0⟩ /- DMA_CH_TMO -/,
  ⟨0x140, 8, 0x80, 1, 0x0, 0x0, 0x0, 0x0, 0x0, 0x0, 0x0, 0x0⟩ /- DMA_CH_STAT -/,
  ⟨0x144, 8, 0x80, 1, 0x0, 0x0, 0x0, 0x0, 0x0, 0x0, 0x0, 0x0⟩ /- DMA_CH_CRC -/,
  ⟨0x148, 8, 0x80, 1, 0x0, 0x0, 0x0, 0x0, 0x0, 0x0, 0x0, 0x0⟩ /- DMA_CH_DONE_LO -/,
  ⟨0x14C, 8, 0x80, 1, 0x0, 0x0, 0x0, 0x0, 0x0, 0x0, 0x0, 0x0⟩ /- DMA_CH_DONE_HI -/]
/-- The registers of the FQ page from offset 0x040 on. -/
def rowsFq : List RegRow := [
  ⟨0x40, 1, 0x0, 1, 0x0, 0x0, 0x0, 0x0, 0x0, 0x0, 0x0, 0x200⟩ /- FQ_POOL -/,
  ⟨0x400, 32, 0x40, 1, 0x0, 0x81FFFFFF, 0x0, 0x0, 0x0, 0x0, 0x0, 0x0⟩ /- FQ_Q_CFG -/,
  ⟨0x404, 32, 0x40, 1, 0x0, 0x0, 0x0, 0x0, 0x0, 0x0, 0x0, 0x0⟩ /- FQ_Q_LEVEL -/,
  ⟨0x408, 32, 0x40, 1, 0x0, 0x0, 0x0, 0x0, 0x0, 0x7FFF, 0x0, 0x0⟩ /- FQ_Q_MAX -/,
  ⟨0x40C, 32, 0x40, 1, 0x0, 0x0, 0x70000000, 0x0, 0x0, 0x0, 0x0, 0x0⟩ /- FQ_Q_STAT -/,
  ⟨0x410, 32, 0x40, 1, 0x0, 0x0, 0x0, 0x0, 0xFFFFFFFF, 0x0, 0x0, 0x0⟩ /- FQ_Q_PUSH_LO -/,
  ⟨0x414, 32, 0x40, 1, 0x0, 0x0, 0x0, 0x0, 0xFFFFFFFF, 0x0, 0x0, 0x0⟩ /- FQ_Q_PUSH_HI -/,
  ⟨0x418, 32, 0x40, 1, 0x0, 0x0, 0x0, 0x0, 0x0, 0x0, 0x0, 0x0⟩ /- FQ_Q_POP_LO -/,
  ⟨0x41C, 32, 0x40, 1, 0x0, 0x0, 0x0, 0x0, 0x0, 0x0, 0x0, 0x0⟩ /- FQ_Q_POP_HI -/,
  ⟨0x420, 32, 0x40, 1, 0x0, 0x0, 0x0, 0x0, 0x0, 0x0, 0x0, 0x0⟩ /- FQ_Q_POP_INFO -/,
  ⟨0x424, 32, 0x40, 1, 0x0, 0x0, 0x0, 0x1, 0x0, 0x0, 0x0, 0x0⟩ /- FQ_Q_CTRL -/,
  ⟨0x428, 32, 0x40, 1, 0x0, 0x0, 0x0, 0x0, 0x0, 0xFFFFFFFF, 0x0, 0x0⟩ /- FQ_Q_UNDERRUN -/,
  ⟨0x42C, 32, 0x40, 1, 0x0, 0x0, 0x0, 0x0, 0x0, 0xFFFFFFFF, 0x0, 0x0⟩ /- FQ_Q_DROP -/,
  ⟨0x430, 32, 0x40, 1, 0x0, 0x0, 0x0, 0x0, 0x0, 0xFFFFFFFF, 0x0, 0x0⟩ /- FQ_FLUSH_DROPPED -/,
  ⟨0x434, 32, 0x40, 1, 0x0, 0x0, 0x0, 0x0, 0x0, 0xFFFFFFFF, 0x0, 0x0⟩ /- FQ_Q_CE -/]
/-- The registers of the FP page from offset 0x040 on. -/
def rowsFp : List RegRow := [
  ⟨0x40, 1, 0x0, 1, 0x0, 0xF3FF0005, 0x0, 0x0, 0x0, 0x0, 0x0, 0xF2000000⟩ /- FP_CFG -/,
  ⟨0x44, 1, 0x0, 1, 0x0, 0x0, 0x0, 0x0, 0x0, 0x0, 0x0, 0x0⟩ /- FP_STAT -/,
  ⟨0x48, 1, 0x0, 1, 0x0, 0x0, 0x0, 0x0, 0x0, 0x0, 0x0, 0x0⟩ /- FP_PEER_ID_LO -/,
  ⟨0x4C, 1, 0x0, 1, 0x0, 0x0, 0x0, 0x0, 0x0, 0x0, 0x0, 0x0⟩ /- FP_PEER_ID_HI -/,
  ⟨0x50, 1, 0x0, 1, 0x0, 0x0, 0x0, 0x0, 0x0, 0x0, 0x0, 0x0⟩ /- FP_PEER_ADDR -/,
  ⟨0x54, 1, 0x0, 1, 0x0, 0x0, 0x0, 0x0, 0x0, 0x0, 0x0, 0x0⟩ /- FP_DELAY -/,
  ⟨0x58, 1, 0x0, 1, 0x0, 0x80001F0F, 0x0, 0x0, 0x0, 0x0, 0x0, 0x0⟩ /- FP_EQ_CFG -/,
  ⟨0x60, 1, 0x0, 4, 0x4, 0x0, 0x0, 0x0, 0x0, 0x0, 0x0, 0x0⟩ /- FP_EQ_STAT -/,
  ⟨0x70, 1, 0x0, 1, 0x0, 0x203, 0x0, 0x0, 0x0, 0x0, 0x0, 0x0⟩ /- FP_LB -/,
  ⟨0x74, 1, 0x0, 4, 0x4, 0x0, 0x0, 0x0, 0x0, 0xFFFFFFFF, 0x0, 0x0⟩ /- FP_PRBS_ERR -/,
  ⟨0x84, 1, 0x0, 4, 0x4, 0x0, 0x0, 0x0, 0x0, 0xFFFFFFFF, 0x0, 0x0⟩ /- FP_LANE_CV -/,
  ⟨0x94, 1, 0x0, 1, 0x0, 0xFFFF00FF, 0x0, 0x0, 0x0, 0x0, 0x0, 0x7D00040⟩ /- FP_TMO -/,
  ⟨0x98, 1, 0x0, 1, 0x0, 0x0, 0x0, 0x1, 0x0, 0x0, 0x0, 0x0⟩ /- FP_CMD -/,
  ⟨0x9C, 1, 0x0, 1, 0x0, 0x0, 0x0, 0x0, 0x0, 0xFFFFFFFF, 0x0, 0x0⟩ /- FP_RETRY -/,
  ⟨0xA0, 1, 0x0, 1, 0x0, 0x0, 0x0, 0x0, 0x0, 0xFFFFFFFF, 0x0, 0x0⟩ /- FP_STALE -/,
  ⟨0xA4, 1, 0x0, 1, 0x0, 0x0, 0x0, 0x0, 0x0, 0xFFFFFFFF, 0x0, 0x0⟩ /- FP_DET_RETRY -/,
  ⟨0xA8, 1, 0x0, 1, 0x0, 0x0, 0x0, 0x0, 0x0, 0xFFFFFFFF, 0x0, 0x0⟩ /- FP_TRAIN_FAILS -/,
  ⟨0xAC, 1, 0x0, 1, 0x0, 0x0, 0x0, 0x0, 0x0, 0x3F, 0x0, 0x0⟩ /- FP_DETQ_MAX -/]
/-- The registers of the FAB page from offset 0x040 on. -/
def rowsFab : List RegRow := [
  ⟨0x40, 1, 0x0, 1, 0x0, 0xFF0103FF, 0x0, 0x0, 0x0, 0x0, 0x0, 0x80000000⟩ /- FAB_CFG -/,
  ⟨0x44, 1, 0x0, 1, 0x0, 0x0, 0x0, 0x0, 0x0, 0x0, 0x0, 0x0⟩ /- FAB_STAT -/,
  ⟨0x48, 1, 0x0, 1, 0x0, 0x0, 0x0, 0x0, 0x0, 0x0, 0x0, 0x0⟩ /- FAB_ADDR -/,
  ⟨0x4C, 1, 0x0, 1, 0x0, 0x0, 0x0, 0x0, 0x0, 0x0, 0x0, 0x0⟩ /- FAB_ROOT_LO -/,
  ⟨0x50, 1, 0x0, 1, 0x0, 0x0, 0x0, 0x0, 0x0, 0x0, 0x0, 0x0⟩ /- FAB_ROOT_HI -/,
  ⟨0x54, 1, 0x0, 1, 0x0, 0x0, 0x0, 0x0, 0x0, 0x0, 0x0, 0x0⟩ /- FAB_ROOT_INFO -/,
  ⟨0x58, 1, 0x0, 1, 0x0, 0x3FF, 0x0, 0x0, 0x0, 0x0, 0x0, 0x0⟩ /- FAB_ROUTE_SEL -/,
  ⟨0x5C, 1, 0x0, 1, 0x0, 0x0, 0x0, 0x0, 0x0, 0x0, 0x0, 0x0⟩ /- FAB_ROUTE -/,
  ⟨0x60, 1, 0x0, 1, 0x0, 0xFF, 0x0, 0x0, 0x0, 0x0, 0x0, 0x0⟩ /- FAB_GRP_SEL -/,
  ⟨0x64, 1, 0x0, 1, 0x0, 0x80000000, 0x0, 0x0, 0x0, 0x0, 0x0, 0x0⟩ /- FAB_GRP -/,
  ⟨0x70, 1, 0x0, 1, 0x0, 0x3FF, 0x0, 0x0, 0x0, 0x0, 0x0, 0x0⟩ /- FAB_RM_DST -/,
  ⟨0x74, 1, 0x0, 1, 0x0, 0x3FFFFFC, 0x0, 0x0, 0x0, 0x0, 0x0, 0x0⟩ /- FAB_RM_ADDR -/,
  ⟨0x78, 1, 0x0, 1, 0x0, 0x0, 0x0, 0x0, 0xC000001F, 0x0, 0x0, 0x0⟩ /- FAB_RM_CMD -/,
  ⟨0x7C, 1, 0x0, 1, 0x0, 0x0, 0x0, 0x0, 0x0, 0x0, 0x0, 0x0⟩ /- FAB_RM_STAT -/,
  ⟨0x80, 1, 0x0, 1, 0x0, 0xFFFF, 0x0, 0x0, 0x0, 0x0, 0x0, 0x64⟩ /- FAB_RM_TMO -/,
  ⟨0x84, 1, 0x0, 1, 0x0, 0x1, 0x0, 0x0, 0x0, 0x0, 0x0, 0x0⟩ /- FAB_STORE -/,
  ⟨0x88, 1, 0x0, 1, 0x0, 0x800000FF, 0x0, 0x0, 0x0, 0x0, 0x0, 0x0⟩ /- FAB_PAGE_GRP -/,
  ⟨0x8C, 1, 0x0, 1, 0x0, 0x0, 0x0, 0x0, 0x0, 0xFFFFFFFF, 0x0, 0x0⟩ /- FAB_UNREACH -/,
  ⟨0x90, 1, 0x0, 1, 0x0, 0x0, 0x0, 0x0, 0x0, 0xFFFFFFFF, 0x0, 0x0⟩ /- FAB_TTL_DROP -/,
  ⟨0x94, 1, 0x0, 1, 0x0, 0x0, 0x0, 0x0, 0x0, 0xFFFFFFFF, 0x0, 0x0⟩ /- FAB_PAGES_SERVED -/,
  ⟨0xA0, 1, 0x0, 8, 0x4, 0xFFFFFFFF, 0x0, 0x0, 0x0, 0x0, 0x0, 0x0⟩ /- FAB_TRIG_CFG -/,
  ⟨0xC0, 1, 0x0, 1, 0x0, 0x0, 0x0, 0xFF, 0x0, 0x0, 0x0, 0x0⟩ /- FAB_TRIG_SEND -/,
  ⟨0xC4, 1, 0x0, 1, 0x0, 0x0, 0x0, 0x0, 0x0, 0xFFFFFFFF, 0x0, 0x0⟩ /- FAB_TRIG_LATE -/,
  ⟨0x100, 1, 0x0, 16, 0x4, 0xFFFFFFFF, 0x0, 0x0, 0x0, 0x0, 0x0, 0x0⟩ /- FAB_RM_DATA -/,
  ⟨0x200, 16, 0x20, 1, 0x0, 0xCF1FFF00, 0x0, 0x0, 0x0, 0x0, 0x0, 0x0⟩ /- FAB_SPAN_CFG -/,
  ⟨0x204, 16, 0x20, 1, 0x0, 0xFFFFFFFF, 0x0, 0x0, 0x0, 0x0, 0x0, 0x0⟩ /- FAB_SPAN_PMASK_LO -/,
  ⟨0x208, 16, 0x20, 1, 0x0, 0xFFFFFFFF, 0x0, 0x0, 0x0, 0x0, 0x0, 0x0⟩ /- FAB_SPAN_PMASK_HI -/,
  ⟨0x20C, 16, 0x20, 1, 0x0, 0xFFFF, 0x0, 0x0, 0x0, 0x0, 0x0, 0xFA0⟩ /- FAB_SPAN_SYNC -/,
  ⟨0x210, 16, 0x20, 1, 0x0, 0x0, 0x0, 0x1, 0x0, 0x0, 0x0, 0x0⟩ /- FAB_SPAN_GO -/,
  ⟨0x214, 16, 0x20, 1, 0x0, 0x0, 0x0, 0x0, 0x0, 0x0, 0x0, 0x0⟩ /- FAB_SPAN_STAT -/,
  ⟨0x218, 16, 0x20, 1, 0x0, 0x0, 0x0, 0x0, 0x0, 0x0, 0x0, 0x0⟩ /- FAB_SPAN_T_LO -/,
  ⟨0x21C, 16, 0x20, 1, 0x0, 0x0, 0x0, 0x0, 0x0, 0x0, 0x0, 0x0⟩ /- FAB_SPAN_T_HI -/]
/-- The registers of the HOST page from offset 0x040 on. -/
def rowsHostp : List RegRow := [
  ⟨0x40, 1, 0x0, 1, 0x0, 0x1, 0x0, 0x0, 0x0, 0x0, 0x0, 0x0⟩ /- HOST_CFG -/,
  ⟨0x44, 1, 0x0, 1, 0x0, 0xFFFFFFFF, 0x0, 0x0, 0x0, 0x0, 0x0, 0x0⟩ /- HOST_SUBSYS -/,
  ⟨0x48, 1, 0x0, 1, 0x0, 0x0, 0x0, 0x0, 0x0, 0x0, 0x0, 0x0⟩ /- HOST_STAT -/,
  ⟨0x4C, 1, 0x0, 1, 0x0, 0x0, 0x0, 0x0, 0x0, 0x0, 0x0, 0x2000100⟩ /- HOST_HIF_DEV -/,
  ⟨0x50, 1, 0x0, 1, 0x0, 0xFFFFFFFF, 0x0, 0x0, 0x0, 0x0, 0x0, 0x0⟩ /- HOST_HIF_OFFER -/,
  ⟨0x54, 1, 0x0, 1, 0x0, 0x0, 0x0, 0x0, 0x0, 0x0, 0x0, 0x0⟩ /- HOST_HIF_AGREED -/,
  ⟨0x58, 1, 0x0, 1, 0x0, 0x7F, 0x0, 0x0, 0x0, 0x0, 0x0, 0x40⟩ /- HOST_ADDR_BITS -/,
  ⟨0x80, 1, 0x0, 16, 0x4, 0x8003FFFF, 0x0, 0x0, 0x0, 0x0, 0x0, 0x0⟩ /- HOST_SEG -/,
  ⟨0xC0, 1, 0x0, 1, 0x0, 0x0, 0x0, 0x0, 0x0, 0xFFFFFFFF, 0x0, 0x0⟩ /- HOST_BAR2_ABORT -/,
  ⟨0xC4, 1, 0x0, 1, 0x0, 0x0, 0x0, 0x0, 0x0, 0x0, 0x0, 0x0⟩ /- HOST_BAR2_LAST_LO -/,
  ⟨0xC8, 1, 0x0, 1, 0x0, 0x0, 0x0, 0x0, 0x0, 0x0, 0x0, 0x0⟩ /- HOST_BAR2_LAST_HI -/,
  ⟨0xD0, 1, 0x0, 1, 0x0, 0x0, 0x0, 0x0, 0x0, 0x0, 0x0, 0x0⟩ /- HOST_AER_CE -/,
  ⟨0xD4, 1, 0x0, 1, 0x0, 0x0, 0x0, 0x0, 0x0, 0x0, 0x0, 0x0⟩ /- HOST_AER_UE -/,
  ⟨0x100, 1, 0x0, 1, 0x0, 0x0, 0x0, 0x0, 0x0, 0x0, 0x0, 0x0⟩ /- HOST_RP_STAT -/,
  ⟨0x104, 1, 0x0, 1, 0x0, 0x1, 0x0, 0x2, 0x0, 0x0, 0x0, 0x1⟩ /- HOST_RP_CTRL -/,
  ⟨0x108, 1, 0x0, 1, 0x0, 0xFFFFFFFF, 0x0, 0x0, 0x0, 0x0, 0x0, 0x0⟩ /- HOST_RP_ADDR_LO -/,
  ⟨0x10C, 1, 0x0, 1, 0x0, 0xFFFFFFFF, 0x0, 0x0, 0x0, 0x0, 0x0, 0x0⟩ /- HOST_RP_ADDR_HI -/,
  ⟨0x110, 1, 0x0, 1, 0x0, 0xFFFFFFFF, 0x0, 0x0, 0x0, 0x0, 0x0, 0x0⟩ /- HOST_RP_WDATA -/,
  ⟨0x114, 1, 0x0, 1, 0x0, 0x0, 0x0, 0x0, 0xF000000F, 0x0, 0x0, 0x0⟩ /- HOST_RP_CMD -/,
  ⟨0x118, 1, 0x0, 1, 0x0, 0x0, 0x0, 0x0, 0x0, 0x0, 0x0, 0x0⟩ /- HOST_RP_RES -/,
  ⟨0x11C, 1, 0x0, 1, 0x0, 0x0, 0x0, 0x0, 0x0, 0x0, 0x0, 0x0⟩ /- HOST_RP_RDATA -/,
  ⟨0x120, 1, 0x0, 1, 0x0, 0xFFFFFFFC, 0x0, 0x0, 0x0, 0x0, 0x0, 0x0⟩ /- HOST_RP_MSI_ADDR_LO -/,
  ⟨0x124, 1, 0x0, 1, 0x0, 0xFFFFFFFF, 0x0, 0x0, 0x0, 0x0, 0x0, 0x0⟩ /- HOST_RP_MSI_ADDR_HI -/,
  ⟨0x128, 1, 0x0, 1, 0x0, 0x0, 0x0, 0x0, 0x0, 0x0, 0x0, 0x0⟩ /- HOST_RP_MSI -/]
/-- The registers of the HQ page from offset 0x040 on. -/
def rowsHq : List RegRow := [
  ⟨0x40, 1, 0x0, 1, 0x0, 0x8003FFFF, 0x0, 0x0, 0x0, 0x0, 0x0, 0x0⟩ /- HQ_FW_RING -/,
  ⟨0x44, 1, 0x0, 1, 0x0, 0x0, 0x0, 0x0, 0x0, 0x0, 0x0, 0x0⟩ /- HQ_FW_WR -/,
  ⟨0x48, 1, 0x0, 1, 0x0, 0xFFFFFFFF, 0x0, 0x0, 0x0, 0x0, 0x0, 0x0⟩ /- HQ_FW_RD -/,
  ⟨0x4C, 1, 0x0, 1, 0x0, 0x0, 0x0, 0x0, 0x0, 0xFFFF, 0x0, 0x0⟩ /- HQ_FW_MAX -/,
  ⟨0x50, 1, 0x0, 1, 0x0, 0x0, 0x0, 0x0, 0xFFFFFFFF, 0x0, 0x0, 0x0⟩ /- HQ_FW_CPL_LO -/,
  ⟨0x54, 1, 0x0, 1, 0x0, 0x0, 0x0, 0x0, 0xF0FFFFFF, 0x0, 0x0, 0x0⟩ /- HQ_FW_CPL_HI -/,
  ⟨0x100, 16, 0x40, 1, 0x0, 0x803F0000, 0x0, 0x0, 0x0, 0x0, 0x0, 0x0⟩ /- HQ_Q_CFG -/,
  ⟨0x104, 16, 0x40, 1, 0x0, 0xFFFFFFFF, 0x0, 0x0, 0x0, 0x0, 0x0, 0x0⟩ /- HQ_Q_SIZE -/,
  ⟨0x108, 16, 0x40, 1, 0x0, 0xFFFFFFC0, 0x0, 0x0, 0x0, 0x0, 0x0, 0x0⟩ /- HQ_Q_SQ_LO -/,
  ⟨0x10C, 16, 0x40, 1, 0x0, 0xFFFFFFFF, 0x0, 0x0, 0x0, 0x0, 0x0, 0x0⟩ /- HQ_Q_SQ_HI -/,
  ⟨0x110, 16, 0x40, 1, 0x0, 0xFFFFFFF0, 0x0, 0x0, 0x0, 0x0, 0x0, 0x0⟩ /- HQ_Q_CQ_LO -/,
  ⟨0x114, 16, 0x40, 1, 0x0, 0xFFFFFFFF, 0x0, 0x0, 0x0, 0x0, 0x0, 0x0⟩ /- HQ_Q_CQ_HI -/,
  ⟨0x118, 16, 0x40, 1, 0x0, 0x0, 0x0, 0x0, 0x0, 0x0, 0x0, 0x0⟩ /- HQ_Q_STAT -/,
  ⟨0x11C, 16, 0x40, 1, 0x0, 0x0, 0x0, 0x0, 0x0, 0x0, 0x0, 0x0⟩ /- HQ_Q_FWOUT -/,
  ⟨0x120, 16, 0x40, 1, 0x0, 0x0, 0x0, 0x0, 0x0, 0xFFFFFFFF, 0x0, 0x0⟩ /- HQ_Q_DONE -/,
  ⟨0x800, 16, 0x8, 1, 0x0, 0xFFF, 0x0, 0x0, 0x0, 0x0, 0x0, 0x0⟩ /- HQ_SQ_TAIL -/,
  ⟨0x804, 16, 0x8, 1, 0x0, 0xFFF, 0x0, 0x0, 0x0, 0x0, 0x0, 0x0⟩ /- HQ_CQ_HEAD -/]
/-- The registers of the TIME page from offset 0x040 on. -/
def rowsTime : List RegRow := [
  ⟨0x40, 1, 0x0, 1, 0x0, 0x7, 0x0, 0x0, 0x0, 0x0, 0x0, 0x1⟩ /- TIME_CFG -/,
  ⟨0x44, 1, 0x0, 1, 0x0, 0x1F1F, 0x0, 0x0, 0x0, 0x0, 0x0, 0x1A14⟩ /- TIME_GAIN -/,
  ⟨0x48, 1, 0x0, 1, 0x0, 0xFFFFFFFF, 0x0, 0x0, 0x0, 0x0, 0x0, 0x107D01F4⟩ /- TIME_LOCK -/,
  ⟨0x4C, 1, 0x0, 1, 0x0, 0xFFFFFFFF, 0x0, 0x0, 0x0, 0x0, 0x0, 0x3E8⟩ /- TIME_STEP -/,
  ⟨0x50, 1, 0x0, 1, 0x0, 0x0, 0x0, 0x0, 0x0, 0x0, 0x0, 0x0⟩ /- TIME_NOW_LO -/,
  ⟨0x54, 1, 0x0, 1, 0x0, 0x0, 0x0, 0x0, 0x0, 0x0, 0x0, 0x0⟩ /- TIME_NOW_HI -/,
  ⟨0x58, 1, 0x0, 1, 0x0, 0x0, 0x0, 0x0, 0x0, 0x0, 0x0, 0x0⟩ /- TIME_FREQ -/,
  ⟨0x5C, 1, 0x0, 1, 0x0, 0x0, 0x0, 0x0, 0x0, 0x0, 0x0, 0x0⟩ /- TIME_OFFSET -/,
  ⟨0x60, 1, 0x0, 1, 0x0, 0x0, 0x0, 0x0, 0x0, 0x0, 0x0, 0x0⟩ /- TIME_STAT -/,
  ⟨0x64, 1, 0x0, 1, 0x0, 0xFFFFFFFF, 0x0, 0x0, 0x0, 0x0, 0x0, 0x0⟩ /- TIME_SET_LO -/,
  ⟨0x68, 1, 0x0, 1, 0x0, 0xFFFFFFFF, 0x0, 0x0, 0x0, 0x0, 0x0, 0x0⟩ /- TIME_SET_HI -/,
  ⟨0x6C, 1, 0x0, 1, 0x0, 0x0, 0x0, 0x1, 0x0, 0x0, 0x0, 0x0⟩ /- TIME_CMD -/,
  ⟨0x70, 1, 0x0, 1, 0x0, 0x0, 0x0, 0x0, 0x0, 0xFFFFFFFF, 0x0, 0x0⟩ /- TIME_STEPS -/,
  ⟨0x74, 1, 0x0, 1, 0x0, 0x0, 0x0, 0x0, 0x0, 0x0, 0x0, 0x0⟩ /- TIME_LAST_STEP -/,
  ⟨0x78, 1, 0x0, 1, 0x0, 0x0, 0x0, 0x0, 0x0, 0xFFFFFFFF, 0x0, 0x0⟩ /- TIME_OUTLIER -/,
  ⟨0x80, 1, 0x0, 1, 0x0, 0x0, 0x0, 0x0, 0x0, 0x0, 0x0, 0x0⟩ /- TIME_TRIM -/,
  ⟨0x84, 1, 0x0, 1, 0x0, 0xFFFFFF, 0x0, 0x0, 0x0, 0x0, 0x0, 0x54001⟩ /- TIME_ALIGN -/,
  ⟨0x88, 1, 0x0, 1, 0x0, 0x0, 0x0, 0x0, 0x0, 0x0, 0x0, 0x0⟩ /- TIME_ALIGN_ERR -/,
  ⟨0xA0, 1, 0x0, 6, 0x4, 0xFFFF, 0x0, 0x0, 0x0, 0x0, 0x0, 0x0⟩ /- TIME_ASYM -/,
  ⟨0x100, 1, 0x0, 1, 0x0, 0xFF, 0x0, 0x0, 0x0, 0x0, 0x0, 0x0⟩ /- TIME_ES_EN -/,
  ⟨0x104, 1, 0x0, 1, 0x0, 0xFFFFFFFF, 0x0, 0x0, 0x0, 0x0, 0x0, 0x0⟩ /- TIME_ES_SRC_LO -/,
  ⟨0x108, 1, 0x0, 1, 0x0, 0xFFFFFFFF, 0x0, 0x0, 0x0, 0x0, 0x0, 0x0⟩ /- TIME_ES_SRC_HI -/,
  ⟨0x10C, 1, 0x0, 1, 0x0, 0x0, 0x0, 0x0, 0x0, 0x0, 0x0, 0x0⟩ /- TIME_ES_HEAD_LO -/,
  ⟨0x110, 1, 0x0, 1, 0x0, 0x0, 0x0, 0x0, 0x0, 0x0, 0x0, 0x0⟩ /- TIME_ES_HEAD_HI -/,
  ⟨0x114, 1, 0x0, 1, 0x0, 0x0, 0x0, 0x0, 0x0, 0x0, 0x0, 0x0⟩ /- TIME_ES_HEAD_INFO -/,
  ⟨0x118, 1, 0x0, 1, 0x0, 0x0, 0x0, 0x0, 0x0, 0x0, 0x0, 0x0⟩ /- TIME_ES_LEVEL -/,
  ⟨0x11C, 1, 0x0, 1, 0x0, 0x0, 0x0, 0x0, 0x0, 0x7F, 0x0, 0x0⟩ /- TIME_ES_MAX -/,
  ⟨0x120, 1, 0x0, 1, 0x0, 0x0, 0x0, 0x0, 0x0, 0xFFFFFFFF, 0x0, 0x0⟩ /- TIME_ES_LOST -/,
  ⟨0x200, 4, 0x20, 1, 0x0, 0xE00FFF00, 0x0, 0x0, 0x0, 0x0, 0x0, 0x100⟩ /- PG_CFG -/,
  ⟨0x204, 4, 0x20, 1, 0x0, 0xFFFFFFFF, 0x0, 0x0, 0x0, 0x0, 0x0, 0x0⟩ /- PG_START_LO -/,
  ⟨0x208, 4, 0x20, 1, 0x0, 0xFFFFFFFF, 0x0, 0x0, 0x0, 0x0, 0x0, 0x0⟩ /- PG_START_HI -/,
  ⟨0x20C, 4, 0x20, 1, 0x0, 0xFFFFFFFF, 0x0, 0x0, 0x0, 0x0, 0x0, 0x0⟩ /- PG_PERIOD_LO -/,
  ⟨0x210, 4, 0x20, 1, 0x0, 0xFFFFFFFF, 0x0, 0x0, 0x0, 0x0, 0x0, 0x0⟩ /- PG_PERIOD_HI -/,
  ⟨0x214, 4, 0x20, 1, 0x0, 0xFFFFFFFF, 0x0, 0x0, 0x0, 0x0, 0x0, 0x0⟩ /- PG_COUNT -/,
  ⟨0x218, 4, 0x20, 1, 0x0, 0x0, 0x40000000, 0x0, 0x0, 0x0, 0x0, 0x0⟩ /- PG_STAT -/,
  ⟨0x21C, 4, 0x20, 1, 0x0, 0x0, 0x0, 0x0, 0x0, 0x0, 0x0, 0x0⟩ /- PG_FIRED -/]
/-- The registers of the CAL page from offset 0x040 on. -/
def rowsCal : List RegRow := [
  ⟨0x40, 1, 0x0, 1, 0x0, 0x3F0F001F, 0x0, 0x0, 0x0, 0x0, 0x0, 0x0⟩ /- CAL_RUN_CFG -/,
  ⟨0x44, 1, 0x0, 1, 0x0, 0xFFFF, 0x0, 0x0, 0x0, 0x0, 0x0, 0xFFFF⟩ /- CAL_TG_MASK -/,
  ⟨0x48, 1, 0x0, 1, 0x0, 0x700FF, 0x0, 0x0, 0x0, 0x0, 0x0, 0x0⟩ /- CAL_TIA_SEL -/,
  ⟨0x4C, 1, 0x0, 1, 0x0, 0xFFFFFFFF, 0x0, 0x0, 0x0, 0x0, 0x0, 0x0⟩ /- CAL_DEC_MASK -/,
  ⟨0x50, 1, 0x0, 1, 0x0, 0xFFFF, 0x0, 0x0, 0x0, 0x0, 0x0, 0x2710⟩ /- CAL_RUN_TMO -/,
  ⟨0x54, 1, 0x0, 1, 0x0, 0x7FFFFF, 0x0, 0x0, 0x0, 0x0, 0x0, 0x2710⟩ /- CAL_CYC -/,
  ⟨0x58, 1, 0x0, 1, 0x0, 0x7FFFFF, 0x0, 0x0, 0x0, 0x0, 0x0, 0x9C4⟩ /- CAL_T0 -/,
  ⟨0x5C, 1, 0x0, 1, 0x0, 0xFFF00, 0x0, 0x0, 0x0, 0x0, 0x0, 0xA0500⟩ /- CAL_OUT_CFG -/,
  ⟨0x60, 1, 0x0, 1, 0x0, 0xF0FFFFFF, 0x0, 0x0, 0x0, 0x0, 0x0, 0xA0020028⟩ /- CAL_IN_CFG -/,
  ⟨0x64, 1, 0x0, 1, 0x0, 0xFF, 0x0, 0x0, 0x0, 0x0, 0x0, 0x14⟩ /- CAL_IN_LIM -/,
  ⟨0x68, 1, 0x0, 1, 0x0, 0xFFFFFFFF, 0x0, 0x0, 0x0, 0x0, 0x0, 0xA0608040⟩ /- CAL_TH_CFG -/,
  ⟨0x6C, 1, 0x0, 1, 0x0, 0xFFFFFFFF, 0x0, 0x0, 0x0, 0x0, 0x0, 0xFFFF0000⟩ /- CAL_TH_RANGE -/,
  ⟨0x70, 1, 0x0, 1, 0x0, 0x1FFFFFFF, 0x0, 0x0, 0x0, 0x0, 0x0, 0xEF01000⟩ /- CAL_DEC_CFG -/,
  ⟨0x80, 1, 0x0, 1, 0x0, 0x0, 0x0, 0x7, 0x0, 0x0, 0x0, 0x0⟩ /- CAL_CMD -/,
  ⟨0x84, 1, 0x0, 1, 0x0, 0x0, 0x0, 0x0, 0x0, 0x0, 0x0, 0x20000⟩ /- CAL_STAT -/,
  ⟨0x88, 1, 0x0, 1, 0x0, 0x0, 0x0, 0x0, 0x0, 0x0, 0x0, 0x0⟩ /- CAL_DEC_WAIT -/,
  ⟨0x8C, 1, 0x0, 1, 0x0, 0x0, 0x0, 0x0, 0x0, 0x0, 0x0, 0x0⟩ /- CAL_GEN -/,
  ⟨0x90, 1, 0x0, 1, 0x0, 0xFFFFFFFF, 0x0, 0x0, 0x0, 0x0, 0x0, 0x0⟩ /- CAL_SAVED -/,
  ⟨0x94, 1, 0x0, 1, 0x0, 0x3FF, 0x0, 0x0, 0x0, 0x0, 0x0, 0x0⟩ /- CAL_RES_SEL -/,
  ⟨0x98, 1, 0x0, 1, 0x0, 0x0, 0x0, 0x0, 0x0, 0x0, 0x0, 0x0⟩ /- CAL_RES -/,
  ⟨0x9C, 1, 0x0, 1, 0x0, 0x0, 0x0, 0x0, 0x0, 0x0, 0x0, 0x0⟩ /- CAL_RES_ERR -/,
  ⟨0xA0, 1, 0x0, 1, 0x0, 0x0, 0x0, 0x0, 0x0, 0x0, 0x0, 0x800⟩ /- CAL_RES_SCALE -/,
  ⟨0xA4, 1, 0x0, 1, 0x0, 0x0, 0x0, 0x0, 0x0, 0x0, 0x0, 0x0⟩ /- CAL_RES_TH -/,
  ⟨0xA8, 1, 0x0, 1, 0x0, 0x0, 0x0, 0x0, 0x0, 0x0, 0x0, 0x0⟩ /- CAL_FAIL_COUNT -/,
  ⟨0xAC, 1, 0x0, 1, 0x0, 0x0, 0x0, 0x0, 0x0, 0x0, 0x0, 0x0⟩ /- CAL_DEC_FAIL -/,
  ⟨0xC0, 1, 0x0, 1, 0x0, 0xFF00, 0x0, 0x1, 0x0, 0x0, 0x0, 0x1100⟩ /- CAL_EXP_CTRL -/,
  ⟨0xC4, 1, 0x0, 1, 0x0, 0x0, 0x0, 0x0, 0x0, 0x0, 0x0, 0x0⟩ /- CAL_EXP_DATA -/,
  ⟨0xC8, 1, 0x0, 1, 0x0, 0x0, 0x0, 0x0, 0x0, 0x0, 0x0, 0x0⟩ /- CAL_EXP_STAT -/,
  ⟨0xD0, 1, 0x0, 1, 0x0, 0x0, 0x0, 0x7, 0x0, 0x0, 0x0, 0x0⟩ /- CAL_IMP_CTRL -/,
  ⟨0xD4, 1, 0x0, 1, 0x0, 0x0, 0x0, 0x0, 0xFFFFFFFF, 0x0, 0x0, 0x0⟩ /- CAL_IMP_DATA -/,
  ⟨0xD8, 1, 0x0, 1, 0x0, 0x0, 0x0, 0x0, 0x0, 0x0, 0x0, 0x0⟩ /- CAL_IMP_STAT -/,
  ⟨0x800, 1, 0x0, 256, 0x4, 0x0, 0x0, 0x0, 0x0, 0x0, 0x0, 0x0⟩ /- CAL_TH_IMG -/]
/-- The registers of the PART page from offset 0x040 on. -/
def rowsPart : List RegRow := [
  ⟨0x40, 1, 0x0, 1, 0x0, 0x0, 0x0, 0x0, 0xF03F0000, 0x0, 0x0, 0x0⟩ /- PART_CMD -/,
  ⟨0x44, 1, 0x0, 1, 0x0, 0xFFFFFFFF, 0x0, 0x0, 0x0, 0x0, 0x0, 0x0⟩ /- PART_SHARED_OWNER -/,
  ⟨0x48, 1, 0x0, 1, 0x0, 0x0, 0x0, 0x0, 0x0, 0x0, 0x0, 0x0⟩ /- PART_ISO -/,
  ⟨0x50, 1, 0x0, 1, 0x0, 0x0, 0x0, 0xFFFFFFFF, 0x0, 0x0, 0x0, 0x0⟩ /- PART_RET_QUAD_LO -/,
  ⟨0x54, 1, 0x0, 1, 0x0, 0x0, 0x0, 0xFFFFFFFF, 0x0, 0x0, 0x0, 0x0⟩ /- PART_RET_QUAD_HI -/,
  ⟨0x58, 1, 0x0, 1, 0x0, 0x0, 0x0, 0xFFFFFFFF, 0x0, 0x0, 0x0, 0x0⟩ /- PART_RET_TU_LO -/,
  ⟨0x5C, 1, 0x0, 1, 0x0, 0x0, 0x0, 0xFFFFFFFF, 0x0, 0x0, 0x0, 0x0⟩ /- PART_RET_TU_HI -/,
  ⟨0x60, 1, 0x0, 1, 0x0, 0x0, 0x0, 0xFFFFFFFF, 0x0, 0x0, 0x0, 0x0⟩ /- PART_RET_DX -/,
  ⟨0x64, 1, 0x0, 1, 0x0, 0x0, 0x0, 0xFFFFF, 0x0, 0x0, 0x0, 0x0⟩ /- PART_RET_SY -/,
  ⟨0x68, 1, 0x0, 1, 0x0, 0x0, 0x0, 0x3FFFFFFF, 0x0, 0x0, 0x0, 0x0⟩ /- PART_RET_MISC -/,
  ⟨0x70, 1, 0x0, 1, 0x0, 0xFF, 0x0, 0x0, 0x0, 0x0, 0x0, 0x0⟩ /- PART_TTAG_SEL -/,
  ⟨0x74, 1, 0x0, 1, 0x0, 0xFFFFFFFF, 0x0, 0x0, 0x0, 0x0, 0x0, 0x0⟩ /- PART_TTAG_LO -/,
  ⟨0x78, 1, 0x0, 1, 0x0, 0xFFFFFFFF, 0x0, 0x0, 0x0, 0x0, 0x0, 0x0⟩ /- PART_TTAG_HI -/,
  ⟨0x80, 1, 0x0, 16, 0x8, 0xFFFFFFFF, 0x0, 0x0, 0x0, 0x0, 0x0, 0x0⟩ /- PART_HQ_TAG_LO -/,
  ⟨0x84, 1, 0x0, 16, 0x8, 0xFFFFFFFF, 0x0, 0x0, 0x0, 0x0, 0x0, 0x0⟩ /- PART_HQ_TAG_HI -/,
  ⟨0x200, 64, 0x20, 1, 0x0, 0x80000000, 0x0, 0x0, 0x0, 0x0, 0x0, 0x0⟩ /- PART_P_CFG -/,
  ⟨0x204, 64, 0x20, 1, 0x0, 0xFFFFFFFF, 0x0, 0x0, 0x0, 0x0, 0x0, 0x0⟩ /- PART_P_QUAD_LO -/,
  ⟨0x208, 64, 0x20, 1, 0x0, 0xFFFFFFFF, 0x0, 0x0, 0x0, 0x0, 0x0, 0x0⟩ /- PART_P_QUAD_HI -/,
  ⟨0x20C, 64, 0x20, 1, 0x0, 0xFFFFF, 0x0, 0x0, 0x0, 0x0, 0x0, 0x0⟩ /- PART_P_RES -/,
  ⟨0x210, 64, 0x20, 1, 0x0, 0xFFFFFFFF, 0x0, 0x0, 0x0, 0x0, 0x0, 0x0⟩ /- PART_P_DX -/,
  ⟨0x214, 64, 0x20, 1, 0x0, 0xFFFFFFFF, 0x0, 0x0, 0x0, 0x0, 0x0, 0x0⟩ /- PART_P_TU_LO -/,
  ⟨0x218, 64, 0x20, 1, 0x0, 0xFFFFFFFF, 0x0, 0x0, 0x0, 0x0, 0x0, 0x0⟩ /- PART_P_TU_HI -/,
  ⟨0x21C, 64, 0x20, 1, 0x0, 0x0, 0x0, 0x0, 0x0, 0x0, 0x0, 0x0⟩ /- PART_P_STAT -/]
/-- The registers of the MC page from offset 0x040 on. -/
def rowsMc : List RegRow := [
  ⟨0x40, 1, 0x0, 1, 0x0, 0x0, 0x0, 0x0, 0x0, 0x0, 0x0, 0x1000100⟩ /- MC_ABI -/,
  ⟨0x44, 1, 0x0, 1, 0x0, 0x0, 0x0, 0x0, 0x0, 0x0, 0x0, 0x0⟩ /- MC_ROMID -/,
  ⟨0x48, 1, 0x0, 1, 0x0, 0x0, 0x0, 0x0, 0x0, 0x0, 0x0, 0x0⟩ /- MC_PATCH_STAT -/,
  ⟨0x4C, 1, 0x0, 1, 0x0, 0xFFFFFFFF, 0x0, 0x0, 0x0, 0x0, 0x0, 0x0⟩ /- MC_PATCH_VER -/,
  ⟨0x50, 1, 0x0, 1, 0x0, 0xFFFF, 0x0, 0x0, 0x0, 0x0, 0x0, 0x0⟩ /- MC_DRAIN -/,
  ⟨0x54, 1, 0x0, 1, 0x0, 0x0, 0x0, 0x0, 0x0, 0x0, 0x0, 0x0⟩ /- MC_DRAINED -/,
  ⟨0x58, 1, 0x0, 1, 0x0, 0x0, 0x0, 0x0, 0x0, 0x0, 0x0, 0x0⟩ /- MC_RELEASE_STAT -/,
  ⟨0x5C, 1, 0x0, 1, 0x0, 0x0, 0x0, 0xFFFF, 0x0, 0x0, 0x0, 0x0⟩ /- MC_RELOAD -/,
  ⟨0x60, 1, 0x0, 1, 0x0, 0xC0007FFF, 0x0, 0x0, 0x0, 0x0, 0x0, 0x0⟩ /- MC_PLOAD_ADDR -/,
  ⟨0x64, 1, 0x0, 1, 0x0, 0x0, 0x0, 0x0, 0xFFFFFFFF, 0x0, 0x0, 0x0⟩ /- MC_PLOAD_DATA -/,
  ⟨0x68, 1, 0x0, 1, 0x0, 0xFFFF0000, 0x0, 0x0, 0xFFFF, 0x0, 0x0, 0xFFFF0000⟩ /- MC_PLOAD_FIN -/,
  ⟨0x400, 16, 0x20, 1, 0x0, 0x0, 0x0, 0x0, 0x0, 0x0, 0x0, 0x0⟩ /- MC_SQ_ITER -/,
  ⟨0x404, 16, 0x20, 1, 0x0, 0x0, 0x0, 0x0, 0x0, 0x0, 0x0, 0x0⟩ /- MC_SQ_USTOP -/,
  ⟨0x408, 16, 0x20, 1, 0x0, 0x0, 0x0, 0x0, 0x0, 0x1FFF, 0x0, 0x0⟩ /- MC_SQ_UMAX -/,
  ⟨0x40C, 16, 0x20, 1, 0x0, 0x0, 0x0, 0x0, 0x0, 0x0, 0x0, 0x0⟩ /- MC_SQ_TAP -/,
  ⟨0x410, 16, 0x20, 1, 0x0, 0x0, 0x0, 0x0, 0x0, 0xFFFFFFFF, 0x0, 0x0⟩ /- MC_SQ_CE -/]

/-- The register rows of a kind of page, the common header first. -/
def regRows : PageKind → List RegRow
  | .dev => headerRows ++ rowsDev
  | .fuse => headerRows ++ rowsFuse
  | .clk => headerRows ++ rowsClk
  | .rst => headerRows ++ rowsRst
  | .pwr => headerRows ++ rowsPwr
  | .seq => headerRows ++ rowsSeq
  | .tg => headerRows ++ rowsTg
  | .pgr => headerRows ++ rowsPgr
  | .vc => headerRows ++ rowsVc
  | .cu => headerRows ++ rowsCu
  | .tia => headerRows ++ rowsTia
  | .dec => headerRows ++ rowsDec
  | .syn => headerRows ++ rowsSyn
  | .sched => headerRows ++ rowsSched
  | .hic => headerRows ++ rowsHic
  | .trace => headerRows ++ rowsTrace
  | .red => headerRows ++ rowsRed
  | .hart => headerRows ++ rowsHart
  | .flt => headerRows ++ rowsFlt
  | .dram => headerRows ++ rowsDram
  | .alloc => headerRows ++ rowsAlloc
  | .dma => headerRows ++ rowsDma
  | .fq => headerRows ++ rowsFq
  | .fp => headerRows ++ rowsFp
  | .fab => headerRows ++ rowsFab
  | .hostp => headerRows ++ rowsHostp
  | .hq => headerRows ++ rowsHq
  | .time => headerRows ++ rowsTime
  | .cal => headerRows ++ rowsCal
  | .part => headerRows ++ rowsPart
  | .mc => headerRows ++ rowsMc

/-- Does the row hold the register at this offset of its page? -/
def RegRow.covers (r : RegRow) (o : Nat) : Bool :=
  r.off ≤ o &&
    (let d := o - r.off
     if r.n1 ≤ 1 then (if r.n2 ≤ 1 then d == 0 else d % r.s2 == 0 && d / r.s2 < r.n2)
     else
       d / r.s1 < r.n1 &&
         (let e := d % r.s1
          if r.n2 ≤ 1 then e == 0 else e % r.s2 == 0 && e / r.s2 < r.n2))

/-- The row of a register, by kind of page and offset in the page; none where the offset is RSV. -/
def findRow (k : PageKind) (o : Nat) : Option RegRow := (regRows k).find? (fun r => r.covers o)

/-- The page that an offset of the window lies in: its row, the number of the page in the row, the offset in the page. -/
def pageAt (off : Nat) : Option (PageRow × Nat × Nat) :=
  match pageRows.find? (fun r => r.base ≤ off && off < r.base + 0x1000 * r.count) with
  | some r => some (r, (off - r.base) / 0x1000, (off - r.base) % 0x1000)
  | none => none

/-- The ordinal of the page that holds a window offset (12, before R313). -/
def ordinalOf (off : Nat) : Option Nat := (pageAt off).map (fun p => p.1.ordinal + p.2.1)

/-- The first offset of the page of an ordinal. -/
def pageOfOrdinal (o : Nat) : Option Nat :=
  (pageRows.find? (fun r => r.ordinal ≤ o && o < r.ordinal + r.count)).map
    (fun r => r.base + 0x1000 * (o - r.ordinal))

/-- Pages on which SHADOWED reads 1 (02, xx_CAP). -/
def shadowedKind : PageKind → Bool
  | .seq => true | .tg => true | .dec => true | .syn => true | _ => false

/-- Pages on which OWNED reads 1: the pages whose owner the PART page sets (R470) and every other page but PART itself,
whose OWNED reads 0 (19). DEDUCED, assumption 10. -/
def ownedKind : PageKind → Bool
  | .part => false | _ => true

/-- xx_CAP of page `n` of a kind: SHADOWED, TABLES, INJ and OWNED, and the block's own bits (02, xx_CAP; 20, DEV_CAP; 10, bit 0 of
the SYN pages). -/
def capWord (k : PageKind) (n : Nat) (ordinal : Nat) (grade : Nat) : Nat :=
  (if shadowedKind k then 2 ^ 31 else 0) + (if shadowedKind k || k == .mc then 2 ^ 30 else 0)
    + (if faultBits k != 0 then 2 ^ 29 else 0) + (if ownedKind k then 2 ^ 28 else 0)
    + (if k == .dev then grade % 16
      else if k == .syn then ((Config.blockCap ordinal).toNat &&& 0xFFFFFFE) + (if n < 4 then 1 else 0)
      else (Config.blockCap ordinal).toNat)

/-- The reset value of a register that the tables give as a rule and not as a number. -/
def resetSpecial (k : PageKind) (n o : Nat) : Option Nat :=
  match k with
  | .seq => if o == 0x44 then some n else none
  | .tg => if o == 0x4C then some (n * 2 ^ 28 + n * 2 ^ 24) else none
  | .cu => if o == 0x40 then some n else none
  | .vc => if o == 0x400 then some 1 else none
  | .mc => if o == 0x44 then some Config.romId.toNat else none
  | .dec => if 0x100 ≤ o && o < 0x900 && (o - 0x100) % 0x100 == 4
      then some ((o - 0x100) / 0x100 * 2 ^ 20 + 2 ^ 8 + 2) else none
  | .part => if o == 0x44 then some 0x80000000 else none
  | .rst => if o == 0x40 then some 0x10000000 else none
  | _ => none

/-- The reset value of the register at a window offset (R52 and the register tables). -/
def regReset (off : Nat) : Word :=
  match pageAt off with
  | none => 0
  | some (r, n, o) =>
    if o == 0 then BitVec.ofNat 32 (r.type * 2 ^ 24 + n * 2 ^ 16 + 0x100)
    else
      match resetSpecial r.kind n o with
      | some v => BitVec.ofNat 32 v
      | none =>
        match findRow r.kind o with
        | some row => BitVec.ofNat 32 row.reset
        | none => 0

end Sys2Proof.Machine
end

