-- ==== Sys2Proof/Machine/State.lean ====
section
/-! DEFINITION. The state of the part as plain data: the register window, the tables, DRAM, and the state behind the
registers of every block; the state right after reset; the reasons a step can stop. -/

namespace Sys2Proof.Machine

open Sys2Proof

/-- Faults of a step: the model stops on none. `idle` is raised by no meaning; it is kept so that the type is inhabited
(safe). -/
inductive Fault where
  | idle
  deriving DecidableEq, Repr

/-- Refusals of a step. `notModelled` is the answer of `exec` for a command that has no meaning yet (safe). -/
inductive Refusal where
  | notModelled (mnemonic : String)
  deriving DecidableEq, Repr

/-! ### Fuses, sleep, pins, test access port, SMBus, QSPI (20, 21) -/

/-- The fuse fields of R491. `aat` holds the four masks in the order MGMT, HOST, HART, FABRIC; `blown0` and `blown1` say
that the SECDED fields CKEY_HASH0 and CKEY_HASH1 are written. -/
structure Fuses where
  lifecycle : BitVec 3
  uid : BitVec 64
  grade : BitVec 4
  moscTrim : BitVec 8
  vkeyHash : BitVec 384
  ckeyHash0 : BitVec 384
  ckeyHash1 : BitVec 384
  blown0 : Bool
  blown1 : Bool
  revoke : BitVec 2
  devkeyWrap : BitVec 320
  debugLock : Bool
  aat : List (BitVec 32)
  iso : Bool
  deriving DecidableEq, Repr

/-- The fuses of the model's part (assumption 3): LIFECYCLE PROVISIONED, GRADE 1 (R3), the rest unblown. -/
def Fuses.shipped : Fuses :=
  { lifecycle := 1, uid := 0, grade := 1, moscTrim := 0, vkeyHash := 0, ckeyHash0 := 0, ckeyHash1 := 0, blown0 := false,
    blown1 := false, revoke := 0, devkeyWrap := 0, debugLock := false, aat := [0, 0, 0, 0], iso := false }

/-- A sleep entry in progress (R494): the mode requested (0 none), the steps done (1 drain in progress, 3 ports and DRAM
asleep), and whether the clocks are gated. -/
structure Sleep where
  target : Nat
  steps : Nat
  gated : Bool
  deriving DecidableEq, Repr

/-- The test access port (R527 to R530): the instruction in force, what the boundary cells do to the balls (0 nothing, 1
EXTEST, 2 CLAMP, 3 HIGHZ), the cells, the balls captured, the bits last shifted out, the fuse address, the program in
progress and its RESULT, the RESULT shown, the staged words of a SECDED field, the bypass bit, the latest DMI update. -/
structure Tap where
  ir : BitVec 8
  drive : Nat
  cells : List Bool
  captured : List Bool
  out : BitVec 64
  addr : BitVec 16
  busy : Bool
  pendResult : BitVec 3
  result : BitVec 3
  staged : List (Nat × Word)
  bypass : Bool
  dmi : BitVec 41
  deriving DecidableEq, Repr

/-- The port after Test-Logic-Reset (R527), with IDCODE selected. -/
def Tap.init : Tap :=
  { ir := 2, drive := 0, cells := [], captured := [], out := 0, addr := 0, busy := false, pendResult := 0, result := 0,
    staged := [], bypass := false, dmi := 0 }

/-- Device state behind DEV, FUSE, CLK, RST and PWR: pin levels, rails in range, the 10 µs of a chip reset, fuses and their
shadow, sleep, boot, test port, SMBus, QSPI. `trigPulse` lists the timed pulses in force on TRIG_OUT as (pin, source),
`syncPulse` the DCLK left on SYNC_OUT. -/
structure Dev where
  pwrgd : Bool
  rstn : Bool
  rails : BitVec 7
  chipReset : Bool
  fuses : Fuses
  shadow : Fuses
  sleep : Sleep
  keyLocked : Bool
  booted : Bool
  trigPulse : List (Nat × PulseSource)
  syncPulse : Nat
  tap : Tap
  smbus : List Byte
  qspi : Option QspiCommand
  deriving DecidableEq, Repr

/-- The device right after reset: power good, every rail in range, RST_N high (assumption 2). -/
def Dev.init : Dev :=
  { pwrgd := true, rstn := true, rails := 0x7F, chipReset := false, fuses := Fuses.shipped, shadow := Fuses.shipped,
    sleep := ⟨0, 0, false⟩, keyLocked := false, booted := false, trigPulse := [], syncPulse := 0, tap := Tap.init,
    smbus := [], qspi := none }

/-! ### Interrupts and faults (12) -/

/-- A fault on its way to Monel (R323): its source, the bit of xx_FLT, whether injected, its native class. -/
structure FaultRec where
  src : Nat
  bit : Nat
  inj : Bool
  native : Nat
  deriving DecidableEq, Repr

/-- Monel's state behind the FLT page: faults waiting to be taken, the source configurations (FLT_SRC_CFG), open classes
and counts, the pages whose own reset fence is up, the pending CHIP_RESET reaction, faults
taken since the log was cleared, whether a loss was seen since it was last emptied, the first kick, the DCLK of the latest
kick. -/
structure Monel where
  waiting : List FaultRec
  cfg : List (Nat × Word)
  openClass : List (Nat × Nat)
  count : List (Nat × Word)
  fences : List Nat
  chipReset : Option Nat
  taken : Nat
  lossSeen : Bool
  kicked : Bool
  kickAt : Nat
  deriving DecidableEq, Repr

/-- Monel right after reset. -/
def Monel.init : Monel :=
  { waiting := [], cfg := [], openClass := [], count := [], fences := [], chipReset := none, taken := 0,
    lossSeen := false, kicked := false, kickAt := 0 }

/-- One entry of the MSI-X table (R322, R429). -/
structure MsixEntry where
  addr : BitVec 64
  data : Word
  masked : Bool
  deriving DecidableEq, Repr

/-- The entry right after reset (assumption 7). -/
def MsixEntry.init : MsixEntry := ⟨0, 0, true⟩

/-- The interrupt controller's state behind the HIC page: configuration, binding and mask of each source, nesting stacks
(top first), hold-offs running, and the MSI-X table. -/
structure Hic where
  cfg : List (Nat × Word)
  bind : List (Nat × Word)
  mask : List (Nat × Word)
  stack : List (Nat × List (Nat × Nat))
  held : List (Nat × Bool)
  msix : List (Nat × MsixEntry)
  deriving DecidableEq, Repr

/-- The controller right after reset (R313). -/
def Hic.init : Hic := { cfg := [], bind := [], mask := [], stack := [], held := [], msix := [] }

/-! ### Harts, scheduler, Solder (11) -/

/-- The states of a task (R285). -/
inductive TaskState where
  | idle | waiting | ready | running
  deriving DecidableEq, Repr

/-- A task (11): flag word, wait mask, mode ALL, priority, state, affinity, the hart or unit that runs it, the deadline of
its wait, whether its timeout made it ready, the DCLK at which it became READY. -/
structure Task where
  f : Word
  m : Word
  all : Bool
  prio : Nat
  st : TaskState
  aff : Nat
  unit : Nat
  deadline : Option (BitVec 64)
  timedOut : Bool
  readyAt : Nat
  deriving DecidableEq, Repr

/-- A task after reset (R285). -/
def Task.init : Task :=
  { f := 0, m := 0, all := false, prio := 0, st := .idle, aff := 0, unit := 0, deadline := none, timedOut := false,
    readyAt := 0 }

/-- The scheduler's and Solder's state behind SCHED, RED and TRACE. A task's key is its thread number, or 1,024 plus its
node number; `ready` lists the READY tasks in the order in which they became so. `lostS` and `lostP` are the records lost
since the latest LOST record of each stream; `desc` the node descriptors read at dispatch, by execution unit. -/
structure Sched where
  tasks : List (Nat × Task)
  ready : List Nat
  routes : List (Nat × Word)
  nodeStat : List (Nat × Word)
  nodeRes : List (Nat × BitVec 64)
  lostS : Nat
  lostP : Nat
  desc : List (Nat × List Byte)
  deriving DecidableEq, Repr

/-- The scheduler right after reset: every task IDLE. -/
def Sched.init : Sched :=
  { tasks := [], ready := [], routes := [], nodeStat := [], nodeRes := [], lostS := 0, lostP := 0, desc := [] }

/-- A cached line of 64 bytes (R280 to R284): its address, its data, whether it holds bytes not yet in DRAM. -/
structure Line where
  addr : Nat
  bytes : List Byte
  dirty : Bool
  deriving DecidableEq, Repr

/-- The architectural state of a hart (R274, R277, R279) or of MGMT: the program counter, x1 to x31, the privilege, the
machine CSRs, the load reservation, WFI, NMI pending, the lines of its L1D and of its L1I. -/
structure Hart where
  pc : BitVec 64
  x : List (Nat × BitVec 64)
  machine : Bool
  mstatus : BitVec 64
  mie : BitVec 64
  mtvec : BitVec 64
  mepc : BitVec 64
  mcause : BitVec 64
  mtval : BitVec 64
  mscratch : BitVec 64
  mcounteren : BitVec 64
  menvcfg : BitVec 64
  mcountinhibit : BitVec 64
  pmpcfg : List (Nat × BitVec 8)
  pmpaddr : List (Nat × BitVec 64)
  mcycle : BitVec 64
  minstret : BitVec 64
  resv : Option Nat
  nmi : Bool
  wfi : Bool
  l1 : List Line
  l1i : List Line
  deriving DecidableEq, Repr

/-- A hart held in reset (assumption 11): what the spec and the RISC-V profile leave open is 0; machine mode. -/
def Hart.init : Hart :=
  { pc := 0, x := [], machine := true, mstatus := 0, mie := 0, mtvec := 0, mepc := 0, mcause := 0, mtval := 0,
    mscratch := 0, mcounteren := 0, menvcfg := 0, mcountinhibit := 0, pmpcfg := [], pmpaddr := [], mcycle := 0,
    minstret := 0, resv := none, nmi := false, wfi := false, l1 := [], l1i := [] }

/-- The processor side: the harts (0 to 7) and MGMT (8), the lines of L2, the SRAM of MGMT, and MGMT_DWIN (20). -/
structure Cpu where
  harts : List (Nat × Hart)
  l2 : List Line
  sram : List (Nat × Byte)
  dwin : Word
  deriving DecidableEq, Repr

/-- The processors right after reset (assumptions 8 and 11). -/
def Cpu.init : Cpu := { harts := [], l2 := [], sram := [], dwin := 0 }

/-! ### DRAM and frames (15) -/

/-- The state of a frame (R400). -/
inductive FrameState where
  | free | allocated | retiring | retired
  deriving DecidableEq, Repr

/-- An entry of the frame table (R400): state, pool, owner word. -/
structure Frame where
  st : FrameState
  pool : Nat
  owner : Word
  deriving DecidableEq, Repr

/-- A FREE frame. -/
def Frame.init : Frame := ⟨.free, 0, 0⟩

/-- DRAM and the allocator behind DRAM and ALLOC: the bytes that differ from 0, the frame table, the retired frames in
order, delay settings written and in force (keyed by channel, rank, kind and lane), sweep results and bit errors per lane,
component mode registers, the training operation in progress per channel, the channels whose contents and settings are
retained, the row-hammer trackers (16 entries of row and count per bank), and the frame command written and not yet
served. -/
structure Dram where
  mem : List Host.Cell
  frames : List (Nat × Frame)
  retired : List Nat
  dly : List (Nat × Nat)
  dlyAct : List (Nat × Nat)
  trnRes : List (Nat × Word)
  trnErr : List (Nat × Word)
  mr : List (Nat × Nat)
  trnOp : List (Nat × Nat)
  kept : List (Nat × Bool)
  rh : List (Nat × List (Nat × Nat))
  cmd : Option Word
  deriving DecidableEq, Repr

/-- DRAM right after reset: nothing listed. -/
def Dram.init : Dram :=
  { mem := [], frames := [], retired := [], dly := [], dlyAct := [], trnRes := [], trnErr := [], mr := [], trnOp := [],
    kept := [], rh := [], cmd := none }

/-! ### Invar time (14) -/

/-- An entry of the event-stamp queue (R384). -/
structure EsEntry where
  stamp : BitVec 64
  chan : Nat
  count : Nat
  deriving DecidableEq, Repr

/-- A time exchange in progress on a port (R364): this part's departure stamp with its DCLK, and its arrival stamp. -/
structure Exchange where
  depart : BitVec 64
  departDclk : Nat
  arrive : Option (BitVec 64)
  deriving DecidableEq, Repr

/-- The timebase behind TIME: the counter in units of 2^-32 ns modulo 2^88 (R368, R369), the copy of R29, TCNT and its epoch
(R226, R482), the correction y and the P term, trim and target in ps, the accepted exchanges in a row within and outside the
lock limits, the offset kept from a step and its DCLK, outliers in a row and the reference delay per port, exchanges in
progress, whether ACQUIRE has set a target, alignment sums, the event-stamp queue and counts, each pulse generator's next
pulse. Offsets are in units of 1/64,000 ns. -/
structure Time where
  ctr : BitVec 88
  copy : BitVec 64
  tcnt : BitVec 56
  epoch : BitVec 8
  y : Int
  pterm : Int
  trim : Int
  target : Int
  inLock : Nat
  outLock : Nat
  stepBase : Option (Int × Nat)
  outliers : List (Nat × Nat)
  refDelay : List (Nat × Option Int)
  exch : List (Nat × Option Exchange)
  alignSet : Bool
  avgSum : Int
  avgCount : Nat
  avgIn : Nat
  avgOut : Nat
  queue : List EsEntry
  esCount : List (Nat × Nat)
  pgNext : List (Nat × Nat)
  deriving DecidableEq, Repr

/-- The timebase right after reset. -/
def Time.init : Time :=
  { ctr := 0, copy := 0, tcnt := 0, epoch := 0, y := 0, pterm := 0, trim := 0, target := 0, inLock := 0, outLock := 0,
    stepBase := none, outliers := [], refDelay := [], exch := [], alignSet := false, avgSum := 0, avgCount := 0,
    avgIn := 0, avgOut := 0, queue := [], esCount := [], pgNext := [] }

/-- The state of partitions behind PART: aborts requested and not yet sampled, aborts sampled and waiting for their block's end, contexts found corrupted, the
64-bit tags of threads (R471). -/
structure Part where
  wanted : List Nat
  aborting : List Nat
  corrupt : List Nat
  ttag : List (Nat × BitVec 64)
  deriving DecidableEq, Repr

/-- The partitions right after reset. -/
def Part.init : Part := { wanted := [], aborting := [], corrupt := [], ttag := [] }

/-! ### Hardware queues and the DMA mover (16) -/

/-- A hardware queue FQk (R417 to R423): the words of complete items, oldest first, each with its header mark; the words left
of each complete item; the words that have arrived of the open item with its LEN and the agent whose header opened it; the
last word taken; the LO half pushed, with its agent. -/
structure Queue where
  words : List (BitVec 64 × Bool)
  items : List Nat
  arrived : List (BitVec 64)
  openLen : Option Nat
  opener : Nat
  last : BitVec 64
  lo : Option (Nat × Word)
  deriving DecidableEq, Repr

/-- A queue that holds nothing. -/
def Queue.init : Queue :=
  { words := [], items := [], arrived := [], openLen := none, opener := 0, last := 0, lo := none }

/-- The DMA mover (R414): the channel whose burst is in progress with the beats left to it, and the channel last chosen at
each urgency and priority. -/
structure Mover where
  cur : Option Nat
  left : Nat
  chosen : List (Nat × Nat)
  deriving DecidableEq, Repr

/-- The mover at rest. -/
def Mover.init : Mover := { cur := none, left := 0, chosen := [] }

/-! ### Sequencers and micro-engines (03, 04) -/

/-- What the SENT decoder of a capture unit is set to by the SENTRX under way: pins by port, CRCM, PAUSE, ESM, NIBBLES,
FRAMES, TICK_CYC, the address of the expected frames (0 none), the first
cycle. -/
structure SentSetup where
  pins : List Nat
  crcm : Nat
  pause : Bool
  esm : Bool
  nibbles : Nat
  frames : Nat
  tick : Nat
  expect : Nat
  start : Nat
  deriving DecidableEq, Repr

/-- An effect of an instruction that takes place at the first cycle of a block (R74): a flag operation, a change of the
capture kinds, a mark, the entry of a MATCH or of a WAIT, a MATCH or WAIT that emits nothing because TIMEOUT is 0, the start
of an iterating instruction, the start of a SENTRX, a SENTRX that emits nothing. -/
inductive SeqEffect where
  | flags (op : Nat) (mask : BitVec 16)
  | capture (on : Bool) (kind units : Nat)
  | mark (id : Word)
  | matchEntry
  | matchZero (pc : Nat)
  | waitEntry
  | waitZero
  | iterStart
  | sentStart (unit : Nat) (g : SentSetup)
  | sentShort (unit : Nat) (g : SentSetup)
  deriving DecidableEq, Repr

/-- What follows the emissions of a block: fixed exits (which were taken when the descriptor was built), conditional ones, the
end of the pattern, an instruction that the micro-engine or a shipped routine ends. -/
inductive ExitKind where
  | fixed
  | jumpc (cond : Byte) (target : Nat)
  | matches (timeout : Nat)
  | waits (cond : Byte) (noTimeout : Bool) (timeout : Nat)
  | sentRx (frames timeout : Nat)
  | halts
  deriving DecidableEq, Repr

/-- An overlay slot (R118): kind, gang pin, the three codes, the first address of a stream and the end of the block data, the
number of the OVL that configured it, the queued words, how much of the stream or of the first word is used (bits, pairs,
cycles), and whether the slot is in underrun. -/
structure Slot where
  kind : Nat
  pin : Nat
  code0 : Nat
  code1 : Nat
  codex : Nat
  addr : Nat
  stop : Nat
  tag : Nat
  queue : List Word
  used : Nat
  under : Bool
  deriving DecidableEq, Repr

/-- A slot that is OFF. -/
def Slot.off : Slot := ⟨0, 0, 0, 0, 0, 0, 0, 0, [], 0, false⟩

/-- The pulses of a TAP instruction (R128 to R130): pins of the ports, CODES, the TMS values of the walk in, the pulses of
the body (shifted bits, or dwell with TMS `fill`), the walk out, TMS after the last pulse, the streams of TDI bits and of
TDO pairs, whether TDO is compared, and the state reached. -/
structure TapGen where
  pins : List Nat
  codes : Nat
  lead : List Bool
  body : Nat
  shift : Bool
  fill : Bool
  tail : List Bool
  rest : Bool
  tdi : Nat
  tdo : Nat
  cmp : Bool
  state : Nat
  deriving DecidableEq, Repr

/-- The codes that a shipped routine gives to pins (R126): a TAP instruction, SENTTX with its runs of level and cycles, SENTRX
with the code that samples. -/
inductive Gen where
  | tap (g : TapGen)
  | sentTx (pins : List Nat) (codes : Nat) (runs : List (Bool × Nat))
  | sentRx (pins : List Nat) (codes : Nat)
  deriving DecidableEq, Repr

/-- A block descriptor: the instruction, its exit, the emissions of a fixed exit, the block as its record or the DESC specials
give it, overlay slots, a shipped routine's codes, what takes place at its first cycle and at its end, the depths of the loop
and call stacks from its first cycle and after its exit, the loops popped at its exit, whether its emissions are iterations
(R116). -/
structure Desc where
  pc : Nat
  exit : ExitKind
  reps : Nat
  side : Bool
  holdSafe : Bool
  enc : Nat
  len : Nat
  base : Nat
  size : Nat
  repBase : Bool
  slots : List Slot
  gen : Option Gen
  effects : List SeqEffect
  signals : List (Nat × Nat)
  depth0 : Nat × Nat
  depth1 : Nat × Nat
  pops : List Nat
  iterates : Bool
  deriving DecidableEq, Repr

/-- The micro-engine of a sequencer (R106 to R117): whether a routine runs, its micro-address, the U registers that have been
written since the start (the others are undefined: free values number `seed` on), the condition bits, the micro-call stack,
the micro-cycles of the pass, the record and the
size of its block data, the AGAIN address and ITER flag of its dispatch entry, the DESC specials, the
slots as configured and the OVLs executed so far, the end of the block data, the effects waiting for the next EMITD. -/
structure Micro where
  active : Bool
  upc : Nat
  u : List (Nat × Word)
  seed : Nat
  z : Bool
  n : Bool
  c : Bool
  stack : List Nat
  count : Nat
  pc : Nat
  operands : BitVec 56
  len : Nat
  size : Nat
  base : Nat
  again : Nat
  iterating : Bool
  generator : Bool
  iter : Nat
  descLen : Word
  descLo : Word
  descHi : Word
  descEnc : Word
  slots : List Slot
  effects : List SeqEffect
  signals : List (Nat × Nat)
  holdSafe : Bool
  ovls : Nat
  stop : Nat
  deriving DecidableEq, Repr

/-- A micro-engine at rest. -/
def Micro.init : Micro :=
  { active := false, upc := 0, u := [], seed := 0, z := false, n := false, c := false, stack := [], count := 0, pc := 0,
    operands := 0, len := 0, size := 0, base := 0, again := 0, iterating := false, generator := false, iter := 0, descLen := 0,
    descLo := 0, descHi := 0, descEnc := 0, slots := [], effects := [], signals := [], holdSafe := false, ovls := 0, stop := 0 }

/-- The control store of a sequencer beside its ROM (R104, R111): patch RAM, the dispatch words that differ from the ROM's
(key opcode × 2 + word), the traps (R109), and whether a reload has failed (R124). -/
structure Store where
  patch : List (Nat × Word)
  dispatch : List (Nat × Word)
  traps : List (Nat × Word)
  bad : Bool
  deriving DecidableEq, Repr

/-- A control store with nothing loaded. -/
def Store.init : Store := { patch := [], dispatch := [], traps := [], bad := false }

/-- A strobe enqueued and not yet sampled (R149, R150): index, cycle, start and end on the gang's time line in ps, window or
edge strobe, EXPECT. -/
structure Strobe where
  idx : Nat
  cycle : Nat
  t0 : Nat
  t1 : Nat
  window : Bool
  expect : Nat
  deriving DecidableEq, Repr

/-- An edge enqueued and not yet placed (R147): time, cycle, index, level. -/
structure Edge where
  time : Nat
  cycle : Nat
  idx : Nat
  level : Bool
  deriving DecidableEq, Repr

/-- The Electrum lines of a pin channel: the levels of DRV and DEN, the time of the last edge placed on each, the edges and
strobes enqueued, the start and end of the strobes taken that may still be open. -/
structure Pin where
  drv : Bool
  den : Bool
  drvLast : Option Nat
  denLast : Option Nat
  drvQ : List Edge
  denQ : List Edge
  strobes : List Strobe
  taken : List (Nat × Nat)
  deriving DecidableEq, Repr

/-- A pin in the safe state (R16). -/
def Pin.safe : Pin :=
  { drv := false, den := false, drvLast := none, denLast := none, drvQ := [], denQ := [], strobes := [], taken := [] }

/-- A result on the condition path (R85): the pin channel, strobe, cycle, the mark of its MATCH repetition (0 outside a MATCH),
EXPECT, its strobe time in ps; what the strobe gave (fail, and the sample if valid), none until it is sampled; `remote` marks
the COND of the other span members for the block that ends with that cycle (R360). -/
structure Flight where
  pin : Nat
  idx : Nat
  cycle : Nat
  rep : Nat
  expect : Nat
  time : Nat
  res : Option (Bool × Option (Bool × Bool))
  remote : Bool
  deriving DecidableEq, Repr

/-- A repetition of the MATCH under way (R88): its mark (the number of its first cycle, plus 1), whether all its cycles have
started, and the partitions with a failed result. -/
structure MatchRep where
  rep : Nat
  full : Bool
  failed : List Nat
  deriving DecidableEq, Repr

/-- A sequencer. `next` is the address of the next record to dispatch; `loops` (address, remaining, call depth) and `calls`
are the stacks, top first; `iterate` says that the next entry is an iteration entry of a LOOP. `carry` are effects of
skipped instructions that travel with the next block. `vec` counts the vectors of the emission that have started, `rep` its
number, `unit` the cycles of the pause or hold unit. `dp` says that the decision point of the emission has passed, `udp` that of the unit, `flagsAt`
are the flags at the latest block start,
`openExit` that a conditional exit dispatched last has not been taken, `ends` that a MATCH, WAIT or SENTRX ends after this
emission. `sampled` are the pause, resume and abort sampled; `present` that a hold unit found its lines. `fault` is a
contained fault reported and `late` the cause of a stop at the end of the block or unit (a missed release, a STALL notice); `stop` the cause of a stop
found at dispatch. `acc` are the condition accumulators, cleared from cycle `accFrom` on. `clock` is the start of the next
cycle on the time line, `lastStart` that of the latest one, `repStart` the number of the first cycle of the emission. `stall`
is the line that an open stall lacks. `sends` are blocks whose COND has not been sent (last cycle, reference time, the mark of a
MATCH repetition or 0, its partitions with a failed result), `firstMtos` and `lastMtos` the
MATCH timeouts that travel with the first cycle of the block and with the last one (partition, address, repetitions). -/
structure Seq where
  next : Nat
  loops : List (Nat × Nat × Nat)
  calls : List Nat
  iterate : Bool
  carry : List SeqEffect
  streaming : Option Desc
  queued : Option Desc
  vec : Nat
  rep : Nat
  unit : Nat
  hold : Nat
  stall : Option Nat
  dp : Bool
  udp : Bool
  flagsAt : Nat
  openExit : Bool
  ends : Bool
  sampled : Bool × Bool × Bool
  present : Bool
  fault : Option Nat
  late : Option Nat
  stop : Option Nat
  acc : Nat
  accFrom : Nat
  heldParts : Nat
  mreps : List MatchRep
  flight : List Flight
  refTime : Nat
  first : List SeqEffect
  selPeriod : Nat
  selTs : Nat
  source : Nat
  skipTp : Bool
  repStart : Nat
  lastStart : Nat
  clock : Nat
  startAt : BitVec 64
  syncArmed : Bool
  trigArmed : Bool
  ord : Nat
  micro : Micro
  store : Store
  sends : List (Nat × Nat × Nat × List Nat)
  firstMtos : List (Nat × Nat × Nat)
  lastMtos : List (Nat × Nat × Nat)
  deriving DecidableEq, Repr

/-- A sequencer at rest. -/
def Seq.init : Seq :=
  { next := 0, loops := [], calls := [], iterate := false, carry := [], streaming := none, queued := none, vec := 0,
    rep := 0, unit := 0, hold := 0, stall := none, dp := false, udp := false, flagsAt := 0, openExit := false, ends := false,
    sampled := (false, false, false), present := false, fault := none, late := none, stop := none, acc := 0,
    accFrom := 0, heldParts := 0, mreps := [], flight := [], refTime := 0, first := [], selPeriod := 0, selTs := 0,
    source := 0, skipTp := false, repStart := 0, lastStart := 0, clock := 0, startAt := 0, syncArmed := false, trigArmed := false,
    ord := 0, micro := Micro.init, store := Store.init, sends := [], firstMtos := [], lastMtos := [] }

/-- A sideband frame in flight (R163): whether Constantan sent it, WR, CHIP, ADDR, WDATA, and whether it is the repeat. -/
structure SbFrame where
  cal : Bool
  wr : Bool
  chip : Nat
  addr : Nat
  wdata : Nat
  again : Bool
  deriving DecidableEq, Repr

/-- The state of a timing group behind its page: the frame in flight, the responses that an injection still inverts, the
period index and timing set of the most recent cycle since the start. -/
structure Tg where
  frame : Option SbFrame
  inverts : Nat
  prev : Option (Nat × Nat)
  deriving DecidableEq, Repr

/-- A timing group at rest. -/
def Tg.init : Tg := { frame := none, inverts := 0, prev := none }

/-! ### Pager and vector cache (06) -/

/-- A line in a sequencer's slices (R179): its number (address / 4096) and its 4 KiB. -/
structure CacheLine where
  line : Nat
  bytes : List Byte
  deriving DecidableEq, Repr

/-- A prediction of the walker (R185): the address of the record, the emissions and the outcome predicted. -/
structure Guess where
  pc : Nat
  reps : Nat
  taken : Bool
  deriving DecidableEq, Repr

/-- The open pin candidate (R188): the address of its LOOP, the ordinal at its first record, its distinct lines. -/
structure Candidate where
  loop : Nat
  ord : Nat
  lines : List Nat
  deriving DecidableEq, Repr

/-- The walker and cache of a sequencer: whether it has begun, whether it has stopped, its position, ordinal and stacks, whether
it arrives by an iteration of a LOOP, the open candidate, predictions not yet met, the history table (index to tag, emissions,
outcome), the stamps of the lines requested (plus 1), the lines present, the lines that loops pin (by the address of the LOOP),
the lines discarded by a first double-bit error, with a mark for an injected one. -/
structure Walker where
  on : Bool
  halted : Bool
  addr : Nat
  ord : Nat
  loops : List (Nat × Nat × Nat)
  calls : List Nat
  iterate : Bool
  cand : Option Candidate
  guesses : List Guess
  hist : List (Nat × Nat × Nat × Bool)
  stamps : List (Nat × Nat)
  lines : List CacheLine
  pins : List (Nat × List Nat)
  retry : List (Nat × Bool)
  deriving DecidableEq, Repr

/-- A walker at rest. -/
def Walker.init : Walker :=
  { on := false, halted := false, addr := 0, ord := 0, loops := [], calls := [], iterate := false, cand := none, guesses := [],
    hist := [], stamps := [], lines := [], pins := [], retry := [] }

/-- A map operation under way (R195): OP, VERIFY, HOLD, first page, COUNT. -/
structure MapOp where
  op : Nat
  verify : Bool
  hold : Bool
  page : Nat
  count : Nat
  deriving DecidableEq, Repr

/-- The pager behind PGR: the SYSTEM frames that hold its tables with the slots used, the fetches in flight (page, frame or
none while it waits for one, whether an injection has failed it), the RESIDENT pages, the map operation, and the walkers. -/
structure Pager where
  tables : List Nat
  slots : Nat
  resident : List Nat
  fetches : List (Nat × Option Nat × Bool)
  op : Option MapOp
  walkers : List (Nat × Walker)
  deriving DecidableEq, Repr

/-- The pager at rest. -/
def Pager.init : Pager := { tables := [], slots := 0, resident := [], fetches := [], op := none, walkers := [] }

/-! ### Capture units (07) -/

/-- A result of a strobe in a cycle of the capture queue. -/
structure Shot where
  pin : Nat
  idx : Nat
  compare : Bool
  fail : Bool
  sample : Option (Bool × Bool)
  deriving DecidableEq, Repr

/-- A SENT frame, violation or message on its way to the fail log (R134, R211): partition, record type, words 2 and 3, whether
it is a DUT fail. -/
structure SentRec where
  part : Nat
  type : Nat
  w2 : Nat
  w3 : Nat
  bad : Bool
  deriving DecidableEq, Repr

/-- A cycle of the gang on its way to a capture unit (R203): number, stamp, instruction and vector, whether it belongs to a
MATCH repetition, what travels with it (TPULSE, marks, changes of the capture kinds, MATCH timeouts with their MATCH
address and repetitions, SENT records), the strobes not yet released, and the results. -/
structure CycleRec where
  cycle : Nat
  stamp : BitVec 64
  addr : Nat
  vec : Nat
  inMatch : Bool
  tpulse : Bool
  marks : List Word
  kinds : List (Bool × Nat × Nat)
  mtos : List (Nat × Nat × Nat)
  sents : List SentRec
  left : Nat
  shots : List Shot
  deriving DecidableEq, Repr

/-- What a capture unit keeps of a partition behind its context (R201, R209, R211): the frames of its fail-log and raw
regions, records lost in the run and since the latest LOST record, the stamp of the first fail, whether the partition takes
part in the run, and the end waiting for the cycles before it: stop cause and number of the cycle after its last one. -/
structure CuPart where
  flog : Nat
  raw : Nat
  lostRun : Nat
  lostSince : Nat
  firstStamp : BitVec 64
  live : Bool
  ending : Option (Nat × Nat)
  deriving DecidableEq, Repr

/-- A partition's context with nothing captured. -/
def CuPart.init : CuPart :=
  { flog := 0, raw := 0, lostRun := 0, lostSince := 0, firstStamp := 0, live := false, ending := none }

/-- The decoder of a SENT port (R134): the level last seen, the cycle of the latest falling edge, the calibration interval of
the frame under way and of the frame before, its nibbles so far, frames decoded, the status bits [3:2] of the frames so far
of an enhanced serial message. -/
structure SentPort where
  level : Bool
  fell : Option Nat
  cal : Option Nat
  prev : Option Nat
  nibbles : List Nat
  frames : Nat
  esm : List Nat
  deriving DecidableEq, Repr

/-- A port before its first edge. -/
def SentPort.init : SentPort :=
  { level := true, fell := none, cal := none, prev := none, nibbles := [], frames := 0, esm := [] }

/-- A capture unit behind its page: the cycles to process, external events not yet attributed, the timers (running,
value, and the DCLK at which a running one had it), the effective counts of the run and the records of a segment, the
post-trigger cycles taken, the raw records of the segment that the ring holds (newest first: number since the segment
started, cycles), whether the newest is open, the next record's number, the trigger cycle and stamp, a forced trigger due,
the number after the cycle last processed with its stamp, per-partition state, the SENT decoder. -/
structure Cu where
  queue : List CycleRec
  ext : List Nat
  timers : List (Nat × Bool × Nat × Nat)
  pre : Nat
  post : Nat
  ring : Nat
  after : Nat
  recs : List (Nat × Nat)
  recOpen : Bool
  nextRec : Nat
  trig : Option (Nat × BitVec 64)
  force : Bool
  done : Nat
  doneStamp : BitVec 64
  parts : List (Nat × CuPart)
  sent : Option SentSetup
  ports : List (Nat × SentPort)
  deriving DecidableEq, Repr

/-- A capture unit at rest. -/
def Cu.init : Cu :=
  { queue := [], ext := [], timers := [], pre := 0, post := 0, ring := 0, after := 0, recs := [], recOpen := false,
    nextRec := 0, trig := none, force := false, done := 0, doneStamp := 0, parts := [], sent := none, ports := [] }

/-! ### Measurement (08, 09, 10) -/

/-- A time-interval unit behind its registers (R229, R234): the arm point, the qualifying edges counted by the start and the
stop channel, the state that calibration interrupted. -/
structure Tu where
  armAt : Nat
  starts : Nat
  stops : Nat
  prior : Nat
  deriving DecidableEq, Repr

/-- A unit that has not been armed. -/
def Tu.init : Tu := ⟨0, 0, 0, 0⟩

/-- A decimation channel behind its registers (R242 to R255): its own copies of the shadowed registers where they differ from
their reset values, whether a transfer has still to reach it, the preset-rate samples (newest first), SEQ, a restart asked for,
whether the next delivered sample is the first, the XFADE of the fade in progress (0 none) and of the pending request, the
peak window (samples, largest, smallest, stamp of the largest) and the RMS window (samples, sum of squares). -/
structure DecCh where
  force : List (Nat × Word)
  due : Bool
  hist : List Int
  seq : Nat
  restart : Bool
  first : Bool
  fade : Nat
  pendFade : Nat
  pk : Nat × Int × Int × BitVec 64
  rms : Nat × Nat
  deriving DecidableEq, Repr

/-- A channel that is off. -/
def DecCh.init : DecCh :=
  { force := [], due := false, hist := [], seq := 0, restart := false, first := false, fade := 0, pendFade := 0
    pk := (0, 0, 0, 0), rms := (0, 0) }

/-- A synthesis channel behind its registers (R257 to R271): ACC at the latest boundary and the time of that boundary in ps, the
frequency and phase words in force, the crossings of half a turn taken since, the list position, the samples, wraps and passes
of the visit, whether it fades, GAIN and OFFSET before it and of the latest sample, a stop asked for, the instant of a start
that has come, the DCLK of a jump request that a register made. -/
structure Syn where
  acc : Nat
  time : Nat
  ftw : Nat
  pofs : Nat
  crossed : Nat
  pos : Nat
  j : Nat
  wraps : Nat
  passes : Nat
  fades : Bool
  old : Int × Int
  last : Int × Int
  stop : Bool
  go : Option Nat
  jumpAt : Option Nat
  deriving DecidableEq, Repr

/-- A channel at rest. -/
def Syn.init : Syn :=
  { acc := 0, time := 0, ftw := 0, pofs := 0, crossed := 0, pos := 0, j := 0, wraps := 0, passes := 0, fades := false
    old := (0, 0), last := (0, 0), stop := false, go := none, jumpAt := none }

/-- Constantan behind the CAL page (R448 to R465). `taps`, `scales`, `th`, `bins` and `ofs` hold the values of the run or import
under way that are not yet in force (by line, interpolator, or 4 × channel + range), `scale` the tap scales in force. `cause`,
`err` and `flips` are the results of the latest run by line. `touched` are the comparators whose codes may differ from those in
force, `frames` the sideband frames to send (line, frame), `sbFail` the groups where one failed lasting. `go` says that GO has
been taken, `factory` that every commit was an import with SOURCE FACTORY, `temp` is the temperature at the latest commit, `exp`
the export words left, `imp` the staged words (latest first), `importing` that an accepted stream is being applied, `source` its
SOURCE. -/
structure Cal where
  taps : List (Nat × Nat)
  scales : List (Nat × Nat)
  th : List (Nat × Nat)
  bins : List (Nat × List Nat)
  ofs : List (Nat × Nat)
  scale : List (Nat × Nat)
  cause : List (Nat × Nat)
  err : List (Nat × Word)
  flips : List (Nat × Word)
  touched : List Nat
  frames : List (Nat × SbFrame)
  sbFail : List Nat
  go : Bool
  factory : Bool
  temp : Nat
  exp : List Word
  imp : List Word
  importing : Bool
  source : Nat
  deriving DecidableEq, Repr

/-- Constantan at rest. -/
def Cal.init : Cal :=
  { taps := [], scales := [], th := [], bins := [], ofs := [], scale := [], cause := [], err := [], flips := [], touched := []
    frames := [], sbFail := [], go := false, factory := true, temp := 0, exp := [], imp := [], importing := false, source := 0 }

/-! ### The fabric (13) -/

/-- A message of the deterministic class (R346): group, sender, DTYPE, BODY, AUX. -/
structure DetMsg where
  grp : Nat
  src : Nat
  dtype : Nat
  body : BitVec 64
  aux : Nat
  deriving DecidableEq, Repr

/-- What a port puts on its lanes (R335, R341): an ordered set (its B1, B2, B3) on a lane or on all of them (4), a link control
word (SUB, two fields), a packet with its sequence number, a message of the deterministic class, with both copies. -/
inductive Sent where
  | set (lane b1 b2 b3 : Nat)
  | control (sub x y : Nat)
  | packet (seq : Nat) (p : Packet)
  | det (m : DetMsg)
  deriving DecidableEq, Repr

/-- A fabric port behind its page (R336 to R345): lanes switched off (sleep, QUARANTINE); ordered sets received in a row by lane,
the logical number of each lane, lanes excluded by a degrade; requests sent by lane, lanes whose receiver and whose transmitter
have finished; the exchange number last sent and whether the delay has been measured since CONFIG; a failed training reported;
an LBK awaited. Reception: SEQ expected, whether a NAK for it has been sent, failed attempts with the lanes of the first,
whether an injection failed it, partner idle, its exit under way. Transmission: the next SEQ, the replay buffer (SEQ, resent,
packet), lanes of the NAK that caused the resending, packets that wait for a credit, credits of CTL and PAGE, messages of the
deterministic class waiting with the time their head has had in units of 0.1 ns. The neighbour's LINKINFO, ROUTE vector and
declarations, JOIN entries, and the LINKINFO last sent to it. -/
structure FPort where
  off : Bool
  locks : List (Nat × Nat)
  map : List (Nat × Nat)
  avoid : Nat
  eqSent : List (Nat × Nat)
  eqRx : Nat
  eqTx : Nat
  tsx : Nat
  measured : Bool
  failed : Bool
  lbk : Bool
  expect : Nat
  naked : Bool
  tries : Nat
  mask : Nat
  injected : Bool
  rxIdle : Bool
  exiting : Bool
  next : Nat
  replay : List (Nat × Bool × Packet)
  txMask : Nat
  queue : List Packet
  ctl : Nat
  page : Nat
  detq : List DetMsg
  detTime : Nat
  info : Option LinkInfo
  vec : List RouteEntry
  declRoot : Bool
  declTree : Bool
  joins : List JoinEntry
  told : Option LinkInfo
  deriving DecidableEq, Repr

/-- A port that has not trained. -/
def FPort.init : FPort :=
  { off := false, locks := [], map := [], avoid := 0, eqSent := [], eqRx := 0, eqTx := 0, tsx := 0, measured := false
    failed := false, lbk := false, expect := 0, naked := false, tries := 0, mask := 0, injected := false, rxIdle := false
    exiting := false, next := 0, replay := [], txMask := 0, queue := [], ctl := 16, page := 16, detq := [], detTime := 0
    info := none, vec := [], declRoot := false, declTree := false, joins := [], told := none }

/-- A route (R352): port, weighted distance, lowest revision of the path. -/
structure Route where
  port : Nat
  dist : Nat
  rev : Nat
  deriving DecidableEq, Repr

/-- A group as seen from this part (R353): MEMBER, and what the neighbours on the tree have told: TREE, COUNT, DIAM, DET. -/
structure Group where
  member : Bool
  tree : Nat
  count : Nat
  diam : Nat
  det : Bool
  deriving DecidableEq, Repr

/-- A group that no part has joined. -/
def Group.init : Group := ⟨false, 0, 0, 0, false⟩

/-- A delivery of a store node (R355, R356): SPAGE, where it goes (a part, or a group), the next INDEX. -/
structure Delivery where
  spage : Nat
  mc : Bool
  dst : Nat
  index : Nat
  deriving DecidableEq, Repr

/-- A delivery being received: source, SPAGE, whether by multicast, the next INDEX, its payloads (latest first). -/
structure Incoming where
  src : Nat
  spage : Nat
  mc : Bool
  index : Nat
  data : List (List Byte)
  deriving DecidableEq, Repr

/-- A span slot behind its registers (R358 to R362): the COND messages received (last cycle, PASS bits, MATCH repetition), the
notices not yet applied (DTYPE, cycle), the sites that a COND released last reported as not
passing, whether its CSYNC came late, and whether one awaits T. -/
structure Span where
  conds : List (Nat × Nat × Bool)
  notices : List (Nat × Nat)
  bad : Nat
  late : Bool
  sync : Bool
  deriving DecidableEq, Repr

/-- A span slot at rest. -/
def Span.init : Span := { conds := [], notices := [], bad := 0, late := false, sync := false }

/-- A register message of this part that awaits its answer (R354): destination, tag, COUNT, whether it writes. -/
structure RmOp where
  dst : Nat
  tag : Nat
  count : Nat
  write : Bool
  deriving DecidableEq, Repr

/-- The fabric behind FAB and the FP pages: what the ports have put on their lanes with the port, in order; the ports; the key,
distance and port of the best root; the route table by destination with the DCLK at which it counts as stable; the groups; at
the root, whether it collects requests, the requests collected and the addresses granted (by unique ID); at other parts the port
of each request forwarded; deliveries in progress, queued, and received; the register message outstanding and the next tag;
fabric triggers awaiting their release time; span slots. -/
structure Fab where
  sent : List (Nat × Sent)
  ports : List (Nat × FPort)
  best : Nat × Nat
  dist : Nat
  rootPort : Option Nat
  routes : List (Nat × Route)
  stableAt : Option Nat
  groups : List (Nat × Group)
  collecting : Bool
  requests : List (Nat × Option Nat × Option Nat)
  granted : List (Nat × Nat)
  asked : List (Nat × Nat)
  active : List Delivery
  waiting : List Delivery
  incoming : List Incoming
  rm : Option RmOp
  tag : Nat
  trigs : List (Nat × BitVec 64)
  spans : List (Nat × Span)
  deriving DecidableEq, Repr

/-- The fabric right after reset. -/
def Fab.init : Fab :=
  { sent := [], ports := [], best := (0, 0), dist := 0, rootPort := none, routes := [], stableAt := none, groups := []
    collecting := false, requests := [], granted := [], asked := [], active := [], waiting := [], incoming := [], rm := none
    tag := 0, trigs := [], spans := [] }

/-! ### The host link (17) -/

/-- A queue pair behind its registers (R439 to R445): the command in execution, whether its XFER has been started, completions
that wait to be posted (CID, STATUS, RESULT), outstanding FW commands, oldest first. -/
structure HostQ where
  cmd : Option (BitVec 512)
  started : Bool
  out : List (Nat × Nat × BitVec 64)
  fw : List Nat
  deriving DecidableEq, Repr

/-- A queue pair that holds nothing. -/
def HostQ.init : HostQ := { cmd := none, started := false, out := [], fw := [] }

/-- The host link behind HOST and HQ: queue pairs, the LO half of a firmware completion with its agent, the OP of the root-port
command in flight, the status of the latest completion sent on a link (0 successful, 1 Unsupported Request, 2 Configuration
Request Retry Status, 4 Completer Abort, 5 poisoned) and its data. -/
structure HostLink where
  hqs : List (Nat × HostQ)
  cplLo : Option (Nat × Word)
  rp : Option Nat
  cpl : Nat
  data : List Byte
  deriving DecidableEq, Repr

/-- The host link right after reset. -/
def HostLink.init : HostLink := { hqs := [], cplLo := none, rp := none, cpl := 0, data := [] }

/-- A write posted to the host (R437): the address and the bytes. -/
structure HostWrite where
  addr : BitVec 64
  bytes : List Byte
  deriving DecidableEq, Repr

structure State where
  pending : List Instr
  free : Nat
  dclk : Nat
  lastRead : BitVec 64
  regs : List (Nat × Word)
  act : List (Nat × Word)
  tabs : List (Nat × Word)
  tabAct : List (Nat × Word)
  tabLatch : List (Nat × (Nat × Word))
  loLatch : List (Nat × Word)
  dev : Dev
  monel : Monel
  hic : Hic
  sched : Sched
  cpu : Cpu
  dram : Dram
  time : Time
  part : Part
  seqs : List (Nat × Seq)
  master : List (Nat × Word)
  tgs : List (Nat × Tg)
  pins : List (Nat × Pin)
  pager : Pager
  cus : List (Nat × Cu)
  tus : List (Nat × Tu)
  fronts : List (Nat × (Nat × Nat))
  decs : List (Nat × DecCh)
  syns : List (Nat × Syn)
  cal : Cal
  fq : List (Nat × Queue)
  mover : Mover
  fab : Fab
  host : HostLink
  hostOut : List HostWrite
  deriving DecidableEq, Repr

/-- The state right after reset (assumption 2): the device has just entered BOOT, every register holds its reset value, no
command waits, nothing is in memory. -/
def State.reset : State :=
  { pending := [], free := 0, dclk := 0, lastRead := 0, regs := [], act := [], tabs := [], tabAct := [], tabLatch := [],
    loLatch := [], dev := Dev.init, monel := Monel.init, hic := Hic.init, sched := Sched.init, cpu := Cpu.init,
    dram := Dram.init, time := Time.init, part := Part.init, seqs := [], master := [], tgs := [],
    pins := [], pager := Pager.init, cus := [], tus := [], fronts := [], decs := [],
    syns := [], cal := Cal.init, fq := [], mover := Mover.init, fab := Fab.init, host := HostLink.init, hostOut := [] }

end Sys2Proof.Machine
end

