-- ==== Sys2Proof/Machine/Ops.lean ====
section
/-! DEFINITION. The named operations over the register window, tables, DRAM, frames, time and modes. -/

namespace Sys2Proof.Machine

open Sys2Proof

/-! ### Registers -/

/-- The word that the register at window offset `o` holds (the shadow copy of a shadowed one, R45). -/
def State.reg (s : State) (o : Nat) : Word := sget (regReset o) s.regs o

/-- Stores a word in the register at window offset `o`. -/
def State.setReg (s : State) (o : Nat) (v : Word) : State := { s with regs := sset (regReset o) s.regs o v }

/-- The value of a field. -/
def State.fld (s : State) (f : Fld) : Nat := bitsOf (s.reg f.off).toNat f.hi f.lo

/-- Stores a value in a field and keeps the register's other bits. -/
def State.setFld (s : State) (f : Fld) (v : Nat) : State :=
  s.setReg f.off (BitVec.ofNat 32 (putBits (s.reg f.off).toNat f.hi f.lo v))

/-- A one-bit field. -/
def State.flag (s : State) (f : Fld) : Bool := s.fld f == 1

/-- Stores a one-bit field. -/
def State.setFlag (s : State) (f : Fld) (b : Bool) : State := s.setFld f (if b then 1 else 0)

/-- The active copy of a shadowed register (R45). -/
def State.activeReg (s : State) (o : Nat) : Word := sget (regReset o) s.act o

/-- A field of an active copy. -/
def State.activeFld (s : State) (f : Fld) : Nat := bitsOf (s.activeReg f.off).toNat f.hi f.lo

/-- Sets the bits of a mask in a register. -/
def State.orReg (s : State) (o : Nat) (m : Word) : State := s.setReg o (s.reg o ||| m)

/-- Clears the bits of a mask in a register. -/
def State.clrReg (s : State) (o : Nat) (m : Word) : State := s.setReg o (s.reg o &&& ~~~m)

/-- Bit `i` of a register. -/
def State.bit (s : State) (o i : Nat) : Bool := (s.reg o).getLsbD i

/-- Stores bit `i` of a register. -/
def State.setBit (s : State) (o i : Nat) (b : Bool) : State :=
  if b then s.orReg o (BitVec.ofNat 32 (2 ^ i)) else s.clrReg o (BitVec.ofNat 32 (2 ^ i))

/-- Adds 1 to a 32-bit counter that saturates. -/
def State.count (s : State) (o : Nat) : State := s.setReg o (BitVec.ofNat 32 (satInc (s.reg o).toNat))

/-- Adds `k` to a 32-bit counter that saturates. -/
def State.countBy (s : State) (o k : Nat) : State :=
  s.setReg o (BitVec.ofNat 32 (min 0xFFFFFFFF ((s.reg o).toNat + k)))

/-- Raises a largest-value register to `v` (R535). -/
def State.raiseTo (s : State) (o v : Nat) : State :=
  if (s.reg o).toNat < v then s.setReg o (BitVec.ofNat 32 v) else s

/-- The 64-bit value of two registers, low half first. -/
def State.reg64 (s : State) (lo hi : Nat) : BitVec 64 := (s.reg hi) ++ (s.reg lo)

/-- Stores a 64-bit value in two registers. -/
def State.setReg64 (s : State) (lo hi : Nat) (v : BitVec 64) : State :=
  (s.setReg lo (v.setWidth 32)).setReg hi ((v >>> 32).setWidth 32)

/-- The part's answer to a read or a command that returns data (assumption 9). -/
def State.answer (s : State) (v : BitVec 64) : State := { s with lastRead := v }

/-- A fresh free value of `w` bits (assumption 5). -/
def State.fresh (s : State) (w : Nat) : BitVec w × State := (Config.freeValue s.free w, { s with free := s.free + 1 })

/-- The next step of a command that completes. -/
abbrev done (s : State) : Host.Outcome State Fault Refusal := .next s

/-- A hart, 0 to 7, or MGMT, 8. -/
def State.hart (s : State) (h : Nat) : Hart := sget Hart.init s.cpu.harts h

/-- Stores a hart. -/
def State.setHart (s : State) (h : Nat) (x : Hart) : State :=
  { s with cpu := { s.cpu with harts := sset Hart.init s.cpu.harts h x } }

/-! ### Table windows (R53) -/

/-- What an unwritten table word reads as: a period table entry is 2,000 ps after COLD (05), any other word 0. -/
def tabReset (o : Nat) : Word := if 0x1840000 ≤ o && o < 0x1844000 then 0x7D0 else 0

/-- A word of a table: the shadow copy where the table is shadowed. -/
def State.tab (s : State) (o : Nat) : Word := sget (tabReset o) s.tabs o

/-- Stores a word of a table. -/
def State.setTab (s : State) (o : Nat) (v : Word) : State := { s with tabs := sset (tabReset o) s.tabs o v }

/-- A word of the active copy of a shadowed table. -/
def State.tabActive (s : State) (o : Nat) : Word := sget (tabReset o) s.tabAct o

/-- Table windows assigned by R53. -/
inductive TableKind where
  | waveform | descriptor | period | openRegion | synList | segment | coef
  deriving DecidableEq, Repr

/-- The table that an offset of the window lies in, with the number of its owner (R53). -/
def tableAt (o : Nat) : Option (TableKind × Nat) :=
  if 0x1000000 ≤ o ∧ o < 0x1800000 then some (.waveform, (o - 0x1000000) / 0x80000)
  else if 0x1800000 ≤ o ∧ o < 0x1840000 then some (.descriptor, (o - 0x1800000) / 0x4000)
  else if 0x1840000 ≤ o ∧ o < 0x1844000 then some (.period, (o - 0x1840000) / 0x400)
  else if 0x1850000 ≤ o ∧ o < 0x1890000 then some (.openRegion, (o - 0x1850000) / 0x4000)
  else if 0x1900000 ≤ o ∧ o < 0x1B00000 then
    (let r := (o - 0x1900000) % 0x20000
     let n := (o - 0x1900000) / 0x20000
     if r < 0x18000 then some (.synList, n) else if r < 0x19000 then some (.segment, n) else none)
  else if 0x1B00000 ≤ o ∧ o < 0x1B40000 then some (.coef, (o - 0x1B00000) / 0x2000)
  else none

/-- The page that owns a table and reports its rejections (R53). -/
def TableKind.page (k : TableKind) (n : Nat) : Nat :=
  match k with
  | .waveform => P.TG n
  | .descriptor => P.TG n
  | .period => P.SEQ n
  | .openRegion => P.MC
  | .synList => P.SYN n
  | .segment => P.SYN n
  | .coef => P.DEC (n / 8)

/-- The tables that R53 marks Shadowed. -/
def TableKind.isShadowed : TableKind → Bool
  | .openRegion => false
  | .coef => false
  | _ => true

/-! ### DRAM as bytes (15) -/

/-- The canonical form of DRAM as a list of cells: addresses strictly rising, no byte that an unlisted address reads as
(assumption 6: 0). -/
def Memory.wf (m : List Host.Cell) : Bool := swf (fun _ => (0 : Byte)) m

/-- The byte at a DRAM address; a byte that nothing has written reads as 0 (assumption 6). -/
def State.memByte (s : State) (a : Nat) : Byte := sget 0 s.dram.mem a

/-- Stores a byte. -/
def State.setMemByte (s : State) (a : Nat) (b : Byte) : State :=
  { s with dram := { s.dram with mem := sset 0 s.dram.mem a b } }

/-- Stores bytes at rising addresses. -/
def State.setMem (s : State) (a : Nat) : List Byte → State
  | [] => s
  | b :: t => (s.setMemByte a b).setMem (a + 1) t

/-- The `n` bytes from an address. -/
def State.memBytes (s : State) (a n : Nat) : List Byte := (List.range n).map (fun i => s.memByte (a + i))

/-- The `n` low bytes of a number, least significant first. -/
def leBytes (n v : Nat) : List Byte := (List.range n).map (fun i => BitVec.ofNat 8 (v >>> (8 * i)))

/-- The number that bytes spell, least significant first. -/
def leNat : List Byte → Nat
  | [] => 0
  | b :: t => b.toNat + 256 * leNat t

/-- The `n`-byte little-endian number at an address. -/
def State.memNat (s : State) (a n : Nat) : Nat := leNat (s.memBytes a n)

/-- Stores an `n`-byte little-endian number. -/
def State.setMemNat (s : State) (a n v : Nat) : State := s.setMem a (leBytes n v)

/-- DRAM_STAT.STATE codes (15). -/
abbrev chOff : Nat := 0
abbrev chTraining : Nat := 1
abbrev chReady : Nat := 2
abbrev chSelfRefresh : Nat := 3
abbrev chReplay : Nat := 4
abbrev chFaulted : Nat := 5

/-- The state of DRAM channel `n`. -/
def State.chState (s : State) (n : Nat) : Nat := s.fld (F.DRAM_STAT_STATE n)

/-- Capacity of a channel in bytes (R386): components of 16, 24 or 32 Gbit, 8 data components a rank. -/
def State.chCapacity (s : State) (n : Nat) : Nat :=
  (match s.fld (F.DRAM_GEOM_DENSITY n) with
   | 0 => 16 | 1 => 24 | _ => 32) * (1 + s.fld (F.DRAM_GEOM_RANKS n)) * 2 ^ 30

/-- The interleave groups present (R392): groups of 2^W channels that are all in CHMASK. -/
def groupsPresent (w chmask : Nat) : List Nat :=
  (List.range (8 / 2 ^ w)).filter (fun g => (List.range (2 ^ w)).all (fun i => chmask.testBit (g * 2 ^ w + i)))

/-- The size of the installed DRAM in bytes (R534): 0 until ALLOC_MAP is valid. -/
def State.installed (s : State) : Nat := s.fld F.ALLOC_FRAMES_VALUE * 2 ^ 21

/-- The channel and subchannel of a DRAM address (R392). -/
def State.dramPlace (s : State) (a : Nat) : Nat × Nat :=
  let w := s.fld F.ALLOC_MAP_W_LOG2
  let c := s.chCapacity ((groupsPresent w (s.fld F.ALLOC_MAP_CHMASK)).headD 0 * 2 ^ w)
  let span := 2 ^ w * c
  let g := (groupsPresent w (s.fld F.ALLOC_MAP_CHMASK)).getD (a / span) 0
  (g * 2 ^ w + ((a >>> 8) % 2 ^ w ^^^ (a >>> 21) % 2 ^ w), (a >>> 6) % 2)

/-- The channel-local address of a DRAM address (R392). -/
def State.dramLocal (s : State) (a : Nat) : Nat :=
  let w := s.fld F.ALLOC_MAP_W_LOG2
  let c := s.chCapacity ((groupsPresent w (s.fld F.ALLOC_MAP_CHMASK)).headD 0 * 2 ^ w)
  ((a % (2 ^ w * c)) >>> (8 + w)) * 256 + a % 256

/-- Whether the channel of an address is FAULTED: reads are poisoned and writes fail lasting (R390, R395). -/
def State.chanDown (s : State) (a : Nat) : Bool := s.chState (s.dramPlace a).1 == chFaulted

/-- Whether any byte of a range lies in a FAULTED channel. A granule of 256 bytes lies in one channel (R392). -/
def State.rangeDown (s : State) (a n : Nat) : Bool :=
  n != 0 && (List.range ((a + n - 1) / 256 + 1 - a / 256)).any (fun i => s.chanDown ((a / 256 + i) * 256))

/-! ### The frame allocator (R400 to R405) -/

/-- Pools of R400. -/
abbrev poolSystem : Nat := 0
abbrev poolPattern : Nat := 1
abbrev poolCapture : Nat := 2
abbrev poolHart : Nat := 3
abbrev poolDma : Nat := 4
abbrev poolTrace : Nat := 5

/-- The entry of a frame. -/
def State.frame (s : State) (n : Nat) : Frame := sget Frame.init s.dram.frames n

/-- Stores the entry of a frame. -/
def State.setFrame (s : State) (n : Nat) (f : Frame) : State :=
  { s with dram := { s.dram with frames := sset Frame.init s.dram.frames n f } }

/-- The frames of the map. -/
def State.frameCount (s : State) : Nat := s.fld F.ALLOC_FRAMES_VALUE

/-- Frames that are FREE. -/
def State.freeFrames (s : State) : Nat := s.frameCount - s.dram.frames.length

/-- The limits of R401 for `n` frames of pool `p`: none when they hold, or the RESULT code that fails (1 LIMIT, 2 RESERVE).
-/
def State.poolRefuses (s : State) (p n : Nat) : Option Nat :=
  if s.fld (F.ALLOC_POOL_USED_VALUE p) + n > s.fld (F.ALLOC_POOL_MAX_MAX p) then some 1
  else
    let reserve := ((List.range 6).map (fun q =>
      if q = p then 0 else s.fld (F.ALLOC_POOL_MIN_MIN q) - s.fld (F.ALLOC_POOL_USED_VALUE q))).sum
    if s.freeFrames < n + reserve then some 2 else none

/-- The lowest start of a run of `n` frames that avoids the occupied frames `l` (rising), at or above `start`. -/
def lowestRun (total n : Nat) : List Nat → Nat → Option Nat
  | [], start => if start + n ≤ total then some start else none
  | f :: t, start => if start + n ≤ f then some start else lowestRun total n t (max start (f + 1))

/-- The highest frame below `top` that is not in `l` (falling). -/
def highestFree : List Nat → Nat → Option Nat
  | [], top => if top = 0 then none else some (top - 1)
  | f :: t, top => if f + 1 = top then highestFree t f else (if top = 0 then none else some (top - 1))

/-! ### The host link as a bus master (R430, R432) -/

/-- Bus-master requests may be issued: Bus Master Enable is 1 and the endpoint is in D0. -/
def State.busMaster (s : State) : Bool := s.flag F.HOST_STAT_BME && s.fld F.HOST_STAT_DSTATE == 0

/-- A host bus address lies within HOST_ADDR_BITS. -/
def State.hostReach (s : State) (a : Nat) : Bool := decide (a < 2 ^ s.fld F.HOST_ADDR_BITS_BITS)

/-! ### Time (R368, R369) -/

/-- The Invar time of the present DCLK edge. -/
def State.now (s : State) : BitVec 64 := (s.time.ctr >>> 24).setWidth 64

/-- The copy of R29 that MCLK and HCLK stamps carry, coarse to 16 ns (R31). -/
def State.nowCopy (s : State) : BitVec 64 := s.time.copy

/-- Whole nanoseconds in the time format (R368). -/
def nsTime (ns : Nat) : BitVec 64 := BitVec.ofNat 64 (ns * 256)

/-- Time `a` lies at or after time `b`: their difference modulo 2^64 as a signed value (R368). -/
def timeReached (a b : BitVec 64) : Bool := !(a - b).msb

/-! ### Modes and partitions (R21, R22, R26) -/

abbrev mCold : Nat := 0
abbrev mBoot : Nat := 1
abbrev mTrain : Nat := 2
abbrev mCalibrate : Nat := 3
abbrev mReady : Nat := 4
abbrev mRun : Nat := 5
abbrev mMeasure : Nat := 6
abbrev mDiagnose : Nat := 7
abbrev mService : Nat := 8
abbrev mDoze : Nat := 9
abbrev mHibernate : Nat := 10
abbrev mQuarantine : Nat := 11

/-- The device mode (R21). -/
def State.mode (s : State) : Nat := s.fld F.DEV_MODE_MODE

abbrev pIdle : Nat := 0
abbrev pArmed : Nat := 1
abbrev pRunning : Nat := 2
abbrev pPaused : Nat := 3
abbrev pService : Nat := 4
abbrev pFaulted : Nat := 5

/-- The state of partition `k` (R26). -/
def State.pstate (s : State) (k : Nat) : Nat := s.fld (F.PART_P_STAT_STATE k)

/-- Whether partition `k` is defined (R467). -/
def State.defined (s : State) (k : Nat) : Bool := s.flag (F.PART_P_CFG_DEFINED k)

/-- The quads of a partition (R15). -/
def State.quads (s : State) (k : Nat) : Nat := (s.reg64 (R.PART_P_QUAD_LO k) (R.PART_P_QUAD_HI k)).toNat

/-- Every partition is IDLE. -/
def State.allIdle (s : State) : Bool := (List.range 64).all (fun k => s.pstate k == pIdle)

/-- At least one time-interval unit, decimation channel or synthesis channel is enabled (R22). -/
def State.measuring (s : State) : Bool :=
  (List.range 64).any (fun u => s.flag (F.TU_CTRL_EN (u / 8) (u % 8)))
    || (List.range 32).any (fun c => s.flag (F.DEC_CH_CTRL_EN (c / 8) (c % 8)))
    || (List.range 16).any (fun c => s.flag (F.SYN_CTRL_EN c))

/-! ### Gangs (R14) -/

/-- The sequencer whose gang timing group `t` belongs to: the lowest whose LAST reaches it. -/
def State.gangOf (s : State) (t : Nat) : Nat :=
  ((List.range (t + 1)).find? (fun n => t ≤ s.fld (F.SEQ_GANG_LAST n))).getD t

/-- SQn is bound: TGn belongs to its own gang (R14). -/
def State.bound (s : State) (n : Nat) : Bool := s.gangOf n == n

/-- The timing groups of the gang of SQn. -/
def State.gangGroups (s : State) (n : Nat) : List Nat := (List.range 16).filter (fun t => s.gangOf t == n)

/-- The gang of a partition: that of the timing group of its lowest quad (R15). -/
def State.gangOfPart (s : State) (k : Nat) : Nat :=
  s.gangOf (((List.range 64).find? (fun q => (s.quads k).testBit q)).getD 0 / 4)

/-- The defined partitions of the gang of SQn. -/
def State.gangParts (s : State) (n : Nat) : List Nat :=
  (List.range 64).filter (fun k => s.defined k && s.gangOfPart k == n)

end Sys2Proof.Machine
end

