-- ==== Sys2Proof/Machine/Flags.lean ====
section
/-! DEFINITION. Status and event computations shared by every block: faults on their way to Monel, events and the pulses
they send, task flags and readiness, trace records, the derived device mode. -/

namespace Sys2Proof.Machine

open Sys2Proof

/-! ### Faults (R39, R323, R328) -/

/-- The number of a TG page, of a SYN page and so on that a window offset is on. -/
def pageNo (p : Nat) : Nat := ((pageAt p).map (fun x => x.2.1)).getD 0

/-- The kind of the page that a window offset is on. -/
def pageKind? (p : Nat) : Option PageKind := (pageAt p).map (fun x => x.1.kind)

/-- The pages of a gang: its SEQ page and its TG pages. -/
def State.gangTgPages (s : State) (n : Nat) : List Nat := (s.gangGroups n).map P.TG

/-- The CU pages whose CAP_SRC is `n`. -/
def State.cuPagesOf (s : State) (n : Nat) : List Nat :=
  ((List.range 8).filter (fun u => s.fld (F.CAP_SRC_SEQ u) == n)).map P.CU

/-- The pages whose faults a fence over page `p` also suppresses (the table of R328). -/
def State.fencedWith (s : State) (p : Nat) : List Nat :=
  let n := pageNo p
  match pageKind? p with
  | some .seq => s.gangTgPages n ++ s.cuPagesOf n ++ [P.MC]
  | some .tg =>
    let g := s.gangOf n
    P.SEQ g :: (s.gangTgPages g ++ s.cuPagesOf g ++ [P.CAL])
  | some .pgr => (List.range 16).map P.SEQ ++ [P.VC]
  | some .vc => (List.range 16).map P.SEQ ++ [P.PGR]
  | some .cu => [P.RED, P.TRACE]
  | some .tia => [P.CAL]
  | some .dec => [P.CAL, P.FQ]
  | some .syn => (if s.flag (F.SYN_PIN_EN_A n) then [P.TG (s.fld (F.SYN_PIN_PIN_A n) / 16)] else [])
      ++ (if s.flag (F.SYN_PIN_EN_B n) then [P.TG (s.fld (F.SYN_PIN_PIN_B n) / 16)] else [])
  | some .sched => P.RED :: (List.range 8).map P.HART
  | some .red => (List.range 4).map P.DMA
  | some .dram => [P.PGR, P.VC, P.RED, P.FQ, P.TRACE, P.HOST, P.ALLOC] ++ (List.range 8).map P.CU
      ++ (List.range 4).map P.DMA ++ (List.range 8).map P.HART
  | some .alloc => [P.PGR, P.VC, P.RED, P.FQ, P.TRACE, P.HOST] ++ (List.range 8).map P.CU
      ++ (List.range 4).map P.DMA ++ (List.range 8).map P.HART
  | some .dma => [P.RED, P.HOST]
  | some .fq => [P.RED, P.HOST] ++ (List.range 4).map P.DMA
  | some .fp => [P.FAB, P.PGR, P.TIME] ++ (List.range 6).map P.FP ++ (List.range 16).map P.SEQ
  | some .fab => [P.FAB, P.PGR, P.TIME] ++ (List.range 6).map P.FP ++ (List.range 16).map P.SEQ
  | some .hostp => (List.range 4).map P.DMA ++ [P.PGR]
  | some .hq => (List.range 4).map P.DMA ++ [P.PGR]
  | some .time => (List.range 8).map P.CU ++ (List.range 8).map P.TIA ++ (List.range 4).map P.DEC
  | some .cal => (List.range 16).map P.TG ++ (List.range 8).map P.TIA ++ (List.range 4).map P.DEC
  | some .hart => [P.SCHED]
  | _ => []

/-- The faults of page `p` are suppressed: a fence is up over it, or over a page that lists it (R328). -/
def State.fenced (s : State) (p : Nat) : Bool :=
  s.monel.fences.any (fun q => q == p || (s.fencedWith q).contains p)

/-- The class of a fault bit of a page (R323): 1 CE, 2 UC. -/
def faultClass (p b : Nat) : Nat := if (((pageKind? p).map ceFaults).getD 0).testBit b then 1 else 2

/-- The fault source of a bit of a page (R323). -/
def faultSource (p b : Nat) : Nat := 2 * (ordinalOf p).getD 0 + (faultClass p b - 1)

/-- A fault of page `p`: it sets its xx_FLT bit and goes to Monel (R39), unless a fence suppresses it (R328). -/
def State.faultInj (s : State) (p b : Nat) (inj : Bool) : State :=
  let s := s.setBit (R.xx_FLT p) b true
  if s.fenced p then s.count R.FLT_FENCE_SUPPRESSED
  else { s with monel := { s.monel with waiting := s.monel.waiting ++ [⟨faultSource p b, b, inj, faultClass p b⟩] } }

/-- A fault that no injection caused. -/
def State.fault (s : State) (p b : Nat) : State := s.faultInj p b false

/-- The native class of a device source (R323), 0 for a reserved source. -/
def nativeOf (src : Nat) : Nat :=
  if src < 230 then (if src % 2 = 0 then 1 else 2)
  else if src = 230 ∨ src = 234 ∨ src = 238 ∨ src = 240 ∨ src = 242 then 1
  else if src = 231 then 2
  else if src ≤ 243 then 3 else 0

/-- A fault of a device source (R323). Device sources are never suppressed (R328). -/
def State.devFault (s : State) (src : Nat) (inj : Bool) : State :=
  { s with monel := { s.monel with waiting := s.monel.waiting ++ [⟨src, 0, inj, nativeOf src⟩] } }

abbrev srcXbarCe : Nat := 230
abbrev srcTpllLock : Nat := 232
abbrev srcSyspllLock : Nat := 233
abbrev srcThermWarn : Nat := 234
abbrev srcThermTrip : Nat := 235
abbrev srcRailMon : Nat := 236
abbrev srcMgmtWdog : Nat := 237
abbrev srcMgmtSramCe : Nat := 238
abbrev srcMgmtSramUc : Nat := 239
abbrev srcBootImage : Nat := 240
abbrev srcBootFail : Nat := 241
abbrev srcFuseCe : Nat := 242
abbrev srcFuseUc : Nat := 243

/-- A checker of page `p` runs (R39): a set xx_FLT_INJ bit inverts its check bits and clears itself. Answers whether the
check was inverted. -/
def State.takeInj (s : State) (p b : Nat) : Bool × State :=
  if s.bit (R.xx_FLT_INJ p) b then (true, s.setBit (R.xx_FLT_INJ p) b false) else (false, s)

/-! ### Tasks: flags and readiness (R285 to R289) -/

/-- The key of a task. -/
def taskKey (k : TaskKind) (id : Nat) : Nat :=
  match k with
  | .thread => id
  | .node => 1024 + id

/-- A task. -/
def State.task (s : State) (k : Nat) : Task := sget Task.init s.sched.tasks k

/-- Stores a task. -/
def State.setTask (s : State) (k : Nat) (t : Task) : State :=
  { s with sched := { s.sched with tasks := sset Task.init s.sched.tasks k t } }

/-- The condition of R286 on the flags. -/
def Task.flagsReady (t : Task) : Bool :=
  t.m == 0 || (if t.all then t.f &&& t.m == t.m else t.f &&& t.m != 0)

/-- Makes a task READY: it joins the order of readiness, first among its priority where `front` (R291, R293). -/
def State.makeReady (s : State) (k : Nat) (front : Bool) (timedOut : Bool) : State :=
  let t := s.task k
  let s := s.setTask k { t with st := .ready, deadline := none, timedOut := timedOut, readyAt := s.dclk }
  { s with sched := { s.sched with ready := if front then k :: s.sched.ready else s.sched.ready ++ [k] } }

/-- The readiness test of one task (R286): answers whether it became READY. -/
def State.testReady (s : State) (k : Nat) : Bool × State :=
  let t := s.task k
  if t.st == .waiting && t.flagsReady then (true, s.makeReady k false false) else (false, s)

/-- Sets flag `f` of a task and tests its readiness, with no trace. -/
def State.setFlagQuiet (s : State) (k f : Nat) : State :=
  let t := s.task k
  ((s.setTask k { t with f := t.f ||| BitVec.ofNat 32 (2 ^ f) }).testReady k).2

/-! ### Events and pulses (R39, R313, R314) -/

/-- The binding word of an interrupt source right after reset (R313). -/
def bindReset (i : Nat) : Word := if i < 460 then BitVec.ofNat 32 (2 ^ 31 + i / 4) else 0

/-- The mask of an interrupt source right after reset (R313). -/
def maskReset (i : Nat) : Word := if i < 460 then BitVec.ofNat 32 (0xFF * 2 ^ (8 * (i % 4))) else 0

/-- HIC_SRC_BIND of a source; sources 460 to 483 read 0. -/
def State.srcBind (s : State) (i : Nat) : Word :=
  if 460 ≤ i ∧ i < 484 then 0 else sget (bindReset i) s.hic.bind i

/-- HIC_SRC_MASK of a source; sources 460 to 483 read 0. -/
def State.srcMask (s : State) (i : Nat) : Word :=
  if 460 ≤ i ∧ i < 484 then 0 else sget (maskReset i) s.hic.mask i

/-- The bound sources that an event bit of a page pulses (R314). -/
def State.boundSources (s : State) (ord b : Nat) : List Nat :=
  (List.range 512).filter (fun i =>
    (s.srcBind i).getLsbD 31 && ((s.srcBind i).toNat % 128 == ord) && (s.srcMask i).getLsbD b)

/-- A pulse of interrupt source `i`: its pending bit is set (R315), and its scheduler route sets a flag (R287, R314),
through `setf`. -/
def State.pulseWith (setf : State → Nat → Nat → State) (s : State) (i : Nat) : State :=
  let s := s.setBit (R.HIC_PEND (i / 32)) (i % 32) true
  let r := sget 0 s.sched.routes i
  if r.getLsbD 31 then
    setf s (taskKey (if r.getLsbD 30 then .node else .thread) (bitsOf r.toNat 25 16)) (r.toNat % 32)
  else s

/-- An event of page `p` (R39): it sets its xx_EVT bit; when enabled, it pulses the bound sources. -/
def State.eventWith (setf : State → Nat → Nat → State) (s : State) (p b : Nat) : State :=
  let s := s.setBit (R.xx_EVT p) b true
  if s.bit (R.xx_EVT_EN p) b then
    (s.boundSources ((ordinalOf p).getD 0) b).foldl (State.pulseWith setf) s
  else s

/-! ### Trace (R305 to R307) -/

/-- Whether a DRAM write to a range fails lasting: its channel is FAULTED (R390). -/
def State.writeFails (s : State) (a n : Nat) : Bool := s.rangeDown a n

/-- A trace stream: false the scheduling stream, true the pattern stream. -/
def trReg (pat : Bool) (a b : Nat) : Nat := if pat then b else a

/-- The level of a trace ring of `cap` records (R305). -/
def ringLevel (wr rd cap : Nat) : Nat := if cap = 0 then 0 else (wr + cap - rd % cap) % cap

/-- Writes one record of 32 bytes in the ring of a stream (R305). A lasting write failure disables the stream. -/
def State.traceStore (s : State) (pat : Bool) (w0 w1 w2 : Nat) : State :=
  let cap := s.fld (if pat then F.TRACE_P_FRAMES_FRAMES else F.TRACE_S_FRAMES_FRAMES) * 65536
  let wr := (s.reg (trReg pat R.TRACE_S_WR R.TRACE_P_WR)).toNat
  let a := s.fld (if pat then F.TRACE_P_BASE_FRAME else F.TRACE_S_BASE_FRAME) * 2 ^ 21 + wr * 32
  if s.writeFails a 32 then
    (s.fault P.TRACE X.TRACE_WRITE_FAIL).setFlag (if pat then F.TRACE_CTRL_P_EN else F.TRACE_CTRL_S_EN) false
  else
    let s := s.setMem a (leBytes 8 w0 ++ leBytes 8 w1 ++ leBytes 8 w2 ++ leBytes 8 0)
    let s := s.setReg (trReg pat R.TRACE_S_WR R.TRACE_P_WR) (BitVec.ofNat 32 ((wr + 1) % cap))
    let s := s.raiseTo (trReg pat R.TRACE_S_MAX R.TRACE_P_MAX)
      (ringLevel ((wr + 1) % cap) (s.reg (trReg pat R.TRACE_S_RD R.TRACE_P_RD)).toNat cap)
    s.count (R.xx_BLK_COUNT P.TRACE)

/-- Room for a record: the level is below cap − 1 (R305). -/
def State.traceRoom (s : State) (pat : Bool) : Bool :=
  let cap := s.fld (if pat then F.TRACE_P_FRAMES_FRAMES else F.TRACE_S_FRAMES_FRAMES) * 65536
  ringLevel (s.reg (trReg pat R.TRACE_S_WR R.TRACE_P_WR)).toNat (s.reg (trReg pat R.TRACE_S_RD R.TRACE_P_RD)).toNat cap
    < cap - 1

/-- The records lost since the stream's latest LOST record. -/
def State.traceLost (s : State) (pat : Bool) : Nat := if pat then s.sched.lostP else s.sched.lostS

/-- Stores the records lost since the stream's latest LOST record. -/
def State.setTraceLost (s : State) (pat : Bool) (n : Nat) : State :=
  { s with sched := if pat then { s.sched with lostP := n } else { s.sched with lostS := n } }

/-- Writes a record of an enabled stream: a LOST record first where records were lost, and nothing but the counts while the
ring is full (R305). The first loss since enable sets the loss event. -/
def State.traceRecord (s : State) (pat : Bool) (w0 w1 w2 : Nat) : State :=
  if !s.flag (if pat then F.TRACE_CTRL_P_EN else F.TRACE_CTRL_S_EN) then s
  else
    let s := if s.traceRoom pat && s.traceLost pat != 0 then
        (s.traceStore pat (0xF * 2 ^ 60 + s.traceLost pat) w1 0).setTraceLost pat 0
      else s
    if s.traceRoom pat && s.traceLost pat == 0 then s.traceStore pat w0 w1 w2
    else
      let first := s.traceLost pat == 0 && (s.reg (trReg pat R.TRACE_S_LOST R.TRACE_P_LOST)) == 0
      let s := (s.setTraceLost pat (s.traceLost pat + 1)).count (trReg pat R.TRACE_S_LOST R.TRACE_P_LOST)
      if first then s.eventWith State.setFlagQuiet P.TRACE (if pat then E.TRACE_P_LOSS else E.TRACE_S_LOSS) else s

/-- Types of a scheduling record (R306). -/
abbrev trFlag : Nat := 1
abbrev trReady : Nat := 2
abbrev trDispatch : Nat := 3
abbrev trWait : Nat := 4
abbrev trYield : Nat := 5
abbrev trEnd : Nat := 6
abbrev trPreempt : Nat := 7
abbrev trCancel : Nat := 8
abbrev trArm : Nat := 9
abbrev trNodeDone : Nat := 10
abbrev trTimeout : Nat := 11
abbrev trOrphan : Nat := 12

/-- A scheduling record of task `k` (R306), written where its type is enabled. -/
def State.traceSched (s : State) (ty k unit : Nat) (race : Bool) (w2 : Nat) : State :=
  if s.bit R.TRACE_S_TYPES ty then
    let t := s.task k
    s.traceRecord false
      (ty * 2 ^ 60 + (if race then 2 ^ 59 else 0) + (if 1024 ≤ k then 2 ^ 58 else 0) + (k % 1024) * 2 ^ 48
        + (unit % 16) * 2 ^ 44 + (t.prio % 32) * 2 ^ 39 + t.f.toNat) s.nowCopy.toNat w2
  else s

/-- A pattern record (R307) of sequencer `n`. -/
def State.tracePattern (s : State) (ty n cycle : Nat) (stamp : BitVec 64) (w2 : Nat) : State :=
  s.traceRecord true (ty * 2 ^ 60 + n * 2 ^ 56 + cycle % 2 ^ 48) stamp.toNat w2

/-- Sets flag `f` of task `k` (R287), traced with its source (R306), and tests its readiness. -/
def State.setFlagTraced (src : Nat) (s : State) (k f : Nat) : State :=
  let t := s.task k
  let s := s.setTask k { t with f := t.f ||| BitVec.ofNat 32 (2 ^ f) }
  let s := s.traceSched trFlag k 0 false (f + src * 32)
  match s.testReady k with
  | (true, s) => s.traceSched trReady k 0 false 0
  | (false, s) => s

/-! ### Preemption (R291, R292) -/

/-- A hart runs no thread. -/
def State.hartFree (s : State) (h : Nat) : Bool := !s.flag (F.HART_SCHED_CUR_VALID h)

/-- A hart may run a thread of affinity `aff`: named by it and enabled. -/
def State.eligible (s : State) (aff h : Nat) : Bool := aff.testBit h && s.flag (F.xx_CTRL_ENABLE (P.HART h))

/-- The READY threads in the order of R291: priority, highest first, then the order of readiness. -/
def State.readyThreads (s : State) : List Nat :=
  let r := s.sched.ready.filter (fun k => k < 1024)
  (List.range 32).flatMap (fun i => r.filter (fun k => (s.task k).prio == 31 - i))

/-- The hart that a READY thread would preempt (R292): the eligible hart with the thread of lowest priority strictly below
its own, the lower-numbered on a tie, not among those `taken`; none while a free eligible hart exists. -/
def State.victim (s : State) (k : Nat) (taken : List Nat) : Option Nat :=
  let t := s.task k
  if (List.range 8).any (fun h => s.eligible t.aff h && s.hartFree h) then none
  else
    let c := (List.range 8).filter (fun h => s.eligible t.aff h && !s.hartFree h && !taken.contains h
      && decide (s.fld (F.HART_SCHED_CUR_PRIO h) < t.prio))
    c.foldl (fun b h => match b with
      | none => some h
      | some g => if s.fld (F.HART_SCHED_CUR_PRIO h) < s.fld (F.HART_SCHED_CUR_PRIO g) then some h else some g) none

/-- The harts that the READY threads preempt, each with its thread (R292; DEDUCED, assumption 12: one request a thread). -/
def State.victims (s : State) : List (Nat × Nat) :=
  s.readyThreads.foldl (fun acc k => match s.victim k (acc.map Prod.fst) with
    | some h => acc ++ [(h, k)]
    | none => acc) []

/-- Requests and withdraws preemptions (R292) until nothing changes. -/
def State.preempt : Nat → State → State
  | 0, s => s
  | n + 1, s =>
    let s := (List.range 8).foldl (fun s h =>
      if s.flag (F.HART_SCHED_CUR_PREEMPT_REQ h) && !(s.readyThreads.any (fun k =>
          decide (s.fld (F.HART_SCHED_CUR_PRIO h) < (s.task k).prio)))
      then s.setFlag (F.HART_SCHED_CUR_PREEMPT_REQ h) false else s) s
    if !s.flag F.SCHED_CFG_PREEMPT_EN then s
    else
      match s.victims.find? (fun x => !s.flag (F.HART_SCHED_CUR_PREEMPT_REQ x.1)) with
      | none => s
      | some (h, k) =>
        let s := s.setFlag (F.HART_SCHED_CUR_PREEMPT_REQ h) true
        let s := s.traceSched trPreempt k h false 0
        (s.eventWith (State.setFlagTraced 1) (P.HART h) E.HART_PREEMPT).preempt n

/-- The scheduler's clock after a change of its tasks: preemption is requested or withdrawn (R288, R292), and the count of
READY tasks of each hart is kept (R308). -/
def State.settle (s : State) : State :=
  let s := s.preempt 9
  (List.range 8).foldl (fun s h => s.raiseTo (R.HART_CNT_DEPTH_MAX h)
    (s.sched.ready.filter (fun k => decide (k < 1024) && (s.task k).aff.testBit h)).length) s

/-- Sets a flag of a task from a source of R306 and lets the scheduler act. -/
def State.setTaskFlag (src : Nat) (s : State) (k f : Nat) : State := (State.setFlagTraced src s k f).settle

/-- An event of page `p` (R39). -/
def State.event (s : State) (p b : Nat) : State := s.eventWith (State.setTaskFlag 1) p b

/-- A pulse of an interrupt source (R314). -/
def State.pulse (s : State) (i : Nat) : State := State.pulseWith (State.setTaskFlag 1) s i

/-! ### Mode changes (R21 to R25) -/

/-- The device changes mode: PREV, MODE, DEV_EVT.MODE, the count of transitions. -/
def State.setMode (s : State) (m : Nat) : State :=
  let s := s.setFld F.DEV_MODE_PREV s.mode
  let s := s.setFld F.DEV_MODE_MODE m
  (s.count (R.xx_BLK_COUNT P.DEV)).event P.DEV E.DEV_MODE

/-- The mode that activity gives (R22). -/
def State.activeMode (s : State) : Nat := if !s.allIdle then mRun else if s.measuring then mMeasure else mReady

/-- READY, RUN and MEASURE follow activity (R22). -/
def State.deriveMode (s : State) : State :=
  if s.mode == mReady || s.mode == mRun || s.mode == mMeasure then
    (if s.mode == s.activeMode then s else s.setMode s.activeMode)
  else s

/-- A partition takes a state (R27): PART_EVT.STATE is set, and SVC_END when it leaves SERVICE (19); the mode follows. -/
def State.setPart (s : State) (k st : Nat) : State :=
  if s.pstate k == st then s
  else
    let leaves := s.pstate k == pService
    let s := s.setFld (F.PART_P_STAT_STATE k) st
    let s := s.event P.PART E.PART_STATE
    let s := if leaves then s.event P.PART E.PART_SVC_END else s
    s.deriveMode

end Sys2Proof.Machine
end

