-- ==== Sys2Proof/Machine/Operands.lean ====
section
/-! DEFINITION. The forms of a register access: agents and their access masks, ownership, rejections, the generic store of a
register by its access types, the shadow and commit protocol, coherent reads. -/

namespace Sys2Proof.Machine

open Sys2Proof

/-! ### Agents (R55 to R59, R471) -/

/-- The access group of a page (R55). -/
def pageGroup : PageKind → Nat
  | .dev => 0 | .fuse => 1 | .clk => 2 | .rst => 2 | .pwr => 2 | .seq => 3 | .tg => 4 | .pgr => 5 | .vc => 5 | .cu => 6
  | .tia => 7 | .dec => 8 | .syn => 9 | .sched => 10 | .hic => 11 | .trace => 12 | .red => 13 | .hart => 14 | .flt => 15
  | .dram => 16 | .alloc => 16 | .dma => 17 | .fq => 18 | .fp => 19 | .fab => 19 | .hostp => 20 | .hq => 20
  | .time => 21 | .cal => 22 | .part => 23 | .mc => 24

/-- The access group of a table window (R55). -/
def tableGroup : TableKind → Nat
  | .waveform => 25 | .descriptor => 25 | .period => 25 | .openRegion => 26 | .synList => 27 | .segment => 27 | .coef => 28

/-- The class of an agent in the order of the fuse masks: 0 MGMT, 1 HOST, 2 HART, 3 FABRIC (R55). -/
def agentClass : Agent → Nat
  | .mgmt => 0 | .host => 1 | .hostQueue _ => 1 | .hart _ => 2 | .fabric _ => 3

/-- The effective deny mask of a class, hard-wired bits included (R55, R56): bits 29 to 31 read 1; bit 1 is denied to every
class, bits 24 and 26 to FABRIC; bits 0, 2, 15 and 24 are permitted to MGMT. -/
def State.denyMask (s : State) (c : Nat) : Word :=
  let m := (s.dev.shadow.aat.getD c 0) ||| 0xE0000002
  if c = 3 then m ||| 0x05000000 else if c = 0 then m &&& ~~~(0x01008005 : Word) else m

/-- The agent-access table permits the agent to write the group (R55, R57). -/
def State.permits (s : State) (a : Agent) (g : Nat) : Bool := !(s.denyMask (agentClass a)).getLsbD g

/-- The partition tag that a write carries (R471). -/
def State.tagOf (s : State) (a : Agent) : BitVec 64 :=
  match a with
  | .hostQueue q => s.reg64 (R.PART_HQ_TAG_LO q) (R.PART_HQ_TAG_HI q)
  | .hart h =>
    if s.flag (F.HART_SCHED_CUR_VALID h) then sget 0 s.part.ttag (s.fld (F.HART_SCHED_CUR_THREAD h)) else 0
  | _ => 0

/-- The partition-isolation fuse is blown (R59, R472). -/
def State.isolation (s : State) : Bool := s.dev.shadow.iso

/-- The owner of page `p` accepts a write from the agent (R59). -/
def State.ownerPermits (s : State) (a : Agent) (p : Nat) : Bool :=
  let k := s.fld (F.xx_OWNER_KIND p)
  let id := s.fld (F.xx_OWNER_ID p)
  !s.isolation || a == .mgmt || k == 0 || !(((pageKind? p).map ownedKind).getD false)
    || (if k == 1 then (s.tagOf a).getLsbD id else a.ident == id)

/-! ### Rejections (R40 to R44) -/

/-- A rejected write at window offset `off`, reported on page `p` (R41); AGENT and OWNER raise the crossbar fault (R42). -/
def State.reject (s : State) (p off : Nat) (r : Reason) : State :=
  let s := s.setFlag (F.xx_STAT_CONFIG_REJECT p) true
  let s := s.setFld (F.xx_STAT_REJECT_FIELD p) (if p ≤ off ∧ off < p + 0x400 then bitsOf off 9 2 else 0xFF)
  let s := s.setReg (R.xx_REJECT_ADDR p) (BitVec.ofNat 32 (r.code * 2 ^ 28 + off % 2 ^ 26))
  let s := s.count (R.xx_REJECT_COUNT p)
  if r == .agent || r == .owner then s.devFault srcXbarCe false else s

/-- The checks that a register has of its own, and its effect. `agentOk` and the others say that the check passes; `refused`
is what a rejection for a reason does beside its report. -/
structure WRule where
  agentOk : Bool := true
  ownerOk : Bool := true
  stateOk : Bool := true
  orderOk : Bool := true
  rangeOk : Bool := true
  eff : State → State
  refused : Reason → State → State := fun _ s => s

/-- The reason of a rejection, in the order of R44; none when the write is accepted. -/
def firstReason (alignOk agentOk ownerOk stateOk orderOk rangeOk : Bool) : Option Reason :=
  if !alignOk then some .align
  else if !agentOk then some .agent
  else if !ownerOk then some .owner
  else if !stateOk then some .state
  else if !orderOk then some .order
  else if !rangeOk then some .range
  else none

/-- The reason for which a write is rejected: alignment, the agent-access table, ownership, IN_RESET and the register's own rule
(R40, R44, R52). -/
def State.writeReason (s : State) (a : Agent) (g p : Nat) (alignOk : Bool) (r : WRule) : Option Reason :=
  firstReason alignOk (s.permits a g && r.agentOk) (s.ownerPermits a p && r.ownerOk)
    (!s.flag (F.xx_STAT_IN_RESET p) && r.stateOk) r.orderOk r.rangeOk

/-- A checked write: applied whole, or rejected as a whole (R40). -/
def State.checkedWrite (s : State) (a : Agent) (g p off : Nat) (alignOk : Bool) (r : WRule) : State :=
  match s.writeReason a g p alignOk r with
  | some e => r.refused e (s.reject p off e)
  | none => r.eff s

/-- The registers of the window respond to the agent: never in COLD (R21); in DOZE and HIBERNATE no access is taken (R495);
in QUARANTINE only MGMT and the host have access (R332). -/
def State.responds (s : State) (a : Agent) : Bool :=
  let m := s.mode
  m != mCold && m != mDoze && m != mHibernate && (m != mQuarantine || agentClass a == 0 || agentClass a == 1)

/-! ### The generic store (R37) and the shadow protocol (R45 to R51) -/

/-- The value that a register holds after a write, by the access types of its bits (R37): RW bits take the value, a 1 clears
W1C bits and sets W1S bits; WO, RO, RC and RSV bits keep theirs. -/
def RegRow.store (r : RegRow) (old v : Word) : Word :=
  let rw := BitVec.ofNat 32 r.rw
  (((old &&& ~~~rw) ||| (v &&& rw)) &&& ~~~(v &&& BitVec.ofNat 32 r.w1c)) ||| (v &&& BitVec.ofNat 32 r.w1s)

/-- The page that carries the shadow generation and the commit of page `p`: the first TG page of its gang for a TG page
(R51), else itself. -/
def State.commitPage (s : State) (p : Nat) : Nat :=
  if 0x20000 ≤ p ∧ p < 0x30000 then P.TG (s.gangOf ((p - 0x20000) / 0x1000)) else p

/-- An accepted shadow write on page `p` (R49): WCOUNT, SHADOW_DIRTY, and the cancel of an armed or held commit. -/
def State.shadowWritten (s : State) (p : Nat) : State :=
  let c := s.commitPage p
  let s := s.setFld (F.xx_SHADOW_GEN_WCOUNT c) (min 0xFFFFFF (s.fld (F.xx_SHADOW_GEN_WCOUNT c) + 1))
  let s := s.setFlag (F.xx_STAT_SHADOW_DIRTY p) true
  if s.flag (F.xx_COMMIT_STAT_PENDING c) then
    ((s.setFld (F.xx_COMMIT_STAT_STATE c) 4).setFlag (F.xx_COMMIT_STAT_CANCEL c) true).setFlag
      (F.xx_COMMIT_STAT_PENDING c) false
  else s

/-- The generic effect of an accepted write of a register: the store, counted as a shadow write where the register is
shadowed (R45). -/
def State.storeReg (s : State) (p off : Nat) (v : Word) : State :=
  match (pageAt off).bind (fun x => (findRow x.1.kind x.2.2)) with
  | none => s
  | some r =>
    let s := s.setReg off (r.store (s.reg off) v)
    if r.shadowed != 0 then s.shadowWritten p else s

/-- A register whose write has no check of its own and no effect beyond the store. -/
def plainRule (p off : Nat) (v : Word) : WRule := { eff := fun s => s.storeReg p off v }

/-- A commit request (R46): compared with xx_SHADOW_GEN; armed, or refused as COMMIT_STALE. -/
def State.commitRequest (s : State) (p : Nat) (expect : Word) : State :=
  if expect == s.reg (R.xx_SHADOW_GEN p) then
    let s := s.setFld (F.xx_COMMIT_STAT_STATE p) (if s.flag (F.xx_CTRL_FREEZE_SHADOW p) then 2 else 1)
    (s.setFlag (F.xx_COMMIT_STAT_CANCEL p) false).setFlag (F.xx_COMMIT_STAT_PENDING p) true
  else (s.setFld (F.xx_COMMIT_STAT_STATE p) 4).setFlag (F.xx_COMMIT_STAT_CANCEL p) false

/-- The bookkeeping of a transfer on commit page `p` (R48). -/
def State.transferred (s : State) (p : Nat) : State :=
  let x := (s.fld (F.xx_SHADOW_GEN_XFER p) + 1) % 256
  let s := (s.setFld (F.xx_SHADOW_GEN_XFER p) x).setFld (F.xx_SHADOW_GEN_WCOUNT p) 0
  let s := (s.setFld (F.xx_COMMIT_STAT_STATE p) 3).setFld (F.xx_COMMIT_STAT_LAST_XFER p) x
  (s.setFlag (F.xx_COMMIT_STAT_CANCEL p) false).setFlag (F.xx_COMMIT_STAT_PENDING p) false

/-- The words of sparse data whose keys meet `p` are copied from `src` over those of `dst`; `d` gives the value that an
unlisted key reads as. -/
def copyWords (d : Nat → Word) (p : Nat → Bool) (src dst : List (Nat × Word)) : List (Nat × Word) :=
  (src.filter (fun e => p e.1)).foldl (fun l e => sset (d e.1) l e.1 e.2) (sdrop p dst)

/-- The shadowed registers of page `p` are copied to their active copies, and the table words of `tables` likewise (R48). -/
def State.copyShadow (s : State) (p : Nat) (tables : Nat → Bool) : State :=
  { s with
    act := copyWords regReset (fun o => decide (p ≤ o) && decide (o < p + 0x1000)) s.regs s.act
    tabAct := copyWords tabReset tables s.tabs s.tabAct }

/-- A commit is armed on commit page `p` and not frozen (R48). -/
def State.commitReady (s : State) (p : Nat) : Bool :=
  s.flag (F.xx_COMMIT_STAT_PENDING p) && !s.flag (F.xx_CTRL_FREEZE_SHADOW p)

/-! ### The common header (R38, R39, R52, R58) -/

/-- A register write of an agent on a page of kind `k` at `p`, under the register's rule: taken only where the window
responds. -/
def State.writeBy (s : State) (a : Agent) (k : PageKind) (p off : Nat) (r : WRule) : State :=
  if s.responds a then s.checkedWrite a (pageGroup k) p off true r else s

/-- An accepted write of xx_CTRL (R38, R48): ENABLE, QUIESCE and FREEZE_SHADOW are stored, an armed commit becomes HELD or
ARMED again, `enable` acts on a change of ENABLE, and BLOCK_RESET starts `reset`. -/
def ctrlRule (p : Nat) (v : Word) (enable : Bool → State → State) (reset : State → State) : WRule :=
  { eff := fun s =>
      let was := s.flag (F.xx_CTRL_ENABLE p)
      let s := s.setFlag (F.xx_CTRL_FREEZE_SHADOW p) (v.getLsbD 3)
      let s := s.setFlag (F.xx_CTRL_QUIESCE p) (v.getLsbD 1)
      let s := s.setFlag (F.xx_CTRL_ENABLE p) (v.getLsbD 0)
      let s := if s.flag (F.xx_COMMIT_STAT_PENDING p) && s.fld (F.xx_COMMIT_STAT_STATE p) != 4 then
          s.setFld (F.xx_COMMIT_STAT_STATE p) (if v.getLsbD 3 then 2 else 1) else s
      let s := if was != v.getLsbD 0 then enable (v.getLsbD 0) s else s
      if v.getLsbD 2 then reset s else s }

/-- The implemented bits of xx_FLT_INJ of a page. -/
def injBits (k : PageKind) : Word := BitVec.ofNat 32 (faultBits k)

/-- A write of xx_FLT_INJ sets bits (R39). -/
def injRule (k : PageKind) (p : Nat) (v : Word) : WRule :=
  { eff := fun s => s.orReg (R.xx_FLT_INJ p) (v &&& injBits k) }

/-- A write of xx_EVT or xx_FLT clears bits; a write of xx_EVT_EN stores them. -/
def evtRule (p : Nat) (v : Word) : WRule := { eff := fun s => s.clrReg (R.xx_EVT p) v }

/-- A write of xx_FLT clears bits. -/
def fltRule (p : Nat) (v : Word) : WRule := { eff := fun s => s.clrReg (R.xx_FLT p) v }

/-- A write of xx_EVT_EN. -/
def evtEnRule (p : Nat) (v : Word) : WRule := { eff := fun s => s.setReg (R.xx_EVT_EN p) v }

/-- A write of xx_COMMIT (R46, R51): ignored on a page without a shadow, rejected on a member page other than the gang's
first. -/
def commitRule (k : PageKind) (p : Nat) (v : Word) (s : State) : WRule :=
  { stateOk := s.commitPage p == p
    eff := fun s => if shadowedKind k then s.commitRequest p v else s }

/-- The KIND and the ID of an owner word are in range (02, xx_OWNER). -/
def ownerRange (v : Word) : Bool :=
  let kind := bitsOf v.toNat 31 30
  let id := bitsOf v.toNat 11 0
  kind == 0 || (kind == 1 && decide (id ≤ 0x3F))
    || (kind == 2 && (id == 0 || id == 1 || (decide (0x10 ≤ id) && decide (id ≤ 0x17))
      || (decide (0x400 ≤ id) && decide (id ≤ 0x7FF))))

/-- An owner word as it is kept: with KIND 0 the ID reads 0 (02, xx_OWNER). -/
def ownerWord (v : Word) : Word := if bitsOf v.toNat 31 30 = 0 then 0 else v &&& 0xC0000FFF

/-- A write of xx_OWNER (R58): MGMT alone; each KIND checks its range. -/
def ownerRule (a : Agent) (p : Nat) (v : Word) : WRule :=
  { agentOk := a == .mgmt
    rangeOk := ownerRange v
    eff := fun s => (s.setFld (F.xx_OWNER_KIND p) (bitsOf (ownerWord v).toNat 31 30)).setFld (F.xx_OWNER_ID p)
      (bitsOf (ownerWord v).toNat 11 0) }

/-- A register that a write does not change. -/
def ignored : WRule := { eff := fun s => s }

/-- A write of the header of a page (R38), `enable` and `reset` as in `ctrlRule`. -/
def headerRule (a : Agent) (k : PageKind) (p off : Nat) (v : Word) (s : State) (enable : Bool → State → State)
    (reset : State → State) : WRule :=
  if off = R.xx_CTRL p then ctrlRule p v enable reset
  else if off = R.xx_STAT p then
    { eff := fun s => if v.getLsbD 3 then s.setFlag (F.xx_STAT_CONFIG_REJECT p) false else s }
  else if off = R.xx_EVT p then evtRule p v
  else if off = R.xx_EVT_EN p then evtEnRule p v
  else if off = R.xx_FLT p then fltRule p v
  else if off = R.xx_FLT_INJ p then injRule k p v
  else if off = R.xx_COMMIT p then commitRule k p v s
  else if off = R.xx_OWNER p then ownerRule a p v
  else ignored

/-! ### Coherent reads (R103) -/

/-- The key of a latched register of an agent. -/
def latchKey (a : Agent) (off : Nat) : Nat := a.ident * 2 ^ 26 + off

/-- Latches the value of a register for an agent's next read of it. -/
def State.latch (s : State) (a : Agent) (off : Nat) (v : Word) : State :=
  { s with loLatch := (latchKey a off, v) :: serase s.loLatch (latchKey a off) }

/-- The latched value of a register for an agent, if any. -/
def State.latched (s : State) (a : Agent) (off : Nat) : Option Word :=
  (s.loLatch.find? (fun e => e.1 == latchKey a off)).map Prod.snd

end Sys2Proof.Machine
end

