-- ==== Sys2Proof/Machine/Link.lean ====
section
/-! DEFINITION. What every user of the fabric shares: ports and what they send, packets under credits and replay, routes, trees
and groups, messages of the deterministic class (13, R342 to R347, R352, R353, R357). -/

namespace Sys2Proof.Machine

open Sys2Proof

/-! ### Ports -/

/-- FP_STAT.STATE codes (R338). -/
abbrev fpDisabled : Nat := 0
abbrev fpDown : Nat := 1
abbrev fpAlign : Nat := 2
abbrev fpEq : Nat := 3
abbrev fpConfig : Nat := 4
abbrev fpActive : Nat := 5
abbrev fpIdle : Nat := 6
abbrev fpLoopback : Nat := 7

/-- The state behind a port. -/
def State.fport (s : State) (f : Nat) : FPort := sget FPort.init s.fab.ports f

/-- Stores the state behind a port. -/
def State.setFport (s : State) (f : Nat) (x : FPort) : State :=
  { s with fab := { s.fab with ports := sset FPort.init s.fab.ports f x } }

/-- FP_STAT.STATE of a port. -/
def State.fpState (s : State) (f : Nat) : Nat := s.fld (F.FP_STAT_STATE f)

/-- Stores FP_STAT.STATE. -/
def State.setFpState (s : State) (f x : Nat) : State := s.setFld (F.FP_STAT_STATE f) x

/-- A port carries traffic: ACTIVE, or ACTIVE with its transmit direction in electrical idle. -/
def State.linkUp (s : State) (f : Nat) : Bool := s.fpState f == fpActive || s.fpState f == fpIdle

/-- Link words flow on a port (R338). -/
def State.wordsFlow (s : State) (f : Nat) : Bool := s.fpState f == fpConfig || s.linkUp f

/-- A port puts something on its lanes. -/
def State.put (s : State) (f : Nat) (x : Sent) : State := { s with fab := { s.fab with sent := s.fab.sent ++ [(f, x)] } }

/-- An ordered set on every lane (R335). -/
def State.putSet (s : State) (f b1 b2 b3 : Nat) : State := s.put f (.set 4 b1 b2 b3)

/-- The transmit direction leaves electrical idle (R339). -/
def State.linkWake (s : State) (f : Nat) : State :=
  if s.fpState f == fpIdle then (s.putSet f 0x17 0 0).setFpState f fpActive else s

/-- The link's active lanes: the width. -/
def State.width (s : State) (f : Nat) : Nat :=
  ((List.range 4).filter (fun l => (s.fld (F.FP_STAT_LANES f)).testBit l)).length

/-! ### Packets (R342 to R344, R357) -/

/-- A packet of class PAGE. -/
def pageClass : PktBody → Bool
  | .preq _ _ _ => true
  | .pbreq _ _ _ _ => true
  | .pdata _ _ _ _ => true
  | .prep _ _ _ _ => true
  | .pnak _ _ => true
  | _ => false

/-- Takes the first packet of a class. -/
def takeClass (page : Bool) : List Packet → Option (Packet × List Packet)
  | [] => none
  | p :: t => if pageClass p.body == page then some (p, t) else (takeClass page t).map (fun x => (x.1, p :: x.2))

/-- The next packet that a port may send (R343): CTL first, each class under its credits. -/
def FPort.pick (p : FPort) : Option (Packet × FPort) :=
  if 64 ≤ p.replay.length then none
  else
    match (if p.ctl = 0 then none else takeClass false p.queue) with
    | some (k, q) => some (k, { p with queue := q, ctl := p.ctl - 1 })
    | none => (if p.page = 0 then none else takeClass true p.queue).map (fun x => (x.1, { p with queue := x.2, page := p.page - 1 }))

/-- Sends packets while the port holds credits and room in its replay buffer. -/
def State.pump (f : Nat) : Nat → State → State
  | 0, s => s
  | n + 1, s =>
    if !s.wordsFlow f then s
    else
      match (s.fport f).pick with
      | none => s
      | some (k, p) =>
        ((s.setFport f { p with next := (p.next + 1) % 4096, replay := p.replay ++ [(p.next, false, k)] }).put f
          (.packet p.next k)).pump f n

/-- The payload of a PREP, expanded (R355). -/
def expand (w : List Byte) : List Byte := (List.replicate 32 w).flatten

/-- The form of a packet on a link (R357): a multicast PDATA of equal words goes as PREP from revision 1.1 on. -/
def compress (rev : Nat) (k : Packet) : Packet :=
  match k.body with
  | .pdata v i l d =>
    if k.head.mc && decide (1 ≤ rev) && d == expand (d.take 16) then { k with body := .prep v i l (d.take 16) } else k
  | .prep v i l w => if rev = 0 then { k with body := .pdata v i l (expand w) } else k
  | _ => k

/-- Queues a packet on a port; a port that is down takes none. -/
def State.sendOn (s : State) (f : Nat) (k : Packet) : State :=
  if !s.wordsFlow f then s
  else
    let s := s.linkWake f
    let s := s.setFport f { s.fport f with queue := (s.fport f).queue ++ [compress (s.fld (F.FP_STAT_REV f)) k] }
    s.pump f (s.fport f).queue.length

/-- The head of a packet that never leaves its link (R342). -/
def localHead : PktHead := { mc := false, dst := 0, ttl := 0, src := 0 }

/-- Sends a link-local packet. -/
def State.sendLocal (s : State) (f : Nat) (b : PktBody) : State := s.sendOn f ⟨localHead, b⟩

/-! ### Routes (R352) -/

/-- FAB_STAT.NSTATE codes. -/
abbrev nsOff : Nat := 0
abbrev nsElect : Nat := 1
abbrev nsAssign : Nat := 2
abbrev nsReady : Nat := 3
abbrev nsNoAddr : Nat := 4

/-- This part's address. -/
def State.fabAddr (s : State) : Nat := s.fld F.FAB_ADDR_ADDR

/-- This part holds an address. -/
def State.hasAddr (s : State) : Bool := s.flag F.FAB_ADDR_VALID && s.fld F.FAB_STAT_NSTATE != nsNoAddr

/-- The tables change: routes are stable again 5 µs per weighted hop of the largest distance later (R352). -/
def State.unsettle (s : State) : State :=
  let far := (s.fab.routes.map (fun e => e.2.dist)).foldl max 1
  { s.setFlag F.FAB_STAT_STABLE false with fab := { s.fab with stableAt := some (s.dclk + 2500 * far) } }

/-- A read of the route or group tables is checked (13): an inverted check bit is a double-bit error, and the tables are rebuilt.
-/
def State.checkTables (s : State) : State :=
  match s.takeInj P.FAB X.FAB_TABLE_ECC with
  | (true, s) => s.unsettle.faultInj P.FAB X.FAB_TABLE_ECC true
  | (false, s) => s

/-- The route to a destination. -/
def State.routeTo (s : State) (dst : Nat) : Option Route := (s.fab.routes.find? (fun e => e.1 == dst)).map Prod.snd

/-- Sends a packet by the route table; a packet with no route is dropped and counted. -/
def State.sendRouted (s : State) (k : Packet) : State :=
  let s := s.checkTables
  match s.routeTo k.head.dst.toNat with
  | some r => s.sendOn r.port k
  | none => s.count R.FAB_UNREACH

/-- Sends a packet of this part to an address, with TTL 31. -/
def State.sendTo (s : State) (dst : Nat) (b : PktBody) : State :=
  if s.hasAddr then
    s.sendRouted ⟨{ mc := false, dst := BitVec.ofNat 10 dst, ttl := 31, src := BitVec.ofNat 10 s.fabAddr }, b⟩
  else s

/-- Forwards a packet of another part (R352): its TTL falls, and a packet without a route is reported to its sender. -/
def State.forward (s : State) (k : Packet) : State :=
  if k.head.ttl = 0 then s.count R.FAB_TTL_DROP
  else
    let s := s.checkTables
    match s.routeTo k.head.dst.toNat with
    | some r => s.sendOn r.port { k with head := { k.head with ttl := k.head.ttl - 1 } }
    | none => (s.count R.FAB_UNREACH).sendTo k.head.src.toNat (.unreach k.head.dst)

/-! ### Trees and groups (R350, R353) -/

/-- A group. -/
def State.group (s : State) (g : Nat) : Group := sget Group.init s.fab.groups g

/-- This end takes the link of a port as a tree link (R350). -/
def State.treeLink (s : State) (f : Nat) : Bool := s.fab.rootPort == some f || (s.fport f).declRoot

/-- Both ends declare the link of a port a tree link. -/
def State.treeUp (s : State) (f : Nat) : Bool := s.linkUp f && s.treeLink f && (s.fport f).declTree

/-- The ports on which something for a group goes on, except the one that it came from. -/
def State.groupPorts (s : State) (g : Nat) (from? : Option Nat) : List Nat :=
  (List.range 6).filter (fun f => (s.group g).tree.testBit f && s.treeUp f && from? != some f)

/-- A multicast packet for a group. -/
def State.multicast (s : State) (g : Nat) (from? : Option Nat) (k : Packet) : State :=
  let s := s.checkTables
  (s.groupPorts g from?).foldl (fun s f => s.sendOn f k) s

/-! ### The deterministic class (R346, R347) -/

/-- A message joins the queue of a port; a full queue drops it. -/
def State.detOn (s : State) (m : DetMsg) (f : Nat) : State :=
  let p := s.fport f
  if 32 ≤ p.detq.length then s.fault (P.FP f) X.FP_DET_OVF
  else
    ((s.setFport f { p with detq := p.detq ++ [m] }).raiseTo (R.FP_DETQ_MAX f) (p.detq.length + 1)).linkWake f

/-- A message for a group goes on (R353). -/
def State.detForward (s : State) (from? : Option Nat) (m : DetMsg) : State :=
  if s.fld F.FAB_STAT_NSTATE == nsNoAddr then s
  else
    let s := s.checkTables
    (s.groupPorts m.grp from?).foldl (State.detOn · m) s

/-- A message of this part to a group. -/
def State.detMulti (s : State) (g dtype : Nat) (body : BitVec 64) (aux : Nat) : State :=
  s.detForward none ⟨g, s.fabAddr, dtype, body, aux⟩

/-- The time that a port takes for a message, in units of 0.1 ns (R334, R347): two link words. -/
def State.detSpan (s : State) (f : Nat) : Nat := 256 / max 1 (s.width f)

/-- A port's queue over one DCLK. -/
def State.detTick (s : State) (f : Nat) : State :=
  let p := s.fport f
  match p.detq with
  | [] => s
  | m :: t =>
    if !s.linkUp f then s
    else if p.detTime + 20 < s.detSpan f then s.setFport f { p with detTime := p.detTime + 20 }
    else
      (s.setFport f { p with detq := t, detTime := if t.isEmpty then 0 else p.detTime + 20 - s.detSpan f }).put f (.det m)

/-- DTYPEs (R362). -/
abbrev dtCsync : Nat := 1
abbrev dtCond : Nat := 2
abbrev dtStall : Nat := 3
abbrev dtPause : Nat := 4
abbrev dtResume : Nat := 5
abbrev dtAbort : Nat := 6
abbrev dtFault : Nat := 7
abbrev dtTrig : Nat := 8
abbrev dtSyncLate : Nat := 9

/-! ### Fabric triggers (R363) -/

/-- Fabric trigger `k` is sent with its release time; a sender that is a member of the group raises it as well. -/
def State.fabTrigger (s : State) (k : Nat) : State :=
  let g := s.fld (F.FAB_TRIG_CFG_GRP k)
  let t := s.now + nsTime (s.fld (F.FAB_TRIG_CFG_LEAD_NS k))
  let s := s.detMulti g dtTrig t k
  if (s.group g).member then { s with fab := { s.fab with trigs := s.fab.trigs ++ [(k, t)] } } else s

/-- A source of fabric triggers fires: SRC 1 TRIG_IN(`i`), 2 TPULSE of SQ(`i`). -/
def State.fabSource (s : State) (src i : Nat) : State :=
  ((List.range 8).filter (fun k => s.flag (F.FAB_TRIG_CFG_EN k) && s.fld (F.FAB_TRIG_CFG_SRC k) == src
    && s.fld (F.FAB_TRIG_CFG_IDX k) == i)).foldl State.fabTrigger s

/-! ### What other chapters ask of the links and engines -/

/-- A receive lane of the host link is out of electrical idle (R493): the link is up and not in L1. -/
def State.hostActive (s : State) : Bool := s.flag F.HOST_STAT_DL_UP && !s.flag F.HOST_STAT_ASPM_L1

/-- A receive lane of an enabled port is out of electrical idle (R493). -/
def State.fabricActive (s : State) : Bool :=
  (List.range 6).any (fun f => s.flag (F.xx_CTRL_ENABLE (P.FP f)) && s.wordsFlow f && !(s.fport f).rxIdle)

/-- MSI-X messages may be sent (R322, R430). -/
def State.msixOn (s : State) : Bool := s.flag F.HOST_STAT_MSIX_EN && s.fld F.HOST_STAT_DSTATE == 0

/-- The function mask of MSI-X (R322). -/
def State.msixFnMask (s : State) : Bool := s.flag F.HOST_STAT_MSIX_FMASK

/-- A sequencer is RUNNING, PAUSED or in HOLD (R396). -/
def State.seqBusy (s : State) : Bool :=
  (List.range 16).any (fun n => decide (3 ≤ s.fld (F.SEQ_STATE_STATE n)) && decide (s.fld (F.SEQ_STATE_STATE n) ≤ 5))

/-- A capture unit is armed (R396). -/
def State.captureArmed (s : State) : Bool :=
  (List.range 8).any (fun u => (List.range 64).any (fun k => s.flag (F.CAP_P_STAT_ARMED u k)))

/-- A span slot is WAIT_SYNC or RUNNING (R375). -/
def State.spanHold (s : State) : Bool :=
  (List.range 16).any (fun k => s.fld (F.FAB_SPAN_STAT_STATE k) == 1 || s.fld (F.FAB_SPAN_STAT_STATE k) == 2)

end Sys2Proof.Machine
end

