-- ==== Sys2Proof/Machine/Crc.lean ====
section
/-! DEFINITION. The CRC-32C of R413, over bytes in their order. -/

namespace Sys2Proof.Machine

open Sys2Proof

/-- `k` steps of the reflected CRC-32C register, least significant bit first. -/
def crcSteps : Nat → Nat → Nat
  | 0, c => c
  | k + 1, c => crcSteps k (if c % 2 = 1 then (c >>> 1) ^^^ 0x82F63B78 else c >>> 1)

/-- The register after one more byte. -/
def crcByte (c : Nat) (b : Byte) : Nat := crcSteps 8 (c ^^^ b.toNat)

/-- The register after bytes (R413), with no final inversion. -/
def crc32c (seed : Nat) (l : List Byte) : Nat := l.foldl crcByte seed

/-- The standard CRC-32C of bytes (R413): seed 0xFFFF_FFFF, inverted at the end. -/
def crcStandard (l : List Byte) : Nat := crc32c 0xFFFFFFFF l ^^^ 0xFFFFFFFF

end Sys2Proof.Machine
end

