-- ==== Sys2Proof/Machine/Dram.lean ====
section
/-! DEFINITION. DRAM channels: reads, writes, scrub, parity replay, self-refresh, row hammer, training, warm boot; and the
frame allocator (15). -/

namespace Sys2Proof.Machine

open Sys2Proof

/-! ### Frames (R400 to R405) -/

/-- Marks `n` frames from `f` as ALLOCATED to pool `p` with owner `o` (R400) and keeps the counts of the ALLOC page. -/
def State.takeFrames (s : State) (p : Nat) (o : Word) (f n : Nat) : State :=
  let s := (List.range n).foldl (fun s i => s.setFrame (f + i) ⟨.allocated, p, o⟩) s
  let s := s.setFld (F.ALLOC_POOL_USED_VALUE p) (s.fld (F.ALLOC_POOL_USED_VALUE p) + n)
  let s := s.raiseTo (R.ALLOC_POOL_PEAK p) (s.fld (F.ALLOC_POOL_USED_VALUE p))
  (s.setFld F.ALLOC_FREE_VALUE s.freeFrames).countBy (R.xx_BLK_COUNT P.ALLOC) n

/-- A frame enters RETIRED or RETIRING (R404): the list, its count and the event. -/
def State.retireMark (s : State) (n : Nat) : State :=
  let s := { s with dram := { s.dram with retired := s.dram.retired ++ [n] } }
  (s.setFld F.ALLOC_RETIRED_VALUE (s.fld F.ALLOC_RETIRED_VALUE + 1)).event P.ALLOC E.ALLOC_RETIRE

/-- A frame of pool `p` ceases to be allocated. -/
def State.unuse (s : State) (p : Nat) : State :=
  s.setFld (F.ALLOC_POOL_USED_VALUE p) (s.fld (F.ALLOC_POOL_USED_VALUE p) - 1)

/-- The entry of frame `n` cannot be read: the frame is taken as RETIRED (ALLOC_FLT.FT_ECC). -/
def State.frameLost (s : State) (n : Nat) : State :=
  if s.frameCount ≤ n then s
  else
    let f := s.frame n
    match f.st with
    | .free =>
      let s := s.setFrame n ⟨.retired, 0, 0⟩
      (s.setFld F.ALLOC_FREE_VALUE s.freeFrames).retireMark n
    | .allocated => ((s.setFrame n { f with st := .retired }).unuse f.pool).retireMark n
    | .retiring => (s.setFrame n { f with st := .retired }).unuse f.pool
    | .retired => s

/-- The entry of frame `n` is read and checked (ALLOC_FLT.FT_ECC): the answer is whether the read failed, under an injected
error. -/
def State.ftRead (s : State) (n : Nat) : Bool × State :=
  match s.takeInj P.ALLOC X.ALLOC_FT_ECC with
  | (true, s) => (true, (s.frameLost n).faultInj P.ALLOC X.ALLOC_FT_ECC true)
  | (false, s) => (false, s)

/-- The frame that a request for `n` frames of pool `p` finds (R401): the start of a contiguous run, or one single frame; or the
RESULT code of the failure (1 LIMIT, 2 RESERVE, 3 NO_RUN). -/
def State.allocPick (s : State) (p n : Nat) (run : Bool) : Except Nat Nat :=
  if n = 0 then .ok 0
  else if !s.flag F.ALLOC_MAP_VALID then .error 3
  else
    match s.poolRefuses p n with
    | some e => .error e
    | none =>
      match (if run then lowestRun s.frameCount n (s.dram.frames.map Prod.fst) 0
             else highestFree (s.dram.frames.map Prod.fst).reverse s.frameCount) with
      | none => .error 3
      | some f => .ok f

/-- Allocates `n` frames for pool `p` (R401): the first frame or the RESULT code, and the state after. A request for 0 frames
succeeds and allocates nothing. A frame whose entry cannot be read is RETIRED, and the request looks for others. -/
def State.allocFrames (s : State) (p : Nat) (o : Word) (n : Nat) (run : Bool) : Except Nat Nat × State :=
  if n = 0 then (.ok 0, s)
  else
    match s.allocPick p n run with
    | .error e => (.error e, s)
    | .ok f =>
      match s.ftRead f with
      | (false, s) => (.ok f, s.takeFrames p o f n)
      | (true, s) =>
        match s.allocPick p n run with
        | .error e => (.error e, s)
        | .ok f => (.ok f, s.takeFrames p o f n)

/-- A hardware allocation (R401, R402): a failure is an event of the ALLOC page. Answers none with that event, or the first
frame. -/
def State.hwAlloc (s : State) (p : Nat) (o : Word) (n : Nat) (run : Bool) : Option Nat × State :=
  match s.allocFrames p o n run with
  | (.ok f, s) => (some f, s)
  | (.error _, s) => (none, s.event P.ALLOC E.ALLOC_REFUSED)

/-- Frees one frame (R403, R404): an ALLOCATED frame becomes FREE, a RETIRING one RETIRED. -/
def State.freeFrame (s : State) (n : Nat) : State :=
  match s.ftRead n with
  | (true, s) => s
  | (false, s) =>
    let f := s.frame n
    match f.st with
    | .allocated =>
      let s := (s.setFrame n Frame.init).unuse f.pool
      s.setFld F.ALLOC_FREE_VALUE s.freeFrames
    | .retiring => (s.setFrame n { f with st := .retired }).unuse f.pool
    | _ => s

/-- Frees `n` frames from `f`. -/
def State.releaseFrames (s : State) (f n : Nat) : State := (List.range n).foldl (fun s i => s.freeFrame (f + i)) s

/-- An owner word naming partition `k` (02, xx_OWNER). -/
def partOwner (k : Nat) : Word := BitVec.ofNat 32 (2 ^ 30 + k)

/-- Retires one frame (R404): a FREE frame becomes RETIRED, an ALLOCATED one RETIRING. -/
def State.retireFrame (s : State) (n : Nat) : State :=
  if s.frameCount ≤ n then s
  else
    match s.ftRead n with
    | (true, s) => s
    | (false, s) =>
      let f := s.frame n
      match f.st with
      | .free =>
        let s := s.setFrame n ⟨.retired, 0, 0⟩
        (s.setFld F.ALLOC_FREE_VALUE s.freeFrames).retireMark n
      | .allocated => (s.setFrame n { f with st := .retiring }).retireMark n
      | _ => s

/-- Bytes that one interleave group covers (R392). -/
def State.groupSpan (s : State) : Nat :=
  let w := s.fld F.ALLOC_MAP_W_LOG2
  2 ^ w * s.chCapacity ((groupsPresent w (s.fld F.ALLOC_MAP_CHMASK)).headD 0 * 2 ^ w)

/-- The frames of the interleave group that channel `n` is in (R395). -/
def State.groupFrames (s : State) (n : Nat) : List Nat :=
  let w := s.fld F.ALLOC_MAP_W_LOG2
  match (groupsPresent w (s.fld F.ALLOC_MAP_CHMASK)).findIdx? (fun g => g == n / 2 ^ w) with
  | none => []
  | some i => (List.range (s.groupSpan / 2 ^ 21)).map (fun k => i * (s.groupSpan / 2 ^ 21) + k)

/-- A channel enters FAULTED (R395): CHAN_FAIL, and every frame of its group is retired. -/
def State.chanFail (s : State) (n : Nat) : State :=
  let s := (s.setFld (F.DRAM_STAT_STATE n) chFaulted).fault (P.DRAM n) X.DRAM_CHAN_FAIL
  if s.flag F.ALLOC_MAP_VALID then (s.groupFrames n).foldl State.retireFrame s else s

/-- Frame `n` is allocated to pool `p`, RETIRING included. -/
def State.allocatedTo (s : State) (p n : Nat) : Bool :=
  let f := s.frame n
  decide (n < s.frameCount) && f.pool == p && (f.st == .allocated || f.st == .retiring)

/-- The code of a frame state in ALLOC_RES.STATE. -/
def FrameState.code : FrameState → Nat
  | .free => 0 | .allocated => 1 | .retiring => 2 | .retired => 3

/-- ALLOC_RES after an ALLOC_CMD has been served. -/
def State.allocResult (s : State) (result st pool frame : Nat) : State :=
  (s.setReg R.ALLOC_RES (BitVec.ofNat 32 (result * 2 ^ 28 + st * 2 ^ 26 + pool * 2 ^ 23 + frame % 2 ^ 18))).event P.ALLOC
    E.ALLOC_CMD_DONE

/-- Serves an ALLOC_CMD (R403). -/
def State.allocServe (s : State) (v : Word) : State :=
  let op := bitsOf v.toNat 31 28
  let p := bitsOf v.toNat 26 24
  let n := bitsOf v.toNat 17 0
  let arg := s.fld F.ALLOC_ARG_FRAME
  if op = 1 then
    match s.allocFrames p (s.reg R.ALLOC_OWNER) n (p != poolPattern) with
    | (.ok f, s) => s.allocResult 0 0 0 f
    | (.error e, s) => s.allocResult e 0 0 0
  else if op = 2 then
    let s := (s.ftRead arg).2
    match ((List.range n).map (fun i => arg + i)).find? (fun f => !s.allocatedTo p f) with
    | some f => s.allocResult 4 0 0 f
    | none => (s.releaseFrames arg n).allocResult 0 0 0 arg
  else if op = 3 then (s.retireFrame arg).allocResult 0 0 0 arg
  else
    let s := (s.ftRead arg).2
    let f := s.frame arg
    (s.setReg R.ALLOC_QOWNER f.owner).allocResult 0 f.st.code f.pool arg

/-- A write of ALLOC_CMD (R403). -/
def allocCmdRule (v : Word) (s : State) : WRule :=
  let op := bitsOf v.toNat 31 28
  let p := bitsOf v.toNat 26 24
  { stateOk := !s.flag F.ALLOC_RES_BUSY
    rangeOk := decide (1 ≤ op) && decide (op ≤ 4) && (decide (3 ≤ op) || p == poolPattern || p == poolHart || p == poolDma)
      && !(op == 1 && p == poolPattern && decide (1 < bitsOf v.toNat 17 0))
    eff := fun s => { s.setFlag F.ALLOC_RES_BUSY true with dram := { s.dram with cmd := some v } } }

/-- Channels of a mask. -/
def channelsOf (m : Nat) : List Nat := (List.range 8).filter (fun n => m.testBit n)

/-- A write of ALLOC_MAP (R407): MGMT alone, in TRAIN, once per COLD. -/
def allocMapRule (a : Agent) (v : Word) (s : State) : WRule :=
  let w := bitsOf v.toNat 1 0
  let m := bitsOf v.toNat 15 8
  let gs := groupsPresent w m
  { agentOk := a == .mgmt
    stateOk := s.mode == mTrain && !s.flag F.ALLOC_MAP_VALID
    rangeOk := gs.length * 2 ^ w == (channelsOf m).length
      && (channelsOf m).all (fun n => s.chState n == chReady)
      && (channelsOf m).all (fun n => s.reg (R.DRAM_GEOM n) == s.reg (R.DRAM_GEOM ((channelsOf m).headD 0)))
    eff := fun s =>
      let s := s.setReg R.ALLOC_MAP (BitVec.ofNat 32 (2 ^ 31 + m * 256 + w))
      let n := gs.length * s.groupSpan / 2 ^ 21
      (s.setFld F.ALLOC_FRAMES_VALUE n).setFld F.ALLOC_FREE_VALUE n }

/-- A write of the ALLOC page (15). -/
def allocRule (a : Agent) (off : Nat) (v : Word) (s : State) : WRule :=
  if off = R.ALLOC_MAP then allocMapRule a v s
  else if off = R.ALLOC_CMD then allocCmdRule v s
  else if off = R.ALLOC_ARG then
    { rangeOk := decide (bitsOf v.toNat 17 0 < s.frameCount), eff := fun s => s.setReg off (v &&& 0x3FFFF) }
  else if off = R.ALLOC_OWNER then { rangeOk := ownerRange v, eff := fun s => s.setReg off (ownerWord v) }
  else if off = R.ALLOC_RET_SEL then { eff := fun s => s.setReg off (v &&& 0x7FFFF) }
  else if R.ALLOC_POOL_MIN 0 ≤ off ∧ off < R.ALLOC_POOL_MIN 6 then
    let p := (off - R.ALLOC_POOL_MIN 0) / 16
    let x := bitsOf v.toNat 18 0
    if off = R.ALLOC_POOL_MIN p then
      let sum := ((List.range 6).map (fun q => if q = p then x else s.fld (F.ALLOC_POOL_MIN_MIN q))).sum
      { rangeOk := decide (x ≤ s.fld (F.ALLOC_POOL_MAX_MAX p)) && decide (sum ≤ s.frameCount)
        eff := fun s => s.setReg off (v &&& 0x7FFFF) }
    else if off = R.ALLOC_POOL_MAX p then
      { rangeOk := decide (s.fld (F.ALLOC_POOL_MIN_MIN p) ≤ x), eff := fun s => s.setReg off (v &&& 0x7FFFF) }
    else ignored
  else ignored

/-- Registers of the ALLOC page that show state other than a stored word. -/
def State.allocRead (s : State) (off : Nat) : Option Word :=
  if off = R.ALLOC_RET then
    match s.dram.retired[s.fld F.ALLOC_RET_SEL_INDEX]? with
    | some f => some (BitVec.ofNat 32 (2 ^ 31 + f))
    | none => some 0
  else none

/-- ALLOC_MAP (R407). -/
def execAllocMap (a : Agent) (w : BitVec 2) (chmask : BitVec 8) (s : State) : Host.Outcome State Fault Refusal :=
  done (s.writeBy a .alloc P.ALLOC R.ALLOC_MAP
    (allocMapRule a (BitVec.ofNat 32 (chmask.toNat * 256 + w.toNat)) s))

/-- A write of ALLOC_CMD by an agent. -/
def State.frameCmd (s : State) (a : Agent) (op pool count : Nat) : State :=
  s.writeBy a .alloc P.ALLOC R.ALLOC_CMD (allocCmdRule (BitVec.ofNat 32 (op * 2 ^ 28 + pool * 2 ^ 24 + count)) s)

/-- FRAME_ALLOC (R403). -/
def execFrameAlloc (a : Agent) (pool : BitVec 3) (count : BitVec 18) (s : State) : Host.Outcome State Fault Refusal :=
  done (s.frameCmd a 1 pool.toNat count.toNat)

/-- FRAME_FREE (R403). -/
def execFrameFree (a : Agent) (pool : BitVec 3) (count : BitVec 18) (s : State) : Host.Outcome State Fault Refusal :=
  done (s.frameCmd a 2 pool.toNat count.toNat)

/-- FRAME_RETIRE (R404). -/
def execFrameRetire (a : Agent) (s : State) : Host.Outcome State Fault Refusal := done (s.frameCmd a 3 0 0)

/-- FRAME_QUERY (R403). -/
def execFrameQuery (a : Agent) (s : State) : Host.Outcome State Fault Refusal := done (s.frameCmd a 4 0 0)

/-- ALLOC_SERVE (R402): hardware allocations are served within the commands that make them; the ALLOC_CMD waiting is served
here. -/
def execAllocServe (s : State) : Host.Outcome State Fault Refusal :=
  match s.dram.cmd with
  | none => done s
  | some v => done ({ s with dram := { s.dram with cmd := none } }.allocServe v)

/-! ### Row hammer (R397) -/

/-- The key of a tracker: channel, subchannel, bank. -/
def rhKey (n sub bank : Nat) : Nat := n * 512 + sub * 256 + bank

/-- The entry with the lowest count of a full tracker gives way to a row that has none. -/
def rhTake (l : List (Nat × Nat)) (row : Nat) : List (Nat × Nat) × Nat :=
  match l.find? (fun e => e.1 == row) with
  | some e => (l.map (fun x => if x.1 = row then (row, e.2 + 1) else x), e.2 + 1)
  | none =>
    if l.length < 16 then (l ++ [(row, 1)], 1)
    else
      let m := (l.map Prod.snd).foldl min ((l.map Prod.snd).headD 0)
      let i := l.findIdx (fun e => e.2 == m)
      (l.set i (row, m + 1), m + 1)

/-- An activate is counted (R397). -/
def State.activate (s : State) (n sub : Nat) (r : Requester) (x : Activate) : State :=
  let k := rhKey n sub x.bank.toNat
  let (l, c) := rhTake (sget [] s.dram.rh k) x.row.toNat
  if c < s.fld (F.DRAM_RH_CFG_THRESH n) then { s with dram := { s.dram with rh := sset [] s.dram.rh k l } }
  else
    let s := { s with dram := { s.dram with rh := sset [] s.dram.rh k (l.filter (fun e => e.1 != x.row.toNat)) } }
    let s := s.setFld (F.DRAM_RH_STAT_REQ n) r.ident
    let s := if r.ident ≤ 1 then s else s.setFlag (F.DRAM_RH_STAT_THROTTLING n) true
    (s.count (R.DRAM_RH_EVENTS n)).event (P.DRAM n) E.DRAM_RH

/-- RH_THROTTLE_END (R397). -/
def execRhThrottleEnd (n : Fin 8) (s : State) : Host.Outcome State Fault Refusal :=
  done (s.setFlag (F.DRAM_RH_STAT_THROTTLING n) false)

/-- RH_WINDOW_END (R397): every tracker of the channel clears. -/
def execRhWindowEnd (n : Fin 8) (s : State) : Host.Outcome State Fault Refusal :=
  done { s with dram := { s.dram with rh := sdrop (fun k => k / 512 == n.val) s.dram.rh } }

/-! ### Reads, writes, scrub, parity (R388 to R395) -/

/-- A request that reaches a channel in idle self-refresh starts its exit (R396). -/
def State.srExit (s : State) (n : Nat) : State :=
  if s.chState n == chSelfRefresh then (s.setFld (F.DRAM_STAT_STATE n) chReady).event (P.DRAM n) E.DRAM_SR_EXIT else s

/-- What the check of a read finds once injection has acted (DRAM_FLT_INJ), and the state with the injected bit taken. -/
def State.injectRead (s : State) (n : Nat) (c : ReadCheck) : ReadCheck × Bool × State :=
  match s.takeInj (P.DRAM n) X.DRAM_ECC_UC with
  | (true, s) => (.lasting, true, s)
  | (false, s) =>
    match s.takeInj (P.DRAM n) X.DRAM_ECC_RETRY with
    | (true, s) => (.transient, true, s)
    | (false, s) =>
      match s.takeInj (P.DRAM n) X.DRAM_ECC_CE with
      | (true, s) => (.corrected, true, s)
      | (false, s) => (c, false, s)

/-- The effects of a read's check (R389). -/
def State.readCheck (s : State) (n a : Nat) (c : ReadCheck) : State :=
  let (c, inj, s) := s.injectRead n c
  let lo := BitVec.ofNat 32 a
  let hi := BitVec.ofNat 32 (a / 2 ^ 32)
  match c with
  | .clean => s
  | .corrected =>
    let s := (s.count (R.xx_CE_COUNT (P.DRAM n))).setReg (R.DRAM_CE_ADDR_LO n) lo
    (s.setReg (R.DRAM_CE_ADDR_HI n) hi).faultInj (P.DRAM n) X.DRAM_ECC_CE inj
  | .transient => (s.count (R.DRAM_ECC_RETRY n)).faultInj (P.DRAM n) X.DRAM_ECC_RETRY inj
  | .lasting =>
    let s := (s.setReg (R.DRAM_UE_ADDR_LO n) lo).setReg (R.DRAM_UE_ADDR_HI n) hi
    (s.faultInj (P.DRAM n) X.DRAM_ECC_UC inj).retireFrame (a / 2 ^ 21)

/-- An activate of an access, where it needs one. -/
def State.activateOpt (s : State) (n sub : Nat) (r : Requester) (x : Option Activate) : State :=
  match x with
  | some x => s.activate n sub r x
  | none => s

/-- DRAM_READ (R389, R390): the data, or nothing where it is poisoned. -/
def execDramRead (addr : BitVec 40) (r : Requester) (chk : ReadCheck) (act : Option Activate) (s : State) :
    Host.Outcome State Fault Refusal :=
  let a := addr.toNat
  done (if s.installed ≤ a then s
    else
      let (n, sub) := s.dramPlace a
      let s := (s.srExit n).activateOpt n sub r act
      if s.chState n == chFaulted then s
      else
        let d := s.memNat a 8
        let bad := (s.injectRead n chk).1 == .lasting
        let s := s.readCheck n a chk
        if bad then s else s.answer (BitVec.ofNat 64 d))

/-- The write failure of a requester (R390). -/
def State.writeFail (s : State) (r : Requester) : State :=
  match r with
  | .capture u => s.fault (P.CU u) X.CU_WRITE_FAIL
  | .solder => s.fault P.RED X.RED_WRITE_FAIL
  | .trace => s.fault P.TRACE X.TRACE_WRITE_FAIL
  | _ => s

/-- DRAM_WRITE (R393, R395): the bytes of one burst; a FAULTED channel fails it. -/
def execDramWrite (addr : BitVec 40) (r : Requester) (data : List Byte) (act : Option Activate) (s : State) :
    Host.Outcome State Fault Refusal :=
  let a := addr.toNat
  done (if s.installed ≤ a then s
    else
      let (n, sub) := s.dramPlace a
      let s := (s.srExit n).activateOpt n sub r act
      if s.chState n == chFaulted then s.writeFail r else s.setMem a (data.take (64 - a % 64)))

/-- SCRUB_READ (R391): off with HOURS 0, and while the channel is not READY. -/
def execScrubRead (n : Fin 8) (addr : BitVec 40) (chk : ReadCheck) (last : Bool) (s : State) :
    Host.Outcome State Fault Refusal :=
  done (if s.fld (F.DRAM_SCRUB_HOURS n) == 0 || s.chState n != chReady then s
    else
      let s := s.readCheck n addr.toNat chk
      if last then s.count (R.xx_BLK_COUNT (P.DRAM n)) else s)

/-- CA_PARITY_ALERT (R394). -/
def execCaParityAlert (n : Fin 8) (o : AlertOutcome) (s : State) : Host.Outcome State Fault Refusal :=
  let st := s.chState n
  done (if st == chReady || st == chReplay || st == chSelfRefresh then
      match o with
      | .released =>
        ((s.setFld (F.DRAM_STAT_STATE n) chReady).count (R.DRAM_REPLAY n)).fault (P.DRAM n) X.DRAM_CA_REPLAY
      | .again => s.chanFail n
      | .held => s.setFld (F.DRAM_STAT_STATE n) chReplay
    else s)

/-- CA_REPLAY_TIMEOUT (R394). -/
def execCaReplayTimeout (n : Fin 8) (s : State) : Host.Outcome State Fault Refusal :=
  done (if s.chState n == chReplay then s.chanFail n else s)

/-! ### Self-refresh (R396) -/

/-- IDLE_SELF_REFRESH_ENTER (R396). -/
def execIdleSelfRefreshEnter (n : Fin 8) (s : State) : Host.Outcome State Fault Refusal :=
  done (if s.chState n == chReady && s.fld (F.DRAM_SR_IDLE_US n) != 0 && !s.seqBusy && !s.captureArmed then
      (s.setFld (F.DRAM_STAT_STATE n) chSelfRefresh).event (P.DRAM n) E.DRAM_SR_ENTER
    else s)

/-- Every channel in service enters self-refresh: DOZE, HIBERNATE, QUARANTINE. -/
def State.dramSleep (s : State) : State :=
  (List.range 8).foldl (fun s n => if s.chState n == chReady || s.chState n == chReplay then
    (s.setFld (F.DRAM_STAT_STATE n) chSelfRefresh).event (P.DRAM n) E.DRAM_SR_ENTER else s) s

/-- Every channel leaves self-refresh. -/
def State.dramWake (s : State) : State := (List.range 8).foldl State.srExit s

/-- A wake from HIBERNATE leaves the channels in self-refresh with their retained settings valid (R399). -/
def State.dramRetain (s : State) : State :=
  (List.range 8).foldl (fun s n => if s.chState n == chSelfRefresh then
    { s.setFlag (F.DRAM_WARM_VALID n) true with dram := { s.dram with kept := sset false s.dram.kept n true } } else s) s

/-- What a pin or chip reset keeps of DRAM (R399): with ARM = 1, the contents of a channel in service and the settings in
force. `s` is the state in COLD, `old` the state before. -/
def State.coldDram (s old : State) : State :=
  let live (n : Nat) : Bool := old.flag (F.DRAM_WARM_ARM n)
    && (old.chState n == chReady || old.chState n == chSelfRefresh || old.chState n == chReplay)
  let s := { s with dram := { s.dram with
    mem := old.dram.mem.filter (fun c => live (old.dramPlace c.1).1)
    dlyAct := old.dram.dlyAct
    kept := (List.range 8).filter live |>.map (fun n => (n, true)) } }
  (List.range 8).foldl (fun s n => if old.flag (F.DRAM_WARM_ARM n) then
    (s.setFlag (F.DRAM_WARM_ARM n) true).setFlag (F.DRAM_WARM_VALID n) (live n) else s) s

/-! ### Training (R398, R399, R406) -/

/-- Setting or clearing ENABLE of a DRAM page (R398 step 1). -/
def State.dramEnable (n : Nat) (on : Bool) (s : State) : State :=
  if on then
    if s.flag (F.DRAM_GEOM_PRESENT n) then
      (s.setFld (F.DRAM_STAT_STATE n) chTraining).setFld (F.DRAM_STAT_CAP_GIB n) (s.chCapacity n / 2 ^ 30)
    else s
  else s.setFld (F.DRAM_STAT_STATE n) chOff

/-- The training registers are writable (R406). -/
def State.trainable (s : State) (n : Nat) : Bool := s.mode == mTrain || s.chState n == chTraining

/-- An operation starts. -/
def State.trnStart (s : State) (n : Nat) (v : Word) : State :=
  let s := s.setReg (R.DRAM_TRN_CMD n) 0x80000000
  { s with dram := { s.dram with trnOp := sset 0 s.dram.trnOp n (v.toNat % 256) } }

/-- A write of DRAM_TRN_CMD (R406). -/
def trnRule (a : Agent) (n : Nat) (v : Word) (s : State) : WRule :=
  let op := bitsOf v.toNat 3 0
  { agentOk := a == .mgmt
    stateOk := s.trainable n
    rangeOk := decide (1 ≤ op) && decide (op ≤ 11)
    eff := fun s => s.trnStart n v }

/-- The key of a delay setting. -/
def dlyKey (n : Nat) (v : Word) : Nat := n * 8192 + bitsOf v.toNat 12 0

/-- A write of a DRAM page (15). -/
def dramRule (a : Agent) (n off : Nat) (v : Word) (s : State) : WRule :=
  if off = R.DRAM_GEOM n then
    { agentOk := a == .mgmt, stateOk := !s.flag (F.xx_CTRL_ENABLE (P.DRAM n))
      rangeOk := bitsOf v.toNat 5 4 != 3 && bitsOf v.toNat 1 0 != 3
      eff := fun s => s.setReg off (v &&& 0x80000133) }
  else if off = R.DRAM_SR n then { eff := fun s => s.setReg off (v &&& 0xFFFF) }
  else if off = R.DRAM_SCRUB n then { eff := fun s => s.setReg off (v &&& 0xFF) }
  else if off = R.DRAM_RH_CFG n then
    { rangeOk := bitsOf v.toNat 31 16 != 0 && bitsOf v.toNat 15 8 != 0 && bitsOf v.toNat 7 0 != 0
      eff := fun s => s.setReg off v }
  else if off = R.DRAM_WARM n then
    { agentOk := a == .mgmt, eff := fun s => s.setFlag (F.DRAM_WARM_ARM n) (v.getLsbD 0) }
  else if off = R.DRAM_TRN_CMD n then trnRule a n v s
  else if off = R.DRAM_TRN_ARG n then
    { stateOk := s.trainable n, rangeOk := bitsOf v.toNat 15 0 != 0, eff := fun s => s.setReg off v }
  else if off = R.DRAM_TRN_SWEEP n then
    { rangeOk := decide (bitsOf v.toNat 31 22 ≤ bitsOf v.toNat 21 12) && bitsOf v.toNat 11 8 != 0
      eff := fun s => s.setReg off (v &&& 0xFFFFFF00) }
  else if off = R.DRAM_TRN_SEL n then
    { rangeOk := decide (bitsOf v.toNat 6 0 ≤ 79), eff := fun s => s.setReg off (v &&& 0x7F) }
  else if off = R.DRAM_DLY_SEL n then
    { stateOk := s.trainable n, rangeOk := decide (bitsOf v.toNat 11 8 ≤ 7), eff := fun s => s.setReg off (v &&& 0x1F7F) }
  else if off = R.DRAM_DLY n then
    { stateOk := s.trainable n
      eff := fun s => { s with dram := { s.dram with
        dly := sset 0 s.dram.dly (dlyKey n (s.reg (R.DRAM_DLY_SEL n))) (bitsOf v.toNat 9 0) } } }
  else ignored

/-- Registers of a DRAM page that show state other than a stored word. -/
def State.dramRead (s : State) (n off : Nat) : Option Word :=
  if off = R.DRAM_TRN_RES n then some (sget 0 s.dram.trnRes (n * 128 + s.fld (F.DRAM_TRN_SEL_LANE n)))
  else if off = R.DRAM_TRN_ERR n then some (sget 0 s.dram.trnErr (n * 128 + s.fld (F.DRAM_TRN_SEL_LANE n)))
  else if off = R.DRAM_DLY n then
    some (BitVec.ofNat 32 (sget 0 s.dram.dlyAct (dlyKey n (s.reg (R.DRAM_DLY_SEL n)))))
  else none

/-- A training operation `op` written by an agent. -/
def State.train (s : State) (a : Agent) (n op : Nat) (rank sub : Bool) : State :=
  s.writeBy a .dram (P.DRAM n) (R.DRAM_TRN_CMD n)
    (trnRule a n (BitVec.ofNat 32 ((if rank then 128 else 0) + (if sub then 64 else 0) + op)) s)

/-- DRAM_INIT (R398 step 1): ENABLE is written to 1. -/
def execDramInit (a : Agent) (n : Fin 8) (s : State) : Host.Outcome State Fault Refusal :=
  done (s.writeBy a .dram (P.DRAM n) (R.xx_CTRL (P.DRAM n))
    (ctrlRule (P.DRAM n) (s.reg (R.xx_CTRL (P.DRAM n)) ||| 1) (fun b s => State.dramEnable n b s) (fun s => s)))

/-- CS_SWEEP (R398). -/
def execDramTrnCsSweep (a : Agent) (n : Fin 8) (rank sub : Bool) (s : State) : Host.Outcome State Fault Refusal :=
  done (s.train a n 1 rank sub)

/-- CA_SWEEP (R398). -/
def execDramTrnCaSweep (a : Agent) (n : Fin 8) (rank sub : Bool) (s : State) : Host.Outcome State Fault Refusal :=
  done (s.train a n 2 rank sub)

/-- MRW (R398). -/
def execDramTrnMrw (a : Agent) (n : Fin 8) (rank sub : Bool) (s : State) : Host.Outcome State Fault Refusal :=
  done (s.train a n 3 rank sub)

/-- MRR (R398). -/
def execDramTrnMrr (a : Agent) (n : Fin 8) (rank sub : Bool) (s : State) : Host.Outcome State Fault Refusal :=
  done (s.train a n 4 rank sub)

/-- WLEVEL (R398). -/
def execDramTrnWlevel (a : Agent) (n : Fin 8) (rank sub : Bool) (s : State) : Host.Outcome State Fault Refusal :=
  done (s.train a n 5 rank sub)

/-- RD_SWEEP (R398). -/
def execDramTrnRdSweep (a : Agent) (n : Fin 8) (rank sub : Bool) (s : State) : Host.Outcome State Fault Refusal :=
  done (s.train a n 6 rank sub)

/-- WR_SWEEP (R398). -/
def execDramTrnWrSweep (a : Agent) (n : Fin 8) (rank sub : Bool) (s : State) : Host.Outcome State Fault Refusal :=
  done (s.train a n 7 rank sub)

/-- APPLY (R398). -/
def execDramTrnApply (a : Agent) (n : Fin 8) (rank sub : Bool) (s : State) : Host.Outcome State Fault Refusal :=
  done (s.train a n 8 rank sub)

/-- VERIFY (R398). -/
def execDramTrnVerify (a : Agent) (n : Fin 8) (rank sub : Bool) (s : State) : Host.Outcome State Fault Refusal :=
  done (s.train a n 9 rank sub)

/-- RESUME (R399). -/
def execDramResume (a : Agent) (n : Fin 8) (rank sub : Bool) (s : State) : Host.Outcome State Fault Refusal :=
  done (s.train a n 10 rank sub)

/-- RVERIFY (R399). -/
def execDramTrnRverify (a : Agent) (n : Fin 8) (rank sub : Bool) (s : State) : Host.Outcome State Fault Refusal :=
  done (s.train a n 11 rank sub)

/-- The channel's training ends (R398): TRAIN_FAIL, then FAULTED. -/
def State.trainFail (s : State) (n : Nat) : State := (s.fault (P.DRAM n) X.DRAM_TRAIN_FAIL).chanFail n

/-- The channel becomes READY. -/
def State.chanReady (s : State) (n : Nat) : State :=
  (s.setFld (F.DRAM_STAT_STATE n) chReady).event (P.DRAM n) E.DRAM_READY

/-- Bytes of channel `n` are lost: VERIFY overwrites its array (R398). -/
def State.loseChannel (s : State) (n : Nat) : State :=
  { s with dram := { s.dram with
    mem := if s.flag F.ALLOC_MAP_VALID then s.dram.mem.filter (fun c => (s.dramPlace c.1).1 != n) else s.dram.mem
    kept := sset false s.dram.kept n false } }

/-- The settings written for channel `n` come into force at once (R398 step 8). -/
def State.applyDelays (s : State) (n : Nat) : State :=
  { s with dram := { s.dram with
    dlyAct := (s.dram.dly.filter (fun e => e.1 / 8192 == n)).foldl (fun l e => sset 0 l e.1 e.2) s.dram.dlyAct } }

/-- The key of a component mode register: channel, rank and subchannel, register. -/
def mrKey (n rs mr : Nat) : Nat := (n * 4 + rs) * 256 + mr

/-- The effect of an operation that ends (R398, R399). Answers its RESULT. A mode register that no MRW has set reads a free
value. -/
def State.trnEnd (s : State) (n : Nat) (passed : Bool) : Nat × State :=
  let o := sget 0 s.dram.trnOp n
  let op := o % 16
  let rs := o / 64
  let arg := s.reg (R.DRAM_TRN_ARG n)
  if op = 3 then
    (0, { s with dram := { s.dram with
      mr := sset 256 s.dram.mr (mrKey n rs (bitsOf arg.toNat 31 24)) (bitsOf arg.toNat 23 16) } })
  else if op = 4 then
    let (x, s) := s.fresh 8
    let m := sget 256 s.dram.mr (mrKey n rs (bitsOf arg.toNat 31 24))
    let d := if m < 256 then m else x.toNat
    (0, { s with dram := { s.dram with
      trnRes := (List.range 80).foldl (fun l i => sset 0 l (n * 128 + i) (BitVec.ofNat 32 d)) s.dram.trnRes } })
  else if op = 8 then (0, s.applyDelays n)
  else if op = 9 then
    let s := s.loseChannel n
    if passed then (0, s.chanReady n) else (3, s.trainFail n)
  else if op = 10 then
    if passed && s.flag (F.DRAM_WARM_VALID n) then
      (0, ((s.setFlag (F.DRAM_WARM_USED n) true).chanReady n).event (P.DRAM n) E.DRAM_SR_EXIT)
    else (3, (s.loseChannel n).setFlag (F.DRAM_WARM_VALID n) false)
  else if op = 11 then (if passed then 0 else 3, s)
  else if passed then (0, s) else (1, s.trainFail n)

/-- Stores the windows and errors that an operation reports, by lane. -/
def State.trnReport (s : State) (n : Nat) (w e : List (BitVec 7 × Word)) : State :=
  { s with dram := { s.dram with
    trnRes := w.foldl (fun l x => sset 0 l (n * 128 + x.1.toNat) x.2) s.dram.trnRes
    trnErr := e.foldl (fun l x => sset 0 l (n * 128 + x.1.toNat) x.2) s.dram.trnErr } }

/-- DRAM_TRN_DONE (R398): the operation in progress ends with its RESULT. -/
def execDramTrnDone (n : Fin 8) (passed : Bool) (windows errs : List (BitVec 7 × Word)) (s : State) :
    Host.Outcome State Fault Refusal :=
  done (if s.flag (F.DRAM_TRN_CMD_BUSY n) then
      let s := s.trnReport n windows errs
      let (r, s) := s.trnEnd n passed
      (s.setReg (R.DRAM_TRN_CMD n) (BitVec.ofNat 32 (r * 2 ^ 28))).event (P.DRAM n) E.DRAM_TRN_DONE
    else s)

/-- DRAM_TRN_TIMEOUT (R398): RESULT TIMEOUT ends the channel's training. -/
def execDramTrnTimeout (n : Fin 8) (s : State) : Host.Outcome State Fault Refusal :=
  done (if s.flag (F.DRAM_TRN_CMD_BUSY n) then
      ((s.setReg (R.DRAM_TRN_CMD n) 0x20000000).event (P.DRAM n) E.DRAM_TRN_DONE).trainFail n
    else s)

/-- A block reset of a DRAM page (R395, 15): the retention registers stay, and the channel retrains from step 1 when its
reset ends. -/
def State.dramReset (s : State) (n : Nat) : State :=
  { s with dram := { s.dram with
    dly := sdrop (fun k => k / 8192 == n) s.dram.dly
    trnRes := sdrop (fun k => k / 128 == n) s.dram.trnRes
    trnErr := sdrop (fun k => k / 128 == n) s.dram.trnErr
    trnOp := serase s.dram.trnOp n
    rh := sdrop (fun k => k / 512 == n) s.dram.rh } }

end Sys2Proof.Machine
end

