-- ==== Sys2Proof/Machine/Fq.lean ====
section
/-! DEFINITION. The hardware queues (16, R417 to R425). -/

namespace Sys2Proof.Machine

open Sys2Proof

/-- A queue. -/
def State.queue (s : State) (k : Nat) : Queue := sget Queue.init s.fq k

/-- Stores a queue. -/
def State.setQueue (s : State) (k : Nat) (q : Queue) : State := { s with fq := sset Queue.init s.fq k q }

/-- The remaining words that a flush left to drop (R423). -/
def State.discardLeft (s : State) (k : Nat) : Nat := s.fld (F.FQ_Q_STAT_DISCARD_LEFT k)

/-- Free words of a queue (R419): the words of complete items and those reserved for an open item are taken. -/
def State.queueFree (s : State) (k : Nat) : Nat :=
  let q := s.queue k
  64 * s.fld (F.FQ_Q_CFG_DEPTH k) - q.words.length
    - (if s.discardLeft k != 0 then 0 else (q.openLen.map (· + 1)).getD 0)

/-- The queue is enabled with producer binding `prod`, or consumer binding `cons`. -/
def State.queueProd (s : State) (k prod : Nat) : Bool := s.flag (F.FQ_Q_CFG_EN k) && s.fld (F.FQ_Q_CFG_PROD k) == prod
def State.queueCons (s : State) (k cons : Nat) : Bool := s.flag (F.FQ_Q_CFG_EN k) && s.fld (F.FQ_Q_CFG_CONS k) == cons

/-- A queue admits an item of LEN `len` (R419). -/
def State.queueAdmits (s : State) (k len : Nat) : Bool :=
  (s.queue k).openLen.isNone && decide (len + 1 ≤ s.queueFree k)

/-- A header word that the queue writes (R418). -/
def headerWord (producer len : Nat) : BitVec 64 := BitVec.ofNat 64 (producer * 2 ^ 24 + len)

/-- A complete item enters the queue: its words can be taken, and the largest level is kept (R419, R420). -/
def State.queueComplete (s : State) (k : Nat) (item : List (BitVec 64)) : State :=
  let q := s.queue k
  let words := q.words ++ (item.zipIdx.map (fun x => (x.1, x.2 == 0)))
  let s := s.setQueue k { q with words := words, items := q.items ++ [item.length], arrived := [], openLen := none }
  (s.setFlag (F.FQ_Q_STAT_OPEN k) false).raiseTo (R.FQ_Q_MAX k) words.length

/-- A header opens an item that was admitted (R419); a header alone is complete. -/
def State.queueOpen (s : State) (k producer len opener : Nat) : State :=
  let s := s.count (R.xx_BLK_COUNT P.FQ)
  if len = 0 then s.queueComplete k [headerWord producer 0]
  else
    (s.setQueue k { s.queue k with arrived := [headerWord producer len], openLen := some len, opener := opener }).setFlag
      (F.FQ_Q_STAT_OPEN k) true

/-- A payload word of the open item arrives (R419), or is dropped after a flush (R423). -/
def State.queuePayload (s : State) (k : Nat) (w : BitVec 64) : State :=
  let q := s.queue k
  if s.discardLeft k != 0 then
    let s := (s.count (R.FQ_FLUSH_DROPPED k)).setFld (F.FQ_Q_STAT_DISCARD_LEFT k) (s.discardLeft k - 1)
    if s.discardLeft k == 0 then (s.setQueue k { q with openLen := none, arrived := [] }).setFlag (F.FQ_Q_STAT_OPEN k) false
    else s
  else
    let arrived := q.arrived ++ [w]
    if arrived.length = (q.openLen.getD 0) + 1 then s.queueComplete k arrived
    else s.setQueue k { q with arrived := arrived }

/-- A whole decimation item of 16 bytes offered to a queue (R243, R419): answers whether it was admitted. -/
def State.queueOffer (s : State) (k chan : Nat) (w0 w1 : BitVec 64) : Bool × State :=
  if s.queueProd k 2 && s.queueAdmits k 2 then
    (true, (((s.queueOpen k (0x10 + chan) 2 0).queuePayload k w0).queuePayload k w1))
  else (false, s.count (R.FQ_Q_DROP k))

/-- Takes the oldest complete word (R421, R422): the word, its header mark, whether it is poisoned. `chk` is what its check
finds; an injection inverts it. -/
def State.queueTake (s : State) (k : Nat) (chk : EccCheck) : Option (BitVec 64 × Bool × Bool × State) :=
  let q := s.queue k
  match q.words with
  | [] => none
  | (w, hdr) :: rest =>
    let items := match q.items with
      | [] => []
      | n :: t => if n = 1 then t else (n - 1) :: t
    let s := s.setQueue k { q with words := rest, items := items, last := w }
    match s.takeInj P.FQ X.FQ_WORD_UC with
    | (inj, s) =>
      if inj || chk == .double then
        some (w, hdr, true, (s.setFlag (F.FQ_Q_STAT_POISON_SEEN k) true).faultInj P.FQ X.FQ_WORD_UC inj)
      else if chk == .corrected then some (w, hdr, false, (s.count (R.FQ_Q_CE k)).count (R.xx_CE_COUNT P.FQ))
      else some (w, hdr, false, s)

/-- The DMA channel with a number is ACTIVE. -/
def State.dmaActive (s : State) (ch : Nat) : Bool := s.fld (F.DMA_CH_STAT_STATE (ch / 8) (ch % 8)) == 1

/-- A binding code names an ACTIVE DMA channel. -/
def State.boundActive (s : State) (code : Nat) : Bool := decide (0x40 ≤ code) && decide (code ≤ 0x5F) && s.dmaActive (code - 0x40)

/-- A write of FQ_Q_CFG (R417, R425). -/
def queueCfgRule (k : Nat) (v : Word) (s : State) : WRule :=
  let was := s.flag (F.FQ_Q_CFG_EN k)
  let sets := v.getLsbD 31
  let depth := bitsOf v.toNat 24 16
  let prod := bitsOf v.toNat 15 8
  let cons := bitsOf v.toNat 7 0
  let changes := depth != s.fld (F.FQ_Q_CFG_DEPTH k) || prod != s.fld (F.FQ_Q_CFG_PROD k)
    || cons != s.fld (F.FQ_Q_CFG_CONS k)
  let bound := s.boundActive (s.fld (F.FQ_Q_CFG_PROD k)) || s.boundActive (s.fld (F.FQ_Q_CFG_CONS k))
  let dma := fun c => decide (0x40 ≤ c) && decide (c ≤ 0x5F)
  { stateOk := (!was || !changes) && (!(was && !sets) || !bound)
      && (!(!was && sets) || decide (depth ≤ s.fld F.FQ_POOL_FREE))
    rangeOk := (decide (prod ≤ 2) || dma prod) && (decide (cons ≤ 1) || dma cons) && (!sets || (depth != 0 && depth ≤ 256))
    eff := fun s =>
      let s := s.setReg (R.FQ_Q_CFG k) (v &&& 0x81FFFFFF)
      if was == sets then s
      else
        let s := (s.setQueue k Queue.init).setFlag (F.FQ_Q_STAT_OPEN k) false
        let s := s.setFld (F.FQ_Q_STAT_DISCARD_LEFT k) 0
        s.setFld F.FQ_POOL_FREE (if sets then s.fld F.FQ_POOL_FREE - depth else s.fld F.FQ_POOL_FREE + depth) }

/-- A write of FQ_Q_PUSH_HI (R419). -/
def queuePushRule (a : Agent) (k : Nat) (hi : Word) (s : State) : WRule :=
  let q := s.queue k
  let lo := (q.lo.map Prod.snd).getD 0
  let len := bitsOf lo.toNat 11 0
  { orderOk := (q.lo.map Prod.fst) == some a.ident
    stateOk := s.queueProd k 1 && (match q.openLen with
      | some _ => q.opener == a.ident
      | none => s.queueAdmits k len)
    eff := fun s =>
      let s := s.setQueue k { s.queue k with lo := none }
      match (s.queue k).openLen with
      | some _ => s.queuePayload k (hi ++ lo)
      | none => s.queueOpen k 1 len a.ident }

/-- A flush (R423). -/
def State.queueFlush (s : State) (k : Nat) : State :=
  let q := s.queue k
  let s := s.setQueue k { q with words := [], items := [], arrived := [] }
  match q.openLen with
  | none => s
  | some len =>
    if s.discardLeft k != 0 then s
    else
      let s := s.setFld (F.FQ_Q_STAT_DISCARD_LEFT k) (len + 1 - q.arrived.length)
      (s.setFlag (F.FQ_Q_STAT_FLUSH_PARTIAL k) true).event P.FQ E.FQ_FLUSH_PARTIAL

/-- A write of the FQ page (16). -/
def fqRule (a : Agent) (off : Nat) (v : Word) (s : State) : WRule :=
  if R.FQ_Q_CFG 0 ≤ off ∧ off < R.FQ_Q_CFG 32 then
    let k := (off - R.FQ_Q_CFG 0) / 0x40
    if off = R.FQ_Q_CFG k then queueCfgRule k v s
    else if off = R.FQ_Q_STAT k then { eff := fun s => s.clrReg off (v &&& 0x70000000) }
    else if off = R.FQ_Q_PUSH_LO k then { eff := fun s => s.setQueue k { s.queue k with lo := some (a.ident, v) } }
    else if off = R.FQ_Q_PUSH_HI k then queuePushRule a k v s
    else if off = R.FQ_Q_CTRL k then { eff := fun s => if v.getLsbD 0 then s.queueFlush k else s }
    else ignored
  else ignored

/-- Registers of the FQ page that show state other than a stored word. -/
def State.fqRead (s : State) (off : Nat) : Option Word :=
  if R.FQ_Q_CFG 0 ≤ off ∧ off < R.FQ_Q_CFG 32 then
    let k := (off - R.FQ_Q_CFG 0) / 0x40
    if off = R.FQ_Q_LEVEL k then
      some (BitVec.ofNat 32 ((s.queue k).items.length * 65536 + (s.queue k).words.length))
    else none
  else none

/-- A read of FQ_Q_POP_LO (R421): takes a word or reports an underrun, and latches the HI half and INFO for the agent. -/
def State.queuePop (s : State) (a : Agent) (k : Nat) (chk : EccCheck) : Word × State :=
  if s.fld (F.FQ_Q_CFG_CONS k) != 1 then
    (0, (s.latch a (R.FQ_Q_POP_HI k) 0).latch a (R.FQ_Q_POP_INFO k) (BitVec.ofNat 32 (2 ^ 28)))
  else
    match s.queueTake k chk with
    | none =>
      let w := (s.queue k).last
      let s := (s.count (R.FQ_Q_UNDERRUN k)).setFlag (F.FQ_Q_STAT_UNDERRUN k) true
      (w.setWidth 32,
        (s.latch a (R.FQ_Q_POP_HI k) ((w >>> 32).setWidth 32)).latch a (R.FQ_Q_POP_INFO k) (BitVec.ofNat 32 (2 ^ 30)))
    | some (w, hdr, bad, s) =>
      (w.setWidth 32,
        (s.latch a (R.FQ_Q_POP_HI k) ((w >>> 32).setWidth 32)).latch a (R.FQ_Q_POP_INFO k)
          (BitVec.ofNat 32 (2 ^ 31 + (if bad then 2 ^ 29 else 0) + (if hdr then 2 ^ 27 else 0))))

/-- FQ_ENABLE (R417). -/
def execFqEnable (a : Agent) (k : Fin 32) (v : Word) (s : State) : Host.Outcome State Fault Refusal :=
  done (s.writeBy a .fq P.FQ (R.FQ_Q_CFG k.val) (fqRule a (R.FQ_Q_CFG k.val) v s))

/-- FQ_PUSH (R419). -/
def execFqPush (a : Agent) (k : Fin 32) (hi : Word) (s : State) : Host.Outcome State Fault Refusal :=
  done (s.writeBy a .fq P.FQ (R.FQ_Q_PUSH_HI k.val) (fqRule a (R.FQ_Q_PUSH_HI k.val) hi s))

/-- FQ_POP (R421). -/
def execFqPop (a : Agent) (k : Fin 32) (chk : EccCheck) (s : State) : Host.Outcome State Fault Refusal :=
  done (if s.responds a then
      match s.queuePop a k.val chk with
      | (w, s) => s.answer (w.setWidth 64)
    else s)

/-- FQ_FLUSH (R423). -/
def execFqFlush (a : Agent) (k : Fin 32) (s : State) : Host.Outcome State Fault Refusal :=
  done (s.writeBy a .fq P.FQ (R.FQ_Q_CTRL k.val) (fqRule a (R.FQ_Q_CTRL k.val) 1 s))

end Sys2Proof.Machine
end

