-- ==== Sys2Proof/Machine/Dma.lean ====
section
/-! DEFINITION. The DMA engine (16, R408 to R416, R424). -/

namespace Sys2Proof.Machine

open Sys2Proof

/-- Spaces of DMA_CH_SPACE (R408). -/
abbrev spDram : Nat := 0
abbrev spHost : Nat := 1
abbrev spQueue : Nat := 2

/-- STATUS codes of R412. -/
abbrev dmaOk : Nat := 1
abbrev dmaIllegal : Nat := 2
abbrev dmaBadAddr : Nat := 3
abbrev dmaOverlap : Nat := 4
abbrev dmaPoison : Nat := 5
abbrev dmaWriteFail : Nat := 6
abbrev dmaHostErr : Nat := 7
abbrev dmaTimeout : Nat := 8
abbrev dmaEcc : Nat := 9
abbrev dmaAborted : Nat := 10
abbrev dmaQuar : Nat := 11

/-- The STATUS of a failed beat. -/
def dmaStatus : DmaError → Nat
  | .poison => dmaPoison | .writeFail => dmaWriteFail | .hostErr => dmaHostErr | .bufUc => dmaEcc | .queueUc => dmaEcc

/-- One side of a transfer: its space, its address and its signed steps. -/
structure DmaSide where
  space : Nat
  addr : BitVec 64
  bstep : Int
  cstep : Int

/-- The source of channel `ch` (R408, R409). -/
def State.dmaSrc (s : State) (ch : Nat) : DmaSide :=
  let n := ch / 8
  let c := ch % 8
  { space := s.fld (F.DMA_CH_SPACE_SRC_SP n c), addr := s.reg64 (R.DMA_CH_SRC_LO n c) (R.DMA_CH_SRC_HI n c)
    bstep := (s.reg (R.DMA_CH_SRC_BSTEP n c)).toInt, cstep := (s.reg (R.DMA_CH_SRC_CSTEP n c)).toInt }

/-- The destination of channel `ch` (R408, R409). -/
def State.dmaDst (s : State) (ch : Nat) : DmaSide :=
  let n := ch / 8
  let c := ch % 8
  { space := s.fld (F.DMA_CH_SPACE_DST_SP n c), addr := s.reg64 (R.DMA_CH_DST_LO n c) (R.DMA_CH_DST_HI n c)
    bstep := (s.reg (R.DMA_CH_DST_BSTEP n c)).toInt, cstep := (s.reg (R.DMA_CH_DST_CSTEP n c)).toInt }

/-- The address of row (b, c), modulo 2^64 (R409). -/
def DmaSide.row (d : DmaSide) (b c : Nat) : Nat :=
  (d.addr + BitVec.ofInt 64 (b * d.bstep) + BitVec.ofInt 64 (c * d.cstep)).toNat

/-- ACNT, BCNT and CCNT. -/
def State.dmaA (s : State) (ch : Nat) : Nat := (s.reg (R.DMA_CH_ACNT (ch / 8) (ch % 8))).toNat
def State.dmaB (s : State) (ch : Nat) : Nat := s.fld (F.DMA_CH_BCCNT_BCNT (ch / 8) (ch % 8))
def State.dmaC (s : State) (ch : Nat) : Nat := s.fld (F.DMA_CH_BCCNT_CCNT (ch / 8) (ch % 8))

/-- The length N of the transfer (R409). -/
def State.dmaLen (s : State) (ch : Nat) : Nat := s.dmaA ch * s.dmaB ch * s.dmaC ch

/-- Bytes written so far (R412). -/
def State.dmaMoved (s : State) (ch : Nat) : Nat :=
  (s.reg64 (R.DMA_CH_DONE_LO (ch / 8) (ch % 8)) (R.DMA_CH_DONE_HI (ch / 8) (ch % 8))).toNat

/-- The DRAM address of the stored CRC. -/
def State.dmaCrcAddr (s : State) (ch : Nat) : Nat :=
  (s.reg64 (R.DMA_CH_CRC_ADDR_LO (ch / 8) (ch % 8)) (R.DMA_CH_CRC_ADDR_HI (ch / 8) (ch % 8))).toNat

/-- CRC_WR of a channel. -/
def State.dmaCrcWr (s : State) (ch : Nat) : Bool := s.flag (F.DMA_CH_CTRL_CRC_WR (ch / 8) (ch % 8))

/-- A channel waits under R411. -/
def State.dmaWaiting (s : State) (ch : Nat) : Bool := s.flag (F.DMA_CH_STAT_WAITING (ch / 8) (ch % 8))

/-- A transfer ends (R410, R412, R416): ENDED, its STATUS, and the event of the channel. -/
def State.dmaEnd (s : State) (ch st : Nat) : State :=
  let n := ch / 8
  let c := ch % 8
  let s := (s.setFld (F.DMA_CH_STAT_STATE n c) 2).setFlag (F.DMA_CH_STAT_WAITING n c) false
  let s := s.setFld (F.DMA_CH_STAT_STATUS n c) st
  let s := if s.mover.cur == some ch then { s with mover := { s.mover with cur := none, left := 0 } } else s
  let s := if st == dmaHostErr then s.fault (P.DMA n) X.DMA_HOST_ERR else s
  if st == dmaOk then (s.count (R.xx_BLK_COUNT (P.DMA n))).event (P.DMA n) (E.DMA_DONE c)
  else s.event (P.DMA n) (E.DMA_ERR c)

/-- The completion of a transfer (R413, R416): the CRC is stored where CRC_WR asks for it, then the transfer ends OK. -/
def State.dmaComplete (s : State) (ch : Nat) : State :=
  if !s.dmaCrcWr ch then s.dmaEnd ch dmaOk
  else
    let a := s.dmaCrcAddr ch
    if s.installed < a + 4 then s.dmaEnd ch dmaOk
    else if s.writeFails a 4 then s.dmaEnd ch dmaWriteFail
    else (s.setMem a (leBytes 4 (s.reg (R.DMA_CH_CRC (ch / 8) (ch % 8))).toNat)).dmaEnd ch dmaOk

/-- Check 2 of R410. -/
def State.dmaLegal (s : State) (ch : Nat) : Bool :=
  let src := s.dmaSrc ch
  let dst := s.dmaDst ch
  let a := s.dmaA ch
  (src.space != spQueue || (s.queueCons (src.addr.toNat % 32) (0x40 + ch) && a % 8 == 0))
    && (dst.space != spQueue || (s.queueProd (dst.addr.toNat % 32) (0x40 + ch) && a % 8 == 0 && decide (a ≤ 32760)))
    && (!s.dmaCrcWr ch || (s.dmaCrcAddr ch % 4 == 0))

/-- The lowest and the highest byte of the corner rows of a side (R410). -/
def DmaSide.range (d : DmaSide) (a b c : Nat) : Nat × Nat :=
  let l := [d.row 0 0, d.row (b - 1) 0, d.row 0 (c - 1), d.row (b - 1) (c - 1)]
  (l.foldl min (l.headD 0), l.foldl max 0 + (a - 1))

/-- Check 3 of R410. -/
def State.dmaInside (s : State) (ch : Nat) : Bool :=
  let ok := fun (d : DmaSide) => d.space != spDram || decide ((d.range (s.dmaA ch) (s.dmaB ch) (s.dmaC ch)).2 < s.installed)
  ok (s.dmaSrc ch) && ok (s.dmaDst ch) && (!s.dmaCrcWr ch || decide (s.dmaCrcAddr ch + 4 ≤ s.installed))

/-- Check 4 of R410: both sides are DRAM and their ranges intersect. -/
def State.dmaOverlaps (s : State) (ch : Nat) : Bool :=
  let r := fun (d : DmaSide) => d.range (s.dmaA ch) (s.dmaB ch) (s.dmaC ch)
  (s.dmaSrc ch).space == spDram && (s.dmaDst ch).space == spDram
    && decide ((r (s.dmaSrc ch)).1 ≤ (r (s.dmaDst ch)).2) && decide ((r (s.dmaDst ch)).1 ≤ (r (s.dmaSrc ch)).2)

/-- The byte within its row that the transfer has reached, and the row's b and c (R409). -/
def State.dmaPlace (s : State) (ch : Nat) : Nat × Nat × Nat :=
  let r := s.dmaMoved ch / s.dmaA ch
  (s.dmaMoved ch % s.dmaA ch, r % s.dmaB ch, r / s.dmaB ch)

/-- The channel waits on a queue (R411): its source holds no complete item, or at the start of a row its destination cannot
reserve the item; a row under way goes on while its item is open. -/
def State.dmaBlocked (s : State) (ch : Nat) : Bool :=
  let src := s.dmaSrc ch
  let dst := s.dmaDst ch
  let q := dst.addr.toNat % 32
  (src.space == spQueue && (s.queue (src.addr.toNat % 32)).words.isEmpty)
    || (dst.space == spQueue && (if (s.dmaPlace ch).1 = 0 then
        !(s.queueProd q (0x40 + ch) && s.queueAdmits q (s.dmaA ch / 8)) else (s.queue q).openLen.isNone))

/-- A START that is taken (R410): the checks in order, and the transfer begins or ends at once. -/
def State.dmaStart (s : State) (ch : Nat) : State :=
  let n := ch / 8
  let c := ch % 8
  let s := (s.setFld (F.DMA_CH_STAT_STATE n c) 1).setFlag (F.DMA_CH_STAT_WAITING n c) false
  let s := (s.setReg64 (R.DMA_CH_DONE_LO n c) (R.DMA_CH_DONE_HI n c) 0).setReg (R.DMA_CH_CRC n c)
    (s.reg (R.DMA_CH_CRC_SEED n c))
  if s.dmaLen ch = 0 then s.dmaComplete ch
  else if !s.dmaLegal ch then s.dmaEnd ch dmaIllegal
  else if !s.dmaInside ch then s.dmaEnd ch dmaBadAddr
  else if s.dmaOverlaps ch then s.dmaEnd ch dmaOverlap
  else if s.dmaBlocked ch then s.setFlag (F.DMA_CH_STAT_WAITING n c) true
  else s

/-- Takes up to `n` words from a queue, until one is poisoned (R411, R422). -/
def State.dmaTake (k : Nat) : Nat → State → List Byte × Bool × State
  | 0, s => ([], false, s)
  | n + 1, s =>
    match s.queueTake k .clean with
    | none => ([], false, s)
    | some (w, _, bad, s) =>
      if bad then ([], true, s)
      else
        match State.dmaTake k n s with
        | (l, b, s) => (leBytes 8 w.toNat ++ l, b, s)

/-- The words that bytes spell, eight bytes each. -/
def wordsOf (l : List Byte) : List (BitVec 64) :=
  (List.range (l.length / 8)).map (fun i => BitVec.ofNat 64 (leNat ((l.drop (8 * i)).take 8)))

/-- A host request for `n` bytes at an address may be issued (R430, R432). -/
def State.hostOpen (s : State) (a n : Nat) : Bool := s.busMaster && s.hostReach (a + n - 1)

/-- Writes the bytes of a beat at the destination (R411, R412): the STATUS of a write that fails. -/
def State.dmaWrite (s : State) (ch : Nat) (at0 : Bool) (addr : Nat) (l : List Byte) : Except Nat State :=
  let dst := s.dmaDst ch
  if dst.space = spDram then
    (if s.writeFails (addr % 2 ^ 40) l.length then .error dmaWriteFail else .ok (s.setMem (addr % 2 ^ 40) l))
  else if dst.space = spHost then
    (if s.hostOpen addr l.length then .ok { s with hostOut := s.hostOut ++ [⟨BitVec.ofNat 64 addr, l⟩] } else .error dmaHostErr)
  else
    let k := dst.addr.toNat % 32
    let s := if at0 then s.queueOpen k (0x40 + ch) (s.dmaA ch / 8) 0 else s
    .ok ((wordsOf l).foldl (fun s w => s.queuePayload k w) s)

/-- The length of the next beat (R409, the text before R414): up to 64 bytes that cross no 64-byte boundary of the source and
no row; a queue source gives the words that it holds. -/
def State.dmaBeatLen (s : State) (ch : Nat) : Nat :=
  let src := s.dmaSrc ch
  let (o, b, c) := s.dmaPlace ch
  let row := s.dmaA ch - o
  if src.space = spQueue then min row (min 64 (8 * (s.queue (src.addr.toNat % 32)).words.length))
  else min row (64 - (src.row b c + o) % 64)

/-- Bytes were written: the count and the CRC follow (R412, R413). -/
def State.dmaWrote (s : State) (ch : Nat) (l : List Byte) : State :=
  let n := ch / 8
  let c := ch % 8
  let s := s.setReg64 (R.DMA_CH_DONE_LO n c) (R.DMA_CH_DONE_HI n c) (BitVec.ofNat 64 (s.dmaMoved ch + l.length))
  s.setReg (R.DMA_CH_CRC n c) (BitVec.ofNat 32 (crc32c (s.reg (R.DMA_CH_CRC n c)).toNat l))

/-- Reads the bytes of the next beat: the STATUS of a failure, or the bytes. `data` are the bytes that host completions have
returned. -/
def State.dmaRead (s : State) (ch len : Nat) (data : List Byte) : Except (Nat × State) (List Byte × State) :=
  let src := s.dmaSrc ch
  let (o, b, c) := s.dmaPlace ch
  let a := (src.row b c + o) % 2 ^ 40
  if src.space = spDram then
    (if s.rangeDown a len then .error (dmaPoison, s) else .ok (s.memBytes a len, s))
  else if src.space = spHost then
    (if s.hostOpen (src.row b c + o) len then .ok (data.take len, s) else .error (dmaHostErr, s))
  else
    match State.dmaTake (src.addr.toNat % 32) (len / 8) s with
    | (_, true, s) => .error (dmaEcc, s)
    | (l, false, s) => .ok (l, s)

/-- One beat of a channel that does not wait (R412 to R414): read, checked in the channel's buffer, written; a failure ends the
transfer. -/
def State.dmaBeat (s : State) (ch : Nat) (data : List Byte) : State :=
  let (o, b, c) := s.dmaPlace ch
  match s.dmaRead ch (s.dmaBeatLen ch) data with
  | .error (st, s) => s.dmaEnd ch st
  | .ok (l, s) =>
    match s.takeInj (P.DMA (ch / 8)) X.DMA_BUF_UC with
    | (true, s) => (s.faultInj (P.DMA (ch / 8)) X.DMA_BUF_UC true).dmaEnd ch dmaEcc
    | (false, s) =>
      match s.dmaWrite ch (o == 0) ((s.dmaDst ch).row b c + o) l with
      | .error st => s.dmaEnd ch st
      | .ok s =>
        let s := s.dmaWrote ch l
        if s.dmaMoved ch < s.dmaLen ch && s.dmaBlocked ch then
          s.setFlag (F.DMA_CH_STAT_WAITING (ch / 8) (ch % 8)) true
        else s

/-- The next beat of a channel reads from the host, which no request may reach (R430, R432). -/
def State.dmaShut (s : State) (ch : Nat) : Bool :=
  let (o, b, c) := s.dmaPlace ch
  (s.dmaSrc ch).space == spHost && !s.hostOpen ((s.dmaSrc ch).row b c + o) (s.dmaBeatLen ch)

/-- The channel can move a beat: ACTIVE, not waiting, not all moved, and with bytes from the host where it reads there; a beat
that no request may reach fails at once. -/
def State.dmaReady (s : State) (ch : Nat) (data : List Byte) : Bool :=
  s.dmaActive ch && !s.dmaWaiting ch && decide (s.dmaMoved ch < s.dmaLen ch)
    && ((s.dmaSrc ch).space != spHost || decide (s.dmaBeatLen ch ≤ data.length) || s.dmaShut ch)

/-- A beat fails (R412, R422): nothing of it is written. -/
def State.dmaFail (s : State) (ch : Nat) (e : DmaError) : State :=
  let s := match e with
    | .queueUc => ((s.queueTake ((s.dmaSrc ch).addr.toNat % 32) .double).map (fun (x : BitVec 64 × Bool × Bool × State) => x.2.2.2)).getD s
    | .bufUc => s.fault (P.DMA (ch / 8)) X.DMA_BUF_UC
    | _ => s
  s.dmaEnd ch (dmaStatus e)

/-- Moves beats until the transfer waits, ends, or lacks data, or until `fail` beats have moved and the next one fails. -/
def State.dmaRun (ch : Nat) : Nat → List Byte → Option (Nat × DmaError) → State → State
  | 0, _, _, s => s
  | n + 1, data, fail, s =>
    if !s.dmaActive ch || s.dmaWaiting ch then s
    else if s.dmaLen ch ≤ s.dmaMoved ch then s.dmaComplete ch
    else
      match fail with
      | some (0, e) => s.dmaFail ch e
      | _ =>
        if !s.dmaReady ch data then s
        else
          let len := s.dmaBeatLen ch
          State.dmaRun ch n (if (s.dmaSrc ch).space = spHost then data.drop len else data)
            (fail.map (fun x => (x.1 - 1, x.2))) (s.dmaBeat ch data)

/-- The key of an urgency and priority in the mover's memory of the channel last chosen. -/
def State.dmaRank (s : State) (ch : Nat) : Nat :=
  (if s.flag (F.DMA_CH_CTRL_URGENT (ch / 8) (ch % 8)) then 8 else 0) + s.fld (F.DMA_CH_CTRL_PRIO (ch / 8) (ch % 8))

/-- The channel that the mover chooses at a burst boundary (R414): the highest rank, round robin within it. -/
def State.dmaChoose (s : State) : Option Nat :=
  let r := (List.range 32).filter (fun ch => s.dmaReady ch [])
  let top := (r.map s.dmaRank).foldl max 0
  let last := sget 31 s.mover.chosen top
  ((List.range 32).map (fun i => (last + 1 + i) % 32)).find? (fun ch => r.contains ch && s.dmaRank ch == top)

/-- The mover's DCLK (R414, R415): the burst in progress goes on, unless its channel is not ready, its beats are used up or
an urgent channel is ready while it is not urgent; else a channel is chosen. One beat moves. -/
def State.dmaTick (s : State) : State :=
  let goes := fun (ch : Nat) => s.dmaReady ch [] && s.mover.left != 0
    && (decide (8 ≤ s.dmaRank ch) || !(List.range 32).any (fun i => s.dmaReady i [] && decide (8 ≤ s.dmaRank i)))
  match (match s.mover.cur with
    | some ch => if goes ch then some (ch, s.mover.left, s.mover.chosen) else none
    | none => none).or (s.dmaChoose.map (fun ch => (ch, s.fld (F.DMA_ARB_BURST 0), sset 31 s.mover.chosen (s.dmaRank ch) ch)))
  with
  | none => { s with mover := { s.mover with cur := none, left := 0 } }
  | some (ch, left, chosen) => { s with mover := { cur := some ch, left := left - 1, chosen := chosen } }.dmaBeat ch []

/-- Every active channel of `pages` ends with a STATUS (R332, R412). -/
def State.dmaEndAll (s : State) (chans : List Nat) (st : Nat) : State :=
  chans.foldl (fun s ch => if s.dmaActive ch then s.dmaEnd ch st else s) s

/-- Transfers with a host side end (R428, R430). -/
def State.dmaHostEnd (s : State) : State :=
  s.dmaEndAll ((List.range 32).filter (fun ch => (s.dmaSrc ch).space == spHost || (s.dmaDst ch).space == spHost)) dmaHostErr

/-- A write of DMA_CH_CTRL (R412, R424). An ABORT changes no other bit. -/
def dmaCtrlRule (ch : Nat) (v : Word) (s : State) : WRule :=
  let off := R.DMA_CH_CTRL (ch / 8) (ch % 8)
  let start := v.getLsbD 0
  let abort := v.getLsbD 1
  { stateOk := (!start || (!s.dmaActive ch && s.mode != mQuarantine && s.dev.sleep.target == 0)) && (abort || !s.dmaActive ch)
    rangeOk := !(start && abort)
    eff := fun s =>
      if s.dmaActive ch then
        (if s.dmaLen ch ≤ s.dmaMoved ch && !s.dmaWaiting ch then s.dmaComplete ch else s.dmaEnd ch dmaAborted)
      else
        let s := s.setReg off (v &&& 0x7C)
        if start then s.dmaStart ch else s }

/-- A write of a DMAn page (16). -/
def dmaRule (_ : Agent) (n off : Nat) (v : Word) (s : State) : WRule :=
  if off = R.DMA_ARB 0 then
    { rangeOk := bitsOf v.toNat 4 0 != 0 && decide (bitsOf v.toNat 4 0 ≤ 16), eff := fun s => s.setReg off (v &&& 0x1F) }
  else if R.DMA_CH_CTRL n 0 ≤ off ∧ off < R.DMA_CH_CTRL n 8 then
    let c := (off - R.DMA_CH_CTRL n 0) / 0x80
    let o := (off - R.DMA_CH_CTRL n 0) % 0x80
    let idle := !s.dmaActive (8 * n + c)
    if o = 0 then dmaCtrlRule (8 * n + c) v s
    else if o = 4 then
      { stateOk := idle, rangeOk := bitsOf v.toNat 1 0 != 3 && bitsOf v.toNat 9 8 != 3
        eff := fun s => s.setReg off (v &&& 0x303) }
    else if o = 0x38 then { stateOk := idle, eff := fun s => s.setReg off (v &&& 0xFF) }
    else if o = 0x3C then { stateOk := idle, eff := fun s => s.setReg off (v &&& 0xFFFF) }
    else if o < 0x3C then { stateOk := idle, eff := fun s => s.setReg off v }
    else ignored
  else ignored

/-- DMA_START (R410): a write of DMA_CH_CTRL with START set and `v` in CRC_WR, URGENT and PRIO. -/
def execDmaStart (a : Agent) (ch : Fin 32) (v : BitVec 5) (s : State) : Host.Outcome State Fault Refusal :=
  let off := R.DMA_CH_CTRL (ch.val / 8) (ch.val % 8)
  done (s.writeBy a .dma (P.DMA (ch.val / 8)) off (dmaRule a (ch.val / 8) off (BitVec.ofNat 32 (v.toNat * 4 + 1)) s))

/-- DMA_ABORT (R412): ABORT is written and the other fields keep their values; one to a channel that is not ACTIVE is ignored (R424). -/
def execDmaAbort (a : Agent) (ch : Fin 32) (s : State) : Host.Outcome State Fault Refusal :=
  let off := R.DMA_CH_CTRL (ch.val / 8) (ch.val % 8)
  done (s.writeBy a .dma (P.DMA (ch.val / 8)) off (dmaRule a (ch.val / 8) off ((s.reg off &&& 0x7C) ||| 2) s))

/-- DMA_DONE (R412, R416): the beats left move, with `data` from the host, and the transfer ends. -/
def execDmaDone (ch : Fin 32) (data : List Byte) (fail : Option (Nat × DmaError)) (s : State) :
    Host.Outcome State Fault Refusal :=
  done (State.dmaRun ch.val (s.dmaLen ch.val - s.dmaMoved ch.val + 1) data fail s)

/-- DMA_QUEUE_WAIT_END (R411). -/
def execDmaQueueWaitEnd (ch : Fin 32) (s : State) : Host.Outcome State Fault Refusal :=
  done (if s.dmaActive ch.val && s.dmaWaiting ch.val && !s.dmaBlocked ch.val then
      s.setFlag (F.DMA_CH_STAT_WAITING (ch.val / 8) (ch.val % 8)) false
    else s)

/-- DMA_QUEUE_TIMEOUT (R411). -/
def execDmaQueueTimeout (ch : Fin 32) (s : State) : Host.Outcome State Fault Refusal :=
  done (if s.dmaActive ch.val && s.dmaWaiting ch.val && s.fld (F.DMA_CH_TMO_US (ch.val / 8) (ch.val % 8)) != 0 then
      s.dmaEnd ch.val dmaTimeout
    else s)

end Sys2Proof.Machine
end

