-- ==== Sys2Proof/Machine/Gang.lean ====
section
/-! DEFINITION. What the blocks of the pattern path share: sequencers, pins and gangs; pattern memory; the encodings of a block;
the report of a contained fault (03, 05, 06). -/

namespace Sys2Proof.Machine

open Sys2Proof

/-! ### Sequencers, timing groups, pins -/

/-- The state behind SEQn. -/
def State.seq (s : State) (n : Nat) : Seq := sget Seq.init s.seqs n

/-- Stores the state behind SEQn. -/
def State.setSeq (s : State) (n : Nat) (q : Seq) : State := { s with seqs := sset Seq.init s.seqs n q }

/-- The state behind TGn. -/
def State.tg (s : State) (n : Nat) : Tg := sget Tg.init s.tgs n

/-- Stores the state behind TGn. -/
def State.setTg (s : State) (n : Nat) (x : Tg) : State := { s with tgs := sset Tg.init s.tgs n x }

/-- A pin channel, 0 to 255. -/
def State.pin (s : State) (ch : Nat) : Pin := sget Pin.safe s.pins ch

/-- Stores a pin channel. -/
def State.setPin (s : State) (ch : Nat) (x : Pin) : State := { s with pins := sset Pin.safe s.pins ch x }

/-- The state behind synthesis channel SYn. -/
def State.syn (s : State) (n : Nat) : Syn := sget Syn.init s.syns n

/-- Stores the state behind a synthesis channel. -/
def State.setSyn (s : State) (n : Nat) (x : Syn) : State := { s with syns := sset Syn.init s.syns n x }

/-- The pins whose DRV line SYn drives, with the inverse for PIN_B (R270). -/
def State.synPins (s : State) (n : Nat) : List (Nat × Bool) :=
  if s.fld (F.SYN_CFG_OUT n) != 1 then []
  else (if s.flag (F.SYN_PIN_EN_A n) then [(s.fld (F.SYN_PIN_PIN_A n), false)] else [])
    ++ (if s.flag (F.SYN_PIN_EN_B n) then [(s.fld (F.SYN_PIN_PIN_B n), true)] else [])

/-- The DRV line of a pin channel is bound to a synthesis channel (R270). -/
def State.synBound (s : State) (ch : Nat) : Bool := (List.range 16).any (fun n => (s.synPins n).any (fun x => x.1 == ch))

/-- A pin enters the safe state of R16; its edges not yet placed are discarded (R154). -/
def Pin.toSafe (x : Pin) : Pin := { Pin.safe with strobes := x.strobes, taken := x.taken }

/-- Pins enter the safe state (R154). -/
def State.safePins (s : State) (l : List Nat) : State := l.foldl (fun s ch => s.setPin ch (s.pin ch).toSafe) s

/-- SEQ_STATE.STATE codes. -/
abbrev rsIdle : Nat := 1
abbrev rsArmed : Nat := 2
abbrev rsRunning : Nat := 3
abbrev rsPaused : Nat := 4
abbrev rsHold : Nat := 5

/-- What SQn does: IDLE, RUNNING, PAUSED or HOLD (the stored state). -/
def State.runState (s : State) (n : Nat) : Nat := s.fld (F.SEQ_STATE_STATE n)

/-- The gang of SQn is RUNNING, PAUSED or in HOLD. -/
def State.gangRuns (s : State) (n : Nat) : Bool :=
  s.runState n == rsRunning || s.runState n == rsPaused || s.runState n == rsHold

/-- SEQ_STATE.STATE as it reads: UNBOUND, or ARMED while a partition of an idle gang is ARMED (DEDUCED from R123 and R473). -/
def State.seqState (s : State) (n : Nat) : Nat :=
  if !s.bound n then 0
  else if s.runState n == rsIdle && (s.gangParts n).any (fun k => s.pstate k == pArmed) then rsArmed
  else s.runState n

/-- The partition that holds a pin channel (R15). -/
def State.pinPart (s : State) (ch : Nat) : Option Nat :=
  (List.range 64).find? (fun k => s.defined k && (s.quads k).testBit (ch / 4))

/-- The pin channels of a partition, in rising order. -/
def State.partPins (s : State) (k : Nat) : List Nat := (List.range 256).filter (fun ch => (s.quads k).testBit (ch / 4))

/-- The pin channels of the gang of SQn. -/
def State.gangPins (s : State) (n : Nat) : List Nat :=
  (s.gangGroups n).flatMap (fun t => (List.range 16).map (fun p => 16 * t + p))

/-- The number of the next cycle of SQn. -/
def State.cycleNo (s : State) (n : Nat) : Nat := (s.reg64 (R.SEQ_CYCLE_LO n) (R.SEQ_CYCLE_HI n)).toNat

/-- The masked partitions of SQn (R17). -/
def State.pmask (s : State) (n : Nat) : Nat := (s.reg64 (R.SEQ_PMASK_LO n) (R.SEQ_PMASK_HI n)).toNat

/-- The matched partitions of SQn. -/
def State.pmatch (s : State) (n : Nat) : Nat := (s.reg64 (R.SEQ_PMATCH_LO n) (R.SEQ_PMATCH_HI n)).toNat

/-- Masks partition `k` for the rest of the pattern. -/
def State.maskPart (s : State) (n k : Nat) : State :=
  s.setReg64 (R.SEQ_PMASK_LO n) (R.SEQ_PMASK_HI n) (BitVec.ofNat 64 (s.pmask n ||| 2 ^ k))

/-- The partitions of the gang that are RUNNING or PAUSED. -/
def State.liveParts (s : State) (n : Nat) : List Nat :=
  (s.gangParts n).filter (fun k => s.pstate k == pRunning || s.pstate k == pPaused)

/-- The unmasked partitions of the gang (R17). -/
def State.openParts (s : State) (n : Nat) : List Nat := (s.liveParts n).filter (fun k => !(s.pmask n).testBit k)

/-- An address of 42 bits in a LO and HI register pair of instruction addresses. -/
def State.setAddr (s : State) (lo hi a : Nat) : State :=
  (s.setReg lo (BitVec.ofNat 32 (a % 2 ^ 32))).setReg hi (BitVec.ofNat 32 (a / 2 ^ 32 % 1024))

/-- A contained fault of the gang of SQn is reported (R115, R154): its pins go to the safe state; the stop, with its cause, is
recorded at the next boundary. -/
def State.gangFault (s : State) (n cause : Nat) : State :=
  if s.gangRuns n then
    let q := s.seq n
    (s.setSeq n { q with fault := some (q.fault.getD cause) }).safePins (s.gangPins n)
  else s

/-! ### Pattern memory (R172, R173) -/

/-- Page states of R173. -/
abbrev pgNone : Nat := 0
abbrev pgAbsent : Nat := 1
abbrev pgFetching : Nat := 2
abbrev pgResident : Nat := 3
abbrev pgHome : Nat := 4
abbrev pgFailed : Nat := 5

/-- The DRAM address of the entry pair of page `v`, where its level-2 table exists (R173). -/
def State.pageEntry (s : State) (v : Nat) : Option Nat :=
  let e := s.memNat (s.fld F.PGR_PT_BASE_L1 * 16384 + 8 * (v / 1024)) 8
  if s.flag (F.xx_CTRL_ENABLE P.PGR) && e.testBit 63 then some (e % 2 ^ 25 * 16384 + 16 * (v % 1024)) else none

/-- The LOC and STATE words of a page; zeros where no table covers it. -/
def State.pageWords (s : State) (v : Nat) : Nat × Nat :=
  match s.pageEntry v with
  | none => (0, 0)
  | some a => (s.memNat a 8, s.memNat (a + 8) 8)

/-- Stores the LOC and STATE words of a page whose table exists. -/
def State.setPage (s : State) (v loc st : Nat) : State :=
  match s.pageEntry v with
  | none => s
  | some a => (s.setMemNat a 8 loc).setMemNat (a + 8) 8 st

/-- STATE of a page. -/
def State.pageState (s : State) (v : Nat) : Nat := bitsOf (s.pageWords v).2 63 61

/-- The DRAM address of a pattern address whose page is RESIDENT or HOME. -/
def State.patAddr (s : State) (a : Nat) : Option Nat :=
  let st := (s.pageWords (a / 2 ^ 21)).2
  if bitsOf st 63 61 = pgResident ∨ bitsOf st 63 61 = pgHome then some (bitsOf st 49 32 * 2 ^ 21 + a % 2 ^ 21) else none

/-- The walker and cache of a sequencer. -/
def State.walker (s : State) (n : Nat) : Walker := sget Walker.init s.pager.walkers n

/-- Stores the walker and cache of a sequencer. -/
def State.setWalker (s : State) (n : Nat) (w : Walker) : State :=
  { s with pager := { s.pager with walkers := sset Walker.init s.pager.walkers n w } }

/-- A line of a sequencer's slices, if present. -/
def State.line (s : State) (n l : Nat) : Option CacheLine := (s.walker n).lines.find? (fun x => x.line == l)

/-- The byte that SQn reads at a pattern address: from its slices; for a line that is not there, what DRAM holds. -/
def State.seqByte (s : State) (n a : Nat) : Byte :=
  match s.line n (a / 4096) with
  | some x => x.bytes.getD (a % 4096) 0
  | none => ((s.patAddr a).map s.memByte).getD 0

/-- A little-endian number of `k` bytes at a pattern address, as SQn reads it. -/
def State.seqNat (s : State) (n a k : Nat) : Nat := leNat ((List.range k).map (fun i => s.seqByte n (a + i)))

/-! ### Encodings of a block (R65 to R68) -/

/-- `x` rounded up to a multiple of 64. -/
def ceil64 (x : Nat) : Nat := (x + 63) / 64 * 64

/-- The space left from an address to the end of its page. -/
def pageLeft (a : Nat) : Nat := 2 ^ 21 - a % 2 ^ 21

/-- Vector `i` of a RAW block (R65): lanes, and the side word. `rd a k` reads `k` bytes. -/
def rawVector (rd : Nat → Nat → Nat) (g : Nat) (side : Bool) (len base i : Nat) : List Nat × Nat :=
  ((List.range g).map (fun l => rd (base + (i * g + l) * 8) 8),
    if side then rd (base + ceil64 (len * g * 8) + 2 * i) 2 else 0)

/-- The size of an RLE record (R66). -/
def rleRecord (g : Nat) (side : Bool) : Nat := 8 + 8 * g + (if side then 8 else 0)

/-- The unrounded size of an RLE block of `len` vectors (R66), none where it is malformed (R68): a count that passes LEN, or
the end of the page. The first argument bounds the records of a page. -/
def rleSize (rd : Nat → Nat → Nat) (g : Nat) (side : Bool) (limit : Nat) : Nat → Nat → Nat → Option Nat
  | _, _, 0 => some 0
  | 0, _, _ => none
  | f + 1, a, len =>
    let c := rd a 8 % 2 ^ 20
    if limit < a + rleRecord g side ∨ len < c then none
    else (rleSize rd g side limit f (a + rleRecord g side) (len - c)).map (· + rleRecord g side)

/-- Vector `i` of an RLE block (R66). -/
def rleVector (rd : Nat → Nat → Nat) (g : Nat) (side : Bool) : Nat → Nat → Nat → List Nat × Nat
  | 0, _, _ => ([], 0)
  | f + 1, a, i =>
    let c := rd a 8 % 2 ^ 20
    if i < c then ((List.range g).map (fun l => rd (a + 8 + 8 * l) 8), if side then rd (a + 8 + 8 * g) 2 else 0)
    else rleVector rd g side f (a + rleRecord g side) (i - c)

/-- The words of one group of a DELTA stream (R67): bit `i` of the map word says that word `i` follows at `a`. Answers the
words and the address after them. -/
def deltaGroup (rd : Nat → Nat → Nat) (map : Nat) : List Nat → Nat → List Nat × Nat
  | [], a => ([], a)
  | i :: t, a =>
    if map.testBit i then
      (match deltaGroup rd map t (a + 8) with
       | (l, e) => (rd a 8 :: l, e))
    else
      match deltaGroup rd map t a with
      | (l, e) => (0 :: l, e)

/-- The difference words of a DELTA block and the address after them (R67); none where it is malformed (R68). -/
def deltaWords (rd : Nat → Nat → Nat) (limit : Nat) : Nat → Nat → Nat → Option (List Nat × Nat)
  | _, a, 0 => some ([], a)
  | 0, _, _ => none
  | f + 1, a, left =>
    let n := min 64 left
    let map := rd a 8
    if limit < a + 8 ∨ map / 2 ^ n ≠ 0 then none
    else
      match deltaGroup rd map (List.range n) (a + 8) with
      | (l, e) =>
        if limit < e then none
        else (deltaWords rd limit f e (left - n)).map (fun x => (l ++ x.1, x.2))

/-- Vector words of a DELTA block (R67). -/
def deltaWidth (g : Nat) (side : Bool) : Nat := g + (if side then 1 else 0)

/-- Vector `i` of a DELTA block (R67): the words of vector 0 with the differences of vectors 1 to `i` added by XOR. -/
def deltaVector (rd : Nat → Nat → Nat) (g : Nat) (side : Bool) (base i : Nat) (diffs : List Nat) : List Nat × Nat :=
  let w := deltaWidth g side
  let word := fun j => (List.range i).foldl (fun x k => x ^^^ diffs.getD (k * w + j) 0) (rd (base + 8 * j) 8)
  ((List.range g).map word, if side then word g % 65536 else 0)

/-- The most RLE records, or DELTA groups, that a page holds. -/
abbrev pageUnits : Nat := 262144

/-- The stored size of a block (R65 to R67), none where it is malformed (R68). -/
def storedSize (rd : Nat → Nat → Nat) (g : Nat) (side : Bool) (enc len base : Nat) : Option Nat :=
  let left := pageLeft base
  let fits := fun x => if x ≤ left then some x else none
  if enc = 0 then fits (ceil64 (len * g * 8) + (if side then ceil64 (len * 2) else 0))
  else if enc = 1 then ((rleSize rd g side (base + left) pageUnits base len).map ceil64).bind fits
  else if enc = 2 then
    let w := deltaWidth g side
    ((deltaWords rd (base + left) pageUnits (base + 8 * w) ((len - 1) * w)).map (fun x => ceil64 (x.2 - base))).bind fits
  else none

/-- Vector `i` of a block. -/
def blockVector (rd : Nat → Nat → Nat) (g : Nat) (side : Bool) (enc len base i : Nat) : List Nat × Nat :=
  if enc = 0 then rawVector rd g side len base i
  else if enc = 1 then rleVector rd g side pageUnits base i
  else
    let w := deltaWidth g side
    deltaVector rd g side base i
      (((deltaWords rd (base + pageLeft base) pageUnits (base + 8 * w) ((len - 1) * w)).map Prod.fst).getD [])

/-! ### Admission (R181) -/

/-- Every line of a range is present in the slices of SQn. -/
def State.linesPresent (s : State) (n a len : Nat) : Bool :=
  len == 0 || (List.range ((a + len - 1) / 4096 + 1 - a / 4096)).all (fun i => (s.line n (a / 4096 + i)).isSome)

/-- The block of an instruction at `pc` with data of `size` bytes at `base` is admitted (R181). -/
def State.admitted (s : State) (n pc base size : Nat) : Bool :=
  s.linesPresent n pc 16 && s.linesPresent n base (min size 524288)

/-- The record line is present, and so is the data from which the stored size is found. -/
def State.sizeKnown (s : State) (n base : Nat) : Bool := (s.line n (base / 4096)).isSome || (s.patAddr base).isSome

end Sys2Proof.Machine
end

