-- ==== Sys2Proof/Machine/Hic.lean ====
section
/-! DEFINITION. The interrupt controller: sources, targets, claim and complete, moderation, MSI-X (12, R313 to R322). -/

namespace Sys2Proof.Machine

open Sys2Proof

/-- HIC_SRC_CFG right after reset: TARGET MGMT, LEVEL 0. -/
abbrev hicCfgReset : Word := 0x800

/-- HIC_SRC_CFG of a source. -/
def State.srcCfg (s : State) (i : Nat) : Word := sget hicCfgReset s.hic.cfg i

/-- LEVEL of a source. -/
def State.srcLevel (s : State) (i : Nat) : Nat := bitsOf (s.srcCfg i).toNat 3 0

/-- TARGET of a source. -/
def State.srcTarget (s : State) (i : Nat) : Nat := bitsOf (s.srcCfg i).toNat 11 8

/-- VECTOR of a source. -/
def State.srcVector (s : State) (i : Nat) : Nat := bitsOf (s.srcCfg i).toNat 31 24

/-- A source is pending. -/
def State.srcPending (s : State) (i : Nat) : Bool := s.bit (R.HIC_PEND (i / 32)) (i % 32)

/-- A source is enabled. -/
def State.srcEnabled (s : State) (i : Nat) : Bool := s.bit (R.HIC_EN (i / 32)) (i % 32)

/-- The nesting stack of a target, top first. -/
def State.nest (s : State) (t : Nat) : List (Nat × Nat) := sget [] s.hic.stack t

/-- Stores the nesting stack of a target. -/
def State.setNest (s : State) (t : Nat) (l : List (Nat × Nat)) : State :=
  { s with hic := { s.hic with stack := sset [] s.hic.stack t l } }

/-- The effective threshold of a target (R316). -/
def State.threshold (s : State) (t : Nat) : Nat :=
  let th := s.fld (F.HIC_T_THRESH_THRESH t)
  if t = 9 then th else max th (((s.nest t).head?.map Prod.snd).getD 0)

/-- A source is deliverable to a target (R316). -/
def State.deliverable (s : State) (t i : Nat) : Bool :=
  s.srcPending i && s.srcEnabled i && s.srcTarget i == t && decide (s.threshold t < s.srcLevel i)

/-- The deliverable source of the highest LEVEL, the lower number on equal levels (R318). -/
def State.bestSource (s : State) (t : Nat) : Option Nat :=
  ((List.range 512).filter (s.deliverable t)).foldl (fun b i => match b with
    | none => some i
    | some j => if s.srcLevel j < s.srcLevel i then some i else some j) none

/-- A hold-off of a target is running. -/
def State.heldOff (s : State) (t : Nat) : Bool := sget false s.hic.held t

/-- Stores the hold-off of a target. -/
def State.setHeldOff (s : State) (t : Nat) (b : Bool) : State :=
  { s with hic := { s.hic with held := sset false s.hic.held t b } }

/-- A target is idle (R321): in WFI with an empty stack; the host never. -/
def State.targetIdle (s : State) (t : Nat) : Bool := t != 9 && (s.hart t).wfi && (s.nest t).isEmpty

/-- Moderation permits a notification (R321). -/
def State.notModerated (s : State) (t : Nat) : Bool :=
  !s.heldOff t || s.targetIdle t || (List.range 512).any (fun i => s.deliverable t i
    && decide (s.fld (F.HIC_T_MOD_BYPASS t) ≤ s.srcLevel i))

/-- The notification of a target is asserted (R317): MEIP of a hart, MGMT's external interrupt input. -/
def State.notify (s : State) (t : Nat) : Bool := (s.bestSource t).isSome && s.notModerated t

/-- A delivery to a target is counted and starts its hold-off (R321). -/
def State.delivered (s : State) (t : Nat) : State :=
  let s := (s.count (R.HIC_T_DELIV t)).count (R.xx_BLK_COUNT P.HIC)
  if s.fld (F.HIC_T_MOD_HOLDOFF t) != 0 then s.setHeldOff t true else s

/-- The check of a source's configuration when it is read for a delivery: an inverted check bit (R39) is a double-bit error,
and the source is at LEVEL 0 until rewritten. -/
def State.checkSource (s : State) (i : Nat) : State :=
  match s.takeInj P.HIC X.HIC_CFG_ECC with
  | (true, s) =>
    ({ s with hic := { s.hic with cfg := sset hicCfgReset s.hic.cfg i (s.srcCfg i &&& 0xFFFFFFF0) } }).faultInj P.HIC
      X.HIC_CFG_ECC true
  | (false, s) => s

/-- The agent that claims and completes for a target (R318). -/
def claims (a : Agent) (t : Nat) : Bool :=
  match a with
  | .hart h => h.val == t
  | .mgmt => t == 8
  | _ => false

/-- A claim (R318): the word read and the state after. -/
def State.hicClaim (s : State) (a : Agent) (t : Nat) : Word × State :=
  if !claims a t then (0, s)
  else
    match s.bestSource t with
    | none => (0, s)
    | some i =>
      let s := s.checkSource i
      if !s.deliverable t i then (0, s)
      else
        let l := s.srcLevel i
        (BitVec.ofNat 32 (2 ^ 31 + l * 512 + i),
          ((s.setBit (R.HIC_PEND (i / 32)) (i % 32) false).setNest t ((i, l) :: s.nest t)).delivered t)

/-- A write of HIC_T_COMPLETE (R319, R322). -/
def completeRule (a : Agent) (t : Nat) (v : Word) (s : State) : WRule :=
  { agentOk := t == 9 || claims a t
    stateOk := t != 9 && (s.nest t).head?.map Prod.fst == some (bitsOf v.toNat 8 0)
    eff := fun s => s.setNest t (s.nest t).tail }

/-- A write of HIC_SWI (R314). -/
def swiRule (v : Word) : WRule :=
  { eff := fun s => ((List.range 16).filter (fun i => v.getLsbD i)).foldl (fun s i => s.pulse (468 + i)) s }

/-- A source that is not bindable (R313). -/
def fixedSource (i : Nat) : Bool := decide (460 ≤ i) && decide (i ≤ 483)

/-- A write of the HIC page (12). -/
def hicRule (a : Agent) (off : Nat) (v : Word) (s : State) : WRule :=
  let i := s.fld F.HIC_SEL_SRC
  if off = R.HIC_SEL then { eff := fun s => s.setReg off (v &&& 0x1FF) }
  else if off = R.HIC_SRC_CFG then
    { rangeOk := decide (bitsOf v.toNat 11 8 ≤ 9)
      eff := fun s => { s with hic := { s.hic with cfg := sset hicCfgReset s.hic.cfg i (v &&& 0xFF000F0F) } } }
  else if off = R.HIC_SRC_BIND then
    { stateOk := !fixedSource i, rangeOk := decide (bitsOf v.toNat 6 0 ≤ 114)
      eff := fun s => { s with hic := { s.hic with bind := sset (bindReset i) s.hic.bind i (v &&& 0x8000007F) } } }
  else if off = R.HIC_SRC_MASK then
    { stateOk := !fixedSource i
      eff := fun s => { s with hic := { s.hic with mask := sset (maskReset i) s.hic.mask i v } } }
  else if off = R.HIC_SWI then swiRule v
  else if R.HIC_EN 0 ≤ off ∧ off ≤ R.HIC_EN 15 then { eff := fun s => s.setReg off v }
  else if R.HIC_PEND 0 ≤ off ∧ off ≤ R.HIC_PEND 15 then { eff := fun s => s.clrReg off v }
  else if R.HIC_T_THRESH 0 ≤ off ∧ off < R.HIC_T_THRESH 10 then
    let t := (off - R.HIC_T_THRESH 0) / 0x20
    if off = R.HIC_T_THRESH t then { eff := fun s => s.setReg off (v &&& 0xF) }
    else if off = R.HIC_T_COMPLETE t then completeRule a t v s
    else if off = R.HIC_T_MOD t then { eff := fun s => s.setReg off (v &&& 0xF000FFFF) }
    else ignored
  else ignored

/-- HIC_T_STAT of a target. -/
def State.targetStat (s : State) (t : Nat) : Word :=
  let n := s.nest t
  let top := n.headD (0, 0)
  BitVec.ofNat 32 ((if s.notify t then 2 ^ 31 else 0) + (if s.heldOff t then 2 ^ 30 else 0)
    + (if s.targetIdle t then 2 ^ 29 else 0) + top.1 * 2 ^ 16 + n.length * 16 + top.2)

/-- Registers of the HIC page that show state other than a stored word. -/
def State.hicRead (s : State) (off : Nat) : Option Word :=
  let i := s.fld F.HIC_SEL_SRC
  if off = R.HIC_SRC_CFG then some (s.srcCfg i)
  else if off = R.HIC_SRC_BIND then some (s.srcBind i)
  else if off = R.HIC_SRC_MASK then some (s.srcMask i)
  else if R.HIC_T_THRESH 0 ≤ off ∧ off < R.HIC_T_THRESH 10 then
    let t := (off - R.HIC_T_THRESH 0) / 0x20
    if off = R.HIC_T_STAT t then some (s.targetStat t) else none
  else none

/-- A block reset of the HIC page (12): reset bindings, LEVEL 0, empty stacks. The MSI-X table is not on the page. -/
def State.hicReset (s : State) : State := { s with hic := { Hic.init with msix := s.hic.msix } }

/-! ### Commands -/

/-- HIC_SWI (R314). -/
def execHicSwi (a : Agent) (bits : BitVec 16) (s : State) : Host.Outcome State Fault Refusal :=
  done (s.writeBy a .hic P.HIC R.HIC_SWI (swiRule (bits.setWidth 32)))

/-- HIC_CLAIM (R318): the agent reads HIC_T_CLAIM of the target. -/
def execHicClaim (a : Agent) (t : Fin 10) (s : State) : Host.Outcome State Fault Refusal :=
  done (if s.responds a then (s.hicClaim a t).2.answer ((s.hicClaim a t).1.setWidth 64) else s)

/-- HIC_COMPLETE (R319). -/
def execHicComplete (a : Agent) (t : Fin 10) (src : BitVec 9) (s : State) : Host.Outcome State Fault Refusal :=
  done (s.writeBy a .hic P.HIC (R.HIC_T_COMPLETE t) (completeRule a t (src.setWidth 32) s))

/-- The entry of the MSI-X table. -/
def State.msixEntry (s : State) (v : Nat) : MsixEntry := sget MsixEntry.init s.hic.msix v

/-- Host sources mapped to vector `v` that are deliverable. -/
def State.vectorSources (s : State) (v : Nat) : List Nat :=
  (List.range 512).filter (fun i => s.deliverable 9 i && s.srcVector i == v)

/-- The conditions of R322 for a message of vector `v`. -/
def State.msixReady (s : State) (v : Nat) : Bool :=
  !(s.vectorSources v).isEmpty && s.notModerated 9 && s.msixOn && !s.msixFnMask && !(s.msixEntry v).masked

/-- The pending bit of a vector in the PBA (R322). -/
def State.msixPending (s : State) (v : Nat) : Bool :=
  !(s.vectorSources v).isEmpty && s.msixOn && (s.msixFnMask || (s.msixEntry v).masked)

/-- The message of a vector is issued (R322): a posted write of the entry's data. -/
def State.msixIssue (s : State) (v : Nat) : State :=
  let e := s.msixEntry v
  let s := (s.vectorSources v).foldl (fun s i => s.setBit (R.HIC_PEND (i / 32)) (i % 32) false) s
  { s.delivered 9 with hostOut := s.hostOut ++ [⟨e.addr, leBytes 4 e.data.toNat⟩] }

/-- MSIX_ISSUE (R322). -/
def execMsixIssue (v : BitVec 8) (s : State) : Host.Outcome State Fault Refusal :=
  done (if s.msixReady v.toNat then s.msixIssue v.toNat else s)

/-- HOLDOFF_EXPIRE (R321). -/
def execHoldoffExpire (t : Fin 10) (s : State) : Host.Outcome State Fault Refusal := done (s.setHeldOff t false)

end Sys2Proof.Machine
end

