-- ==== Sys2Proof/Machine/Time.lean ====
section
/-! DEFINITION. Invar time: the counter, the servo, cycle alignment, pulse generators, event stamps and the TIME page (14). -/

namespace Sys2Proof.Machine

open Sys2Proof

/-- The quotient rounded to nearest, halves away from zero (R373), for a positive divisor. -/
def roundDiv (a : Int) (b : Nat) : Int :=
  if 0 ≤ a then (2 * a + b) / (2 * b) else -((2 * (-a) + b) / (2 * b))

/-- A signed value clamped to 32 bits. -/
def sat32 (i : Int) : Int := max (-2147483648) (min 2147483647 i)

/-- The field word of a signed value in `w` bits. -/
def fieldOf (w : Nat) (i : Int) : Nat := unsignedOf w i

/-! ### The counter (R369, R380, R482) -/

/-- Servo states (R374). -/
abbrev ssOff : Nat := 0
abbrev ssFree : Nat := 1
abbrev ssRoot : Nat := 2
abbrev ssAcquire : Nat := 3
abbrev ssTrack : Nat := 4
abbrev ssLocked : Nat := 5
abbrev ssHoldover : Nat := 6

/-- Alignment states (R378). -/
abbrev asOff : Nat := 0
abbrev asAcquire : Nat := 1
abbrev asTrack : Nat := 2
abbrev asLocked : Nat := 3
abbrev asHold : Nat := 4
abbrev asFail : Nat := 5

/-- The servo state. -/
def State.sstate (s : State) : Nat := s.fld F.TIME_STAT_SSTATE

/-- The alignment state. -/
def State.astate (s : State) : Nat := s.fld F.TIME_STAT_ASTATE

/-- Stores the timebase. -/
def State.setTime (s : State) (t : Time) : State := { s with time := t }

/-- The increment of the counter per DCLK in units of 2^-32 ns (R369, R373). -/
def State.timeInc (s : State) : Int := 2 * 2 ^ 32 + s.time.y - s.time.pterm

/-- The counter moves by a signed number of units of 2^-32 ns. -/
def State.moveCounter (s : State) (i : Int) : State := s.setTime { s.time with ctr := s.time.ctr + BitVec.ofInt 88 i }

/-- One DCLK of the timebase (R369, R226): the counter, TCNT by 4 TCLK, and the copy of R29 every 16 ns. -/
def State.timeTick (s : State) : State :=
  let s := if s.sstate == ssOff then s else s.moveCounter s.timeInc
  let s := if s.flag F.CLK_TPLL_LOCKED then s.setTime { s.time with tcnt := s.time.tcnt + 4 } else s
  if s.dclk % 8 = 0 then s.setTime { s.time with copy := s.now } else s

/-- Enters a servo state (R374): the LOCKED bit and the events of entry and departure. -/
def State.setSstate (s : State) (x : Nat) : State :=
  let old := s.sstate
  if old == x then s
  else
    let s := (s.setFld F.TIME_STAT_SSTATE x).setFlag F.TIME_STAT_LOCKED (x == ssRoot || x == ssLocked)
    let s := if old == ssLocked then s.event P.TIME E.TIME_UNLOCKED else s
    if x == ssLocked then s.event P.TIME E.TIME_LOCKED
    else if x == ssHoldover then (s.setTime { s.time with pterm := 0 }).event P.TIME E.TIME_HOLDOVER
    else s

/-- Enters an alignment state (R378). -/
def State.setAstate (s : State) (x : Nat) : State :=
  let old := s.astate
  if old == x then s
  else
    let s := s.setFld F.TIME_STAT_ASTATE x
    let s := s.setTime { s.time with alignSet := false, avgSum := 0, avgCount := 0, avgIn := 0, avgOut := 0 }
    if x == asLocked then s.event P.TIME E.TIME_ALIGN_LOCKED
    else if old == asLocked then s.event P.TIME E.TIME_ALIGN_LOST else s

/-- The timing PLL locks (R481, R482, R369). -/
def State.tpllLock (s : State) (us : Nat) : State :=
  let s := s.setTime { s.time with tcnt := 0, epoch := s.time.epoch + 1 }
  let s := s.setReg R.CLK_TPLL (BitVec.ofNat 32 (2 ^ 31 + s.time.epoch.toNat * 65536 + us % 65536))
  let s := (s.count (R.xx_BLK_COUNT P.CLK)).event P.CLK E.CLK_TPLL_LOCKED
  if s.sstate == ssOff then s.setSstate ssFree else s

/-- The clocks are gated: the counter stops (R380). -/
def State.timeSleep (s : State) : State := s.setTime { s.time with exch := [] }

/-- The counter resumes after `ticks` ticks of 30,517.578125 ns (R380). -/
def State.timeWake (s : State) (ticks : Nat) : State :=
  let s := (s.moveCounter (ticks * (1953125 * 2 ^ 26))).setSstate ssAcquire
  let s := if s.flag F.TIME_CFG_ALIGN_EN && s.astate != asFail then s.setAstate asHold else s
  s.setTime { s.time with stepBase := none, inLock := 0, outLock := 0 }

/-! ### Steps (R370, R373, R375, R376) -/

/-- A step of the counter, recorded in TIME_STEPS and TIME_LAST_STEP. -/
def State.recordStep (s : State) (ns : Int) : State :=
  ((s.count R.TIME_STEPS).setFld F.TIME_LAST_STEP_NS (fieldOf 32 (sat32 ns))).event P.TIME E.TIME_STEP

/-- The counter is stepped by −e, e in units of 1/64,000 ns. -/
def State.stepBy (s : State) (e : Int) : State :=
  (s.moveCounter (-(roundDiv (e * 2 ^ 23) 125))).recordStep (-(roundDiv e 64000))

/-- A write of TIME_CMD (R376). -/
def timeCmdRule (v : Word) (s : State) : WRule :=
  { stateOk := !v.getLsbD 0 || ((s.sstate == ssFree || s.sstate == ssRoot) && !s.spanHold)
    eff := fun s =>
      if v.getLsbD 0 then
        let t := s.reg64 R.TIME_SET_LO R.TIME_SET_HI
        let d := (t - s.now).toInt
        (s.setTime { s.time with ctr := t.setWidth 88 <<< 24 }).recordStep (roundDiv d 256)
      else s }

/-- TIME_SET (R376). -/
def execTimeSet (a : Agent) (s : State) : Host.Outcome State Fault Refusal :=
  done (s.writeBy a .time P.TIME R.TIME_CMD (timeCmdRule 1 s))

/-! ### The servo (R371 to R375) -/

/-- y limited to ±200 ppm (R373). -/
def clampY (y : Int) : Int := max (-1717987) (min 1717987 y)

/-- Stores y; a correction past the limit is a fault. -/
def State.setY (s : State) (y : Int) : State :=
  let s := s.setTime { s.time with y := clampY y }
  if clampY y == y then s else s.fault P.TIME X.TIME_FREQ_RANGE

/-- Alignment is running (R378): ALIGN_EN is 1 and ASTATE is not FAIL. -/
def State.aligning (s : State) : Bool := s.flag F.TIME_CFG_ALIGN_EN && s.astate != asFail

/-- The counts of accepted exchanges in a row, and LOCKED and TRACK by them (R374). -/
def State.lockCounts (s : State) (e : Int) : State :=
  let t := s.time
  let i := if e.natAbs ≤ s.fld F.TIME_LOCK_LOCK_PS * 64 then t.inLock + 1 else 0
  let o := if e.natAbs > s.fld F.TIME_LOCK_UNLOCK_PS * 64 then t.outLock + 1 else 0
  s.setTime { t with inLock := i, outLock := o }

/-- TRACK becomes LOCKED, LOCKED becomes TRACK (R374). -/
def State.lockState (s : State) : State :=
  if s.sstate == ssTrack && decide (s.fld F.TIME_LOCK_LOCK_CNT ≤ s.time.inLock) then s.setSstate ssLocked
  else if s.sstate == ssLocked && decide (2 ≤ s.time.outLock) then s.setSstate ssTrack
  else s

/-- Rule 3 of R373: the PI loop. -/
def State.servoPi (s : State) (e : Int) : State :=
  let s := s.setY (s.time.y - roundDiv (e * 2 ^ 24) (250 * 2 ^ s.fld F.TIME_GAIN_KI))
  s.setTime { s.time with pterm := roundDiv (e * 2 ^ 24) (250 * 2 ^ s.fld F.TIME_GAIN_KP), stepBase := none }

/-- An exchange that would step while a span slot waits or runs is held (R375). -/
def State.stepHeld (s : State) : State := (s.setFlag F.TIME_STAT_STEP_HELD true).event P.TIME E.TIME_STEP_HELD

/-- The frequency servo on an accepted exchange (R373), departed at DCLK `d`. -/
def State.servo (s : State) (e : Int) (d : Nat) : State :=
  let would := decide (e.natAbs > s.fld F.TIME_STEP_NS * 64000)
  if would && !s.spanHold then
    let s := (s.stepBy e).setSstate ssAcquire
    (s.setTime { s.time with stepBase := some (0, d), pterm := 0 }).setFlag F.TIME_STAT_STEP_HELD false
  else
    let s := if would then s.stepHeld else s.setFlag F.TIME_STAT_STEP_HELD false
    match s.sstate == ssAcquire, s.time.stepBase with
    | true, some (p, d0) =>
      let n := d - d0
      let s := if n = 0 then s else s.setY (s.time.y - roundDiv ((e - p) * 2 ^ 24) (250 * n))
      (s.setTime { s.time with stepBase := none, pterm := 0 }).setSstate ssTrack
    | _, _ =>
      let s := s.servoPi e
      if s.sstate == ssHoldover then s.setSstate ssTrack else s

/-- A new target of the phase trim (R378): outside ±2,000 ps alignment fails. -/
def State.setTarget (s : State) (t : Int) : State :=
  if t.natAbs ≤ 2000 then s.setTime { s.time with target := t, alignSet := true }
  else ((s.setTime { s.time with target := s.time.trim }).setAstate asFail).fault P.TIME X.TIME_TRIM_RANGE

/-- A completed average of residuals (R378 rules 3 and 5), in units of 1/64 ps. -/
def State.alignAverage (s : State) (sum : Int) : State :=
  let n := s.fld F.TIME_ALIGN_ALIGN_AVG
  let lim := s.fld F.TIME_ALIGN_ALIGN_LOCK_PS
  let avg := roundDiv sum (64 * n)
  let s := s.setReg R.TIME_ALIGN_ERR (BitVec.ofInt 32 avg)
  let t := s.time
  let i := if sum.natAbs ≤ lim * 64 * n then t.avgIn + 1 else 0
  let o := if sum.natAbs > 3 * lim * 64 * n then t.avgOut + 1 else 0
  let s := s.setTime { t with avgSum := 0, avgCount := 0, avgIn := i, avgOut := o }
  let s := s.setTarget (s.time.trim + avg)
  if s.astate == asTrack && decide (s.fld F.TIME_LOCK_LOCK_CNT ≤ i) then s.setAstate asLocked
  else if s.astate == asLocked && decide (2 ≤ o) then s.setAstate asTrack
  else s

/-- Alignment on an accepted exchange (R378): the whole part by a step, the residual by the trim. -/
def State.align (s : State) (e : Int) : State :=
  let n := roundDiv e 128000
  let stepped := n != 0 && !s.spanHold
  let s := s.setTime { s.time with y := 0, pterm := 0 }
  let s := if stepped then ((s.stepBy (n * 128000)).setSstate ssAcquire).setFlag F.TIME_STAT_STEP_HELD false
    else if n != 0 then s.stepHeld
    else
      let s := s.setFlag F.TIME_STAT_STEP_HELD false
      if s.sstate == ssAcquire || s.sstate == ssHoldover then s.setSstate ssTrack else s
  let r := e - n * 128000
  let s := if s.astate == asHold || s.astate == asOff then s.setAstate (if s.astate == asHold then asTrack else asAcquire)
    else s
  if s.astate == asAcquire then
    if s.time.alignSet && s.time.trim == s.time.target then s.setAstate asTrack
    else s.setTarget (s.time.trim + roundDiv r 64)
  else
    let t := s.time
    if t.avgCount + 1 < s.fld F.TIME_ALIGN_ALIGN_AVG then
      s.setTime { t with avgSum := t.avgSum + r, avgCount := t.avgCount + 1 }
    else s.alignAverage (t.avgSum + r)

/-- Injected faults of the TIME page are raised at the next accepted exchange. -/
def State.timeInject (s : State) : State :=
  let s := match s.takeInj P.TIME X.TIME_FREQ_RANGE with
    | (true, s) => s.faultInj P.TIME X.TIME_FREQ_RANGE true
    | (false, s) => s
  match s.takeInj P.TIME X.TIME_TRIM_RANGE with
  | (true, s) => s.faultInj P.TIME X.TIME_TRIM_RANGE true
  | (false, s) => s

/-- An accepted exchange reaches the servo (R373, R374, R378). -/
def State.exchangeAccepted (s : State) (e : Int) (d : Nat) : State :=
  let s := (s.setReg R.TIME_OFFSET (BitVec.ofInt 32 (sat32 (roundDiv e 250)))).count (R.xx_BLK_COUNT P.TIME)
  let s := (s.timeInject).lockCounts e
  let s := if s.aligning then s.align e else s.servo e d
  s.lockState

/-- The source of the servo is the link of port `p` (R371). -/
def State.isSource (s : State) (p : Nat) : Bool := s.fld F.TIME_STAT_SRC_PORT == p

/-- The offset of the child from its parent (R372) in units of 1/64,000 ns, from the four stamps. -/
def exchangeOffset (cTx pRx pTx cRx : BitVec 64) (asymPs : Int) : Int :=
  ((cTx - pRx).toInt + (cRx - pTx).toInt) * 125 - asymPs * 64

/-- Twice the channel delay of an exchange (R364), in units of 1/256 ns. -/
def exchangeDelay (cTx pRx pTx cRx : BitVec 64) : Int := (cRx - cTx).toInt - (pTx - pRx).toInt

/-- A completed exchange on port `p` (R372): an outlier for delay, or accepted. -/
def State.exchangeDone (s : State) (p : Nat) (cTx pRx pTx cRx : BitVec 64) (d : Nat) : State :=
  let dl := exchangeDelay cTx pRx pTx cRx
  let far := match sget none s.time.refDelay p with
    | some r => decide ((dl - r).natAbs > 512)
    | none => false
  let k := sget 0 s.time.outliers p
  if far && decide (k < 2) then
    (s.setTime { s.time with outliers := sset 0 s.time.outliers p (k + 1) }).count R.TIME_OUTLIER
  else
    let s := s.setTime { s.time with
      outliers := sset 0 s.time.outliers p 0, refDelay := sset none s.time.refDelay p (some dl) }
    if s.isSource p then
      s.exchangeAccepted (exchangeOffset cTx pRx pTx cRx (signedOf 16 (s.fld (F.TIME_ASYM_ASYM_PS p)))) d
    else s

/-- EXCHANGE_TIMEOUT (R372): the stamps are not complete within 100 µs. -/
def execExchangeTimeout (p : Fin 6) (s : State) : Host.Outcome State Fault Refusal :=
  done (match sget none s.time.exch p.val with
    | none => s
    | some _ =>
      let s := s.setTime { s.time with
        exch := sset none s.time.exch p.val none, outliers := sset 0 s.time.outliers p.val 0 }
      if s.isSource p.val then s.count R.TIME_OUTLIER else s)

/-- HOLDOVER_TIMEOUT (R374): no exchange accepted for 5 ms while a source exists. -/
def execHoldoverTimeout (s : State) : Host.Outcome State Fault Refusal :=
  done (if s.fld F.TIME_STAT_SRC_PORT != 7 && (s.sstate == ssAcquire || s.sstate == ssTrack || s.sstate == ssLocked) then
      s.setSstate ssHoldover
    else s)

/-- The part's place in the tree (R371, R374): root, or the port of its source, or neither. -/
def State.timeRole (s : State) (root : Bool) (src : Option Nat) : State :=
  let src := if root || !s.flag F.TIME_CFG_SERVO_EN then none else src
  let s := s.setFld F.TIME_STAT_SRC_PORT (src.getD 7)
  let x := s.sstate
  if x == ssOff then s
  else if root then
    let s := s.setSstate ssRoot
    if s.aligning then (s.setTime { s.time with trim := 0, target := 0 }).setAstate asLocked else s
  else
    match src with
    | some _ => if x == ssFree || x == ssRoot then s.setSstate ssAcquire else s
    | none =>
      let s := if s.aligning && s.astate != asOff then s.setAstate asHold else s
      if x == ssTrack || x == ssLocked then s.setSstate ssHoldover
      else if x == ssHoldover then s else s.setSstate ssFree

/-- TRIM_SLEW_STEP (R378 rule 4): the trim moves toward its target; it is frozen in HOLD and FAIL. -/
def execTrimSlewStep (s : State) : Host.Outcome State Fault Refusal :=
  let t := s.time
  let k : Int := s.fld F.TIME_ALIGN_TRIM_SLEW
  done (if s.astate == asHold || s.astate == asFail then s
    else s.setTime { t with trim := if t.trim < t.target then min t.target (t.trim + k) else max t.target (t.trim - k) })

/-! ### Event stamps (R384) -/

/-- The source code of a channel. -/
def State.esSource (s : State) (i : Nat) : Nat :=
  bitsOf (s.reg (if i < 4 then R.TIME_ES_SRC_LO else R.TIME_ES_SRC_HI)).toNat (8 * (i % 4) + 7) (8 * (i % 4))

/-- One channel takes an event: its count advances and an entry is pushed, or dropped where the queue is full. -/
def State.esPush (s : State) (i : Nat) : State :=
  let c := (sget 0 s.time.esCount i + 1) % 65536
  let s := s.setTime { s.time with esCount := sset 0 s.time.esCount i c }
  if s.time.queue.length < 64 then
    let s := s.setTime { s.time with queue := s.time.queue ++ [⟨s.now, i, c⟩] }
    s.raiseTo R.TIME_ES_MAX s.time.queue.length
  else s.count R.TIME_ES_LOST

/-- An event of source `code` reaches the stamping channels, in ascending order. -/
def State.stampEvent (s : State) (code : Nat) : State :=
  ((List.range 8).filter (fun i => s.bit R.TIME_ES_EN i && s.esSource i == code)).foldl State.esPush s

/-- A source code of R384. -/
def esCode (c : Nat) : Bool :=
  decide (c ≤ 8) || (decide (0x10 ≤ c) && decide (c ≤ 0x17)) || (decide (0x20 ≤ c) && decide (c ≤ 0x33))

/-- The oldest entry leaves the queue (R384); the stamp, its high half and the INFO word. -/
def State.esPop (s : State) : Word × Word × Word × State :=
  match s.time.queue with
  | [] => (0, 0, 0, s)
  | e :: t => (e.stamp.setWidth 32, (e.stamp >>> 32).setWidth 32,
      BitVec.ofNat 32 (2 ^ 31 + e.chan * 65536 + e.count), s.setTime { s.time with queue := t })

/-- A read of TIME_ES_HEAD_LO by an agent: HEAD_HI and HEAD_INFO are latched for it. -/
def State.esHeadRead (s : State) (a : Agent) : Word × State :=
  let (lo, hi, info, s) := s.esPop
  (lo, (s.latch a R.TIME_ES_HEAD_HI hi).latch a R.TIME_ES_HEAD_INFO info)

/-- TIME_ES_HEAD_READ (R384). -/
def execTimeEsHeadRead (a : Agent) (s : State) : Host.Outcome State Fault Refusal :=
  done (if s.responds a then (s.esHeadRead a).2.answer ((s.esHeadRead a).1.setWidth 64) else s)

/-! ### Pulse generators (R382, R383) -/

/-- The due time of pulse `n` of generator `k`. -/
def State.pgDue (s : State) (k n : Nat) : BitVec 64 :=
  s.reg64 (R.PG_START_LO k) (R.PG_START_HI k)
    + BitVec.ofNat 64 (n * (s.reg64 (R.PG_PERIOD_LO k) (R.PG_PERIOD_HI k)).toNat)

/-- Pulses that the mode allows after the first `n`; none means without end. -/
def State.pgLeft (s : State) (k n : Nat) : Option Nat :=
  let m := s.fld (F.PG_CFG_MODE k)
  if m = 0 then some (1 - n) else if m = 1 then some ((s.reg (R.PG_COUNT k)).toNat - n) else none

/-- Unfired pulses of generator `k` that are due at time `t`. -/
def State.pgDueCount (s : State) (k : Nat) (t : BitVec 64) : Nat :=
  let n := sget 0 s.time.pgNext k
  let d := s.pgDue k n
  let per := (s.reg64 (R.PG_PERIOD_LO k) (R.PG_PERIOD_HI k)).toNat
  if !timeReached t d then 0
  else
    let c := if s.fld (F.PG_CFG_MODE k) = 0 ∨ per = 0 then 1 else (t - d).toNat / per + 1
    match s.pgLeft k n with
    | some l => min c l
    | none => c

/-- Generator `k` fires the first of `m` due pulses, late where `late` holds, and skips the others. -/
def State.pgFire (s : State) (k m : Nat) (late : Bool) : State :=
  let n := sget 0 s.time.pgNext k + m
  let s := s.setTime { s.time with pgNext := sset 0 s.time.pgNext k n }
  let s := s.count (R.PG_FIRED k)
  let s := if late then s.setFlag (F.PG_STAT_LATE k) true else s
  let s := s.setFld (F.PG_STAT_SKIP k) (min 65535 (s.fld (F.PG_STAT_SKIP k) + (m - 1)))
  let s := if s.flag (F.PG_CFG_PIN_EN k) then
      { s with dev := { s.dev with
        trigPulse := (s.fld (F.PG_CFG_PIN k), PulseSource.gen (Fin.ofNat 4 k)) :: s.dev.trigPulse } }
    else s
  let s := if s.fld F.DEV_SYNC_OUT_SRC == 2 && s.fld F.DEV_SYNC_OUT_ARG == k then
      { s with dev := { s.dev with syncPulse := s.fld (F.PG_CFG_WIDTH k) } }
    else s
  let s := if s.pgLeft k n == some 0 then (s.setFlag (F.PG_STAT_DONE k) true).setFlag (F.PG_STAT_ARMED k) false else s
  (s.event P.TIME (E.TIME_PG k)).stampEvent (0x30 + k)

/-- EN of generator `k` is set (R382, R383): pulses already due at the next edge fire late or are skipped. -/
def State.pgArm (s : State) (k : Nat) : State :=
  let s := s.setTime { s.time with pgNext := sset 0 s.time.pgNext k 0 }
  let s := (s.setFld (F.PG_STAT_SKIP k) 0).setReg (R.PG_FIRED k) 0
  if s.pgLeft k 0 == some 0 then (s.setFlag (F.PG_STAT_DONE k) true).setFlag (F.PG_STAT_ARMED k) false
  else
    let s := (s.setFlag (F.PG_STAT_DONE k) false).setFlag (F.PG_STAT_ARMED k) true
    let m := s.pgDueCount k (s.now - 1)
    if m = 0 then s else s.pgFire k m true

/-- A write of PG_CFG (R385). -/
def pgCfgRule (k : Nat) (v : Word) (s : State) : WRule :=
  let en := v.getLsbD 31
  let mode := bitsOf v.toNat 30 29
  let width := bitsOf v.toNat 15 8
  { stateOk := !s.flag (F.PG_CFG_EN k) || !en
    rangeOk := mode != 3 && width != 0 && (!en || mode == 0
      || decide ((width + 1) * 512 ≤ (s.reg64 (R.PG_PERIOD_LO k) (R.PG_PERIOD_HI k)).toNat))
    eff := fun s =>
      let s := s.setReg (R.PG_CFG k) (v &&& 0xE00FFF00)
      if en then s.pgArm k else s.setFlag (F.PG_STAT_ARMED k) false }

/-- PG_ENABLE (R382, R383): EN is written to 1. -/
def execPgEnable (a : Agent) (k : Fin 4) (s : State) : Host.Outcome State Fault Refusal :=
  done (s.writeBy a .time P.TIME (R.PG_CFG k) (pgCfgRule k (s.reg (R.PG_CFG k) ||| 0x80000000) s))

/-- PULSE_FIRE (R382, R383): the pulses due at the present edge; more than one is due only after a forward step. -/
def execPulseFire (k : Fin 4) (s : State) : Host.Outcome State Fault Refusal :=
  let m := s.pgDueCount k s.now
  done (if s.flag (F.PG_STAT_ARMED k.val) && m != 0 then s.pgFire k m (decide (1 < m)) else s)

/-! ### The TIME page (R385) -/

/-- A write of TIME_CFG (R371, R378, R385). -/
def timeCfgRule (v : Word) (s : State) : WRule :=
  { stateOk := !s.spanHold || bitsOf (s.reg R.TIME_CFG).toNat 2 1 == bitsOf v.toNat 2 1
    rangeOk := !v.getLsbD 2 || v.getLsbD 1
    eff := fun s =>
      let was := s.flag F.TIME_CFG_ALIGN_EN
      let s := s.setReg R.TIME_CFG (v &&& 7)
      let s := if was == v.getLsbD 2 then s
        else if v.getLsbD 2 then
          (s.setTime { s.time with y := 0, pterm := 0 }).setAstate (if s.sstate == ssRoot then asLocked else asAcquire)
        else s.setAstate asOff
      s.timeRole (s.sstate == ssRoot) (if s.fld F.TIME_STAT_SRC_PORT == 7 then none else some (s.fld F.TIME_STAT_SRC_PORT)) }

/-- A write of the TIME page (14, R385). -/
def timeRule (off : Nat) (v : Word) (s : State) : WRule :=
  if off = R.TIME_CFG then timeCfgRule v s
  else if off = R.TIME_GAIN then
    let kp := bitsOf v.toNat 4 0
    let ki := bitsOf v.toNat 12 8
    { rangeOk := decide (12 ≤ kp) && decide (kp ≤ 28) && decide (16 ≤ ki) && decide (kp + 2 ≤ ki)
      eff := fun s => s.setReg off (v &&& 0x1F1F) }
  else if off = R.TIME_LOCK then
    { rangeOk := bitsOf v.toNat 31 24 != 0 && bitsOf v.toNat 11 0 != 0
        && decide (bitsOf v.toNat 11 0 < bitsOf v.toNat 23 12)
      eff := fun s => s.setReg off v }
  else if off = R.TIME_STEP then { rangeOk := v != 0, eff := fun s => s.setReg off v }
  else if off = R.TIME_SET_LO ∨ off = R.TIME_SET_HI then { eff := fun s => s.setReg off v }
  else if off = R.TIME_CMD then timeCmdRule v s
  else if off = R.TIME_ALIGN then
    { rangeOk := bitsOf v.toNat 23 16 != 0 && bitsOf v.toNat 15 8 != 0 && bitsOf v.toNat 7 0 != 0
      eff := fun s => s.setReg off (v &&& 0xFFFFFF) }
  else if R.TIME_ASYM 0 ≤ off ∧ off ≤ R.TIME_ASYM 5 then { eff := fun s => s.setReg off (v &&& 0xFFFF) }
  else if off = R.TIME_ES_EN then { eff := fun s => s.setReg off (v &&& 0xFF) }
  else if off = R.TIME_ES_SRC_LO ∨ off = R.TIME_ES_SRC_HI then
    { rangeOk := (List.range 4).all (fun i => esCode (bitsOf v.toNat (8 * i + 7) (8 * i)))
      eff := fun s => s.setReg off v }
  else if R.PG_CFG 0 ≤ off ∧ off < R.PG_CFG 4 then
    let k := (off - R.PG_CFG 0) / 0x20
    let idle := !s.flag (F.PG_CFG_EN k)
    if off = R.PG_CFG k then pgCfgRule k v s
    else if off = R.PG_PERIOD_LO k then
      { stateOk := idle, rangeOk := v != 0 || s.reg (R.PG_PERIOD_HI k) != 0, eff := fun s => s.setReg off v }
    else if off = R.PG_PERIOD_HI k then
      { stateOk := idle, rangeOk := v != 0 || s.reg (R.PG_PERIOD_LO k) != 0, eff := fun s => s.setReg off v }
    else if off = R.PG_START_LO k ∨ off = R.PG_START_HI k ∨ off = R.PG_COUNT k then
      { stateOk := idle, eff := fun s => s.setReg off v }
    else if off = R.PG_STAT k then
      { eff := fun s => if v.getLsbD 30 then s.setFlag (F.PG_STAT_LATE k) false else s }
    else ignored
  else ignored

/-- Registers of the TIME page that show state other than a stored word. -/
def State.timeRead (s : State) (off : Nat) : Option Word :=
  if off = R.TIME_NOW_LO then some (s.now.setWidth 32)
  else if off = R.TIME_NOW_HI then some ((s.now >>> 32).setWidth 32)
  else if off = R.TIME_FREQ then some (BitVec.ofInt 32 s.time.y)
  else if off = R.TIME_TRIM then
    some (BitVec.ofNat 32 (fieldOf 16 s.time.target * 65536 + fieldOf 16 s.time.trim))
  else if off = R.TIME_ES_LEVEL then some (BitVec.ofNat 32 s.time.queue.length)
  else if off = R.TIME_ES_HEAD_HI ∨ off = R.TIME_ES_HEAD_INFO then some 0
  else none

/-- A block reset of the TIME page (R381), after its registers have their reset values: generators off, queue empty; the
counter, y and the trim go on; SSTATE and ASTATE restart. `st` is SSTATE before the reset. -/
def State.timeReset (s : State) (st port : Nat) : State :=
  let s := s.setTime { s.time with
    queue := [], esCount := [], pgNext := [], pterm := 0, stepBase := none, inLock := 0, outLock := 0, alignSet := false,
    avgSum := 0, avgCount := 0, avgIn := 0, avgOut := 0 }
  if st == ssOff then s
  else
    let x := if st == ssRoot then ssRoot else ssAcquire
    let s := (s.setFld F.TIME_STAT_SSTATE x).setFlag F.TIME_STAT_LOCKED (x == ssRoot)
    (s.setFld F.TIME_STAT_ASTATE asAcquire).setFld F.TIME_STAT_SRC_PORT port

end Sys2Proof.Machine
end

