-- ==== Sys2Proof/Machine/Capture.lean ====
section
/-! DEFINITION. Capture units: arming and regions, verdicts, fail logs, raw capture, the trigger sequencer (07, R200 to R222,
R538). -/

namespace Sys2Proof.Machine

open Sys2Proof

/-- The state behind CUu. -/
def State.cu (s : State) (u : Nat) : Cu := sget Cu.init s.cus u

/-- Stores the state behind CUu. -/
def State.setCu (s : State) (u : Nat) (x : Cu) : State := { s with cus := sset Cu.init s.cus u x }

/-- What CUu keeps of partition `k`. -/
def State.cuPart (s : State) (u k : Nat) : CuPart := sget CuPart.init (s.cu u).parts k

/-- Stores what CUu keeps of partition `k`. -/
def State.setCuPart (s : State) (u k : Nat) (x : CuPart) : State :=
  s.setCu u { s.cu u with parts := sset CuPart.init (s.cu u).parts k x }

/-- Phases of TRG_STATE.PHASE. -/
abbrev phIdle : Nat := 0
abbrev phWait : Nat := 1
abbrev phPre : Nat := 2
abbrev phPost : Nat := 3
abbrev phRearm : Nat := 4
abbrev phDone : Nat := 5
abbrev phStopped : Nat := 6

/-- The phase of CUu. -/
def State.phase (s : State) (u : Nat) : Nat := s.fld (F.TRG_STATE_PHASE u)

/-- Enters a phase. -/
def State.setPhase (s : State) (u ph : Nat) : State := s.setFld (F.TRG_STATE_PHASE u) ph

/-- CUu is retired (R477); its CAP_PMASK then reads 0. -/
def State.cuRetired (s : State) (u : Nat) : Bool := (s.fld F.PART_RET_MISC_CU).testBit u

/-- CAP_PMASK of CUu, P0 in bit 0. -/
def State.capMask (s : State) (u : Nat) : Nat :=
  if s.cuRetired u then 0 else (s.reg64 (R.CAP_PMASK_LO u) (R.CAP_PMASK_HI u)).toNat

/-- CUu serves partition `k`. -/
def State.serves (s : State) (u k : Nat) : Bool := (s.capMask u).testBit k

/-- The units that serve partition `k`. -/
def State.unitsOf (s : State) (k : Nat) : List Nat := (List.range 8).filter (fun u => s.serves u k)

/-- CUu is armed for partition `k`. -/
def State.capArmed (s : State) (u k : Nat) : Bool := s.flag (F.CAP_P_STAT_ARMED u k)

/-- The units whose gang is that of SQn. -/
def State.gangUnits (s : State) (n : Nat) : List Nat := (List.range 8).filter (fun u => s.fld (F.CAP_SRC_SEQ u) == n)

/-- The partitions that take part in the run of CUu. -/
def State.capLive (s : State) (u : Nat) : List Nat := (List.range 64).filter (fun k => (s.cuPart u k).live)

/-- Pins of a partition. -/
def State.partPinCount (s : State) (k : Nat) : Nat := (s.partPins k).length

/-! ### Regions (R201, R209, R212, R214) -/

/-- Records of a fail log of partition `k`. -/
def State.flogCap (s : State) (u k : Nat) : Nat := (s.cuPart u k).flog * 65536

/-- WR of a fail log. -/
def State.flogWr (s : State) (u k : Nat) : Nat := (s.reg (R.CAP_P_FLOG_WR u k)).toNat

/-- The level of a fail log. -/
def State.flogLevel (s : State) (u k : Nat) : Nat :=
  ringLevel (s.flogWr u k) (s.reg (R.CAP_P_FLOG_RD u k)).toNat (s.flogCap u k)

/-- Bytes of a raw record for `n` pins (R212). -/
def rawRecBytes (n : Nat) : Nat := 64 + 64 * n

/-- Records of a segment, floor(N / SEGS), in a raw region of `frames` frames (R212). -/
def segRecs (frames n segs : Nat) : Nat := (frames * 2 ^ 21 - 4096) / rawRecBytes n / max 1 segs

/-- C of R214. -/
def segCycles (frames n segs : Nat) : Nat := (segRecs frames n segs - 1) * 256

/-- Records of a segment of partition `k` in its region. -/
def State.partSegRecs (s : State) (u k : Nat) : Nat :=
  segRecs (s.cuPart u k).raw (s.partPinCount k) (s.fld (F.TRG_CFG_SEGS u))

/-- The regions of partition `k` in CUu return to the pool (R201). -/
def State.capFree (s : State) (u k : Nat) : State :=
  let x := s.cuPart u k
  let s := s.releaseFrames (s.fld (F.CAP_P_FLOG_BASE_FRAME u k)) x.flog
  let s := s.releaseFrames (s.fld (F.CAP_P_RAW_BASE_FRAME u k)) x.raw
  let s := (s.setReg (R.CAP_P_FLOG_BASE u k) 0).setReg (R.CAP_P_RAW_BASE u k) 0
  let s := s.setFlag (F.CAP_P_STAT_RETAINED u k) false
  s.setCuPart u k { s.cuPart u k with flog := 0, raw := 0 }

/-! ### Arming (R200, R201, R215) -/

/-- Allocates the regions of one kind: 0 frames none. -/
def State.capAlloc (s : State) (k n : Nat) : Option Nat × State :=
  if n = 0 then (some 0, s) else s.hwAlloc poolCapture (partOwner k) n true

/-- The bytes of a range of DRAM become 0. -/
def State.clearMem (s : State) (a n : Nat) : State :=
  { s with dram := { s.dram with mem := s.dram.mem.filter (fun e => decide (e.1 < a) || decide (a + n ≤ e.1)) } }

/-- The C of CUu over the partitions armed and `k` (R214, R215). -/
def State.capC (s : State) (u k : Nat) : Nat :=
  let segs := s.fld (F.TRG_CFG_SEGS u)
  let l := ((List.range 64).filter (fun j => j == k || (s.capArmed u j && s.serves u j))).map (fun j =>
    segCycles (s.fld (F.CAP_CFG_RAW_FRAMES u)) (s.partPinCount j) segs)
  l.foldl min (l.headD 0)

/-- The effective counts of R215 for a C. -/
def State.capClip (s : State) (u c : Nat) : State :=
  let pre := (s.reg (R.CAP_PRE u)).toNat
  let post := (s.reg (R.CAP_POST u)).toNat
  let raw := s.flag (F.CAP_CFG_RAW_EN u)
  let pe := if raw then min post (c - 1) else post
  let none := s.fld (F.TRG_CFG_MODE u) == 0
  let pr := if !raw || none then 0 else min pre (c - 1 - pe)
  let s := (s.setReg (R.CAP_PRE_EFF u) (BitVec.ofNat 32 pr)).setReg (R.CAP_POST_EFF u) (BitVec.ofNat 32 pe)
  (s.setFlag (F.CAP_FLAGS_POST_CLIPPED u) (decide (pe < post))).setFlag (F.CAP_FLAGS_PRE_CLIPPED u)
    (raw && !none && decide (pr < pre))

/-- CUu arms for partition `k` (R200): the cause of a failure (CAP_ARM_STAT), or the armed unit. -/
def State.capArmUnit (s : State) (u k : Nat) : Except (Nat × State) State :=
  let cfgF := if s.flag (F.CAP_CFG_FLOG_EN u) then s.fld (F.CAP_CFG_FLOG_FRAMES u) else 0
  let cfgR := if s.flag (F.CAP_CFG_RAW_EN u) then s.fld (F.CAP_CFG_RAW_FRAMES u) else 0
  if !(List.range 64).all (fun q => !(s.quads k).testBit q || s.gangOf (q / 4) == s.fld (F.CAP_SRC_SEQ u)) then
    .error (2, s)
  else
    match s.capAlloc k cfgF with
    | (none, s) => .error (1, s)
    | (some f, s) =>
      match s.capAlloc k cfgR with
      | (none, s) => .error (1, s.releaseFrames f cfgF)
      | (some r, s) =>
        let c := s.capC u k
        if cfgR != 0 && decide (c < 256) then .error (3, (s.releaseFrames f cfgF).releaseFrames r cfgR)
        else
          let s := s.setCuPart u k { CuPart.init with flog := cfgF, raw := cfgR, live := (s.cuPart u k).live }
          let s := (s.setFld (F.CAP_P_FLOG_BASE_FRAME u k) f).setFld (F.CAP_P_RAW_BASE_FRAME u k) r
          let s := (s.setReg (R.CAP_P_FLOG_WR u k) 0).setReg (R.CAP_P_FLOG_RD u k) 0
          let s := (s.setFlag (F.CAP_P_STAT_ARMED u k) true).setFld (F.CAP_P_STAT_STATUS u k) 0
          let s := if cfgR = 0 then s else s.clearMem (r * 2 ^ 21) 4096
          let s := (s.capClip u c).setFld (F.CAP_ARM_STAT_RESULT u) 0
          .ok (if s.phase u == phIdle then s.setPhase u phWait else s)

/-- CUu is no longer armed for partition `k`. -/
def State.capUnarm (s : State) (u k : Nat) : State :=
  let s := s.setFlag (F.CAP_P_STAT_ARMED u k) false
  if s.phase u == phWait && !(List.range 64).any (fun j => s.capArmed u j) then s.setPhase u phIdle else s

/-- The units of a list arm one after another; a failure undoes those before it. -/
def State.capArmAll (k : Nat) : List Nat → List Nat → State → Bool × State
  | [], _, s => (true, s)
  | u :: t, got, s =>
    match s.capArmUnit u k with
    | .ok s => State.capArmAll k t (u :: got) s
    | .error (e, s) =>
      (false, (got.foldl (fun s v => (s.capFree v k).capUnarm v k) s).setFld (F.CAP_ARM_STAT_RESULT u) e)

/-- Arms every unit that serves partition `k` (R200). -/
def State.capArm (s : State) (k : Nat) : Bool × State :=
  if (s.unitsOf k).isEmpty then (false, (List.range 8).foldl (fun s u => s.setFld (F.CAP_ARM_STAT_RESULT u) 4) s)
  else State.capArmAll k (s.unitsOf k) [] ((s.unitsOf k).foldl (fun s u => s.capFree u k) s)

/-- A disarm of partition `k` (R27, R201). -/
def State.capDisarm (s : State) (k : Nat) : State :=
  ((List.range 8).filter (fun u => s.capArmed u k)).foldl (fun s u => (s.capFree u k).capUnarm u k) s

/-! ### Fail logs (R209 to R211) -/

/-- Word 0 of a record (R210). -/
def recWord0 (ty k tg cycle : Nat) : Nat := ty * 2 ^ 60 + k * 2 ^ 54 + tg * 2 ^ 50 + cycle % 2 ^ 48

/-- A write of CUu to its regions; refused by its channel, it is the fault WRITE_FAIL and capture stops as under STOP. -/
def State.capWrite (s : State) (u a : Nat) (l : List Byte) : Option State × State :=
  match s.takeInj (P.CU u) X.CU_WRITE_FAIL with
  | (true, s) => (none, (s.faultInj (P.CU u) X.CU_WRITE_FAIL true).setPhase u phStopped)
  | (false, s) =>
    if s.writeFails a l.length then (none, (s.fault (P.CU u) X.CU_WRITE_FAIL).setPhase u phStopped)
    else (some (s.setMem a l), s)

/-- Writes a record at WR (R209). -/
def State.flogPut (s : State) (u k w0 w1 w2 w3 : Nat) : State :=
  let wr := s.flogWr u k
  match s.capWrite u (s.fld (F.CAP_P_FLOG_BASE_FRAME u k) * 2 ^ 21 + wr * 32)
      (leBytes 8 w0 ++ leBytes 8 w1 ++ leBytes 8 w2 ++ leBytes 8 w3) with
  | (none, s) => s
  | (some s, _) =>
    let s := s.setReg (R.CAP_P_FLOG_WR u k) (BitVec.ofNat 32 ((wr + 1) % max 1 (s.flogCap u k)))
    s.raiseTo (R.CAP_P_FLOG_MAX u k) (s.flogLevel u k)

/-- A record is lost (R209). -/
def State.flogLose (s : State) (u k : Nat) : State :=
  let x := s.cuPart u k
  let s := (s.setCuPart u k { x with lostRun := x.lostRun + 1, lostSince := x.lostSince + 1 }).count (R.CAP_LOST u)
  let s := s.setFlag (F.CAP_P_STAT_FLOG_FULL u k) true
  if x.lostRun = 0 then s.event (P.CU u) E.CU_FLOG_FULL else s

/-- A record other than END (R209): with its LOST record after a loss. -/
def State.flogRecord (s : State) (u k ty tg cycle : Nat) (stamp : BitVec 64) (w2 w3 : Nat) : State :=
  let x := s.cuPart u k
  if x.flog = 0 then s
  else if x.lostSince = 0 then
    (if s.flogLevel u k < s.flogCap u k - 2 then s.flogPut u k (recWord0 ty k tg cycle) stamp.toNat w2 w3
     else s.flogLose u k)
  else if s.flogLevel u k < s.flogCap u k - 3 then
    let s := s.flogPut u k (recWord0 8 k 0 cycle) stamp.toNat (min x.lostSince 0xFFFFFFFF) 0
    let s := s.setCuPart u k { s.cuPart u k with lostSince := 0 }
    s.flogPut u k (recWord0 ty k tg cycle) stamp.toNat w2 w3
  else s.flogLose u k

/-! ### Raw records and directory (R212, R213) -/

/-- The address of record `j` of segment `seg` of partition `k`. -/
def State.rawAddr (s : State) (u k seg j : Nat) : Nat :=
  let r := s.partSegRecs u k
  s.fld (F.CAP_P_RAW_BASE_FRAME u k) * 2 ^ 21 + 4096 + (seg * r + j % max 1 r) * rawRecBytes (s.partPinCount k)

/-- The sample of pin `ch` in cycle `c` by the strobe of RAW_STROBE, if present. -/
def State.rawSample (s : State) (u : Nat) (c : CycleRec) (ch : Nat) : Option (Bool × Bool) :=
  ((c.shots.find? (fun x => x.pin == ch && x.idx == s.fld (F.CAP_CFG_RAW_STROBE u))).map Shot.sample).join

/-- A number whose bits are those of a list. -/
def bitsNat : List Bool → Nat
  | [] => 0
  | b :: t => (if b then 1 else 0) + 2 * bitsNat t

/-- A number of two bits an entry. -/
def pairsNat : List Nat → Nat
  | [] => 0
  | b :: t => b % 4 + 4 * pairsNat t

/-- Two bits of a sample: CMPH above CMPL, 0 where it is missing. -/
def sampleCode : Option (Bool × Bool) → Nat
  | none => 0
  | some (h, l) => (if h then 2 else 0) + (if l then 1 else 0)

/-- Stores the samples of cycle `c` of partition `k` as cycle `i` of record `j`. -/
def State.rawStorePart (s : State) (u k seg j i : Nat) (c : CycleRec) : State :=
  let a := s.rawAddr u k seg j
  let n := s.partPinCount k
  let smp := (s.partPins k).map (s.rawSample u c)
  let hd := if i = 0 then leBytes 8 (recWord0 9 k 0 c.cycle) ++ leBytes 8 c.stamp.toNat ++ leBytes 8 0 ++ leBytes 40 0 else []
  match (if i = 0 then s.capWrite u a hd else (some s, s)) with
  | (none, s) => s
  | (some s, _) =>
    match s.capWrite u (a + 64 + i * (n / 4)) (leBytes (n / 4) (pairsNat (smp.map sampleCode))) with
    | (none, s) => s
    | (some s, _) =>
      let s := s.setMem (a + 16) (leBytes 8 (i + 1 + seg * 2 ^ 9))
      if smp.all Option.isSome then s
      else s.setMemByte (a + 32 + i / 8) (s.memByte (a + 32 + i / 8) ||| BitVec.ofNat 8 (2 ^ (i % 8)))

/-- Raw capture of partition `k` is on: its kind, and a region. -/
def State.rawOn (s : State) (u k : Nat) : Bool :=
  (s.cuPart u k).live && (s.fld (F.CAP_P_STAT_KINDS u k)).testBit 1 && (s.cuPart u k).raw != 0

/-- A partition of CUu has raw capture on. -/
def State.anyRaw (s : State) (u : Nat) : Bool := (List.range 64).any (fun k => s.rawOn u k)

/-- Raw-stored cycles that the ring of the segment keeps. -/
def Cu.kept (x : Cu) : Nat := (x.recs.map Prod.snd).sum

/-- The next stored cycle opens a new record. -/
def Cu.needsRec (x : Cu) : Bool := !x.recOpen || (match x.recs with
  | [] => true
  | (_, n) :: _ => n == 256)

/-- Cycle `c` is raw-stored (R212): in the open record, or in a new one. -/
def State.rawStore (s : State) (u : Nat) (c : CycleRec) : State :=
  let x := s.cu u
  let x := if x.needsRec then
      { x with recs := ((x.nextRec, 0) :: x.recs).take (max 1 x.ring), nextRec := x.nextRec + 1, recOpen := true }
    else x
  match x.recs with
  | [] => s
  | (j, n) :: t =>
    let s := s.setCu u { x with recs := (j, n + 1) :: t }
    ((List.range 64).filter (fun k => s.rawOn u k)).foldl
      (fun s k => s.rawStorePart u k (s.fld (F.TRG_STATE_SEG u)) j n c) s

/-- The record of the newest-first list `l` that holds the `n`-th cycle back from its newest end; the oldest one otherwise. -/
def recBack : List (Nat × Nat) → Nat → Nat
  | [], _ => 0
  | [(j, _)], _ => j
  | (j, c) :: t, n => if n < c then j else recBack t (n - c)

/-- The directory entry of segment `seg` of partition `k` (R213). -/
def State.dirEntry (s : State) (u k : Nat) (oldest : Nat) (stopped cut : Bool) : List Byte :=
  let x := s.cu u
  let b := fun (v : Bool) (i : Nat) => if v then 2 ^ i else 0
  let t := x.trig.isSome
  leBytes 8 (1 + b t 1 + b (s.flag (F.CAP_FLAGS_FORCED u)) 2 + b (s.flag (F.CAP_FLAGS_PRE_SHORT u)) 3 + b stopped 4 + b cut 5)
    ++ leBytes 8 ((x.trig.map Prod.fst).getD 0 % 2 ^ 48) ++ leBytes 8 ((x.trig.map (fun y => y.2.toNat)).getD 0)
    ++ leBytes 4 (oldest % max 1 (s.partSegRecs u k)) ++ leBytes 4 (if t then (s.reg (R.CAP_PRE_ACT u)).toNat else 0)
    ++ leBytes 4 x.after ++ leBytes 28 0

/-- The segment ends (R213, R216, R221): the directory entries, the flags, SEG_DONE, and the phase after it. -/
def State.segEnd (s : State) (u : Nat) (stopped cut : Bool) : State :=
  let x := s.cu u
  let seg := s.fld (F.TRG_STATE_SEG u)
  let old := match x.trig with
    | some _ => recBack x.recs ((s.reg (R.CAP_PRE_ACT u)).toNat + x.after)
    | none => (x.recs.getLast?.map Prod.fst).getD 0
  let s := s.setCu u { x with recOpen := false, force := false }
  let s := ((List.range 64).filter (fun k => (s.cuPart u k).live && (s.cuPart u k).raw != 0)).foldl (fun s k =>
    match s.capWrite u (s.fld (F.CAP_P_RAW_BASE_FRAME u k) * 2 ^ 21 + 64 * seg) (s.dirEntry u k old stopped cut) with
    | (none, s) => s
    | (some s, _) => s) s
  let s := (s.setFlag (F.CAP_FLAGS_STOPPED u) stopped).setFlag (F.CAP_FLAGS_CUT u) cut
  let s := s.event (P.CU u) E.CU_SEG_DONE
  if stopped || s.phase u == phStopped then s.setPhase u phStopped
  else if cut then s.setPhase u phIdle
  else if s.flag (F.TRG_CFG_REARM u) && decide (seg + 1 < s.fld (F.TRG_CFG_SEGS u)) then s.setPhase u phRearm
  else (s.setPhase u phDone).event (P.CU u) E.CU_DONE

/-- The trigger sequencer and the segment state restart (R218). -/
def State.segState (s : State) (u : Nat) : State :=
  let s := s.setFld (F.TRG_STATE_STATE u) 0
  let s := (List.range 4).foldl (fun s i => s.setReg (R.TRG_CT_VAL u i) 0) s
  let s := [F.CAP_FLAGS_CUT u, F.CAP_FLAGS_STOPPED u, F.CAP_FLAGS_PRE_SHORT u, F.CAP_FLAGS_FORCED u,
    F.CAP_FLAGS_TRIGGERED u].foldl (fun s f => s.setFlag f false) s
  s.setCu u { s.cu u with
    timers := [], after := 0, recs := [], recOpen := false, nextRec := 0, trig := none, force := false }

/-- A segment starts in PRE (R216, R218). -/
def State.segStart (s : State) (u seg : Nat) : State :=
  ((s.segState u).setFld (F.TRG_STATE_SEG u) seg).setPhase u phPre

/-! ### Verdicts and counters (R206, R207) -/

/-- The shots of partition `k` in a cycle. -/
def State.shotsOf (s : State) (k : Nat) (c : CycleRec) : List Shot :=
  c.shots.filter (fun x => (s.quads k).testBit (x.pin / 4))

/-- The failing shots of partition `k` that are DUT fails (R91, R151). -/
def State.dutShots (s : State) (k : Nat) (c : CycleRec) : List Shot :=
  if c.inMatch then [] else (s.shotsOf k c).filter (fun x => x.compare && x.fail)

/-- Partition `k` has a DUT fail in the cycle. -/
def State.dutFails (s : State) (k : Nat) (c : CycleRec) : Bool :=
  !(s.dutShots k c).isEmpty || c.mtos.any (fun m => m.1 == k) || c.sents.any (fun r => r.part == k && r.bad)

/-- A saturating 48-bit counter in a register pair. -/
def State.count48 (s : State) (lo hi : Nat) : State :=
  s.setReg64 lo hi (BitVec.ofNat 64 (min (2 ^ 48 - 1) ((s.reg64 lo hi).toNat + 1)))

/-- The verdict of partition `k` for the cycle (R206). -/
def State.verdict (s : State) (u k : Nat) (c : CycleRec) : State :=
  let m := (c.mtos.filter (fun x => x.1 == k)).length
  let s := s.setFld (F.CAP_P_FIRST_HI_MTO_COUNT u k) (min 65535 (s.fld (F.CAP_P_FIRST_HI_MTO_COUNT u k) + m))
  if !s.dutFails k c then s
  else
    let s := s.setFlag (F.CAP_P_STAT_DUT_FAIL u k) true
    if s.flag (F.CAP_P_STAT_FIRST_VALID u k) then s
    else
      let s := s.setFlag (F.CAP_P_STAT_FIRST_VALID u k) true
      let s := s.setReg (R.CAP_P_FIRST_LO u k) (BitVec.ofNat 32 (c.cycle % 2 ^ 32))
      let s := s.setFld (F.CAP_P_FIRST_HI_VALUE u k) (c.cycle / 2 ^ 32 % 65536)
      (s.setCuPart u k { s.cuPart u k with firstStamp := c.stamp }).event (P.CU u) E.CU_FIRST_FAIL

/-- The per-site counters of partition `k` for the cycle (R207). -/
def State.siteCount (s : State) (u k : Nat) (c : CycleRec) : State :=
  if !(s.fld (F.CAP_P_STAT_KINDS u k)).testBit 2 then s
  else
    let s := if !c.inMatch && (s.shotsOf k c).any Shot.compare then s.count48 (R.CAP_P_CMP_LO u k) (R.CAP_P_CMP_HI u k) else s
    if s.dutFails k c then s.count48 (R.CAP_P_FAILC_LO u k) (R.CAP_P_FAILC_HI u k) else s

/-! ### Fail-log records of a cycle (R211) -/

/-- The bits of the local pins of timing group `tg` whose shots meet `p`. -/
def pinBits (l : List Shot) (tg : Nat) (p : Shot → Bool) : Nat :=
  bitsNat ((List.range 16).map (fun i => l.any (fun x => x.pin == 16 * tg + i && p x)))

/-- Writes the FAIL records of partition `k`. -/
def State.failRecords (s : State) (u k : Nat) (c : CycleRec) : State :=
  let l := s.dutShots k c
  let all := s.shotsOf k c
  ((List.range 16).filter (fun t => l.any (fun x => x.pin / 16 == t))).foldl (fun s t =>
    let w2 := pinBits l t (fun x => x.idx == 0) + pinBits l t (fun x => x.idx == 1) * 2 ^ 16
      + pinBits all t (fun x => x.idx == 0 && ((x.sample.map Prod.fst).getD false)) * 2 ^ 32
      + pinBits all t (fun x => x.idx == 0 && ((x.sample.map Prod.snd).getD false)) * 2 ^ 48
    s.flogRecord u k 1 t c.cycle c.stamp w2 (c.addr / 16 % 2 ^ 38 + c.vec % 2 ^ 20 * 2 ^ 38)) s

/-- MARK, FAIL, MTO and SENT records of partition `k` for the cycle. -/
def State.cycleRecords (s : State) (u k : Nat) (c : CycleRec) : State :=
  let kinds := s.fld (F.CAP_P_STAT_KINDS u k)
  let on := kinds.testBit 0
  let s := if kinds = 0 then s else
    c.marks.foldl (fun s m => s.flogRecord u k 3 0 c.cycle c.stamp m.toNat 0) s
  let s := if on then s.failRecords u k c else s
  let s := if on then (c.mtos.filter (fun m => m.1 == k)).foldl (fun s m =>
      s.flogRecord u k 2 0 c.cycle c.stamp (m.2.1 / 16 % 2 ^ 38) (m.2.2 % 2 ^ 32)) s else s
  (c.sents.filter (fun r => r.part == k)).foldl (fun s r => s.flogRecord u k r.type 0 c.cycle c.stamp r.w2 r.w3) s

/-! ### The trigger sequencer (R217 to R221) -/

/-- TRG_S_A, TRG_S_B and TRG_S_CFG of a state (R217). -/
def trgA (u i : Nat) : Nat := P.CU u + 0x100 + 16 * i
def trgB (u i : Nat) : Nat := P.CU u + 0x104 + 16 * i
def trgC (u i : Nat) : Nat := P.CU u + 0x108 + 16 * i

/-- What a timer reads at the present DCLK: running, value (R218). -/
def State.timer (s : State) (u i : Nat) : Bool × Nat :=
  match sget (false, 0, 0) (s.cu u).timers i with
  | (run, v, d) => (run, if run then v + (s.dclk - d) else v)

/-- A timer has expired. -/
def State.timerExpired (s : State) (u i : Nat) : Bool := decide ((s.reg (R.TRG_TM_LIM u i)).toNat ≤ (s.timer u i).2)

/-- What the conditions of R217 see of a cycle: served partitions with a DUT fail, those whose first fail it is, mask
violation, external events attributed. -/
structure TrgView where
  fails : List Nat
  firsts : List Nat
  viol : Bool
  ext : List Nat

/-- A condition of R217 in a cycle. -/
def State.trgCond (s : State) (u : Nat) (c : CycleRec) (v : TrgView) (code : Nat) : Bool :=
  if code = 1 then true
  else if code = 2 then !v.fails.isEmpty
  else if code = 3 then c.mtos.any (fun m => (s.cuPart u m.1).live)
  else if code = 4 then v.viol
  else if code = 5 then c.tpulse
  else if code = 6 then c.marks.contains (s.reg (R.TRG_MARKID u))
  else if code = 7 then !v.firsts.isEmpty
  else if code = 8 then c.cycle == 0
  else if code = 9 then c.sents.any (fun r => r.bad && r.type == 4 && (s.cuPart u r.part).live)
  else if 0x10 ≤ code ∧ code ≤ 0x1F then v.ext.contains (code - 0x10)
  else if 0x20 ≤ code ∧ code ≤ 0x23 then
    s.reg (R.TRG_CT_VAL u (code - 0x20)) == s.reg (R.TRG_CT_TERM u (code - 0x20))
  else if 0x24 ≤ code ∧ code ≤ 0x27 then s.timerExpired u (code - 0x24)
  else if 0x40 ≤ code ∧ code ≤ 0x7F then v.fails.contains (code - 0x40)
  else false

/-- The transition that state `i` takes, if any (R218 step 3). -/
def State.trgTaken (s : State) (u : Nat) (c : CycleRec) (v : TrgView) (i : Nat) : Option Nat :=
  [trgA u i, trgB u i].map (fun o => (s.reg o).toNat) |>.find? (fun w => s.trgCond u c v (bitsOf w 31 24))

/-- The allowed samples of local pin `p` in the mask test. -/
def State.maskAllows (s : State) (u p : Nat) : Nat :=
  bitsOf (s.reg64 (R.TRG_MASK_LO u) (R.TRG_MASK_HI u)).toNat (4 * p + 3) (4 * p)

/-- The local pins of partition `k` that violate the mask in the cycle. -/
def State.maskViolations (s : State) (u k : Nat) (c : CycleRec) : List Nat :=
  let t := s.fld (F.TRG_MASK_TG_TG u)
  (List.range 16).filter (fun p => (s.quads k).testBit (4 * t + p / 4) && (match s.rawSample u c (16 * t + p) with
    | some x => !(s.maskAllows u p).testBit (sampleCode (some x))
    | none => false))

/-- The mask test of the cycle: whether it found a violation; VIOL records where the fail-log kind is on. -/
def State.maskTest (s : State) (u : Nat) (c : CycleRec) : Bool × State :=
  if !(s.reg (trgC u (s.fld (F.TRG_STATE_STATE u)))).getLsbD 0 then (false, s)
  else
    let t := s.fld (F.TRG_MASK_TG_TG u)
    let bad := (s.capLive u).filter (fun k => !(s.maskViolations u k c).isEmpty)
    if bad.isEmpty then (false, s)
    else
      let s := bad.foldl (fun s k =>
        if (s.fld (F.CAP_P_STAT_KINDS u k)).testBit 0 then
          let m := s.maskViolations u k c
          let b := fun (f : Bool × Bool → Bool) => bitsNat ((List.range 16).map (fun p =>
            (s.quads k).testBit (4 * t + p / 4) && ((s.rawSample u c (16 * t + p)).map f).getD false))
          s.flogRecord u k 7 t c.cycle c.stamp
            (bitsNat ((List.range 16).map m.contains) + b Prod.fst * 2 ^ 16 + b Prod.snd * 2 ^ 32) 0
        else s) s
      (true, s.event (P.CU u) E.CU_VIOL)

/-- The trigger is taken in cycle `c` (R216, R220). -/
def State.takeTrigger (s : State) (u : Nat) (c : CycleRec) (forced : Bool) : State :=
  let x := s.cu u
  let none := s.fld (F.TRG_CFG_MODE u) == 0
  let kept := if none then 0 else min x.pre x.kept
  let short := !none && decide (kept < x.pre)
  let s := (s.setFlag (F.CAP_FLAGS_TRIGGERED u) true).setFlag (F.CAP_FLAGS_FORCED u) forced
  let s := (s.setFlag (F.CAP_FLAGS_PRE_SHORT u) short).setReg (R.CAP_PRE_ACT u) (BitVec.ofNat 32 kept)
  let s := s.setReg64 (R.TRG_CYCLE_LO u) (R.TRG_CYCLE_HI u) (BitVec.ofNat 64 (c.cycle % 2 ^ 48))
  let s := s.setCu u { x with trig := some (c.cycle, c.stamp), after := 0, force := false }
  let s := (s.count (R.xx_BLK_COUNT (P.CU u))).event (P.CU u) E.CU_TRIGGER
  let w2 := s.fld (F.TRG_STATE_SEG u) + (if forced then 64 else 0) + (if short then 128 else 0) + kept % 2 ^ 32 * 256
  ((s.capLive u).foldl (fun s k => s.flogRecord u k 6 0 c.cycle c.stamp w2 0) s).setPhase u phPost

/-- The counters of R218 step 1. -/
def State.trgCounters (s : State) (u : Nat) (c : CycleRec) (v : TrgView) : State :=
  (List.range 4).foldl (fun t i =>
    if s.trgCond u c v (s.fld (F.TRG_CT_CFG_COND u i)) && s.reg (R.TRG_CT_VAL u i) != s.reg (R.TRG_CT_TERM u i) then
      t.setReg (R.TRG_CT_VAL u i) (s.reg (R.TRG_CT_VAL u i) + 1)
    else t) s

/-- The PULSE action drives the TRIG_OUT pin of TRG_OUT. -/
def State.trgPulse (s : State) (u : Nat) : State :=
  if s.flag (F.TRG_OUT_EN u) then
    { s with dev := { s.dev with
      trigPulse := (s.fld (F.TRG_OUT_PIN u), PulseSource.capture (Fin.ofNat 8 u)) :: s.dev.trigPulse } }
  else s

/-- The counter, timer and event actions of a transition word, and the next state (R218). -/
def State.trgActions (s : State) (u w : Nat) : State :=
  let s := if w.testBit 0 then s.trgPulse u else s
  let s := if w.testBit 1 then s.event (P.CU u) E.CU_TSQ else s
  let s := (List.range 4).foldl (fun s i =>
    let s := if w.testBit (12 + i) then s.setReg (R.TRG_CT_VAL u i) 0 else s
    let s := if w.testBit (8 + i) then
        s.setCu u { s.cu u with timers := sset (false, 0, 0) (s.cu u).timers i (true, 0, s.dclk) } else s
    if w.testBit (4 + i) then
      s.setCu u { s.cu u with timers := sset (false, 0, 0) (s.cu u).timers i (false, (s.timer u i).2, 0) }
    else s) s
  s.setFld (F.TRG_STATE_STATE u) (bitsOf w 23 20)

/-- The segment's part of a cycle, with the transition taken: trigger, storage, STOP, and the end after POST_EFF cycles (R216,
R219, R220). -/
def State.segCycle (s : State) (u : Nat) (c : CycleRec) (w : Nat) : State :=
  let x := s.cu u
  let raw := s.anyRaw u
  let mode := s.fld (F.TRG_CFG_MODE u)
  let act := mode != 0 && w.testBit 3
  let trig := s.phase u == phPre && (if mode = 0 then raw else act || x.force)
  let s := if trig then s.takeTrigger u c (!act && mode != 0) else s
  let seg := s.phase u == phPre || s.phase u == phPost
  let s := if seg && raw then s.rawStore u c else s.setCu u { s.cu u with recOpen := false }
  let s := if s.phase u == phPost && !trig then s.setCu u { s.cu u with after := (s.cu u).after + 1 } else s
  if w.testBit 2 then (if seg && s.phase u != phStopped then s.segEnd u true false else s.setPhase u phStopped)
  else if s.phase u == phPost && decide ((s.cu u).post ≤ (s.cu u).after) then s.segEnd u false false
  else s

/-- The trigger sequencer's cycle (R218), with the segment; in re-arm the missed triggers (R221). -/
def State.trgCycle (s : State) (u : Nat) (c : CycleRec) (v : TrgView) : State :=
  let ph := s.phase u
  if ph == phRearm then
    (if [trgA u 0, trgB u 0].any (fun o => (s.reg o).getLsbD 3 && s.trgCond u c v (bitsOf (s.reg o).toNat 31 24)) then
      s.count (R.TRG_MISSED u) else s)
  else if ph == phPre || ph == phPost || ph == phDone then
    match s.maskTest u c with
    | (viol, s) =>
      let v := { v with viol := viol }
      let s := s.trgCounters u c v
      match s.trgTaken u c v (s.fld (F.TRG_STATE_STATE u)) with
      | none => s.segCycle u c 0
      | some w => (s.segCycle u c w).trgActions u w
  else s

/-! ### The end of a partition's capture (R208, R211) -/

/-- The completion status of a stop cause (R208), with the verdict. -/
def completion (cause : Nat) (fail : Bool) : Nat :=
  if 6 ≤ cause then 5
  else if cause = 2 then 4
  else if cause = 3 ∨ cause = 4 ∨ cause = 5 then 3
  else if fail then 2 else 1

/-- The END record of partition `k` (R211): one slot is kept for it (R209). -/
def State.endRecord (s : State) (u k status cause last : Nat) : State :=
  let x := s.cuPart u k
  if x.flog = 0 then s
  else
    let first := if s.flag (F.CAP_P_STAT_FIRST_VALID u k) then
        s.fld (F.CAP_P_FIRST_HI_VALUE u k) * 2 ^ 32 + (s.reg (R.CAP_P_FIRST_LO u k)).toNat else 0
    let fc := (s.reg64 (R.CAP_P_FAILC_LO u k) (R.CAP_P_FAILC_HI u k)).toNat
    let s := s.flogPut u k (recWord0 15 k 0 last) (s.cu u).doneStamp.toNat
      (status + (if s.flag (F.CAP_P_STAT_DUT_FAIL u k) then 8 else 0) + cause * 16 + first * 2 ^ 16)
      (min 0xFFFFFFFF fc + min 0xFFFFFFFF x.lostRun * 2 ^ 32)
    s.event (P.CU u) E.CU_END

/-- The status of partition `k` on the CU page and on the PART page (R208). -/
def State.setStatus (s : State) (u k st : Nat) : State :=
  let s := s.setFld (F.CAP_P_STAT_STATUS u k) st
  (s.setFld (F.PART_P_STAT_STATUS k) st).setFlag (F.PART_P_STAT_DUT_FAIL k) (s.flag (F.CAP_P_STAT_DUT_FAIL u k))

/-- Capture of partition `k` in CUu is over: its status and its END record, which a contained fault of the gang does not get;
when it was the last, the segment under way is cut (R216) and the trigger sequencer rests. -/
def State.capFinish (s : State) (u k status cause : Nat) (record : Bool) : State :=
  let s := s.setStatus u k status
  let s := if record then s.endRecord u k status cause ((s.cu u).done - 1) else s
  let last := (s.capLive u).all (fun j => j == k)
  let s := if last && (s.phase u == phPre || s.phase u == phPost) then s.segEnd u false true else s
  let s := s.setCuPart u k { s.cuPart u k with live := false, ending := none }
  let s := s.setFlag (F.CAP_P_STAT_ARMED u k) false
  let s := s.setFlag (F.CAP_P_STAT_RETAINED u k) ((s.cuPart u k).flog != 0 || (s.cuPart u k).raw != 0)
  let s := s.setFld (F.CAP_P_STAT_KINDS u k) 0
  if last then
    let s := s.setCu u { s.cu u with ext := [], sent := none, ports := [] }
    s.setPhase u (if (List.range 64).any (fun j => s.capArmed u j) then phWait else phIdle)
  else s

/-- Ends the partitions whose last cycle has been processed. -/
def State.capSettle (s : State) (u : Nat) : State :=
  let due := fun (s : State) (e : Nat) => (s.cu u).queue.all (fun c => decide (e ≤ c.cycle))
  (s.capLive u).foldl (fun s k => match (s.cuPart u k).ending with
    | some (cause, e) =>
      if due s e then
        s.capFinish u k (completion cause (s.flag (F.CAP_P_STAT_DUT_FAIL u k))) cause (decide (cause < 6))
      else s
    | none => s) s

/-- Partition `k` stops with a cause after the cycles before `e` (R208): a contained fault sets its status at once. -/
def State.capEnd (s : State) (k cause e : Nat) : State :=
  ((List.range 8).filter (fun u => (s.cuPart u k).live)).foldl (fun s u =>
    let s := if 6 ≤ cause then s.setStatus u k 5 else s
    (s.setCuPart u k { s.cuPart u k with ending := some (cause, e) }).capSettle u) s

/-- Capture of partition `k` ends at once with status FAULTED (R475): an END record, and nothing further. -/
def State.capIsolate (s : State) (k : Nat) : State :=
  ((List.range 8).filter (fun u => (s.cuPart u k).live)).foldl (fun s u => s.capFinish u k 5 0xA true) s

/-- An armed partition that has not started goes to FAULTED (R208). -/
def State.capFaultArmed (s : State) (k : Nat) : State :=
  ((List.range 8).filter (fun u => s.capArmed u k && !(s.cuPart u k).live)).foldl (fun s u =>
    ((s.setStatus u k 5).capUnarm u k).setFlag (F.CAP_P_STAT_RETAINED u k)
      ((s.cuPart u k).flog != 0 || (s.cuPart u k).raw != 0)) s

/-! ### Starts, cycles and results -/

/-- A partition's context at the start of a run (R206, R207, R209). -/
def State.capClear (s : State) (u k : Nat) : State :=
  let s := s.setReg (R.CAP_P_STAT u k) (s.reg (R.CAP_P_STAT u k) &&& 0x60000000)
  let s := [R.CAP_P_FIRST_LO u k, R.CAP_P_FIRST_HI u k, R.CAP_P_CMP_LO u k, R.CAP_P_CMP_HI u k, R.CAP_P_FAILC_LO u k,
    R.CAP_P_FAILC_HI u k].foldl (fun s o => s.setReg o 0) s
  s.setCuPart u k { s.cuPart u k with lostRun := 0, lostSince := 0, firstStamp := 0, live := true, ending := none }

/-- The gang of SQn starts with the partitions `ks` (R206, R215, R216); `stamp` is the time of the start. -/
def State.capStart (s : State) (n : Nat) (ks : List Nat) (stamp : BitVec 64) : State :=
  (s.gangUnits n).foldl (fun s u =>
    let own := ks.filter (fun k => s.capArmed u k)
    if own.isEmpty then s
    else
      let s := own.foldl (fun s k => s.capClear u k) s
      let ring := (own.map (fun k => s.partSegRecs u k))
      (s.setCu u { s.cu u with
        queue := [], ext := [], pre := (s.reg (R.CAP_PRE_EFF u)).toNat, post := (s.reg (R.CAP_POST_EFF u)).toNat
        ring := ring.foldl min (ring.headD 0), done := 0, doneStamp := stamp, sent := none, ports := [] }).segStart u 0) s

/-- A cycle of the gang joins the queues of its units. -/
def State.capPush (s : State) (n : Nat) (c : CycleRec) : State :=
  (s.gangUnits n).foldl (fun s u =>
    if (s.capLive u).isEmpty then s else s.setCu u { s.cu u with queue := (s.cu u).queue ++ [c] }) s

/-- More than 4,096 released cycles wait behind an earlier one (R204). -/
def Cu.backlog (x : Cu) : Bool :=
  match x.queue with
  | [] => false
  | c :: t => c.left != 0 && decide (4096 < (t.filter (fun d => d.left == 0)).length)

/-- A strobe of cycle `cycle` has been released: its result, if it gave one, reaches the units of the gang. -/
def State.capDeliver (s : State) (n cycle : Nat) (shot : Option Shot) : State :=
  (s.gangUnits n).foldl (fun s u =>
    let q := (s.cu u).queue.map (fun c => if c.cycle = cycle then
      { c with left := c.left - 1, shots := c.shots ++ shot.toList } else c)
    let s := s.setCu u { s.cu u with queue := q }
    if (s.cu u).backlog then (s.fault (P.CU u) X.CU_BACKLOG).gangFault n 0xA else s) s

/-- An external event reaches the capture units (R205): it is discarded where the gang does not run. -/
def State.capExternal (s : State) (code : Nat) : State :=
  (List.range 8).foldl (fun s u =>
    if s.gangRuns (s.fld (F.CAP_SRC_SEQ u)) && !(s.capLive u).isEmpty then
      s.setCu u { s.cu u with ext := (s.cu u).ext ++ [code] }
    else s) s

/-- The changes of capture kinds that travel with a cycle (R93). A disable of raw capture during POST ends the segment (R216).
-/
def State.capKinds (s : State) (u : Nat) (c : CycleRec) : State :=
  let was := s.anyRaw u
  let s := c.kinds.foldl (fun s e =>
    if e.2.2.testBit u then
      (s.capLive u).foldl (fun s k =>
        let v := s.fld (F.CAP_P_STAT_KINDS u k)
        s.setFld (F.CAP_P_STAT_KINDS u k) (if e.1 then v ||| e.2.1 else v &&& (7 ^^^ (e.2.1 % 8)))) s
    else s) s
  if was && !s.anyRaw u then
    let s := s.setCu u { s.cu u with recOpen := false }
    if s.phase u == phPost then s.segEnd u false false else s
  else s

/-- A released cycle is processed (R203, R206, R207, R211, R218). -/
def State.capProcess (s : State) (u : Nat) (c : CycleRec) : State :=
  let n := s.fld (F.CAP_SRC_SEQ u)
  let s := match s.takeInj (P.CU u) X.CU_BACKLOG with
    | (true, s) => (s.faultInj (P.CU u) X.CU_BACKLOG true).gangFault n 0xA
    | (false, s) => s
  let s := s.capKinds u c
  let ext := (s.cu u).ext
  let s := s.setCu u { s.cu u with ext := [], done := c.cycle + 1, doneStamp := c.stamp }
  let live := s.capLive u
  let firsts := live.filter (fun k => s.dutFails k c && !s.flag (F.CAP_P_STAT_FIRST_VALID u k))
  let s := live.foldl (fun s k => s.verdict u k c) s
  if s.phase u == phStopped then s
  else
    let s := live.foldl (fun s k => s.siteCount u k c) s
    let stop := s.trgCycle u c { fails := live.filter (fun k => s.dutFails k c), firsts := firsts, viol := false, ext := ext }
    live.foldl (fun s k => s.cycleRecords u k c) stop

/-- CAPTURE_CYCLE_PROCESS (R203): the oldest cycle of CUu, once every result of it has been released. -/
def execCaptureCycleProcess (u : Fin 8) (s : State) : Host.Outcome State Fault Refusal :=
  done (match (s.cu u).queue with
    | [] => s
    | c :: t =>
      if c.left != 0 then s
      else ((s.setCu u { s.cu u with queue := t }).capProcess u c).capSettle u)

/-- AUTO_TRIGGER_TIMEOUT (R220): the forced trigger is taken at the next cycle processed. -/
def execAutoTriggerTimeout (u : Fin 8) (s : State) : Host.Outcome State Fault Refusal :=
  done (if s.fld (F.TRG_CFG_MODE u) == 2 && s.phase u == phPre then s.setCu u { s.cu u with force := true } else s)

/-- REARM_END (R221): the next segment starts in PRE. -/
def execRearmEnd (u : Fin 8) (s : State) : Host.Outcome State Fault Refusal :=
  done (if s.phase u == phRearm then s.segStart u (s.fld (F.TRG_STATE_SEG u) + 1) else s)

/-- TRG_TIMER_EXPIRE (R218): a running timer is at its limit. -/
def execTrgTimerExpire (u : Fin 8) (i : Fin 4) (s : State) : Host.Outcome State Fault Refusal :=
  done (if (s.timer u i).1 && !s.timerExpired u i then
      s.setCu u { s.cu u with
        timers := sset (false, 0, 0) (s.cu u).timers i (true, (s.reg (R.TRG_TM_LIM u i)).toNat, s.dclk) }
    else s)

/-! ### The CU page -/

/-- No partition that CUu serves is out of IDLE (R202). -/
def State.capIdle (s : State) (u : Nat) : Bool := (List.range 64).all (fun k => !s.serves u k || s.pstate k == pIdle)

/-- A write of CAP_P_STAT (R201). -/
def capReleaseRule (u k : Nat) (v : Word) (s : State) : WRule :=
  { stateOk := !v.getLsbD 31 || s.pstate k == pIdle
    eff := fun s => if v.getLsbD 31 then s.capFree u k else s }

/-- A write of CAP_P_FLOG_RD (R209): the level may not become negative. -/
def capRdRule (u k : Nat) (v : Word) (s : State) : WRule :=
  let rd := (s.reg (R.CAP_P_FLOG_RD u k)).toNat
  let cap := s.flogCap u k
  { rangeOk := if cap = 0 then v == 0 else
      decide (v.toNat < cap) && decide (ringLevel v.toNat rd cap ≤ s.flogLevel u k)
    eff := fun s => s.setReg (R.CAP_P_FLOG_RD u k) v }

/-- A write of a CUn page (07); `owners` recomputes the owners of the pages (R470). -/
def capRule (owners : State → State) (u off : Nat) (v : Word) (s : State) : WRule :=
  let o := off - P.CU u
  let idle := s.capIdle u
  let plain := fun (m : Word) (ok : Bool) => ({ stateOk := idle, rangeOk := ok, eff := fun s => s.setReg off (v &&& m) } : WRule)
  if o = 0x40 then { stateOk := idle && s.bound (v.toNat % 16), eff := fun s => s.setReg off (v &&& 0xF) }
  else if o = 0x44 ∨ o = 0x48 then
    { stateOk := idle && (v == 0 || !s.cuRetired u), eff := fun s => owners (s.setReg off v) }
  else if o = 0x4C then plain 0xFFFFFF07 (bitsOf v.toNat 31 16 != 0 && bitsOf v.toNat 15 8 != 0)
  else if o = 0x50 then
    plain 0x7F07 (bitsOf v.toNat 14 8 != 0 && decide (bitsOf v.toNat 14 8 ≤ 64) && bitsOf v.toNat 1 0 != 3)
  else if o = 0x54 ∨ o = 0x58 ∨ o = 0x68 then plain 0xFFFFFFFF true
  else if o = 0x64 then plain 0xFFFFFFFF (v != 0)
  else if o = 0x6C then { rangeOk := bitsOf v.toNat 15 8 != 0, eff := fun s => s.setReg off (v &&& 0xFF0F) }
  else if 0x88 ≤ o ∧ o < 0xA8 then
    (if o % 8 = 0 then
      let c := v.toNat % 256
      plain 0xFF (decide (c < 0x80) && !(decide (0x20 ≤ c) && decide (c ≤ 0x27)))
     else plain 0xFFFFFFFF (v != 0))
  else if 0xA8 ≤ o ∧ o < 0xB8 then plain 0xFFFFFFFF (v != 0)
  else if 0x100 ≤ o ∧ o < 0x200 then
    (if o % 16 < 8 then plain 0xFFF0FFFF (decide (bitsOf v.toNat 31 24 < 0x80))
     else if o % 16 < 12 then plain 1 true else ignored)
  else if o = 0x200 then plain 0xF (s.gangOf (v.toNat % 16) == s.fld (F.CAP_SRC_SEQ u))
  else if o = 0x204 ∨ o = 0x208 then plain 0xFFFFFFFF true
  else if 0x400 ≤ o ∧ o < 0x1000 then
    let k := (o - 0x400) / 0x30
    if (o - 0x400) % 0x30 = 0 then capReleaseRule u k v s
    else if (o - 0x400) % 0x30 = 12 then capRdRule u k v s else ignored
  else ignored

/-- Registers of a CUn page that show state other than a stored word: CAP_PMASK of a retired unit, the timers, and contexts of
partitions not served. -/
def State.capRead (s : State) (u off : Nat) : Option Word :=
  let o := off - P.CU u
  if (o = 0x44 ∨ o = 0x48) ∧ s.cuRetired u then some 0
  else if 0xC8 ≤ o ∧ o < 0xD8 then
    let t := s.timer u ((o - 0xC8) / 4)
    some (BitVec.ofNat 32 ((if t.1 then 2 ^ 31 else 0) + min 0x7FFFFFFF t.2))
  else if 0x400 ≤ o ∧ o < 0x1000 ∧ !s.serves u ((o - 0x400) / 0x30) then some 0
  else none

/-- CAP_P_RELEASE (R201). -/
def execCapPRelease (a : Agent) (u : Fin 8) (k : Fin 64) (s : State) : Host.Outcome State Fault Refusal :=
  done (s.writeBy a .cu (P.CU u) (R.CAP_P_STAT u k) (capReleaseRule u k 0x80000000 s))

/-- CAP_P_FLOG_RD (R209). -/
def execCapPFlogRd (a : Agent) (u : Fin 8) (k : Fin 64) (v : Word) (s : State) : Host.Outcome State Fault Refusal :=
  done (s.writeBy a .cu (P.CU u) (R.CAP_P_FLOG_RD u k) (capRdRule u k v s))

/-- What a block reset of a CUn page does behind its registers (R538). -/
def State.capReset (s : State) (u : Nat) : State :=
  let s := (s.segState u).setFld (F.TRG_STATE_SEG u) 0
  if (s.capLive u).isEmpty then s.setPhase u (if (List.range 64).any (fun j => s.capArmed u j) then phWait else phIdle)
  else s.setPhase u phStopped

end Sys2Proof.Machine
end

