-- ==== Sys2Proof/Machine/Sent.lean ====
section
/-! DEFINITION. The SAE J2716 frames of SENTTX and SENTRX (R132 to R135). -/

namespace Sys2Proof.Machine

open Sys2Proof

/-! ### Checksums (R133) -/

/-- One bit shifted into a CRC register of `w` bits with polynomial `p` (without its top term): augmented form, in which the
message is shifted in and 0 bits follow it (DEDUCED from the further nibble of R133). -/
def crcShift (w p crc : Nat) (b : Bool) : Nat :=
  let x := (crc * 2 + (if b then 1 else 0)) % 2 ^ w
  if crc.testBit (w - 1) then x ^^^ p else x

/-- The bits of the low `w` bits of a number, most significant first. -/
def msbFirst (w v : Nat) : List Bool := (List.range w).map (fun i => v.testBit (w - 1 - i))

/-- The fast-channel CRC of data nibbles (R133): x^4 + x^3 + x^2 + 1, seed 0b0101; `legacy` leaves out the further nibble. -/
def sentCrc (legacy : Bool) (data : List Nat) : Nat :=
  ((data ++ (if legacy then [] else [0])).flatMap (msbFirst 4)).foldl (crcShift 4 13) 5

/-- The CRC of an enhanced serial message (R133): x^6 + x^4 + x^3 + 1, seed 0b010101, over the status bits 2 and 3 of frames 7
to 18 in order, and six 0 bits (PRESUMED, SAE J2716). -/
def esmCrc (bits : List Bool) : Nat := (bits ++ List.replicate 6 false).foldl (crcShift 6 25) 21

/-- Status bits 3 of the 18 frames of a message with CFG, the upper field of 4 bits, the lower one (PRESUMED, SAE J2716). -/
def esmBits3 (cfg : Bool) (hi lo : Nat) : List Bool :=
  [true, true, true, true, true, true, false, cfg] ++ msbFirst 4 hi ++ [false] ++ msbFirst 4 lo ++ [false]

/-- The status bits (3, 2) of the frames of the message of a serial message word (R132; layout PRESUMED, SAE J2716). -/
def esmFrames (w : Nat) : List (Bool × Bool) :=
  let cfg := w.testBit 31
  let id := bitsOf w 23 16
  let data := bitsOf w 15 0
  let b3 := if cfg then esmBits3 true (id % 16) (data / 4096) else esmBits3 false (id / 16) (id % 16)
  let d := msbFirst 12 (data % 4096)
  let crc := esmCrc ((d.zip (b3.drop 6)).flatMap (fun x => [x.1, x.2]))
  b3.zip (msbFirst 6 crc ++ d)

/-! ### SENTTX (R132) -/

/-- The nibbles of a frame word: status, data D1 to D(n), CRC. -/
def sentNibbles (legacy : Bool) (n w : Nat) (esm : Option (Bool × Bool)) : List Nat :=
  let st := match esm with
    | some (b3, b2) => w % 4 + (if b3 then 8 else 0) + (if b2 then 4 else 0)
    | none => w % 16
  let data := (List.range n).map (fun i => bitsOf w (7 + 4 * i) (4 + 4 * i))
  let crc := sentCrc legacy data
  st :: (data ++ [if w.testBit 31 then 15 - crc else crc])

/-- The pulse lengths of a frame in ticks (R132). -/
def sentPulses (nibbles : List Nat) (pause cfl : Bool) (plen : Nat) : List Nat :=
  let body := 56 :: nibbles.map (fun x => 12 + x)
  if pause then body ++ [if cfl then plen - body.sum else plen] else body

/-- The levels of frames, each with its cycles: every pulse falls, stays low for `low` ticks and high for the rest; the closing
pulse follows the last. -/
def sentRuns (low tick : Nat) (pulses : List Nat) : List (Bool × Nat) :=
  pulses.flatMap (fun t => [(false, low * tick), (true, (t - low) * tick)]) ++ [(false, low * tick)]

/-- The level of a run list in cycle `i`; it rests at DRIVE1. -/
def runLevel : List (Bool × Nat) → Nat → Bool
  | [], _ => true
  | (b, n) :: t, i => if i < n then b else runLevel t (i - n)

/-- The cycles of a run list. -/
def runCycles (l : List (Bool × Nat)) : Nat := (l.map Prod.snd).sum

/-! ### SENTRX (R134) -/

/-- ERR codes of a SENT record (R211). -/
abbrev sentOk : Nat := 0
abbrev sentCal : Nat := 1
abbrev sentNibble : Nat := 2
abbrev sentBadCrc : Nat := 3
abbrev sentPause : Nat := 4
abbrev sentMismatch : Nat := 5
abbrev sentShort : Nat := 6

/-- A SENT record of a port (R211). -/
def sentRecord (part port err : Nat) (nibbles : List Nat) (cal pause : Nat) (n : Nat) : SentRec :=
  let body := ((nibbles.take (n + 1)).zipIdx.map (fun x => x.1 * 16 ^ x.2)).sum
  let crc := nibbles.getD (n + 1) 0
  { part := part, type := 4, w2 := body + crc * 2 ^ 28 + err * 2 ^ 32 + port * 2 ^ 40
    w3 := cal % 2 ^ 32 + pause % 65536 * 2 ^ 32, bad := err != sentOk }

/-- A calibration interval is accepted (R134): its tick within 25 % of TICK_CYC, and at most 1/64 from the previous one. -/
def calOk (tick : Nat) (prev : Option Nat) (x : Nat) : Bool :=
  let near := fun (a b : Nat) => a - b + (b - a)
  decide (4 * near x (56 * tick) ≤ 56 * tick) && (match prev with
    | some p => decide (64 * near x p ≤ p)
    | none => true)

/-- An interval in whole ticks, rounded (R134). -/
def sentTicks (cal x : Nat) : Nat := (2 * x * 56 + cal) / (2 * max 1 cal)

/-- The enhanced serial message that the last 18 status nibbles hold, if any: words 2 of its record without the port. -/
def esmMessage (st : List Nat) : Option Nat :=
  let b3 := st.map (fun x => x.testBit 3)
  let b2 := st.map (fun x => x.testBit 2)
  let cfg := b3.getD 7 false
  let nib := fun (i : Nat) => bitsNat ((b3.drop i).take 4).reverse
  if st.length = 18 ∧ b3.take 7 = [true, true, true, true, true, true, false] ∧ b3.getD 12 true = false
      ∧ b3.getD 17 true = false then
    let d := bitsNat (b2.drop 6).reverse
    let data := if cfg then nib 13 * 4096 + d else d
    let id := if cfg then nib 8 else nib 8 * 16 + nib 13
    let bad := esmCrc (((b2.drop 6).zip (b3.drop 6)).flatMap (fun x => [x.1, x.2])) != bitsNat (b2.take 6).reverse
    some (data + id * 2 ^ 16 + (if cfg then 2 ^ 24 else 0) + (if bad then 2 ^ 25 else 0))
  else none

/-- The frame's ERR (R134, R211): CRC, PAUSE, MISMATCH in that order. `want` is the pair of value word and care mask. -/
def frameErr (g : SentSetup) (nibbles : List Nat) (pause : Nat) (want : Option (Nat × Nat)) : Nat :=
  if sentCrc (g.crcm == 1) ((nibbles.drop 1).take g.nibbles) != nibbles.getD (g.nibbles + 1) 0 then sentBadCrc
  else if g.pause && !(decide (12 ≤ pause) && decide (pause ≤ 768)) then sentPause
  else
    match want with
    | some (v, m) =>
      if (List.range (g.nibbles + 1)).all (fun i => !m.testBit i || nibbles.getD i 0 == bitsOf v (4 * i + 3) (4 * i)) then
        sentOk
      else sentMismatch
    | none => sentOk

/-- A frame is complete: its records, and the port ready for the next calibration pulse. -/
def frameDone (g : SentSetup) (part port pause : Nat) (want : Option (Nat × Nat)) (p : SentPort) : SentPort × List SentRec :=
  let rec1 := sentRecord part port (frameErr g p.nibbles pause want) p.nibbles (p.cal.getD 0) pause g.nibbles
  let esm := if g.esm then (p.esm ++ [p.nibbles.headD 0]).reverse.take 18 |>.reverse else []
  let p := { p with prev := p.cal, cal := none, nibbles := [], frames := p.frames + 1, esm := esm }
  match (if g.esm then esmMessage esm else none) with
  | some w => ({ p with esm := [] }, [rec1, { part := part, type := 5, w2 := w + port * 2 ^ 26, w3 := 0, bad := false }])
  | none => (p, [rec1])

/-- A falling edge closes an interval of `x` cycles (R134). -/
def sentInterval (g : SentSetup) (part port x : Nat) (want : Option (Nat × Nat)) (p : SentPort) : SentPort × List SentRec :=
  match p.cal with
  | none =>
    if calOk g.tick p.prev x then ({ p with cal := some x, nibbles := [] }, [])
    else (p, [sentRecord part port sentCal [] x 0 g.nibbles])
  | some c =>
    let t := sentTicks c x
    if p.nibbles.length < g.nibbles + 2 then
      if t < 12 ∨ 27 < t then
        ({ p with cal := none, nibbles := [] }, [sentRecord part port sentNibble p.nibbles c 0 g.nibbles])
      else
        let p := { p with nibbles := p.nibbles ++ [t - 12] }
        if p.nibbles.length = g.nibbles + 2 ∧ !g.pause then frameDone g part port 0 want p else (p, [])
    else frameDone g part port t want p

/-- The level of a port in a cycle (R134). -/
def sentLevel (g : SentSetup) (part port cycle : Nat) (lv : Bool) (want : Option (Nat × Nat)) (p : SentPort) :
    SentPort × List SentRec :=
  if p.level && !lv then
    match p.fell with
    | none => ({ p with level := false, fell := some cycle }, [])
    | some f =>
      match sentInterval g part port (cycle - f) want p with
      | (p, l) => ({ p with level := false, fell := some cycle }, l)
  else ({ p with level := lv }, [])

/-- The SENT port of CUu that listens on a pin channel of the gang of SQn. -/
def State.sentPortOf (s : State) (u n ch : Nat) : Option (SentSetup × Nat) :=
  match (s.cu u).sent with
  | none => none
  | some g => ((List.range 4).find? (fun i => g.pins.getD i 255 != 255 && 16 * n + g.pins.getD i 255 == ch)).map (fun i => (g, i))

/-- Records join the cycle `cycle` of CUu. -/
def State.addSents (s : State) (u cycle : Nat) (l : List SentRec) : State :=
  s.setCu u { s.cu u with queue := (s.cu u).queue.map (fun c => if c.cycle = cycle then { c with sents := c.sents ++ l } else c) }

/-- A released sample reaches the SENT decoders of the gang of SQn; answers the partitions with a violation, whose condition
accumulators it sets. -/
def State.sentFeed (s : State) (n ch cycle : Nat) (level : Bool) : List Nat × State :=
  (s.gangUnits n).foldl (fun (acc : List Nat × State) u =>
    let s := acc.2
    match (s.sentPortOf u n ch).filter (fun x => decide (x.1.start ≤ cycle)) with
    | none => acc
    | some (g, i) =>
      let p := sget SentPort.init (s.cu u).ports i
      let part := (s.pinPart ch).getD 0
      let want := if g.expect = 0 then none else
        some (s.seqNat n (g.expect + 8 * p.frames) 4, s.seqNat n (g.expect + 8 * p.frames + 4) 4)
      match sentLevel g part i cycle level want p with
      | (p, l) =>
        let s := s.setCu u { s.cu u with ports := sset SentPort.init (s.cu u).ports i p }
        ((if l.any SentRec.bad then part :: acc.1 else acc.1), s.addSents u cycle l)) ([], s)

/-- Every port of CUu has decoded FRAMES frames (R134). -/
def State.sentComplete (s : State) (u : Nat) : Bool :=
  match (s.cu u).sent with
  | none => true
  | some g => (List.range 4).all (fun i => g.pins.getD i 255 == 255
      || decide (g.frames ≤ (sget SentPort.init (s.cu u).ports i).frames))

/-- The SHORT records of a decoder at its end (R134). -/
def shortRecords (s : State) (g : SentSetup) (n : Nat) (ports : List (Nat × SentPort)) : List SentRec :=
  ((List.range 4).filter (fun i => g.pins.getD i 255 != 255 && decide ((sget SentPort.init ports i).frames < g.frames))).map
    (fun i => sentRecord ((s.pinPart (16 * n + g.pins.getD i 255)).getD 0) i sentShort [] 0 0 g.nibbles)

/-- SENTRX ends in CUu after cycle `cycle`: a port short of FRAMES is a DUT fail of its partition. Answers the partitions. -/
def State.sentEnd (s : State) (u n cycle : Nat) : List Nat × State :=
  match (s.cu u).sent with
  | none => ([], s)
  | some g =>
    let l := shortRecords s g n (s.cu u).ports
    (l.map SentRec.part, (s.addSents u cycle l).setCu u { (s.addSents u cycle l).cu u with sent := none, ports := [] })

end Sys2Proof.Machine
end

