-- ==== Sys2Proof/Machine/Timing.lean ====
section
/-! DEFINITION. Edge timing: cycles, edges, strobes, the condition path, RESAMPLE, the sideband and the self-test (05, R137 to
R171; R85 to R88). -/

namespace Sys2Proof.Machine

open Sys2Proof

/-! ### Lead and tables (R9, R138 to R142, R161) -/

/-- The path delay of line `l` (0 DRV, 1 DEN, 2 CMPH, 3 CMPL) of local pin `p` (R161). -/
def State.pathDelay (s : State) (t p l : Nat) : Nat :=
  let v := (s.reg (R.PE_DLY t p + 4 * l)).toNat
  bitsOf v 31 16 + bitsOf v 15 0

/-- The round trip of a pin (R161). -/
def State.roundTrip (s : State) (t p : Nat) : Nat :=
  max (s.pathDelay t p 0) (s.pathDelay t p 1) + max (s.pathDelay t p 2) (s.pathDelay t p 3)

/-- PE_RT_MAX of a timing group. -/
def State.rtMax (s : State) (t : Nat) : Nat := ((List.range 16).map (s.roundTrip t)).foldl max 0

/-- The largest PE round trip of the gang of SQn in whole ns, rounded up (R161). -/
def State.gangRtNs (s : State) (n : Nat) : Nat := (((s.gangGroups n).map s.rtMax).foldl max 0 + 999) / 1000

/-- LEAD_NS of SQn (R9; SEQ_COND_LEAD). -/
def State.leadNs (s : State) (n : Nat) : Nat :=
  max (96 + s.gangRtNs n + 40 * s.fld (F.SEQ_COND_LEAD_HOPS n)) (s.fld (F.SEQ_SPAN_FLOOR_FLOOR_NS n))

/-- The release edge of a strobe time (R85), in ps. -/
def State.releaseAt (s : State) (n time : Nat) : Nat := (time + 1000 * s.leadNs n + 1999) / 2000 * 2000

/-- PERIOD_PS of an entry in force (R138). -/
def State.periodPs (s : State) (n i : Nat) : Nat := (s.tabActive (0x1840000 + n * 0x400 + 4 * i)).toNat % 2 ^ 23

/-- Word `j` of the descriptor in force (R140). -/
def State.tsDesc (s : State) (t ts p j : Nat) : Word := s.tabActive (0x1800000 + t * 0x4000 + (ts * 16 + p) * 16 + 4 * j)

/-- Word `j` of the waveform entry in force (R141). -/
def State.wtWord (s : State) (t ts p w j : Nat) : Word :=
  s.tabActive (0x1000000 + t * 0x80000 + ((ts * 16 + p) * 16 + w) * 32 + 4 * j)

/-- The smallest spacing of edges on a line, in quarters of a ps (R2, R147). -/
def State.minSpacing (s : State) : Nat := if s.dev.shadow.grade = 2 then 625 else 500

/-! ### Counts of drops -/

/-- KINDs of PE_LAST_DROP. -/
abbrev dropCollide : Nat := 1
abbrev dropWindow : Nat := 2
abbrev dropStrobe : Nat := 3
abbrev dropCode : Nat := 4

/-- A drop on timing group `t`: its counter, PE_LAST_DROP, the fault bit, and the event for an edge or strobe. -/
def State.drop (s : State) (t kind line pin cycle : Nat) : State :=
  let s := s.count (if kind = dropCollide then R.PE_EDGE_COLLIDE t else if kind = dropWindow then R.PE_WIN_DROP t
    else if kind = dropStrobe then R.PE_STROBE_DROP t else R.PE_UNDEF_CODE t)
  let s := s.setReg (R.PE_LAST_DROP t)
    (BitVec.ofNat 32 (kind * 2 ^ 29 + line * 2 ^ 28 + pin * 2 ^ 24 + cycle % 2 ^ 24))
  let s := s.fault (P.TG t) (if kind = dropCollide then X.TG_EDGE_COLLIDE else if kind = dropWindow then X.TG_WIN_DROP
    else if kind = dropStrobe then X.TG_STROBE_DROP else X.TG_UNDEF_CODE)
  if kind = dropCode then s else s.event (P.TG t) E.TG_DROP

/-! ### One pin in one cycle (R144 to R150) -/

/-- What a cycle gives every pin: sequencer, number, start and period in ps, timing set, the mark of its MATCH repetition. -/
structure CycleCtx where
  seq : Nat
  cycle : Nat
  start : Nat
  period : Nat
  ts : Nat
  rep : Nat

/-- A shifted time of a cycle that lies in its window 0 ≤ t < 2 × period (R145, R150), on the time line. -/
def CycleCtx.shifted (c : CycleCtx) (t shift : Nat) : Option Nat :=
  let x : Int := t + signedOf 25 shift
  if 0 ≤ x ∧ x < 2 * c.period then some (c.start + x.toNat) else none

/-- Edge `i` of an entry joins the queue of its line, or is dropped outside its window (R145); a DRV line that a synthesis channel
drives takes none (R270). -/
def State.enqueueEdge (s : State) (c : CycleCtx) (ch i : Nat) (w : Word) (shift : Nat) : State :=
  if !w.getLsbD 31 || (!w.getLsbD 30 && s.synBound ch) then s
  else
    match c.shifted (w.toNat % 2 ^ 24) shift with
    | none => s.drop (ch / 16) dropWindow (if w.getLsbD 30 then 1 else 0) (ch % 16) c.cycle
    | some t =>
      let x := s.pin ch
      let e : Edge := ⟨t, c.cycle, i, w.getLsbD 29⟩
      s.setPin ch (if w.getLsbD 30 then { x with denQ := x.denQ ++ [e] } else { x with drvQ := x.drvQ ++ [e] })

/-- A result joins the condition path of SQn. -/
def State.addFlight (s : State) (n : Nat) (f : Flight) : State :=
  let q := s.seq n
  s.setSeq n { q with flight := q.flight ++ [f], refTime := max q.refTime f.time }

/-- The drop of a strobe outside its window (R150): one with EXPECT counts as failed. -/
def State.strobeDrop (s : State) (c : CycleCtx) (ch j expect : Nat) : State :=
  let s := s.drop (ch / 16) dropStrobe 0 (ch % 16) c.cycle
  if expect = 0 then s else s.addFlight c.seq ⟨ch, j, c.cycle, c.rep, expect, c.start, some (true, none), false⟩

/-- Strobe `j` of an entry is enqueued, or dropped by the first two cases of R150; a dropped one with EXPECT fails. -/
def State.enqueueStrobe (s : State) (c : CycleCtx) (ch j : Nat) (w e : Word) (shift : Nat) : State :=
  if !w.getLsbD 31 then s
  else
    let window := w.getLsbD 30
    let expect := bitsOf w.toNat 27 24
    let t0 := c.shifted (w.toNat % 2 ^ 24) shift
    let t1 := if window then c.shifted (e.toNat % 2 ^ 24) shift else t0.map (· + 125)
    match t0, t1 with
    | some a, some b =>
      if window && decide (b < a + 125) then s.strobeDrop c ch j expect
      else
        let x := s.pin ch
        let s := s.setPin ch { x with strobes := x.strobes ++ [⟨j, c.cycle, a, b, window, expect⟩] }
        s.addFlight c.seq ⟨ch, j, c.cycle, c.rep, expect, if window then b else a, none, false⟩
    | _, _ => s.strobeDrop c ch j expect

/-- An evaluated pin with its code (R144); answers whether the code is defined. `strobes` says that its strobes are taken. -/
def State.evalPin (s : State) (c : CycleCtx) (ch code : Nat) (strobes : Bool) : Bool × State :=
  let t := ch / 16
  let p := ch % 16
  if !(s.tsDesc t c.ts p 0).getLsbD code then (false, s.drop t dropCode 0 p c.cycle)
  else
    let ds := (s.tsDesc t c.ts p 1).toNat
    let ss := (s.tsDesc t c.ts p 2).toNat
    let s := (List.range 4).foldl (fun s i => s.enqueueEdge c ch i (s.wtWord t c.ts p code i) ds) s
    (true, if strobes then (List.range 2).foldl (fun s j =>
      s.enqueueStrobe c ch j (s.wtWord t c.ts p code (4 + j)) (s.wtWord t c.ts p code (6 + j)) ss) s else s)

/-! ### Overlays and shipped routines (R118, R119, R126 to R134) -/

/-- Drops the head words of a RUNS queue whose cycles are used up. -/
def runsHead : List Word → Nat → List Word × Nat
  | [], _ => ([], 0)
  | w :: t, u => if u < w.toNat % 2 ^ 31 then (w :: t, u) else runsHead t (u - w.toNat % 2 ^ 31)

/-- A bit of pattern memory: bit `i` of the bytes from `a`. -/
def State.seqBit (s : State) (n a i : Nat) : Bool := (s.seqByte n (a + i / 8)).getLsbD (i % 8)

/-- The code of a slot in a cycle and the slot after it (R118, R119); OFF and FOLLOW give none here. -/
def State.slotStep (s : State) (n : Nat) (x : Slot) : Option Nat × Slot :=
  let bit := fun (b : Bool) => if b then x.code1 else x.code0
  let dry := (some x.code0, { x with under := true })
  if x.kind = 0 ∨ x.kind = 5 then (none, x)
  else if x.under then (some x.code0, x)
  else if x.kind = 1 then
    match x.queue with
    | [] => dry
    | w :: t => (some (bit (w.getLsbD x.used)),
        if x.used = 31 then { x with queue := t, used := 0 } else { x with used := x.used + 1 })
  else if x.kind = 2 then
    if x.stop ≤ x.addr + x.used / 8 then dry
    else (some (bit (s.seqBit n x.addr x.used)), { x with used := x.used + 1 })
  else if x.kind = 3 then
    if x.stop ≤ x.addr + x.used / 4 then dry
    else
      let v := s.seqBit n x.addr (2 * x.used)
      (some (if s.seqBit n x.addr (2 * x.used + 1) then bit v else x.codex), { x with used := x.used + 1 })
  else
    match runsHead x.queue x.used with
    | ([], _) => dry
    | (w :: t, u) => (some (bit (w.getLsbD 31)), { x with queue := w :: t, used := u + 1 })

/-- The slots of a block in a cycle: (gang pin, code) of those that are not OFF, and the slots after it. -/
def State.slotCodes (s : State) (n : Nat) (l : List Slot) : List (Nat × Nat) × List Slot :=
  let r := l.map (s.slotStep n)
  let follow := fun (x : Slot) => match (r.map Prod.fst)[x.codex]? with
    | some (some c) => c
    | _ => x.code0
  ((l.zip r).filterMap (fun y => if y.1.kind = 5 then some (y.1.pin, follow y.1) else y.2.1.map (fun c => (y.1.pin, c))),
    r.map Prod.snd)

/-- The code field of CODES at bit `lo` (R126). -/
def codeAt (codes lo : Nat) : Nat := bitsOf codes (lo + 3) lo

/-- The codes of a TAP instruction in cycle `j` from its first (R128 to R130), by gang pin. -/
def State.tapCodes (s : State) (n : Nat) (g : TapGen) (j : Nat) : List (Nat × Nat) :=
  let drive := fun (b : Bool) => codeAt g.codes (if b then 12 else 8)
  let i := j - g.lead.length
  let inBody := decide (g.lead.length ≤ j) && decide (i < g.body)
  let total := g.lead.length + g.body + g.tail.length
  let tms := if j < g.lead.length then g.lead.getD j false
    else if inBody then (if g.shift then i + 1 == g.body else g.fill)
    else if j < total then g.tail.getD (i - g.body) false else g.rest
  let tdi := if inBody && g.shift then s.seqBit n g.tdi i else false
  let tdo := if inBody && g.shift && g.cmp && s.seqBit n g.tdo (2 * i + 1) then
      codeAt g.codes (if s.seqBit n g.tdo (2 * i) then 20 else 16)
    else codeAt g.codes 24
  (List.range 4).flatMap (fun k =>
    let pin := fun (m : Nat) => g.pins.getD (4 * k + m) 255
    if pin 0 = 255 then [] else
      [(pin 0, if j < total then codeAt g.codes 0 else codeAt g.codes 4), (pin 1, drive tms), (pin 2, drive tdi), (pin 3, tdo)])

/-- The codes of a shipped routine in cycle `j` from its first. -/
def State.genCodes (s : State) (n : Nat) (g : Gen) (j : Nat) : List (Nat × Nat) :=
  match g with
  | .tap g => s.tapCodes n g j
  | .sentTx pins codes runs =>
    ((List.range 4).filter (fun i => pins.getD i 255 != 255)).map (fun i =>
      (pins.getD i 255, codeAt codes (if runLevel runs j then 12 else 8)))
  | .sentRx pins codes => ((List.range 4).filter (fun i => pins.getD i 255 != 255)).map (fun i => (pins.getD i 255, codeAt codes 28))

/-- The code of a gang pin: of the overlay where it names the pin, else of the vector (R118). -/
def pinCode (lanes : List Nat) (ov : List (Nat × Nat)) (g : Nat) : Nat :=
  match ov.find? (fun x => x.1 == g) with
  | some x => x.2
  | none => bitsOf (lanes.getD (g / 16) 0) (4 * (g % 16) + 3) (4 * (g % 16))

/-! ### The cycle (R139, R143, R152 to R157) -/

/-- Timing groups of a gang. -/
def State.gangG (s : State) (n : Nat) : Nat := (s.gangGroups n).length

/-- Vector `i` of the block of a descriptor: lanes and side word. -/
def State.descVector (s : State) (n : Nat) (d : Desc) (i : Nat) : List Nat × Nat :=
  let g := s.gangG n
  if d.repBase || d.gen.isSome then ((List.range g).map (fun l => s.seqNat n (d.base + 8 * l) 8), 0)
  else blockVector (s.seqNat n) g d.side d.enc d.len d.base i

/-- The pins of the gang that are evaluated (R143): of partitions that are RUNNING and not held, while no contained fault is
reported. -/
def State.evalPins (s : State) (n : Nat) : List Nat :=
  let q := s.seq n
  if q.fault.isSome then []
  else (s.gangPins n).filter (fun ch => match s.pinPart ch with
    | some k => s.pstate k == pRunning && !q.heldParts.testBit k
    | none => false)

/-- Cycle starts at which the period index or the timing set differs from the cycle before (R152), and TG_STATE. -/
def State.tgCycle (s : State) (n pi ts : Nat) : State :=
  (s.gangGroups n).foldl (fun s t =>
    let x := s.tg t
    let s := match x.prev with
      | some p => if p == (pi, ts) then s else s.count (R.xx_BLK_COUNT (P.TG t))
      | none => s
    let s := (s.setFld (F.TG_STATE_PERIOD_IDX t) pi).setFld (F.TG_STATE_TS_IDX t) ts
    (s.setFld (F.TG_PERIOD_NOW_PERIOD_PS t) (s.periodPs n pi)).setTg t { s.tg t with prev := some (pi, ts) }) s

/-- The Invar time of a moment of the time line (R222), rounded to the time format. -/
def State.stampAt (s : State) (ps : Nat) : BitVec 64 := s.now + BitVec.ofInt 64 (roundDiv (((ps : Int) - 2000 * s.dclk) * 256) 1000)

/-- The TPULSE event of SQn (R63, R363, R384, R498). -/
def State.tpulse (s : State) (n : Nat) : State :=
  let pins := (List.range 8).filter (fun i => s.flag (F.DEV_TOUT_TP_EN i) && s.fld (F.DEV_TOUT_TP_SEQ i) == n)
  let s := { s with dev := { s.dev with trigPulse := pins.map (fun i => (i, PulseSource.tpulse)) ++ s.dev.trigPulse } }
  (s.stampEvent (0x20 + n)).fabSource 2 n

/-- The cycle count advances, and with it the start of the next cycle. -/
def State.cycleDone (s : State) (n period : Nat) : State :=
  let q := s.seq n
  (s.setReg64 (R.SEQ_CYCLE_LO n) (R.SEQ_CYCLE_HI n) (BitVec.ofNat 64 (s.cycleNo n + 1))).setSeq n
    { q with clock := q.clock + period, lastStart := q.clock }

/-- The record of a cycle reaches the capture units of the gang with what travels with it. -/
def State.cycleRecord (s : State) (n : Nat) (d : Option Desc) (start vec : Nat) (tp : Bool) : State :=
  let q := s.seq n
  let cyc := s.cycleNo n
  let marks := q.first.filterMap (fun e => match e with
    | .mark id => some id
    | _ => none)
  let kinds := q.first.filterMap (fun e => match e with
    | .capture on k u => some (on, k, u)
    | _ => none)
  let c : CycleRec :=
    { cycle := cyc, stamp := s.stampAt start, addr := (d.map Desc.pc).getD 0, vec := vec
      inMatch := (match d.map Desc.exit with
        | some (.matches _) => true
        | _ => false)
      tpulse := tp, marks := marks, kinds := kinds, mtos := q.firstMtos, sents := []
      left := (q.flight.filter (fun f => f.cycle == cyc && !f.remote)).length, shots := [] }
  let s := marks.foldl (fun s m => s.tracePattern 3 n cyc (s.stampAt start) m.toNat) s
  let s := (s.setSeq n { q with first := [], firstMtos := [] }).capPush n c
  q.first.foldl (fun s e => match e with
    | .sentShort u g => s.addSents u cyc (shortRecords s g n [])
    | _ => s) s

/-- A table read of the cycle is checked (R143): the outcome `chk`, or an injected error. Answers whether it is double. -/
def State.tableCheck (s : State) (n : Nat) (chk : EccCheck) : Bool × State :=
  match s.takeInj (P.TG n) X.TG_TABLE_ECC with
  | (true, s) => (true, (s.faultInj (P.TG n) X.TG_TABLE_ECC true).gangFault n 0xA)
  | (false, s) =>
    match chk with
    | .clean => (false, s)
    | .corrected => (false, s.count (R.xx_CE_COUNT (P.TG n)))
    | .double => (true, (s.fault (P.TG n) X.TG_TABLE_ECC).gangFault n 0xA)

/-- RESAMPLE mode of the gang of SQn (R155). -/
def State.resample (s : State) (n : Nat) : Bool := s.flag (F.TG_MODE_MODE n)

/-- The side word of a source vector comes into force (R64, R156); a skipped one raises its TPULSE later. -/
def State.takeSide (s : State) (n : Nat) (d : Desc) (w : Nat) (skipped : Bool) : State :=
  if !d.side then s
  else
    let q := s.seq n
    s.setSeq n { q with selPeriod := bitsOf w 15 8, selTs := bitsOf w 7 2, skipTp := q.skipTp || (skipped && w.testBit 0) }

/-- The source vectors from `source` up to `i` that no output cycle carries (R156). -/
def State.skipVectors (s : State) (n : Nat) (d : Desc) (i : Nat) : State :=
  let a := (s.seq n).source
  let s := (List.range (min i d.len - a)).foldl (fun s k => s.takeSide n d (s.descVector n d (a + k)).2 true) s
  s.setSeq n { s.seq n with source := max a (min i d.len) }

/-- The accumulator after an output cycle (R155): source vectors passed, and the rest. -/
def State.accumulate (s : State) (n period : Nat) : State :=
  let ps := max 1 (s.fld (F.TG_RS_SRC_SRC_PS n))
  let a := s.fld (F.TG_RS_ACC_ACC n) + period
  let q := s.seq n
  (s.setFld (F.TG_RS_ACC_ACC n) (a % ps)).setSeq n { q with vec := q.vec + a / ps }

/-- The pins of a cycle are evaluated with their codes; an undefined code is a contained fault of the gang (R144). -/
def State.placeCycle (s : State) (n : Nat) (c : CycleCtx) (lanes : List Nat) (ov : List (Nat × Nat)) (strobes : Bool) : State :=
  match (s.evalPins n).foldl (fun (acc : Bool × State) ch =>
      let k := (acc.2.pinPart ch).getD 0
      match acc.2.evalPin c ch (pinCode lanes ov (ch - 16 * n)) (strobes && !(acc.2.pmask n).testBit k) with
      | (ok, s) => (acc.1 && ok, s)) (true, s) with
  | (true, s) => s
  | (false, s) => s.gangFault n 0xA

/-- A cycle of the streaming block (R139, R155 to R157). -/
def State.runCycle (s : State) (n : Nat) (d : Desc) (chk : EccCheck) : State :=
  let rs := s.resample n
  let i := (s.seq n).vec
  let fresh := !rs || decide ((s.seq n).source ≤ i)
  let s := if rs then s.skipVectors n d i else s
  let v := s.descVector n d i
  let s := if fresh then s.takeSide n d v.2 false else s
  let q := s.seq n
  let tp := q.skipTp || (fresh && d.side && v.2.testBit 0)
  let cmask := d.side && v.2.testBit 1
  let period := s.periodPs n q.selPeriod
  let s := s.setSeq n { q with skipTp := false, source := if rs then max q.source (i + 1) else 0 }
  let s := s.tgCycle n q.selPeriod q.selTs
  match s.tableCheck n chk with
  | (bad, s) =>
    let s := if rs && decide (4 * s.fld (F.TG_RS_SRC_SRC_PS n) < period) then
        (s.fault (P.TG n) X.TG_RS_RATIO).gangFault n 0xA else s
    let j := (q.rep - 1) * d.len + i
    let (ovs, slots) := s.slotCodes n d.slots
    let ov := match d.gen with
      | some g => s.genCodes n g j
      | none => ovs
    let rep := match d.exit with
      | .matches _ => q.repStart + 1
      | _ => 0
    let c : CycleCtx := { seq := n, cycle := s.cycleNo n, start := q.clock, period := period, ts := q.selTs, rep := rep }
    let s := s.setSeq n { s.seq n with streaming := some { d with slots := slots } }
    let s := if bad then s else s.placeCycle n c v.1 ov (fresh && !cmask)
    let s := s.cycleRecord n (some d) q.clock i tp
    let s := if tp then s.tpulse n else s
    let s := s.setSeq n { s.seq n with refTime := max (s.seq n).refTime q.clock }
    let s := if rs then s.accumulate n period else s.setSeq n { s.seq n with vec := i + 1 }
    s.cycleDone n period

/-- A pause cycle, or a cycle of the hold vector (R12, R100, R153, R192): `lanes` are the hold vector's. -/
def State.unitCycle (s : State) (n : Nat) (lanes : Option (List Nat)) (chk : EccCheck) : State :=
  let q := s.seq n
  let period := s.periodPs n q.selPeriod
  let s := s.tgCycle n q.selPeriod q.selTs
  match s.tableCheck n chk with
  | (bad, s) =>
    let s := match lanes with
      | some l =>
        let c : CycleCtx := { seq := n, cycle := s.cycleNo n, start := q.clock, period := period, ts := q.selTs, rep := 0 }
        let k := s.reg64 (R.PGR_STALL_CYCLES_LO n) (R.PGR_STALL_CYCLES_HI n)
        let s := s.setReg64 (R.PGR_STALL_CYCLES_LO n) (R.PGR_STALL_CYCLES_HI n) (k + 1)
        if bad then s else s.placeCycle n c l [] false
      | none => s
    let s := s.cycleRecord n q.streaming q.clock 0 false
    (s.setSeq n { s.seq n with unit := q.unit + 1, refTime := max (s.seq n).refTime q.clock }).cycleDone n period

/-- The hold vector of SQn (R97). -/
def State.holdAddr (s : State) (n : Nat) : Nat :=
  (s.activeFld (F.SEQ_HOLD_ADDR_HI_ADDR n)) * 2 ^ 32 + (s.activeReg (R.SEQ_HOLD_ADDR_LO n)).toNat / 64 * 64

/-- The lanes of the hold vector. -/
def State.holdLanes (s : State) (n : Nat) : List Nat :=
  (List.range (s.gangG n)).map (fun l => s.seqNat n (s.holdAddr n + 8 * l) 8)

/-- CYCLE_START (R139): the next cycle of the gang of SQn. `chk` is what the check of the table words finds (R143). -/
def execCycleStart (n : Fin 16) (chk : EccCheck) (s : State) : Host.Outcome State Fault Refusal :=
  let q := s.seq n
  done (if s.runState n == rsPaused && decide (q.unit < 32) then s.unitCycle n none chk
    else if s.runState n == rsHold && decide (q.unit < 32) then s.unitCycle n (some (s.holdLanes n)) chk
    else if s.runState n == rsRunning then
      match q.streaming with
      | some d => if q.vec < d.len then s.runCycle n d chk else s
      | none => s
    else s)

/-! ### Edges (R147, R148) -/

/-- Edge `a` comes before edge `b` on a line (R147). -/
def Edge.before (a b : Edge) : Bool :=
  decide (a.time < b.time) || (a.time == b.time && (decide (a.cycle < b.cycle) || (a.cycle == b.cycle && decide (a.idx < b.idx))))

/-- The first edge of a queue. -/
def firstEdge : List Edge → Option Edge
  | [] => none
  | e :: t => match firstEdge t with
    | some f => if f.before e then some f else some e
    | none => some e

/-- EDGE_PLACE (R147, R148): the next edge of a line of a pin is placed, or dropped. -/
def execEdgePlace (pin : Fin 256) (den : Bool) (s : State) : Host.Outcome State Fault Refusal :=
  let x := s.pin pin
  let q := if den then x.denQ else x.drvQ
  let last := if den then x.denLast else x.drvLast
  done (match firstEdge q with
    | none => s
    | some e =>
      let x := if den then { x with denQ := q.erase e } else { x with drvQ := q.erase e }
      match last.map (fun l => decide (4 * (e.time - l) < s.minSpacing)) with
      | some true => (s.setPin pin x).drop (pin.val / 16) dropCollide (if den then 1 else 0) (pin.val % 16) e.cycle
      | _ => s.setPin pin (if den then { x with den := e.level, denLast := some e.time }
          else { x with drv := e.level, drvLast := some e.time }))

/-! ### Strobes and the condition path (R85 to R88, R149 to R151, R158) -/

/-- The sample of a pin from the levels of CMPH and CMPL at the balls (R158). -/
def State.sampleOf (s : State) (ch : Nat) (l : Bool × Bool) : Bool × Bool :=
  let t := ch / 16
  let p := ch % 16
  let pol := (s.reg (if p < 8 then R.PE_POL_LO t else R.PE_POL_HI t)).toNat
  let h := xor l.1 (pol.testBit (4 * (p % 8) + 2))
  let c := xor l.2 (pol.testBit (4 * (p % 8) + 3))
  let mode := bitsOf (s.reg (R.PE_CMP_MODE t)).toNat (2 * p + 1) (2 * p)
  if mode = 1 then (h, !h) else if mode = 2 then (c, h) else (h, c)

/-- A sample meets EXPECT (R141). -/
def meets (expect : Nat) (x : Bool × Bool) : Bool :=
  if expect = 1 then x.2 && !x.1
  else if expect = 2 then x.1 && !x.2
  else if expect = 3 then !x.1 && !x.2
  else if expect = 4 then xor x.1 x.2
  else true

/-- Strobe `a` is judged before strobe `b` (R150). -/
def Strobe.before (a b : Strobe) : Bool :=
  decide (a.t0 < b.t0) || (a.t0 == b.t0 && (decide (a.cycle < b.cycle) || (a.cycle == b.cycle && decide (a.idx < b.idx))))

/-- The strobe of a pin that starts first. -/
def firstStrobe : List Strobe → Option Strobe
  | [] => none
  | e :: t => match firstStrobe t with
    | some f => if f.before e then some f else some e
    | none => some e

/-- A strobe conflicts with those taken before it (R150): it starts within 125 ps of one, or would be the third open. -/
def Strobe.conflicts (x : Strobe) (taken : List (Nat × Nat)) : Bool :=
  taken.any (fun t => decide (x.t0 < t.1 + 125)) || decide (2 ≤ (taken.filter (fun t => decide (x.t0 < t.2))).length)

/-- The gang's sequencer that a pin belongs to. -/
def State.pinSeq (s : State) (ch : Nat) : Nat := s.gangOf (ch / 16)

/-- A result is known: it waits on the condition path for its release (R85). -/
def State.setResult (s : State) (n : Nat) (ch : Nat) (x : Strobe) (r : Bool × Option (Bool × Bool)) : State :=
  let q := s.seq n
  s.setSeq n { q with flight := q.flight.map (fun f =>
    if f.pin == ch && f.idx == x.idx && f.cycle == x.cycle && !f.remote then { f with res := some r } else f) }

/-- STROBE_SAMPLE (R149, R150): the next strobe of a pin samples the comparator lines; `levels` are those at the balls from its
TIME to its END, an unconnected input reading 0 (R159). -/
def execStrobeSample (pin : Fin 256) (levels : List (Bool × Bool)) (s : State) : Host.Outcome State Fault Refusal :=
  let x := s.pin pin
  done (match firstStrobe x.strobes with
    | none => s
    | some b =>
      let taken := x.taken.filter (fun t => decide (b.t0 < t.2) || decide (b.t0 < t.1 + 125))
      let s := s.setPin pin { x with strobes := x.strobes.erase b, taken := taken }
      if b.conflicts taken then
        let s := s.drop (pin.val / 16) dropStrobe 0 (pin.val % 16) b.cycle
        if b.expect = 0 then s.setResult (s.pinSeq pin) pin b (false, none) else s.setResult (s.pinSeq pin) pin b (true, none)
      else
        let l := ((if levels.isEmpty then [(false, false)] else levels).map (s.sampleOf pin))
        let l := if b.window then l else l.take 1
        let bad := l.find? (fun v => !meets b.expect v)
        let s := s.setPin pin { s.pin pin with taken := taken ++ [(b.t0, b.t1)] }
        s.setResult (s.pinSeq pin) pin b (bad.isSome, some (bad.getD (l.headD (false, false)))))

/-! ### The sideband (R163 to R165) -/

/-- Results of PE_SB_STAT. -/
abbrev sbOk : Nat := 0
abbrev sbRetry : Nat := 1
abbrev sbCrc : Nat := 2
abbrev sbNone : Nat := 3
abbrev sbEcho : Nat := 4

/-- A frame starts on the sideband of TGn. -/
def State.sbStart (s : State) (n : Nat) (f : SbFrame) : State :=
  (s.setTg n { s.tg n with frame := some f }).setFlag (F.PE_SB_STAT_BUSY n) true

/-- A write of PE_SB_CMD (R165). -/
def sbCmdRule (n : Nat) (v : Word) (s : State) : WRule :=
  { stateOk := (s.tg n).frame.isNone
    eff := fun s => s.sbStart n { cal := false, wr := v.getLsbD 31, chip := bitsOf v.toNat 23 20, addr := bitsOf v.toNat 15 0
                                  wdata := if v.getLsbD 31 then s.fld (F.PE_SB_WDATA_WDATA n) else 0, again := false } }

/-- SB_FRAME_START (R165). -/
def execSbFrameStart (a : Agent) (n : Fin 16) (wr : Bool) (chip : Fin 16) (addr : BitVec 16) (s : State) :
    Host.Outcome State Fault Refusal :=
  done (s.writeBy a .tg (P.TG n) (R.PE_SB_CMD n)
    (sbCmdRule n (BitVec.ofNat 32 ((if wr then 2 ^ 31 else 0) + chip.val * 2 ^ 20 + addr.toNat)) s))

/-- The result of a response (R164): 0 when it is good. -/
def SbFrame.judge (f : SbFrame) (crcOk : Bool) (data : BitVec 16) : Nat :=
  if data == 0xFFFF && !crcOk then sbNone
  else if !crcOk then sbCrc
  else if f.wr && data.toNat != f.wdata then sbEcho
  else sbOk

/-- A frame's response of TGn, with the injected inversion of its CRC; answers the frame that completed, its result and data. A
bad response is repeated once, and then `none` is answered. -/
def State.sbResponse (s : State) (n : Nat) (crcOk : Bool) (data : BitVec 16) : Option (SbFrame × Nat) × State :=
  match (s.tg n).frame with
  | none => (none, s)
  | some f =>
    let inv := match s.takeInj (P.TG n) X.TG_SB_FAIL with
      | (true, s) => s.setTg n { s.tg n with inverts := 2 }
      | (false, s) => s
    let (crc, s, inj) := if 0 < (inv.tg n).inverts then
        (false, inv.setTg n { inv.tg n with inverts := (inv.tg n).inverts - 1 }, true) else (crcOk, inv, false)
    let r := f.judge crc data
    if r != sbOk && !f.again then (none, s.setTg n { s.tg n with frame := some { f with again := true } })
    else
      let s := (s.setTg n { s.tg n with frame := none }).setFlag (F.PE_SB_STAT_BUSY n) false
      if r == sbOk && f.again then (some (f, sbRetry), s.count (R.xx_CE_COUNT (P.TG n)))
      else if r == sbOk then (some (f, sbOk), s)
      else (some (f, r), s.faultInj (P.TG n) X.TG_SB_FAIL inj)

/-! ### The self-test (R166 to R168) -/

/-- Results of PE_DIAG_STAT. -/
abbrev diagPass : Nat := 1
abbrev diagFail : Nat := 2
abbrev diagAborted : Nat := 3

/-- Pins under test in TGn. -/
def State.diagPins (s : State) (n : Nat) : List Nat := (List.range 16).filter (fun p => s.bit (R.PE_DIAG_PINS n) p)

/-- A test ends (R167, R168). -/
def State.diagStop (s : State) (n result : Nat) : State :=
  let s := (s.setFlag (F.PE_DIAG_STAT_BUSY n) false).setFld (F.PE_DIAG_STAT_RESULT n) result
  (s.safePins ((s.diagPins n).map (fun p => 16 * n + p))).event (P.TG n) E.TG_DIAG_DONE

/-- A write of PE_DIAG_CMD (R166, R168). -/
def diagCmdRule (n : Nat) (v : Word) (s : State) : WRule :=
  let busy := s.flag (F.PE_DIAG_STAT_BUSY n)
  { stateOk := !v.getLsbD 0 || (s.mode == mDiagnose && !busy)
    rangeOk := !(v.getLsbD 0 && v.getLsbD 1)
    eff := fun s =>
      if v.getLsbD 0 then
        let s := (s.diagPins n).foldl (fun s p => s.setReg (R.PE_DIAG_ERR n p) 0) s
        (s.setFld (F.PE_DIAG_STAT_FAILPINS n) 0).setFlag (F.PE_DIAG_STAT_BUSY n) true
      else if v.getLsbD 1 && busy then s.diagStop n diagAborted
      else s }

/-- PE_DIAG_START (R166). -/
def execPeDiagStart (a : Agent) (n : Fin 16) (s : State) : Host.Outcome State Fault Refusal :=
  done (s.writeBy a .tg (P.TG n) (R.PE_DIAG_CMD n) (diagCmdRule n 1 s))

/-- PE_DIAG_ABORT (R168). -/
def execPeDiagAbort (a : Agent) (n : Fin 16) (s : State) : Host.Outcome State Fault Refusal :=
  done (s.writeBy a .tg (P.TG n) (R.PE_DIAG_CMD n) (diagCmdRule n 2 s))

/-- PE_DIAG_END (R167): `errs` are the errors (OUT_ERR, IN_ERR) that the samples of the test gave, by local pin. -/
def execPeDiagEnd (n : Fin 16) (errs : List (BitVec 16 × BitVec 16)) (s : State) : Host.Outcome State Fault Refusal :=
  done (if !s.flag (F.PE_DIAG_STAT_BUSY n) then s
    else
      let pad := s.fld (F.PE_DIAG_CFG_TEST n) == 1
      let err := fun (p : Nat) => (let e := errs.getD p (0, 0); if pad then e.1.toNat * 65536 else e.2.toNat)
      let s := (s.diagPins n).foldl (fun s p => s.setReg (R.PE_DIAG_ERR n p) (BitVec.ofNat 32 (err p))) s
      let fails := (s.diagPins n).filter (fun p => err p != 0)
      let s := s.setFld (F.PE_DIAG_STAT_FAILPINS n) ((fails.map (fun p => 2 ^ p)).sum)
      s.diagStop n (if fails.isEmpty then diagPass else diagFail))

/-- Every test in progress ends (R168: a mode transition out of DIAGNOSE, QUARANTINE). -/
def State.diagEnd (s : State) : State :=
  (List.range 16).foldl (fun s n => if s.flag (F.PE_DIAG_STAT_BUSY n) then s.diagStop n diagAborted else s) s

/-! ### The TG page (R170) -/

/-- Every partition on the timing groups of the gang of TGn is IDLE (R170). -/
def State.gangIdle (s : State) (t : Nat) : Bool := (s.gangParts (s.gangOf t)).all (fun k => s.pstate k == pIdle)

/-- A write of a TGn page (05). -/
def tgRule (t off : Nat) (v : Word) (s : State) : WRule :=
  let o := off - P.TG t
  let idle := s.gangIdle t
  let first := s.gangOf t == t
  let plain := fun (m : Word) (ok : Bool) => ({ stateOk := idle, rangeOk := ok, eff := fun s => s.setReg off (v &&& m) } : WRule)
  let busy := s.flag (F.PE_DIAG_STAT_BUSY t)
  if o = 0x40 then { stateOk := idle && first, eff := fun s => s.setReg off (v &&& 1) }
  else if o = 0x44 then
    { stateOk := idle && first
      rangeOk := decide ((if s.dev.shadow.grade = 2 then 625 else 500) ≤ v.toNat % 2 ^ 23)
      eff := fun s => s.setReg off (v &&& 0x7FFFFF) }
  else if o = 0x800 then plain 0xF (decide (v.toNat % 16 ≤ 8))
  else if o = 0x804 ∨ o = 0x808 then plain 0xDDDDDDDD true
  else if o = 0x80C then plain 0xFFFFFFFF ((List.range 16).all (fun p => bitsOf v.toNat (2 * p + 1) (2 * p) != 3))
  else if 0x840 ≤ o ∧ o < 0x940 then
    plain 0xFFFFFFFF (decide (bitsOf v.toNat 31 16 ≤ 50000) && decide (bitsOf v.toNat 15 0 ≤ 50000))
  else if o = 0xB00 then
    { stateOk := (s.tg t).frame.isNone, rangeOk := decide (3 ≤ v.toNat % 256), eff := fun s => s.setReg off (v &&& 0xFF) }
  else if o = 0xB04 then
    { rangeOk := decide (v.toNat % 8 ≤ 4) && bitsOf v.toNat 15 8 != 0, eff := fun s => s.setReg off (v &&& 0xFFFFFF07) }
  else if o = 0xB08 then { eff := fun s => s.setReg off (v &&& 0xFFFF) }
  else if o = 0xB0C then sbCmdRule t v s
  else if o = 0xC00 then
    { stateOk := !busy
      rangeOk := (bitsOf v.toNat 29 28 == 1 || bitsOf v.toNat 29 28 == 2) && decide (8 ≤ bitsOf v.toNat 27 23)
        && decide (bitsOf v.toNat 27 23 ≤ 24) && decide (2000 ≤ v.toNat % 2 ^ 23)
      eff := fun s => s.setReg off (v &&& 0x3FFFFFFF) }
  else if o = 0xC04 then { stateOk := !busy, eff := fun s => s.setReg off (v &&& 0xFFFF) }
  else if o = 0xC08 then diagCmdRule t v s
  else ignored

/-- Registers of a TGn page that show state other than a stored word: those of the gang's first page, FIRST and LAST,
PE_RT_MAX. -/
def State.tgRead (s : State) (t off : Nat) : Option Word :=
  let o := off - P.TG t
  let g := s.gangOf t
  if o = 0x40 ∨ o = 0x44 ∨ o = 0x48 then some (s.reg (P.TG g + o))
  else if o = 0x4C then
    some (BitVec.ofNat 32 (putBits (putBits (s.reg off).toNat 31 28 g) 27 24 (s.fld (F.SEQ_GANG_LAST g))))
  else if o = 0xA00 then some (BitVec.ofNat 32 (s.rtMax t))
  else none

end Sys2Proof.Machine
end

