-- ==== Sys2Proof/Machine/Span.lean ====
section
/-! DEFINITION. What sequencers share with the vector cache, the walker and the span slots: pins of loops, the history table,
mispredictions, notices and messages of the deterministic class (06, R186 to R188; 13, R358 to R362). -/

namespace Sys2Proof.Machine

open Sys2Proof

/-! ### Pinned loops, history and predictions (R186 to R188) -/

/-- The lines that loops of SQn pin. -/
def Walker.pinned (w : Walker) : List Nat := (w.pins.flatMap Prod.snd).dedup

/-- VC_SQ_USED and VC_SQ_MAX follow the lines of SQn. -/
def State.vcCount (s : State) (n : Nat) : State :=
  let w := s.walker n
  let s := s.setFld (F.VC_SQ_USED_VALID n) w.lines.length
  let s := s.setFld (F.VC_SQ_USED_PINNED n) (w.lines.filter (fun x => w.pinned.contains x.line)).length
  s.raiseTo (R.VC_SQ_MAX n) w.lines.length

/-- Stores the lines of SQn. -/
def State.setLines (s : State) (n : Nat) (l : List CacheLine) : State := (s.setWalker n { s.walker n with lines := l }).vcCount n

/-- Loops of SQn are popped: the lines that they pin become ordinary (R188). -/
def State.unpin (s : State) (n : Nat) (loops : List Nat) : State :=
  let w := s.walker n
  if w.pins.any (fun p => loops.contains p.1) then
    ((s.setWalker n { w with pins := w.pins.filter (fun p => !loops.contains p.1) }).vcCount n).event P.VC E.VC_UNPIN
  else s

/-- The entry of the history table for an instruction (R186): emissions and outcome. -/
def State.history (s : State) (n pc : Nat) : Option (Nat × Bool) :=
  (((s.walker n).hist.find? (fun e => e.1 == pc / 16 % 256)).filter (fun e => e.2.1 == pc / 4096)).map (fun e => e.2.2)

/-- Enters an execution in the history table (R186). -/
def State.setHistory (s : State) (n pc reps : Nat) (taken : Bool) : State :=
  let w := s.walker n
  let i := pc / 16 % 256
  s.setWalker n { w with hist := (i, pc / 4096, reps, taken) :: w.hist.filter (fun e => e.1 != i) }

/-- The open candidate is released: its lines become ordinary (R188). -/
def Walker.releaseCand (w : Walker) : Walker := { w with cand := none }

/-- The walker of SQn restarts at an address with the sequencer's stacks and W := Q (R187). -/
def State.walkerRestart (s : State) (n addr : Nat) : State :=
  let q := s.seq n
  let w := (s.walker n).releaseCand
  if w.on then
    s.setWalker n { w with
      halted := false, addr := addr, ord := q.ord, loops := q.loops, calls := q.calls, iterate := q.iterate, guesses := [] }
  else s

/-- A misprediction (R187). -/
def State.mispredict (s : State) (n addr : Nat) : State := (s.count (R.PGR_SQ_MISPRED n)).walkerRestart n addr

/-- SQn has executed an instruction whose course the walker predicts (R186, R187): `size` is 16 plus the stored size of its
block, `next` the address at which it goes on. -/
def State.executed (s : State) (n pc reps : Nat) (taken : Bool) (size next : Nat) : State :=
  let s := s.setHistory n pc reps taken
  let w := s.walker n
  match w.guesses with
  | [] => s
  | g :: t =>
    if g.pc != pc then s
    else if g.taken != taken then s.mispredict n next
    else s.setWalker n { w with guesses := t, ord := w.ord + reps * size - g.reps * size }

/-! ### Span slots (R358 to R362) -/

/-- FAB_SPAN_STAT.STATE codes. -/
abbrev spIdle : Nat := 0
abbrev spWait : Nat := 1
abbrev spRunning : Nat := 2
abbrev spEnded : Nat := 3

/-- The state behind a span slot. -/
def State.span (s : State) (k : Nat) : Span := sget Span.init s.fab.spans k

/-- Stores the state behind a span slot. -/
def State.setSpan (s : State) (k : Nat) (x : Span) : State := { s with fab := { s.fab with spans := sset Span.init s.fab.spans k x } }

/-- The enabled span slot of SQn. -/
def State.spanSlot (s : State) (n : Nat) : Option Nat :=
  (List.range 16).find? (fun k => s.flag (F.FAB_SPAN_CFG_EN k) && s.fld (F.FAB_SPAN_CFG_SEQ k) == n)

/-- The running span that SQn is a member of. -/
def State.spanOf (s : State) (n : Nat) : Option Nat :=
  (s.spanSlot n).filter (fun k => s.fld (F.FAB_SPAN_STAT_STATE k) == spRunning)

/-- The partitions of a slot in the order of the span sites. -/
def State.spanSites (s : State) (k : Nat) : List Nat :=
  (List.range 64).filter ((s.reg64 (R.FAB_SPAN_PMASK_LO k) (R.FAB_SPAN_PMASK_HI k)).toNat.testBit)

/-- Sends a message of the deterministic class to the group of a slot. -/
def State.detSend (s : State) (k dtype : Nat) (body : BitVec 64) (aux : Nat) : State :=
  s.detMulti (s.fld (F.FAB_SPAN_CFG_GRP k)) dtype body aux

/-- A notice joins those that wait for their release. -/
def State.spanReceive (s : State) (k dtype cycle : Nat) : State :=
  s.setSpan k { s.span k with notices := (s.span k).notices ++ [(dtype, cycle)] }

/-- A member sends a notice (R194, R362): it is received by every member, the sender included. -/
def State.spanNotice (s : State) (n k dtype : Nat) : State :=
  let c := (s.cycleNo n - 1) % 2 ^ 32
  (s.detSend k dtype (BitVec.ofNat 64 c) 0).spanReceive k dtype c

/-- FAB_SPAN_STAT.END of a stop cause. -/
def spanEndCode (cause : Nat) : Nat :=
  if cause = 1 then 1 else if cause = 2 then 2 else if cause = 3 ∨ cause = 4 then 3 else if cause = 5 then 4 else 5

/-- A slot ends. -/
def State.spanEnd (s : State) (k code : Nat) : State :=
  ((s.setFld (F.FAB_SPAN_STAT_STATE k) spEnded).setFld (F.FAB_SPAN_STAT_END k) code).event P.FAB E.FAB_SPAN_END

/-- The gang of SQn has stopped with a cause: its running span ends, and a contained fault is sent to the members (R362). -/
def State.spanStop (s : State) (n cause : Nat) : State :=
  match s.spanOf n with
  | none => s
  | some k =>
    let s := if 6 ≤ cause then s.detSend k dtFault (BitVec.ofNat 64 ((s.cycleNo n - 1) % 2 ^ 32)) 0 else s
    s.spanEnd k (spanEndCode cause)

end Sys2Proof.Machine
end

