-- ==== Sys2Proof/Machine/Seq.lean ====
section
/-! DEFINITION. The WSQ sequencer: instructions, decision points, the block loop, stalls, conditions, start and stop (03, R69 to
R103; 06, R191 to R194; 19, R474, R475). -/

namespace Sys2Proof.Machine

open Sys2Proof

/-! ### Small views -/

/-- Stores SEQ_STATE.STATE. -/
def State.setRun (s : State) (n st : Nat) : State := s.setFld (F.SEQ_STATE_STATE n) st

/-- The sequencer flags F0 to F15. -/
def State.flags (s : State) (n : Nat) : Nat := s.fld (F.SEQ_FLAG_SET_F n)

/-- Stores the sequencer flags. -/
def State.setFlags (s : State) (n v : Nat) : State := s.setFld (F.SEQ_FLAG_SET_F n) v

/-- Pending trigger `i` of SQn. -/
def State.trigPend (s : State) (n i : Nat) : Bool := s.bit (R.SEQ_TRIG_PEND n) i

/-- Stores MTO. -/
def State.setMto (s : State) (n : Nat) (b : Bool) : State := s.setFlag (F.SEQ_STATUS_MTO n) b

/-- Stores WTO. -/
def State.setWto (s : State) (n : Nat) (b : Bool) : State := s.setFlag (F.SEQ_STATUS_WTO n) b

/-- Stores SEQ_PMATCH. -/
def State.setPmatch (s : State) (n v : Nat) : State :=
  s.setReg64 (R.SEQ_PMATCH_LO n) (R.SEQ_PMATCH_HI n) (BitVec.ofNat 64 v)

/-- SQn is drained (R123). -/
def State.drained (s : State) (n : Nat) : Bool := s.bit R.MC_DRAINED n

/-- SQn is retired (R477). -/
def State.seqRetired (s : State) (n : Nat) : Bool := (s.fld F.PART_RET_MISC_SQ).testBit n

/-- The address in SEQ_START_ADDR in force. -/
def State.startAddr (s : State) (n : Nat) : Nat :=
  s.activeFld (F.SEQ_START_ADDR_HI_ADDR n) * 2 ^ 32 + (s.activeReg (R.SEQ_START_ADDR_LO n)).toNat / 16 * 16

/-- An address of 42 bits wraps at the end of pattern space. -/
def wrapAddr (a : Nat) : Nat := a % 2 ^ 42

/-! ### Conditions (R82) -/

/-- A legal COND of JUMPC. -/
def condLegal (c : Byte) : Bool :=
  let cls := bitsOf c.toNat 6 4
  let i := c.toNat % 16
  cls == 0 || cls == 2 || (cls == 1 && i == 0) || (cls == 3 && decide (i ≤ 1))

/-- A legal COND of WAIT (R92). -/
def waitCondLegal (c : Byte) : Bool := bitsOf c.toNat 6 4 == 0 || bitsOf c.toNat 6 4 == 2

/-- The partitions of the running span of SQn that the latest COND reported as not passing (R360). -/
def State.spanBad (s : State) (n : Nat) : Nat :=
  match s.spanOf n with
  | none => 0
  | some k => (s.span k).bad

/-- The value of a COND. -/
def State.cond (s : State) (n : Nat) (c : Byte) : Bool :=
  let i := c.toNat % 16
  let cls := bitsOf c.toNat 6 4
  let v := if cls = 0 then (s.flags n).testBit i
    else if cls = 1 then (s.openParts n).all (fun k => !(s.seq n).acc.testBit k && !(s.spanBad n).testBit k)
    else if cls = 2 then s.trigPend n i
    else if i = 0 then s.flag (F.SEQ_STATUS_MTO n) else s.flag (F.SEQ_STATUS_WTO n)
  xor v (c.getLsbD 7)

/-! ### MATCH timeouts on their way to capture (R89, R90) -/

/-- MATCH timeouts join a cycle that the gang has emitted: in the queues of its units, or, where the cycle has been processed,
at once. -/
def State.capMto (s : State) (n cycle : Nat) (l : List (Nat × Nat × Nat)) : State :=
  if l.isEmpty then s
  else
    (s.gangUnits n).foldl (fun s u =>
      if (s.cu u).queue.any (fun c => c.cycle == cycle) then
        s.setCu u { s.cu u with queue := (s.cu u).queue.map (fun c => if c.cycle = cycle then { c with mtos := c.mtos ++ l } else c) }
      else
        let c : CycleRec :=
          { cycle := cycle, stamp := (s.cu u).doneStamp, addr := 0, vec := 0, inMatch := true, tpulse := false, marks := []
            kinds := [], mtos := l, sents := [], left := 0, shots := [] }
        (s.capLive u).foldl (fun s k => (s.verdict u k c).cycleRecords u k c) s) s

/-- The unmasked partitions of the gang time out in a MATCH (R89, step 3): they are failed and masked. Answers what travels to
the capture units: partition, MATCH address, repetitions. -/
def State.matchTimeout (s : State) (n pc reps : Nat) (parts : List Nat) : List (Nat × Nat × Nat) × State :=
  let s := (s.setMto n true)
  let s := parts.foldl (fun s k => s.maskPart n k) s
  (parts.map (fun k => (k, pc, reps)), s.event (P.SEQ n) E.SEQ_MATCH_TIMEOUT)

/-- A MATCH with TIMEOUT 0 (R90): answers what travels to the capture units. -/
def State.matchZero (s : State) (n pc : Nat) : List (Nat × Nat × Nat) × State :=
  let s := (((s.setMto n false).setPmatch n 0).setReg (R.SEQ_MATCH_REPS n) 0)
  if (s.openParts n).isEmpty then ([], s) else s.matchTimeout n pc 0 (s.openParts n)

/-! ### Partition contexts (R536), isolation and abort of one partition (R474, R475) -/

/-- The pins of a partition enter the safe state. -/
def State.safePart (s : State) (k : Nat) : State := s.safePins (s.partPins k)

/-- Forgets the aborts of a partition. -/
def State.forgetAbort (s : State) (k : Nat) : State :=
  { s with part := { s.part with wanted := s.part.wanted.filter (· != k), aborting := s.part.aborting.filter (· != k) } }

/-- A partition leaves its gang for FAULTED without a stop (R475): `code` goes to FCAUSE. -/
def State.takeOut (s : State) (k code : Nat) : State :=
  let live := s.pstate k == pRunning || s.pstate k == pPaused
  let n := s.gangOfPart k
  let s := if live then (s.maskPart n k).capIsolate k else s.capFaultArmed k
  let s := (s.safePart k).forgetAbort k
  (s.setFld (F.PART_P_STAT_FCAUSE k) code).setPart k pFaulted

/-- A double-bit error in the context of partition `k` (PART_FLT.CTX_ECC; R475, R536). -/
def State.ctxError (s : State) (k : Nat) (inj : Bool) : State :=
  let s := s.faultInj P.PART X.PART_CTX_ECC inj
  ({ s with part := { s.part with corrupt := s.part.corrupt.filter (· != k) ++ [k] } } : State).takeOut k 0xE

/-- The context of partition `k` is read (R536); answers whether an injection made it fail. -/
def State.ctxRead (s : State) (k : Nat) : Bool × State :=
  match s.takeInj P.PART X.PART_CTX_ECC with
  | (true, s) => (true, s.ctxError k true)
  | (false, s) => (false, s)

/-! ### Stop (R90, R98) -/

/-- The bit of SEQ_FLT that a stop cause sets. -/
def stopFault (cause : Nat) : Option Nat :=
  if cause = 3 ∨ cause = 4 then some X.SEQ_STALL_ABORT
  else if cause = 5 then some X.SEQ_COND_LATE
  else if cause = 6 then some X.SEQ_ILLEGAL
  else if cause = 7 then some X.SEQ_STACK
  else if cause = 8 then some X.SEQ_MALFORMED
  else if cause = 9 then some X.SEQ_UWDOG
  else none

/-- Partition `k` ends with the gang of SQn (R98). -/
def State.endPart (s : State) (n cause k : Nat) : State :=
  let live := s.pstate k == pRunning || s.pstate k == pPaused
  if cause < 6 then
    if live then ((s.capEnd k cause (s.cycleNo n)).forgetAbort k).setPart k pIdle else s
  else if live then
    (((s.capEnd k cause (s.cycleNo n)).forgetAbort k).setFld (F.PART_P_STAT_FCAUSE k) cause).setPart k pFaulted
  else if s.pstate k == pArmed then
    ((s.capFaultArmed k).setFld (F.PART_P_STAT_FCAUSE k) cause).setPart k pFaulted
  else s

/-- A TAP instruction is cut by a stop (R127). -/
def Seq.cutsTap (q : Seq) : Bool :=
  match q.streaming with
  | none => false
  | some d =>
    match d.gen with
    | some (.tap _) => decide (q.rep < d.reps) || decide (q.vec < d.len)
    | _ => false

/-- MATCHes and WAITs that emitted nothing and wait for a first cycle that does not come (R90): those before a HALT take effect
whole, the others only as timeouts. -/
def State.leftovers (s : State) (n cause : Nat) (l : List SeqEffect) : State :=
  l.foldl (fun s e => match e with
    | .matchZero pc => (match s.matchZero n pc with
      | (l, s) => s.capMto n (s.cycleNo n - 1) l)
    | .waitZero => if cause = 1 then s.setWto n true else s
    | .sentShort u g => if cause = 1 then s.addSents u (s.cycleNo n - 1) (shortRecords s g n []) else s
    | _ => s) s

/-- What the sequencer keeps over a stop: its control store, the results in flight, the messages it has still to send, and its
clock. -/
def Seq.stopped (q : Seq) : Seq :=
  { Seq.init with
    store := q.store, flight := q.flight, sends := q.sends, refTime := q.refTime, clock := q.clock, lastStart := q.lastStart
    micro := { q.micro with active := false } }

/-- The gang of SQn stops with a cause (R98). -/
def State.gangStop (s : State) (n cause : Nat) : State :=
  let q := s.seq n
  let parts := s.gangParts n
  let s := s.leftovers n cause (q.carry ++ ((q.queued.map Desc.effects).getD []))
  let s := s.spanStop n cause
  let s := if q.cutsTap then s.setFld (F.MC_SQ_TAP_TAPST n) 0 else s
  let s := (s.setFld (F.SEQ_STOP_CAUSE n) cause).setReg (R.SEQ_STATE n) 1
  let s := s.setReg (R.SEQ_RUN n) (s.reg (R.SEQ_RUN n) &&& ~~~(0xF : Word))
  let s := s.setSeq n { q.stopped with flight := (s.seq n).flight }
  let s := s.unpin n (q.loops.map Prod.fst ++ ((q.streaming.map Desc.pops).getD []))
  let s := s.setWalker n { (s.walker n).releaseCand with on := false, halted := false, guesses := [] }
  let s := parts.foldl (fun s k => s.endPart n cause k) s
  let s := s.safePins (s.gangPins n)
  let s := s.tracePattern 2 n (s.cycleNo n - 1) (if s.cycleNo n = 0 then s.now else s.stampAt q.lastStart) cause
  let s := match stopFault cause with
    | some b => s.fault (P.SEQ n) b
    | none => s
  let s := s.event (P.SEQ n) E.SEQ_STOPPED
  parts.foldl (fun s k => (s.ctxRead k).2) s

/-! ### Blocks become the streaming block (R74, R114) -/

/-- An effect takes place at the first cycle of its block (R74). -/
def State.seqEffect (s : State) (n : Nat) (e : SeqEffect) : State :=
  let q := s.seq n
  match e with
  | .flags op mask =>
    if op = 0 then s.setFlags n (s.flags n ||| mask.toNat)
    else if op = 1 then s.setFlags n (s.flags n &&& (0xFFFF ^^^ mask.toNat))
    else if op = 2 then s.setFlags n (s.flags n ^^^ mask.toNat)
    else if op = 3 then s.setSeq n { q with acc := 0, accFrom := s.cycleNo n }
    else s.clrReg (R.SEQ_TRIG_PEND n) (mask.setWidth 32)
  | .capture _ _ _ => s.setSeq n { q with first := q.first ++ [e] }
  | .mark _ => s.setSeq n { q with first := q.first ++ [e] }
  | .matchEntry =>
    let s := ((s.setMto n false).setPmatch n 0).setReg (R.SEQ_MATCH_REPS n) 0
    (s.setFlag (F.SEQ_STATE_MATCHING n) true).setSeq n { q with mreps := [] }
  | .matchZero pc =>
    match s.matchZero n pc with
    | (l, s) => s.setSeq n { s.seq n with firstMtos := (s.seq n).firstMtos ++ l }
  | .waitEntry => (s.setWto n false).setFlag (F.SEQ_STATE_WAITING n) true
  | .waitZero => s.setWto n true
  | .iterStart => s.setReg (R.MC_SQ_ITER n) 0
  | .sentStart u g => s.setCu u { s.cu u with sent := some { g with start := s.cycleNo n }, ports := [] }
  | .sentShort _ g =>
    let parts := (shortRecords s g n []).map SentRec.part
    s.setSeq n { q with first := q.first ++ [e], acc := parts.foldl (fun a k => a ||| 2 ^ k) q.acc }

/-- SEQ_STATE shows the depths of the stacks. -/
def State.showDepth (s : State) (n : Nat) (d : Nat × Nat) : State :=
  (s.setFld (F.SEQ_STATE_LOOP_DEPTH n) d.1).setFld (F.SEQ_STATE_CALL_DEPTH n) d.2

/-- Overlay slots of a block go on where the block before it left those that the same OVL configured (R118). -/
def inheritSlots (old new : List Slot) : List Slot :=
  new.map (fun x => match old.find? (fun y => y.tag == x.tag && y.kind != 0 && x.kind != 0) with
    | some y => { x with used := y.used, queue := y.queue, under := false }
    | none => x)

/-- An emission starts: the first or a further repetition of the streaming block. -/
def State.startRep (s : State) (n : Nat) (d : Desc) (rep vec : Nat) : State :=
  let q := s.seq n
  let s := s.setSeq n { q with
    streaming := some { d with slots := d.slots.map (fun x => { x with under := false }) }
    vec := vec, rep := rep, source := 0, dp := false, ends := false, refTime := 0, repStart := s.cycleNo n, lastMtos := []
    sampled := (false, false, false), heldParts := match d.exit with
      | .matches _ => (if rep = 1 then 0 else s.pmatch n)
      | _ => 0
    mreps := match d.exit with
      | .matches _ => q.mreps ++ [⟨s.cycleNo n + 1, false, []⟩]
      | _ => [] }
  s.setRun n rsRunning

/-- A descriptor becomes the streaming block (R114): its effects take place, `vec` source vectors into it. -/
def State.startBlock (s : State) (n : Nat) (d : Desc) (vec : Nat) : State :=
  let old := ((s.seq n).streaming.map Desc.slots).getD []
  let s := s.setAddr (R.SEQ_PC_LO n) (R.SEQ_PC_HI n) d.pc
  let s := (s.setFlag (F.SEQ_STATE_MATCHING n) false).setFlag (F.SEQ_STATE_WAITING n) false
  let s := d.effects.foldl (fun s e => s.seqEffect n e) s
  let s := s.showDepth n d.depth0
  let s := s.setSeq n { s.seq n with flagsAt := s.flags n }
  s.startRep n { d with effects := [], slots := inheritSlots old d.slots } 1 vec

/-! ### Ends of blocks and units (R74, R98, R100, R114, R192, R474) -/

/-- The address after an instruction. -/
def Desc.after (d : Desc) : Nat := wrapAddr (d.pc + 16)

/-- The block has more emissions (R76, R89, R92). -/
def Seq.repeats (q : Seq) (d : Desc) : Bool :=
  match d.exit with
  | .matches _ => !q.ends
  | .waits _ _ _ => !q.ends
  | .sentRx _ _ => !q.ends
  | _ => decide (q.rep < d.reps)

/-- A SENTRX has ended after the cycle before the next one (R134): short ports fail their partitions. -/
def State.sentDone (s : State) (n : Nat) : State :=
  (s.gangUnits n).foldl (fun s u =>
    match s.sentEnd u n (s.cycleNo n - 1) with
    | (l, s) => s.setSeq n { s.seq n with acc := l.foldl (fun a k => a ||| 2 ^ k) (s.seq n).acc }) s

/-- The COND that a span member owes for a block or pause unit (R360), and the remote results that it waits for. -/
def State.spanBlock (s : State) (n : Nat) : State :=
  match s.spanOf n with
  | none => s
  | some _ =>
    let q := s.seq n
    let last := s.cycleNo n - 1
    let m := q.mreps.getLast?
    let mark := (m.map MatchRep.rep).getD 0
    let s := s.setSeq n { q with sends := q.sends ++ [(last, q.refTime, mark, (m.map MatchRep.failed).getD [])] }
    s.addFlight n ⟨0, 0, last, mark, 0, q.refTime, none, true⟩

/-- An emission of the streaming block has ended: what it leaves (R74, R98, R116, R183). -/
def State.endBlock (s : State) (n : Nat) (d : Desc) : State :=
  let s := if s.resample n then s.skipVectors n d d.len else s
  let s := s.spanBlock n
  let q := s.seq n
  let s := (s.count (R.xx_BLK_COUNT (P.SEQ n))).setAddr (R.SEQ_LAST_LO n) (R.SEQ_LAST_HI n) d.pc
  let s := if d.iterates then s.count (R.MC_SQ_ITER n) else s
  let s := s.setSeq n { q with
    ord := q.ord + 16 + d.size, lastMtos := []
    mreps := q.mreps.map (fun m => if m.rep = q.repStart + 1 then { m with full := true } else m) }
  let s := match d.exit with
    | .matches _ => s.setReg (R.SEQ_MATCH_REPS n) (BitVec.ofNat 32 q.rep)
    | .sentRx _ _ => if q.ends then s.sentDone n else s
    | _ => s
  let s := s.capMto n (s.cycleNo n - 1) q.lastMtos
  let s := d.signals.foldl (fun s g => s.setTaskFlag 0 (taskKey .thread g.1) g.2) s
  if q.repeats d then s
  else
    let s := match d.gen with
      | some (.tap g) => s.setFld (F.MC_SQ_TAP_TAPST n) g.state
      | _ => s
    let s := if d.iterates && d.gen.isSome && (match d.exit with
        | .fixed => true
        | _ => false) then s.executed n d.pc q.rep false (16 + d.size) d.after else s
    (s.showDepth n d.depth1).unpin n d.pops

/-- The request bits of SEQ_RUN that take effect clear. -/
def State.clearRun (s : State) (n : Nat) (mask : Word) : State := s.clrReg (R.SEQ_RUN n) mask

/-- The gang enters PAUSED (R100). -/
def State.pauseGang (s : State) (n : Nat) : State :=
  let s := (s.liveParts n).foldl (fun s k => s.setPart k pPaused) s
  let s := (s.setSeq n { s.seq n with unit := 0, udp := false, sampled := (false, false, false), refTime := 0 }).setRun n rsPaused
  (s.clearRun n 2).event (P.SEQ n) E.SEQ_PAUSED

/-- The partitions of the gang whose abort has been sampled end (R474). -/
def State.abortParts (s : State) (n : Nat) : State :=
  ((s.gangParts n).filter (fun k => s.part.aborting.contains k)).foldl (fun s k =>
    let s := (s.capEnd k 2 (s.cycleNo n)).maskPart n k
    ((s.safePart k).forgetAbort k).setPart k pIdle) s

/-- The stream goes on: the next repetition, the queued block, or a stop found at dispatch; none where nothing has come. -/
def State.advance (s : State) (n : Nat) : Option State :=
  let q := s.seq n
  match q.streaming with
  | none => none
  | some d =>
    let extra := q.vec - d.len
    if q.repeats d then some (s.startRep n d (q.rep + 1) extra)
    else
      match q.queued, q.stop with
      | some e, _ => some ((s.setSeq n { q with queued := none }).startBlock n e extra)
      | none, some c => some (s.gangStop n c)
      | none, none => none

/-- The end of an emission that `endBlock` has counted: the stops that it brings, the pause, or what follows (R89, R98, R100,
R119, R474). -/
def State.afterBlock (s : State) (n : Nat) (d : Desc) : Option State :=
  let q := s.seq n
  let dry := ((q.streaming.map Desc.slots).getD d.slots).any Slot.under
  match q.late with
  | some c => some (s.gangStop n c)
  | none =>
    if dry then some ((s.fault P.MC X.MC_OVL_UNDERRUN).gangStop n 0xA)
    else if (match d.exit with
        | .halts => true
        | _ => false) then some (s.gangStop n 1)
    else
      let s := s.abortParts n
      if q.sampled.2.2 then some (s.gangStop n 2)
      else if (s.liveParts n).isEmpty then some (s.gangStop n 2)
      else if q.sampled.1 then some (s.pauseGang n)
      else s.advance n

/-- The lines that an open stall lacks are present (R192): the admission lines, or the next 512 KiB or the rest of the block. -/
def State.stallOver (s : State) (n : Nat) : Bool :=
  let q := s.seq n
  match q.stall with
  | none => true
  | some l =>
    match q.streaming with
    | none => false
    | some d =>
      if q.vec < d.len then s.linesPresent n (l * 4096) (min 524288 (d.base + d.size - l * 4096))
      else (s.line n l).isSome && (s.line n (q.next / 4096)).isSome

/-- A stall whose page has become FAILED or is not mapped (R193). -/
def State.stallHopeless (s : State) (l : Nat) : Bool :=
  s.pageState (l / 512) == pgFailed || s.pageState (l / 512) == pgNone

/-- A further unit of the same kind starts. -/
def State.nextUnit (s : State) (n : Nat) : State :=
  s.setSeq n { s.seq n with unit := 0, udp := false, present := false, sampled := (false, false, false), refTime := 0 }

/-- The hold of SQn is over (R192). -/
def State.holdOver (s : State) (n : Nat) : State :=
  if !s.gangRuns n then s
  else
    let s := s.setSeq n { s.seq n with stall := none, hold := 0 }
    ((s.setRun n rsRunning).event (P.SEQ n) E.SEQ_HOLD_END).event P.PGR E.PGR_STALL_END

/-- The stream resumes after pause units (R100, R193): the block under way goes on, hold units go on while lines lack, or the
next block starts; none where nothing has come. -/
def State.resumeGang (s : State) (n : Nat) : Option State :=
  let q := s.seq n
  let back := fun (s : State) =>
    let s := ((s.gangParts n).filter (fun k => s.pstate k == pPaused)).foldl (fun s k => s.setPart k pRunning) s
    (s.clearRun n 4).event (P.SEQ n) E.SEQ_RESUMED
  match q.streaming with
  | none => none
  | some d =>
    if q.stall.isSome && !s.stallOver n then some ((back s).nextUnit n |>.setRun n rsHold)
    else if q.vec < d.len then
      some ((back (s.setSeq n { q with sampled := (false, false, false) })).holdOver n)
    else (s.advance n).map (fun t => if q.stall.isSome then (back t).holdOver n else back t)

/-- The end of a pause or hold unit (R100, R192, R193). -/
def State.endUnit (s : State) (n : Nat) : Option State :=
  let s := s.spanBlock n
  let q := s.seq n
  match q.late with
  | some c => some (s.gangStop n c)
  | none =>
    let s := s.abortParts n
    if q.sampled.2.2 || (s.liveParts n).isEmpty then some (s.gangStop n 2)
    else if s.runState n == rsPaused then
      (if q.sampled.2.1 then s.resumeGang n else some (s.nextUnit n))
    else if q.sampled.1 then some (s.pauseGang n)
    else if ((q.stall.map s.stallHopeless).getD false) then some (s.gangStop n 3)
    else if q.present then
      match q.streaming with
      | none => none
      | some d =>
        if q.vec < d.len then some (s.holdOver n)
        else
          match s.advance n with
          | some t => some (t.holdOver n)
          | none => some (s.nextUnit n)
    else if s.fld (F.PGR_SQ_HOLD_LIMIT_UNITS n) ≤ q.hold + 1 then none
    else some ((s.setSeq n { q with hold := q.hold + 1 }).nextUnit n)

/-- The streaming block is at its end, with its decision point behind it. -/
def Seq.blockDue (q : Seq) : Bool :=
  match q.streaming with
  | none => false
  | some d => q.dp && decide (d.len ≤ q.vec)

/-- BLOCK_BOUNDARY (R98, R100, R114, R115): the block or unit of SQn ends, and what follows it begins. A contained fault is
recorded at once, with the block cut. -/
def execBlockBoundary (n : Fin 16) (s : State) : Host.Outcome State Fault Refusal :=
  let q := s.seq n
  done (if !s.gangRuns n then s
    else
      match q.fault with
      | some c =>
        (match q.streaming with
          | some d => if s.runState n == rsRunning && q.blockDue then s.endBlock n d else s
          | none => s).gangStop n c
      | none =>
        if s.runState n == rsRunning then
          match q.streaming with
          | none => (q.stop.map (s.gangStop n)).getD s
          | some d => if q.blockDue then ((s.endBlock n d).afterBlock n d).getD s else s
        else if q.udp && decide (32 ≤ q.unit) then (s.endUnit n).getD s
        else s)

/-! ### Decision points (R72, R88 to R92, R100, R134) -/

/-- Requests are sampled (R100, R474); on a running span only the notices applied count (R362). -/
def State.sampleRequests (s : State) (n : Nat) : State :=
  let q := s.seq n
  if (s.spanOf n).isSome then s
  else
    let now := (s.gangParts n).filter (fun k => s.part.wanted.contains k)
    let s := s.setSeq n { q with
      sampled := (s.flag (F.SEQ_RUN_PAUSE n), s.flag (F.SEQ_RUN_RESUME n), s.flag (F.SEQ_RUN_ABORT n)) }
    { s with part := { s.part with
        wanted := s.part.wanted.filter (fun k => !now.contains k), aborting := s.part.aborting ++ now } }

/-- Partition `k` is matched in a repetition whose results are all visible (R88). -/
def Seq.matched (q : Seq) (k : Nat) : Bool :=
  q.mreps.any (fun m => m.full && !(q.flight.any (fun f => f.rep == m.rep)) && !m.failed.contains k)

/-- The decision of a MATCH (R89). -/
def State.decideMatch (s : State) (n timeout : Nat) (d : Desc) : State :=
  let q := s.seq n
  let new := (s.openParts n).filter q.matched
  let s := s.setPmatch n (new.foldl (fun a k => a ||| 2 ^ k) (s.pmatch n))
  let open1 := (s.openParts n).filter (fun k => !(s.pmatch n).testBit k)
  let finish := fun (s : State) =>
    (s.setSeq n { s.seq n with ends := true, openExit := false }).executed n d.pc q.rep false (16 + d.size) d.after
  if open1.isEmpty then finish s
  else if q.rep = timeout then
    match s.matchTimeout n d.pc q.rep open1 with
    | (l, s) => finish (s.setSeq n { s.seq n with lastMtos := l })
  else s

/-- The decision of a WAIT (R92). -/
def State.decideWait (s : State) (n : Nat) (c : Byte) (noTimeout : Bool) (timeout : Nat) (d : Desc) : State :=
  let q := s.seq n
  let finish := fun (s : State) =>
    (s.setSeq n { s.seq n with ends := true, openExit := false }).executed n d.pc q.rep false (16 + d.size) d.after
  if s.cond n c then
    finish (if bitsOf c.toNat 6 4 = 2 ∧ !c.getLsbD 7 then s.setBit (R.SEQ_TRIG_PEND n) (c.toNat % 16) false else s)
  else if !noTimeout && q.rep == timeout then finish (s.setWto n true)
  else s

/-- DECISION_POINT (R72): the conditional exit of the streaming block samples its condition, and requests are sampled. -/
def execDecisionPoint (n : Fin 16) (s : State) : Host.Outcome State Fault Refusal :=
  let q := s.seq n
  done (match q.streaming with
    | none => s
    | some d =>
      if s.runState n != rsRunning || q.dp then s
      else
        let s := (s.setSeq n { q with dp := true }).sampleRequests n
        match d.exit with
        | .jumpc c target =>
          let t := s.cond n c
          let next := if t then target else d.after
          (s.setSeq n { s.seq n with next := next, openExit := false }).executed n d.pc 1 t (16 + d.size) next
        | .matches timeout => s.decideMatch n timeout d
        | .waits c noTimeout timeout => s.decideWait n c noTimeout timeout d
        | .sentRx _ timeout =>
          if (s.gangUnits n).all s.sentComplete || decide (timeout ≤ q.rep) then
            (s.setSeq n { s.seq n with ends := true, openExit := false }).executed n d.pc q.rep false (16 + d.size) d.after
          else s
        | _ => s)

/-- PAUSE_UNIT_DECISION (R100). -/
def execPauseUnitDecision (n : Fin 16) (s : State) : Host.Outcome State Fault Refusal :=
  done (if s.runState n == rsPaused && !(s.seq n).udp then (s.setSeq n { s.seq n with udp := true }).sampleRequests n else s)

/-- HOLD_UNIT_DECISION (R192): the missing lines are looked for, and a pause or abort is sampled (R193). -/
def execHoldUnitDecision (n : Fin 16) (s : State) : Host.Outcome State Fault Refusal :=
  done (if s.runState n == rsHold && !(s.seq n).udp then
      (s.setSeq n { s.seq n with udp := true, present := s.stallOver n }).sampleRequests n
    else s)

/-! ### Stalls (R73, R97, R191 to R194) -/

/-- A stall after, or in, a block may be held (R97, R192, R193). -/
def State.holds (s : State) (n : Nat) (safe : Bool) (line : Nat) : Bool :=
  s.activeFld (F.SEQ_STALL_POLICY n) == 1 && safe && (s.line n (s.holdAddr n / 4096)).isSome && !s.stallHopeless line
    && (s.spanOf n).isNone && s.fld (F.PGR_SQ_HOLD_LIMIT_UNITS n) != 0

/-- A stall is taken under the policy (R191, R192, R194): `safe` is HOLD_SAFE of the block. -/
def State.takeStall (s : State) (n line cause : Nat) (safe : Bool) : State :=
  let s := s.count (R.PGR_SQ_STALLS n)
  if s.holds n safe line then
    let s := s.setSeq n { s.seq n with stall := some line, hold := 0 }
    (((s.nextUnit n).setRun n rsHold).event (P.SEQ n) E.SEQ_HOLD_BEGIN).event P.PGR E.PGR_STALL_BEGIN
  else
    let s := match s.spanOf n with
      | some k => s.detSend k dtStall (BitVec.ofNat 64 ((s.cycleNo n - 1) % 2 ^ 32)) 0
      | none => s
    s.gangStop n cause

/-- The line that a stall lacks is recorded. -/
def State.missLine (s : State) (n line : Nat) : State :=
  (s.setAddr (R.PGR_SQ_MISS_LO n) (R.PGR_SQ_MISS_HI n) (line * 4096)).count (R.VC_SQ_MISSES n)

/-- Nothing can follow the block that ends (or the start), and a boundary stall is due: the state with that block counted, and
its HOLD_SAFE. -/
def State.boundaryStalls (s : State) (n : Nat) : Option (State × Bool) :=
  let q := s.seq n
  if s.runState n != rsRunning || q.fault.isSome then none
  else
    match q.streaming with
    | none => if q.stop.isNone then some (s, false) else none
    | some d =>
      if q.blockDue && ((s.endBlock n d).afterBlock n d).isNone then some (s.endBlock n d, d.holdSafe) else none

/-- BOUNDARY_STALL (R97, R191): the record or block data of the next instruction is not present at the end of the block. -/
def execBoundaryStall (n : Fin 16) (line : BitVec 30) (s : State) : Host.Outcome State Fault Refusal :=
  done (match s.boundaryStalls n with
    | some (t, safe) =>
      if (t.line n line.toNat).isNone then (t.missLine n line.toNat).takeStall n line.toNat 3 safe else s
    | none => s)

/-- SEQ_LATE (R73): the descriptor of the next block has not been transferred in time. -/
def execSeqLate (n : Fin 16) (s : State) : Host.Outcome State Fault Refusal :=
  done (match s.boundaryStalls n with
    | some (t, safe) =>
      let l := (t.seq n).next / 4096
      if (t.line n l).isSome then t.takeStall n l 4 safe else s
    | none => s)

/-- MID_BLOCK_STALL (R191): the expansion stage reaches a line beyond the admitted 512 KiB that is not present. -/
def execMidBlockStall (n : Fin 16) (line : BitVec 30) (s : State) : Host.Outcome State Fault Refusal :=
  let q := s.seq n
  done (match q.streaming with
    | none => s
    | some d =>
      if s.runState n == rsRunning && q.fault.isNone && decide (q.vec < d.len) && (s.line n line.toNat).isNone
          && decide ((d.base + 524288) / 4096 ≤ line.toNat) && decide (line.toNat * 4096 < d.base + d.size) then
        (s.missLine n line.toNat).takeStall n line.toNat 3 d.holdSafe
      else s)

/-- HOLD_LIMIT_REACHED (R192): the stall is taken as ABORT. -/
def execHoldLimitReached (n : Fin 16) (s : State) : Host.Outcome State Fault Refusal :=
  let q := s.seq n
  done (if s.runState n == rsHold && q.udp && decide (32 ≤ q.unit) && !q.present
      && decide (s.fld (F.PGR_SQ_HOLD_LIMIT_UNITS n) ≤ q.hold + 1) then s.gangStop n 3 else s)

/-! ### The condition path (R85 to R88) -/

/-- Result `a` is released before result `b`. -/
def Flight.before (a b : Flight) : Bool :=
  decide (a.time < b.time) || (a.time == b.time && (decide (a.cycle < b.cycle) || (a.cycle == b.cycle &&
    (decide (a.pin < b.pin) || (a.pin == b.pin && decide (a.idx < b.idx))))))

/-- The result that is released next: a block's remote conditions come after its own results. -/
def firstFlight : List Flight → Option Flight
  | [] => none
  | e :: t => match firstFlight t with
    | some f => if e.before f || (e.time == f.time && f.remote) then some e else some f
    | none => some e

/-- A failed result counts in the condition accumulator of its partition (R86). -/
def State.accumulateFail (s : State) (n k cycle : Nat) : State :=
  let q := s.seq n
  if q.accFrom ≤ cycle then s.setSeq n { q with acc := q.acc ||| 2 ^ k } else s

/-- A failed result of a MATCH repetition, and of the COND that is still owed for it. -/
def State.matchFail (s : State) (n mark k : Nat) : State :=
  let q := s.seq n
  s.setSeq n { q with
    mreps := q.mreps.map (fun m => if m.rep = mark then { m with failed := k :: m.failed } else m)
    sends := q.sends.map (fun x => if x.2.2.1 = mark then (x.1, x.2.1, x.2.2.1, k :: x.2.2.2) else x) }

/-- A pin that a SENTRX decodes: the expected value of its strobes is masked (R134). -/
def State.sentPin (s : State) (n ch cycle : Nat) : Bool :=
  (s.gangUnits n).any (fun u => match s.sentPortOf u n ch with
    | some (g, _) => decide (g.start ≤ cycle)
    | none => false)

/-- A local result that was present is released. -/
def State.releaseResult (s : State) (n : Nat) (f : Flight) (fail : Bool) (sample : Option (Bool × Bool)) : State :=
  let k := (s.pinPart f.pin).getD 64
  let sent := s.sentPin n f.pin f.cycle
  let compare := f.expect != 0 && !sent
  let s := if compare && fail then (if f.rep != 0 then s.matchFail n f.rep k else s.accumulateFail n k f.cycle) else s
  let s := match sample with
    | some v => (match s.sentFeed n f.pin f.cycle v.1 with
      | (l, s) => l.foldl (fun (s : State) k => s.accumulateFail n k f.cycle) s)
    | none => s
  s.capDeliver n f.cycle (if compare || sample.isSome then some ⟨f.pin, f.idx, compare, compare && fail, sample⟩ else none)

/-- The COND of the other members for the block that ends with a cycle (R360): complete, or late. -/
def State.releaseRemote (s : State) (n : Nat) (f : Flight) (present : Bool) : State :=
  match s.spanOf n with
  | none => s
  | some k =>
    let x := s.span k
    let mine := x.conds.filter (fun c => c.1 == f.cycle % 2 ^ 32)
    if !present || decide (mine.length + 1 < s.fld (F.FAB_SPAN_CFG_MEMBERS k)) then
      s.setSeq n { s.seq n with late := some ((s.seq n).late.getD 5) }
    else
      let sites := s.spanSites k
      let bad := ((List.range sites.length).filter (fun i => mine.any (fun c => !c.2.1.testBit i))).map (fun i => sites.getD i 64)
      let s := s.setSpan k { x with
        conds := x.conds.filter (fun c => c.1 != f.cycle % 2 ^ 32)
        bad := if f.rep = 0 then bad.foldl (fun a i => a ||| 2 ^ i) 0 else x.bad }
      if f.rep = 0 then s else bad.foldl (fun s i => s.matchFail n f.rep i) s

/-- COND_RELEASE (R85): the earliest result of SQn reaches its release edge; `present` is false where it has not returned. -/
def execCondRelease (n : Fin 16) (present : Bool) (s : State) : Host.Outcome State Fault Refusal :=
  let q := s.seq n
  done (match firstFlight q.flight with
    | none => s
    | some f =>
      let s := s.setSeq n { q with flight := q.flight.erase f }
      if f.remote then s.releaseRemote n f present
      else
        match f.res, present with
        | some (fail, sample), true => s.releaseResult n f fail sample
        | _, _ =>
          let s := s.capDeliver n f.cycle none
          if s.gangRuns n then s.setSeq n { s.seq n with late := some ((s.seq n).late.getD 5) } else s)

/-! ### Start (R99) -/

/-- The ARMED partitions of the gang of SQn. -/
def State.armedParts (s : State) (n : Nat) : List Nat := (s.gangParts n).filter (fun k => s.pstate k == pArmed)

/-- A start of SQn can take effect (R99, R123, R179, R477). -/
def State.startable (s : State) (n : Nat) : Bool :=
  s.bound n && !s.drained n && !s.seqRetired n && !s.gangRuns n && s.fld (F.VC_SQ_CFG_SLICES n) != 0 && !(s.armedParts n).isEmpty

/-- The registers of a sequencer and of what belongs to its gang at a start. -/
def State.startRegs (s : State) (n : Nat) : State :=
  let s := [R.SEQ_STOP n, R.SEQ_FLAG_SET n, R.SEQ_STATUS n, R.SEQ_CYCLE_LO n, R.SEQ_CYCLE_HI n, R.SEQ_PMASK_LO n,
    R.SEQ_PMASK_HI n, R.xx_BLK_COUNT (P.SEQ n), R.PGR_STALL_CYCLES_LO n, R.PGR_STALL_CYCLES_HI n, R.MC_SQ_TAP n].foldl
    (fun s o => s.setReg o 0) s
  let s := s.setFlag (F.MC_SQ_USTOP_VALID n) false
  (s.gangGroups n).foldl (fun s t => ((s.setReg (R.xx_BLK_COUNT (P.TG t)) 0).setFld (F.TG_RS_ACC_ACC t) 0).setTg t
    { s.tg t with prev := none }) s

/-- The sequencer at a start, with its first cycle at `clock` ps: nothing of an earlier run is left but its control store. -/
def State.startSeq (s : State) (n clock : Nat) : State :=
  let q := s.seq n
  let sel := s.activeReg (R.SEQ_START_SEL n)
  let seed := s.free
  let bit := fun (i : Nat) => (Config.freeValue (seed + i) 1 == 1#1)
  let s := { s with free := s.free + 20 }
  s.setSeq n { Seq.init with
    store := q.store, next := s.startAddr n, clock := clock, lastStart := clock
    selPeriod := bitsOf sel.toNat 15 8, selTs := sel.toNat % 64
    micro := { Micro.init with seed := seed, z := bit 16, n := bit 17, c := bit 18 } }

/-- The gang of SQn starts with its ARMED partitions (R99): the first cycle begins at `clock` ps. -/
def State.startGang (s : State) (n clock : Nat) : State :=
  let ks := s.armedParts n
  let s := (s.startRegs n).startSeq n clock
  let s := (s.gangPins n).foldl (fun s ch => s.setPin ch Pin.safe) s
  let s := (s.setReg (R.SEQ_STATE n) 3).clearRun n 0xF
  let s := ks.foldl (fun s k => s.setPart k pRunning) s
  let s := s.capStart n ks (s.stampAt clock)
  let s := s.tracePattern 1 n 0 (s.stampAt clock) 0
  let w := s.walker n
  let s := if w.on then s else s.setWalker n { w with
    on := true, halted := false, addr := s.startAddr n, ord := 0, loops := [], calls := [], iterate := false, guesses := []
    cand := none }
  let s := (List.range 16).foldl (fun s i =>
    if s.fld (F.SYN_STAT_STATE i) == 2 && s.fld (F.SYN_START_SRC i) == 2 && s.fld (F.SYN_START_ARG i) == n then
      s.setSyn i { s.syn i with go := some clock } else s) s
  let s := if s.fld F.DEV_SYNC_OUT_SRC == 1 && s.fld F.DEV_SYNC_OUT_ARG == n then { s with dev := { s.dev with syncPulse := 8 } } else s
  let s := s.event (P.SEQ n) E.SEQ_STARTED
  ks.foldl (fun s k => (s.ctxRead k).2) s

/-- The first DCLK edge after now, in ps of the time line. -/
def State.nextEdge (s : State) : Nat := (s.dclk + 1) * 2000

/-! ### The SEQ page (R101, R102, R468, R537) -/

/-- A request of the PART page or of SEQ_RUN to pause (1), resume (2) or abort (3) the gang of SQn (R100, R362). -/
def State.runRequest (s : State) (n op : Nat) : State :=
  let ok := if op = 1 then s.runState n == rsRunning || s.runState n == rsHold
    else if op = 2 then s.runState n == rsPaused else s.gangRuns n
  if !ok then s
  else
    let s := s.setFlag (if op = 1 then F.SEQ_RUN_PAUSE n else if op = 2 then F.SEQ_RUN_RESUME n else F.SEQ_RUN_ABORT n) true
    match s.spanOf n with
    | some k => s.spanNotice n k (if op = 1 then dtPause else if op = 2 then dtResume else dtAbort)
    | none => s

/-- A write of SEQ_RUN (R99, R100). -/
def seqRunRule (n : Nat) (v : Word) (s : State) : WRule :=
  let src := bitsOf v.toNat 9 8
  let start := v.getLsbD 0
  { stateOk := s.bound n && (src == s.fld (F.SEQ_RUN_START_SRC n) || !s.gangRuns n) && (!start || s.startable n)
    rangeOk := src != 3
    eff := fun s =>
      let s := (s.setFld (F.SEQ_RUN_START_TRIG n) (bitsOf v.toNat 19 16)).setFld (F.SEQ_RUN_START_SRC n) src
      let s := if v.getLsbD 3 then s.runRequest n 3 else s
      let s := if v.getLsbD 2 then s.runRequest n 2 else s
      let s := if v.getLsbD 1 then s.runRequest n 1 else s
      if !start then s
      else if src = 0 then s.startGang n s.nextEdge
      else if src = 1 then s.setFlag (F.SEQ_RUN_START n) true
      else s }

/-- The partitions whose lowest quad lies on one of the timing groups `a` to `b`. -/
def State.partsOn (s : State) (a b : Nat) : List Nat :=
  (List.range 64).filter (fun k => s.defined k &&
    (List.range 64).any (fun q => (s.quads k).testBit q && decide (a ≤ q / 4) && decide (q / 4 ≤ b)))

/-- The quads of every defined partition would lie in one gang if the gang of SQn ended at TGm (R468). -/
def State.regroupOk (s : State) (n m : Nat) : Bool :=
  let t := s.setFld (F.SEQ_GANG_LAST n) m
  (List.range 64).all (fun k => !s.defined k ||
    (List.range 64).all (fun q => !(s.quads k).testBit q || t.gangOf (q / 4) == t.gangOfPart k))

/-- SQn has become unbound (R179): its slices return. -/
def State.dropSlices (s : State) (n : Nat) : State :=
  let s := (s.setFld (F.VC_SQ_CFG_SLICES n) 0).setWalker n Walker.init
  let s := s.vcCount n
  s.setFld F.VC_FREE_SLICES (48 - ((List.range 16).map (fun i => s.fld (F.VC_SQ_CFG_SLICES i))).sum)

/-- The commit state of a gang's first TG page after a regrouping (R537). -/
def State.regroupPage (s : State) (t xfer : Nat) : State :=
  let p := P.TG t
  let s := (s.setFld (F.xx_SHADOW_GEN_XFER p) xfer).setFld (F.xx_SHADOW_GEN_WCOUNT p) 0
  ((s.setFld (F.xx_COMMIT_STAT_STATE p) 0).setFlag (F.xx_COMMIT_STAT_PENDING p) false).setFlag (F.xx_COMMIT_STAT_CANCEL p) false

/-- An accepted write of SEQ_GANG.LAST (R102, R537). -/
def State.regroup (s : State) (n m : Nat) : State :=
  let old := s.fld (F.SEQ_GANG_LAST n)
  if m = old then s
  else
    let x := (s.fld (F.xx_SHADOW_GEN_XFER (P.TG n)) + 1) % 256
    let last := s.fld (F.xx_COMMIT_STAT_LAST_XFER (P.TG n))
    let s := s.setFld (F.SEQ_GANG_LAST n) m
    let freed := (List.range 16).filter (fun t => decide (m < t) && decide (t ≤ old))
    let joined := (List.range 16).filter (fun t => decide (n < t) && decide (t ≤ m))
    let s := (n :: freed).foldl (fun s t => (s.regroupPage t x).setFld (F.xx_COMMIT_STAT_LAST_XFER (P.TG t)) last) s
    joined.foldl (fun s t => s.dropSlices t) s

/-- A write of SEQ_GANG (R102, R468). -/
def seqGangRule (n : Nat) (v : Word) (s : State) : WRule :=
  let m := v.toNat % 16
  let old := s.fld (F.SEQ_GANG_LAST n)
  { stateOk := s.bound n && (s.partsOn n (max m old)).all (fun k => s.pstate k == pIdle)
      && (List.range 16).all (fun t => decide (t ≤ n) || decide (m < t) || s.gangOf t == n
        || (s.gangOf t == t && decide (s.fld (F.SEQ_GANG_LAST t) ≤ t)))
      && s.regroupOk n m
    rangeOk := decide (n ≤ m)
    eff := fun s => s.regroup n m }

/-- Every partition of the gang of SQn is IDLE. -/
def State.seqIdle (s : State) (n : Nat) : Bool := (s.gangParts n).all (fun k => s.pstate k == pIdle)

/-- A write of a SEQn page (03). -/
def seqRule (n off : Nat) (v : Word) (s : State) : WRule :=
  let o := off - P.SEQ n
  let shadow := fun (m : Word) => ({ stateOk := s.bound n, eff := fun s => (s.setReg off (v &&& m)).shadowWritten (P.SEQ n) } : WRule)
  if o = 0x40 then seqRunRule n v s
  else if o = 0x44 then seqGangRule n v s
  else if o = 0x50 then shadow 0xFFFFFFF0
  else if o = 0x54 then shadow 0x3FF
  else if o = 0x58 then shadow 0xFF3F
  else if o = 0x5C then shadow 1
  else if o = 0x60 then shadow 0xFFFFFFC0
  else if o = 0x64 then shadow 0x3FF
  else if o = 0x68 then { stateOk := s.bound n && s.seqIdle n, eff := fun s => s.setReg off (v &&& 0xFF000000) }
  else if o = 0x6C then { stateOk := s.bound n && s.seqIdle n, eff := fun s => s.setReg off (v &&& 0xFFFF) }
  else if o = 0x70 then { stateOk := s.bound n, eff := fun s => s.setFlags n (s.flags n ||| v.toNat % 65536) }
  else if o = 0x74 then { stateOk := s.bound n, eff := fun s => s.setFlags n (s.flags n &&& (0xFFFF ^^^ v.toNat % 65536)) }
  else if o = 0x78 then { stateOk := s.bound n, eff := fun s => s.clrReg off (v &&& 0xFFFF) }
  else { stateOk := s.bound n, eff := fun s => s }

/-- Registers of a SEQn page that show state other than a stored word. -/
def State.seqRead (s : State) (n off : Nat) : Option Word :=
  let o := off - P.SEQ n
  if o = 0x48 then some (BitVec.ofNat 32 (putBits (s.reg off).toNat 3 0 (s.seqState n)))
  else if o = 0x68 then some (BitVec.ofNat 32 (putBits (s.reg off).toNat 15 0 (min 65535 (s.leadNs n))))
  else if o = 0x74 then some (s.reg (R.SEQ_FLAG_SET n))
  else none

/-- SEQ_START (R99). -/
def execSeqStart (a : Agent) (n : Fin 16) (src : BitVec 2) (trig : BitVec 4) (s : State) : Host.Outcome State Fault Refusal :=
  done (s.writeBy a .seq (P.SEQ n) (R.SEQ_RUN n) (seqRunRule n (BitVec.ofNat 32 (trig.toNat * 65536 + src.toNat * 256 + 1)) s))

/-- SEQ_TRIGGER_START (R99): the trigger of an armed trigger start is pending; the start consumes it. -/
def execSeqTriggerStart (n : Fin 16) (s : State) : Host.Outcome State Fault Refusal :=
  let i := s.fld (F.SEQ_RUN_START_TRIG n)
  done (if s.flag (F.SEQ_RUN_START n) && s.fld (F.SEQ_RUN_START_SRC n) == 1 && s.trigPend n i && s.startable n then
      (s.setBit (R.SEQ_TRIG_PEND n) i false).startGang n s.nextEdge
    else s)

/-- A write of SEQ_RUN that keeps START_SRC and START_TRIG and sets request bits. -/
def State.seqRequest (s : State) (a : Agent) (n : Nat) (bits : Nat) : State :=
  s.writeBy a .seq (P.SEQ n) (R.SEQ_RUN n) (seqRunRule n (BitVec.ofNat 32
    (s.fld (F.SEQ_RUN_START_TRIG n) * 65536 + s.fld (F.SEQ_RUN_START_SRC n) * 256 + bits)) s)

/-- SEQ_PAUSE (R100). -/
def execSeqPause (a : Agent) (n : Fin 16) (s : State) : Host.Outcome State Fault Refusal := done (s.seqRequest a n 2)

/-- SEQ_RESUME (R100). -/
def execSeqResume (a : Agent) (n : Fin 16) (s : State) : Host.Outcome State Fault Refusal := done (s.seqRequest a n 4)

/-- SEQ_ABORT (R100). -/
def execSeqAbort (a : Agent) (n : Fin 16) (s : State) : Host.Outcome State Fault Refusal := done (s.seqRequest a n 8)

/-- SEQ_GANG (R102, R537). -/
def execSeqGang (a : Agent) (n : Fin 16) (last : BitVec 4) (s : State) : Host.Outcome State Fault Refusal :=
  done (s.writeBy a .seq (P.SEQ n) (R.SEQ_GANG n) (seqGangRule n (last.setWidth 32) s))

/-- SEQ_FLAG_SET (R83). -/
def execSeqFlagSet (a : Agent) (n : Fin 16) (mask : BitVec 16) (s : State) : Host.Outcome State Fault Refusal :=
  done (s.writeBy a .seq (P.SEQ n) (R.SEQ_FLAG_SET n) (seqRule n (R.SEQ_FLAG_SET n) (mask.setWidth 32) s))

/-- SEQ_FLAG_CLR (R83). -/
def execSeqFlagClr (a : Agent) (n : Fin 16) (mask : BitVec 16) (s : State) : Host.Outcome State Fault Refusal :=
  done (s.writeBy a .seq (P.SEQ n) (R.SEQ_FLAG_CLR n) (seqRule n (R.SEQ_FLAG_CLR n) (mask.setWidth 32) s))

/-- SEQ_TRIG_PEND_CLEAR (R84). -/
def execSeqTrigPendClear (a : Agent) (n : Fin 16) (mask : BitVec 16) (s : State) : Host.Outcome State Fault Refusal :=
  done (s.writeBy a .seq (P.SEQ n) (R.SEQ_TRIG_PEND n) (seqRule n (R.SEQ_TRIG_PEND n) (mask.setWidth 32) s))

/-- Trigger `i` reaches the sequencers (R82, R84). -/
def State.raiseTrigger (s : State) (i : Nat) : State :=
  (List.range 16).foldl (fun s n => s.setBit (R.SEQ_TRIG_PEND n) i true) s

end Sys2Proof.Machine
end

