-- ==== Sys2Proof/Machine/Wsq.lean ====
section
/-! DEFINITION. The entries of the WSQ instructions and of the shipped routines (03, R69 to R96; 04, R126 to R136). -/

namespace Sys2Proof.Machine

open Sys2Proof

/-! ### Dispatch (R70, R74, R114) -/

/-- The address of the block data of a record. -/
def blockBase (r : BlockHead) : Nat := r.vaddr.toNat * 64

/-- The parts of the record that every instruction checks (R70). -/
def headLegal (r : BlockHead) (halt : Bool) : Bool :=
  r.enc != 3 && (decide (32 ≤ r.len.toNat) || (halt && r.len == 0))

/-- The micro-engine of SQn takes the next instruction: the gang runs, no descriptor waits, the exit before it has been taken,
and the record's line is present. -/
def State.canDispatch (s : State) (n : Nat) : Bool :=
  let q := s.seq n
  s.gangRuns n && q.fault.isNone && q.stop.isNone && q.queued.isNone && !q.openExit && !q.micro.active
    && (s.line n (q.next / 4096)).isSome

/-- A stop found at an entry (R70): recorded at the end of the block that streams, at once where none does. -/
def State.dispatchStop (s : State) (n cause : Nat) : State :=
  let q := s.seq n
  if q.streaming.isNone then s.gangStop n cause else s.setSeq n { q with stop := some cause }

/-- An entry: nothing where the micro-engine cannot take it, a stop where the record is illegal. -/
def State.entry (s : State) (n : Nat) (r : BlockHead) (halt legal : Bool) (go : State → State) : State :=
  if !s.canDispatch n then s else if headLegal r halt && legal then go s else s.dispatchStop n 6

/-- The depths of the stacks of SQn. -/
def Seq.depth (q : Seq) : Nat × Nat := (q.loops.length, q.calls.length)

/-- The block of a record, emitted once with a fixed exit. -/
def Seq.block (q : Seq) (r : BlockHead) (size : Nat) : Desc :=
  { pc := q.next, exit := .fixed, reps := 1, side := r.side, holdSafe := r.holdSafe, enc := r.enc.toNat, len := r.len.toNat
    base := blockBase r, size := size, repBase := false, slots := [], gen := none, effects := [], signals := [], depth0 := q.depth
    depth1 := q.depth, pops := [], iterates := false }

/-- A descriptor is transferred, with the effects of the instructions skipped before it (R74, R90); `q` is the sequencer after
the entry. -/
def State.enqueue (s : State) (n : Nat) (d : Desc) (q : Seq) : State :=
  let d := { d with effects := q.carry ++ d.effects }
  let s := s.setSeq n { q with carry := [] }
  if q.streaming.isNone then s.startBlock n d 0 else s.setSeq n { s.seq n with queued := some d }

/-- The stored size of a record's block: none where it is malformed. -/
def State.recordSize (s : State) (n : Nat) (r : BlockHead) : Option Nat :=
  if r.len = 0 then some 0 else storedSize (s.seqNat n) (s.gangG n) r.side r.enc.toNat r.len.toNat (blockBase r)

/-- The block of a record is emitted: `f` gives its descriptor from the plain one, `upd` the sequencer after the entry. A
malformed block stops the gang (R68); a block that is not admitted waits (R181). -/
def State.emit (s : State) (n : Nat) (r : BlockHead) (f : Desc → Desc) (upd : Seq → Seq) : State :=
  let q := s.seq n
  if r.len != 0 && !s.sizeKnown n (blockBase r) then s
  else
    match s.recordSize n r with
    | none => s.dispatchStop n 8
    | some size =>
      if s.admitted n q.next (blockBase r) size then s.enqueue n (f (q.block r size)) (upd { q with iterate := false }) else s

/-- An instruction that emits nothing (R76, R77, R90, R92): its effects travel with the next block. -/
def State.skip (s : State) (n : Nat) (effects : List SeqEffect) (next : Nat) : State :=
  let q := s.seq n
  s.setSeq n { q with next := wrapAddr next, carry := q.carry ++ effects, iterate := false }

/-- The sequencer goes on at the next instruction. -/
def Seq.onward (q : Seq) : Seq := { q with next := wrapAddr (q.next + 16) }

/-- The sequencer waits for a conditional exit. -/
def Seq.opened (q : Seq) : Seq := { q.onward with openExit := true }

/-! ### The instructions of the opcode map (R75 to R95) -/

/-- EMIT (R75). -/
def execWsqEmit (n : Fin 16) (r : BlockHead) (s : State) : Host.Outcome State Fault Refusal :=
  done (s.entry n r false true (fun s => s.emit n r id Seq.onward))

/-- REPEAT (R76). -/
def execWsqRepeat (n : Fin 16) (r : BlockHead) (count : Word) (s : State) : Host.Outcome State Fault Refusal :=
  done (s.entry n r false true (fun s =>
    if count = 0 then s.skip n [] ((s.seq n).next + 16)
    else s.emit n r (fun d => { d with reps := count.toNat }) Seq.onward))

/-- LOOP (R77). -/
def execWsqLoop (n : Fin 16) (r : BlockHead) (exitOfs : BitVec 24) (count : Word) (s : State) :
    Host.Outcome State Fault Refusal :=
  done (s.entry n r false (decide (2 ≤ exitOfs.toNat)) (fun s =>
    let q := s.seq n
    if q.iterate then s.emit n r id Seq.onward
    else if count = 0 then s.skip n [] (q.next + 16 * exitOfs.toNat)
    else if 8 ≤ q.loops.length then s.dispatchStop n 7
    else
      let up := (q.loops.length + 1, q.calls.length)
      s.emit n r (fun d => { d with depth0 := up, depth1 := up })
        (fun q => { q.onward with loops := (q.next, count.toNat, q.calls.length) :: q.loops })))

/-- ENDLOOP (R78). -/
def execWsqEndloop (n : Fin 16) (r : BlockHead) (s : State) : Host.Outcome State Fault Refusal :=
  done (s.entry n r false true (fun s =>
    match (s.seq n).loops with
    | [] => s.dispatchStop n 7
    | (a, left, cd) :: t =>
      if 1 < left then s.emit n r id (fun q => { q with next := a, iterate := true, loops := (a, left - 1, cd) :: t })
      else s.emit n r (fun d => { d with depth1 := (t.length, d.depth1.2), pops := [a] }) (fun q => { q.onward with loops := t })))

/-- CALL (R79). -/
def execWsqCall (n : Fin 16) (r : BlockHead) (target : BitVec 38) (s : State) : Host.Outcome State Fault Refusal :=
  done (s.entry n r false true (fun s =>
    if 16 ≤ (s.seq n).calls.length then s.dispatchStop n 7
    else s.emit n r (fun d => { d with depth1 := (d.depth1.1, d.depth1.2 + 1) })
      (fun q => { q with calls := wrapAddr (q.next + 16) :: q.calls, next := target.toNat * 16 })))

/-- RET (R79). -/
def execWsqRet (n : Fin 16) (r : BlockHead) (s : State) : Host.Outcome State Fault Refusal :=
  done (s.entry n r false true (fun s =>
    let q := s.seq n
    match q.calls with
    | [] => s.dispatchStop n 7
    | a :: t =>
      let keep := q.loops.filter (fun l => l.2.2 != q.calls.length)
      let gone := (q.loops.filter (fun l => l.2.2 == q.calls.length)).map Prod.fst
      s.emit n r (fun d => { d with depth1 := (keep.length, t.length), pops := gone })
        (fun q => { q with calls := t, loops := keep, next := a })))

/-- JUMP (R80). -/
def execWsqJump (n : Fin 16) (r : BlockHead) (target : BitVec 38) (s : State) : Host.Outcome State Fault Refusal :=
  done (s.entry n r false true (fun s => s.emit n r id (fun q => { q with next := target.toNat * 16 })))

/-- JUMPC (R80). -/
def execWsqJumpc (n : Fin 16) (r : BlockHead) (cond : Byte) (target : BitVec 38) (s : State) :
    Host.Outcome State Fault Refusal :=
  done (s.entry n r false (condLegal cond) (fun s =>
    s.emit n r (fun d => { d with exit := .jumpc cond (target.toNat * 16) }) Seq.opened))

/-- MATCH (R88 to R91). -/
def execWsqMatch (n : Fin 16) (r : BlockHead) (timeout : Word) (s : State) : Host.Outcome State Fault Refusal :=
  done (s.entry n r false true (fun s =>
    let q := s.seq n
    if timeout = 0 ∨ (s.openParts n).isEmpty then s.skip n [.matchZero q.next] (q.next + 16)
    else s.emit n r (fun d => { d with exit := .matches timeout.toNat, effects := [.matchEntry] }) Seq.opened))

/-- WAIT (R92). -/
def execWsqWait (n : Fin 16) (r : BlockHead) (cond : Byte) (noTimeout : Bool) (timeout : Word) (s : State) :
    Host.Outcome State Fault Refusal :=
  done (s.entry n r false (condLegal cond && waitCondLegal cond) (fun s =>
    if timeout = 0 ∧ !noTimeout then s.skip n [.waitZero] ((s.seq n).next + 16)
    else s.emit n r (fun d => { d with exit := .waits cond noTimeout timeout.toNat, effects := [.waitEntry] }) Seq.opened))

/-- A block with an effect at its first cycle (R74). -/
def State.emitEffect (s : State) (n : Nat) (r : BlockHead) (e : SeqEffect) : State :=
  s.entry n r false true (fun s => s.emit n r (fun d => { d with effects := [e] }) Seq.onward)

/-- FLAG, set (R83). -/
def execWsqFlagSet (n : Fin 16) (r : BlockHead) (mask : BitVec 16) (s : State) : Host.Outcome State Fault Refusal :=
  done (s.emitEffect n r (.flags 0 mask))

/-- FLAG, clear (R83). -/
def execWsqFlagClear (n : Fin 16) (r : BlockHead) (mask : BitVec 16) (s : State) : Host.Outcome State Fault Refusal :=
  done (s.emitEffect n r (.flags 1 mask))

/-- FLAG, invert (R83). -/
def execWsqFlagInvert (n : Fin 16) (r : BlockHead) (mask : BitVec 16) (s : State) : Host.Outcome State Fault Refusal :=
  done (s.emitEffect n r (.flags 2 mask))

/-- FLAG, CCLR (R83, R86). -/
def execWsqCclr (n : Fin 16) (r : BlockHead) (s : State) : Host.Outcome State Fault Refusal :=
  done (s.emitEffect n r (.flags 3 0))

/-- FLAG, TCLR (R83). -/
def execWsqTclr (n : Fin 16) (r : BlockHead) (mask : BitVec 16) (s : State) : Host.Outcome State Fault Refusal :=
  done (s.emitEffect n r (.flags 4 mask))

/-- SIGNAL (R94): the event flag is raised at the end of the block. -/
def execWsqSignal (n : Fin 16) (r : BlockHead) (thread : BitVec 8) (eflag : BitVec 5) (s : State) :
    Host.Outcome State Fault Refusal :=
  done (s.entry n r false true (fun s =>
    s.emit n r (fun d => { d with signals := [(thread.toNat, eflag.toNat)] }) Seq.onward))

/-- CAPON (R93). -/
def execWsqCapon (n : Fin 16) (r : BlockHead) (kind : BitVec 3) (units : BitVec 8) (s : State) :
    Host.Outcome State Fault Refusal :=
  done (s.emitEffect n r (.capture true kind.toNat units.toNat))

/-- CAPOFF (R93). -/
def execWsqCapoff (n : Fin 16) (r : BlockHead) (kind : BitVec 3) (units : BitVec 8) (s : State) :
    Host.Outcome State Fault Refusal :=
  done (s.emitEffect n r (.capture false kind.toNat units.toNat))

/-- MARK (R95). -/
def execWsqMark (n : Fin 16) (r : BlockHead) (id : Word) (s : State) : Host.Outcome State Fault Refusal :=
  done (s.emitEffect n r (.mark id))

/-- HALT (R81): with LEN 0 it stops the gang at the end of the block that streams. -/
def execWsqHalt (n : Fin 16) (r : BlockHead) (s : State) : Host.Outcome State Fault Refusal :=
  done (s.entry n r true true (fun s =>
    if r.len = 0 then s.dispatchStop n 1 else s.emit n r (fun d => { d with exit := .halts }) Seq.opened))

/-! ### Generator block data (R126) -/

/-- The header of generator block data: PINS, CODES, the stream offsets, DATA_LEN, TICK_CYC, RX_TIMEOUT. -/
structure GenHead where
  pins : List Nat
  codes : Nat
  ofs1 : Nat
  ofs2 : Nat
  size : Nat
  tick : Nat
  timeout : Nat

/-- The header at an address. -/
def State.genHead (s : State) (n a : Nat) : GenHead :=
  { pins := (List.range 16).map (fun i => s.seqNat n (a + i) 1), codes := s.seqNat n (a + 16) 4, ofs1 := s.seqNat n (a + 20) 4
    ofs2 := s.seqNat n (a + 24) 4, size := s.seqNat n (a + 28) 4, tick := s.seqNat n (a + 32) 4, timeout := s.seqNat n (a + 36) 4 }

/-- A stream of `len` bytes at an offset lies after the base vector and inside DATA_LEN, on a multiple of 64. -/
def GenHead.stream (h : GenHead) (g ofs len : Nat) : Bool :=
  len == 0 || (ofs % 64 == 0 && decide (64 + ceil64 (8 * g) ≤ ofs) && decide (ofs + len ≤ h.size))

/-- DATA_LEN holds the header and the base vector, and is at most 8 MiB. -/
def GenHead.extent (h : GenHead) (g : Nat) : Bool := decide (64 + ceil64 (8 * g) ≤ h.size) && decide (h.size ≤ 8388608)

/-- A pin of the gang. -/
def gangPin (g p : Nat) : Bool := decide (p < 16 * g)

/-- PINS of a TAP instruction: port 0 used, every port used whole or not at all. -/
def GenHead.tapPins (h : GenHead) (g : Nat) : Bool :=
  (List.range 4).all (fun k =>
    let p := (h.pins.drop (4 * k)).take 4
    (p.all (gangPin g) && (k != 0 || !p.all (· == 255))) || (k != 0 && p.all (· == 255)))

/-- PINS of a SENT instruction: a port is a pin of the gang or unused. -/
def GenHead.sentPins (h : GenHead) (g : Nat) : Bool :=
  (h.pins.take 4).all (fun p => p == 255 || gangPin g p) && (h.pins.drop 4).all (· == 255)

/-- A generator instruction: the header is read once it is present; `legal` checks it, `go` goes on with it. -/
def State.generator (s : State) (n : Nat) (r : BlockHead) (legal : State → GenHead → Bool) (go : GenHead → State → State) : State :=
  if !s.canDispatch n then s
  else if !(headLegal r false && r.enc == 0) then s.dispatchStop n 6
  else if (s.line n (blockBase r / 4096)).isNone then s
  else
    let h := s.genHead n (blockBase r)
    if h.extent (s.gangG n) && legal s h then go h s else s.dispatchStop n 6

/-- A generator's block: iterations of LEN cycles of base vector and routine codes. -/
def State.emitGen (s : State) (n : Nat) (r : BlockHead) (h : GenHead) (g : Gen) (reps : Nat) (exit : ExitKind)
    (effects : List SeqEffect) (upd : Seq → Seq) : State :=
  let q := s.seq n
  if s.admitted n q.next (blockBase r) h.size then
    s.enqueue n { q.block r h.size with
      gen := some g, reps := reps, base := blockBase r + 64, exit := exit, effects := .iterStart :: effects, iterates := true }
      (upd { q with iterate := false })
  else s

/-- Iterations of `len` cycles that hold `t` cycles (R130). -/
def iterations (t len : Nat) : Nat := (t + len - 1) / max 1 len

/-! ### TAPSTATE and TAPSHIFT (R127 to R131) -/

/-- TMS values as bits of a list. -/
def tmsBits (l : List Nat) : List Bool := l.map (· == 1)

/-- The walk between two states (R128). -/
def tapWalk (a b : Nat) : List Bool :=
  tmsBits (if a = b then []
    else if a = 1 then (if b = 2 then [0] else if b = 3 then [0, 1, 0, 1, 0] else [0, 1, 1, 0, 1, 0])
    else if a = 2 then (if b = 1 then [1, 1, 1] else if b = 3 then [1, 0, 1, 0] else [1, 1, 0, 1, 0])
    else if a = 3 then (if b = 1 then [1, 1, 1, 1, 1] else if b = 2 then [1, 1, 0] else [1, 1, 1, 1, 0, 1, 0])
    else (if b = 1 then [1, 1, 1, 1, 1] else if b = 2 then [1, 1, 0] else [1, 1, 1, 0, 1, 0]))

/-- The entry walk of TAPSHIFT (R129). -/
def shiftWalk (ir : Bool) (a : Nat) : List Bool :=
  tmsBits (if ir then
      (if a = 1 then [0, 1, 1, 0, 0] else if a = 2 then [1, 1, 0, 0] else if a = 4 then [1, 0] else [1, 1, 1, 1, 0, 0])
    else (if a = 1 then [0, 1, 0, 0] else if a = 2 then [1, 0, 0] else if a = 3 then [1, 0] else [1, 1, 1, 0, 0]))

/-- The TAP state in which the next TAP instruction starts: that of the TAP instruction that streams, else TAPST. -/
def State.tapState (s : State) (n : Nat) : Nat :=
  match (s.seq n).streaming.bind Desc.gen with
  | some (.tap g) => g.state
  | _ => s.fld (F.MC_SQ_TAP_TAPST n)

/-- TAPSTATE (R128). -/
def execWsqTapstate (n : Fin 16) (r : BlockHead) (target : BitVec 4) (dwell : BitVec 24) (force : Bool) (s : State) :
    Host.Outcome State Fault Refusal :=
  let t := target.toNat
  done (s.generator n r (fun s h => decide (1 ≤ t) && decide (t ≤ 4) && h.tapPins (s.gangG n)) (fun h s =>
    let a := s.tapState n
    let reset := force || a == 0
    let lead := (if reset then List.replicate 5 true else []) ++ tapWalk (if reset then 1 else a) t
    let total := lead.length + dwell.toNat
    if total = 0 then s.skip n [] ((s.seq n).next + 16)
    else
      s.emitGen n r h (.tap {
        pins := h.pins, codes := h.codes, lead := lead, body := dwell.toNat, shift := false, fill := t == 1, tail := []
        rest := t == 1, tdi := 0, tdo := 0, cmp := false, state := t }) (iterations total r.len.toNat) .fixed [] Seq.onward))

/-- TAPSHIFT (R129). -/
def execWsqTapshift (n : Fin 16) (r : BlockHead) (ir pauseEnd cmp : Bool) (bits : BitVec 25) (s : State) :
    Host.Outcome State Fault Refusal :=
  let k := bits.toNat
  done (s.generator n r (fun s h => decide (k ≤ 16777216) && s.tapState n != 0 && h.tapPins (s.gangG n)
      && h.stream (s.gangG n) h.ofs1 ((k + 7) / 8) && (!cmp || h.stream (s.gangG n) h.ofs2 ((2 * k + 7) / 8))) (fun h s =>
    if k = 0 then s.skip n [] ((s.seq n).next + 16)
    else
      let lead := shiftWalk ir (s.tapState n)
      let tail := tmsBits (if pauseEnd then [0] else [1, 0])
      s.emitGen n r h (.tap {
        pins := h.pins, codes := h.codes, lead := lead, body := k, shift := true, fill := false, tail := tail, rest := false
        tdi := blockBase r + h.ofs1, tdo := blockBase r + h.ofs2, cmp := cmp, state := if pauseEnd then (if ir then 4 else 3) else 2 })
        (iterations (lead.length + k + tail.length) r.len.toNat) .fixed [] Seq.onward))

/-! ### SENTTX and SENTRX (R132 to R135) -/

/-- Whether PLEN, PAUSE and CFL are legal (R132). -/
def pauseLegal (pause cfl : Bool) (plen nibbles : Nat) : Bool :=
  if !pause then !cfl
  else if cfl then decide (56 + 27 * (nibbles + 2) + 12 ≤ plen) && decide (plen ≤ 56 + 12 * (nibbles + 2) + 768)
  else decide (12 ≤ plen) && decide (plen ≤ 768)

/-- The serial bits of frame `i` of a SENTTX whose serial message words lie at `a`. -/
def State.esmOf (s : State) (n a i : Nat) : Option (Bool × Bool) := (esmFrames (s.seqNat n (a + 4 * (i / 18)) 4))[i % 18]?

/-- SENTTX (R132). -/
def execWsqSenttx (n : Fin 16) (r : BlockHead) (operands : BitVec 56) (s : State) : Host.Outcome State Fault Refusal :=
  let o := operands.toNat
  let crcm := bitsOf o 55 54
  let nib := bitsOf o 51 48
  let frames := bitsOf o 35 20
  let low := bitsOf o 19 16
  let esm := o.testBit 15
  done (s.generator n r (fun s h => decide (crcm ≤ 1) && decide (1 ≤ nib) && decide (nib ≤ 6) && decide (4 ≤ low)
      && pauseLegal (o.testBit 53) (o.testBit 52) (bitsOf o 47 36) nib && h.sentPins (s.gangG n)
      && decide (1 ≤ h.tick) && decide (h.tick ≤ 65535) && h.stream (s.gangG n) h.ofs1 (4 * frames)
      && (!esm || h.stream (s.gangG n) h.ofs2 (4 * ((frames + 17) / 18)))) (fun h s =>
    if frames = 0 then s.skip n [] ((s.seq n).next + 16)
    else
      let pulses := (List.range frames).flatMap (fun i =>
        sentPulses (sentNibbles (crcm == 1) nib (s.seqNat n (blockBase r + h.ofs1 + 4 * i) 4)
          (if esm then s.esmOf n (blockBase r + h.ofs2) i else none)) (o.testBit 53) (o.testBit 52) (bitsOf o 47 36))
      let runs := sentRuns low h.tick pulses
      s.emitGen n r h (.sentTx (h.pins.take 4) h.codes runs) (iterations (runCycles runs) r.len.toNat) .fixed [] Seq.onward))

/-- SENTRX (R134). -/
def execWsqSentrx (n : Fin 16) (r : BlockHead) (operands : BitVec 56) (s : State) : Host.Outcome State Fault Refusal :=
  let o := operands.toNat
  let crcm := bitsOf o 55 54
  let nib := bitsOf o 51 48
  let u := bitsOf o 47 45
  let frames := bitsOf o 35 20
  done (s.generator n r (fun s h => decide (crcm ≤ 1) && decide (1 ≤ nib) && decide (nib ≤ 6) && h.sentPins (s.gangG n)
      && decide (8 ≤ h.tick) && decide (h.tick ≤ 65535)
      && (h.ofs1 == 0 || h.stream (s.gangG n) h.ofs1 (8 * frames))
      && s.fld (F.CAP_SRC_SEQ u) == n.val
      && (h.pins.take 4).all (fun p => p == 255 || (match s.pinPart (16 * n.val + p) with
        | some k => s.capArmed u k
        | none => false))) (fun h s =>
    let g : SentSetup :=
      { pins := h.pins.take 4, crcm := crcm, pause := o.testBit 53, esm := o.testBit 52, nibbles := nib, frames := frames
        tick := h.tick, expect := if h.ofs1 = 0 then 0 else blockBase r + h.ofs1, start := 0 }
    if frames = 0 ∨ h.timeout = 0 then s.skip n [.sentShort u g] ((s.seq n).next + 16)
    else
      s.emitGen n r h (.sentRx (h.pins.take 4) h.codes) 1 (.sentRx frames h.timeout) [.sentStart u g] Seq.opened))

end Sys2Proof.Machine
end

