-- ==== Sys2Proof/Machine/Micro.lean ====
section
/-! DEFINITION. The micro-engine: dispatch of custom instructions, the micro-operations, the micro-watchdog (04, R104 to R119). -/

namespace Sys2Proof.Machine

open Sys2Proof

/-! ### State of the micro-engine (R106) -/

/-- The micro-engine of SQn. -/
def State.micro (s : State) (n : Nat) : Micro := (s.seq n).micro

/-- Stores the micro-engine of SQn. -/
def State.setMicro (s : State) (n : Nat) (m : Micro) : State := s.setSeq n { s.seq n with micro := m }

/-- A U register: U0 reads 0, one that has not been written since the start holds a free value. -/
def Micro.reg (m : Micro) (i : Nat) : Word :=
  if i = 0 then 0 else ((m.u.find? (fun e => e.1 == i)).map Prod.snd).getD (Config.freeValue (m.seed + i) 32)

/-- Writes a U register: U0 ignores writes. -/
def Micro.setU (m : Micro) (i : Nat) (v : Word) : Micro :=
  if i = 0 then m else { m with u := (i, v) :: m.u.filter (fun e => e.1 != i) }

/-- The condition bits after a result with carry `c` (R108). -/
def Micro.alu (m : Micro) (rd : Nat) (v : Word) (c : Bool) : Micro := { m.setU rd v with z := v == 0, n := v.msb, c := c }

/-- An overlay slot of the configuration. -/
def Micro.slot (m : Micro) (i : Nat) : Slot := m.slots.getD i Slot.off

/-- Stores an overlay slot of the configuration. -/
def Micro.setSlot (m : Micro) (i : Nat) (x : Slot) : Micro :=
  { m with slots := (List.range 16).map (fun j => if j = i then x else m.slot j) }

/-! ### Stops and faults of a routine (R104, R105, R108, R117) -/

/-- MC_SQ_USTOP names the microword of a stop. -/
def State.ustop (s : State) (n : Nat) : State :=
  (s.setFld (F.MC_SQ_USTOP_UPC n) (s.micro n).upc).setFlag (F.MC_SQ_USTOP_VALID n) true

/-- MC_SQ_UMAX holds the longest pass. -/
def State.umax (s : State) (n k : Nat) : State := s.raiseTo (R.MC_SQ_UMAX n) (min 4096 k)

/-- The routine ends, and with it every descriptor that has not started (R114). -/
def State.endRoutine (s : State) (n : Nat) : State :=
  let q := s.seq n
  s.setSeq n { q with queued := none, micro := { q.micro with active := false } }

/-- A routine stops its sequencer with a cause, at the end of the block that streams. -/
def State.microStop (s : State) (n cause : Nat) : State := (s.endRoutine n).dispatchStop n cause

/-- A contained fault of a routine (R115): stop cause FAULT. -/
def State.microFault (s : State) (n bit : Nat) : State :=
  let s := (s.ustop n).fault P.MC bit
  (s.endRoutine n).gangFault n 0xA

/-- The micro-watchdog expires (R117). -/
def State.watchdog (s : State) (n : Nat) : State := ((s.ustop n).umax n 4096).microStop n 9

/-- The bit of MC_FLT for a double-bit error at a micro-address (R105). -/
def regionFault (upc : Nat) : Nat :=
  if upc < 0x4000 then X.MC_ROM_ECC else if upc < 0x6000 then X.MC_PATCH_ECC else X.MC_OPEN_ECC

/-- A double-bit error in a fetch (R105). -/
def State.fetchError (s : State) (n : Nat) (inj : Bool) : State :=
  let b := regionFault (s.micro n).upc
  let s := ((s.ustop n).faultInj (P.SEQ n) X.SEQ_CSTORE_ECC inj).faultInj P.MC b inj
  (s.endRoutine n).gangFault n 0xA

/-- The fetch of a microword is checked (R105): the state, and whether the word can be executed. -/
def State.fetchCheck (s : State) (n : Nat) (chk : EccCheck) : Bool × State :=
  match s.takeInj P.MC (regionFault (s.micro n).upc) with
  | (true, s) => (false, s.fetchError n true)
  | (false, s) =>
    match s.takeInj (P.SEQ n) X.SEQ_CSTORE_ECC with
    | (true, s) => (false, s.fetchError n true)
    | (false, s) =>
      match chk with
      | .clean => (true, s)
      | .corrected => (true, (s.count (R.MC_SQ_CE n)).count (R.xx_CE_COUNT P.MC))
      | .double => (false, s.fetchError n false)

/-- The routine runs in the open region (R110). -/
def Micro.isOpen (m : Micro) : Bool := decide (0x6000 ≤ m.upc) && decide (m.upc < 0x7000)

/-- A micro-operation of `cycles` micro-cycles: nothing while no routine runs or the operation must wait; the watchdog, the
bounds and the check of the fetch first (R104, R105, R117); UOP_ILLEGAL where it is not `legal`; then `f`, with the next
micro-address the incrementer's (R109). -/
def State.uop (s : State) (n : Nat) (chk : EccCheck) (cycles : Nat) (ready legal : Bool) (f : State → State) : State :=
  let m := s.micro n
  if !m.active || !ready then s
  else if 4096 < m.count + cycles then s.watchdog n
  else if 0x7000 ≤ m.upc then s.microFault n X.MC_UBOUNDS
  else
    match s.fetchCheck n chk with
    | (false, s) => s
    | (true, s) =>
      if !legal then s.microFault n X.MC_UOP_ILLEGAL
      else f (s.setMicro n { s.micro n with count := m.count + cycles, upc := m.upc + 1 })

/-- A micro-operation that only changes the micro-engine. -/
def State.uopM (s : State) (n : Nat) (chk : EccCheck) (cycles : Nat) (f : Micro → Micro) : State :=
  s.uop n chk cycles true true (fun s => s.setMicro n (f (s.micro n)))

/-! ### Arithmetic (R108) -/

/-- NOP. -/
def execUopNop (n : Fin 16) (chk : EccCheck) (s : State) : Host.Outcome State Fault Refusal := done (s.uopM n chk 1 id)

/-- ADD: C is the carry out. -/
def execUopAdd (n rd ra rb : Fin 16) (chk : EccCheck) (s : State) : Host.Outcome State Fault Refusal :=
  done (s.uopM n chk 1 (fun m => m.alu rd (m.reg ra + m.reg rb) (decide (2 ^ 32 ≤ (m.reg ra).toNat + (m.reg rb).toNat))))

/-- SUB: C is the borrow. -/
def execUopSub (n rd ra rb : Fin 16) (chk : EccCheck) (s : State) : Host.Outcome State Fault Refusal :=
  done (s.uopM n chk 1 (fun m => m.alu rd (m.reg ra - m.reg rb) (decide ((m.reg ra).toNat < (m.reg rb).toNat))))

/-- AND. -/
def execUopAnd (n rd ra rb : Fin 16) (chk : EccCheck) (s : State) : Host.Outcome State Fault Refusal :=
  done (s.uopM n chk 1 (fun m => m.alu rd (m.reg ra &&& m.reg rb) false))

/-- OR. -/
def execUopOr (n rd ra rb : Fin 16) (chk : EccCheck) (s : State) : Host.Outcome State Fault Refusal :=
  done (s.uopM n chk 1 (fun m => m.alu rd (m.reg ra ||| m.reg rb) false))

/-- XOR. -/
def execUopXor (n rd ra rb : Fin 16) (chk : EccCheck) (s : State) : Host.Outcome State Fault Refusal :=
  done (s.uopM n chk 1 (fun m => m.alu rd (m.reg ra ^^^ m.reg rb) false))

/-- A shift: C is the last bit shifted out, `outBit` its place, and a free value where no bit is shifted out. -/
def State.uopShift (s : State) (n rd ra : Nat) (chk : EccCheck) (k : Nat) (v : Word → Word) (outBit : Nat) : State :=
  s.uop n chk 1 true true (fun s =>
    let x := (s.micro n).reg ra
    if k = 0 then
      match s.fresh 1 with
      | (c, s) => s.setMicro n ((s.micro n).alu rd (v x) (c == 1#1))
    else s.setMicro n ((s.micro n).alu rd (v x) (x.getLsbD outBit)))

/-- SHL. -/
def execUopShl (n rd ra : Fin 16) (imm : BitVec 14) (chk : EccCheck) (s : State) : Host.Outcome State Fault Refusal :=
  let k := imm.toNat % 32
  done (s.uopShift n rd ra chk k (fun x => x <<< k) (32 - k))

/-- SHR. -/
def execUopShr (n rd ra : Fin 16) (imm : BitVec 14) (chk : EccCheck) (s : State) : Host.Outcome State Fault Refusal :=
  let k := imm.toNat % 32
  done (s.uopShift n rd ra chk k (fun x => x >>> k) (k - 1))

/-- ADDI: the immediate is sign-extended. -/
def execUopAddi (n rd ra : Fin 16) (imm : BitVec 14) (chk : EccCheck) (s : State) : Host.Outcome State Fault Refusal :=
  let i : Word := imm.signExtend 32
  done (s.uopM n chk 1 (fun m => m.alu rd (m.reg ra + i) (decide (2 ^ 32 ≤ (m.reg ra).toNat + i.toNat))))

/-- ORI: the immediate is zero-extended. -/
def execUopOri (n rd ra : Fin 16) (imm : BitVec 14) (chk : EccCheck) (s : State) : Host.Outcome State Fault Refusal :=
  done (s.uopM n chk 1 (fun m => m.alu rd (m.reg ra ||| imm.setWidth 32) false))

/-- LUI. -/
def execUopLui (n rd : Fin 16) (imm : BitVec 16) (chk : EccCheck) (s : State) : Host.Outcome State Fault Refusal :=
  done (s.uopM n chk 1 (fun m => m.alu rd (imm.setWidth 32 <<< 16) false))

/-- CRC, IMM14 = 0: one CRC-4 step over a nibble. -/
def execUopCrc4Step (n rd ra rb : Fin 16) (chk : EccCheck) (s : State) : Host.Outcome State Fault Refusal :=
  done (s.uopM n chk 1 (fun m =>
    m.alu rd (BitVec.ofNat 32 ((msbFirst 4 (m.reg rb).toNat).foldl (crcShift 4 13) ((m.reg ra).toNat % 16))) false))

/-- CRC, IMM14 = 1: one CRC-6 step over two bits. -/
def execUopCrc6Step (n rd ra rb : Fin 16) (chk : EccCheck) (s : State) : Host.Outcome State Fault Refusal :=
  done (s.uopM n chk 1 (fun m =>
    m.alu rd (BitVec.ofNat 32 ((msbFirst 2 (m.reg rb).toNat).foldl (crcShift 6 25) ((m.reg ra).toNat % 64))) false))

/-! ### Specials (R106) -/

/-- The value of a special, none where the spec gives it no contents that a routine can read. -/
def State.special (s : State) (n sel : Nat) : Option Word :=
  let q := s.seq n
  let m := q.micro
  match sel with
  | 0x00 => some (m.operands.setWidth 32)
  | 0x01 => some ((m.operands >>> 32).setWidth 32)
  | 0x02 => some (BitVec.ofNat 32 m.len)
  | 0x03 => some (BitVec.ofNat 32 m.base)
  | 0x04 => some (BitVec.ofNat 32 (m.base / 2 ^ 32))
  | 0x05 => some (BitVec.ofNat 32 m.iter)
  | 0x06 => some (BitVec.ofNat 32 q.flagsAt)
  | 0x07 => some (BitVec.ofNat 32 (s.gangG n))
  | 0x08 => some m.descLen
  | 0x09 => some m.descLo
  | 0x0A => some m.descHi
  | 0x0B => some m.descEnc
  | 0x0C => some (BitVec.ofNat 32 (q.next % 2 ^ 32))
  | 0x0D => some (BitVec.ofNat 32 (q.next / 2 ^ 32))
  | 0x0F => some (BitVec.ofNat 32 (s.fld (F.MC_SQ_TAP_TAPST n)))
  | _ => none

/-- A special may be named where the routine runs: 0x10 to 0x1F are the vendor's, 0x20 to 0x3F reserved. -/
def Micro.specialLegal (m : Micro) (sel : Nat) : Bool := decide (sel < 0x10) || (decide (sel < 0x20) && !m.isOpen)

/-- MOVS: a special whose contents the spec does not give reads as a free value. -/
def execUopMovs (n rd : Fin 16) (sel : BitVec 6) (chk : EccCheck) (s : State) : Host.Outcome State Fault Refusal :=
  done (s.uop n chk 1 true ((s.micro n).specialLegal sel.toNat) (fun s =>
    match s.special n sel.toNat with
    | some v => s.setMicro n ((s.micro n).setU rd v)
    | none =>
      match s.fresh 32 with
      | (v, s) => s.setMicro n ((s.micro n).setU rd v)))

/-- Writes a special; a read-only one ignores the write. -/
def State.setSpecial (s : State) (n sel : Nat) (v : Word) : State :=
  let q := s.seq n
  let m := q.micro
  match sel with
  | 0x08 => s.setMicro n { m with descLen := v }
  | 0x09 => s.setMicro n { m with descLo := v &&& 0xFFFFFFC0 }
  | 0x0A => s.setMicro n { m with descHi := v &&& 0x3FF }
  | 0x0B => s.setMicro n { m with descEnc := v &&& 0xF }
  | 0x0C => s.setSeq n { q with next := q.next / 2 ^ 32 * 2 ^ 32 + v.toNat / 16 * 16 }
  | 0x0D => s.setSeq n { q with next := v.toNat % 1024 * 2 ^ 32 + q.next % 2 ^ 32 }
  | 0x0E =>
    let i := bitsOf v.toNat 11 8
    s.setMicro n (m.setSlot i { m.slot i with pin := v.toNat % 256 })
  | 0x0F => s.setFld (F.MC_SQ_TAP_TAPST n) (v.toNat % 16)
  | _ => s

/-- MOVD. -/
def execUopMovd (n ra : Fin 16) (sel : BitVec 6) (chk : EccCheck) (s : State) : Host.Outcome State Fault Refusal :=
  done (s.uop n chk 1 true ((s.micro n).specialLegal sel.toNat) (fun s => s.setSpecial n sel.toNat ((s.micro n).reg ra)))

/-- The offset of an LDP in the block data. -/
def Micro.ldpOffset (m : Micro) (ra : Nat) (imm : BitVec 14) : Nat := (m.reg ra).toNat + imm.toNat

/-- LDP: outside the instruction's block data it is UBOUNDS; it waits for a line that is not present. -/
def execUopLdp (n rd ra : Fin 16) (imm : BitVec 14) (chk : EccCheck) (s : State) : Host.Outcome State Fault Refusal :=
  let m := s.micro n
  let o := m.ldpOffset ra imm
  let inside := decide (o + 4 ≤ m.size)
  done (s.uop n chk 2 (!inside || s.linesPresent n (m.base + o) 4) true (fun s =>
    if inside then s.setMicro n ((s.micro n).setU rd (BitVec.ofNat 32 (s.seqNat n (m.base + o) 4)))
    else (s.setMicro n { s.micro n with upc := m.upc }).microFault n X.MC_UBOUNDS))

/-! ### Control flow (R108 to R110) -/

/-- BCOND. -/
def Micro.bcond (m : Micro) (c : Nat) (ra : Word) : Bool :=
  match c with
  | 0 => true
  | 1 => m.z
  | 2 => !m.z
  | 3 => m.n
  | 4 => !m.n
  | 5 => m.c
  | 6 => !m.c
  | 7 => ra == 0
  | _ => ra != 0

/-- A transfer to a target: a routine of the open region stays there (R110). -/
def State.uopGoto (s : State) (n at0 target : Nat) (wasOpen : Bool) : State :=
  if wasOpen && !(decide (0x6000 ≤ target) && decide (target < 0x7000)) then
    (s.setMicro n { s.micro n with upc := at0 }).microFault n X.MC_UBOUNDS
  else s.setMicro n { s.micro n with upc := target }

/-- BR: 1 micro-cycle, 2 if taken. -/
def execUopBr (n : Fin 16) (cond : BitVec 4) (ra : Fin 16) (target : BitVec 15) (chk : EccCheck) (s : State) :
    Host.Outcome State Fault Refusal :=
  let m := s.micro n
  let taken := m.bcond cond.toNat (m.reg ra)
  done (s.uop n chk (if taken && decide (cond.toNat ≤ 8) then 2 else 1) true (decide (cond.toNat ≤ 8)) (fun s =>
    if taken then s.uopGoto n m.upc target.toNat m.isOpen else s))

/-- CALLU. -/
def execUopCallu (n : Fin 16) (target : BitVec 15) (chk : EccCheck) (s : State) : Host.Outcome State Fault Refusal :=
  let m := s.micro n
  done (s.uop n chk 2 true (decide (m.stack.length < 4)) (fun s =>
    (s.setMicro n { s.micro n with stack := (m.upc + 1) :: m.stack }).uopGoto n m.upc target.toNat m.isOpen))

/-- RETU. -/
def execUopRetu (n : Fin 16) (chk : EccCheck) (s : State) : Host.Outcome State Fault Refusal :=
  let m := s.micro n
  done (s.uop n chk 2 true (!m.stack.isEmpty) (fun s =>
    (s.setMicro n { s.micro n with stack := m.stack.tail }).uopGoto n m.upc (m.stack.headD 0) m.isOpen))

/-- TSTC: waits for the decision point of the block that streams; an illegal COND makes the instruction illegal (R82). -/
def execUopTstc (n : Fin 16) (chk : EccCheck) (s : State) : Host.Outcome State Fault Refusal :=
  let q := s.seq n
  let c : Byte := (q.micro.operands >>> 48).setWidth 8
  done (s.uop n chk 1 (q.streaming.isSome && q.dp) true (fun s =>
    if condLegal c then s.setMicro n { s.micro n with z := !s.cond n c } else s.microStop n 6))

/-! ### Effects (R74, R83, R93 to R95) -/

/-- An effect joins the next EMITD. -/
def Micro.effect (m : Micro) (e : SeqEffect) : Micro := { m with effects := m.effects ++ [e] }

/-- SEQOP: flag operations 0x5 to 0xF are illegal (R83). -/
def execUopSeqop (n ra : Fin 16) (imm : BitVec 14) (chk : EccCheck) (s : State) : Host.Outcome State Fault Refusal :=
  let op := imm.toNat % 16
  done (s.uop n chk 1 true true (fun s =>
    if 5 ≤ op then s.microStop n 6
    else s.setMicro n ((s.micro n).effect (.flags op (((s.micro n).reg ra).setWidth 16)))))

/-- SIG, SIGNAL. -/
def execUopSigSignal (n ra : Fin 16) (chk : EccCheck) (s : State) : Host.Outcome State Fault Refusal :=
  done (s.uopM n chk 1 (fun m =>
    { m with signals := m.signals ++ [(bitsOf (m.reg ra).toNat 15 8, (m.reg ra).toNat % 32)] }))

/-- SIG, MARK. -/
def execUopSigMark (n ra : Fin 16) (chk : EccCheck) (s : State) : Host.Outcome State Fault Refusal :=
  done (s.uopM n chk 1 (fun m => m.effect (.mark (m.reg ra))))

/-- SIG, CAPON. -/
def execUopSigCapon (n ra : Fin 16) (chk : EccCheck) (s : State) : Host.Outcome State Fault Refusal :=
  done (s.uopM n chk 1 (fun m => m.effect (.capture true (bitsOf (m.reg ra).toNat 10 8) ((m.reg ra).toNat % 256))))

/-- SIG, CAPOFF. -/
def execUopSigCapoff (n ra : Fin 16) (chk : EccCheck) (s : State) : Host.Outcome State Fault Refusal :=
  done (s.uopM n chk 1 (fun m => m.effect (.capture false (bitsOf (m.reg ra).toNat 10 8) ((m.reg ra).toNat % 256))))

/-! ### The overlay (R118, R119) -/

/-- OVL: kinds 0x6 to 0xF are UOP_ILLEGAL. -/
def execUopOvl (n slot ra : Fin 16) (kind code0 code1 codex : BitVec 4) (chk : EccCheck) (s : State) :
    Host.Outcome State Fault Refusal :=
  done (s.uop n chk 1 true (decide (kind.toNat ≤ 5)) (fun s =>
    let m := s.micro n
    s.setMicro n ({ m with ovls := m.ovls + 1 }.setSlot slot
      { kind := kind.toNat, pin := (m.slot slot).pin, code0 := code0.toNat, code1 := code1.toNat, codex := codex.toNat
        addr := m.base + (m.reg ra).toNat, stop := m.base + m.size, tag := m.ovls + 1, queue := [], used := 0, under := false })))

/-- The queue of a slot where it is consumed: in the block that streams, if the same OVL configured it. -/
def Seq.liveSlot (q : Seq) (x : Slot) : Slot :=
  match q.streaming.bind (fun d => d.slots.find? (fun y => y.tag == x.tag && y.kind != 0)) with
  | some y => y
  | none => x

/-- A word is pushed into the queue of a slot and of the blocks that the same OVL configured. -/
def pushWord (tag : Nat) (w : Word) (l : List Slot) : List Slot :=
  l.map (fun y => if y.tag = tag ∧ y.kind ≠ 0 then { y with queue := y.queue ++ [w] } else y)

/-- OPUSH: a push into a full queue waits. -/
def execUopOpush (n ra : Fin 16) (imm : BitVec 14) (chk : EccCheck) (s : State) : Host.Outcome State Fault Refusal :=
  let i := imm.toNat % 16
  let q := s.seq n
  let x := q.micro.slot i
  done (s.uop n chk 1 (decide ((q.liveSlot x).queue.length < 64)) true (fun s =>
    let q := s.seq n
    let w := q.micro.reg ra
    let deep := fun (d : Desc) => ({ d with slots := pushWord x.tag w d.slots } : Desc)
    s.setSeq n { q with
      streaming := q.streaming.map deep, queued := q.queued.map deep
      micro := q.micro.setSlot i { x with queue := x.queue ++ [w] } }))

/-! ### Descriptors and boundaries (R113 to R116) -/

/-- The address in the DESC specials. -/
def Micro.descAddr (m : Micro) : Nat := m.descHi.toNat % 1024 * 2 ^ 32 + m.descLo.toNat / 64 * 64

/-- The stored size of the block in the DESC specials: the whole extent of a generator, none where it is malformed. -/
def State.descSize (s : State) (n : Nat) : Option Nat :=
  let m := s.micro n
  if m.generator then some m.size
  else if m.descEnc.getLsbD 2 then some (ceil64 (8 * s.gangG n))
  else storedSize (s.seqNat n) (s.gangG n) (m.descEnc.getLsbD 3) (m.descEnc.toNat % 4) m.descLen.toNat m.descAddr

/-- The descriptor in the DESC specials. -/
def State.microDesc (s : State) (n size : Nat) : Desc :=
  let q := s.seq n
  let m := q.micro
  { pc := m.pc, exit := .fixed, reps := 1, side := m.descEnc.getLsbD 3, holdSafe := m.holdSafe, enc := m.descEnc.toNat % 4
    len := m.descLen.toNat, base := m.descAddr, size := size, repBase := m.descEnc.getLsbD 2
    slots := m.slots.filter (fun x => x.kind != 0), gen := none
    effects := (if m.iterating && m.iter == 0 then [.iterStart] else []) ++ m.effects, signals := m.signals, depth0 := q.depth
    depth1 := q.depth, pops := [], iterates := m.iterating }

/-- The block of the DESC specials lies where admission can look at it. -/
def State.descKnown (s : State) (n : Nat) : Bool :=
  let m := s.micro n
  match s.descSize n with
  | none => s.sizeKnown n m.descAddr
  | some z => s.admitted n m.pc (if m.generator then m.base else m.descAddr) z

/-- EMITD: waits while a descriptor waits, and for admission (R114, R181); a DESC_LEN out of range is ILLEGAL (R106), a
malformed block MALFORMED (R68). -/
def execUopEmitd (n : Fin 16) (chk : EccCheck) (s : State) : Host.Outcome State Fault Refusal :=
  let q := s.seq n
  let m := q.micro
  let lenOk := decide (32 ≤ m.descLen.toNat) && decide (m.descLen.toNat ≤ 1048575)
  done (s.uop n chk 2 (q.queued.isNone && (!lenOk || s.descKnown n)) true (fun s =>
    if !lenOk then s.microStop n 6
    else
      match s.descSize n with
      | none => s.microStop n 8
      | some size =>
        let d := s.microDesc n size
        let q := s.seq n
        s.enqueue n d { q with micro := { q.micro with
          iter := q.micro.iter + 1, effects := [], signals := [] } }))

/-- A boundary (R115): a contained fault that has been reported is recorded; answers none then. -/
def State.boundary (s : State) (n : Nat) : Option State :=
  match (s.seq n).fault with
  | some c => some (s.gangStop n c)
  | none => none

/-- BOUND NEXT: the instruction ends; effects that no EMITD has taken travel with the next block, and those of a skip are lost
(R74, R113). -/
def State.boundNext (s : State) (n : Nat) : State :=
  let s := s.umax n (s.micro n).count
  match s.boundary n with
  | some t => t
  | none =>
    let q := s.seq n
    let m := q.micro
    let next := wrapAddr q.next
    let straight := next == wrapAddr (m.pc + 16)
    let s := s.setSeq n { q with
      next := next, iterate := false, carry := if m.iter = 0 then q.carry else q.carry ++ m.effects
      micro := { m with active := false, count := 0, effects := [], signals := [] } }
    let s := if m.iterating then s.executed n m.pc m.iter false (16 + m.size) next else s
    if straight then s else s.mispredict n next

/-- BOUND, IMM14[0] = 0: NEXT. -/
def execUopBoundNext (n : Fin 16) (chk : EccCheck) (s : State) : Host.Outcome State Fault Refusal :=
  done (s.uop n chk 1 true true (fun s => s.boundNext n))

/-- BOUND, IMM14[0] = 1: AGAIN. -/
def execUopBoundAgain (n : Fin 16) (chk : EccCheck) (s : State) : Host.Outcome State Fault Refusal :=
  done (s.uop n chk 1 true true (fun s =>
    let s := s.umax n (s.micro n).count
    (s.boundary n).getD (s.setMicro n { s.micro n with count := 0, upc := (s.micro n).again })))

/-- STOP: from the open region only with cause HALT or ILLEGAL. -/
def execUopStop (n : Fin 16) (cause : BitVec 4) (chk : EccCheck) (s : State) : Host.Outcome State Fault Refusal :=
  done (s.uop n chk 1 true (!(s.micro n).isOpen || cause == 1 || cause == 6) (fun s => s.microStop n cause.toNat))

/-- STK: the vendor's; a transfer into a U register gives a free value. -/
def execUopStk (n r : Fin 16) (_sel : BitVec 6) (_imm : BitVec 16) (chk : EccCheck) (s : State) :
    Host.Outcome State Fault Refusal :=
  done (s.uop n chk 2 true (!(s.micro n).isOpen) (fun s =>
    match s.fresh 32 with
    | (v, s) => s.setMicro n ((s.micro n).setU r v)))

/-- UWDOG_EXPIRE (R117): the pass would begin its 4,097th micro-cycle. -/
def execUwdogExpire (n : Fin 16) (s : State) : Host.Outcome State Fault Refusal :=
  done (if (s.micro n).active && decide (4095 ≤ (s.micro n).count) then s.watchdog n else s)

/-! ### Dispatch of a custom instruction (R96, R111 to R113) -/

/-- Word `w` (0 A, 1 B) of the dispatch entry of an opcode as it is loaded. -/
def State.dispatchWord (s : State) (n op w : Nat) : Word := sget 0 (s.seq n).store.dispatch (op * 2 + w)

/-- The header of a generator's block data is legal (R126): pins, offsets, extent. -/
def GenHead.legal (h : GenHead) (g : Nat) : Bool :=
  h.extent g && h.pins.all (fun p => p == 255 || gangPin g p)
    && (h.ofs1 == 0 || h.stream g h.ofs1 1) && (h.ofs2 == 0 || h.stream g h.ofs2 1)

/-- CUSTOM_INSTRUCTION (R96): the routine bound to the opcode starts. -/
def execCustomInstruction (n : Fin 16) (opcode : Byte) (r : BlockHead) (operands : BitVec 56) (s : State) :
    Host.Outcome State Fault Refusal :=
  let a := s.dispatchWord n opcode.toNat 0
  let b := s.dispatchWord n opcode.toNat 1
  let gen := a.getLsbD 29
  let start := fun (size : Nat) (s : State) =>
    let q := s.seq n
    s.setSeq n { q with
      next := wrapAddr (q.next + 16), iterate := false
      micro := { q.micro with
        active := true, upc := a.toNat % 2 ^ 15, stack := [], count := 0, pc := q.next, operands := operands, len := r.len.toNat
        size := size, base := blockBase r, again := bitsOf b.toNat 30 16, iterating := a.getLsbD 30, generator := gen, iter := 0
        descLen := 0, descLo := 0, descHi := 0, descEnc := 0, slots := [], effects := [], signals := [], holdSafe := r.holdSafe
        stop := blockBase r + size } }
  done (s.entry n r false (0xC0 ≤ opcode && a.getLsbD 31 && (!gen || r.enc == 0)) (fun s =>
    if gen then
      if (s.line n (blockBase r / 4096)).isNone then s
      else
        let h := s.genHead n (blockBase r)
        if h.legal (s.gangG n) then start h.size s else s.dispatchStop n 6
    else if !s.sizeKnown n (blockBase r) then s
    else start ((s.recordSize n r).getD 0) s))

end Sys2Proof.Machine
end

