-- ==== Sys2Proof/Machine/Mc.lean ====
section
/-! DEFINITION. The MC page: drain and release of a sequencer, reload of its control store, the loading of the patch (04, R111,
R112, R121 to R125). -/

namespace Sys2Proof.Machine

open Sys2Proof

/-! ### Release (R112, R123, R125) -/

/-- Word `w` of the open region of SQn. -/
def State.openWord (s : State) (n w : Nat) : Word := s.tab (0x1850000 + n * 0x4000 + 4 * w)

/-- The open region's ABI is accepted (R125). -/
def State.abiOk (s : State) (n : Nat) : Bool :=
  let h := (s.openWord n 0).toNat
  bitsOf h 15 8 == 1 && decide (h % 256 ≤ s.fld F.MC_ABI_EFF_MIN)

/-- A custom dispatch entry is in order (R112). -/
def State.entryOk (s : State) (n k : Nat) : Bool :=
  let a := (s.openWord n (16 + 2 * k)).toNat
  let b := (s.openWord n (17 + 2 * k)).toNat
  let inside := fun (x : Nat) => decide (0x6090 ≤ x) && decide (x ≤ 0x6FFF)
  !a.testBit 31 || (bitsOf a 28 15 == 0 && inside (a % 2 ^ 15) && !b.testBit 31 && inside (bitsOf b 30 16) && b % 2 ^ 16 == 0)

/-- Results of MC_RELEASE_STAT. -/
abbrev relOk : Nat := 0
abbrev relAbi : Nat := 1
abbrev relHeader : Nat := 2
abbrev relDispatch : Nat := 3
abbrev relEcc : Nat := 4

/-- The result of the validation of SQn's open region (R123). -/
def State.validate (s : State) (n : Nat) (chk : EccCheck) : Nat :=
  let used := (s.openWord n 1).toNat % 4096
  if chk == .double then relEcc
  else if bitsOf (s.openWord n 0).toNat 31 16 != 0x5753 || decide (used < 0x8F) then relHeader
  else if !s.abiOk n then relAbi
  else if (List.range 64).all (s.entryOk n) then relOk
  else relDispatch

/-- Stores the control store of SQn. -/
def State.setStore (s : State) (n : Nat) (x : Store) : State := s.setSeq n { s.seq n with store := x }

/-- The custom dispatch entries of SQn are loaded from its open region (R111). -/
def State.loadCustom (s : State) (n : Nat) : State :=
  let x := (s.seq n).store
  s.setStore n { x with dispatch := (List.range 128).foldl (fun l i => sset 0 l (0xC0 * 2 + i) (s.openWord n (16 + i))) x.dispatch }

/-- The release of a drained SQn (R123). -/
def State.release (s : State) (n : Nat) (chk : EccCheck) : State :=
  let r := s.validate n chk
  let s := if chk == .corrected then (s.count (R.MC_SQ_CE n)).count (R.xx_CE_COUNT P.MC) else s
  let s := (s.setFld F.MC_RELEASE_STAT_SEQ n).setFld F.MC_RELEASE_STAT_RESULT r
  if r = relOk then
    (((s.loadCustom n).setBit R.MC_DRAINED n false).count (R.xx_BLK_COUNT P.MC)).event P.MC E.MC_RELEASED
  else s.event P.MC E.MC_RELEASE_FAIL

/-- A write of MC_DRAIN (R123): bits set drain, bits cleared release; `chk` is the check of the words that a release reads. -/
def mcDrainRule (v : Word) (chk : EccCheck) (s : State) : WRule :=
  let new := (List.range 16).filter (fun n => v.getLsbD n && !s.drained n)
  let rel := (List.range 16).filter (fun n => !v.getLsbD n && s.drained n)
  { stateOk := new.all (fun n => s.seqState n == 0 || s.seqState n == rsIdle) && rel.all (fun n => !(s.seq n).store.bad)
    eff := fun s =>
      let s := s.setFld F.MC_DRAIN_REQ (v.toNat % 65536)
      let s := new.foldl (fun s n => s.setBit R.MC_DRAINED n true) s
      let s := if new.isEmpty then s else s.event P.MC E.MC_DRAINED
      rel.foldl (fun s n => s.release n chk) s }

/-- A write of MC_DRAIN that changes one bit. -/
def State.drainWrite (s : State) (a : Agent) (n : Nat) (on : Bool) (chk : EccCheck) : State :=
  let v := BitVec.ofNat 32 (putBits (s.fld F.MC_DRAIN_REQ) n n (if on then 1 else 0))
  s.writeBy a .mc P.MC R.MC_DRAIN (mcDrainRule v chk s)

/-- MC_DRAIN (R123). -/
def execMcDrain (a : Agent) (n : Fin 16) (s : State) : Host.Outcome State Fault Refusal := done (s.drainWrite a n true .clean)

/-- MC_RELEASE (R123). -/
def execMcRelease (a : Agent) (n : Fin 16) (chk : EccCheck) (s : State) : Host.Outcome State Fault Refusal :=
  done (s.drainWrite a n false chk)

/-! ### Reload (R124) -/

/-- The key of a word of the master store: TARGET and INDEX. -/
def masterKey (target index : Nat) : Nat := target * 2 ^ 15 + index

/-- A word of the patch is written into a control store (R121). -/
def Store.put (x : Store) (key : Nat) (v : Word) : Store :=
  let i := key % 2 ^ 15
  if key / 2 ^ 15 = 0 then { x with patch := sset 0 x.patch i v }
  else if key / 2 ^ 15 = 1 then { x with dispatch := sset 0 x.dispatch i v }
  else { x with traps := sset 0 x.traps i v }

/-- A control store with its patch RAM, ROM dispatch entries and traps at their ROM values (R124). -/
def Store.rom (x : Store) : Store := { x with patch := [], dispatch := x.dispatch.filter (fun e => decide (0xC0 * 2 ≤ e.1)), traps := [] }

/-- A write of MC_RELOAD (R124). -/
def mcReloadRule (v : Word) (s : State) : WRule :=
  { stateOk := (List.range 16).all (fun n => !v.getLsbD n || s.drained n) && (v.toNat % 65536 == 0 || s.fld F.MC_PATCH_STAT_PSTATE == 1)
    eff := fun s => s.orReg R.MC_RELOAD (v &&& 0xFFFF) }

/-- MC_RELOAD (R124). -/
def execMcReload (a : Agent) (n : Fin 16) (s : State) : Host.Outcome State Fault Refusal :=
  done (s.writeBy a .mc P.MC R.MC_RELOAD (mcReloadRule (BitVec.ofNat 32 (2 ^ n.val)) s))

/-- MC_RELOAD_DONE (R124): the copy ends, whole, or with a double-bit error of the master store. -/
def execMcReloadDone (n : Fin 16) (masterOk : Bool) (s : State) : Host.Outcome State Fault Refusal :=
  done (if !s.bit R.MC_RELOAD n then s
    else
      let s := s.setBit R.MC_RELOAD n false
      let bad := fun (s : State) (inj : Bool) =>
        let s := s.setFld F.MC_PATCH_STAT_LOADED (putBits (s.fld F.MC_PATCH_STAT_LOADED) n n 0)
        (s.setStore n { (s.seq n).store.rom with bad := true }).faultInj P.MC X.MC_MASTER_ECC inj
      match s.takeInj P.MC X.MC_MASTER_ECC with
      | (true, s) => bad s true
      | (false, s) =>
        if !masterOk then bad s false
        else
          let x := s.master.foldl (fun x e => x.put e.1 e.2) (s.seq n).store.rom
          let s := s.setFld F.MC_PATCH_STAT_LOADED (putBits (s.fld F.MC_PATCH_STAT_LOADED) n n 1)
          (s.setStore n { x with bad := false }).event P.MC E.MC_RELOADED)

/-! ### Loading the patch (R121, R124) -/

/-- A word of the patch goes to the sequencers of SEQMASK and to the master store; INDEX increments. -/
def State.ploadWord (s : State) (v : Word) : State :=
  let key := masterKey (s.fld F.MC_PLOAD_ADDR_TARGET) (s.fld F.MC_PLOAD_ADDR_INDEX)
  let s := (List.range 16).foldl (fun s n =>
    if (s.fld F.MC_PLOAD_FIN_SEQMASK).testBit n then s.setStore n ((s.seq n).store.put key v) else s) s
  ({ s with master := sset 0 s.master key v } : State).setFld F.MC_PLOAD_ADDR_INDEX (s.fld F.MC_PLOAD_ADDR_INDEX + 1)

/-- The patch is finished with a PSTATE and the ABI that the image provides (R121). -/
def State.ploadFin (s : State) (pstate maj minor : Nat) : State :=
  let s := s.setFld F.MC_PATCH_STAT_PSTATE pstate
  if pstate = 1 then
    let s := s.setFld F.MC_PATCH_STAT_LOADED (s.fld F.MC_PLOAD_FIN_SEQMASK)
    ((s.setFld F.MC_ABI_EFF_MAJ maj).setFld F.MC_ABI_EFF_MIN minor).event P.MC E.MC_PATCH_LOADED
  else
    let s := (s.setFld F.MC_ABI_EFF_MAJ (s.fld F.MC_ABI_ROM_MAJ)).setFld F.MC_ABI_EFF_MIN (s.fld F.MC_ABI_ROM_MIN)
    (s.setFld F.MC_PATCH_STAT_LOADED 0).fault P.MC X.MC_PATCH_AUTH

/-- A write of MC_PLOAD_DATA. -/
def ploadDataRule (a : Agent) (v : Word) (s : State) : WRule :=
  { agentOk := a == .mgmt, stateOk := s.mode == mBoot, eff := fun s => s.ploadWord v }

/-- A write of MC_PLOAD_FIN. -/
def ploadFinRule (a : Agent) (v : Word) (s : State) : WRule :=
  let p := bitsOf v.toNat 15 12
  let maj := bitsOf v.toNat 11 8
  let minor := v.toNat % 256
  { agentOk := a == .mgmt, stateOk := s.mode == mBoot
    rangeOk := decide (p ≤ 5) && (p != 1 || (maj == s.fld F.MC_ABI_ROM_MAJ && decide (s.fld F.MC_ABI_ROM_MIN ≤ minor)))
    eff := fun s =>
      let s := s.setFld F.MC_PLOAD_FIN_SEQMASK (bitsOf v.toNat 31 16)
      if p = 0 then s else s.ploadFin p maj minor }

/-- MC_PLOAD_DATA (R121). -/
def execMcPloadData (a : Agent) (v : Word) (s : State) : Host.Outcome State Fault Refusal :=
  done (s.writeBy a .mc P.MC R.MC_PLOAD_DATA (ploadDataRule a v s))

/-- MC_PLOAD_FIN (R121). -/
def execMcPloadFin (a : Agent) (v : Word) (s : State) : Host.Outcome State Fault Refusal :=
  done (s.writeBy a .mc P.MC R.MC_PLOAD_FIN (ploadFinRule a v s))

/-- A write of the MC page (04). -/
def mcRule (a : Agent) (off : Nat) (v : Word) (s : State) : WRule :=
  if off = R.MC_PATCH_VER then { agentOk := a == .mgmt, eff := fun s => s.setReg off v }
  else if off = R.MC_DRAIN then mcDrainRule v .clean s
  else if off = R.MC_RELOAD then mcReloadRule v s
  else if off = R.MC_PLOAD_ADDR then
    { agentOk := a == .mgmt, stateOk := s.mode == mBoot, rangeOk := bitsOf v.toNat 31 30 != 3
      eff := fun s => s.setReg off (v &&& 0xC0007FFF) }
  else if off = R.MC_PLOAD_DATA then ploadDataRule a v s
  else if off = R.MC_PLOAD_FIN then ploadFinRule a v s
  else ignored

end Sys2Proof.Machine
end

