-- ==== Sys2Proof/Machine/Pager.lean ====
section
/-! DEFINITION. Babbitt, the pattern pager and vector cache: page tables and map operations, fetches, the vector cache, the
lookahead walker, pinning and eviction (06). -/

namespace Sys2Proof.Machine

open Sys2Proof

/-! ### Page tables (R172, R173) -/

/-- Updates the pager's state. -/
def State.pagerUpd (s : State) (f : Pager → Pager) : State := { s with pager := f s.pager }

/-- A free 16 KiB slot for a table, cleared: its address in 16 KiB units; none where no table frame can be allocated. -/
def State.tableSlot (s : State) : Option Nat × State :=
  let take := fun (s : State) =>
    let k := s.pager.slots
    let a := s.pager.tables.getD (k / 128) 0 * 128 + k % 128
    (some a, (s.setMem (a * 16384) (List.replicate 16384 0)).pagerUpd (fun p => { p with slots := k + 1 }))
  if s.pager.slots < 128 * s.pager.tables.length then take s
  else
    match s.hwAlloc poolSystem 0 1 false with
    | (some f, s) => take (s.pagerUpd (fun p => { p with tables := p.tables ++ [f] }))
    | (none, s) => (none, s)

/-- PGR_CTRL.ENABLE can be set: the level-1 table exists, or a frame for it can be allocated (R173). -/
def State.pgrEnableOk (s : State) : Bool :=
  !s.pager.tables.isEmpty || (s.hwAlloc poolSystem 0 1 false).1.isSome

/-- PGR_CTRL.ENABLE is set: the level-1 table is made once and kept (R173). -/
def State.pgrEnable (on : Bool) (s : State) : State :=
  if on && s.pager.tables.isEmpty then
    match s.tableSlot with
    | (some a, s) => s.setFld F.PGR_PT_BASE_L1 a
    | (none, s) => s
  else s

/-- A write of PGR_CTRL (R38, R173). -/
def pgrCtrlRule (v : Word) (reset : State → State) (s : State) : WRule :=
  let r := ctrlRule P.PGR v State.pgrEnable reset
  { r with
    stateOk := !v.getLsbD 0 || s.pgrEnableOk
    refused := fun e s => if e == .state && v.getLsbD 0 && !s.pgrEnableOk then (s.hwAlloc poolSystem 0 1 false).2 else s }

/-- The level-2 table of a page exists, or is created (R173). -/
def State.needTable (s : State) (v : Nat) : Bool × State :=
  if (s.pageEntry v).isSome then (true, s)
  else
    match s.tableSlot with
    | (some a, s) => (true, s.setMemNat (s.fld F.PGR_PT_BASE_L1 * 16384 + 8 * (v / 1024)) 8 (2 ^ 63 + a))
    | (none, s) => (false, s)

/-- Stores bits of the STATE word of a page. -/
def State.setPageBits (s : State) (v hi lo x : Nat) : State :=
  let w := s.pageWords v
  s.setPage v w.1 (putBits w.2 hi lo x)

/-- HELD of a page. -/
def State.pageHeld (s : State) (v : Nat) : Bool := (s.pageWords v).2.testBit 60

/-- A page can be read: it is RESIDENT or HOME. -/
def State.pageReady (s : State) (v : Nat) : Bool := s.pageState v == pgResident || s.pageState v == pgHome

/-- PGR_DRAM_USED follows a change of the frames that the pager holds. -/
def State.setDramUsed (s : State) (n : Nat) : State := (s.setFld F.PGR_DRAM_USED_FRAMES n).raiseTo R.PGR_DRAM_MAX n

/-! ### Locked lines and distances (R182, R188, R190) -/

/-- The address of the RLE record that holds vector `i` of a block. -/
def rleAt (rd : Nat → Nat → Nat) (g : Nat) (side : Bool) : Nat → Nat → Nat → Nat
  | 0, a, _ => a
  | f + 1, a, i => if i < rd a 8 % 2 ^ 20 then a else rleAt rd g side f (a + rleRecord g side) (i - rd a 8 % 2 ^ 20)

/-- The address of the DELTA group that holds difference word `j`. -/
def deltaAt (rd : Nat → Nat → Nat) : Nat → Nat → Nat → Nat
  | 0, a, _ => a
  | f + 1, a, j => if j < 64 then a else deltaAt rd f (deltaGroup rd (rd a 8) (List.range 64) (a + 8)).2 (j - 64)

/-- The ranges of pattern space on which the vectors of a block from vector `i` on depend. -/
def blockNeeds (rd : Nat → Nat → Nat) (g : Nat) (side : Bool) (enc len base size i : Nat) : List (Nat × Nat) :=
  if i = 0 then [(base, base + size)]
  else if enc = 0 then
    (base + i * 8 * g, base + len * 8 * g)
      :: (if side then [(base + ceil64 (len * g * 8) + 2 * i, base + ceil64 (len * g * 8) + 2 * len)] else [])
  else if enc = 1 then [(rleAt rd g side pageUnits base i, base + size)]
  else [(deltaAt rd pageUnits (base + 8 * deltaWidth g side) (i * deltaWidth g side), base + size)]

/-- The ranges that the block of a descriptor still locks, from vector `i` on. -/
def State.descNeeds (s : State) (n : Nat) (d : Desc) (i : Nat) : List (Nat × Nat) :=
  (d.pc, d.pc + 16) :: (if d.gen.isSome || d.iterates then [(d.base - 64, d.base + d.size)]
    else blockNeeds (s.seqNat n) (s.gangG n) d.side d.enc d.len d.base d.size i)

/-- The ranges that SQn locks (R182): its streaming block, its queued one, the instruction of a routine that runs, the hold
vector. -/
def State.lockedRanges (s : State) (n : Nat) : List (Nat × Nat) :=
  let q := s.seq n
  (match q.streaming with
    | some d => if q.vec < d.len || q.repeats d then
        s.descNeeds n d (if q.repeats d && decide (d.size ≤ 524288) then 0 else q.vec) else []
    | none => [])
    ++ (match q.queued with
      | some d => s.descNeeds n d 0
      | none => [])
    ++ (if q.micro.active then [(q.micro.pc, q.micro.pc + 16), (q.micro.base, q.micro.base + q.micro.size)] else [])
    ++ (if s.activeFld (F.SEQ_STALL_POLICY n) == 1 && (s.gangRuns n || !(s.armedParts n).isEmpty) then
        [(s.holdAddr n, s.holdAddr n + 1)] else [])

/-- A line overlaps a range. -/
def lineIn (l : Nat) (r : Nat × Nat) : Bool := decide (r.1 < (l + 1) * 4096) && decide (l * 4096 < r.2)

/-- A line is pinned, locked or in the open candidate of SQn. -/
def State.lineKept (s : State) (n l : Nat) : Bool :=
  let w := s.walker n
  w.pins.any (fun p => p.2.contains l) || (match w.cand with
    | some c => c.lines.contains l
    | none => false) || (s.lockedRanges n).any (lineIn l)

/-- The difference of two ordinals. -/
def ordDist (a b : Nat) : Nat := if a ≤ b then b - a else a - b

/-- The distance of a line for SQn: none is infinite (before R190). -/
def State.lineDist (s : State) (n l : Nat) : Option Nat :=
  let x := sget 0 (s.walker n).stamps l
  if x = 0 then none else some (ordDist (x - 1) (s.seq n).ord)

/-- Distance `a` exceeds distance `b`. -/
def farther (a b : Option Nat) : Bool :=
  match a, b with
  | _, none => false
  | none, some _ => true
  | some x, some y => decide (y < x)

/-- The candidate of the largest distance, the lower number on a tie. -/
def farthest : List (Nat × Option Nat) → Option (Nat × Option Nat)
  | [] => none
  | x :: t => match farthest t with
    | none => some x
    | some y => if farther x.2 y.2 || (x.2 == y.2 && decide (x.1 < y.1)) then some x else some y

/-- The line that a fill of SQn may evict (R190). -/
def State.lineVictim (s : State) (n : Nat) : Option (Nat × Option Nat) :=
  farthest (((s.walker n).lines.filter (fun x => !s.lineKept n x.line)).map (fun x => (x.line, s.lineDist n x.line)))

/-- The distance of a page (R190): the smallest of its lines. -/
def State.pageDist (s : State) (v : Nat) : Option Nat :=
  ((List.range 16).flatMap (fun n => ((s.walker n).stamps.filter (fun e => e.1 / 512 == v)).map (fun e =>
    ordDist (e.2 - 1) (s.seq n).ord))).min?

/-- A RESIDENT page may be evicted (R190). -/
def State.pageEvictable (s : State) (v : Nat) : Bool :=
  !s.pageHeld v && (List.range 16).all (fun n => (List.range 512).all (fun i => !s.lineKept n (v * 512 + i)))

/-- The page that a fetch evicts. -/
def State.pageVictim (s : State) : Option Nat :=
  (farthest ((s.pager.resident.filter s.pageEvictable).map (fun v => (v, s.pageDist v)))).map Prod.fst

/-- The frame of a RESIDENT page returns to the pool. -/
def State.dropResident (s : State) (v : Nat) : State :=
  let f := bitsOf (s.pageWords v).2 49 32
  ((s.freeFrame f).pagerUpd (fun p => { p with resident := p.resident.filter (· != v) })).setDramUsed
    (s.fld F.PGR_DRAM_USED_FRAMES - 1)

/-- A page is evicted, to ABSENT. -/
def State.evictPage (s : State) (v : Nat) : State := ((s.dropResident v).setPageBits v 49 32 0).setPageBits v 63 61 pgAbsent

/-! ### Fetches (R174 to R178) -/

/-- A fetch of an ABSENT page is requested. -/
def State.fetchRequest (s : State) (v : Nat) : State :=
  if s.pageState v == pgAbsent then
    ((s.setPageBits v 63 61 pgFetching).setPageBits v 58 58 0).pagerUpd (fun p => { p with fetches := p.fetches ++ [(v, none, false)] })
  else s

/-- A HELD page is still to be fetched. -/
def State.heldPending (s : State) : Bool := s.pager.fetches.any (fun x => s.pageHeld x.1)

/-- PGR_EVT.PRELOAD_DONE, where the last HELD page has been fetched. -/
def State.preloadCheck (s : State) : State := if s.heldPending then s else s.event P.PGR E.PGR_PRELOAD_DONE

/-- A frame of the pattern pool for a fetch (R176): the limit and the pool allow it, or a page is evicted first. -/
def State.fetchFrame : Nat → State → Option Nat × State
  | 0, s => (none, s.event P.PGR E.PGR_DRAM_LIMIT)
  | k + 1, s =>
    match (if s.fld F.PGR_DRAM_USED_FRAMES < s.fld F.PGR_DRAM_LIMIT_FRAMES then s.hwAlloc poolPattern 0 1 false
      else (none, s)) with
    | (some f, s) => (some f, s.setDramUsed (s.fld F.PGR_DRAM_USED_FRAMES + 1))
    | (none, s) =>
      match s.pageVictim with
      | some v => (s.evictPage v).fetchFrame k
      | none => (none, s.event P.PGR E.PGR_DRAM_LIMIT)

/-- A fetch ends: it leaves the fetches in flight. -/
def State.fetchGone (s : State) (v : Nat) : State :=
  s.pagerUpd (fun p => { p with fetches := p.fetches.filter (fun x => x.1 != v) })

/-- A fetch of a FABRIC page is asked of its store node (R176, R355). -/
def State.pageAsk (s : State) (v : Nat) : State :=
  let loc := (s.pageWords v).1
  if bitsOf loc 63 62 == 2 then
    s.sendTo (bitsOf loc 41 32) (.preq (BitVec.ofNat 21 (bitsOf loc 20 0)) (BitVec.ofNat 8 (s.fld F.FAB_PAGE_GRP_GRP))
      (s.flag F.FAB_PAGE_GRP_MC))
  else s

/-- An attempt at a fetch fails (R177): it is repeated once, and then the page is FAILED. -/
def State.fetchFail (s : State) (v f : Nat) (inj : Bool) : State :=
  if !(s.pageWords v).2.testBit 58 then
    ((s.setPageBits v 58 58 1).pagerUpd (fun p => { p with fetches := p.fetches.map (fun x => if x.1 = v then (v, some f, inj) else x) })).pageAsk v
  else
    let s := ((s.setPageBits v 63 61 pgFailed).freeFrame f).setDramUsed (s.fld F.PGR_DRAM_USED_FRAMES - 1)
    let s := ((s.fetchGone v).fault P.PGR X.PGR_PAGE_FAIL).event P.PGR E.PGR_PAGE_FAILED
    if s.pageHeld v then s.preloadCheck else s

/-- The page's 2 MiB as delivered; bytes not given are 0. -/
def pageData (l : List Byte) : List Byte := (l ++ List.replicate (2 ^ 21 - l.length) 0).take (2 ^ 21)

/-- The data of a page arrive in a frame and are checked (R177). -/
def State.fetchArrive (s : State) (v f : Nat) (refused was : Bool) (data : List Byte) : State :=
  let w := (s.pageWords v).2
  if refused then s.fetchFail v f was
  else
    match s.takeInj P.PGR X.PGR_FETCH_RETRY with
    | (true, s) => s.fetchFail v f true
    | (false, s) =>
      if w.testBit 59 && crcStandard (pageData data) != w % 2 ^ 32 then s.fetchFail v f was
      else
        let s := s.setMem (f * 2 ^ 21) (pageData data)
        let s := ((s.setPageBits v 63 61 pgResident).setPageBits v 58 58 0).setPageBits v 49 32 f
        let s := (s.fetchGone v).pagerUpd (fun p => { p with resident := p.resident ++ [v] })
        let s := s.count (R.xx_BLK_COUNT P.PGR)
        let s := if w.testBit 58 then s.faultInj P.PGR X.PGR_FETCH_RETRY was else s
        if w.testBit 60 then s.preloadCheck else s

/-- The fetch of page `v`, if one is in flight. -/
def State.fetchOf (s : State) (v : Nat) : Option (Option Nat × Bool) := (s.pager.fetches.find? (fun x => x.1 == v)).map Prod.snd

/-- A host page may be read by the endpoint (R430, R432). -/
def State.sourceOpen (s : State) (v : Nat) : Bool :=
  let loc := (s.pageWords v).1
  bitsOf loc 63 62 != 3 || (s.busMaster && s.hostReach ((bitsOf loc 42 0 + 1) * 2 ^ 21 - 1))

/-- FETCH_FRAME_OBTAINED (R176): a fetch that waits for a frame obtains one; a host fetch that cannot be issued fails at once,
twice (R430, R432). During a sleep entry it is held (R494), and in QUARANTINE the pager issues nothing (R332). -/
def execFetchFrameObtained (page : BitVec 21) (s : State) : Host.Outcome State Fault Refusal :=
  let v := page.toNat
  done (if s.dev.sleep.target != 0 || s.mode == mQuarantine then s else match s.fetchOf v with
    | some (none, inj) =>
      (match s.fetchFrame (s.pager.resident.length + 1) with
        | (some f, s) =>
          let s := s.pagerUpd (fun p => { p with fetches := p.fetches.map (fun x => if x.1 = v then (v, some f, inj) else x) })
          if s.sourceOpen v then s.pageAsk v else (s.fetchFail v f inj).fetchFail v f inj
        | (none, s) => s)
    | _ => s)

/-- PAGE_FETCH_ARRIVAL (R177). -/
def execPageFetchArrival (page : BitVec 21) (refused : Bool) (data : List Byte) (s : State) : Host.Outcome State Fault Refusal :=
  done (match s.fetchOf page.toNat with
    | some (some f, inj) => s.fetchArrive page.toNat f refused inj data
    | _ => s)

/-- FETCH_TIMEOUT (R177). -/
def execFetchTimeout (page : BitVec 21) (s : State) : Host.Outcome State Fault Refusal :=
  done (match s.fetchOf page.toNat with
    | some (some f, inj) => s.fetchFail page.toNat f inj
    | _ => s)

/-- A frame without eviction (R178). -/
def State.freeFetchFrame (s : State) : Option Nat × State :=
  if s.fld F.PGR_DRAM_USED_FRAMES < s.fld F.PGR_DRAM_LIMIT_FRAMES then
    match s.hwAlloc poolPattern 0 1 false with
    | (some f, s) => (some f, s.setDramUsed (s.fld F.PGR_DRAM_USED_FRAMES + 1))
    | (none, s) => (none, s)
  else (none, s)

/-- The lines of a page lose the stamps that no line in the cache holds (R178). -/
def State.dropStamps (s : State) (v : Nat) : State :=
  (List.range 16).foldl (fun s n =>
    let w := s.walker n
    s.setWalker n { w with stamps := w.stamps.filter (fun e => e.1 / 512 != v || (s.line n e.1).isSome) }) s

/-- The page is mapped FABRIC to page `spage` of a store node. -/
def State.pageFrom (s : State) (v node spage : Nat) : Bool :=
  let loc := (s.pageWords v).1
  bitsOf loc 63 62 == 2 && bitsOf loc 41 32 == node && bitsOf loc 20 0 == spage

/-- A multicast delivery reaches a page (R178): accepted for an ABSENT or FETCHING page of that source, else discarded. -/
def State.pageDelivered (s : State) (node spage v : Nat) (data : List Byte) : State :=
    if !s.pageFrom v node spage then s
    else if s.pageState v == pgAbsent then
      (match s.freeFetchFrame with
        | (some f, s) =>
          let s := s.fetchRequest v
          let s := s.pagerUpd (fun p => { p with fetches := p.fetches.map (fun x => if x.1 = v then (v, some f, false) else x) })
          (s.dropStamps v).fetchArrive v f false false data
        | (none, s) => s)
    else
      match s.fetchOf v with
      | some (some f, inj) => s.fetchArrive v f false inj data
      | some (none, inj) =>
        (match s.freeFetchFrame with
          | (some f, s) =>
            let s := s.pagerUpd (fun p => { p with fetches := p.fetches.map (fun x => if x.1 = v then (v, some f, inj) else x) })
            s.fetchArrive v f false inj data
          | (none, s) => s)
      | none => s

/-- MULTICAST_PAGE_DELIVERY (R178). -/
def execMulticastPageDelivery (node : BitVec 10) (spage page : BitVec 21) (data : List Byte) (s : State) :
    Host.Outcome State Fault Refusal :=
  done (s.pageDelivered node.toNat spage.toNat page.toNat data)

/-! ### Map operations (R195) -/

/-- PGR_MAP_STAT.RESULT codes. -/
abbrev mapOk : Nat := 0
abbrev mapMapped : Nat := 1
abbrev mapInUse : Nat := 2
abbrev mapNotMapped : Nat := 3
abbrev mapBadLoc : Nat := 4
abbrev mapNoFrame : Nat := 5

/-- The LOC word of page `i` of a MAP: none for BAD_LOC. -/
def State.mapLoc (s : State) (i : Nat) : Option Nat :=
  let loc := (s.reg64 R.PGR_MAP_LO R.PGR_MAP_HI).toNat
  let src := bitsOf loc 63 62
  if src = 1 then
    (let f := bitsOf loc 17 0 + i
     if f < s.frameCount then some (2 ^ 62 + f) else none)
  else if src = 2 then
    (let node := bitsOf loc 41 32
     let p := bitsOf loc 20 0 + i
     if (s.flag F.FAB_ADDR_VALID && s.fld F.FAB_ADDR_ADDR == node) || decide (2097151 < p) then none
     else some (2 ^ 63 + node * 2 ^ 32 + p))
  else if src = 3 then
    (let a := bitsOf loc 42 0 + i
     if decide (a < 2 ^ 43) && s.hostReach ((a + 1) * 2 ^ 21 - 1) then some (3 * 2 ^ 62 + a) else none)
  else none

/-- HELD is set, and the fetch of an ABSENT page is requested. -/
def State.preload (s : State) (v : Nat) : State := (s.setPageBits v 60 60 1).fetchRequest v

/-- MAP of page `i` of an operation, page number `v`. -/
def State.mapOne (s : State) (o : MapOp) (i v : Nat) : Nat × State :=
  if s.pageState v != pgNone then (mapMapped, s)
  else
    match s.mapLoc i with
    | none => (mapBadLoc, s)
    | some loc =>
      match s.needTable v with
      | (false, s) => (mapNoFrame, s)
      | (true, s) =>
        let home := bitsOf loc 63 62 == 1
        let s := s.setPage v loc ((if home then pgHome else pgAbsent) * 2 ^ 61 + (if o.verify then 2 ^ 59 else 0)
          + (if home then bitsOf loc 17 0 * 2 ^ 32 else 0) + (s.reg R.PGR_MAP_CRC).toNat)
        (mapOk, if o.hold then s.preload v else s)

/-- A page is IN_USE (R195). -/
def State.pageInUse (s : State) (v : Nat) : Bool :=
  s.pageState v == pgFetching || (List.range 16).any (fun n => s.seqState n != rsIdle && s.seqState n != 0
    && (List.range 512).any (fun i => s.lineKept n (v * 512 + i)))

/-- The lines of a page leave every slice. -/
def State.dropPageLines (s : State) (v : Nat) : State :=
  (List.range 16).foldl (fun s n =>
    if (s.walker n).lines.any (fun x => x.line / 512 == v) then
      s.setLines n ((s.walker n).lines.filter (fun x => x.line / 512 != v)) else s) s

/-- UNMAP of a page. -/
def State.unmapOne (s : State) (v : Nat) : Nat × State :=
  if s.pageInUse v then (mapInUse, s)
  else
    let s := if s.pageState v == pgResident then s.dropResident v else s
    (mapOk, (s.setPage v 0 0).dropPageLines v)

/-- One page of a map operation: its RESULT. -/
def State.mapPage (s : State) (o : MapOp) (i : Nat) : Nat × State :=
  let v := o.page + i
  if o.op = 1 then s.mapOne o i v
  else if s.pageState v == pgNone then (mapNotMapped, s)
  else if o.op = 2 then s.unmapOne v
  else if o.op = 3 then (mapOk, s.preload v)
  else if o.op = 4 then (mapOk, s.setPageBits v 60 60 0)
  else if o.op = 5 then
    (mapOk, if s.pageState v == pgFailed then
        (let s := (s.setPageBits v 63 61 pgAbsent).setPageBits v 58 58 0
         if s.pageHeld v then s.fetchRequest v else s)
      else s)
  else
    (mapOk, (s.setReg64 R.PGR_MAP_LO R.PGR_MAP_HI (BitVec.ofNat 64 (s.pageWords v).1)).setFld F.PGR_MAP_STAT_STATE (s.pageState v))

/-- The pages of a map operation from page `i` on: stops at the first that fails. Answers the pages done and the RESULT. -/
def State.mapPages (o : MapOp) : Nat → Nat → State → Nat × Nat × State
  | 0, i, s => (i, mapOk, s)
  | k + 1, i, s =>
    match s.mapPage o i with
    | (0, s) => s.mapPages o k (i + 1)
    | (r, s) => (i, r, s)

/-- A map operation ends with a RESULT after some pages. -/
def State.mapEnd (s : State) (done result : Nat) : State :=
  let s := (s.setFld F.PGR_MAP_STAT_DONE done).setFld F.PGR_MAP_STAT_RESULT result
  ((s.setFlag F.PGR_MAP_STAT_BUSY false).pagerUpd (fun p => { p with op := none })).event P.PGR E.PGR_MAP_DONE

/-- PGR_MAP_OP_DONE (R195): the operation under way runs to its end. -/
def execPgrMapOpDone (s : State) : Host.Outcome State Fault Refusal :=
  done (match s.pager.op with
    | none => s
    | some o =>
      let was := s.heldPending
      match s.mapPages o o.count 0 with
      | (k, r, s) =>
        let s := s.mapEnd k r
        if (o.op == 3 || (o.op == 1 && o.hold) || was) && !s.heldPending then s.event P.PGR E.PGR_PRELOAD_DONE else s)

/-- A write of PGR_MAP_OP (R195). -/
def mapOpRule (v : Word) (s : State) : WRule :=
  let op := v.toNat % 16
  let count := bitsOf v.toNat 31 16
  let page := s.fld F.PGR_MAP_PAGE_PAGE
  { stateOk := !s.flag F.PGR_MAP_STAT_BUSY && s.flag (F.xx_CTRL_ENABLE P.PGR)
    rangeOk := decide (1 ≤ op) && decide (op ≤ 6) && !(v.getLsbD 4 && decide (1 < count)) && (op != 6 || count == 1)
      && decide (page + count ≤ 2097152)
    eff := fun s =>
      if count = 0 then s.mapEnd 0 mapOk
      else (s.setFlag F.PGR_MAP_STAT_BUSY true).pagerUpd
        (fun p => { p with op := some ⟨op, v.getLsbD 4, v.getLsbD 5, page, count⟩ }) }

/-! ### The vector cache (R179, R180, R190) -/

/-- Room for a line of SQn: a free line position, or the eviction that R190 allows; none where the fill waits. -/
def State.lineRoom (s : State) (n l : Nat) : Option State :=
  if (s.walker n).lines.length < s.fld (F.VC_SQ_CFG_SLICES n) * 512 then some s
  else
    match s.lineVictim n with
    | some (x, d) =>
      if farther d (s.lineDist n l) then some (s.setLines n ((s.walker n).lines.filter (fun y => y.line != x))) else none
    | none => none

/-- A double-bit error in a line (R180): the first discards it, the second is lasting. -/
def State.lineDouble (s : State) (n l : Nat) (inj : Bool) : State :=
  let w := s.walker n
  let s := s.setLines n (w.lines.filter (fun x => x.line != l))
  if w.retry.any (fun x => x.1 == l) then
    let s := s.setWalker n { s.walker n with retry := w.retry.filter (fun x => x.1 != l) }
    (s.faultInj P.VC X.VC_LINE_FAIL inj).gangFault n 0xA
  else s.setWalker n { s.walker n with retry := w.retry ++ [(l, inj)] }

/-- A read of a line of SQn is checked (R180): an injection gives a double-bit error. Answers whether the line can be read. -/
def State.lineCheck (s : State) (n l : Nat) (chk : EccCheck) : Bool × State :=
  match s.takeInj P.VC X.VC_LINE_RETRY with
  | (true, s) => (false, s.lineDouble n l true)
  | (false, s) =>
    match chk with
    | .clean => (true, s)
    | .corrected => (true, s.count (R.xx_CE_COUNT P.VC))
    | .double => (false, s.lineDouble n l false)

/-- LINE_FILL (R180, R190): a line is filled from its page's frame, and its first read is checked; on a line that is present,
a read and its check. Poisoned data leave the line absent and stop the gang (R390). -/
def execLineFill (n : Fin 16) (line : BitVec 30) (chk : EccCheck) (s : State) : Host.Outcome State Fault Refusal :=
  let l := line.toNat
  done (if (s.line n l).isSome then (s.lineCheck n l chk).2
    else
      match s.patAddr (l * 4096) with
      | none => s
      | some a =>
        if s.rangeDown a 4096 then (s.fault P.VC X.VC_LINE_FAIL).gangFault n 0xA
        else
          match s.lineRoom n l with
          | none => s
          | some s =>
            let s := s.count (R.VC_SQ_FILLS n)
            let s := s.setLines n ((s.walker n).lines ++ [⟨l, s.memBytes a 4096⟩])
            match s.lineCheck n l chk with
            | (false, s) => s
            | (true, s) =>
              match (s.walker n).retry.find? (fun x => x.1 == l) with
              | some (_, inj) =>
                (s.setWalker n { s.walker n with retry := (s.walker n).retry.filter (fun x => x.1 != l) }).faultInj P.VC
                  X.VC_LINE_RETRY inj
              | none => s)

/-- A write of VC_SQ_CFG (R179): the sequencer's lines are discarded. -/
def vcCfgRule (n : Nat) (v : Word) (s : State) : WRule :=
  let k := v.toNat % 32
  let pin := bitsOf v.toNat 29 16
  let total := ((List.range 16).map (fun i => if i = n then k else s.fld (F.VC_SQ_CFG_SLICES i))).sum
  { stateOk := s.seqIdle n && (k == 0 || s.bound n)
    rangeOk := decide (k ≤ 24) && decide (pin ≤ k * 512 - 256) && decide (total ≤ 48)
    eff := fun s =>
      let s := (s.setFld (F.VC_SQ_CFG_SLICES n) k).setFld (F.VC_SQ_CFG_PIN_LINES n) pin
      let s := s.setWalker n { s.walker n with lines := [], pins := [], cand := none, retry := [] }
      (s.vcCount n).setFld F.VC_FREE_SLICES (48 - total) }

/-- VC_SQ_CFG (R179). -/
def execVcSqCfg (a : Agent) (n : Fin 16) (pinLines : BitVec 14) (slices : BitVec 5) (s : State) : Host.Outcome State Fault Refusal :=
  done (s.writeBy a .vc P.VC (R.VC_SQ_CFG n) (vcCfgRule n (BitVec.ofNat 32 (pinLines.toNat * 65536 + slices.toNat)) s))

/-- A write of the VC page. -/
def vcRule (off : Nat) (v : Word) (s : State) : WRule :=
  let o := off - P.VC
  if 0x400 ≤ o ∧ o < 0x600 ∧ o % 0x20 = 0 then vcCfgRule ((o - 0x400) / 0x20) v s else ignored

/-! ### The lookahead walker (R184 to R188) -/

/-- A number at a pattern address as the walker reads it, from DRAM. -/
def State.patNat (s : State) (a k : Nat) : Nat := ((s.patAddr a).map (fun d => s.memNat d k)).getD 0

/-- An instruction record (R69). -/
structure WalkRec where
  op : Nat
  side : Bool
  enc : Nat
  len : Nat
  base : Nat
  args : Nat

/-- The record at a number of 128 bits. -/
def walkRec (v : Nat) : WalkRec :=
  { op := bitsOf v 127 120, side := v.testBit 119, enc := bitsOf v 117 116, len := bitsOf v 111 92, base := bitsOf v 91 56 * 64
    args := bitsOf v 55 0 }

/-- The record has generator block data (R111, R126). -/
def State.walkGen (s : State) (n : Nat) (r : WalkRec) : Bool :=
  r.op == 0x20 || r.op == 0x21 || r.op == 0x28 || r.op == 0x29 || (decide (0xC0 ≤ r.op) && (s.dispatchWord n r.op 0).getLsbD 29)

/-- The record is an iterating instruction (R116). -/
def State.walkIter (s : State) (n : Nat) (r : WalkRec) : Bool :=
  r.op == 0x20 || r.op == 0x21 || r.op == 0x28 || r.op == 0x29 || (decide (0xC0 ≤ r.op) && (s.dispatchWord n r.op 0).getLsbD 30)

/-- The extent of a record's block data, read with `rd`; a malformed block has none. -/
def State.walkSize (s : State) (rd : Nat → Nat → Nat) (n : Nat) (r : WalkRec) : Nat :=
  if r.len = 0 then 0
  else if s.walkGen n r then min 8388608 (rd (r.base + 28) 4)
  else (storedSize rd (s.gangG n) r.side r.enc r.len r.base).getD 0

/-- The numbers of the units of `unit` bytes that a range touches. -/
def blocksOf (unit a len : Nat) : List Nat :=
  if len = 0 then [] else (List.range ((a + len - 1) / unit + 1 - a / unit)).map (fun i => a / unit + i)

/-- The extent can be told before the data page is in DRAM: a RAW block, or none (R65). -/
def State.sizeOpen (s : State) (n : Nat) (r : WalkRec) : Bool :=
  r.len == 0 || (!s.walkGen n r && r.enc == 0) || s.pageReady (r.base / 2 ^ 21)

/-- The lines of a record at an address and of its block data. -/
def walkLines (a base size : Nat) : List Nat := (a / 4096 :: blocksOf 4096 base size).dedup

/-- The walker of SQn requests lines with a stamp. -/
def State.stampLines (s : State) (n stamp : Nat) (l : List Nat) : State :=
  let w := s.walker n
  s.setWalker n { w with stamps := l.foldl (fun t x => sset 0 t x (stamp + 1)) w.stamps }

/-- The lines that SQn may still pin (R188). -/
def State.pinFree (s : State) (n : Nat) : Nat := s.fld (F.VC_SQ_CFG_PIN_LINES n) - (s.walker n).pinned.length

/-- The open candidate collects lines, or is released where they exceed the pin capacity (R188). -/
def State.collect (s : State) (n : Nat) (l : List Nat) : State :=
  let w := s.walker n
  match w.cand with
  | none => s
  | some c =>
    let all := (c.lines ++ l).dedup
    s.setWalker n { w with cand := if s.pinFree n < all.length then none else some { c with lines := all } }

/-- The emissions that the walker predicts (R185); 0 skips. -/
def State.predicted (s : State) (n a : Nat) (r : WalkRec) : Nat :=
  let hist := ((s.history n a).map Prod.fst).getD 1
  let count := r.args % 2 ^ 32
  if r.op = 1 then count
  else if r.op = 2 then (if (s.walker n).iterate || count != 0 then 1 else 0)
  else if r.op = 8 then (if count = 0 then 0 else hist)
  else if r.op = 9 then (if count = 0 ∧ !r.args.testBit 40 then 0 else hist)
  else if s.walkIter n r then hist
  else 1

/-- The requests for a record and its block data (R184): none where it waits for a page, or stops at one. -/
def State.walkRequest (s : State) (n a stamp : Nat) (r : WalkRec) : Option (Nat × List Nat × State) × State :=
  if !s.sizeOpen n r then (none, s.fetchRequest (r.base / 2 ^ 21))
  else
    let size := s.walkSize s.patNat n r
    let pages := blocksOf (2 ^ 21) r.base size
    let s := pages.foldl State.fetchRequest s
    if pages.any (fun v => s.pageState v == pgNone || s.pageState v == pgFailed) then (none, s)
    else
      let l := walkLines a r.base size
      let t := s.stampLines n stamp l
      (some (size, l, t), t)

/-- The alternate path of a JUMPC (R185): straight on until the limit or a control transfer. -/
def State.walkAlt (n stamp limit : Nat) : Nat → Nat → Nat → State → State
  | 0, _, _, s => s
  | k + 1, a, used, s =>
    if limit ≤ used then s
    else if !s.pageReady (a / 2 ^ 21) then s.fetchRequest (a / 2 ^ 21)
    else
      let r := walkRec (s.patNat a 16)
      let c := s.predicted n a r
      if c = 0 then (if r.op = 2 then s else s.walkAlt n stamp limit k (wrapAddr (a + 16)) used)
      else
        match s.walkRequest n a stamp r with
        | (none, s) => s
        | (some (size, l, _), s) =>
          let s := s.collect n l
          if (3 ≤ r.op ∧ r.op ≤ 7) ∨ r.op = 15 then s
          else s.walkAlt n stamp limit k (wrapAddr (a + 16)) (used + c * (16 + size))

/-- The loops that a walker holds at the current call level are popped (R79). -/
def Walker.popLevel (w : Walker) : Walker :=
  let keep := w.loops.filter (fun l => l.2.2 != w.calls.length)
  { w with loops := keep, cand := w.cand.filter (fun c => keep.any (fun l => l.1 == c.loop)) }

/-- The matching ENDLOOP of the open candidate (R188): its lines become pinned. -/
def State.pinLoop (s : State) (n : Nat) (c : Candidate) (left : Nat) : State :=
  let w := s.walker n
  let s := s.setWalker n { w with
    pins := w.pins ++ [(c.loop, c.lines)], cand := none, ord := w.ord + (left - 1) * (w.ord - c.ord), loops := w.loops.drop 1
    addr := wrapAddr (w.addr + 16), iterate := false }
  ((s.vcCount n).count (R.xx_BLK_COUNT P.VC)).event P.VC E.VC_PIN

/-- The walker stops. -/
def State.walkStop (s : State) (n : Nat) : State := s.setWalker n { s.walker n with halted := true }

/-- The walker goes on at an address. -/
def State.walkTo (s : State) (n a : Nat) : State := s.setWalker n { s.walker n with addr := wrapAddr a, iterate := false }

/-- The walker follows a record whose lines it has requested (R184, R185); `before` is its ordinal before the record. -/
def State.walkFollow (s : State) (n : Nat) (r : WalkRec) (before reps : Nat) (l : List Nat) : State :=
  let w := s.walker n
  let a := w.addr
  let on := fun (s : State) => s.walkTo n (a + 16)
  let target := bitsOf r.args 37 0 * 16
  let guess := fun (t : Bool) => s.setWalker n { w with guesses := w.guesses ++ [⟨a, reps, t⟩] }
  if r.op = 2 then
    (if w.iterate then on s
     else if 8 ≤ w.loops.length then s.walkStop n
     else
       let s := s.setWalker n { w with loops := (a, r.args % 2 ^ 32, w.calls.length) :: w.loops }
       let s := if w.cand.isNone && decide (2 ≤ r.args % 2 ^ 32) && decide (0 < s.pinFree n) then
           (s.setWalker n { s.walker n with cand := some ⟨a, before, []⟩ }).collect n l else s
       on s)
  else if r.op = 3 then
    (match w.loops with
     | [] => s.walkStop n
     | (start, left, cd) :: t =>
       match w.cand.filter (fun c => c.loop == start) with
       | some c => s.pinLoop n c left
       | none =>
         if 1 < left then s.setWalker n { w with loops := (start, left - 1, cd) :: t, addr := start, iterate := true }
         else on (s.setWalker n { w with loops := t }))
  else if r.op = 4 then
    (if 16 ≤ w.calls.length then s.walkStop n
     else (s.setWalker n { w with calls := wrapAddr (a + 16) :: w.calls }).walkTo n target)
  else if r.op = 5 then
    (match w.calls with
     | [] => s.walkStop n
     | c :: t => (s.setWalker n { w.popLevel with calls := t }).walkTo n c)
  else if r.op = 6 then s.walkTo n target
  else if r.op = 7 then
    (let t := ((s.history n a).map Prod.snd).getD false
     let s := guess t
     let s := State.walkAlt n before (s.fld (F.PGR_SQ_WALK_ALT_64K n) * 65536) 16384 (if t then wrapAddr (a + 16) else target) 0 s
     if t then s.walkTo n target else s.walkTo n (a + 16))
  else if r.op = 15 then s.walkStop n
  else if r.op = 8 ∨ r.op = 9 then on (guess false)
  else if s.walkIter n r then on (guess false)
  else on s

/-- The reach of SQn in bytes. -/
def State.reach (s : State) (n : Nat) : Nat := s.fld (F.PGR_SQ_WALK_REACH_MIB n) * 2 ^ 20

/-- A page whose table or record the walker reads poisoned is taken as FAILED (R390). -/
def State.walkPoison (s : State) (v : Nat) : State :=
  let s := if s.pageState v == pgResident then s.dropResident v else s
  ((s.setPageBits v 63 61 pgFailed).fault P.PGR X.PGR_PAGE_FAIL).event P.PGR E.PGR_PAGE_FAILED

/-- The walker of SQn examines the record at its position. -/
def State.walkRecord (s : State) (n : Nat) : State :=
  let w := s.walker n
  let r := walkRec (s.patNat w.addr 16)
  let reps := s.predicted n w.addr r
  if reps = 0 then s.walkTo n (w.addr + (if r.op = 2 then 16 * bitsOf r.args 55 32 else 16))
  else
    match s.walkRequest n w.addr w.ord r with
    | (none, s) => s
    | (some (size, l, _), s) =>
      let s := s.collect n l
      (s.setWalker n { s.walker n with ord := w.ord + reps * (16 + size) }).walkFollow n r w.ord reps l

/-- WALKER_STEP (R184): the walker of SQn examines one record, within its reach. -/
def execWalkerStep (n : Fin 16) (s : State) : Host.Outcome State Fault Refusal :=
  let w := s.walker n
  done (if !s.flag (F.xx_CTRL_ENABLE P.PGR) || !s.bound n || s.fld (F.VC_SQ_CFG_SLICES n) == 0 || s.reach n == 0 then s
    else
      let s := if w.on then s else s.setWalker n { w with
        on := true, halted := false, addr := s.startAddr n, ord := 0, loops := [], calls := [], iterate := false, guesses := []
        cand := none }
      let w := s.walker n
      if w.halted || decide (s.reach n ≤ w.ord - (s.seq n).ord) then s
      else
        match s.patAddr w.addr with
        | none => s.fetchRequest (w.addr / 2 ^ 21)
        | some d => if s.chanDown d then s.walkPoison (w.addr / 2 ^ 21) else s.walkRecord n)

/-- SEQ_START_ADDR in force has changed while SQn is idle: its walker begins again (R184). -/
def State.startMoved (s : State) (n : Nat) : State :=
  if s.gangRuns n then s
  else s.setWalker n { s.walker n with on := false, halted := false, guesses := [], cand := none }

/-- The admission lines of the instruction at the active SEQ_START_ADDR are present (PGR_SQ_STAT.FIRST_READY). -/
def State.firstReady (s : State) (n : Nat) : Bool :=
  let a := s.startAddr n
  (s.line n (a / 4096)).isSome &&
    (let r := walkRec (s.seqNat n a 16)
     r.len == 0 || ((s.line n (r.base / 4096)).isSome && s.admitted n a r.base (s.walkSize (s.seqNat n) n r)))

/-- PGR_SQ_STAT as it reads. -/
def State.pgrSqStat (s : State) (n : Nat) : Word :=
  let w := s.walker n
  let ahead := w.ord - (s.seq n).ord
  BitVec.ofNat 32 ((if s.firstReady n then 2 ^ 31 else 0)
    + (if w.on && !w.halted && decide (ahead < s.reach n) && !(s.pageState (w.addr / 2 ^ 21) == pgNone)
        && !(s.pageState (w.addr / 2 ^ 21) == pgFailed) then 2 ^ 30 else 0)
    + min 0xFFFFFF (ahead / 1024))

/-! ### The PGR page -/

/-- Clears the history table of SQn (R186). -/
def State.clearHist (s : State) (n : Nat) : State := s.setWalker n { s.walker n with hist := [] }

/-- A write of a per-sequencer register of the PGR page. -/
def pgrSqRule (n off : Nat) (v : Word) (s : State) : WRule :=
  let o := (off - P.PGR) % 0x40
  if o = 0 then
    { stateOk := !s.gangRuns n
      rangeOk := decide (v.toNat % 32 ≤ 16) && decide (bitsOf v.toNat 12 8 ≤ 16)
      eff := fun s => s.storeReg P.PGR off v }
  else if o = 0x24 then { eff := fun s => if v.getLsbD 0 then s.clearHist n else s }
  else if o = 0x30 then
    { stateOk := !s.gangRuns n
      eff := fun s => s.setHistory n (s.fld (F.PGR_SQ_HSEED_ADDR_HI_ADDR n) * 2 ^ 32
          + (s.reg (R.PGR_SQ_HSEED_ADDR_LO n)).toNat / 16 * 16) (bitsOf v.toNat 23 0) (v.getLsbD 31) }
  else plainRule P.PGR off v

/-- A write of the PGR page. -/
def pgrRule (off : Nat) (v : Word) (s : State) : WRule :=
  let o := off - P.PGR
  if off = R.PGR_DRAM_LIMIT then
    { rangeOk := decide (bitsOf v.toNat 17 0 ≤ s.frameCount), eff := fun s => s.storeReg P.PGR off v }
  else if off = R.PGR_FETCH_TMO then { rangeOk := v.toNat % 65536 != 0, eff := fun s => s.storeReg P.PGR off v }
  else if off = R.PGR_MAP_OP then mapOpRule v s
  else if 0x400 ≤ o ∧ o < 0x800 then pgrSqRule ((o - 0x400) / 0x40) off v s
  else plainRule P.PGR off v

/-- Registers of the PGR page that show state other than a stored word. -/
def State.pgrRead (s : State) (off : Nat) : Option Word :=
  let o := off - P.PGR
  if 0x400 ≤ o ∧ o < 0x800 ∧ o % 0x40 = 0x18 then some (s.pgrSqStat ((o - 0x400) / 0x40)) else none

/-- A block reset of the PGR page (R173, R186): fetches and the map operation under way are dropped, histories cleared, walkers
stopped; tables, mapped pages and their frames are kept. -/
def State.pgrReset (s : State) : State :=
  let s := s.pager.fetches.foldl (fun s x =>
    let s := match x.2.1 with
      | some f => (s.freeFrame f).setDramUsed (s.fld F.PGR_DRAM_USED_FRAMES - 1)
      | none => s
    s.setPageBits x.1 63 61 pgAbsent) s
  let s := s.pagerUpd (fun p => { p with fetches := [], op := none })
  (List.range 16).foldl (fun s n => s.setWalker n { s.walker n with
    on := false, halted := false, hist := [], guesses := [], cand := none }) s

/-- A block reset of the VC page: every line is discarded. -/
def State.vcReset (s : State) : State :=
  (List.range 16).foldl (fun s n =>
    (s.setWalker n { s.walker n with lines := [], pins := [], cand := none, retry := [] }).vcCount n) s

/-! ### Commands -/

/-- PGR_ENABLE (R173). -/
def execPgrEnable (a : Agent) (s : State) : Host.Outcome State Fault Refusal :=
  done (s.writeBy a .pgr P.PGR (R.xx_CTRL P.PGR) (pgrCtrlRule ((s.reg (R.xx_CTRL P.PGR) &&& 0xB) ||| 1) id s))

/-- A map operation is written (R195). -/
def State.mapCommand (s : State) (a : Agent) (op count : Nat) (hold verify : Bool) : State :=
  s.writeBy a .pgr P.PGR R.PGR_MAP_OP (mapOpRule (BitVec.ofNat 32 (count * 65536 + (if hold then 32 else 0)
    + (if verify then 16 else 0) + op)) s)

/-- PGR_MAP (R195). -/
def execPgrMap (a : Agent) (count : BitVec 16) (hold verify : Bool) (s : State) : Host.Outcome State Fault Refusal :=
  done (s.mapCommand a 1 count.toNat hold verify)

/-- PGR_UNMAP (R195). -/
def execPgrUnmap (a : Agent) (count : BitVec 16) (s : State) : Host.Outcome State Fault Refusal :=
  done (s.mapCommand a 2 count.toNat false false)

/-- PGR_PRELOAD (R195). -/
def execPgrPreload (a : Agent) (count : BitVec 16) (s : State) : Host.Outcome State Fault Refusal :=
  done (s.mapCommand a 3 count.toNat false false)

/-- PGR_RELEASE (R195). -/
def execPgrRelease (a : Agent) (count : BitVec 16) (s : State) : Host.Outcome State Fault Refusal :=
  done (s.mapCommand a 4 count.toNat false false)

/-- PGR_REFETCH (R195). -/
def execPgrRefetch (a : Agent) (count : BitVec 16) (s : State) : Host.Outcome State Fault Refusal :=
  done (s.mapCommand a 5 count.toNat false false)

/-- PGR_QUERY (R195). -/
def execPgrQuery (a : Agent) (s : State) : Host.Outcome State Fault Refusal := done (s.mapCommand a 6 1 false false)

/-- PGR_SQ_HIST_CLEAR (R186). -/
def execPgrSqHistClear (a : Agent) (n : Fin 16) (s : State) : Host.Outcome State Fault Refusal :=
  done (s.writeBy a .pgr P.PGR (R.PGR_SQ_HIST n) (pgrSqRule n (R.PGR_SQ_HIST n) 1 s))

/-- PGR_SQ_HSEED (R186). -/
def execPgrSqHseed (a : Agent) (n : Fin 16) (taken : Bool) (reps : BitVec 24) (s : State) : Host.Outcome State Fault Refusal :=
  done (s.writeBy a .pgr P.PGR (R.PGR_SQ_HSEED_VAL n) (pgrSqRule n (R.PGR_SQ_HSEED_VAL n)
    (BitVec.ofNat 32 ((if taken then 2 ^ 31 else 0) + reps.toNat)) s))

end Sys2Proof.Machine
end

