-- ==== Sys2Proof/Machine/Fabric.lean ====
section
/-! DEFINITION. The fabric: the network view of a part, that is root, routes, groups and addresses; ports, their training and their
link layer (13, R333 to R353). -/

namespace Sys2Proof.Machine

open Sys2Proof

/-! ### Root, routes and groups (R349 to R353) -/

/-- This part's election key (R350): ROOT_PRIO and the unique ID. -/
def State.ownKey (s : State) : Nat × Nat := (s.fld F.FAB_CFG_ROOT_PRIO, s.dev.shadow.uid.toNat)

/-- One election key is better than another (R350). -/
def keyLess (a b : Nat × Nat) : Bool := decide (a.1 < b.1) || (a.1 == b.1 && decide (a.2 < b.2))

/-- A way to a root: its key, the distance, the neighbour's unique ID, the port. -/
structure RootWay where
  key : Nat × Nat
  dist : Nat
  nbr : Nat
  port : Nat

/-- The better of two ways (R350): key, distance, neighbour, port. -/
def RootWay.better (a b : RootWay) : Bool :=
  keyLess a.key b.key || (a.key == b.key && (decide (a.dist < b.dist) || (a.dist == b.dist
    && (decide (a.nbr < b.nbr) || (a.nbr == b.nbr && decide (a.port < b.port))))))

/-- The hop weight of a port. -/
def State.weight (s : State) (f : Nat) : Nat := s.fld (F.FP_DELAY_WEIGHT f)

/-- The ways that neighbours offer; a distance above 31 is unreachable. -/
def State.rootWays (s : State) : List RootWay :=
  (List.range 6).filterMap (fun f =>
    if s.wordsFlow f then
      ((s.fport f).info).bind (fun i =>
        let d := i.dist.toNat + s.weight f
        if d ≤ 31 then some ⟨(i.rootPrio.toNat, i.root.toNat), d, i.uid.toNat, f⟩ else none)
    else none)

/-- The best root, its distance and the root port; this part itself where no neighbour offers a better key. -/
def State.bestRoot (s : State) : (Nat × Nat) × Nat × Option Nat :=
  match (s.rootWays.filter (fun w => keyLess w.key s.ownKey)).foldl (fun (b : Option RootWay) w => match b with
    | none => some w
    | some x => if w.better x then some w else some x) none with
  | some w => (w.key, w.dist, some w.port)
  | none => (s.ownKey, 0, none)

/-- Any port carries traffic. -/
def State.anyUp (s : State) : Bool := (List.range 6).any s.linkUp

/-- The part is root of a fabric. -/
def State.isRoot (s : State) : Bool := s.fab.rootPort.isNone && s.fld F.FAB_STAT_NSTATE != nsOff

/-- The registers that show the root, and the servo's role (R350, R371). -/
def State.showRoot (s : State) : State :=
  let b := s.fab
  let s := s.setReg64 R.FAB_ROOT_LO R.FAB_ROOT_HI (BitVec.ofNat 64 b.best.2)
  let s := s.setReg R.FAB_ROOT_INFO (BitVec.ofNat 32 (b.best.1 * 2 ^ 24 + b.dist * 256 + b.rootPort.getD 7))
  let s := s.setFlag F.FAB_STAT_ROOT b.rootPort.isNone
  s.timeRole (b.rootPort.isNone && s.anyUp) (b.rootPort.filter s.linkUp)

/-- The election is run again on what the neighbours advertise (R350). -/
def State.elect (s : State) : State :=
  let (k, d, p) := s.bestRoot
  let was := s.fab
  let first := s.fld F.FAB_STAT_NSTATE == nsOff
  if first && !(List.range 6).any s.wordsFlow then s
  else
    let s := { s with fab := { s.fab with best := k, dist := d, rootPort := p } }
    let s := if first || was.best != k then
        ({ s with fab := { s.fab with collecting := false, requests := [], granted := [], asked := [] } }.setFld
          F.FAB_STAT_NSTATE nsElect).event P.FAB E.FAB_ROOT_CHANGE
      else s
    s.showRoot

/-- No route. -/
def Route.unset : Route := ⟨7, 0, 0⟩

/-- The route table that the ROUTE vectors give (R352, R365): the smallest distance, the lower port on a tie. -/
def State.computeRoutes (s : State) : List (Nat × Route) :=
  (List.range 6).foldl (fun l f =>
    if s.linkUp f then
      (s.fport f).vec.foldl (fun l e =>
        let d := e.dist.toNat + s.weight f
        let k := e.dst.toNat
        let old := sget Route.unset l k
        if d ≤ 31 && !(s.hasAddr && k == s.fabAddr) && (old == Route.unset || decide (d < old.dist)) then
          sset Route.unset l k ⟨f, d, min (s.fld (F.FP_STAT_REV f)) e.rev.toNat⟩
        else l) l
    else l) []

/-- The vector that this part sends (R352). -/
def State.routeVector (s : State) : List RouteEntry :=
  (if s.hasAddr then [⟨BitVec.ofNat 10 s.fabAddr, 0, 2⟩] else [])
    ++ s.fab.routes.map (fun e => ⟨BitVec.ofNat 10 e.1, BitVec.ofNat 5 e.2.dist, BitVec.ofNat 2 e.2.rev⟩)

/-- The ports that carry traffic. -/
def State.upPorts (s : State) : List Nat := (List.range 6).filter s.linkUp

/-- Sends the ROUTE vector on every port. -/
def State.sendRoutes (s : State) : State :=
  s.upPorts.foldl (fun s f => s.sendLocal f (.route (s.fab.rootPort == some f) (s.treeLink f) s.routeVector)) s

/-- The number of addresses that this part knows to be assigned. -/
def State.partsKnown (s : State) : Nat :=
  max s.fab.granted.length (s.fab.routes.length + (if s.hasAddr then 1 else 0))

/-- The route table follows the vectors; a change is announced (R352). -/
def State.reroute (s : State) : State :=
  let l := s.computeRoutes
  let s := if l == s.fab.routes then s
    else (({ s with fab := { s.fab with routes := l } }.unsettle).event P.FAB E.FAB_ROUTE_CHANGE)
  s.setFld F.FAB_STAT_PARTS s.partsKnown

/-- The JOIN entry of a port for a group, where members lie beyond it. -/
def State.joinOf (s : State) (f g : Nat) : Option JoinEntry :=
  if s.treeUp f then (s.fport f).joins.find? (fun e => e.grp.toNat == g && e.count != 0) else none

/-- A span slot of the group is enabled on this part, which is a member (R353). -/
def State.detHere (s : State) (g : Nat) : Bool :=
  (s.group g).member && (List.range 16).any (fun k => s.flag (F.FAB_SPAN_CFG_EN k) && s.fld (F.FAB_SPAN_CFG_GRP k) == g)

/-- The members of a group seen through all ports but one: count, the largest distance of one from here, the largest between
two, DET. -/
def State.groupView (s : State) (g : Nat) (but? : Option Nat) : Nat × Nat × Nat × Bool :=
  let m := (s.group g).member
  (List.range 6).foldl (fun (c, far, diam, det) f =>
    match (if but? == some f then none else s.joinOf f g) with
    | none => (c, far, diam, det)
    | some e =>
      let d := e.far.toNat + s.weight f
      (c + e.count.toNat, max far d, max (max diam e.diam.toNat) (if c = 0 then 0 else far + d), det || e.det))
    (if m then 1 else 0, 0, 0, s.detHere g)

/-- The groups that this part or a neighbour knows of. -/
def State.groupsKnown (s : State) : List Nat :=
  (List.range 256).filter (fun g => (s.group g).member || (s.group g).count != 0 || (List.range 6).any (fun f => (s.joinOf f g).isSome))

/-- The groups follow what the neighbours told (R353, R358). -/
def State.regroupAll (s : State) : State :=
  s.groupsKnown.foldl (fun s g =>
    let (c, _, d, det) := s.groupView g none
    let old := s.group g
    let tree := ((List.range 6).filter (fun f => (s.joinOf f g).isSome)).foldl (fun a f => a + 2 ^ f) 0
    let s := { s with fab := { s.fab with
      groups := sset Group.init s.fab.groups g { old with tree := tree, count := c, diam := d, det := det } } }
    (List.range 16).foldl (fun s k =>
      let h := s.fld (F.SEQ_COND_LEAD_HOPS (s.fld (F.FAB_SPAN_CFG_SEQ k)))
      if s.flag (F.FAB_SPAN_CFG_EN k) && s.fld (F.FAB_SPAN_CFG_GRP k) == g && decide (old.diam ≤ h) && decide (h < d) then
        s.event P.FAB E.FAB_SPAN_HOPS else s) s) s

/-- What this part tells a neighbour of the groups (R353). -/
def State.joinEntries (s : State) (f : Nat) : List JoinEntry :=
  s.groupsKnown.filterMap (fun g =>
    let (c, far, d, det) := s.groupView g (some f)
    if c = 0 then none
    else some ⟨BitVec.ofNat 8 g, BitVec.ofNat 11 c, BitVec.ofNat 5 far, BitVec.ofNat 5 d, det⟩)

/-- Sends JOIN packets on the tree. -/
def State.sendJoins (s : State) : State :=
  (s.upPorts.filter s.treeLink).foldl (fun s f => s.sendLocal f (.join (s.joinEntries f))) s

/-- The LINKINFO of a port (R349). -/
def State.linkInfo (s : State) (f : Nat) : LinkInfo :=
  { uid := s.dev.shadow.uid, rev := BitVec.ofNat 2 (s.fld (F.FP_CFG_REV_MAX f)), prio := BitVec.ofNat 8 (s.fld F.FAB_CFG_ROOT_PRIO)
    addr := if s.flag F.FAB_ADDR_VALID then some (BitVec.ofNat 10 s.fabAddr) else none
    root := BitVec.ofNat 64 s.fab.best.2, rootPrio := BitVec.ofNat 8 s.fab.best.1, dist := BitVec.ofNat 5 s.fab.dist
    port := ⟨f % 6, Nat.mod_lt f (by decide)⟩, weight := BitVec.ofNat 5 (s.weight f) }

/-- A LINKINFO is sent where one of its fields has changed (R349). -/
def State.tell (s : State) (f : Nat) : State :=
  let i := s.linkInfo f
  if s.wordsFlow f && (s.fport f).told != some i then
    (s.setFport f { s.fport f with told := some i }).sendLocal f (.linkInfo i)
  else s

/-- The network view follows a change of a link, an address or a vector (R349 to R353). -/
def State.fabUpdate (s : State) : State :=
  let old := s.fab
  let s := (s.elect.reroute).regroupAll
  let s := (List.range 6).foldl State.tell s
  let s := if old.routes != s.fab.routes || old.rootPort != s.fab.rootPort then s.sendRoutes else s
  if old.groups != s.fab.groups || old.rootPort != s.fab.rootPort then s.sendJoins else s

/-! ### Ports up and down (R338) -/

/-- DOWN_CAUSE codes. -/
abbrev dcTimeout : Nat := 1
abbrev dcLinkFail : Nat := 2
abbrev dcPeerQuar : Nat := 3
abbrev dcPeerSleep : Nat := 4
abbrev dcOffline : Nat := 5
abbrev dcFreq : Nat := 6
abbrev dcNoLane : Nat := 7
abbrev dcLocal : Nat := 8

/-- A port leaves its state for DOWN, or for `st`, with a cause: what it holds is discarded, and the network view follows. -/
def State.portLeave (s : State) (f st cause : Nat) : State :=
  let was := s.linkUp f
  let p := s.fport f
  let s := s.setFport f { FPort.init with off := p.off, failed := p.failed && !was }
  let s := ((s.setFpState f st).setFld (F.FP_STAT_LANES f) 0).setFld (F.FP_STAT_DOWN_CAUSE f) cause
  let s := s.setTime { s.time with exch := sset none s.time.exch f none }
  let s := if was then s.event (P.FP f) E.FP_DOWN else s
  s.fabUpdate

/-- A training fails (R338): the first failure of a DOWN period is a fault. -/
def State.trainFails (s : State) (f cause : Nat) : State :=
  let s := s.count (R.FP_TRAIN_FAILS f)
  let s := if (s.fport f).failed then s else (s.setFport f { s.fport f with failed := true }).fault (P.FP f) X.FP_TRAIN_FAIL
  s.portLeave f fpDown cause

/-- A port may leave DISABLED (R338). -/
def State.portAllowed (s : State) (f : Nat) : Bool := s.flag (F.xx_CTRL_ENABLE (P.FP f)) && !s.flag (F.FP_CFG_OFFLINE f)

/-- A port follows ENABLE and OFFLINE (R338). -/
def State.portGate (s : State) (f : Nat) : State :=
  if s.portAllowed f then
    (if s.fpState f == fpDisabled then (s.setFport f { s.fport f with failed := false }).setFpState f fpDown else s)
  else if s.fpState f == fpDisabled || s.fpState f == fpLoopback then s
  else s.portLeave f fpDisabled (if s.flag (F.FP_CFG_OFFLINE f) then dcOffline else dcLocal)

/-- A port retrains from DOWN (R338). -/
def State.portRetrain (s : State) (f : Nat) : State :=
  if s.fpState f == fpDisabled || s.fpState f == fpLoopback then s else s.portLeave f fpDown dcLocal

/-- The lanes of a port work: awake, not switched off, and clocked from SREF (R480). -/
def State.lanesLive (s : State) (f : Nat) : Bool :=
  !(s.fport f).off && s.flag F.CLK_REF_SREF_OK && s.mode != mCold && s.mode != mDoze && s.mode != mHibernate
    && s.fpState f != fpDisabled

/-- TS1 on each lane in use (R335, R338). -/
def State.sendTs (s : State) (f b1 b3 : Nat) : State :=
  ((List.range 4).filter (fun l => (s.fld (F.FP_CFG_LANES_EN f)).testBit l)).foldl (fun s l => s.put f (.set l b1 l b3)) s

/-- TS1_BEACON (R338). -/
def execTs1Beacon (f : Fin 6) (s : State) : Host.Outcome State Fault Refusal :=
  done (if s.lanesLive f && s.fpState f == fpDown then s.sendTs f 0x11 0 else s)

/-! ### Training (R336 to R338) -/

/-- An ordered set of ALIGN arrives on a lane: symbol lock after 64, and the lane's logical number. -/
def State.alignSeen (s : State) (f lane num : Nat) : State :=
  let p := s.fport f
  s.setFport f { p with
    locks := sset 0 p.locks lane (min 64 (sget 0 p.locks lane + 1)), map := sset 4 p.map lane num }

/-- The logical lanes that are locked. -/
def FPort.locked (p : FPort) : Nat :=
  ((List.range 4).filter (fun i => (List.range 4).any (fun l => sget 4 p.map l == i && sget 0 p.locks l == 64))).foldl
    (fun a i => a + 2 ^ i) 0

/-- OS TS1 (R338): a port in DOWN goes to ALIGN; in ALIGN the lane is aligned. A frequency offset above 300 ppm ends training. -/
def execOsTs1 (f : Fin 6) (lane num : Fin 4) (slock offFreq : Bool) (s : State) : Host.Outcome State Fault Refusal :=
  done (if !s.lanesLive f || !(s.fpState f == fpDown || s.fpState f == fpAlign) then s
    else
      let s := if s.fpState f == fpDown then (s.setFpState f fpAlign).sendTs f 0x11 0 else s
      let s := s.alignSeen f lane num
      if offFreq then s.trainFails f dcFreq
      else if slock && (s.fport f).locked != 0 then s.sendTs f 0x12 (s.fport f).locked
      else s)

/-- The first equalisation request of a lane (R337): the configured taps, or what the receiver chooses, which is free. -/
def State.eqFirst (s : State) (f l : Nat) : State :=
  let (a, s) := s.fresh 8
  let (b, s) := s.fresh 8
  let fixed := s.flag (F.FP_EQ_CFG_FIXED f)
  let pre := if fixed then s.fld (F.FP_EQ_CFG_PRE f) else a.toNat % 9
  let post := if fixed then s.fld (F.FP_EQ_CFG_POST f) else b.toNat % 17
  (s.setFport f { s.fport f with eqSent := sset 0 (s.fport f).eqSent l 1 }).put f (.set l 0x13 pre post)

/-- The lanes that a port uses at the width that `n` usable lanes give (R338). -/
def usedLanes (usable : Nat) : Nat :=
  let l := (List.range 4).filter (fun i => usable.testBit i)
  let w := if 4 ≤ l.length then 4 else if 2 ≤ l.length then 2 else l.length
  (l.take w).foldl (fun a i => a + 2 ^ i) 0

/-- OS TS2 (R338): the width is chosen from the lanes locked in both directions, and EQ begins. -/
def execOsTs2 (f : Fin 6) (lane num : Fin 4) (peer : BitVec 4) (s : State) : Host.Outcome State Fault Refusal :=
  done (if !s.lanesLive f || s.fpState f != fpAlign then s
    else
      let s := s.alignSeen f lane num
      let p := s.fport f
      let lanes := usedLanes (s.fld (F.FP_CFG_LANES_EN f) &&& p.locked &&& peer.toNat &&& (15 - p.avoid))
      if lanes = 0 then s.trainFails f dcNoLane
      else
        let s := (s.setFld (F.FP_STAT_LANES f) lanes).setFpState f fpEq
        let s := s.setFport f { s.fport f with eqSent := [], eqRx := 0, eqTx := 0 }
        ((List.range 4).filter (fun l => lanes.testBit l)).foldl (fun s l => s.eqFirst f l) s)

/-- Taps of a transmitter: the nearest legal values (R337). -/
def nearestTaps (pre post : Nat) : Nat × Nat := (min pre 8, min post 16)

/-- OS EQR (R337): the transmitter applies the request and answers with what it applied. -/
def execOsEqr (f : Fin 6) (lane : Fin 4) (pre post : Byte) (s : State) : Host.Outcome State Fault Refusal :=
  let (a, b) := nearestTaps pre.toNat post.toNat
  done (if s.lanesLive f && s.fpState f == fpEq then
      ((s.setFld (F.FP_EQ_STAT_PRE f lane) a).setFld (F.FP_EQ_STAT_POST f lane) b).put f (.set lane 0x14 a b)
    else s)

/-- A time exchange departs on a port (R364). -/
def State.exchangeStart (s : State) (f : Nat) : State :=
  let p := s.fport f
  let n := (p.tsx + 1) % 256
  let s := (s.setFport f { p with tsx := n }).put f (.set 0 0x18 n 0)
  s.setTime { s.time with exch := sset none s.time.exch f (some ⟨s.now, s.dclk, none⟩) }

/-- EQ is finished on every used lane in both directions: CONFIG begins (R337, R338). -/
def State.eqCheck (s : State) (f : Nat) : State :=
  let p := s.fport f
  let lanes := s.fld (F.FP_STAT_LANES f)
  if s.fpState f == fpEq && p.eqRx &&& p.eqTx &&& lanes == lanes then
    let s := (s.setFport f { p with measured := false, info := none, told := none }).setFpState f fpConfig
    (s.fabUpdate.tell f).exchangeStart f
  else s

/-- OS EQA (R337): the receiver asks again, up to 64 requests, or ends its lane. -/
def execOsEqa (f : Fin 6) (lane : Fin 4) (_pre _post : Byte) (more : Option (Fin 9 × Fin 17)) (s : State) :
    Host.Outcome State Fault Refusal :=
  let p := s.fport f
  let n := sget 0 p.eqSent lane
  done (if !s.lanesLive f || s.fpState f != fpEq || p.eqRx.testBit lane then s
    else
      match (if s.flag (F.FP_EQ_CFG_FIXED f) || decide (64 ≤ n) then none else more) with
      | some (a, b) => (s.setFport f { p with eqSent := sset 0 p.eqSent lane (n + 1) }).put f (.set lane 0x13 a b)
      | none => ((s.setFport f { p with eqRx := p.eqRx ||| 2 ^ lane.val }).put f (.set lane 0x15 0 0)).eqCheck f)

/-- OS EQD (R337): equalisation of a transmitter is finished. -/
def execOsEqd (f : Fin 6) (lane : Fin 4) (s : State) : Host.Outcome State Fault Refusal :=
  let p := s.fport f
  done (if s.lanesLive f && s.fpState f == fpEq then
      ((s.setFport f { p with eqTx := p.eqTx ||| 2 ^ lane.val }).setFlag (F.FP_EQ_STAT_DONE f lane) true).eqCheck f
    else s)

/-- CONFIG ends (R338, R365): LINKINFO has come and the delay is measured. -/
def State.configCheck (s : State) (f : Nat) : State :=
  match (s.fport f).info with
  | none => s
  | some i =>
    if s.fpState f == fpConfig && (s.fport f).measured then
      let s := (s.setFpState f fpActive).setFld (F.FP_STAT_REV f) (min (s.fld (F.FP_CFG_REV_MAX f)) i.rev.toNat)
      let s := s.setFld (F.FP_STAT_DOWN_CAUSE f) 0
      let s := (s.setFport f { s.fport f with failed := false }).event (P.FP f) E.FP_UP
      ((s.fabUpdate).sendLocal f (.route (s.fab.rootPort == some f) (s.treeLink f) s.routeVector))
    else s

/-- TRAIN_LIMIT_EXPIRE (R338). -/
def execTrainLimitExpire (f : Fin 6) (s : State) : Host.Outcome State Fault Refusal :=
  let st := s.fpState f
  done (if st == fpAlign || st == fpEq || st == fpConfig then s.trainFails f dcTimeout else s)

/-! ### Electrical idle, loopback, QUAR and SLEEP (R335, R339, R340) -/

/-- A link word has arrived: the partner's transmit direction is out of electrical idle. -/
def State.wordSeen (s : State) (f : Nat) : State :=
  s.setFport f { s.fport f with rxIdle := false, exiting := false }

/-- OS EIOS (R339). -/
def execOsEios (f : Fin 6) (s : State) : Host.Outcome State Fault Refusal :=
  done (if s.linkUp f then s.setFport f { s.fport f with rxIdle := true, exiting := false } else s)

/-- OS FTS (R339): the exit from electrical idle is under way. -/
def execOsFts (f : Fin 6) (s : State) : Host.Outcome State Fault Refusal :=
  done (if s.linkUp f && (s.fport f).rxIdle then s.setFport f { s.fport f with exiting := true } else s)

/-- ELECTRICAL_IDLE_ENTER (R339). -/
def execElectricalIdleEnter (f : Fin 6) (s : State) : Host.Outcome State Fault Refusal :=
  let p := s.fport f
  let onDet := (List.range 256).any (fun g => (s.group g).det && (s.group g).tree.testBit f)
  done (if s.fpState f == fpActive && s.fld (F.FP_CFG_IDLE_US f) != 0 && p.queue.isEmpty && p.detq.isEmpty && !onDet then
      (s.putSet f 0x16 0 0).setFpState f fpIdle
    else s)

/-- Loopback modes of FP_LB. -/
abbrev lbFe : Nat := 3

/-- A port leaves its loopback (R340): LBK for a far-end one, and it retrains. -/
def State.loopLeave (s : State) (f : Nat) : State :=
  let s := if s.fld (F.FP_LB_MODE f) == lbFe then s.putSet f 0x19 0 0 else s
  let s := s.setFld (F.FP_LB_MODE f) 0
  s.portLeave f (if s.portAllowed f then fpDown else fpDisabled) dcLocal

/-- A write of FP_LB (R340). -/
def fpLbRule (f : Nat) (v : Word) (s : State) : WRule :=
  let m := v.toNat % 4
  { stateOk := m == 0 || s.flag (F.FP_CFG_OFFLINE f)
    eff := fun s =>
      let s := s.setFlag (F.FP_LB_PRBS_EN f) (v.getLsbD 9)
      if m = 0 then (if s.fld (F.FP_LB_MODE f) == 0 then s else s.loopLeave f)
      else
        let s := (s.setFld (F.FP_LB_MODE f) m).setFpState f fpLoopback
        if m = lbFe then
          ((s.setFport f { s.fport f with lbk := true }).setFlag (F.FP_LB_FE_REFUSED f) false).putSet f 0x19 1 0
        else s }

/-- FP_LB_WRITE (R340). -/
def execFpLbWrite (a : Agent) (f : Fin 6) (v : Word) (s : State) : Host.Outcome State Fault Refusal :=
  done (s.writeBy a .fp (P.FP f) (R.FP_LB f) (fpLbRule f v s))

/-- OS LBK (R340): the partner's answer to a request of this port, or its own request. -/
def execOsLbk (f : Fin 6) (enter : Bool) (s : State) : Host.Outcome State Fault Refusal :=
  done (if (s.fport f).lbk then (if enter then s.setFport f { s.fport f with lbk := false } else s)
    else if enter then
      (if s.linkUp f && s.flag (F.FP_CFG_FE_LB_OK f) then (s.portLeave f fpLoopback 0).putSet f 0x19 1 0 else s)
    else if s.fpState f == fpLoopback && s.fld (F.FP_LB_MODE f) == 0 then s.portLeave f fpDown dcLocal
    else s)

/-- FE_LB_TIMEOUT (R340). -/
def execFeLbTimeout (f : Fin 6) (s : State) : Host.Outcome State Fault Refusal :=
  done (if (s.fport f).lbk then
      ((s.setFport f { s.fport f with lbk := false }).setFlag (F.FP_LB_FE_REFUSED f) true).event (P.FP f) E.FP_FE_REFUSED
    else s)

/-- The partner goes to sleep or is quarantined: the port goes DOWN without a fault (13). -/
def State.peerGone (s : State) (f cause ev : Nat) : State :=
  if s.lanesLive f && s.fpState f != fpLoopback && s.fpState f != fpDown then (s.portLeave f fpDown cause).event (P.FP f) ev else s

/-- OS QUAR (R335). -/
def execOsQuar (f : Fin 6) (s : State) : Host.Outcome State Fault Refusal := done (s.peerGone f dcPeerQuar E.FP_PEER_QUAR)

/-- OS SLEEP (R335). -/
def execOsSleep (f : Fin 6) (s : State) : Host.Outcome State Fault Refusal := done (s.peerGone f dcPeerSleep E.FP_PEER_SLEEP)

/-- A port sends what waits of the deterministic class. -/
def State.detFlush (s : State) (f : Nat) : State :=
  let p := s.fport f
  p.detq.foldl (fun s m => s.put f (.det m)) (s.setFport f { p with detq := [], detTime := 0 })

/-- Ports announce with an ordered set that the part goes away, and switch their transmitters off (R332, R494). -/
def State.portsOff (s : State) (b1 : Nat) : State :=
  (List.range 6).foldl (fun s f =>
    let s := if s.linkUp f then ((s.detFlush f).putSet f b1 0 0).portLeave f fpDown dcLocal
      else if s.fpState f == fpAlign || s.fpState f == fpEq || s.fpState f == fpConfig then s.portLeave f fpDown dcLocal else s
    s.setFport f { s.fport f with off := true }) s

/-- Step 2 of a sleep entry (R494). -/
def State.portsSleep (s : State) : State := s.portsOff 0x1B

/-- Step 3 of R332 on the ports. -/
def State.portsQuar (s : State) : State := s.portsOff 0x1A

/-- Ports may train again after a wake (13). -/
def State.portsWake (s : State) : State :=
  (List.range 6).foldl (fun s f => s.setFport f { s.fport f with off := false }) s

/-- The fabric lanes lose their transmit clock (R480): every link goes down. -/
def State.srefLost (s : State) : State :=
  (List.range 6).foldl (fun s f =>
    if s.fpState f == fpDisabled || s.fpState f == fpLoopback || s.fpState f == fpDown then s else s.portLeave f fpDown dcLocal) s

/-! ### Reception and retry (R341 to R345) -/

/-- A lasting failure (R344): lane degrade from revision 1.1 on, where both attempts name one lane; else the port goes down. -/
def State.lasting (s : State) (f m1 m2 : Nat) (inj : Bool) : State :=
  let one := m1 == 1 || m1 == 2 || m1 == 4 || m1 == 8
  if decide (1 ≤ s.fld (F.FP_STAT_REV f)) && decide (1 < s.width f) && one && m1 == m2 then
    let s := (s.faultInj (P.FP f) X.FP_LANE_DEGRADE inj).event (P.FP f) E.FP_DEGRADED
    let p := s.fport f
    let s := s.setFport f { p with
      avoid := p.avoid ||| m1, tries := 0, naked := false, injected := false, txMask := 0
      replay := p.replay.map (fun x => (x.1, false, x.2.2)), locks := [], map := [] }
    let s := (s.setFld (F.FP_STAT_LANES f) 0).setFpState f fpAlign
    (s.sendTs f 0x11 0).fabUpdate
  else (s.faultInj (P.FP f) X.FP_LINK_FAIL inj).portLeave f fpDown dcLinkFail

/-- Code violations by lane (13). -/
def State.countViolations (s : State) (f m : Nat) : State :=
  ((List.range 4).filter (fun l => m.testBit l)).foldl (fun s l => s.count (R.FP_LANE_CV f l)) s

/-- An attempt at the packet expected fails (R344): one NAK, and a second failure is lasting. -/
def State.attemptFails (s : State) (f m : Nat) (inj : Bool) : State :=
  let p := s.fport f
  let s := s.put f (.control 2 p.expect m)
  if p.tries = 0 then s.setFport f { p with tries := 1, naked := true, mask := m, injected := inj }
  else s.lasting f p.mask m (inj || p.injected)

/-- Whether the next packet received is made to fail (FP_FLT_INJ), and whether a LINK_FAIL injection does so. -/
def State.rxInject (s : State) (f : Nat) : Bool × State :=
  if (s.fport f).injected && s.bit (R.xx_FLT_INJ (P.FP f)) X.FP_LINK_FAIL then (s.takeInj (P.FP f) X.FP_LINK_FAIL)
  else if s.bit (R.xx_FLT_INJ (P.FP f)) X.FP_LINK_FAIL then (true, s)
  else s.takeInj (P.FP f) X.FP_LINK_RETRY

/-- A packet arrives with its CRC good (R344, R345): accepted and acknowledged where its SEQ is the one expected, a late fragment
where it is behind, and a failed reception where it is ahead. -/
def State.rxPacket (s : State) (f : Nat) (seq : BitVec 12) (page : Bool) (act : State → State) : State :=
  if !s.wordsFlow f || (s.fport f).off then s
  else
    let s := s.wordSeen f
    let (bad, s) := s.rxInject f
    let p := s.fport f
    let ahead := (seq.toNat + 4096 - p.expect) % 4096
    if bad then s.attemptFails f 0 true
    else if ahead = 0 then
      let s := s.setFport f { p with expect := (p.expect + 1) % 4096, naked := false, tries := 0, injected := false }
      let s := if p.tries != 0 then (s.count (R.FP_RETRY f)).faultInj (P.FP f) X.FP_LINK_RETRY p.injected else s
      let s := (s.count (R.xx_BLK_COUNT (P.FP f))).put f (.control 1 seq.toNat 0)
      act (s.put f (.control 3 (if page then 2 else 1) 1))
    else if 2048 ≤ ahead then s.count (R.FP_STALE f)
    else if p.naked then s
    else s.attemptFails f 0 false

/-- BAD_PACKET (R344): a packet that fails a check; `seq` as it reads, `mask` the lanes that showed code violations. While a NAK is
out, only the packet expected counts. -/
def execBadPacket (f : Fin 6) (seq : BitVec 12) (mask : BitVec 4) (s : State) : Host.Outcome State Fault Refusal :=
  done (if !s.wordsFlow f || (s.fport f).off then s
    else
      let s := (s.wordSeen f).countViolations f mask.toNat
      if (s.fport f).naked && seq.toNat != (s.fport f).expect then s else s.attemptFails f mask.toNat false)

/-- BURST_TIMEOUT (R345): the partial packet fails one attempt. -/
def execBurstTimeout (f : Fin 6) (s : State) : Host.Outcome State Fault Refusal :=
  done (if s.wordsFlow f && !(s.fport f).off then s.attemptFails f 0 false else s)

/-- ACK (R344): the packets covered leave the replay buffer. -/
def execLcwAck (f : Fin 6) (seq : BitVec 12) (s : State) : Host.Outcome State Fault Refusal :=
  done (if !s.wordsFlow f then s
    else
      let s := s.wordSeen f
      let p := s.fport f
      let s := s.setFport f { p with replay := p.replay.filter (fun x => decide (2048 ≤ (seq.toNat + 4096 - x.1) % 4096)) }
      s.pump f p.queue.length)

/-- The transmitter resends from the oldest packet not acknowledged, each at most once (R344); `bad` is the packet that failed. -/
def State.resend (s : State) (f m : Nat) (bad : Nat → Bool) : State :=
  let p := s.fport f
  if p.replay.any (fun x => bad x.1 && x.2.1) then s.lasting f p.txMask m false
  else
    let s := s.setFport f { p with replay := p.replay.map (fun x => (x.1, true, x.2.2)), txMask := m }
    (p.replay.filter (fun x => !x.2.1)).foldl (fun s x => s.put f (.packet x.1 x.2.2)) s

/-- NAK (R344). -/
def execLcwNak (f : Fin 6) (seq : BitVec 12) (mask : BitVec 4) (s : State) : Host.Outcome State Fault Refusal :=
  done (if s.wordsFlow f then (s.wordSeen f).resend f mask.toNat (fun x => x == seq.toNat) else s)

/-- LINK_REPLAY_TIMEOUT (R344): the oldest packet not acknowledged is the one that failed. -/
def execLinkReplayTimeout (f : Fin 6) (s : State) : Host.Outcome State Fault Refusal :=
  done (match (s.fport f).replay with
    | [] => s
    | x :: _ => if s.wordsFlow f then s.resend f 0 (fun y => y == x.1) else s)

/-- CREDIT (R343). -/
def execLcwCredit (f : Fin 6) (page : Bool) (n : Byte) (s : State) : Host.Outcome State Fault Refusal :=
  done (if !s.wordsFlow f then s
    else
      let s := s.wordSeen f
      let p := s.fport f
      (s.setFport f (if page then { p with page := min 16 (p.page + n.toNat) } else { p with ctl := min 16 (p.ctl + n.toNat) })).pump f
        p.queue.length)

/-- LINK_IDLE (R341): filler. -/
def execLinkIdle (f : Fin 6) (s : State) : Host.Outcome State Fault Refusal :=
  done (if s.wordsFlow f then s.wordSeen f else s)

/-- IDLE_EXIT_TIMEOUT (R339). -/
def execIdleExitTimeout (f : Fin 6) (s : State) : Host.Outcome State Fault Refusal :=
  done (if s.linkUp f && (s.fport f).exiting then s.lasting f 0 0 false else s)

/-! ### The FP page (R366) -/

/-- A write of FP_CFG. -/
def fpCfgRule (f : Nat) (v : Word) (s : State) : WRule :=
  let off := R.FP_CFG f
  { stateOk := (s.reg off ^^^ v) &&& 0xF3FF0004 == 0 || !s.portAllowed f
    rangeOk := bitsOf v.toNat 31 28 != 0 && bitsOf v.toNat 25 24 != 3
    eff := fun s =>
      let s := s.setReg off (v &&& 0xF3FF0005)
      let s := if !v.getLsbD 0 && s.fld (F.FP_LB_MODE f) != 0 then s.loopLeave f else s
      s.portGate f }

/-- A write of an FPn page. -/
def fpRule (f off : Nat) (v : Word) (s : State) : WRule :=
  if off = R.FP_CFG f then fpCfgRule f v s
  else if off = R.FP_EQ_CFG f then
    { stateOk := !s.portAllowed f, rangeOk := decide (bitsOf v.toNat 3 0 ≤ 8) && decide (bitsOf v.toNat 12 8 ≤ 16)
      eff := fun s => s.setReg off (v &&& 0x80001F0F) }
  else if off = R.FP_LB f then fpLbRule f v s
  else if off = R.FP_TMO f then
    { rangeOk := bitsOf v.toNat 31 16 != 0 && bitsOf v.toNat 7 0 != 0, eff := fun s => s.setReg off (v &&& 0xFFFF00FF) }
  else if off = R.FP_CMD f then { eff := fun s => if v.getLsbD 0 then s.portRetrain f else s }
  else ignored

/-- FP_RETRAIN (R338). -/
def execFpRetrain (a : Agent) (f : Fin 6) (s : State) : Host.Outcome State Fault Refusal :=
  done (s.writeBy a .fp (P.FP f) (R.FP_CMD f) (fpRule f (R.FP_CMD f) 1 s))

end Sys2Proof.Machine
end

