-- ==== Sys2Proof/Machine/Host.lean ====
section
/-! DEFINITION. The host link: link and configuration space, BAR2, MSI-X table, the HIF agreement, queue pairs and their
completions, the root port (17, R426 to R447). -/

namespace Sys2Proof.Machine

open Sys2Proof

/-! ### Link and configuration space (R427 to R432) -/

/-- Stores the host link. -/
def State.setHost (s : State) (h : HostLink) : State := { s with host := h }

/-- A completion is sent on a link: its status and data. -/
def State.complete (s : State) (status : Nat) (data : List Byte) : State := s.setHost { s.host with cpl := status, data := data }

/-- An error of the endpoint that sets a bit of its Uncorrectable Error Status register (R431). -/
def State.aerUc (s : State) (b : Nat) : State := (s.setBit R.HOST_AER_UE b true).fault P.HOST X.HOST_AER_UC

/-- Bits of the Uncorrectable Error Status register: poisoned TLP, completion timeout. -/
abbrev ueTimeout : Nat := 14
abbrev uePoison : Nat := 12

/-- Fetches of HOST pages under way fail, with their repeat (R428, R430). -/
def State.hostFetchFail (s : State) : State :=
  s.pager.fetches.foldl (fun s x =>
    match x.2.1 with
    | some f =>
      if bitsOf (s.pageWords x.1).1 63 62 == 3 then (s.fetchFail x.1 f x.2.2).fetchFail x.1 f x.2.2 else s
    | none => s) s

/-- Bus-master requests stop: transfers with a host side and fetches from the host end (R428, R430). -/
def State.hostStop (s : State) : State := s.dmaHostEnd.hostFetchFail

/-- The HQ page returns to its reset values (R428). -/
def State.hqPageReset (s : State) : State :=
  { s with
    regs := sdrop (fun o => decide (P.HQ ≤ o) && decide (o < P.HQ + 0x1000)) s.regs
    host := { s.host with hqs := [], cplLo := none } }

/-- The host link returns to detection (R428). -/
def State.hostReset (s : State) : State :=
  let s := ((s.setReg R.HOST_STAT 0).setReg R.HOST_AER_CE 0).setReg R.HOST_AER_UE 0
  let s := ({ s with hic := { s.hic with msix := [] } }).setReg R.HOST_HIF_AGREED 0
  (s.hqPageReset.hostStop).event P.HOST E.HOST_LINK_DOWN

/-- HOST_LINK_RESET (R428). -/
def execHostLinkReset (s : State) : Host.Outcome State Fault Refusal := done (if s.mode == mCold then s else s.hostReset)

/-- HOST_LINK_UP (R427): training completes outside COLD, BOOT and sleep, at a width and a rate that the mode of the link allows.
-/
def execHostLinkUp (width : BitVec 4) (speed : BitVec 3) (s : State) : Host.Outcome State Fault Refusal :=
  done (if !s.responds .host || s.mode == mBoot || s.flag F.HOST_STAT_DL_UP || width == 0
        || decide ((if s.flag F.HOST_CFG_MODE then 4 else 8) < width.toNat) || speed == 0 || decide (5 < speed.toNat) then s
    else
      let s := (s.setFlag F.HOST_STAT_CFG_READY true).setFlag F.HOST_STAT_DL_UP true
      ((s.setFld F.HOST_STAT_WIDTH width.toNat).setFld F.HOST_STAT_SPEED speed.toNat).event P.HOST E.HOST_LINK_UP)

/-- The doubleword that a configuration read returns (R429). What PCI Express Base 5.0 gives and the manual does not is a free
value. -/
def State.cfgRead (s : State) (i : CfgItem) : Word × State :=
  match i with
  | .deviceId => (BitVec.ofNat 32 (0x2568 * 65536 + Config.pciVendor.toNat), s)
  | .classCode => (BitVec.ofNat 32 (0x118000 * 256 + (s.reg (R.xx_ID P.DEV)).toNat % 256), s)
  | .subsystem => (s.reg R.HOST_SUBSYS, s)
  | .command =>
    let (w, s) := s.fresh 32
    ((w &&& ~~~(4 : Word)) ||| (if s.flag F.HOST_STAT_BME then 4 else 0), s)
  | .pmcsr => (BitVec.ofNat 32 (8 + s.fld F.HOST_STAT_DSTATE), s)
  | .msixControl =>
    let (w, s) := s.fresh 16
    (BitVec.ofNat 32 ((if s.flag F.HOST_STAT_MSIX_EN then 2 ^ 31 else 0) + (if s.flag F.HOST_STAT_MSIX_FMASK then 2 ^ 30 else 0)
      + 255 * 65536 + w.toNat), s)
  | .serialLo => (s.dev.shadow.uid.setWidth 32, s)
  | .serialHi => ((s.dev.shadow.uid >>> 32).setWidth 32, s)
  | .aerCe => (s.reg R.HOST_AER_CE, s)
  | .aerUe => (s.reg R.HOST_AER_UE, s)
  | .other _ => s.fresh 32

/-- A change of D-state (R430). -/
def State.dState (s : State) (d3 : Bool) : State :=
  let d := if d3 then 3 else 0
  if s.fld F.HOST_STAT_DSTATE == d then s
  else
    let s := (s.setFld F.HOST_STAT_DSTATE d).event P.HOST E.HOST_DSTATE
    if d3 then s.hostStop else s

/-- PCIE_CONFIG_REQUEST (R427, R429, R430). -/
def execPcieConfigRequest (req : CfgRequest) (s : State) : Host.Outcome State Fault Refusal :=
  done (if s.mode == mCold || s.mode == mDoze || s.mode == mHibernate then s
    else if !s.flag F.HOST_STAT_CFG_READY then s.complete 2 []
    else
      match req with
      | .read i =>
        let (w, s) := s.cfgRead i
        s.complete 0 (leBytes 4 w.toNat)
      | .busMaster en => (s.setFlag F.HOST_STAT_BME en).complete 0 []
      | .msix en fmask => ((s.setFlag F.HOST_STAT_MSIX_EN en).setFlag F.HOST_STAT_MSIX_FMASK fmask).complete 0 []
      | .power d3 => (s.dState d3).complete 0 []
      | .clearCe b => (s.clrReg R.HOST_AER_CE b).complete 0 []
      | .clearUe b => (s.clrReg R.HOST_AER_UE b).complete 0 []
      | .otherWrite _ _ => s.complete 0 [])

/-- Memory requests of the host are taken: the link is up and the part is awake (R430). -/
def State.hostTakes (s : State) : Bool :=
  s.flag F.HOST_STAT_DL_UP && s.mode != mCold && s.mode != mDoze && s.mode != mHibernate

/-! ### BAR2 (R433, R434, R436) -/

/-- The parts of a BAR2 request: offset and length in each segment. -/
def bar2Parts (o n : Nat) : List (Nat × Nat) :=
  let k := min n (2 ^ 32 - o % 2 ^ 32)
  ((o, k) :: (if n = k then [] else [(o + k, n - k)])).filter (fun x => decide (x.1 < 2 ^ 36))

/-- The DRAM address that a part of a BAR2 request reaches. -/
def State.bar2Addr (s : State) (o n : Nat) : Option Nat :=
  let g := o / 2 ^ 32
  let a := s.fld (F.HOST_SEG_FRAME g) * 2 ^ 21 + o % 2 ^ 32
  if s.mode != mQuarantine && s.flag (F.HOST_SEG_EN g) && decide (a + n ≤ s.installed) then some a else none

/-- An aborted BAR2 request. -/
def State.bar2Abort (s : State) (o : Nat) : State :=
  ((s.count R.HOST_BAR2_ABORT).setReg64 R.HOST_BAR2_LAST_LO R.HOST_BAR2_LAST_HI (BitVec.ofNat 64 o)).event P.HOST
    E.HOST_BAR2_ABORT

/-- A part of a BAR2 read: a completion status worse than the one so far, and data. -/
def State.bar2Read (s : State) (x : Nat × Nat) (chk : ReadCheck) : State :=
  match s.bar2Addr x.1 x.2 with
  | none => (s.bar2Abort x.1).setHost { (s.bar2Abort x.1).host with cpl := 4 }
  | some a =>
    let s := s.count (R.xx_BLK_COUNT P.HOST)
    let n := (s.dramPlace a).1
    let s := s.srExit n
    let bad := s.rangeDown a x.2 || (s.injectRead n chk).1 == .lasting
    let d := s.memBytes a x.2
    let s := if s.chState n == chFaulted then s else s.readCheck n a chk
    s.setHost { s.host with
      data := s.host.data ++ d
      cpl := if s.host.cpl == 0 && bad then 5 else s.host.cpl }

/-- BAR2_READ (R434): completes with the data, with Completer Abort, or with poisoned data; `chk` is what the check of the first
word of each part finds. -/
def execBar2Read (off : BitVec 36) (len : Fin 4097) (chk : ReadCheck) (s : State) : Host.Outcome State Fault Refusal :=
  done (if !s.hostTakes then s
    else if s.fld F.HOST_STAT_DSTATE != 0 then s.complete 1 []
    else (bar2Parts off.toNat len.val).foldl (fun s x => s.bar2Read x chk) (s.complete 0 []))

/-- A part of a BAR2 write. -/
def State.bar2Write (s : State) (o : Nat) (l : List Byte) : State :=
  match s.bar2Addr o l.length with
  | none => s.bar2Abort o
  | some a =>
    let s := (s.count (R.xx_BLK_COUNT P.HOST)).srExit (s.dramPlace a).1
    if s.writeFails a l.length then s.writeFail .host else s.setMem a l

/-- BAR2_WRITE (R434): reaches DRAM, or is dropped. -/
def execBar2Write (off : BitVec 36) (data : List Byte) (poisoned : Bool) (s : State) : Host.Outcome State Fault Refusal :=
  done (if !s.hostTakes || s.fld F.HOST_STAT_DSTATE != 0 then s
    else if poisoned then s.aerUc uePoison
    else (bar2Parts off.toNat data.length).foldl (fun s x =>
      s.bar2Write x.1 ((data.drop (x.1 - off.toNat)).take x.2)) s)

/-! ### The MSI-X table (R322, R429) -/

/-- A doubleword of an entry is written. -/
def MsixEntry.write (e : MsixEntry) (d : Nat) (v : Word) : MsixEntry :=
  if d = 0 then { e with addr := BitVec.ofNat 64 (e.addr.toNat / 2 ^ 32 * 2 ^ 32 + v.toNat) }
  else if d = 1 then { e with addr := BitVec.ofNat 64 (v.toNat * 2 ^ 32 + e.addr.toNat % 2 ^ 32) }
  else if d = 2 then { e with data := v }
  else { e with masked := v.getLsbD 0 }

/-- MSIX_TABLE_WRITE (R322): a message that the mask has held goes out. -/
def execMsixTableWrite (off : BitVec 12) (v : Word) (s : State) : Host.Outcome State Fault Refusal :=
  let i := off.toNat / 16
  done (if !s.hostTakes || s.fld F.HOST_STAT_DSTATE != 0 then s
    else
      let was := (s.msixEntry i).masked
      let s := { s with hic := { s.hic with
        msix := sset MsixEntry.init s.hic.msix i ((s.msixEntry i).write (off.toNat / 4 % 4) v) } }
      if was && s.msixReady i then s.msixIssue i else s)

/-! ### The HIF agreement (R438) -/

/-- The version that an offer agrees on. -/
def hifAgree (lo hi : Nat) : Option Nat := ([0x200, 0x101, 0x100] : List Nat).find? (fun x => decide (lo ≤ x) && decide (x ≤ hi))

/-- A queue pair is enabled. -/
def State.hqEnabled (s : State) (q : Nat) : Bool := s.flag (F.HQ_Q_CFG_EN q)

/-- Any queue pair is enabled. -/
def State.hqAnyEnabled (s : State) : Bool := (List.range 16).any s.hqEnabled

/-- The effect of an accepted offer. -/
def State.hifOffer (s : State) (v : Word) : State :=
  let s := s.setReg R.HOST_HIF_OFFER v
  let s := s.setReg R.HOST_HIF_AGREED (match hifAgree (v.toNat % 65536) (v.toNat / 65536) with
    | some x => BitVec.ofNat 32 (2 ^ 31 + x)
    | none => BitVec.ofNat 32 (2 ^ 30))
  s.event P.HOST E.HOST_HIF

/-! ### Writes of the HOST page (17) -/

/-- OP codes of HOST_RP_CMD (R446). -/
abbrev rpCfgRd : Nat := 1
abbrev rpCfgWr : Nat := 2
abbrev rpMemRd : Nat := 3
abbrev rpMemWr : Nat := 4

/-- The agents that drive the root port. -/
def drivesRp (a : Agent) : Bool := agentClass a == 0 || agentClass a == 2

/-- A write of the HOST page. -/
def hostRule (a : Agent) (off : Nat) (v : Word) (s : State) : WRule :=
  if off = R.HOST_CFG then { agentOk := a == .mgmt, stateOk := s.mode == mBoot, eff := fun s => s.setReg off (v &&& 1) }
  else if off = R.HOST_SUBSYS then { agentOk := a == .mgmt, stateOk := s.mode == mBoot, eff := fun s => s.setReg off v }
  else if off = R.HOST_HIF_OFFER then
    { stateOk := !s.hqAnyEnabled, rangeOk := decide (v.toNat % 65536 ≤ v.toNat / 65536), eff := fun s => s.hifOffer v }
  else if off = R.HOST_ADDR_BITS then
    { rangeOk := decide (32 ≤ v.toNat % 128) && decide (v.toNat % 128 ≤ 64), eff := fun s => s.setReg off (v &&& 0x7F) }
  else if R.HOST_SEG 0 ≤ off ∧ off < R.HOST_SEG 16 then { eff := fun s => s.setReg off (v &&& 0x8003FFFF) }
  else if off = R.HOST_RP_CTRL then
    { agentOk := drivesRp a, stateOk := s.flag F.HOST_CFG_MODE
      eff := fun s => s.setReg off ((s.reg off &&& 2) ||| (v &&& 3)) }
  else if off = R.HOST_RP_ADDR_LO ∨ off = R.HOST_RP_ADDR_HI ∨ off = R.HOST_RP_WDATA ∨ off = R.HOST_RP_MSI_ADDR_HI then
    { eff := fun s => s.setReg off v }
  else if off = R.HOST_RP_CMD then
    let op := bitsOf v.toNat 31 28
    { agentOk := drivesRp a, stateOk := s.flag F.HOST_CFG_MODE && !s.flag F.HOST_RP_RES_BUSY
      rangeOk := decide (1 ≤ op) && decide (op ≤ 4)
      eff := fun s => (s.setFlag F.HOST_RP_RES_BUSY true).setHost { s.host with rp := some op } }
  else if off = R.HOST_RP_MSI_ADDR_LO then { eff := fun s => s.setReg off (v &&& 0xFFFFFFFC) }
  else ignored

/-- HIF_OFFER (R438). -/
def execHifOffer (a : Agent) (v : Word) (s : State) : Host.Outcome State Fault Refusal :=
  done (s.writeBy a .hostp P.HOST R.HOST_HIF_OFFER (hostRule a R.HOST_HIF_OFFER v s))

/-! ### The root port (R446) -/

/-- A write of HOST_RP_CMD. -/
def State.rpCommand (s : State) (a : Agent) (op : Nat) (be : BitVec 4) : State :=
  s.writeBy a .hostp P.HOST R.HOST_RP_CMD (hostRule a R.HOST_RP_CMD (BitVec.ofNat 32 (op * 2 ^ 28 + be.toNat)) s)

/-- RP_CFG_RD (R446). -/
def execRpCfgRd (a : Agent) (be : BitVec 4) (s : State) : Host.Outcome State Fault Refusal := done (s.rpCommand a rpCfgRd be)

/-- RP_CFG_WR (R446). -/
def execRpCfgWr (a : Agent) (be : BitVec 4) (s : State) : Host.Outcome State Fault Refusal := done (s.rpCommand a rpCfgWr be)

/-- RP_MEM_RD (R446). -/
def execRpMemRd (a : Agent) (be : BitVec 4) (s : State) : Host.Outcome State Fault Refusal := done (s.rpCommand a rpMemRd be)

/-- RP_MEM_WR (R446). -/
def execRpMemWr (a : Agent) (be : BitVec 4) (s : State) : Host.Outcome State Fault Refusal := done (s.rpCommand a rpMemWr be)

/-- HOST_RP_RES.RESULT. -/
def rpResult (r : BusResult) (crs : Bool) : Nat :=
  if crs then 4
  else match r with
    | .data _ => 0 | .unsupported => 1 | .abort => 2 | .timeout => 3 | .poisoned => 5

/-- RP_CMD_DONE (R446): read data arrive with an OK; a timeout and a poisoned completion are errors of the root port (R431). -/
def execRpCmdDone (res : BusResult) (crs : Bool) (s : State) : Host.Outcome State Fault Refusal :=
  done (match s.host.rp with
    | none => s
    | some op =>
      let r := rpResult res crs
      let s := (s.setHost { s.host with rp := none }).setReg R.HOST_RP_RES (BitVec.ofNat 32 (r * 2 ^ 28))
      let s := if r == 3 || r == 5 then s.fault P.HOST X.HOST_RP_UC else s
      match res with
      | .data l => if (op == rpCfgRd || op == rpMemRd) && !crs then s.setReg R.HOST_RP_RDATA (BitVec.ofNat 32 (leNat (l.take 4))) else s
      | _ => s)

/-- The root port exists and its link is up. -/
def State.rpUp (s : State) : Bool := s.flag F.HOST_CFG_MODE && s.flag F.HOST_RP_STAT_DL_UP

/-- RP_INBOUND_REQUEST (R446). -/
def execRpInboundRequest (addr : BitVec 64) (req : RpRequest) (s : State) : Host.Outcome State Fault Refusal :=
  let a := addr.toNat
  done (if !s.rpUp then s
    else
      match req with
      | .read n =>
        if a + n.val ≤ s.installed then
          (s.srExit (s.dramPlace a).1).complete (if s.rangeDown a n.val then 5 else 0) (s.memBytes a n.val)
        else s.complete 1 []
      | .write l =>
        if a + l.length ≤ s.installed then
          let s := s.srExit (s.dramPlace a).1
          if s.writeFails a l.length then s.writeFail .host else s.setMem a l
        else if addr == s.reg64 R.HOST_RP_MSI_ADDR_LO R.HOST_RP_MSI_ADDR_HI then
          let s := s.setFld F.HOST_RP_MSI_COUNT (min 0xFFFF (s.fld F.HOST_RP_MSI_COUNT + 1))
          (s.setFld F.HOST_RP_MSI_DATA (leNat (l.take 2))).event P.HOST E.HOST_RP_MSI
        else s.complete 1 [])

/-- RP_RETRAIN (R446): RETRAIN reads 1 until the link changes. -/
def execRpRetrain (a : Agent) (s : State) : Host.Outcome State Fault Refusal :=
  done (s.writeBy a .hostp P.HOST R.HOST_RP_CTRL (hostRule a R.HOST_RP_CTRL ((s.reg R.HOST_RP_CTRL &&& 1) ||| 2) s))

/-- RP_LINK_CHANGE (R446). -/
def execRpLinkChange (up : Bool) (width : BitVec 4) (speed : BitVec 3) (s : State) : Host.Outcome State Fault Refusal :=
  done (if !s.flag F.HOST_CFG_MODE then s
    else
      let s := s.setReg R.HOST_RP_STAT (if up then BitVec.ofNat 32 (2 ^ 31 + width.toNat * 2 ^ 27 + speed.toNat * 2 ^ 24) else 0)
      (s.setFlag F.HOST_RP_CTRL_RETRAIN false).event P.HOST E.HOST_RP_LINK)

/-! ### Completions for DMA channels (R432) -/

/-- BUS_MASTER_COMPLETION (R432): data for a channel that reads from the host, or the end of its transfer. -/
def execBusMasterCompletion (ch : Fin 32) (res : BusResult) (s : State) : Host.Outcome State Fault Refusal :=
  done (if !s.dmaActive ch.val || (s.dmaSrc ch.val).space != spHost then s
    else
      match res with
      | .data l => State.dmaRun ch.val (l.length + 1) l none s
      | .timeout => (s.aerUc ueTimeout).dmaEnd ch.val dmaHostErr
      | .poisoned => (s.aerUc uePoison).dmaEnd ch.val dmaHostErr
      | _ => s.dmaEnd ch.val dmaHostErr)

/-! ### Queue pairs (R439 to R445) -/

/-- HQ_Q_STAT.STATE codes. -/
abbrev hqOff : Nat := 0
abbrev hqRun : Nat := 1
abbrev hqStopping : Nat := 2
abbrev hqError : Nat := 3
abbrev hqQuar : Nat := 4

/-- STATUS codes of R442. -/
abbrev hsOk : Nat := 0
abbrev hsBadOpcode : Nat := 1
abbrev hsBadField : Nat := 2
abbrev hsRejected : Nat := 3
abbrev hsXferErr : Nat := 4
abbrev hsBusy : Nat := 5
abbrev hsQuar : Nat := 6
abbrev hsFetchErr : Nat := 7

/-- The state behind a queue pair. -/
def State.hq (s : State) (q : Nat) : HostQ := sget HostQ.init s.host.hqs q

/-- Stores the state behind a queue pair. -/
def State.setHq (s : State) (q : Nat) (x : HostQ) : State := s.setHost { s.host with hqs := sset HostQ.init s.host.hqs q x }

/-- The state of a queue pair. -/
def State.hqState (s : State) (q : Nat) : Nat := s.fld (F.HQ_Q_STAT_STATE q)

/-- The agreed HIF version. -/
def State.hifVersion (s : State) : Nat := s.fld F.HOST_HIF_AGREED_VERSION

/-- Byte `i` and the `n` bytes from byte `i` of a command. -/
def cmdNat (c : BitVec 512) (i n : Nat) : Nat := bitsOf c.toNat (8 * i + 8 * n - 1) (8 * i)

/-- The host address of a command of the submission queue. -/
def State.sqAddr (s : State) (q : Nat) : Nat :=
  (s.reg64 (R.HQ_Q_SQ_LO q) (R.HQ_Q_SQ_HI q)).toNat + 64 * s.fld (F.HQ_Q_STAT_SQ_HEAD q)

/-- Completion entries that are free (R443). -/
def State.cqFree (s : State) (q : Nat) : Nat :=
  let n := s.fld (F.HQ_Q_SIZE_CQ_SIZE q)
  let x := s.hq q
  n - 1 - (s.fld (F.HQ_Q_STAT_CQ_TAIL q) + n - s.fld (F.HQ_CQ_HEAD_HEAD q)) % max 1 n
    - ((if x.cmd.isSome then 1 else 0) + x.out.length + x.fw.length)

/-- A queue enters ERROR (R445). -/
def State.hqFail (s : State) (q b : Nat) (inj : Bool) : State :=
  ((s.faultInj P.HQ b inj).setFld (F.HQ_Q_STAT_STATE q) hqError).event P.HQ E.HQ_QERR

/-- A stopping queue with nothing in execution and nothing to post is OFF (R445). -/
def State.hqSettle (s : State) (q : Nat) : State :=
  if s.hqState q == hqStopping && (s.hq q).cmd.isNone && (s.hq q).out.isEmpty then s.setFld (F.HQ_Q_STAT_STATE q) hqOff else s

/-- A write of the queue engine to host memory (R432, R445): an address out of reach or an injection fails it. -/
def State.hqWrite (s : State) (q a : Nat) (l : List Byte) : Bool × State :=
  match s.takeInj P.HQ X.HQ_POST_ERR with
  | (true, s) => (false, s.hqFail q X.HQ_POST_ERR true)
  | (false, s) =>
    if s.hostReach (a + l.length - 1) then (true, { s with hostOut := s.hostOut ++ [⟨BitVec.ofNat 64 a, l⟩] })
    else (false, s.hqFail q X.HQ_POST_ERR false)

/-- The bytes of a completion entry (R442). -/
def State.cqEntry (s : State) (q cid status : Nat) (result : BitVec 64) : List Byte :=
  leBytes 2 cid ++ [BitVec.ofNat 8 status, if s.flag (F.HQ_Q_STAT_PHASE q) then 1 else 0]
    ++ leBytes 2 (s.fld (F.HQ_Q_STAT_SQ_HEAD q)) ++ leBytes 2 (if s.hifVersion < 0x200 then 0 else q)
    ++ leBytes 8 result.toNat

/-- Posts a completion (R442). -/
def State.hqPost (s : State) (q cid status : Nat) (result : BitVec 64) : State :=
  let tail := s.fld (F.HQ_Q_STAT_CQ_TAIL q)
  let a := (s.reg64 (R.HQ_Q_CQ_LO q) (R.HQ_Q_CQ_HI q)).toNat + 16 * tail
  match s.hqWrite q a (s.cqEntry q cid status result) with
  | (false, s) => s
  | (true, s) =>
    let wraps := tail + 1 == s.fld (F.HQ_Q_SIZE_CQ_SIZE q)
    let s := s.setFld (F.HQ_Q_STAT_CQ_TAIL q) (if wraps then 0 else tail + 1)
    let s := if wraps then s.setFlag (F.HQ_Q_STAT_PHASE q) (!s.flag (F.HQ_Q_STAT_PHASE q)) else s
    ((s.count (R.HQ_Q_DONE q)).count (R.xx_BLK_COUNT P.HQ)).event P.HQ (E.HQ_CPL q)

/-- COMMAND_FETCH (R443, R445): a RUN queue with a submitted command, none in execution and a free completion entry fetches it.
While Bus Master Enable is 0, in D3hot and during a sleep entry it waits. -/
def execCommandFetch (q : Fin 16) (cmd : Option (BitVec 512)) (s : State) : Host.Outcome State Fault Refusal :=
  let n := q.val
  let head := s.fld (F.HQ_Q_STAT_SQ_HEAD n)
  done (if s.hqState n != hqRun || (s.hq n).cmd.isSome || head == s.fld (F.HQ_SQ_TAIL_TAIL n) || s.cqFree n == 0
        || !s.busMaster || s.dev.sleep.target != 0 then s
    else
      match s.takeInj P.HQ X.HQ_FETCH_ERR with
      | (inj, s) =>
        match (if inj || !s.hostReach (s.sqAddr n + 63) then none else cmd) with
        | none =>
          match s.fresh 64 with
          | (r, s) => (s.hqPost n 0xFFFF hsFetchErr r).hqFail n X.HQ_FETCH_ERR inj
        | some c =>
          (s.setHq n { s.hq n with cmd := some c, started := false }).setFld (F.HQ_Q_STAT_SQ_HEAD n)
            (if head + 1 == s.fld (F.HQ_Q_SIZE_SQ_SIZE n) then 0 else head + 1))

/-- COMPLETION_POST (R442, R443): the oldest completion that waits is posted. -/
def execCompletionPost (q : Fin 16) (s : State) : Host.Outcome State Fault Refusal :=
  let n := q.val
  done (if (s.hqState n != hqRun && s.hqState n != hqStopping) || !s.busMaster then s
    else
      match (s.hq n).out with
      | [] => s
      | (cid, st, r) :: t => ((s.setHq n { s.hq n with out := t }).hqPost n cid st r).hqSettle n)

/-- The command in execution ends with a STATUS and a RESULT; its completion waits to be posted. -/
def State.hqEnd (s : State) (q status : Nat) (result : BitVec 64) : State :=
  match (s.hq q).cmd with
  | none => s
  | some c => s.setHq q { s.hq q with cmd := none, started := false, out := (s.hq q).out ++ [(cmdNat c 0 2, status, result)] }

/-- A command ends with a STATUS whose RESULT the manual does not state: a free value. -/
def State.hqFree (s : State) (q status : Nat) : State :=
  match s.fresh 64 with
  | (r, s) => s.hqEnd q status r

/-- What is to be done with a fetched command (R438, R441, R443): BAD_OPCODE, BAD_FIELD for a FENCE that the version lacks, a
wait for its FENCE, or its own action. -/
inductive HqAction where
  | badOpcode | badField | wait | run
  deriving DecidableEq, Repr

/-- The action of a fetched command. -/
def State.hqAction (s : State) (q : Nat) (c : BitVec 512) : HqAction :=
  let op := cmdNat c 2 1
  let fence := c.getLsbD 24
  if 5 ≤ op || (op == 3 && decide (s.hifVersion < 0x101)) then .badOpcode
  else if fence && decide (s.hifVersion < 0x101) then .badField
  else if fence && !(s.hq q).fw.isEmpty then .wait
  else .run

/-- The fetched command of a queue, where it is of an opcode and its queue executes. -/
def State.hqCommand (s : State) (q op : Nat) : Option (BitVec 512) :=
  if s.hqState q == hqRun || s.hqState q == hqStopping then (s.hq q).cmd.filter (fun c => cmdNat c 2 1 == op) else none

/-- Executes a fetched command of an opcode by `act`, under the checks that all share. -/
def State.hqExec (s : State) (q op : Nat) (act : BitVec 512 → State → State) : State :=
  match s.hqCommand q op with
  | none => s
  | some c =>
    match s.hqAction q c with
    | .badOpcode => s.hqEnd q hsBadOpcode 0
    | .badField => if op < 3 then s.hqEnd q hsBadField 0 else s.hqFree q hsBadField
    | .wait => s
    | .run => act c s

/-- HQ_NOP (R441). -/
def execHqNop (q : Fin 16) (s : State) : Host.Outcome State Fault Refusal :=
  done (s.hqExec q.val 0 (fun _ s => s.hqEnd q.val hsOk 0))

/-- BAD_OPCODE (R441). -/
def execHqBadOpcode (q : Fin 16) (s : State) : Host.Outcome State Fault Refusal :=
  done (match (if s.hqState q.val == hqRun || s.hqState q.val == hqStopping then (s.hq q.val).cmd else none) with
    | some c => if s.hqAction q.val c == .badOpcode then s.hqEnd q.val hsBadOpcode 0 else s
    | none => s)

/-- The level of the firmware ring (R444). -/
def State.fwLevel (s : State) : Nat := (s.reg R.HQ_FW_WR - s.reg R.HQ_FW_RD).toNat % 32768

/-- FW (R444): the command is placed in the ring with its queue number in byte 4; the queue waits while the ring is full. -/
def execHqFw (q : Fin 16) (s : State) : Host.Outcome State Fault Refusal :=
  done (s.hqExec q.val 4 (fun c s =>
    if !s.flag F.HQ_FW_RING_EN then s.hqFree q.val hsBadField
    else if 32767 ≤ s.fwLevel then s
    else
      let a := s.fld F.HQ_FW_RING_FRAME * 2 ^ 21 + (s.reg R.HQ_FW_WR).toNat % 32768 * 64
      let l := leBytes 64 (putBits c.toNat 39 32 q.val)
      let s := if s.writeFails a 64 then s.writeFail .host else s.setMem a l
      let s := (s.setReg R.HQ_FW_WR (s.reg R.HQ_FW_WR + 1))
      let s := s.raiseTo R.HQ_FW_MAX s.fwLevel
      let x := s.hq q.val
      (s.setHq q.val { x with cmd := none, fw := x.fw ++ [cmdNat c 0 2] }).event P.HQ E.HQ_FW_CMD))

/-- Removes the oldest occurrence. -/
def dropFirst (x : Nat) : List Nat → List Nat
  | [] => []
  | y :: t => if x = y then t else y :: dropFirst x t

/-- A write of HQ_FW_CPL_HI (R444): the oldest outstanding command with the CID is completed. -/
def fwCplRule (a : Agent) (v : Word) (s : State) : WRule :=
  let q := bitsOf v.toNat 31 28
  let st := bitsOf v.toNat 23 16
  let cid := bitsOf v.toNat 15 0
  { orderOk := (s.host.cplLo.map Prod.fst) == some a.ident
    stateOk := s.hqState q == hqRun && (s.hq q).fw.contains cid
    rangeOk := st == 0 || decide (0x80 ≤ st)
    eff := fun s =>
      let lo := (s.host.cplLo.map Prod.snd).getD 0
      let s := s.setHost { s.host with cplLo := none }
      let s := s.setHq q { s.hq q with fw := dropFirst cid (s.hq q).fw }
      if s.busMaster then s.hqPost q cid st (lo.setWidth 64)
      else s.setHq q { s.hq q with out := (s.hq q).out ++ [(cid, st, lo.setWidth 64)] }
    refused := fun _ s => s.setHost { s.host with cplLo := none } }

/-- The conditions of R447 for a write that sets EN. -/
def State.hqMayEnable (s : State) (q : Nat) (v : Word) : Bool :=
  s.hqState q == hqOff && s.flag F.HOST_HIF_AGREED_VALID && (decide (q < 4) || decide (0x200 ≤ s.hifVersion))
    && !(v.getLsbD 21 && (List.range 16).any (fun p => p != q && s.hqEnabled p && s.flag (F.HQ_Q_CFG_DMA_EN p)
      && s.fld (F.HQ_Q_CFG_DMA_CH p) == bitsOf v.toNat 20 16))
    && s.mode != mQuarantine

/-- A queue leaves its state for EN = 0 (R445): a RUN queue discards what it has not started and its outstanding FW commands. -/
def State.hqDisable (s : State) (q : Nat) : State :=
  let x := s.hq q
  if s.hqState q == hqRun then
    let idle : Bool := match x.cmd with
      | some c => !x.started && (s.hqAction q c == .wait || cmdNat c 2 1 == 4)
      | none => true
    ((s.setHq q { x with fw := [], cmd := if idle then none else x.cmd }).setFld (F.HQ_Q_STAT_STATE q) hqStopping).hqSettle q
  else if s.hqState q == hqStopping then s
  else (s.setHq q HostQ.init).setFld (F.HQ_Q_STAT_STATE q) hqOff

/-- A queue is enabled (R439). -/
def State.hqStart (s : State) (q : Nat) : State :=
  let s := (s.setHq q HostQ.init).setReg (R.HQ_Q_STAT q) (BitVec.ofNat 32 (hqRun * 2 ^ 28 + 2 ^ 27))
  (s.setReg (R.HQ_SQ_TAIL q) 0).setReg (R.HQ_CQ_HEAD q) 0

/-- A write of HQ_Q_CFG (R445, R447). -/
def hqCfgRule (q : Nat) (v : Word) (s : State) : WRule :=
  let off := R.HQ_Q_CFG q
  let was := s.hqEnabled q
  let same := (s.reg off ^^^ v) &&& 0x003F0000 == 0
  { stateOk := if v.getLsbD 31 then !was && s.hqMayEnable q v else (s.hqState q == hqOff || same)
    eff := fun s =>
      let s := s.setReg off (v &&& 0x803F0000)
      if v.getLsbD 31 then s.hqStart q else if was then s.hqDisable q else s }

/-- A write of the HQ page (17). -/
def hqRule (a : Agent) (off : Nat) (v : Word) (s : State) : WRule :=
  if off = R.HQ_FW_RING then { stateOk := !s.hqAnyEnabled, eff := fun s => s.setReg off (v &&& 0x8003FFFF) }
  else if off = R.HQ_FW_RD then
    { rangeOk := !(s.reg R.HQ_FW_WR - v).msb, eff := fun s => s.setReg off v }
  else if off = R.HQ_FW_CPL_LO then { eff := fun s => s.setHost { s.host with cplLo := some (a.ident, v) } }
  else if off = R.HQ_FW_CPL_HI then fwCplRule a v s
  else if R.HQ_Q_CFG 0 ≤ off ∧ off < R.HQ_Q_CFG 16 then
    let q := (off - R.HQ_Q_CFG 0) / 0x40
    let idle : Bool := s.hqState q == hqOff
    let size := fun (n : Nat) => decide (2 ≤ n) && decide (n ≤ 4096)
    if off = R.HQ_Q_CFG q then hqCfgRule q v s
    else if off = R.HQ_Q_SIZE q then
      { stateOk := idle, rangeOk := size (v.toNat / 65536) && size (v.toNat % 65536), eff := fun s => s.setReg off v }
    else if off = R.HQ_Q_SQ_LO q then { stateOk := idle, eff := fun s => s.setReg off (v &&& 0xFFFFFFC0) }
    else if off = R.HQ_Q_CQ_LO q then { stateOk := idle, eff := fun s => s.setReg off (v &&& 0xFFFFFFF0) }
    else if off = R.HQ_Q_SQ_HI q ∨ off = R.HQ_Q_CQ_HI q then { stateOk := idle, eff := fun s => s.setReg off v }
    else ignored
  else if R.HQ_SQ_TAIL 0 ≤ off ∧ off < R.HQ_SQ_TAIL 16 then
    let q := (off - R.HQ_SQ_TAIL 0) / 8
    { stateOk := s.hqState q == hqRun
      rangeOk := decide (v.toNat % 4096 < (if off = R.HQ_SQ_TAIL q then s.fld (F.HQ_Q_SIZE_SQ_SIZE q)
        else s.fld (F.HQ_Q_SIZE_CQ_SIZE q)))
      eff := fun s => s.setReg off (v &&& 0xFFF) }
  else ignored

/-- Registers of the HQ page that show state other than a stored word. -/
def State.hqRead (s : State) (off : Nat) : Option Word :=
  if R.HQ_Q_CFG 0 ≤ off ∧ off < R.HQ_Q_CFG 16 then
    let q := (off - R.HQ_Q_CFG 0) / 0x40
    if off = R.HQ_Q_FWOUT q then some (BitVec.ofNat 32 (s.hq q).fw.length) else none
  else none

/-- A write of the HQ page by an agent. -/
def State.hqWriteReg (s : State) (a : Agent) (off : Nat) (v : Word) : State := s.writeBy a .hq P.HQ off (hqRule a off v s)

/-- SQ_TAIL_DOORBELL (R439). -/
def execSqTailDoorbell (a : Agent) (q : Fin 16) (v : Word) (s : State) : Host.Outcome State Fault Refusal :=
  done (s.hqWriteReg a (R.HQ_SQ_TAIL q.val) v)

/-- CQ_HEAD_DOORBELL (R439). -/
def execCqHeadDoorbell (a : Agent) (q : Fin 16) (v : Word) (s : State) : Host.Outcome State Fault Refusal :=
  done (s.hqWriteReg a (R.HQ_CQ_HEAD q.val) v)

/-- FW_CPL (R444). -/
def execFwCpl (a : Agent) (hi : Word) (s : State) : Host.Outcome State Fault Refusal := done (s.hqWriteReg a R.HQ_FW_CPL_HI hi)

/-- HQ_QUEUE_ENABLE (R447): HQ_Q_CFG is written with EN set. -/
def execHqQueueEnable (a : Agent) (q : Fin 16) (v : Word) (s : State) : Host.Outcome State Fault Refusal :=
  done (s.hqWriteReg a (R.HQ_Q_CFG q.val) (v ||| 0x80000000))

/-- HQ_QUEUE_DISABLE (R445): HQ_Q_CFG is written with EN clear and its other fields as they are. -/
def execHqQueueDisable (a : Agent) (q : Fin 16) (s : State) : Host.Outcome State Fault Refusal :=
  done (s.hqWriteReg a (R.HQ_Q_CFG q.val) (s.reg (R.HQ_Q_CFG q.val) &&& 0x7FFFFFFF))

/-- QUARANTINE entry ends every queue pair (R332, R445): completions that wait are posted, the command in execution with STATUS
QUAR. -/
def State.hqQuarantine (s : State) : State :=
  (List.range 16).foldl (fun s q =>
    if s.hqState q == hqRun || s.hqState q == hqStopping then
      let s := if (s.hq q).cmd.isSome then s.hqFree q hsQuar else s
      let l := (s.hq q).out
      let s := s.setHq q { s.hq q with out := [] }
      (l.foldl (fun s x => s.hqPost q x.1 x.2.1 x.2.2) s).setFld (F.HQ_Q_STAT_STATE q) hqQuar
    else s) s

end Sys2Proof.Machine
end

