-- ==== Sys2Proof/Machine/Net.lean ====
section
/-! DEFINITION. The fabric network: packets, discovery, addresses, register messages as their sender sees them, page service, time
exchanges, messages of the deterministic class, span slots, fabric triggers (13, R348 to R364, R367). -/

namespace Sys2Proof.Machine

open Sys2Proof

/-- Changes the fabric's own state. -/
def State.fabUpd (s : State) (f : Fab → Fab) : State := { s with fab := f s.fab }

/-! ### Time exchanges (R348, R364) -/

/-- TIME_EXCHANGE (R364): on an ACTIVE link this end departs its TSX, stamped with the present time. -/
def execTimeExchange (p : Fin 6) (s : State) : Host.Outcome State Fault Refusal :=
  done (if s.linkUp p.val then (s.linkWake p.val).exchangeStart p.val else s)

/-- OS TSX (R364): the answer to this end's exchange is stamped, or the partner's is stamped and answered with its stamps. -/
def execOsTsx (f : Fin 6) (num : Byte) (s : State) : Host.Outcome State Fault Refusal :=
  let p := f.val
  done (if !s.wordsFlow p then s
    else
      match (sget none s.time.exch p) with
      | some x =>
        if x.arrive.isNone && (s.fport p).tsx == num.toNat then
          s.setTime { s.time with exch := sset none s.time.exch p (some { x with arrive := some s.now }) }
        else (s.put p (.set 0 0x18 num.toNat 0)).sendLocal p (.tsync s.now s.now)
      | none => (s.put p (.set 0 0x18 num.toNat 0)).sendLocal p (.tsync s.now s.now))

/-- The channel delay and the hop weight of a port (R348, R364); `d2` is twice the delay in 1/256 ns. -/
def State.setDelay (s : State) (f : Nat) (d2 : Int) : State :=
  let ps := (roundDiv (d2 * 1000) 512).toNat
  let w := 1 + (ps - 10000 + 39999) / 40000
  (s.setFld (F.FP_DELAY_DELAY_PS f) (min ps 0xFFFFFF)).setFld (F.FP_DELAY_WEIGHT f) (min w 31)

/-- TSYNC (R364): the exchange is complete; the delay, the hop weight and the servo follow. -/
def execPktTsync (f : Fin 6) (seq : BitVec 12) (t2 t3 : BitVec 64) (s : State) : Host.Outcome State Fault Refusal :=
  done (s.rxPacket f seq false (fun s =>
    match sget none s.time.exch f.val with
    | some ⟨d, dd, some a⟩ =>
      let s := s.setTime { s.time with exch := sset none s.time.exch f.val none }
      let s := s.setDelay f (exchangeDelay d t2 t3 a)
      let s := (s.setFport f { s.fport f with measured := true }).exchangeDone f d t2 t3 a dd
      (s.configCheck f).fabUpdate
    | _ => s))

/-! ### Discovery and routes (R349, R350, R352, R353) -/

/-- LINKINFO (R349). -/
def execPktLinkinfo (f : Fin 6) (seq : BitVec 12) (info : LinkInfo) (s : State) : Host.Outcome State Fault Refusal :=
  done (s.rxPacket f seq false (fun s =>
    let s := s.setFport f { s.fport f with info := some info }
    let s := s.setReg64 (R.FP_PEER_ID_LO f) (R.FP_PEER_ID_HI f) info.uid
    let s := s.setReg (R.FP_PEER_ADDR f) (match info.addr with
      | some a => BitVec.ofNat 32 (2 ^ 31 + a.toNat)
      | none => 0)
    let s := s.setFld (F.FP_STAT_PEER_PORT f) info.port.val
    (s.configCheck f).fabUpdate))

/-- ROUTE (R350, R352): the neighbour's vector, and whether it takes the link as its root port and as a tree link. -/
def execPktRoute (f : Fin 6) (seq : BitVec 12) (root tree : Bool) (vec : List RouteEntry) (s : State) :
    Host.Outcome State Fault Refusal :=
  done (s.rxPacket f seq false (fun s =>
    let was := s.treeLink f
    let s := (s.setFport f { s.fport f with vec := vec, declRoot := root, declTree := tree }).fabUpdate
    if s.treeLink f == was then s else s.sendRoutes.sendJoins))

/-- JOIN (R353). -/
def execPktJoin (f : Fin 6) (seq : BitVec 12) (l : List JoinEntry) (s : State) : Host.Outcome State Fault Refusal :=
  done (s.rxPacket f seq false (fun s => (s.setFport f { s.fport f with joins := l }).fabUpdate))

/-! ### Addresses (R351) -/

/-- A request of the part itself: its unique ID, the address held, the fixed address asked for. -/
def State.ownRequest (s : State) : Nat × Option Nat × Option Nat :=
  (s.dev.shadow.uid.toNat, if s.flag F.FAB_ADDR_VALID then some s.fabAddr else none,
    if s.flag F.FAB_CFG_FIXED_EN then some (s.fld F.FAB_CFG_FIXED_ADDR) else none)

/-- Inserts a request in the order of unique IDs; a later request of a part replaces its earlier one. -/
def insertRequest (r : Nat × Option Nat × Option Nat) : List (Nat × Option Nat × Option Nat) → List (Nat × Option Nat × Option Nat)
  | [] => [r]
  | x :: t => if r.1 < x.1 then r :: x :: t else if r.1 = x.1 then r :: t else x :: insertRequest r t

/-- The requests of one rule claim their addresses in the order of unique IDs; a claim of an address taken fails. -/
def claimAddrs (want : Nat × Option Nat × Option Nat → Option Nat) (l : List (Nat × Option Nat × Option Nat))
    (taken : List (Nat × Nat)) : List (Nat × Nat) :=
  l.foldl (fun g r => match want r with
    | some a => if g.any (fun x => x.1 == r.1 || x.2 == a) then g else g ++ [(r.1, a)]
    | none => g) taken

/-- The lowest address that is free. -/
def lowestAddr (taken : List (Nat × Nat)) : Option Nat := (List.range 1024).find? (fun a => !taken.any (fun x => x.2 == a))

/-- The grants of a collection (R351): held addresses, fixed requests, the lowest free ones. -/
def grantAddrs (l : List (Nat × Option Nat × Option Nat)) : List (Nat × Nat) :=
  claimRest l (claimAddrs (fun r => r.2.2) l (claimAddrs (fun r => r.2.1) l []))
where
  /-- The remaining requests take the lowest free addresses. -/
  claimRest : List (Nat × Option Nat × Option Nat) → List (Nat × Nat) → List (Nat × Nat)
    | [], g => g
    | r :: t, g =>
      if g.any (fun x => x.1 == r.1) then claimRest t g
      else match lowestAddr g with
        | some a => claimRest t (g ++ [(r.1, a)])
        | none => claimRest t g

/-- The part is granted an address, or finds all taken (R351). -/
def State.takeAddr (s : State) (a : Option Nat) : State :=
  match a with
  | none => s.setFld F.FAB_STAT_NSTATE nsNoAddr
  | some x =>
    let changed := s.flag F.FAB_ADDR_VALID && s.fabAddr != x
    let s := s.setReg R.FAB_ADDR (BitVec.ofNat 32 (2 ^ 31 + x))
    let s := (s.setFld F.FAB_STAT_NSTATE nsReady).event P.FAB E.FAB_READY
    let s := if changed then s.event P.FAB E.FAB_ADDR_CHANGE else s
    s.fabUpdate.sendRoutes

/-- A grant reaches this part, or goes on by the port on which the request came. -/
def State.passGrant (s : State) (uid : Nat) (a : Option Nat) : State :=
  if uid = s.dev.shadow.uid.toNat then s.takeAddr a
  else
    match s.fab.asked.find? (fun x => x.1 == uid) with
    | some x => s.sendLocal x.2 (.assign (.grant (BitVec.ofNat 64 uid) (a.map (BitVec.ofNat 10))))
    | none => s

/-- ELECTION_SETTLE (R350, R351): the root collects requests, another part sends its own toward the root. -/
def execElectionSettle (s : State) : Host.Outcome State Fault Refusal :=
  done (if s.fld F.FAB_STAT_NSTATE != nsElect then s
    else
      let s := s.setFld F.FAB_STAT_NSTATE nsAssign
      match s.fab.rootPort with
      | none => s.fabUpd (fun b => { b with collecting := true, requests := insertRequest s.ownRequest b.requests })
      | some f =>
        let r := s.ownRequest
        s.sendLocal f (.assign (.request (BitVec.ofNat 64 r.1) (r.2.1.map (BitVec.ofNat 10)) (r.2.2.map (BitVec.ofNat 10)))))

/-- ASSIGN_COLLECT_END (R351): the root grants addresses in order. -/
def execAssignCollectEnd (s : State) : Host.Outcome State Fault Refusal :=
  done (if !s.fab.collecting then s
    else
      let reqs := s.fab.requests
      let g := grantAddrs reqs
      let s := s.fabUpd (fun b => { b with collecting := false, requests := [], granted := g })
      reqs.foldl (fun s r => s.passGrant r.1 ((g.find? (fun x => x.1 == r.1)).map Prod.snd)) s)

/-- A request at a settled root is granted the lowest free address at once (R351). -/
def State.lateGrant (s : State) (uid : Nat) : State :=
  match s.fab.granted.find? (fun x => x.1 == uid) with
  | some x => s.passGrant uid (some x.2)
  | none =>
    match lowestAddr s.fab.granted with
    | some a => ((s.fabUpd (fun b => { b with granted := b.granted ++ [(uid, a)] })).passGrant uid (some a)).fabUpdate
    | none => s.passGrant uid none

/-- ASSIGN (R351). -/
def execPktAssign (f : Fin 6) (seq : BitVec 12) (m : AssignMsg) (s : State) : Host.Outcome State Fault Refusal :=
  done (s.rxPacket f seq false (fun s =>
    match m with
    | .grant uid a => s.passGrant uid.toNat (a.map (·.toNat))
    | .request uid held fixed =>
      let u := uid.toNat
      let s := s.fabUpd (fun b => { b with asked := (u, f.val) :: b.asked.filter (fun x => x.1 != u) })
      match s.fab.rootPort with
      | some r => s.sendLocal r (.assign m)
      | none =>
        if s.fld F.FAB_STAT_NSTATE == nsReady then s.lateGrant u
        else s.fabUpd (fun b => { b with requests := insertRequest (u, held.map (·.toNat), fixed.map (·.toNat)) b.requests })))

/-! ### Routed packets -/

/-- A unicast packet arrives: it is for this part, or goes on (R352). -/
def State.rxUnicast (s : State) (f : Nat) (seq : BitVec 12) (k : Packet) (act : State → State) : State :=
  s.rxPacket f seq (pageClass k.body) (fun s =>
    if !s.hasAddr then s else if k.head.dst.toNat = s.fabAddr then act s else s.forward k)

/-- A packet that may be multicast (R353): it goes on along the tree, and members take it. -/
def State.rxEither (s : State) (f : Nat) (seq : BitVec 12) (k : Packet) (act : State → State) : State :=
  if k.head.mc then
    s.rxPacket f seq (pageClass k.body) (fun s =>
      if !s.hasAddr then s
      else
        let g := k.head.dst.toNat % 256
        let s := s.multicast g (some f) k
        if (s.group g).member then act s else s)
  else s.rxUnicast f seq k act

/-! ### Register messages of this part (R354, R367) -/

/-- FAB_RM_STAT.RESULT codes. -/
abbrev rmOk : Nat := 0
abbrev rmRejected : Nat := 1
abbrev rmTimeout : Nat := 2
abbrev rmUnreach : Nat := 3
abbrev rmQuar : Nat := 4
abbrev rmRev : Nat := 5

/-- The register message ends. -/
def State.rmEnd (s : State) (result reason index : Nat) : State :=
  ((s.fabUpd (fun b => { b with rm := none })).setReg R.FAB_RM_STAT
    (BitVec.ofNat 32 (result * 2 ^ 28 + reason * 2 ^ 24 + index))).event P.FAB E.FAB_RM_DONE

/-- The register message is sent (R354): COUNT 0 is done at once; no route ends it UNREACH, a path below revision 2.0 with more
than one register REV. -/
def State.rmSend (s : State) (wr : Bool) (count : Nat) : State :=
  let dst := s.fld F.FAB_RM_DST_DST
  if count = 0 then s.rmEnd rmOk 0 0
  else
    match (if s.hasAddr then s.routeTo dst else none) with
    | none => (s.count R.FAB_UNREACH).rmEnd rmUnreach 0 0
    | some r =>
      if 1 < count && decide (r.rev < 2) then s.rmEnd rmRev 0 0
      else
        let t := (s.fab.tag + 1) % 256
        let d := (List.range count).map (fun i => s.reg (R.FAB_RM_DATA i))
        let s := (s.setReg R.FAB_RM_STAT (BitVec.ofNat 32 (2 ^ 31))).fabUpd (fun b => { b with
          tag := t, rm := some ⟨dst, t, count, wr⟩ })
        s.sendTo dst (.rreq { write := wr, offset := BitVec.ofNat 24 (s.fld F.FAB_RM_ADDR_OFFSET)
                              count := ⟨(count - 1) % 16, Nat.mod_lt _ (by decide)⟩, tag := BitVec.ofNat 8 t
                              data := if wr then d else [] })

/-- A write of FAB_RM_CMD (R367). -/
def rmCmdRule (v : Word) (s : State) : WRule :=
  let op := bitsOf v.toNat 31 30
  { stateOk := !s.flag F.FAB_RM_STAT_BUSY
    rangeOk := (op == 1 || op == 2) && decide (v.toNat % 32 ≤ 16)
    eff := fun s => s.rmSend (op == 2) (v.toNat % 32) }

/-- A register message command of an agent. -/
def State.rmCommand (s : State) (a : Agent) (op count : Nat) : State :=
  s.writeBy a .fab P.FAB R.FAB_RM_CMD (rmCmdRule (BitVec.ofNat 32 (op * 2 ^ 30 + count)) s)

/-- FAB_RM_READ (R354). -/
def execFabRmRead (a : Agent) (count : BitVec 5) (s : State) : Host.Outcome State Fault Refusal := done (s.rmCommand a 1 count.toNat)

/-- FAB_RM_WRITE (R354). -/
def execFabRmWrite (a : Agent) (count : BitVec 5) (s : State) : Host.Outcome State Fault Refusal := done (s.rmCommand a 2 count.toNat)

/-- FAB_RM_TIMEOUT (R354). -/
def execFabRmTimeout (s : State) : Host.Outcome State Fault Refusal :=
  done (if s.fab.rm.isSome then s.rmEnd rmTimeout 0 0 else s)

/-- RRSP (R354): the answer to the register message outstanding. -/
def execPktRrsp (f : Fin 6) (seq : BitVec 12) (hd : PktHead) (r : RegRsp) (s : State) : Host.Outcome State Fault Refusal :=
  done (s.rxUnicast f seq ⟨hd, .rrsp r⟩ (fun s =>
    match s.fab.rm with
    | some o =>
      if o.tag == r.tag.toNat && o.dst == hd.src.toNat then
        let s := if o.write then s else
          (r.data.take o.count).zipIdx.foldl (fun s x => s.setReg (R.FAB_RM_DATA x.2) x.1) s
        s.rmEnd r.result.toNat r.reason.toNat r.index.toNat
      else s
    | none => s))

/-- UNREACH (R352): the register message to that destination ends. -/
def execPktUnreach (f : Fin 6) (seq : BitVec 12) (hd : PktHead) (lost : BitVec 10) (s : State) : Host.Outcome State Fault Refusal :=
  done (s.rxUnicast f seq ⟨hd, .unreach lost⟩ (fun s =>
    match s.fab.rm with
    | some o => if o.dst == lost.toNat then s.rmEnd rmUnreach 0 0 else s
    | none => s))

/-! ### Page service (R355 to R357) -/

/-- Deliveries queued take the places in progress that are free: up to 8. -/
def Fab.promote (b : Fab) : Fab :=
  let n := 8 - b.active.length
  { b with active := b.active ++ b.waiting.take n, waiting := b.waiting.drop n }

/-- A store node takes a page request (R355, R356). -/
def State.serve (s : State) (src spage grp : Nat) (mc : Bool) : State :=
  let nak := fun (c : Nat) => s.sendTo src (.pnak (BitVec.ofNat 21 spage) (BitVec.ofNat 4 c))
  let d : Delivery := { spage := spage, mc := mc, dst := if mc then grp else src, index := 0 }
  if !s.flag F.FAB_STORE_SERVE then nak 2
  else if s.pageState spage != pgHome then nak 1
  else if mc && s.fab.waiting.contains d then s
  else if 64 ≤ s.fab.waiting.length then nak 3
  else s.fabUpd (fun b => ({ b with waiting := b.waiting ++ [d] }).promote)

/-- PREQ (R355). -/
def execPktPreq (f : Fin 6) (seq : BitVec 12) (hd : PktHead) (spage : BitVec 21) (grp : Byte) (mc : Bool) (s : State) :
    Host.Outcome State Fault Refusal :=
  done (s.rxUnicast f seq ⟨hd, .preq spage grp mc⟩ (fun s => s.serve hd.src.toNat spage.toNat grp.toNat mc))

/-- PBREQ (R355): up to 16 consecutive pages. -/
def execPktPbreq (f : Fin 6) (seq : BitVec 12) (hd : PktHead) (spage : BitVec 21) (grp : Byte) (mc : Bool) (count : Fin 16)
    (s : State) : Host.Outcome State Fault Refusal :=
  done (s.rxUnicast f seq ⟨hd, .pbreq spage grp mc count⟩ (fun s =>
    (List.range (count.val + 1)).foldl (fun s i => s.serve hd.src.toNat ((spage.toNat + i) % 2 ^ 21) grp.toNat mc) s))

/-- PAGE_DELIVERY_SEND (R355): the next packet of the delivery whose turn it is. A page that is no longer HOME ends its delivery. -/
def execPageDeliverySend (s : State) : Host.Outcome State Fault Refusal :=
  done (match s.fab.active with
    | [] => s
    | d :: t =>
      match (if s.pageState d.spage == pgHome then s.patAddr (d.spage * 2 ^ 21 + d.index * 512) else none) with
      | none => s.fabUpd (fun b => ({ b with active := t }).promote)
      | some a =>
        let body := PktBody.pdata (BitVec.ofNat 21 d.spage) ⟨d.index % 4096, Nat.mod_lt _ (by decide)⟩ (d.index == 4095)
          (s.memBytes a 512)
        let s := if d.mc then
            (if s.hasAddr then s.multicast d.dst none
              ⟨{ mc := true, dst := BitVec.ofNat 10 d.dst, ttl := 31, src := BitVec.ofNat 10 s.fabAddr }, body⟩ else s)
          else s.sendTo d.dst body
        if d.index = 4095 then (s.fabUpd (fun b => ({ b with active := t }).promote)).count R.FAB_PAGES_SERVED
        else s.fabUpd (fun b => { b with active := t ++ [{ d with index := d.index + 1 }] }))

/-- A delivery is complete (R177, R178, R356): a multicast one reaches every page of its source, a unicast one the fetch of it. -/
def State.delivered? (s : State) (x : Incoming) : State :=
  let data := x.data.reverse.flatten
  if x.mc then
    ((List.range (2 ^ 21)).filter (fun v => s.pageFrom v x.src x.spage)).foldl (fun s v => s.pageDelivered x.src x.spage v data) s
  else
    s.pager.fetches.foldl (fun s e =>
      match e.2.1 with
      | some fr => if s.pageFrom e.1 x.src x.spage then s.fetchArrive e.1 fr false e.2.2 data else s
      | none => s) s

/-- A page packet of a delivery (R356): INDEX 0 opens it, and a gap discards the rest. -/
def State.pageData? (s : State) (src spage index : Nat) (mc : Bool) (data : List Byte) : State :=
  let same := fun (x : Incoming) => x.src == src && x.spage == spage && x.mc == mc
  let rest := s.fab.incoming.filter (fun x => !same x)
  let now := if index = 0 then some (⟨src, spage, mc, 0, []⟩ : Incoming) else s.fab.incoming.find? same
  match now with
  | none => s
  | some x =>
    if x.index != index then s.fabUpd (fun b => { b with incoming := rest })
    else
      let x := { x with index := index + 1, data := data.take 512 :: x.data }
      if index = 4095 then (s.fabUpd (fun b => { b with incoming := rest })).delivered? x
      else s.fabUpd (fun b => { b with incoming := rest ++ [x] })

/-- PDATA (R356). -/
def execPktPdata (f : Fin 6) (seq : BitVec 12) (hd : PktHead) (spage : BitVec 21) (index : Fin 4096) (last : Bool)
    (data : List Byte) (s : State) : Host.Outcome State Fault Refusal :=
  done (s.rxEither f seq ⟨hd, .pdata spage index last data⟩ (fun s => s.pageData? hd.src.toNat spage.toNat index hd.mc data))

/-- PREP (R357): expanded where it is delivered, and where it goes on over a link at revision 1.0. -/
def execPktPrep (f : Fin 6) (seq : BitVec 12) (hd : PktHead) (spage : BitVec 21) (index : Fin 4096) (last : Bool)
    (word : List Byte) (s : State) : Host.Outcome State Fault Refusal :=
  done (s.rxEither f seq ⟨hd, .prep spage index last word⟩ (fun s =>
    s.pageData? hd.src.toNat spage.toNat index hd.mc (expand word)))

/-- PNAK (R177, R355): the fetches of that page are refused. -/
def execPktPnak (f : Fin 6) (seq : BitVec 12) (hd : PktHead) (spage : BitVec 21) (cause : BitVec 4) (s : State) :
    Host.Outcome State Fault Refusal :=
  done (s.rxUnicast f seq ⟨hd, .pnak spage cause⟩ (fun s =>
    s.pager.fetches.foldl (fun s e =>
      match e.2.1 with
      | some fr => if s.pageFrom e.1 hd.src.toNat spage.toNat then s.fetchArrive e.1 fr true e.2.2 [] else s
      | none => s) s))

/-! ### Messages of the deterministic class (R346, R353) -/

/-- A message arrives with a good copy (R346): it goes on along the tree, and a member takes it. A bad first copy is a transient
error. -/
def State.rxDet (s : State) (f : Nat) (d : DetHead) (dtype : Nat) (body : BitVec 64) (aux : Nat) (act : State → State) : State :=
  if !s.linkUp f || (s.fport f).off then s
  else
    let s := s.wordSeen f
    let (inj, s) := s.takeInj (P.FP f) X.FP_DET_RETRY
    let s := if inj || d.second then (s.count (R.FP_DET_RETRY f)).faultInj (P.FP f) X.FP_DET_RETRY inj else s
    let s := s.detForward (some f) ⟨d.grp.toNat, d.src.toNat, dtype, body, aux⟩
    if (s.group d.grp.toNat).member && s.hasAddr then act s else s

/-- The enabled slots of a group in a state. -/
def State.slotsOf (s : State) (g : Nat) : List Nat :=
  (List.range 16).filter (fun k => s.flag (F.FAB_SPAN_CFG_EN k) && s.fld (F.FAB_SPAN_CFG_GRP k) == g)

/-- DET_MESSAGE_LOST (R346): both copies fail; lasting as in R344. -/
def execDetMessageLost (f : Fin 6) (mask1 mask2 : BitVec 4) (s : State) : Host.Outcome State Fault Refusal :=
  done (if s.linkUp f then
      (((s.wordSeen f).countViolations f mask1.toNat).countViolations f mask2.toNat).lasting f mask1.toNat mask2.toNat false
    else s)

/-- A CSYNC reaches a slot (R359): T is stored; 500 ns before T at the latest. -/
def State.syncAt (s : State) (k : Nat) (t : BitVec 64) : State :=
  let late := decide ((t - s.now).toInt < 500 * 256)
  (s.setReg64 (R.FAB_SPAN_T_LO k) (R.FAB_SPAN_T_HI k) t).setSpan k { s.span k with sync := true, late := late }

/-- CSYNC (R359). -/
def execCsync (f : Fin 6) (d : DetHead) (t : BitVec 64) (s : State) : Host.Outcome State Fault Refusal :=
  done (s.rxDet f d dtCsync t 0 (fun s => (s.slotsOf d.grp.toNat).foldl (fun s k => s.syncAt k t) s))

/-- A partition of a slot is ARMED. -/
def State.spanHasArmed (s : State) (k : Nat) : Bool := (s.spanSites k).any (fun p => s.pstate p == pArmed)

/-- A member does not start: its slot ends, and it says so (R359). -/
def State.syncMissed (s : State) (k code : Nat) : State := (s.spanEnd k code).detSend k dtSyncLate 0 0

/-- CSYNC_START (R359, R99): T has come. -/
def execCsyncStart (k : Fin 16) (s : State) : Host.Outcome State Fault Refusal :=
  let n := s.fld (F.FAB_SPAN_CFG_SEQ k)
  let x := s.span k
  done (if !x.sync || !s.flag (F.FAB_SPAN_CFG_EN k) || !timeReached s.now (s.reg64 (R.FAB_SPAN_T_LO k) (R.FAB_SPAN_T_HI k)) then s
    else
      let s := s.setSpan k { x with sync := false }
      if x.late then s.syncMissed k 6
      else if s.fld (F.FAB_SPAN_STAT_STATE k) != spWait || !s.spanHasArmed k || !s.startable n then s.syncMissed k 7
      else
        let s := (s.setFld (F.FAB_SPAN_STAT_STATE k) spRunning).setFld (F.FAB_SPAN_STAT_END k) 0
        (s.setSpan k Span.init).startGang n (2000 * s.dclk))

/-- The PASS bits of a COND (R360): a matched partition in a MATCH repetition, else a clear accumulator; a masked one passes. -/
def State.passBits (s : State) (k n : Nat) (mark : Nat) (failed : List Nat) : Nat :=
  (s.spanSites k).zipIdx.foldl (fun a x =>
    let live := (s.liveParts n).contains x.1
    let ok := !live || (if mark != 0 then !failed.contains x.1 else !(s.seq n).acc.testBit x.1)
    if ok then a + 2 ^ x.2 else a) 0

/-- COND_SEND (R360): the oldest block whose COND is due. -/
def execCondSend (k : Fin 16) (s : State) : Host.Outcome State Fault Refusal :=
  let n := s.fld (F.FAB_SPAN_CFG_SEQ k)
  done (if s.fld (F.FAB_SPAN_STAT_STATE k) != spRunning then s
    else
      match (s.seq n).sends with
      | [] => s
      | (last, _, mark, failed) :: t =>
        (s.setSeq n { s.seq n with sends := t }).detSend k dtCond
          (BitVec.ofNat 64 (s.passBits k n mark failed * 2 ^ 32 + last % 2 ^ 32)) (if mark = 0 then 0 else 1))

/-- The running slots of a group. -/
def State.runningSlots (s : State) (g : Nat) : List Nat :=
  (s.slotsOf g).filter (fun k => s.fld (F.FAB_SPAN_STAT_STATE k) == spRunning)

/-- DET_COND (R360): held for its release. -/
def execDetCond (f : Fin 6) (d : DetHead) (body : BitVec 64) (matchRep : Bool) (s : State) : Host.Outcome State Fault Refusal :=
  done (s.rxDet f d dtCond body (if matchRep then 1 else 0) (fun s =>
    (s.runningSlots d.grp.toNat).foldl (fun s k =>
      s.setSpan k { s.span k with conds := (s.span k).conds ++ [(body.toNat % 2 ^ 32, body.toNat / 2 ^ 32, matchRep)] }) s))

/-- A notice of a member arrives (R362). -/
def State.rxNotice (s : State) (f : Nat) (d : DetHead) (dtype : Nat) (cycle : Word) : State :=
  s.rxDet f d dtype (cycle.setWidth 64) 0 (fun s =>
    (s.runningSlots d.grp.toNat).foldl (fun s k => s.spanReceive k dtype cycle.toNat) s)

/-- DET_STALL (R194). -/
def execDetStall (f : Fin 6) (d : DetHead) (cycle : Word) (s : State) : Host.Outcome State Fault Refusal :=
  done (s.rxNotice f d dtStall cycle)

/-- DET_PAUSE (R362). -/
def execDetPause (f : Fin 6) (d : DetHead) (cycle : Word) (s : State) : Host.Outcome State Fault Refusal :=
  done (s.rxNotice f d dtPause cycle)

/-- DET_RESUME (R362). -/
def execDetResume (f : Fin 6) (d : DetHead) (cycle : Word) (s : State) : Host.Outcome State Fault Refusal :=
  done (s.rxNotice f d dtResume cycle)

/-- DET_ABORT (R362). -/
def execDetAbort (f : Fin 6) (d : DetHead) (cycle : Word) (s : State) : Host.Outcome State Fault Refusal :=
  done (s.rxNotice f d dtAbort cycle)

/-- DET_FAULT (R362). -/
def execDetFault (f : Fin 6) (d : DetHead) (cycle : Word) (s : State) : Host.Outcome State Fault Refusal :=
  done (s.rxNotice f d dtFault cycle)

/-- DET_SYNC_LATE (R359): a report; members that did start stop for the missing COND (R360). -/
def execDetSyncLate (f : Fin 6) (d : DetHead) (s : State) : Host.Outcome State Fault Refusal :=
  done (s.rxDet f d dtSyncLate 0 0 (fun s => s))

/-- The notice of a slot that is applied: the first in the order FAULT, ABORT, STALL, PAUSE, RESUME (R362). -/
def Span.notice (x : Span) : Option Nat :=
  ([dtFault, dtAbort, dtStall, dtPause, dtResume] : List Nat).find? (fun t => x.notices.any (fun y => y.1 == t))

/-- SPAN_NOTICE_APPLY (R362): the notices released are applied in priority order, each removing those below it. -/
def execSpanNoticeApply (k : Fin 16) (s : State) : Host.Outcome State Fault Refusal :=
  let n := s.fld (F.FAB_SPAN_CFG_SEQ k)
  done (if s.fld (F.FAB_SPAN_STAT_STATE k) != spRunning then s
    else
      match (s.span k).notice with
      | none => s
      | some t =>
        let s := s.setSpan k { s.span k with notices := [] }
        let q := s.seq n
        if t = dtFault then s.gangFault n 0xA
        else if t = dtAbort then s.setSeq n { q with sampled := (q.sampled.1, q.sampled.2.1, true) }
        else if t = dtStall then s.setSeq n { q with late := some (q.late.getD 3) }
        else if t = dtPause then s.setSeq n { q with sampled := (true, q.sampled.2) }
        else s.setSeq n { q with sampled := (q.sampled.1, true, q.sampled.2.2) })

/-! ### Span slots: registers (R358, R359, R367) -/

/-- The conditions of R358 for a write that sets EN. -/
def State.spanOk (s : State) (k : Nat) (v : Word) : Bool :=
  let g := s.group (bitsOf v.toNat 15 8)
  let n := bitsOf v.toNat 27 24
  let m := bitsOf v.toNat 20 16
  let sites := s.spanSites k
  g.member && g.count == m && decide (2 ≤ m) && decide (m ≤ 16) && s.bound n && s.seqIdle n
    && s.fld (F.SEQ_RUN_START_SRC n) == 2 && decide (g.diam ≤ s.fld (F.SEQ_COND_LEAD_HOPS n))
    && decide (1 ≤ sites.length) && decide (sites.length ≤ 32)
    && sites.all (fun p => s.defined p && s.gangOfPart p == n)

/-- A write of FAB_SPAN_CFG. -/
def spanCfgRule (k : Nat) (v : Word) (s : State) : WRule :=
  let was := s.flag (F.FAB_SPAN_CFG_EN k)
  { stateOk := if v.getLsbD 31 then !was && s.spanOk k v
      else !was || s.fld (F.FAB_SPAN_STAT_STATE k) != spRunning
    eff := fun s =>
      let s := s.setReg (R.FAB_SPAN_CFG k) (v &&& 0xCF1FFF00)
      if v.getLsbD 31 == was then s
      else ((s.setReg (R.FAB_SPAN_STAT k) (if v.getLsbD 31 then BitVec.ofNat 32 (2 ^ 28) else 0)).setSpan k Span.init).fabUpdate }

/-- A write of FAB_SPAN_GO (R359). -/
def spanGoRule (k : Nat) (v : Word) (s : State) : WRule :=
  let lead := s.fld (F.FAB_SPAN_SYNC_SYNC_LEAD_NS k)
  let g := s.group (s.fld (F.FAB_SPAN_CFG_GRP k))
  { stateOk := !v.getLsbD 0 || (s.flag (F.FAB_SPAN_CFG_EN k) && s.flag (F.FAB_SPAN_CFG_LEADER k)
      && s.fld (F.FAB_SPAN_STAT_STATE k) == spWait && s.spanHasArmed k && decide (40 * g.diam + 1000 ≤ lead))
    eff := fun s =>
      if v.getLsbD 0 then
        let t := s.now + nsTime lead
        let s := s.detSend k dtCsync t 0
        (s.setReg64 (R.FAB_SPAN_T_LO k) (R.FAB_SPAN_T_HI k) t).setSpan k { s.span k with sync := true, late := false }
      else s }

/-! ### Fabric triggers (R363) -/

/-- Fabric trigger `k` is raised on this part: trigger 8 + k, capture condition 0x18 + k, event stamp 0x10 + k. -/
def State.fabRaise (s : State) (k : Nat) : State := ((s.raiseTrigger (8 + k)).capExternal (8 + k)).stampEvent (0x10 + k)

/-- DET_TRIG (R363): raised at T; after T on arrival. -/
def execDetTrig (f : Fin 6) (d : DetHead) (k : Fin 8) (t : BitVec 64) (s : State) : Host.Outcome State Fault Refusal :=
  done (s.rxDet f d dtTrig t k.val (fun s =>
    if timeReached s.now t && s.now != t then (s.count R.FAB_TRIG_LATE).fabRaise k
    else s.fabUpd (fun b => { b with trigs := b.trigs ++ [(k.val, t)] })))

/-- Removes the first entry that meets a test. -/
def removeFirst {α : Type} (p : α → Bool) : List α → List α
  | [] => []
  | x :: t => if p x then t else x :: removeFirst p t

/-- FABRIC_TRIG_RAISE (R363). -/
def execFabricTrigRaise (k : Fin 8) (s : State) : Host.Outcome State Fault Refusal :=
  let due := fun (x : Nat × BitVec 64) => x.1 == k.val && timeReached s.now x.2
  done (if s.fab.trigs.any due then
      (s.fabUpd (fun b => { b with trigs := removeFirst due b.trigs })).fabRaise k
    else s)

/-- A write of FAB_TRIG_SEND (R363). -/
def trigSendRule (v : Word) : WRule :=
  { eff := fun s =>
      ((List.range 8).filter (fun k => v.getLsbD k && s.flag (F.FAB_TRIG_CFG_EN k) && s.fld (F.FAB_TRIG_CFG_SRC k) == 0)).foldl
        State.fabTrigger s }

/-- FAB_TRIG_SEND (R363). -/
def execFabTrigSend (a : Agent) (bits : Byte) (s : State) : Host.Outcome State Fault Refusal :=
  done (s.writeBy a .fab P.FAB R.FAB_TRIG_SEND (trigSendRule (bits.setWidth 32)))

/-! ### The FAB page (R367) -/

/-- A write of FAB_GRP (R353). -/
def fabGrpRule (v : Word) : WRule :=
  { eff := fun s =>
      let g := s.fld F.FAB_GRP_SEL_GRP
      (s.fabUpd (fun b => { b with groups := sset Group.init b.groups g { s.group g with member := v.getLsbD 31 } })).fabUpdate.sendJoins }

/-- A write of the FAB page. -/
def fabRule (off : Nat) (v : Word) (s : State) : WRule :=
  let store := fun (m : Word) => ({ eff := fun s => s.setReg off (v &&& m) } : WRule)
  if off = R.FAB_CFG then { eff := fun s => (s.setReg off (v &&& 0xFF0103FF)).fabUpdate }
  else if off = R.FAB_ROUTE_SEL then store 0x3FF
  else if off = R.FAB_GRP_SEL then store 0xFF
  else if off = R.FAB_GRP then fabGrpRule v
  else if off = R.FAB_RM_DST then store 0x3FF
  else if off = R.FAB_RM_ADDR then store 0x03FFFFFC
  else if off = R.FAB_RM_CMD then rmCmdRule v s
  else if off = R.FAB_RM_TMO then { rangeOk := v.toNat % 65536 != 0, eff := fun s => s.setReg off (v &&& 0xFFFF) }
  else if off = R.FAB_STORE then store 1
  else if off = R.FAB_PAGE_GRP then store 0x800000FF
  else if R.FAB_TRIG_CFG 0 ≤ off ∧ off < R.FAB_TRIG_CFG 8 then
    { rangeOk := decide (bitsOf v.toNat 30 28 ≤ 2), eff := fun s => s.setReg off v }
  else if off = R.FAB_TRIG_SEND then trigSendRule v
  else if R.FAB_RM_DATA 0 ≤ off ∧ off < R.FAB_RM_DATA 16 then store 0xFFFFFFFF
  else if R.FAB_SPAN_CFG 0 ≤ off ∧ off < R.FAB_SPAN_CFG 16 then
    let k := (off - R.FAB_SPAN_CFG 0) / 0x20
    let free := !s.flag (F.FAB_SPAN_CFG_EN k)
    if off = R.FAB_SPAN_CFG k then spanCfgRule k v s
    else if off = R.FAB_SPAN_PMASK_LO k ∨ off = R.FAB_SPAN_PMASK_HI k then { stateOk := free, eff := fun s => s.setReg off v }
    else if off = R.FAB_SPAN_SYNC k then { stateOk := free, eff := fun s => s.setReg off (v &&& 0xFFFF) }
    else if off = R.FAB_SPAN_GO k then spanGoRule k v s
    else ignored
  else ignored

/-- Registers of the FAB page that show state other than a stored word. -/
def State.fabRead (s : State) (off : Nat) : Option Word :=
  if off = R.FAB_ROUTE then
    some (match s.routeTo (s.fld F.FAB_ROUTE_SEL_DST) with
      | some r => BitVec.ofNat 32 (2 ^ 31 + r.rev * 2 ^ 29 + r.port * 2 ^ 24 + r.dist * 2 ^ 16)
      | none => 0)
  else if off = R.FAB_GRP then
    let g := s.group (s.fld F.FAB_GRP_SEL_GRP)
    some (BitVec.ofNat 32 ((if g.member then 2 ^ 31 else 0) + (if g.det then 2 ^ 30 else 0) + g.tree * 2 ^ 24 + g.diam * 2 ^ 16 + g.count))
  else none

/-- FAB_SPAN_ENABLE (R358). -/
def execFabSpanEnable (a : Agent) (k : Fin 16) (v : Word) (s : State) : Host.Outcome State Fault Refusal :=
  done (s.writeBy a .fab P.FAB (R.FAB_SPAN_CFG k) (spanCfgRule k (v ||| 0x80000000) s))

/-- FAB_SPAN_GO (R359). -/
def execFabSpanGo (a : Agent) (k : Fin 16) (s : State) : Host.Outcome State Fault Refusal :=
  done (s.writeBy a .fab P.FAB (R.FAB_SPAN_GO k) (spanGoRule k 1 s))

/-- The fabric over one DCLK: messages of the deterministic class leave, and routes settle (R347, R352). -/
def State.fabTick (s : State) : State :=
  let s := (List.range 6).foldl State.detTick s
  match s.fab.stableAt with
  | some t => if t ≤ s.dclk then (s.setFlag F.FAB_STAT_STABLE true).fabUpd (fun b => { b with stableAt := none }) else s
  | none => s

/-- A block reset of the FAB page (R351): the address is lost, and the election starts again. -/
def State.fabReset (s : State) : State :=
  ((s.fabUpd (fun b => { Fab.init with sent := b.sent, ports := b.ports, tag := b.tag })).setReg R.FAB_STAT 0).setReg R.FAB_ADDR 0

end Sys2Proof.Machine
end

