-- ==== Sys2Proof/Machine/Part.lean ====
section
/-! DEFINITION. Partitions: contexts, ownership, partition commands, retirement, the context check (19). -/

namespace Sys2Proof.Machine

open Sys2Proof

/-! ### Resources of a partition (R467, R476) -/

/-- PART_P_RES of partition `k`: synthesis channels in [15:0], DAC ports in [19:16]. -/
def State.partRes (s : State) (k : Nat) : Nat := (s.reg (R.PART_P_RES k)).toNat % 2 ^ 20

/-- The decimation channels that partition `k` names. -/
def State.partDx (s : State) (k : Nat) : Nat := (s.reg (R.PART_P_DX k)).toNat

/-- The time-interval units that partition `k` names. -/
def State.partTu (s : State) (k : Nat) : Nat := (s.reg64 (R.PART_P_TU_LO k) (R.PART_P_TU_HI k)).toNat

/-- The SYN pages that partition `k` names a resource of: SYn, or DPn. -/
def State.partSyn (s : State) (k : Nat) : Nat := s.partRes k % 2 ^ 16 ||| s.partRes k / 2 ^ 16

/-- The defined partitions. -/
def State.definedParts (s : State) : List Nat := (List.range 64).filter s.defined

/-- Partitions `k` and `j` name a resource in common. -/
def State.partsOverlap (s : State) (k j : Nat) : Bool :=
  (s.quads k &&& s.quads j) != 0 || (s.partSyn k &&& s.partSyn j) != 0 || (s.partDx k &&& s.partDx j) != 0
    || (s.partTu k &&& s.partTu j) != 0

/-- Partition `k` names a retired resource. -/
def State.namesRetired (s : State) (k : Nat) : Bool :=
  (s.quads k &&& (s.reg64 R.PART_RET_QUAD_LO R.PART_RET_QUAD_HI).toNat) != 0
    || (s.partTu k &&& (s.reg64 R.PART_RET_TU_LO R.PART_RET_TU_HI).toNat) != 0
    || (s.partDx k &&& (s.reg R.PART_RET_DX).toNat) != 0
    || (s.partRes k &&& (s.reg R.PART_RET_SY).toNat) != 0

/-- The quads of partition `k` lie in one gang, and there is one (R15, R467). -/
def State.quadsLegal (s : State) (k : Nat) : Bool :=
  s.quads k != 0 && (List.range 64).all (fun q => !(s.quads k).testBit q || s.gangOf (q / 4) == s.gangOfPart k)

/-! ### Owners (R470) -/

/-- Stores xx_OWNER. -/
def State.setOwner (s : State) (p kind id : Nat) : State := (s.setFld (F.xx_OWNER_KIND p) kind).setFld (F.xx_OWNER_ID p) id

/-- The owner of a page whose resources the partitions `l` name: private where one names them all. -/
def State.ownPage (s : State) (p : Nat) (l : List Nat) (whole : Nat → Bool) : State :=
  match l with
  | [] => s.setOwner p 0 0
  | [k] => if whole k then s.setOwner p 1 k
    else s.setOwner p (bitsOf (s.reg R.PART_SHARED_OWNER).toNat 31 30) (bitsOf (s.reg R.PART_SHARED_OWNER).toNat 11 0)
  | _ => s.setOwner p (bitsOf (s.reg R.PART_SHARED_OWNER).toNat 31 30) (bitsOf (s.reg R.PART_SHARED_OWNER).toNat 11 0)

/-- The owner of every CU page is computed. -/
def State.ownCus (s : State) : State :=
  (List.range 8).foldl (fun s u => s.ownPage (P.CU u) (s.definedParts.filter (fun k => s.serves u k)) (fun _ => false)) s

/-- The PART page computes the owners of every SEQ, TG, SYN, DEC, TIA and CU page (R470). -/
def State.recomputeOwners (s : State) : State :=
  let yes := fun (_ : Nat) => true
  let s := (List.range 16).foldl (fun s n => s.ownPage (P.SEQ n) (if s.bound n then s.gangParts n else []) yes) s
  let s := (List.range 16).foldl (fun s t => s.ownPage (P.TG t) (s.gangParts (s.gangOf t)) yes) s
  let s := (List.range 16).foldl (fun s n => s.ownPage (P.SYN n) (s.definedParts.filter (fun k => (s.partSyn k).testBit n)) yes) s
  let s := (List.range 4).foldl (fun s n => s.ownPage (P.DEC n)
    (s.definedParts.filter (fun k => s.partDx k / 2 ^ (8 * n) % 256 != 0)) (fun k => s.partDx k / 2 ^ (8 * n) % 256 == 255)) s
  let s := (List.range 8).foldl (fun s n => s.ownPage (P.TIA n)
    (s.definedParts.filter (fun k => s.partTu k / 2 ^ (8 * n) % 256 != 0)) (fun k => s.partTu k / 2 ^ (8 * n) % 256 == 255)) s
  s.ownCus

/-! ### Contexts (R467, R536) -/

/-- Partition `k` may be written anew: its context is rewritten. -/
def State.forgetCorrupt (s : State) (k : Nat) : State :=
  { s with part := { s.part with corrupt := s.part.corrupt.filter (· != k) } }

/-- A write of PART_P_CFG (R467, R470). -/
def partCfgRule (k : Nat) (v : Word) (s : State) : WRule :=
  let set := v.getLsbD 31
  let read := fun (s : State) => (s.ctxRead k).2
  if set == s.defined k then { eff := read }
  else
    { stateOk := s.pstate k == pIdle && (!set || (s.definedParts.all (fun j => j == k || !s.partsOverlap k j) && !s.namesRetired k))
      rangeOk := !set || s.quadsLegal k
      eff := fun s =>
        let s := s.setFlag (F.PART_P_CFG_DEFINED k) set
        (if set then s.forgetCorrupt k else s).recomputeOwners |> read
      refused := fun e s => if e == .state || e == .range then read s else s }

/-- A write of a list of a partition's context (R467). -/
def partListRule (k off : Nat) (v mask : Word) (s : State) : WRule :=
  let read := fun (s : State) => (s.ctxRead k).2
  { stateOk := !s.defined k
    eff := fun s => read (s.setReg off (v &&& mask))
    refused := fun e s => if e == .state then read s else s }

/-! ### Partition commands (R472 to R475) -/

/-- Partition `k` is a site of an enabled span slot. -/
def State.spanSite (s : State) (k : Nat) : Option Nat :=
  (List.range 16).find? (fun i => s.flag (F.FAB_SPAN_CFG_EN i) && (s.spanSites i).contains k)

/-- The device takes partition commands that need READY, MEASURE or RUN. -/
def State.partMode (s : State) : Bool := s.mode == mReady || s.mode == mMeasure || s.mode == mRun

/-- The conditions of an ARM other than its capture regions (R473, R475). -/
def State.armable (s : State) (k : Nat) : Bool :=
  let n := s.gangOfPart k
  s.defined k && s.pstate k == pIdle && s.partMode && s.bound n && !s.drained n && !s.seqRetired n && !s.part.corrupt.contains k

/-- RECOVER is accepted (R475). -/
def State.recoverable (s : State) (k : Nat) : Bool :=
  let n := s.gangOfPart k
  s.pstate k == pFaulted && (s.flag (F.PART_P_STAT_ISOLATED k) || s.fld (F.PART_P_STAT_FCAUSE k) == 0xE
    || (s.seqState n == rsIdle && s.reg (R.xx_FLT (P.SEQ n)) == 0
      && (s.gangGroups n).all (fun t => s.reg (R.xx_FLT (P.TG t)) == 0)))

/-- The condition of a command (R473). -/
def State.partAccepts (s : State) (op k : Nat) : Bool :=
  let st := s.pstate k
  let live := st == pRunning || st == pPaused
  if op = 1 then s.armable k && (s.capArm k).1
  else if op = 2 then st == pArmed
  else if op = 3 then st == pRunning
  else if op = 4 then st == pPaused
  else if op = 5 then live
  else if op = 6 then (st == pIdle || st == pFaulted) && s.partMode
  else if op = 7 then st == pService && !s.flag (F.PART_P_STAT_SVC_BUSY k)
  else if op = 8 then live && (s.spanSite k).isNone
  else if op = 9 then s.recoverable k
  else true

/-- The effect of an ARM (R473): the capture units arm, and an ended span slot of the site waits for its next sync. -/
def State.partArm (s : State) (k : Nat) : State :=
  let s := (((s.capArm k).2).setPart k pArmed).count (R.xx_BLK_COUNT P.PART)
  match s.spanSite k with
  | some i => if s.fld (F.FAB_SPAN_STAT_STATE i) == spEnded then s.setFld (F.FAB_SPAN_STAT_STATE i) spWait else s
  | none => s

/-- The effect of an ABORT (R474): a request that the next decision point samples, or a notice of a running span (R362). -/
def State.partAbort (s : State) (k : Nat) : State :=
  if (s.spanOf (s.gangOfPart k)).isSome then s.runRequest (s.gangOfPart k) 3
  else { s with part := { s.part with wanted := s.part.wanted.filter (· != k) ++ [k] } }

/-- The effect of an ISOLATE (R475). -/
def State.partIsolate (s : State) (k : Nat) : State :=
  ((s.takeOut k 0).setFlag (F.PART_P_STAT_ISOLATED k) true).event P.PART E.PART_ISOLATED

/-- The effect of a command. -/
def State.partCommand (s : State) (op k : Nat) : State :=
  if op = 1 then s.partArm k
  else if op = 2 then (s.capDisarm k).setPart k pIdle
  else if op = 3 then s.runRequest (s.gangOfPart k) 1
  else if op = 4 then s.runRequest (s.gangOfPart k) 2
  else if op = 5 then s.partAbort k
  else if op = 6 then s.setPart k pService
  else if op = 7 then s.setPart k pIdle
  else if op = 8 then s.partIsolate k
  else if op = 9 then (s.setFlag (F.PART_P_STAT_ISOLATED k) false).setPart k pIdle
  else s

/-- The isolation fuse lets an agent command partition `k` (R472). -/
def State.partOwner (s : State) (a : Agent) (k : Nat) : Bool :=
  let o := (s.reg R.PART_SHARED_OWNER).toNat
  !s.isolation || a == .mgmt || (bitsOf o 31 30 == 2 && a.ident == bitsOf o 11 0) || (s.tagOf a).getLsbD k

/-- A write of PART_CMD (R472, R473, R536), with the owner check of R472: a context that fails its check leaves the command without effect. -/
def partCmdRule (a : Agent) (v : Word) (s : State) : WRule :=
  let op := bitsOf v.toNat 31 28
  let k := bitsOf v.toNat 21 16
  let bad := s.bit (R.xx_FLT_INJ P.PART) X.PART_CTX_ECC
  { ownerOk := s.partOwner a k
    stateOk := !bad && s.partAccepts op k
    rangeOk := decide (1 ≤ op) && decide (op ≤ 9)
    eff := fun s => s.partCommand op k
    refused := fun e s =>
      if e != .state || s.flag (F.xx_STAT_IN_RESET P.PART) then s
      else if bad then (s.ctxRead k).2
      else if op = 1 ∧ s.armable k then (s.capArm k).2 else s }

/-- PART_CMD as a command of an agent. -/
def State.partWrite (s : State) (a : Agent) (op k : Nat) : State :=
  s.writeBy a .part P.PART R.PART_CMD (partCmdRule a (BitVec.ofNat 32 (op * 2 ^ 28 + k * 2 ^ 16)) s)

/-! ### Retirement (R477) -/

/-- The PART_RET registers, in the order of their offsets. -/
def retReg (i : Nat) : Nat := P.PART + 0x50 + 4 * i

/-- The bits of a PART_RET register that are implemented. -/
def retMask (i : Nat) : Word := if i = 5 then 0xFFFFF else if i = 6 then 0x3FFFFFFF else 0xFFFFFFFF

/-- The resource of bit `b` of the PART_RET register `i` is in use. -/
def State.retInUse (s : State) (i b : Nat) : Bool :=
  if i = 0 ∨ i = 1 then s.definedParts.any (fun k => (s.quads k).testBit (32 * i + b))
  else if i = 2 ∨ i = 3 then s.flag (F.TU_CTRL_EN ((32 * (i - 2) + b) / 8) (b % 8))
  else if i = 4 then s.flag (F.DEC_CH_CTRL_EN (b / 8) (b % 8))
  else if i = 5 then (if b < 16 then s.flag (F.SYN_CTRL_EN b) else s.flag (F.DP_CFG_EN (b - 16)))
  else if b < 16 then s.gangRuns b || s.seqState b == rsArmed
  else if b < 24 then !s.capIdle (b - 16)
  else false

/-- A write of a PART_RET register (R477). -/
def retRule (a : Agent) (i : Nat) (v : Word) (s : State) : WRule :=
  let v := v &&& retMask i
  let new := (List.range 32).filter (fun b => v.getLsbD b && !s.bit (retReg i) b)
  { agentOk := a == .mgmt
    stateOk := new.all (fun b => !s.retInUse i b)
    eff := fun s =>
      let s := s.orReg (retReg i) v
      if i = 6 then (new.filter (fun b => decide (24 ≤ b))).foldl (fun s b => s.setFlag (F.FP_CFG_OFFLINE (b - 24)) true) s else s }

/-! ### The PART page -/

/-- A tag register pair: MGMT alone writes it (R539). -/
def mgmtRule (a : Agent) (eff : State → State) : WRule := { agentOk := a == .mgmt, eff := eff }

/-- A write of the PART page (19). -/
def partRule (a : Agent) (off : Nat) (v : Word) (s : State) : WRule :=
  let o := off - P.PART
  if o = 0x40 then partCmdRule a v s
  else if o = 0x44 then
    { agentOk := a == .mgmt
      rangeOk := bitsOf v.toNat 31 30 != 1 && ownerRange v
      eff := fun s => s.setReg off (ownerWord v) }
  else if 0x50 ≤ o ∧ o < 0x6C then retRule a ((o - 0x50) / 4) v s
  else if o = 0x70 then { eff := fun s => s.setReg off (v &&& 0xFF) }
  else if o = 0x74 ∨ o = 0x78 then
    mgmtRule a (fun s =>
      let t := s.fld F.PART_TTAG_SEL_THREAD
      let old := sget 0 s.part.ttag t
      let new : BitVec 64 := if o = 0x74 then (old.extractLsb' 32 32) ++ v else v ++ (old.extractLsb' 0 32)
      { s with part := { s.part with ttag := sset 0 s.part.ttag t new } })
  else if 0x80 ≤ o ∧ o < 0x100 then mgmtRule a (fun s => s.setReg off v)
  else if 0x200 ≤ o ∧ o < 0xA00 then
    let k := (o - 0x200) / 0x20
    let f := (o - 0x200) % 0x20
    if f = 0 then partCfgRule k v s
    else if f = 0xC then partListRule k off v 0xFFFFF s
    else if f = 0x1C then ignored
    else partListRule k off v 0xFFFFFFFF s
  else ignored

/-- PART_P_STAT as it reads: the gang's sequencer and the capture units beside the stored bits. -/
def State.partStat (s : State) (k : Nat) : Word :=
  let v := putBits (s.reg (R.PART_P_STAT k)).toNat 27 24 (if s.quads k = 0 then 0 else s.gangOfPart k)
  BitVec.ofNat 32 (putBits v 23 16 ((s.unitsOf k).foldl (fun a u => a + 2 ^ u) 0))

/-- Registers of the PART page that show state other than a stored word. -/
def State.partRead (s : State) (off : Nat) : Option Word :=
  let o := off - P.PART
  let tag := sget 0 s.part.ttag (s.fld F.PART_TTAG_SEL_THREAD)
  if o = 0x48 then some (if s.isolation then 1 else 0)
  else if o = 0x74 then some (tag.extractLsb' 0 32)
  else if o = 0x78 then some (tag.extractLsb' 32 32)
  else if 0x200 ≤ o ∧ o < 0xA00 ∧ (o - 0x200) % 0x20 = 0x1C then some (s.partStat ((o - 0x200) / 0x20))
  else none

/-! ### Commands -/

/-- PART_ARM (R473). -/
def execPartArm (a : Agent) (p : Fin 64) (s : State) : Host.Outcome State Fault Refusal := done (s.partWrite a 1 p)

/-- PART_DISARM (R473). -/
def execPartDisarm (a : Agent) (p : Fin 64) (s : State) : Host.Outcome State Fault Refusal := done (s.partWrite a 2 p)

/-- PART_PAUSE (R473). -/
def execPartPause (a : Agent) (p : Fin 64) (s : State) : Host.Outcome State Fault Refusal := done (s.partWrite a 3 p)

/-- PART_RESUME (R473). -/
def execPartResume (a : Agent) (p : Fin 64) (s : State) : Host.Outcome State Fault Refusal := done (s.partWrite a 4 p)

/-- PART_ABORT (R474). -/
def execPartAbort (a : Agent) (p : Fin 64) (s : State) : Host.Outcome State Fault Refusal := done (s.partWrite a 5 p)

/-- PART_SERVICE (R473). -/
def execPartService (a : Agent) (p : Fin 64) (s : State) : Host.Outcome State Fault Refusal := done (s.partWrite a 6 p)

/-- PART_END_SERVICE (R473). -/
def execPartEndService (a : Agent) (p : Fin 64) (s : State) : Host.Outcome State Fault Refusal := done (s.partWrite a 7 p)

/-- PART_ISOLATE (R475). -/
def execPartIsolate (a : Agent) (p : Fin 64) (s : State) : Host.Outcome State Fault Refusal := done (s.partWrite a 8 p)

/-- PART_RECOVER (R475). -/
def execPartRecover (a : Agent) (p : Fin 64) (s : State) : Host.Outcome State Fault Refusal := done (s.partWrite a 9 p)

/-- PART_DEFINE (R467). -/
def execPartDefine (a : Agent) (p : Fin 64) (s : State) : Host.Outcome State Fault Refusal :=
  done (s.writeBy a .part P.PART (R.PART_P_CFG p) (partCfgRule p 0x80000000 s))

/-- PART_UNDEFINE (R467). -/
def execPartUndefine (a : Agent) (p : Fin 64) (s : State) : Host.Outcome State Fault Refusal :=
  done (s.writeBy a .part P.PART (R.PART_P_CFG p) (partCfgRule p 0 s))

/-- PART_RETIRE (R477). -/
def execPartRetire (a : Agent) (reg : Fin 7) (bits : Word) (s : State) : Host.Outcome State Fault Refusal :=
  done (s.writeBy a .part P.PART (retReg reg) (retRule a reg bits s))

/-- CONTEXT_CHECK_PASS (R536): every context is read; an injection, and each error found, moves a partition to FAULTED. -/
def execContextCheckPass (bad : List (Fin 64)) (s : State) : Host.Outcome State Fault Refusal :=
  let s := (s.ctxRead 0).2
  done (bad.foldl (fun s k => s.ctxError k false) s)

end Sys2Proof.Machine
end

