-- ==== Sys2Proof/Machine/Tia.lean ====
section
/-! DEFINITION. Time-interval units: arms, edges at the front ends, stamps, timeouts (08). -/

namespace Sys2Proof.Machine

open Sys2Proof

/-! ### Units -/

/-- The state behind TUu. -/
def State.tu (s : State) (u : Nat) : Tu := sget Tu.init s.tus u

/-- Stores the state behind TUu. -/
def State.setTu (s : State) (u : Nat) (x : Tu) : State := { s with tus := sset Tu.init s.tus u x }

/-- TU_STAT.STATE codes. -/
abbrev tuOff : Nat := 0
abbrev tuIdle : Nat := 1
abbrev tuArmed : Nat := 2
abbrev tuDone : Nat := 3
abbrev tuCal : Nat := 4

/-- The state of TUu. -/
def State.tuState (s : State) (u : Nat) : Nat := s.fld (F.TU_STAT_STATE (u / 8) (u % 8))

/-- Stores the state of TUu. -/
def State.setTuState (s : State) (u st : Nat) : State := s.setFld (F.TU_STAT_STATE (u / 8) (u % 8)) st

/-- A flag of TU_STAT. -/
def State.tuFlag (s : State) (u : Nat) (f : Nat → Nat → Fld) : Bool := s.flag (f (u / 8) (u % 8))

/-- Stores a flag of TU_STAT. -/
def State.setTuFlag (s : State) (u : Nat) (f : Nat → Nat → Fld) (b : Bool) : State := s.setFlag (f (u / 8) (u % 8)) b

/-- TCNT value `a` is at or after `b`, modulo 2^56. -/
def tcntFrom (a b : Nat) : Bool := decide ((a + 2 ^ 56 - b % 2 ^ 56) % 2 ^ 56 < 2 ^ 55)

/-- COARSE and FINE of the start (false) or stop (true) stamp of TUu. -/
def State.stamp (s : State) (u : Nat) (stop : Bool) : Nat × Nat :=
  let hi := (s.reg (if stop then R.TU_STOP_C_HI (u / 8) (u % 8) else R.TU_START_C_HI (u / 8) (u % 8))).toNat
  let lo := (s.reg (if stop then R.TU_STOP_C_LO (u / 8) (u % 8) else R.TU_START_C_LO (u / 8) (u % 8))).toNat
  (hi % 2 ^ 24 * 2 ^ 32 + lo, hi / 2 ^ 24)

/-! ### The end of a measurement (R229 to R231, R235) -/

/-- COINCIDENT and ORDER of two stamps (R231): one edge of one front end gives one COARSE, which its re-arm keeps for itself. -/
def State.compareStamps (s : State) (u : Nat) : Bool × Bool :=
  let a := s.stamp u false
  let b := s.stamp u true
  let same := s.fld (F.TU_START_CFG_SRC (u / 8) (u % 8)) == s.fld (F.TU_STOP_CFG_SRC (u / 8) (u % 8)) && a.1 == b.1
  let co := same || a == b
  (co, !co && (!tcntFrom b.1 a.1 || (a.1 == b.1 && decide (a.2 < b.2))))

/-- TUu enters DONE with its flags. -/
def State.tuEnd (s : State) (u : Nat) (cancel : Bool) : State :=
  let a := s.tuFlag u F.TU_STAT_START_TAKEN
  let b := s.tuFlag u F.TU_STAT_STOP_TAKEN
  let cmp := s.compareStamps u
  let s := (s.setTuFlag u F.TU_STAT_START_MISS (!a)).setTuFlag u F.TU_STAT_STOP_MISS (!b)
  let s := (s.setTuFlag u F.TU_STAT_COINCIDENT (a && b && cmp.1)).setTuFlag u F.TU_STAT_ORDER (a && b && cmp.2)
  let s := s.setTuFlag u F.TU_STAT_CANCEL cancel
  let late := if b && !(a && cmp.2) then s.fld (F.TU_GEN_STOP_GEN (u / 8) (u % 8)) else s.fld (F.TU_GEN_START_GEN (u / 8) (u % 8))
  let s := s.setFld (F.TU_STAT_GEN (u / 8) (u % 8)) late
  let s := s.countBy (R.xx_BLK_COUNT (P.TIA (u / 8))) ((if a then 1 else 0) + (if b then 1 else 0))
  (s.setTuState u tuDone).event (P.TIA (u / 8)) (E.TIA_DONE (u % 8))

/-- An ARMED unit ends as by a disarm (R230, R234). -/
def State.tuDisarm (s : State) (u : Nat) : State := if s.tuState u == tuArmed then s.tuEnd u true else s

/-- Entry to CALIBRATE or SERVICE ends every ARMED unit (R234). -/
def State.tuDisarmAll (s : State) : State := (List.range 64).foldl State.tuDisarm s

/-! ### Arming (R229, R236) -/

/-- TUu is armed: the arm point is the next DCLK edge. -/
def State.tuArm (s : State) (u : Nat) : State :=
  let n := u / 8
  let k := u % 8
  let s := s.setReg (R.TU_STAT n k) (BitVec.ofNat 32 (if s.flag (F.TU_STAT_STALE n k) then 4096 else 0))
  let s := [R.TU_START_C_LO n k, R.TU_START_C_HI n k, R.TU_START_IT_LO n k, R.TU_START_IT_HI n k, R.TU_STOP_C_LO n k,
    R.TU_STOP_C_HI n k, R.TU_STOP_IT_LO n k, R.TU_STOP_IT_HI n k, R.TU_EDGES n k, R.TU_GEN n k].foldl (fun s o => s.setReg o 0) s
  (s.setTuState u tuArmed).setTu u { s.tu u with armAt := (s.time.tcnt.toNat + 4) % 2 ^ 56, starts := 0, stops := 0 }

/-- TUu is retired (R477). -/
def State.tuRetired (s : State) (u : Nat) : Bool := (s.reg64 R.PART_RET_TU_LO R.PART_RET_TU_HI).getLsbD u

/-- The device is in a mode in which no measurement unit is enabled (R236, R256, R273). -/
def State.noMeasure (s : State) : Bool := s.mode == mCalibrate || s.mode == mService || s.mode == mQuarantine

/-- EN of TUu changes. -/
def State.tuEnable (s : State) (u : Nat) (on : Bool) : State :=
  let s := s.setTuFlag u F.TU_CTRL_EN on
  let s := if on then (if s.tuState u == tuCal then s.setTu u { s.tu u with prior := tuIdle } else s.setTuState u tuIdle)
    else if s.tuState u == tuCal then s.setTu u { s.tu u with prior := tuOff }
    else (s.tuDisarm u).setTuState u tuOff
  s.deriveMode

/-- A write of TU_CTRL (R236). -/
def tuCtrlRule (u : Nat) (v : Word) (s : State) : WRule :=
  let st := s.tuState u
  let en := s.tuFlag u F.TU_CTRL_EN
  let rest := st == tuOff || st == tuIdle || st == tuDone
  let sets := v.getLsbD 0 && !en
  let arm := v.getLsbD 1
  { stateOk := (v.getLsbD 3 == s.tuFlag u F.TU_CTRL_TMO_EN || rest)
      && (!(sets || arm) || (!s.noMeasure && st != tuCal && !(sets && s.tuRetired u)))
      && (!arm || (st != tuArmed && v.getLsbD 0))
    eff := fun s =>
      let s := s.setTuFlag u F.TU_CTRL_TMO_EN (v.getLsbD 3)
      let s := if v.getLsbD 2 then s.tuDisarm u else s
      let s := if v.getLsbD 0 != en then s.tuEnable u (v.getLsbD 0) else s
      if arm then s.tuArm u else s }

/-- A source code of R223. -/
def tuSource (c : Nat) : Bool := decide (c ≤ 0x30A)

/-- A write of a TIAn page (08). -/
def tiaRule (n off : Nat) (v : Word) (s : State) : WRule :=
  let o := off - P.TIA n
  if o = 0x48 then
    { rangeOk := decide (16 ≤ v.toNat % 32) && decide (v.toNat % 32 ≤ 24), eff := fun s => s.setReg off (v &&& 0x1F) }
  else if 0x80 ≤ o ∧ o < 0x280 then
    let u := 8 * n + (o - 0x80) / 0x40
    let f := (o - 0x80) % 0x40
    let rest := s.tuState u == tuOff || s.tuState u == tuIdle || s.tuState u == tuDone
    if f = 0 then tuCtrlRule u v s
    else if f = 4 ∨ f = 8 then
      { stateOk := rest
        rangeOk := bitsOf v.toNat 15 14 != 3 && tuSource (v.toNat % 1024)
        eff := fun s => s.setReg off (v &&& (if f = 4 then 0xFFFFC3FF else 0xFFFFE3FF)) }
    else if f = 0xC then { stateOk := rest, rangeOk := v != 0, eff := fun s => s.setReg off v }
    else ignored
  else ignored

/-- Registers of a TIAn page that show state other than a stored word. -/
def State.tiaRead (s : State) (n off : Nat) : Option Word :=
  let o := off - P.TIA n
  if o = 0x40 then some (s.time.tcnt.setWidth 32)
  else if o = 0x44 then some (BitVec.ofNat 32 (s.time.epoch.toNat * 2 ^ 24 + bitsOf s.time.tcnt.toNat 55 32))
  else none

/-! ### Edges at a front end (R223 to R226, R229) -/

/-- An edge at the front end of a source: code, page of the ring, polarity, COARSE, and the code of each interpolator. -/
structure FrontEdge where
  src : Nat
  page : Nat
  rise : Bool
  coarse : Nat
  fine : Nat → Nat

/-- The key of a front end: each page has its own calibration ring. -/
def FrontEdge.key (e : FrontEdge) : Nat := if e.src = 0x30A then 0x400 + e.page else e.src

/-- A channel of TUu (false start, true stop) takes its edges from that front end and counts that edge. -/
def State.qualifies (s : State) (e : FrontEdge) (u : Nat) (stop : Bool) : Bool :=
  let n := u / 8
  let k := u % 8
  let edge := s.fld (if stop then F.TU_STOP_CFG_EDGE n k else F.TU_START_CFG_EDGE n k)
  s.fld (if stop then F.TU_STOP_CFG_SRC n k else F.TU_START_CFG_SRC n k) == e.src && (e.src != 0x30A || e.page == n)
    && (edge == 2 || (edge == 0 && e.rise) || (edge == 1 && !e.rise))
    && tcntFrom e.coarse (s.tu u).armAt
    && (!stop || !s.flag (F.TU_STOP_CFG_ARM_AFTER n k)
      || (s.tuFlag u F.TU_STAT_START_TAKEN && (s.stamp u false).1 != e.coarse && tcntFrom e.coarse (s.stamp u false).1))

/-- A stamp of TUu is taken (R226, R235). -/
def State.takeStamp (s : State) (e : FrontEdge) (u : Nat) (stop : Bool) (count : Nat) : State :=
  let n := u / 8
  let k := u % 8
  let fine := e.fine (2 * u + (if stop then 1 else 0))
  let hi := BitVec.ofNat 32 (fine * 2 ^ 24 + bitsOf e.coarse 55 32)
  let gen := s.fld (F.TIA_GEN_GEN n)
  if stop then
    let s := (s.setReg (R.TU_STOP_C_LO n k) (BitVec.ofNat 32 e.coarse)).setReg (R.TU_STOP_C_HI n k) hi
    let s := s.setReg64 (R.TU_STOP_IT_LO n k) (R.TU_STOP_IT_HI n k) s.now
    let s := (s.setFld (F.TU_EDGES_STOP n k) (min 0xFFFF count)).setFld (F.TU_GEN_STOP_GEN n k) gen
    s.setFlag (F.TU_STAT_STOP_TAKEN n k) true
  else
    let s := (s.setReg (R.TU_START_C_LO n k) (BitVec.ofNat 32 e.coarse)).setReg (R.TU_START_C_HI n k) hi
    let s := s.setReg64 (R.TU_START_IT_LO n k) (R.TU_START_IT_HI n k) s.now
    let s := (s.setFld (F.TU_EDGES_START n k) (min 0xFFFF count)).setFld (F.TU_GEN_START_GEN n k) gen
    s.setFlag (F.TU_STAT_START_TAKEN n k) true

/-- An edge meets a channel of TUu (R229): counted, and stamped or found too close (R225). Answers whether it launched. -/
def State.channelEdge (s : State) (e : FrontEdge) (rearm : Bool) (u : Nat) (stop : Bool) : Bool × State :=
  let n := u / 8
  let k := u % 8
  let taken := s.tuFlag u (if stop then F.TU_STAT_STOP_TAKEN else F.TU_STAT_START_TAKEN)
  if s.tuState u != tuArmed || taken || !s.qualifies e u stop then (false, s)
  else
    let x := s.tu u
    let count := (if stop then x.stops else x.starts) + 1
    let s := s.setTu u (if stop then { x with stops := count } else { x with starts := count })
    if count ≤ s.fld (if stop then F.TU_STOP_CFG_SKIP n k else F.TU_START_CFG_SKIP n k) then (false, s)
    else if rearm then
      (false, (s.setFlag (if stop then F.TU_STAT_TOO_CLOSE_STOP n k else F.TU_STAT_TOO_CLOSE_START n k) true).event (P.TIA n)
        (E.TIA_TOO_CLOSE k))
    else (true, s.takeStamp e u stop count)

/-- The front end of an edge is in its re-arm (R225). -/
def State.inRearm (s : State) (e : FrontEdge) : Bool :=
  match s.fronts.find? (fun x => x.1 == e.key) with
  | some (_, epoch, k) => epoch == s.time.epoch.toNat && !tcntFrom e.coarse (k + 40)
  | none => false

/-- One edge meets both channels of every unit; then units with both stamps end (R229). -/
def State.frontEdge (s : State) (e : FrontEdge) : State :=
  let rearm := s.inRearm e
  let step := fun (p : Bool × State) (u : Nat) =>
    (match p.2.channelEdge e rearm u false with
     | (a, s) =>
       match s.channelEdge e rearm u true with
       | (b, s) =>
         (p.1 || a || b, if s.tuState u == tuArmed && s.tuFlag u F.TU_STAT_START_TAKEN && s.tuFlag u F.TU_STAT_STOP_TAKEN then
           s.tuEnd u false else s))
  match (List.range 64).foldl step (false, s) with
  | (true, s) => { s with fronts := (e.key, s.time.epoch.toNat, e.coarse) :: s.fronts.filter (fun x => x.1 != e.key) }
  | (false, s) => s

/-- FRONT_END_EDGE (R224): an edge passes the front end of a source before the TCLK edge `sub` of this DCLK; `fine` is the code of
the interpolators, but for those that `fines` lists (start of TUu at 2u, stop at 2u + 1). -/
def execFrontEndEdge (src : BitVec 10) (page : Fin 8) (rise : Bool) (sub : Fin 4) (fine : Fin 192) (fines : List (Fin 128 × Fin 192))
    (s : State) : Host.Outcome State Fault Refusal :=
  done (if !tuSource src.toNat then s
    else s.frontEdge {
      src := src.toNat, page := page, rise := rise, coarse := (s.time.tcnt.toNat + sub) % 2 ^ 56
      fine := fun i => ((fines.find? (fun x => x.1.val == i)).map (fun x => x.2.val)).getD fine })

/-! ### Commands -/

/-- A write of TU_CTRL that keeps TMO_EN. -/
def State.tuWrite (s : State) (a : Agent) (u bits : Nat) : State :=
  s.writeBy a .tia (P.TIA (u / 8)) (R.TU_CTRL (u / 8) (u % 8))
    (tuCtrlRule u (BitVec.ofNat 32 (bits + (if s.tuFlag u F.TU_CTRL_TMO_EN then 8 else 0))) s)

/-- TU_ARM (R229): EN is written 1 with it. -/
def execTuArm (a : Agent) (u : Fin 64) (s : State) : Host.Outcome State Fault Refusal := done (s.tuWrite a u 3)

/-- TU_DISARM (R230): EN keeps its value. -/
def execTuDisarm (a : Agent) (u : Fin 64) (s : State) : Host.Outcome State Fault Refusal :=
  done (s.tuWrite a u (4 + (if s.tuFlag u F.TU_CTRL_EN then 1 else 0)))

/-- TU_EN_WRITE (R236). -/
def execTuEnWrite (a : Agent) (u : Fin 64) (en : Bool) (s : State) : Host.Outcome State Fault Refusal :=
  done (s.tuWrite a u (if en then 1 else 0))

/-- TU_TIMEOUT (R230). -/
def execTuTimeout (u : Fin 64) (s : State) : Host.Outcome State Fault Refusal :=
  done (if s.tuState u == tuArmed && s.tuFlag u F.TU_CTRL_TMO_EN then s.tuEnd u false else s)

end Sys2Proof.Machine
end

