-- ==== Sys2Proof/Machine/Dec.lean ====
section
/-! DEFINITION. Decimation channels: the post-filter, scaling, settling, clock loss, coefficient banks and swaps, detectors and
limits (09). -/

namespace Sys2Proof.Machine

open Sys2Proof

/-! ### Channels: DXc is local channel c mod 8 of page c / 8 -/

/-- The state behind DXc. -/
def State.dec (s : State) (c : Nat) : DecCh := sget DecCh.init s.decs c

/-- Stores the state behind DXc. -/
def State.setDec (s : State) (c : Nat) (x : DecCh) : State := { s with decs := sset DecCh.init s.decs c x }

/-- DEC_CH_STAT.STATE codes. -/
abbrev dcOff : Nat := 0
abbrev dcSettling : Nat := 1
abbrev dcRun : Nat := 2
abbrev dcNoClock : Nat := 3
abbrev dcCal : Nat := 4
abbrev dcFault : Nat := 5

/-- The state of DXc. -/
def State.decState (s : State) (c : Nat) : Nat := s.fld (F.DEC_CH_STAT_STATE (c / 8) (c % 8))

/-- Stores the state of DXc. -/
def State.setDecState (s : State) (c st : Nat) : State := s.setFld (F.DEC_CH_STAT_STATE (c / 8) (c % 8)) st

/-- The window offset of a register of DXc. -/
def decOff (c o : Nat) : Nat := R.DEC_CH_CTRL (c / 8) (c % 8) + o

/-- A shadowed register of DXc as the channel has it in force (R248). -/
def State.decReg (s : State) (c o : Nat) : Nat := (sget (regReset (decOff c o)) (s.dec c).force (decOff c o)).toNat

/-- The shadowed registers of a channel (R248). -/
def decShadowed : List Nat := [4, 8, 0x10, 0x14, 0x18, 0x1C, 0x20, 0x24, 0x28, 0x2C, 0x88, 0x8C]

/-- DXc is enabled. -/
def State.decOn (s : State) (c : Nat) : Bool := s.flag (F.DEC_CH_CTRL_EN (c / 8) (c % 8))

/-- DXc forms samples. -/
def State.decForms (s : State) (c : Nat) : Bool := s.decState c == dcSettling || s.decState c == dcRun

/-! ### Presets and banks (R239, R240, R249) -/

/-- The OSR of a preset (R239). -/
def presetOsr (p : Nat) : Nat := if p = 0 then 32 else if p = 1 then 64 else if p = 2 then 256 else if p = 3 then 1024 else 4096

/-- The settling count of a preset (R239). -/
def presetSettle (p : Nat) : Nat := if p = 0 then 5 else if p = 1 then 9 else 18

/-- PRESET in force. -/
def State.decPreset (s : State) (c : Nat) : Nat := bitsOf (s.decReg c 4) 2 0

/-- POST_OSR in force. -/
def State.decOsr (s : State) (c : Nat) : Nat := bitsOf (s.decReg c 4) 13 8

/-- RANGE in force. -/
def State.decRange (s : State) (c : Nat) : Nat := bitsOf (s.decReg c 4) 17 16

/-- A word of a coefficient bank, false A and true B. -/
def State.bankWord (s : State) (c : Nat) (b : Bool) (w : Nat) : Nat :=
  (s.tab (0x1B00000 + c * 0x2000 + (if b then 0x1000 else 0) + 4 * w)).toNat

/-- TAPS of a bank. -/
def State.taps (s : State) (c : Nat) (b : Bool) : Nat := s.bankWord c b 0 % 2048

/-- The active bank of DXc. -/
def State.activeBank (s : State) (c : Nat) : Bool := s.flag (F.DEC_CH_SWAP_STAT_ACTIVE (c / 8) (c % 8))

/-- The most taps of an active bank (R240). -/
def State.tapLimit (s : State) (c : Nat) : Nat := min 1023 (12 * presetOsr (s.decPreset c) * s.decOsr c)

/-- The settling count S (R244). -/
def State.settleCount (s : State) (c : Nat) : Nat :=
  let n := presetSettle (s.decPreset c) + s.taps c (s.activeBank c)
  let p := max 1 (s.decOsr c)
  (n + p - 1) / p

/-- A bank is in use (R249). -/
def State.bankInUse (s : State) (c : Nat) (b : Bool) : Bool :=
  let n := c / 8
  let k := c % 8
  s.activeBank c == b || s.flag (F.DEC_CH_SWAP_STAT_FADING n k)
    || (s.flag (F.DEC_CH_SWAP_STAT_PENDING n k) && s.flag (F.DEC_CH_SWAP_STAT_PEND_TARGET n k) == b)

/-! ### Swaps (R250, R251) -/

/-- The result of the latest request taken. -/
def State.swapResult (s : State) (c r : Nat) : State := s.setFld (F.DEC_CH_SWAP_STAT_RESULT (c / 8) (c % 8)) r

/-- A cross-fade ends: the new bank alone feeds the post-filter. -/
def State.fadeEnd (s : State) (c : Nat) : State :=
  let n := c / 8
  let k := c % 8
  let s := (s.setFlag (F.DEC_CH_SWAP_STAT_FADING n k) false).setFld (F.DEC_CH_SWAP_STAT_FADE_LEFT n k) 0
  (s.setDec c { s.dec c with fade := 0 }).event (P.DEC n) (E.DEC_SWAP_DONE k)

/-- The pending request of DXc is taken (R250): `fades` says that it may cross-fade. A change of T while settling gives a new
count (R251). -/
def State.swapTake (s : State) (c : Nat) (fades : Bool) : State :=
  let n := c / 8
  let k := c % 8
  if !s.flag (F.DEC_CH_SWAP_STAT_PENDING n k) then s
  else
    let b := s.flag (F.DEC_CH_SWAP_STAT_PEND_TARGET n k)
    let x := (s.dec c).pendFade
    let s := s.setFlag (F.DEC_CH_SWAP_STAT_PENDING n k) false
    if b == s.activeBank c then s.swapResult c 2
    else if s.tapLimit c < s.taps c b then s.swapResult c 1
    else
      let t := s.taps c (s.activeBank c)
      let s := (s.swapResult c 0).setFlag (F.DEC_CH_SWAP_STAT_ACTIVE n k) b
      if fades && decide (0 < x) then
        let s := (s.setFlag (F.DEC_CH_SWAP_STAT_FADING n k) true).setFld (F.DEC_CH_SWAP_STAT_FADE_LEFT n k) x
        s.setDec c { s.dec c with fade := x }
      else
        let s := s.event (P.DEC n) (E.DEC_SWAP_DONE k)
        if s.decState c == dcSettling && s.taps c b != t then s.setFld (F.DEC_CH_STAT_SETTLE_LEFT n k) (s.settleCount c) else s

/-! ### Restarts (R244) -/

/-- DXc restarts: a fade ends, a pending swap is taken, and the settling count starts. -/
def State.decRestart (s : State) (c : Nat) (clear : Bool) : State :=
  let n := c / 8
  let k := c % 8
  let s := if s.flag (F.DEC_CH_SWAP_STAT_FADING n k) then s.fadeEnd c else s
  let s := s.swapTake c false
  let s := (s.setDecState c dcSettling).setFld (F.DEC_CH_STAT_SETTLE_LEFT n k) (s.settleCount c)
  s.setDec c { s.dec c with
    hist := if clear then [] else (s.dec c).hist, restart := false, first := true, pk := (0, 0, 0, 0), rms := (0, 0) }

/-- A restart from which SEQ counts anew (R242): by EN or a clock resume. -/
def State.decFresh (s : State) (c : Nat) : State :=
  let s := s.decRestart c true
  s.setDec c { s.dec c with seq := 0 }

/-- DXc applies its part of a transfer (R244, R248): a change of the chain or of the range restarts a channel that forms
samples. -/
def State.decApply (s : State) (c : Nat) : State :=
  let old := s.decReg c 4
  let l := decShadowed.foldl (fun l o => sset (regReset (decOff c o)) l (decOff c o) (s.activeReg (decOff c o))) (s.dec c).force
  let s := s.setDec c { s.dec c with force := l, due := false }
  let new := s.decReg c 4
  if !s.decForms c then s
  else if bitsOf old 23 20 != bitsOf new 23 20 || bitsOf old 13 8 != bitsOf new 13 8 || bitsOf old 2 0 != bitsOf new 2 0 then
    s.decRestart c true
  else if bitsOf old 17 16 != bitsOf new 17 16 then s.decRestart c false
  else s

/-- The transfer of a DEC page (R48, R248): channels that form no samples, and those at whose boundary it falls (`now`), apply
their part; the others wait for theirs. -/
def State.decTransfer (s : State) (n : Nat) (now : Nat → Bool) : State :=
  let s := (s.copyShadow (P.DEC n) (fun _ => false)).transferred (P.DEC n) |>.setFlag (F.xx_STAT_SHADOW_DIRTY (P.DEC n)) false
  (List.range 8).foldl (fun s k =>
    let c := 8 * n + k
    if !s.decForms c || now c then s.decApply c else s.setDec c { s.dec c with due := true }) s

/-! ### One output sample (R240 to R243) -/

/-- The quotient of two integers rounded to nearest, halves away from zero. -/
def roundAway (a : Int) (d : Nat) : Int := if 0 ≤ a then (2 * a + d) / (2 * d) else -((2 * (-a) + d) / (2 * d))

/-- The post-filter's output in units of 2^-22 (R240). -/
def State.postFilter (s : State) (c : Nat) (b : Bool) : Int :=
  let h := (s.dec c).hist
  let t := s.taps c b
  if t = 0 then h.headD 0 * 2 ^ 22
  else ((List.range t).map (fun j => signedOf 24 (s.bankWord c b (j + 1)) * h.getD j 0)).sum

/-- The output sample (R241, R250) and whether it saturates: `i` is its number in a cross-fade of `x` samples. -/
def State.decValue (s : State) (c x i : Nat) : Int × Bool :=
  let a := s.activeBank c
  let v := s.postFilter c a
  let d := if x = 0 then 1 else x + 1
  let v := if x = 0 then v else s.postFilter c (!a) * (x + 1 - i : Nat) + v * i
  let r := s.decRange c
  let ofs := signedOf 24 (s.decReg c (0x20 + 4 * r)) + signedOf 24 (s.reg (R.DEC_CH_CAL_OFS (c / 8) (c % 8) r)).toNat
  let y := roundAway ((v - ofs * 2 ^ 22 * d) * (s.decReg c (0x10 + 4 * r) % 2 ^ 24)) (2 ^ 44 * d)
  if 8388607 < y then (8388607, true) else if y < -8388608 then (-8388608, true) else (y, false)

/-- The peak detector (R252). -/
def State.decPeak (s : State) (c : Nat) (y : Int) : State :=
  let n := c / 8
  let k := c % 8
  let x := (s.dec c).pk
  let new := if x.1 = 0 then (1, y, y, s.now)
    else if x.2.1 < y then (x.1 + 1, y, min x.2.2.1 y, s.now) else (x.1 + 1, x.2.1, min x.2.2.1 y, x.2.2.2)
  if 2 ^ bitsOf (s.decReg c 8) 4 0 ≤ new.1 then
    let s := s.setDec c { s.dec c with pk := (0, 0, 0, 0) }
    let s := s.setReg (R.DEC_DET_PKMAX n k) (BitVec.ofNat 32 (unsignedOf 24 new.2.1))
    let s := s.setReg (R.DEC_DET_PKMIN n k) (BitVec.ofNat 32 (unsignedOf 24 new.2.2.1))
    s.setReg64 (R.DEC_DET_PKSTAMP_LO n k) (R.DEC_DET_PKSTAMP_HI n k) new.2.2.2
  else s.setDec c { s.dec c with pk := new }

/-- The RMS detector (R253). -/
def State.decRms (s : State) (c : Nat) (y : Int) : State :=
  let n := c / 8
  let k := c % 8
  let log := bitsOf (s.decReg c 8) 12 8
  let m := (s.dec c).rms.1 + 1
  let sum := (s.dec c).rms.2 + y.natAbs * y.natAbs
  if 2 ^ log ≤ m then
    let ms := sum / 2 ^ log
    let s := s.setDec c { s.dec c with rms := (0, 0) }
    let s := s.setReg64 (R.DEC_DET_MS_LO n k) (R.DEC_DET_MS_HI n k) (BitVec.ofNat 64 (ms % 2 ^ 48))
    s.setReg (R.DEC_DET_RMS n k) (BitVec.ofNat 32 (Nat.sqrt ms % 2 ^ 24))
  else s.setDec c { s.dec c with rms := (m, sum) }

/-- The envelope detector (R254). -/
def State.decEnv (s : State) (c : Nat) (y : Int) (first : Bool) : State :=
  let o := R.DEC_DET_ENV (c / 8) (c % 8)
  let a := y.natAbs
  let e := (s.reg o).toNat
  let v := if first then a
    else if e < a then e + (a - e) / 2 ^ bitsOf (s.decReg c 8) 19 16
    else e - (e - a) / 2 ^ bitsOf (s.decReg c 8) 23 20
  s.setReg o (BitVec.ofNat 32 v)

/-- The limits (R255). -/
def State.decLimits (s : State) (c : Nat) (y : Int) : State :=
  let n := c / 8
  let k := c % 8
  let hi := decide (signedOf 24 (s.decReg c 0x88) < y)
  let lo := decide (y < signedOf 24 (s.decReg c 0x8C))
  if !hi && !lo then s
  else
    let clear := !s.flag (F.DEC_CH_STAT_LIM_HI n k) && !s.flag (F.DEC_CH_STAT_LIM_LO n k)
    let s := if clear then s.setReg64 (R.DEC_DET_LIMSTAMP_LO n k) (R.DEC_DET_LIMSTAMP_HI n k) s.now else s
    let s := if hi then s.setFlag (F.DEC_CH_STAT_LIM_HI n k) true else s
    (if lo then s.setFlag (F.DEC_CH_STAT_LIM_LO n k) true else s).event (P.DEC n) (E.DEC_LIMIT k)

/-- A delivered sample (R242, R243, R252 to R255). -/
def State.decDeliver (s : State) (c : Nat) (y : Int) (sat first fade : Bool) : State :=
  let n := c / 8
  let k := c % 8
  let val := unsignedOf 24 y + (if sat then 2 ^ 24 else 0) + (if first then 2 ^ 25 else 0) + (if fade then 2 ^ 26 else 0)
    + s.decRange c * 2 ^ 27 + (if s.activeBank c then 2 ^ 29 else 0)
  let s := s.setReg (R.DEC_CH_VAL n k) (BitVec.ofNat 32 val)
  let s := s.setReg64 (R.DEC_CH_VSTAMP_LO n k) (R.DEC_CH_VSTAMP_HI n k) s.now
  let s := if sat then s.setFlag (F.DEC_CH_STAT_SAT n k) true else s
  let s := s.setFlag (F.DEC_CH_STAT_STALE n k) false
  let s := (((s.decPeak c y).decRms c y).decEnv c y first).decLimits c y
  let s := s.count (R.xx_BLK_COUNT (P.DEC n))
  if s.flag (F.DEC_CH_OUT_EN n k) then
    match s.queueOffer (s.fld (F.DEC_CH_OUT_QUEUE n k)) c s.now (BitVec.ofNat 64 (val + (s.dec c).seq * 2 ^ 32 + c * 2 ^ 48)) with
    | (true, s) => s
    | (false, s) => s.count (R.DEC_CH_DROP n k)
  else s

/-- The check of the bank words that the post-filter reads (R249): a double-bit error puts the channel in FAULT. -/
def State.coefCheck (s : State) (c : Nat) (chk : EccCheck) : Bool × State :=
  let p := P.DEC (c / 8)
  match s.takeInj p X.DEC_COEF_ECC with
  | (true, s) => (false, (s.faultInj p X.DEC_COEF_ECC true).setDecState c dcFault)
  | (false, s) =>
    match chk with
    | .clean => (true, s)
    | .corrected => (true, s.count (R.xx_CE_COUNT p))
    | .double => (false, (s.fault p X.DEC_COEF_ECC).setDecState c dcFault)

/-- A sample of DXc is formed: suppressed while it settles, else delivered (R244). -/
def State.decForm (s : State) (c : Nat) : State :=
  let n := c / 8
  let k := c % 8
  let left := s.fld (F.DEC_CH_STAT_SETTLE_LEFT n k)
  let x := (s.dec c).fade
  let fl := s.fld (F.DEC_CH_SWAP_STAT_FADE_LEFT n k)
  let v := s.decValue c x (x + 1 - fl)
  if s.decState c == dcSettling && left != 0 then
    (s.setFld (F.DEC_CH_STAT_SETTLE_LEFT n k) (left - 1)).count (R.DEC_CH_SUPP n k)
  else
    let first := (s.dec c).first
    let s := s.decDeliver c v.1 v.2 first (x != 0)
    let s := s.setDec c { s.dec c with first := false }
    if s.decState c == dcSettling then (s.setDecState c dcRun).event (P.DEC n) (E.DEC_SETTLED k) else s

/-- What an output-sample boundary brings after its sample (R244, R248, R250, R251): a commit, the fade's end, a restart asked
for, the pending swap. -/
def State.decBoundary (s : State) (c : Nat) : State :=
  let n := c / 8
  let k := c % 8
  let s := if s.commitReady (P.DEC n) then s.decTransfer n (fun d => d == c)
    else if (s.dec c).due then s.decApply c else s
  let fl := s.fld (F.DEC_CH_SWAP_STAT_FADE_LEFT n k)
  let s := if !s.flag (F.DEC_CH_SWAP_STAT_FADING n k) then s
    else if fl ≤ 1 then s.fadeEnd c else s.setFld (F.DEC_CH_SWAP_STAT_FADE_LEFT n k) (fl - 1)
  let s := if (s.dec c).restart then s.decRestart c false else s
  if s.flag (F.DEC_CH_SWAP_STAT_FADING n k) then s else s.swapTake c (s.decState c == dcRun)

/-- DEC_OUTPUT_SAMPLE (R240 to R244): the preset chain has formed the samples `us` (oldest first) that complete an output sample
of DXc; `chk` is the check of the bank words read. -/
def execDecOutputSample (ch : Fin 32) (us : List Word) (chk : EccCheck) (s : State) : Host.Outcome State Fault Refusal :=
  let c := ch.val
  done (if !s.decForms c then s
    else
      match s.coefCheck c chk with
      | (false, s) => s
      | (true, s) =>
        let x := s.dec c
        let seq := (x.seq + 1) % 65536
        let s := s.setDec c { x with hist := ((us.map BitVec.toInt).reverse ++ x.hist).take 1024, seq := seq }
        ((s.setReg (R.DEC_CH_SEQ (c / 8) (c % 8)) (BitVec.ofNat 32 seq)).decForm c).decBoundary c)

/-! ### Enables, the clock (R245, R246, R256) -/

/-- The page's clock is lost or too fast: its channels form nothing. -/
def State.decStopped (s : State) (n : Nat) : Bool := s.flag (F.DEC_CLK_STAT_NO_CLOCK n) || s.flag (F.DEC_CLK_STAT_OVERCLOCK n)

/-- EN of DXc changes (R244, R256). -/
def State.decEnable (s : State) (c : Nat) (on : Bool) : State :=
  let n := c / 8
  let k := c % 8
  let s := s.setFlag (F.DEC_CH_CTRL_EN n k) on
  let s := if on then
      (if s.decStopped n then s.setDecState c dcNoClock else s.decFresh c)
    else
      let s := s.setDecState c dcOff
      let s := if s.flag (F.DEC_CH_SWAP_STAT_FADING n k) then s.fadeEnd c else s
      let s := if (s.dec c).due then s.decApply c else s
      s.swapTake c false
  s.deriveMode

/-- A write of DEC_CH_CTRL (R256, R477). -/
def decCtrlRule (c : Nat) (v : Word) (s : State) : WRule :=
  let on := s.decOn c
  { stateOk := !(v.getLsbD 0 && !on) || (!s.noMeasure && !s.bit R.PART_RET_DX c)
    eff := fun s =>
      let s := if v.getLsbD 0 != on then s.decEnable c (v.getLsbD 0) else s
      if v.getLsbD 2 && s.decForms c then s.setDec c { s.dec c with restart := true } else s }

/-- A write of DEC_CH_SWAP (R250, R251). -/
def decSwapRule (c : Nat) (v : Word) : WRule :=
  let n := c / 8
  let k := c % 8
  { eff := fun s =>
      let s := if s.flag (F.DEC_CH_SWAP_STAT_FADING n k) then s.count (R.DEC_SWAP_DEFERRED n k) else s
      let s := s.setDec c { s.dec c with pendFade := bitsOf v.toNat 11 0 }
      let s := (s.setFlag (F.DEC_CH_SWAP_STAT_PENDING n k) true).setFlag (F.DEC_CH_SWAP_STAT_PEND_TARGET n k) (v.getLsbD 16)
      if s.decForms c then s else s.swapTake c false }

/-- A write of DEC_CH_CFG or DEC_DET_CFG is in range (R239, R240, R253). -/
def decCfgOk (f : Nat) (v : Word) : Bool :=
  if f = 4 then decide (v.toNat % 8 ≤ 4) && bitsOf v.toNat 13 8 != 0
  else if f = 8 then decide (bitsOf v.toNat 4 0 ≤ 20) && decide (bitsOf v.toNat 12 8 ≤ 20)
  else true

/-- A write of a DECn page (09). -/
def decRule (n off : Nat) (v : Word) (s : State) : WRule :=
  let o := off - P.DEC n
  if o = 0x40 then
    { stateOk := (List.range 8).all (fun k => !s.decOn (8 * n + k)), eff := fun s => s.setReg off (v &&& 1) }
  else if 0x100 ≤ o ∧ o < 0x900 then
    let c := 8 * n + (o - 0x100) / 0x100
    let f := o % 0x100
    if f = 0 then decCtrlRule c v s
    else if f = 0x40 then decSwapRule c v
    else if f = 0x0C then { rangeOk := decide (v.toNat % 64 ≤ 31), eff := fun s => s.setReg off (v &&& 0x13F) }
    else { rangeOk := decCfgOk f v, eff := fun s => s.storeReg (P.DEC n) off v }
  else ignored

/-- A write to a coefficient bank (R249): word `o / 4` of bank A or B of DXc, not in use. -/
def coefRule (c o : Nat) (v : Word) (s : State) : WRule :=
  let b := decide (0x1000 ≤ o)
  let first := o % 0x1000 = 0
  { stateOk := !s.bankInUse c b
    rangeOk := !first || decide (v.toNat % 2048 ≤ 1023)
    eff := fun s => s.setTab (0x1B00000 + c * 0x2000 + o) (if first then v &&& 0x7FF else v &&& 0xFFFFFF) }

/-- CLOCK_LOSS_TIMEOUT (R245). -/
def execClockLossTimeout (n : Fin 4) (s : State) : Host.Outcome State Fault Refusal :=
  let chans := (List.range 8).map (fun k => 8 * n.val + k)
  done (if s.flag (F.DEC_CLK_STAT_NO_CLOCK n) || !chans.any s.decOn then s
    else
      let s := (s.setFlag (F.DEC_CLK_STAT_NO_CLOCK n) true).setFld (F.DEC_CLK_STAT_FREQ_KHZ n) 0
      let s := chans.foldl (fun s c => if s.decForms c then
        (let s := s.setDecState c dcNoClock
         if (s.dec c).due then s.decApply c else s) else s) s
      (((s.count (R.DEC_CLK_LOSS n)).event (P.DEC n) E.DEC_NO_CLOCK).fault (P.DEC n) X.DEC_CLOCK_LOSS))

/-- The channels of a page whose clock is good again restart (R244). -/
def State.decResume (s : State) (n : Nat) : State :=
  if s.decStopped n then s
  else (List.range 8).foldl (fun s k => if s.decState (8 * n + k) == dcNoClock then s.decFresh (8 * n + k) else s) s

/-- MOD_CLOCK_RESUME (R245). -/
def execModClockResume (n : Fin 4) (s : State) : Host.Outcome State Fault Refusal :=
  done (if !s.flag (F.DEC_CLK_STAT_NO_CLOCK n) then s
    else ((s.setFlag (F.DEC_CLK_STAT_NO_CLOCK n) false).decResume n).event (P.DEC n) E.DEC_CLOCK_BACK)

/-- FREQ_MEASURE_INTERVAL (R246): `edges` of MOD_CLKn in 25.6 µs. -/
def execFreqMeasureInterval (n : Fin 4) (edges : BitVec 12) (s : State) : Host.Outcome State Fault Refusal :=
  let f := edges.toNat * 625 / 16
  let s := s.setFld (F.DEC_CLK_STAT_FREQ_KHZ n) (if s.flag (F.DEC_CLK_STAT_NO_CLOCK n) then 0 else min 0xFFFF f)
  done (if 41000 < f then
      let s := (s.setFlag (F.DEC_CLK_STAT_OVERCLOCK n) true).fault (P.DEC n) X.DEC_OVERCLOCK
      (List.range 8).foldl (fun s k =>
        let c := 8 * n.val + k
        if s.decForms c then
          (let s := s.setDecState c dcNoClock
           if (s.dec c).due then s.decApply c else s) else s) s
    else if s.flag (F.DEC_CLK_STAT_OVERCLOCK n) then (s.setFlag (F.DEC_CLK_STAT_OVERCLOCK n) false).decResume n
    else s)

/-- An injection into CLOCK_LOSS raises the fault at the next DCLK. -/
def State.decTick (s : State) : State :=
  (List.range 4).foldl (fun s n => match s.takeInj (P.DEC n) X.DEC_CLOCK_LOSS with
    | (true, s) => s.faultInj (P.DEC n) X.DEC_CLOCK_LOSS true
    | (false, s) => s) s

/-! ### Calibration (R247) -/

/-- A Constantan run covers DXc. -/
def State.decCal (s : State) (c : Nat) : State :=
  let s := (s.setDecState c dcCal).setFlag (F.DEC_CH_STAT_STALE (c / 8) (c % 8)) true
  let s := if s.flag (F.DEC_CH_SWAP_STAT_FADING (c / 8) (c % 8)) then s.fadeEnd c else s
  (if (s.dec c).due then s.decApply c else s).swapTake c false

/-- A Constantan run over DXc has ended. -/
def State.decCalEnd (s : State) (c : Nat) : State :=
  if s.decState c != dcCal then s else if s.decStopped (c / 8) then s.setDecState c dcNoClock else s.decRestart c true

/-! ### Commands -/

/-- DEC_EN (R244, R256). -/
def execDecEn (a : Agent) (ch : Fin 32) (en : Bool) (s : State) : Host.Outcome State Fault Refusal :=
  done (s.writeBy a .dec (P.DEC (ch / 8)) (R.DEC_CH_CTRL (ch / 8) (ch % 8)) (decCtrlRule ch (if en then 1 else 0) s))

/-- DEC_RESTART (R244). -/
def execDecRestart (a : Agent) (ch : Fin 32) (s : State) : Host.Outcome State Fault Refusal :=
  done (s.writeBy a .dec (P.DEC (ch / 8)) (R.DEC_CH_CTRL (ch / 8) (ch % 8)) (decCtrlRule ch (if s.decOn ch then 5 else 4) s))

/-- DEC_SWAP_REQUEST (R250). -/
def execDecSwapRequest (a : Agent) (ch : Fin 32) (target : Bool) (xfade : BitVec 12) (s : State) :
    Host.Outcome State Fault Refusal :=
  done (s.writeBy a .dec (P.DEC (ch / 8)) (R.DEC_CH_SWAP (ch / 8) (ch % 8))
    (decSwapRule ch (BitVec.ofNat 32 ((if target then 65536 else 0) + xfade.toNat))))

/-- COEF_BANK_WRITE (R249): a 32-bit write of a word of bank A (false) or B (true) of DXc. -/
def execCoefBankWrite (a : Agent) (ch : Fin 32) (bank : Bool) (word : Fin 1024) (v : Word) (s : State) :
    Host.Outcome State Fault Refusal :=
  let o := (if bank then 0x1000 else 0) + 4 * word.val
  done (if s.responds a then
      s.checkedWrite a (tableGroup .coef) (P.DEC (ch / 8)) (0x1B00000 + ch * 0x2000 + o) true (coefRule ch o v s)
    else s)

end Sys2Proof.Machine
end

