-- ==== Sys2Proof/Machine/Syn.lean ====
section
/-! DEFINITION. Synthesis channels and DAC ports: the accumulator, lists, shapes, segments, jumps, markers, starts and stops, edges
on pin channels (10). -/

namespace Sys2Proof.Machine

open Sys2Proof

/-! ### Channels -/

/-- SYN_STAT.STATE codes. -/
abbrev syOff : Nat := 0
abbrev syIdle : Nat := 1
abbrev syArmed : Nat := 2
abbrev syRun : Nat := 3
abbrev syDone : Nat := 4
abbrev syFault : Nat := 5
abbrev syStopping : Nat := 6

/-- The state of SYn. -/
def State.synState (s : State) (n : Nat) : Nat := s.fld (F.SYN_STAT_STATE n)

/-- Stores the state of SYn. -/
def State.setSynState (s : State) (n st : Nat) : State := s.setFld (F.SYN_STAT_STATE n) st

/-- SYn is OFF, IDLE, DONE or FAULT: its set-up registers are writable (R273). -/
def State.synRests (s : State) (n : Nat) : Bool :=
  s.synState n == syOff || s.synState n == syIdle || s.synState n == syDone || s.synState n == syFault

/-- θ at the latest boundary, with the phase word in force (R257). -/
def State.synTheta (s : State) (n : Nat) : Nat := ((s.syn n).acc + (s.syn n).pofs) % 2 ^ 48

/-- TCLK of a sample (R258). -/
def State.synSdiv (s : State) (n : Nat) : Nat := s.fld (F.SYN_CFG_SDIV n)

/-- The enabled DAC ports whose source is SYn (R272). -/
def State.synPorts (s : State) (n : Nat) : List Nat :=
  (List.range 4).filter (fun p => s.flag (F.DP_CFG_EN p) && s.fld (F.DP_CFG_SRC p) == n && s.fld (F.SYN_CFG_OUT n) == 2)

/-- Every DAC output of SYn carries DP_IDLE (R269, R272). -/
def State.synIdleWord (s : State) (n : Nat) : State :=
  (s.synPorts n).foldl (fun s p => s.setFld (F.DP_STAT_LAST p) (s.fld (F.DP_IDLE_CODE p))) s

/-- The clock of port DPn runs (R272). -/
def State.dpActive (s : State) (p : Nat) : Bool :=
  s.flag (F.DP_CFG_EN p) && s.mode != mCold && s.mode != mDoze && s.mode != mHibernate && s.mode != mQuarantine

/-! ### Tables (R259, R262) -/

/-- A word of the tables of SYn in force, at byte offset `o` of its window (R53). -/
def State.synWord (s : State) (n o : Nat) : Nat := (s.tabActive (0x1900000 + n * 0x20000 + o)).toNat

/-- A 64-bit list entry in force: list 0 frequency, 1 phase, 2 amplitude. -/
def State.synEntry (s : State) (n list i : Nat) : Nat :=
  s.synWord n (list * 0x8000 + 8 * i) + s.synWord n (list * 0x8000 + 8 * i + 4) * 2 ^ 32

/-- Word `w` of a segment in force. -/
def State.segWord (s : State) (n seg w : Nat) : Nat := s.synWord n (0x18000 + 16 * seg + 4 * w)

/-- The first entries of the three lists in a segment. -/
def State.listStart (s : State) (n seg list : Nat) : Nat :=
  if list = 0 then bitsOf (s.segWord n seg 0) 31 20 else if list = 1 then bitsOf (s.segWord n seg 0) 19 8
  else bitsOf (s.segWord n seg 1) 31 20

/-- LLEN of a segment. -/
def State.segLen (s : State) (n seg : Nat) : Nat := bitsOf (s.segWord n seg 1) 19 7

/-- The check of a segment at its entry and after a commit (R262). -/
def State.segGood (s : State) (n seg : Nat) : Bool :=
  (List.range 3).all (fun l => decide (s.listStart n seg l + s.segLen n seg ≤ 4096))

/-- A word written to a segment table entry is in range (R262). -/
def segWordOk (w : Nat) (v : Word) : Bool :=
  if w = 1 then decide (bitsOf v.toNat 19 7 ≤ 4096) && decide (bitsOf v.toNat 6 4 ≤ 4)
  else if w = 2 then bitsOf v.toNat 31 30 != 3 else true

/-- The bits of a list word that are kept (R259): `hi` says that it is the upper word of the entry. -/
def synListMask (list : Nat) (hi : Bool) : Word :=
  if list = 2 then (if hi then 0x1FFFF else 0xFFFF) else (if hi then 0xFFFF else 0xFFFFFFFF)

/-- A list word written is in range (R259): GAIN is at most 0x1_0000. -/
def synListOk (list : Nat) (hi : Bool) (v : Word) : Bool := list != 2 || !hi || decide (v.toNat % 2 ^ 17 ≤ 0x10000)

/-! ### List values (R260) -/

/-- The list position reduced by LLEN (R260): in units of 1/65,536. -/
def reducePos (l len : Nat) (wrap : Bool) : Nat :=
  if len = 0 then 0 else if l < len * 65536 then l else if wrap then l % (len * 65536) else (len - 1) * 65536

/-- A list value (R260): `val` reads entry `k` as an integer; `diff` brings a difference into its range. -/
def listValue (val : Nat → Int) (diff : Int → Int) (start len pos : Nat) (wrap interp : Bool) : Int :=
  if len = 0 then val start
  else
    let i := pos / 65536
    let e := val (start + i)
    if interp then
      let i' := if i + 1 = len then (if wrap then 0 else i) else i + 1
      e + (pos % 65536 : Nat) * diff (val (start + i') - e) / 65536
    else e

/-- FTW, POFS, GAIN and OFFSET of the sample under way in segment `seg`, before any cross-fade. -/
def State.synValues (s : State) (n seg : Nat) : Nat × Nat × Int × Int :=
  let len := s.segLen n seg
  let pos := (s.syn n).pos
  let wrap := (s.segWord n seg 1).testBit 3
  let interp := (s.segWord n seg 1).testBit 2
  let value := fun (val : Nat → Int) (diff : Int → Int) list => listValue val diff (s.listStart n seg list) len pos wrap interp
  let phase := value (fun k => (s.synEntry n 1 k % 2 ^ 48 : Nat)) (fun d => signedOf 48 (d % 2 ^ 48).toNat) 1
  ((value (fun k => (s.synEntry n 0 k % 2 ^ 48 : Nat)) id 0).toNat, (phase % 2 ^ 48).toNat,
    value (fun k => (bitsOf (s.synEntry n 2 k) 48 32 : Nat)) id 2, value (fun k => signedOf 16 (s.synEntry n 2 k % 65536)) id 2)

/-! ### Shapes (R261) -/

/-- sin(x) in units of 2^-60 for `x` in the first quadrant in units of 2^-60 rad: terms of its series, the latest one `t`. -/
def sinSeries (x : Int) : Nat → Int → Nat → Int
  | 0, _, _ => 0
  | f + 1, t, k => t + sinSeries x f (-(t * x / 2 ^ 60) * x / 2 ^ 60 / ((2 * k + 2) * (2 * k + 3))) (k + 1)

/-- 32,767 × sin(2πφ) rounded to nearest (R261). -/
def sineValue (θ : Nat) : Int :=
  let r := θ % 2 ^ 46
  let r := if θ.testBit 46 then 2 ^ 46 - r else r
  let x : Int := (r * 1811004864519280711 / 2 ^ 46 : Nat)
  let v := roundAway (32767 * sinSeries x 14 x 0) (2 ^ 60)
  if θ.testBit 47 then -v else v

/-- The shape value (R261). The sine may differ from the rounded one by 1 either way: the difference is a free value. -/
def State.shapeValue (s : State) (shape θ : Nat) : Int × State :=
  if shape = 0 then
    match s.fresh 8 with
    | (d, s) => (max (-32768) (min 32767 (sineValue θ + ((d.toNat % 3 : Nat) - 1))), s)
  else if shape = 1 then (if θ.testBit 47 then -32768 else 32767, s)
  else if shape = 2 then
    (if θ.testBit 47 then 32767 - (bitsOf θ 46 31 : Nat) else (bitsOf θ 46 31 : Nat) - 32768, s)
  else if shape = 3 then ((bitsOf θ 47 32 : Nat) - 32768, s)
  else (0, s)

/-! ### Edges on pin channels (R270, R271) -/

/-- A pin channel is in the safe state (R16, R154). -/
def State.pinSafe (s : State) (ch : Nat) : Bool :=
  match s.pinPart ch with
  | none => true
  | some k => !(s.pstate k == pRunning || s.pstate k == pPaused) || (s.seq (s.gangOf (ch / 16))).fault.isSome

/-- A DRV edge of a channel on one pin, under R147. The cycle of a drop is not in the spec: a free value. -/
def State.synPinEdge (s : State) (ch time : Nat) (level : Bool) : State :=
  if s.pinSafe ch then s
  else
    let x := s.pin ch
    match x.drvLast.map (fun l => decide (4 * (time - l) < s.minSpacing)) with
    | some true =>
      (match s.fresh 24 with
       | (c, s) => s.drop (ch / 16) dropCollide 0 (ch % 16) c.toNat)
    | _ => s.setPin ch { x with drv := level, drvLast := some time }

/-- A DRV edge of SYn to `level` of PIN_A, and the inverse on PIN_B. -/
def State.synEdge (s : State) (n time : Nat) (level : Bool) : State :=
  (s.synPins n).foldl (fun s x => s.synPinEdge x.1 time (level != x.2)) s

/-- SYn reads DONE. -/
def State.synDone (s : State) (n : Nat) : State := (s.setSynState n syDone).event (P.SYN n) E.SYN_DONE

/-- The changes of θ[47] from the latest boundary until the next one (R271). -/
def State.synCrossings (s : State) (n : Nat) : Nat :=
  if s.synPins n = [] then 0
  else (s.synTheta n + s.synSdiv n * (s.syn n).ftw) / 2 ^ 47 - s.synTheta n / 2 ^ 47

/-- The next change of θ[47] in the interval places its edge (R271); a channel in STOPPING places none to 1 and is DONE with the
one to 0 (R269). -/
def State.synCross (s : State) (n : Nat) : State :=
  let x := s.syn n
  let θ := s.synTheta n
  if !(s.synState n == syRun || s.synState n == syStopping) || s.synCrossings n ≤ x.crossed then s
  else
    let b := θ / 2 ^ 47 + 1 + x.crossed
    let time := x.time + (2 * 500 * (b * 2 ^ 47 - θ) + x.ftw) / (2 * x.ftw)
    let level := b % 2 == 0
    let s := s.setSyn n { x with crossed := x.crossed + 1 }
    if s.synState n == syRun then s.synEdge n time level
    else if level then s else (s.synEdge n time false).synDone n

/-- The edges of the interval that are left. -/
def State.synFlush (s : State) (n : Nat) : State :=
  (List.range (s.synCrossings n - (s.syn n).crossed)).foldl (fun s _ => s.synCross n) s

/-! ### Stops (R269) -/

/-- An immediate stop: bound DRV lines to 0, DAC outputs to DP_IDLE. -/
def State.synHalt (s : State) (n st : Nat) : State :=
  let s := (s.synPins n).foldl (fun s x => s.setPin x.1 { s.pin x.1 with drv := false }) s
  let s := s.synIdleWord n
  let s := (s.setFlag (F.SYN_STAT_XFADING n) false).setFlag (F.SYN_JUMP_STAT_PENDING n) false
  s.setSynState n st |>.setSyn n { s.syn n with stop := false, go := none, jumpAt := none }

/-- A UC fault of SYn stops it. -/
def State.synFault (s : State) (n x : Nat) (inj : Bool) : State := (s.synHalt n syFault).faultInj (P.SYN n) x inj

/-- Entry to CALIBRATE, SERVICE or QUARANTINE (R269). -/
def State.synStopAll (s : State) : State :=
  (List.range 16).foldl (fun s n =>
    if s.synState n == syArmed || s.synState n == syRun || s.synState n == syStopping then
      (s.synHalt n syDone).event (P.SYN n) E.SYN_DONE else s) s

/-- A graceful stop at a boundary. -/
def State.synGraceful (s : State) (n : Nat) : State :=
  let s := s.synIdleWord n
  let s := (s.setFlag (F.SYN_STAT_XFADING n) false).setFlag (F.SYN_JUMP_STAT_PENDING n) false
  let s := s.setSyn n { s.syn n with stop := false, jumpAt := none }
  if s.synPins n != [] && !(s.synTheta n).testBit 47 then s.setSynState n syStopping else s.synDone n

/-! ### Visits (R262 to R265) -/

/-- The current visit of segment `seg` ends at this boundary by its dwell (R263). -/
def State.visitOver (s : State) (n seg : Nat) : Bool :=
  let x := s.syn n
  let u := bitsOf (s.segWord n seg 2) 31 30
  let d := bitsOf (s.segWord n seg 2) 29 0
  decide (d ≤ (if u = 0 then x.j else if u = 1 then x.wraps else x.passes))

/-- The segment visited. -/
def State.synSeg (s : State) (n : Nat) : Nat := s.fld (F.SYN_STAT_SEG n)

/-- Entry of a segment: counts and position start, the cross-fade where a sample has been formed since the start. -/
def State.enterSeg (s : State) (n seg : Nat) : State :=
  let s := ((s.setFld (F.SYN_STAT_SEG n) seg).count (R.xx_BLK_COUNT (P.SYN n))).event (P.SYN n) E.SYN_SEG_ENTER
  let x := s.syn n
  let w := s.segWord n seg 1
  s.setSyn n { x with
    j := 0, wraps := 0, passes := 0, old := x.last
    fades := s.reg64 (R.SYN_SAMPLES_LO n) (R.SYN_SAMPLES_HI n) != 0
    pos := if w.testBit 0 then reducePos x.pos (s.segLen n seg) (w.testBit 3) else 0 }

/-- Entry of a segment at a boundary, with the segments of no samples that follow (R263): stops at END, at a segment that fails
its check, and after 256 entries of segments with no samples. -/
def State.enterChain : Nat → State → Nat → Nat → State
  | 0, s, n, _ => s.synFault n X.SYN_SKIP_LOOP false
  | f + 1, s, n, seg =>
    let s := s.enterSeg n seg
    if !s.segGood n seg then s.synFault n X.SYN_SEG_BAD false
    else if bitsOf (s.segWord n seg 2) 29 0 != 0 then s
    else if f = 0 then s.synFault n X.SYN_SKIP_LOOP false
    else if (s.segWord n seg 1).testBit 1 then s.synGraceful n
    else State.enterChain f s n (s.segWord n seg 0 % 256)

/-- The pending jump is taken (R265). -/
def State.takeJump (s : State) (n : Nat) : State :=
  let target := s.fld (F.SYN_JUMP_STAT_PEND_TARGET n)
  let s := (s.setFlag (F.SYN_JUMP_STAT_PENDING n) false).setFld (F.SYN_JUMP_STAT_LAST_TARGET n) target
  let s := (s.setSyn n { s.syn n with jumpAt := none }).event (P.SYN n) E.SYN_JUMP
  State.enterChain 256 s n target

/-- Step 2 of R258: a stop asked for, a jump, the end of the visit. -/
def State.synDecide (s : State) (n : Nat) : State :=
  let x := s.syn n
  let seg := s.synSeg n
  let ends := s.visitOver n seg
  let here := match x.jumpAt with
    | some d => decide (2000 * d ≤ x.time)
    | none => true
  if x.stop then s.synGraceful n
  else if s.flag (F.SYN_JUMP_STAT_PENDING n) && here && (ends || !s.flag (F.SYN_JUMP_STAT_PEND_MODE n)) then s.takeJump n
  else if !ends then s
  else if (s.segWord n seg 1).testBit 1 then s.synGraceful n
  else State.enterChain 256 s n (s.segWord n seg 0 % 256)

/-! ### A boundary (R258) -/

/-- Step 1: an armed commit (R267). The segment visited is checked and the list position reduced. -/
def State.synCommit (s : State) (n : Nat) : State :=
  if !s.commitReady (P.SYN n) then s
  else
    let base := 0x1900000 + n * 0x20000
    let s := s.copyShadow (P.SYN n) (fun o => decide (base ≤ o) && decide (o < base + 0x20000))
    let s := (s.transferred (P.SYN n)).setFlag (F.xx_STAT_SHADOW_DIRTY (P.SYN n)) false
    if s.synState n != syRun then s
    else if !s.segGood n (s.synSeg n) then s.synFault n X.SYN_SEG_BAD false
    else s.setSyn n { s.syn n with
      pos := reducePos (s.syn n).pos (s.segLen n (s.synSeg n)) ((s.segWord n (s.synSeg n) 1).testBit 3) }

/-- The check of the list entries read (R259): answers whether they are good. -/
def State.synListCheck (s : State) (n : Nat) (chk : EccCheck) : Bool × State :=
  match s.takeInj (P.SYN n) X.SYN_LIST_ECC with
  | (true, s) => (false, s.synFault n X.SYN_LIST_ECC true)
  | (false, s) =>
    match chk with
    | .clean => (true, s)
    | .corrected => (true, s.count (R.xx_CE_COUNT (P.SYN n)))
    | .double => (false, s.synFault n X.SYN_LIST_ECC false)

/-- Cross-fade of one value (R264). -/
def fadeValue (old new : Int) (x j : Nat) : Int := (old * (x - j : Nat) + new * (j + 1 : Nat)) / (x + 1 : Nat)

/-- Marker `m` fires at its sample (R266). -/
def State.synMarker (s : State) (n m : Nat) : State :=
  let c := s.activeReg (R.SYN_MKR_CFG n m)
  let o := s.activeReg (R.SYN_MKR_OUT n m)
  if !(c.getLsbD 31 && bitsOf c.toNat 27 20 == s.synSeg n && c.toNat % 2 ^ 20 == (s.syn n).j) then s
  else
    let s := s.event (P.SYN n) (E.SYN_MARKER m)
    let s := s.setReg64 (R.SYN_MKR_STAMP_LO n m) (R.SYN_MKR_STAMP_HI n m) (s.stampAt (s.syn n).time)
    if o.getLsbD 3 then
      { s with dev := { s.dev with
          trigPulse := (o.toNat % 8, PulseSource.marker (Fin.ofNat 16 n) (Fin.ofNat 4 m)) :: s.dev.trigPulse } }
    else s

/-- The sample goes to the DAC ports (R272). -/
def State.synOutput (s : State) (n : Nat) (y : Int) : State :=
  (s.synPorts n).foldl (fun s p =>
    let w := unsignedOf 16 y
    s.setFld (F.DP_STAT_LAST p) (if s.flag (F.DP_CFG_FMT p) then (w + 32768) % 65536 else w)) s

/-- The list position after a sample (R260). -/
def State.synAdvance (s : State) (n seg : Nat) : State :=
  let x := s.syn n
  let len := s.segLen n seg
  let wrap := (s.segWord n seg 1).testBit 3
  let held := !wrap && x.passes != 0 && x.pos == (len - 1) * 65536
  let l := x.pos + s.segWord n seg 3 % 2 ^ 20
  let x := { x with j := x.j + 1 }
  if len = 0 ∨ held then s.setSyn n x
  else if l < len * 65536 then s.setSyn n { x with pos := l }
  else s.setSyn n { x with pos := reducePos l len wrap, passes := x.passes + 1 }

/-- Steps 3 to 5 of R258. `start` says that this is the first boundary. -/
def State.synSample (s : State) (n : Nat) (chk : EccCheck) (start : Bool) : State :=
  match s.synListCheck n chk with
  | (false, s) => s
  | (true, s) =>
    let seg := s.synSeg n
    let x := s.syn n
    let (ftw, pofs, gain, ofs) := s.synValues n seg
    let xf := bitsOf (s.segWord n seg 3) 31 20
    let fading := x.fades && decide (x.j < xf)
    let gain := if fading then fadeValue x.old.1 gain xf x.j else gain
    let ofs := if fading then fadeValue x.old.2 ofs xf x.j else ofs
    let θ := s.synTheta n
    match s.shapeValue (bitsOf (s.segWord n seg 1) 6 4) θ with
    | (v, s) =>
      let y := roundAway (v * gain) 65536 + ofs
      let lim := max (-32768) (min 32767 y)
      let s := if lim != y then s.setFlag (F.SYN_STAT_SAT n) true else s
      let s := s.setFlag (F.SYN_STAT_XFADING n) fading
      let s := s.setReg (R.SYN_POS n) (BitVec.ofNat 32 (min x.j 0xFFFFFFFF))
      let s := s.setReg64 (R.SYN_SAMPLES_LO n) (R.SYN_SAMPLES_HI n) (s.reg64 (R.SYN_SAMPLES_LO n) (R.SYN_SAMPLES_HI n) + 1)
      let s := (s.setSyn n { x with last := (gain, ofs) }).synOutput n lim
      let s := (List.range 4).foldl (fun s m => s.synMarker n m) s
      let s := s.synAdvance n seg
      if s.fld (F.SYN_CFG_OUT n) == 1 && decide (2 ^ 47 < ftw) then s.synFault n X.SYN_FTW_RANGE false
      else
        let s := s.setSyn n { s.syn n with ftw := ftw, pofs := pofs, crossed := 0 }
        let level := !(s.synTheta n).testBit 47
        if start then
          (s.synPins n).foldl (fun s e =>
            if (s.pin e.1).drv == (level != e.2) then s else s.synPinEdge e.1 x.time (level != e.2)) s
        else if level == !θ.testBit 47 then s else s.synEdge n x.time level

/-- A sample boundary of SYn at the time held in its state (R258). -/
def State.synBoundary (s : State) (n : Nat) (chk : EccCheck) : State :=
  let s := s.synCommit n
  if s.synState n != syRun then s
  else
    let s := s.synDecide n
    if s.synState n != syRun then s else s.synSample n chk false

/-- SYN_SAMPLE_BOUNDARY (R257, R258): SDIV TCLK have passed since the latest boundary. -/
def execSynSampleBoundary (n : Fin 16) (chk : EccCheck) (s : State) : Host.Outcome State Fault Refusal :=
  done (
    let s := s.synFlush n
    if !(s.synState n == syRun || s.synState n == syStopping) then s
    else
      let x := s.syn n
      let a := x.acc + s.synSdiv n * x.ftw
      let s := s.setSyn n { x with
        acc := a % 2 ^ 48, wraps := x.wraps + a / 2 ^ 48, time := x.time + 500 * s.synSdiv n, crossed := 0 }
      let s := s.setReg64 (R.SYN_ACC_LO n) (R.SYN_ACC_HI n) (BitVec.ofNat 64 (a % 2 ^ 48))
      s.synBoundary n chk)

/-- SYN_DRV_EDGE (R271): the next change of θ[47] of SYn comes. -/
def execSynDrvEdge (n : Fin 16) (s : State) : Host.Outcome State Fault Refusal :=
  done (s.synCross n)

/-! ### Starts (R268) -/

/-- The start instant of an armed channel: none while it has not come. -/
def State.synStartAt (s : State) (n : Nat) : Option Nat :=
  if s.fld (F.SYN_START_SRC n) = 3 then
    (if timeReached s.now (s.reg64 (R.SYN_START_TIME_LO n) (R.SYN_START_TIME_HI n)) then some (2000 * s.dclk) else none)
  else (s.syn n).go

/-- SYN_START_INSTANT (R268): the start instant of an ARMED channel comes. -/
def execSynStartInstant (n : Fin 16) (chk : EccCheck) (s : State) : Host.Outcome State Fault Refusal :=
  done (if s.synState n != syArmed then s
    else
      match s.synStartAt n with
      | none => s
      | some t =>
        let s := s.setSyn n { Syn.init with time := t }
        let s := s.setReg64 (R.SYN_ACC_LO n) (R.SYN_ACC_HI n) 0 |>.setReg64 (R.SYN_SAMPLES_LO n) (R.SYN_SAMPLES_HI n) 0
        let s := s.synCommit n
        let s := ((s.setSynState n syRun).setFlag (F.SYN_JUMP_STAT_PENDING n) false).event (P.SYN n) E.SYN_STARTED
        let s := State.enterChain 256 s n (s.fld (F.SYN_CFG_FIRST_SEG n))
        if s.synState n != syRun then s else s.synSample n chk true)

/-! ### Register writes (R265, R268, R273) -/

/-- START: the channel is armed. -/
def State.synArm (s : State) (n : Nat) : State :=
  let src := s.fld (F.SYN_START_SRC n)
  let late := src == 3 && timeReached s.now (s.reg64 (R.SYN_START_TIME_LO n) (R.SYN_START_TIME_HI n))
  let s := if late then s.setFlag (F.SYN_STAT_LATE_START n) true else s
  (s.setSynState n syArmed).setSyn n { s.syn n with go := if src == 0 then some (2000 * (s.dclk + 1)) else none, stop := false }

/-- A write of SYN_CTRL (R268, R269, R273, R477). -/
def synCtrlRule (n : Nat) (v : Word) (s : State) : WRule :=
  let on := s.flag (F.SYN_CTRL_EN n)
  let st := s.synState n
  { stateOk := (!(v.getLsbD 0 && !on) || (!s.noMeasure && !s.bit R.PART_RET_SY n))
      && (!v.getLsbD 1 || (v.getLsbD 0 && (st == syIdle || st == syDone || st == syFault)))
    eff := fun s =>
      let s := s.setFlag (F.SYN_CTRL_EN n) (v.getLsbD 0)
      let s := if v.getLsbD 0 && !on then s.setSynState n syIdle
        else if !v.getLsbD 0 && on then s.synHalt n syOff else s
      let s := if v.getLsbD 0 != on then s.deriveMode else s
      let s := if v.getLsbD 1 then s.synArm n else s
      if v.getLsbD 2 && s.synState n == syRun then s.setSyn n { s.syn n with stop := true } else s }

/-- A jump request (R265): `reach` is the DCLK at which a register's request reaches the channel, none for a trigger's, which
reaches it now. -/
def State.synRequest (s : State) (n target : Nat) (atEnd : Bool) (reach : Option Nat) : State :=
  if s.synState n != syRun then s
  else
    let had := s.flag (F.SYN_JUMP_STAT_PENDING n)
    let s := if had then s.count (R.SYN_JUMP_REPL n) else s
    if had && reach.isNone && (s.syn n).jumpAt == some s.dclk then s
    else
      let s := ((s.setFlag (F.SYN_JUMP_STAT_PENDING n) true).setFlag (F.SYN_JUMP_STAT_PEND_MODE n) atEnd).setFld
        (F.SYN_JUMP_STAT_PEND_TARGET n) target
      s.setSyn n { s.syn n with jumpAt := reach }

/-- The synchronised event of TRIG_IN pin `i` (R265, R268). -/
def State.synTrigger (s : State) (i : Nat) : State :=
  (List.range 16).foldl (fun s n =>
    let s := if s.synState n == syArmed && s.fld (F.SYN_START_SRC n) == 1 && s.fld (F.SYN_START_ARG n) == i then
        s.setSyn n { s.syn n with go := some (2000 * (s.dclk + 1)) } else s
    if s.flag (F.SYN_JUMP_TRIG_EN n) && s.fld (F.SYN_JUMP_TRIG_TRIG n) == i then
      s.synRequest n (s.fld (F.SYN_JUMP_TRIG_TARGET n)) (s.fld (F.SYN_JUMP_TRIG_MODE n) == 1) none
    else s) s

/-- A pin that SYn would bind is bound to another channel (R270). -/
def State.synConflict (s : State) (n out : Nat) (pins : Word) : Bool :=
  let other := fun (ch : Nat) => (List.range 16).any (fun m => m != n && (s.synPins m).any (fun x => x.1 == ch))
  out == 1 && ((pins.getLsbD 15 && other (pins.toNat % 256)) || (pins.getLsbD 31 && other (bitsOf pins.toNat 23 16)))

/-- A write of a DAC port register (R272, R273). -/
def dpRule (n o off : Nat) (v : Word) (s : State) : WRule :=
  let on := s.flag (F.DP_CFG_EN n)
  if o = 0x100 then
    let src := bitsOf v.toNat 27 24
    { stateOk := (!on || !v.getLsbD 31) && (!v.getLsbD 31 || s.fld (F.SYN_CFG_OUT src) == 2)
      eff := fun s =>
        let s := s.setReg off (v &&& 0x8F010000)
        if v.getLsbD 31 && !(s.synState src == syRun) then s.setFld (F.DP_STAT_LAST n) (s.fld (F.DP_IDLE_CODE n)) else s }
  else if o = 0x104 then
    { stateOk := !on
      rangeOk := v.toNat % 65536 != 0 && decide (v.toNat % 65536 < s.synSdiv (s.fld (F.DP_CFG_SRC n)))
      eff := fun s => s.setReg off (v &&& 0xFFFF) }
  else if o = 0x108 then { stateOk := !on, eff := fun s => s.setReg off (v &&& 0xFFFF) }
  else ignored

/-- A write of a SYNn page (10). -/
def synRule (n off : Nat) (v : Word) (s : State) : WRule :=
  let o := off - P.SYN n
  if o = 0x40 then synCtrlRule n v s
  else if o = 0x44 then
    let out := bitsOf v.toNat 13 12
    { stateOk := s.synRests n && (out == 2 || s.synPorts n == []) && !s.synConflict n out (s.reg (R.SYN_PIN n))
      rangeOk := decide (4 ≤ bitsOf v.toNat 31 16) && out != 3
      eff := fun s => s.setReg off (v &&& 0xFFFF30FF) }
  else if o = 0x48 then
    { stateOk := s.synRests n
      rangeOk := bitsOf v.toNat 5 4 != 1 || decide (bitsOf v.toNat 11 8 ≤ 7)
      eff := fun s => s.setReg off (v &&& 0xF30) }
  else if o = 0x4C ∨ o = 0x50 then { stateOk := s.synRests n, eff := fun s => s.setReg off v }
  else if o = 0x54 then
    { stateOk := s.synRests n && !s.synConflict n (s.fld (F.SYN_CFG_OUT n)) v
      rangeOk := !(v.getLsbD 31 && v.getLsbD 15 && v.toNat % 256 == bitsOf v.toNat 23 16)
      eff := fun s => s.setReg off (v &&& 0x80FF80FF) }
  else if o = 0x58 then
    { rangeOk := decide (bitsOf v.toNat 17 16 < 2)
      eff := fun s => s.synRequest n (v.toNat % 256) (v.getLsbD 16) (some (s.dclk + 1)) }
  else if o = 0x5C then
    { rangeOk := decide (bitsOf v.toNat 17 16 < 2), eff := fun s => s.setReg off (v &&& 0x800307FF) }
  else if o = 0x68 then { eff := fun s => s.storeReg (P.SYN n) off v }
  else if 0x80 ≤ o ∧ o < 0xA0 then
    { rangeOk := o % 8 == 0 || bitsOf v.toNat 15 8 != 0, eff := fun s => s.storeReg (P.SYN n) off v }
  else if n < 4 then dpRule n o off v s
  else ignored

/-- What a read of a SYNn page answers where it is not what the register holds. -/
def State.synRead (s : State) (n off : Nat) : Option Word :=
  let o := off - P.SYN n
  if o = 0x58 then some 0
  else if o = 0x10C && decide (n < 4) then
    some (BitVec.ofNat 32 (s.fld (F.DP_STAT_LAST n) + (if s.dpActive n then 2 ^ 31 else 0)))
  else none

/-! ### Commands -/

/-- SYN_START (R268). -/
def execSynStart (a : Agent) (n : Fin 16) (s : State) : Host.Outcome State Fault Refusal :=
  done (s.writeBy a .syn (P.SYN n) (R.SYN_CTRL n) (synCtrlRule n (if s.flag (F.SYN_CTRL_EN n) then 3 else 2) s))

/-- SYN_STOP (R269). -/
def execSynStop (a : Agent) (n : Fin 16) (s : State) : Host.Outcome State Fault Refusal :=
  done (s.writeBy a .syn (P.SYN n) (R.SYN_CTRL n) (synCtrlRule n (if s.flag (F.SYN_CTRL_EN n) then 5 else 4) s))

/-- SYN_EN_CLEAR (R269). -/
def execSynEnClear (a : Agent) (n : Fin 16) (s : State) : Host.Outcome State Fault Refusal :=
  done (s.writeBy a .syn (P.SYN n) (R.SYN_CTRL n) (synCtrlRule n 0 s))

/-- SYN_JUMP (R265). -/
def execSynJump (a : Agent) (n : Fin 16) (target : Byte) (atEnd : Bool) (s : State) : Host.Outcome State Fault Refusal :=
  done (s.writeBy a .syn (P.SYN n) (R.SYN_JUMP n)
    (synRule n (R.SYN_JUMP n) (BitVec.ofNat 32 (target.toNat + (if atEnd then 65536 else 0))) s))

end Sys2Proof.Machine
end

