-- ==== Sys2Proof/Machine/Cal.lean ====
section
/-! DEFINITION. Constantan: runs and their items, commits, abandons and restores, export and import of the calibration set (18). -/

namespace Sys2Proof.Machine

open Sys2Proof

/-! ### Lines and scope (R448, R450, R451) -/

/-- CAL_STAT.STATE codes. -/
abbrev csIdle : Nat := 0
abbrev csMeasure : Nat := 1
abbrev csRestoring : Nat := 3

/-- The state of Constantan. -/
def State.calState (s : State) : Nat := s.fld F.CAL_STAT_STATE

/-- The scope of the run: 0 DEVICE, 1 PARTITION, 2 UNITS. -/
def State.calScope (s : State) : Nat := s.fld F.CAL_RUN_CFG_SCOPE

/-- Item `k` (1 TIA, 2 OUT, 3 TH, 4 IN, 5 DEC) is set. -/
def State.calItem (s : State) (k : Nat) : Bool := s.bit R.CAL_RUN_CFG (k - 1)

/-- The partition of a PARTITION run. -/
def State.calPart (s : State) : Nat := s.fld F.CAL_RUN_CFG_PART

/-- The pin channels in scope (R450). -/
def State.calPins (s : State) : List Nat :=
  if s.calScope = 0 then (List.range 256).filter (fun c => s.bit R.CAL_TG_MASK (c / 16))
  else if s.calScope = 1 then s.partPins s.calPart else []

/-- The timing groups in scope. -/
def State.calGroups (s : State) : List Nat := (List.range 16).filter (fun t => s.calPins.any (fun c => c / 16 == t))

/-- The DRV and DEN lines in scope. -/
def State.calOutLines (s : State) : List Nat := s.calPins.flatMap (fun c => [4 * c, 4 * c + 1])

/-- The comparator lines in scope. -/
def State.calInLines (s : State) : List Nat := s.calPins.flatMap (fun c => [4 * c + 2, 4 * c + 3])

/-- The TIA pages that the TIA item calibrates. -/
def State.calPages (s : State) : List Nat := (List.range 8).filter (fun n => s.bit R.CAL_TIA_SEL n)

/-- The time-interval units that the run uses (R450). -/
def State.calUnits (s : State) : List Nat :=
  (List.range 64).filter (fun u => (s.calItem 1 && s.calPages.contains (u / 8))
    || (s.calItem 2 && (s.calScope == 0 || u / 8 == s.fld F.CAL_TIA_SEL_USE)))

/-- The decimation channels of the run. -/
def State.calChans (s : State) : List Nat := (List.range 32).filter (fun c => s.bit R.CAL_DEC_MASK c)

/-- The field of the deskew registers that holds the taps of a line (R162). -/
def lineField (l : Nat) : Fld :=
  let t := l / 64
  let p := l / 4 % 16
  match l % 4 with
  | 0 => F.PE_DESKEW_OUT_DRV t p
  | 1 => F.PE_DESKEW_OUT_DEN t p
  | 2 => F.PE_DESKEW_IN_CMPH t p
  | _ => F.PE_DESKEW_IN_CMPL t p

/-- The taps in force on a line. -/
def State.lineTaps (s : State) (l : Nat) : Nat := s.fld (lineField l)

/-- The tap scale in force on a line, in 1/4,096 ps. -/
def State.lineScale (s : State) (l : Nat) : Nat := sget 2048 s.cal.scale l

/-- The threshold code in force of a comparator line. -/
def State.lineCode (s : State) (l : Nat) : Nat :=
  s.fld (if l % 4 = 2 then F.CAL_TH_IMG_TH_HI (l / 4) else F.CAL_TH_IMG_TH_LO (l / 4))

/-- The window offset of CAL_OFS of 4 × channel + range. -/
def ofsReg (k : Nat) : Nat := R.DEC_CH_CAL_OFS (k / 32) (k / 4 % 8) (k % 4)

/-! ### Sideband frames (R165, R454, R455, R460) -/

/-- The frame that writes a threshold code to the PE chip of a comparator line (PE_SB_MAP). -/
def State.thFrame (s : State) (l code : Nat) : SbFrame :=
  let t := l / 64
  let w := 2 ^ (4 - s.fld (F.PE_SB_MAP_CHIPS_LOG2 t))
  let p := l / 4 % 16
  { cal := true, wr := true, chip := p / w
    addr := (s.fld (F.PE_SB_MAP_TH_BASE t) + p % w * s.fld (F.PE_SB_MAP_TH_STRIDE t) + (if l % 4 = 2 then 0 else 1)) % 65536
    wdata := code, again := false }

/-- Constantan's next frame for TGt starts where the bus is free. -/
def State.calPump (s : State) (t : Nat) : State :=
  match (s.tg t).frame, s.cal.frames.find? (fun x => x.1 / 64 == t) with
  | none, some x => ({ s with cal := { s.cal with
      frames := s.cal.frames.erase x, touched := if s.cal.touched.contains x.1 then s.cal.touched else x.1 :: s.cal.touched } }).sbStart t x.2
  | _, _ => s

/-- Frames that write codes to lines join those to send. -/
def State.calSend (s : State) (l : List (Nat × Nat)) : State :=
  let s := { s with cal := { s.cal with frames := s.cal.frames ++ l.map (fun x => (x.1, s.thFrame x.1 x.2)) } }
  (List.range 16).foldl State.calPump s

/-- The codes in force are written back to every comparator touched (R460). -/
def State.calRestore (s : State) : State :=
  let l := (List.range 1024).filter (fun x => s.cal.touched.contains x)
  ({ s with cal := { s.cal with frames := [] } }).calSend (l.map (fun x => (x, s.lineCode x)))

/-- TGt is marked TH_SUSPECT (R460). -/
def State.thSuspect (s : State) (t : Nat) : State :=
  (s.setBit R.CAL_STAT t true).fault P.CAL X.CAL_TH_SUSPECT

/-- One of Constantan's frames has completed on TGt; `bad` says that it failed lasting. -/
def State.calFrameEnd (s : State) (t : Nat) (bad : Bool) : State :=
  let s := if !bad then s
    else if s.calState == csRestoring || s.cal.sbFail != [] then s.thSuspect t
    else if s.cal.importing then ({ s with cal := { s.cal with sbFail := [t] } }).calRestore
    else s
  s.calPump t

/-- SB_FRAME_END (R163 to R165): the response of the frame in flight on TGn. -/
def execSbFrameEnd (n : Fin 16) (crcOk : Bool) (data : BitVec 16) (s : State) : Host.Outcome State Fault Refusal :=
  done (match s.sbResponse n crcOk data with
    | (none, s) => s
    | (some (f, r), s) =>
      if f.cal then s.calFrameEnd n (decide (2 ≤ r))
      else
        let s := (s.setFld (F.PE_SB_STAT_RESULT n) r).setFld (F.PE_SB_STAT_RDATA n) data.toNat
        (s.event (P.TG n) E.TG_SB_DONE).calPump n)

/-! ### Commits (R459) -/

/-- TUu enters CAL (R234). -/
def State.tuEnterCal (s : State) (u : Nat) : State :=
  let st := s.tuState u
  if st == tuArmed || st == tuCal then s
  else ((s.setTu u { s.tu u with prior := st }).setTuState u tuCal).setTuFlag u F.TU_STAT_STALE true

/-- TUu leaves CAL (R234). -/
def State.tuLeaveCal (s : State) (u : Nat) : State :=
  if s.tuState u != tuCal then s else (s.setTuState u (s.tu u).prior).setTuFlag u F.TU_STAT_STALE false

/-- Stores the 192 widths of an interpolator (R235). -/
def State.setBins (s : State) (i : Nat) (l : List Nat) : State :=
  (List.range 48).foldl (fun s w =>
    let v := leNat ((List.range 4).map (fun j => BitVec.ofNat 8 (l.getD (4 * w + j) 0)))
    let o := if i % 2 = 0 then R.TU_BIN_START (i / 16) (i / 2 % 8) w else R.TU_BIN_STOP (i / 16) (i / 2 % 8) w
    s.setReg o (BitVec.ofNat 32 v)) s

/-- Nothing is provisional. -/
def State.calDrop (s : State) : State :=
  { s with cal := { s.cal with taps := [], scales := [], th := [], bins := [], ofs := [], sbFail := [], go := false } }

/-- The provisional values come into force at one DCLK edge (R235, R247, R459); `written` are the comparators whose codes were
written. -/
def State.calApply (s : State) (written : List Nat) : State :=
  let c := s.cal
  let s := c.taps.foldl (fun s x => s.setFld (lineField x.1) x.2) s
  let s := { s with cal := { s.cal with scale := c.scales.foldl (fun l (x : Nat × Nat) => sset 2048 l x.1 x.2) c.scale } }
  let s := c.th.foldl (fun s x => s.setFld (if x.1 % 4 = 2 then F.CAL_TH_IMG_TH_HI (x.1 / 4) else F.CAL_TH_IMG_TH_LO (x.1 / 4)) x.2) s
  let s := c.bins.foldl (fun s x => s.setBins x.1 x.2) s
  let s := (List.range 8).foldl (fun s n => if c.bins.any (fun x => x.1 / 16 == n) then
    s.setFld (F.TIA_GEN_GEN n) (s.fld (F.TIA_GEN_GEN n) + 1) else s) s
  let s := c.ofs.foldl (fun s x => s.setReg (ofsReg x.1) (BitVec.ofNat 32 (x.2 % 2 ^ 24))) s
  let s := (List.range 16).foldl (fun s t =>
    if (List.range 32).all (fun i => written.contains (64 * t + i / 2 * 4 + 2 + i % 2)) then s.setBit R.CAL_STAT t false else s) s
  let s := (s.setReg R.CAL_GEN (s.reg R.CAL_GEN + 1)).setFlag F.CAL_STAT_UNSAVED true
  let s := { s with cal := { s.cal with temp := s.fld F.PWR_TEMP_T / 16 % 256, touched := [] } }
  let s := (s.setFlag F.CAL_STAT_EMPTY false).calDrop
  if s.flag F.CAL_EXP_STAT_ACTIVE then
    let s := (s.setFlag F.CAL_EXP_STAT_ACTIVE false).setFld F.CAL_EXP_STAT_RESULT 1
    ({ s with cal := { s.cal with exp := [] } }).event P.CAL E.CAL_EXP_END
  else s

/-! ### The end of a run (R458 to R460) -/

/-- CAL_STAT.END codes. -/
abbrev ceCommitted : Nat := 1
abbrev cePartial : Nat := 2
abbrev ceAbandoned : Nat := 3
abbrev ceFailed : Nat := 4
abbrev ceTimeout : Nat := 5
abbrev ceReset : Nat := 6
abbrev ceQuar : Nat := 7

/-- Units, channels and the partition of the run leave CAL, and the run has ended; a DEVICE run takes the device out of CALIBRATE
(R24). -/
def State.calLeave (s : State) : State :=
  let s := (List.range 64).foldl State.tuLeaveCal s
  let s := s.calChans.foldl State.decCalEnd s
  let s := if s.calScope = 1 then s.setFlag (F.PART_P_STAT_SVC_BUSY s.calPart) false else s
  let s := ((s.setFlag F.CAL_STAT_STALE false).setFld F.CAL_STAT_STATE csIdle).setFld F.CAL_STAT_STAGE 0
  let s := ((s.setReg R.CAL_DEC_WAIT 0).count (R.xx_BLK_COUNT P.CAL)).event P.CAL E.CAL_RUN_END
  if s.calScope = 0 && s.mode == mCalibrate then s.setMode s.activeMode else s

/-- The run is abandoned (R460): nothing commits, and the codes in force are restored. -/
def State.calGiveUp (s : State) (code : Nat) : State :=
  if s.calState != csMeasure then s
  else
    let s := ((s.setFld F.CAL_STAT_END code).setFld F.CAL_STAT_STATE csRestoring).setReg R.CAL_DEC_WAIT 0
    s.calDrop.calRestore

/-- DEV_MODE.REQ = READY during a DEVICE run (R460): answers whether a run holds the exit from CALIBRATE. -/
def State.calHolds (s : State) : Bool := s.calState != csIdle && s.calScope == 0

/-- The run's end on QUARANTINE entry (R460). -/
def State.calQuarantine (s : State) : State :=
  let s := if s.calState == csIdle then s
    else
      let s := s.cal.touched.foldl (fun s l => s.setBit R.CAL_STAT (l / 64) true) s
      let s := (s.setFld F.CAL_STAT_END ceQuar).setReg R.CAL_DEC_WAIT 0
      let s := (List.range 64).foldl State.tuLeaveCal s
      let s := s.calChans.foldl State.decCalEnd s
      let s := if s.calScope = 1 then s.setFlag (F.PART_P_STAT_SVC_BUSY s.calPart) false else s
      let s := ((s.setFlag F.CAL_STAT_STALE false).setFld F.CAL_STAT_STATE csIdle).setFld F.CAL_STAT_STAGE 0
      (s.count (R.xx_BLK_COUNT P.CAL)).event P.CAL E.CAL_RUN_END
  let s := { s with cal := { s.cal with frames := [], touched := [], importing := false } }
  s.calDrop

/-- The run has measured everything (R458). -/
def State.calFinish (s : State) : State :=
  let failed := s.reg R.CAL_FAIL_COUNT != 0
  if failed && s.flag F.CAL_RUN_CFG_STRICT then s.calGiveUp ceFailed
  else
    let written := if s.calItem 3 then s.calInLines.filter (fun l => !s.cal.sbFail.contains (l / 64)) else []
    let s := s.calApply written
    let s := { s with cal := { s.cal with factory := false } }
    (s.setFld F.CAL_STAT_END (if failed then cePartial else ceCommitted)).calLeave

/-! ### Items in order (R452, R457) -/

/-- The DEC item waits for range `r` (R457). -/
def State.calRange (s : State) (r : Nat) : State :=
  (s.setReg R.CAL_DEC_WAIT (BitVec.ofNat 32 (2 ^ 31 + r))).event P.CAL E.CAL_DEC_WAIT

/-- The ranges of the DEC item from `r` on. -/
def State.calRangesFrom (s : State) (r : Nat) : List Nat :=
  (List.range 4).filter (fun i => decide (r ≤ i) && (s.fld F.CAL_DEC_CFG_RANGES).testBit i)

/-- The next item set after item `k` begins, or the run ends. -/
def State.calNext (s : State) (k : Nat) : State :=
  match [1, 2, 3, 4, 5].find? (fun i => decide (k < i) && s.calItem i) with
  | none => s.calFinish
  | some i =>
    let s := (s.setFld F.CAL_STAT_STAGE i).event P.CAL E.CAL_STAGE
    let s := if i = 3 then { s with cal := { s.cal with touched := s.calInLines } } else s
    if i = 5 then s.calRange ((s.calRangesFrom 0).headD 0) else s

/-- The conditions of a START (R450, R460). -/
def State.calCanStart (s : State) : Bool :=
  s.calState == csIdle && !s.cal.importing
    && (if s.calScope = 0 then s.mode == mCalibrate else s.mode == mReady || s.mode == mMeasure || s.mode == mRun)
    && (s.calScope != 1 || s.pstate s.calPart == pService)
    && s.calUnits.all (fun u => s.tuState u != tuArmed)
    && s.calChans.all (fun c => s.decOn c && s.decState c != dcFault)
    && (!s.calItem 3 || s.calGroups.all (fun t => s.fld (F.PE_SB_MAP_TH_STRIDE t) != 0))
    && decide (s.fld F.CAL_T0_T0_PS < s.fld F.CAL_CYC_PERIOD_PS)

/-- A run starts (R450, R451). -/
def State.calBegin (s : State) : State :=
  let s := (s.setReg R.CAL_FAIL_COUNT 0).setReg R.CAL_DEC_FAIL 0
  let s := ({ s with cal := { s.cal with cause := [], err := [], flips := [], touched := [] } }).calDrop
  let s := s.setFld F.CAL_STAT_END 0
  if !([1, 2, 3, 4, 5].any s.calItem) then (s.setFld F.CAL_STAT_END ceCommitted).calLeave
  else
    let pages := s.fld F.CAL_TIA_SEL_USE :: s.calPages
    let s := ((List.range 64).filter (fun u => pages.contains (u / 8))).foldl State.tuEnterCal s
    let s := s.calChans.foldl State.decCal s
    let s := if s.calScope = 1 then s.setFlag (F.PART_P_STAT_SVC_BUSY s.calPart) true else s
    ((s.setFld F.CAL_STAT_STATE csMeasure).setFlag F.CAL_STAT_STALE true).calNext 0

/-- A failed element (R458); `line` records its cause where the element is a line's. -/
def State.calFail (s : State) (line : Option (Nat × Nat)) : State :=
  let s := match line with
    | some (l, c) => { s with cal := { s.cal with cause := sset 0 s.cal.cause l c } }
    | none => s
  (s.count R.CAL_FAIL_COUNT).fault P.CAL X.CAL_ELEM_FAIL

/-- CAL_RES.CAUSE codes. -/
abbrev ccOk : Nat := 1
abbrev ccRange : Nat := 2
abbrev ccNoise : Nat := 3
abbrev ccNoTransition : Nat := 4
abbrev ccWidth : Nat := 5
abbrev ccSb : Nat := 6
abbrev ccSpan : Nat := 7

/-- A line's element did not fail: a failure of an earlier item stays shown. -/
def State.calGood (s : State) (l : Nat) : State :=
  if sget 0 s.cal.cause l = 0 then { s with cal := { s.cal with cause := sset 0 s.cal.cause l ccOk } } else s

/-- A rational number rounded to nearest, halves away from zero. -/
def roundRat (q : Rat) : Int := roundAway q.num q.den

/-- A rational number of ps recorded in CAL_RES_ERR, in 1/256 ps. -/
def State.calError (s : State) (l : Nat) (ps : Rat) : State :=
  { s with cal := { s.cal with err := sset 0 s.cal.err l (BitVec.ofInt 32 (roundRat (ps * 256))) } }

/-- Provisional taps and scale of a line. -/
def State.calTaps (s : State) (l taps : Nat) (scale : Option Rat) : State :=
  let c := s.cal
  { s with cal := { c with
      taps := c.taps ++ [(l, taps)]
      scales := match scale with
        | some q => c.scales ++ [(l, min 65535 (roundRat (q * 4096)).toNat)]
        | none => c.scales } }

/-! ### TIA (R232, R233) -/

/-- The widths of a table from its hits (R232): running sum `acc` and previous cumulative value. -/
def binWidths (h : Nat) : Nat → Nat → List Nat → List Nat
  | _, _, [] => []
  | acc, prev, c :: t =>
    let cum := (2 * 16000 * (acc + c) + h) / (2 * h)
    (cum - prev) :: binWidths h (acc + c) cum t

/-- A table is acceptable (R233). -/
def binsOk (outside : Nat) (l : List Nat) : Bool :=
  let n := (l.filter (fun w => decide (0 < w))).length
  outside == 0 && l.all (fun w => decide (w ≤ 255)) && decide (120 ≤ n) && decide (n ≤ 192)

/-- The table of interpolator `i` from its hits. -/
def State.calTable (s : State) (hits : List TiaHits) (i : Nat) : State :=
  let n := i / 16
  let u := i / 2 % 8
  let x := (hits.find? (fun x => x.interp.val == i)).getD ⟨0, [], 0⟩
  let counts := (List.range 192).map (fun k => x.counts.getD k 0)
  let h := 2 ^ s.fld (F.TIA_CAL_CFG_HITS_LOG2 n)
  if counts.sum + x.outside < h then (s.fault (P.TIA n) X.TIA_RING_FAIL).calFail none
  else
    let w := binWidths h 0 0 counts
    match s.takeInj (P.TIA n) (X.TIA_CAL_FAIL u) with
    | (true, s) => (s.faultInj (P.TIA n) (X.TIA_CAL_FAIL u) true).calFail none
    | (false, s) =>
      if binsOk x.outside w && counts.sum == h then { s with cal := { s.cal with bins := s.cal.bins ++ [(i, w)] } }
      else (s.fault (P.TIA n) (X.TIA_CAL_FAIL u)).calFail none

/-- The item under way is item `k`. -/
def State.calAt (s : State) (k : Nat) : Bool := s.calState == csMeasure && s.fld F.CAL_STAT_STAGE == k

/-- CAL_TIA_ITEM (R232, R233). -/
def execCalTiaItem (hits : List TiaHits) (s : State) : Host.Outcome State Fault Refusal :=
  done (if !s.calAt 1 then s
    else (((List.range 128).filter (fun i => s.calPages.contains (i / 16))).foldl (fun s i => s.calTable hits i) s).calNext 1)

/-! ### OUT (R453) -/

/-- The RMS of `n` errors about their mean, given in 1/64 ps, exceeds `lim` ps. -/
def rmsOver (n sq : Nat) (sum : Int) (lim : Nat) : Bool :=
  decide (((lim * lim * 4096 * n * n : Nat) : Int) < ((n * sq : Nat) : Int) - sum * sum)

/-- The output deskew of a line (R453). -/
def State.calOut (s : State) (stamps : List OutStamps) (l : Nat) : State :=
  let n := 2 ^ s.fld F.CAL_OUT_CFG_EDGES_LOG2
  let lim := s.fld F.CAL_OUT_CFG_RMS_LIM_PS
  let (err, s) := s.fresh 32
  let s := { s with cal := { s.cal with err := sset 0 s.cal.err l err } }
  match stamps.find? (fun x => x.line.val == l) with
  | none => s.calFail (some (l, ccNoise))
  | some x =>
    let d := (x.sum2 - x.sum1).natAbs
    let t : Int := s.lineTaps l - roundAway (x.sum1 * 1024) d
    if rmsOver n x.sq1 x.sum1 lim || rmsOver n x.sq2 x.sum2 lim then s.calFail (some (l, ccNoise))
    else if d = 0 || t < 0 || 4095 < t then s.calFail (some (l, ccRange))
    else (s.calTaps l t.toNat (some (mkRat d (65536 * n)))).calGood l

/-- CAL_OUT_ITEM (R453). -/
def execCalOutItem (stamps : List OutStamps) (s : State) : Host.Outcome State Fault Refusal :=
  done (if !s.calAt 2 then s else (s.calOutLines.foldl (fun s l => s.calOut stamps l) s).calNext 2)

/-! ### TH (R454, R455) -/

/-- The halving of a search (R454): `lo` and `hi` read `a` and its opposite; the readings of the codes tried follow. -/
def flipSearch : Nat → Nat → Nat → Bool → List Bool → Nat
  | 0, lo, hi, a, _ => if a then lo else hi
  | f + 1, lo, hi, a, r =>
    if hi ≤ lo + 1 then (if a then lo else hi)
    else
      let m := (lo + hi) / 2
      if r.headD a == a then flipSearch f m hi a r.tail else flipSearch f lo m a r.tail

/-- The flip code of a comparator at one level (R454), none where both ends of the range give the same reading. -/
def flipCode (lo hi : Nat) (r : List Bool) : Option Nat :=
  match r with
  | a :: b :: t => if a == b then none else some (flipSearch 17 lo hi a t)
  | _ => none

/-- The threshold of a comparator line (R454). -/
def State.calTh (s : State) (readings : List ThReadings) (l : Nat) : State :=
  if s.cal.sbFail.contains (l / 64) then s.calFail (some (l, ccSb))
  else
    let lo := s.fld F.CAL_TH_RANGE_CODE_MIN
    let hi := s.fld F.CAL_TH_RANGE_CODE_MAX
    let x := (readings.find? (fun x => x.line.val == l)).getD ⟨0, [], []⟩
    match flipCode lo hi x.low, flipCode lo hi x.high with
    | some cl, some ch =>
      let s := { s with cal := { s.cal with flips := sset 0 s.cal.flips l (BitVec.ofNat 32 (ch * 65536 + cl)) } }
      let frac := if l % 4 = 2 then s.fld F.CAL_TH_CFG_FRAC_H else s.fld F.CAL_TH_CFG_FRAC_L
      if ((ch : Int) - cl).natAbs < s.fld F.CAL_TH_CFG_MIN_SPAN then s.calFail (some (l, ccSpan))
      else
        let code := (cl + roundAway (((ch : Int) - cl) * frac) 256).toNat
        ({ s with cal := { s.cal with th := s.cal.th ++ [(l, code)] } }).calGood l
    | _, _ => s.calFail (some (l, ccNoTransition))

/-- CAL_TH_ITEM (R454, R455): `sbFail` are the timing groups in which one of the item's frames failed lasting. -/
def execCalThItem (readings : List ThReadings) (sbFail : List (Fin 16)) (s : State) : Host.Outcome State Fault Refusal :=
  done (if !s.calAt 3 then s
    else
      let s := s.calGroups.foldl (fun s t =>
        match s.takeInj (P.TG t) X.TG_SB_FAIL with
        | (true, s) => ({ s with cal := { s.cal with sbFail := t :: s.cal.sbFail } }).faultInj (P.TG t) X.TG_SB_FAIL true
        | (false, s) => if sbFail.any (fun x => x.val == t) then
            ({ s with cal := { s.cal with sbFail := t :: s.cal.sbFail } }).fault (P.TG t) X.TG_SB_FAIL else s) s
      (s.calInLines.foldl (fun s l => s.calTh readings l) s).calNext 3)

/-! ### IN (R456) -/

/-- The crossing δ of the fraction `pct` / 100 in a sweep from `δ` on by `step` ps (R456). -/
def crossing (pct n step : Nat) : Int → List Nat → Option Rat
  | _, [] => none
  | _, [_] => none
  | δ, a :: b :: t =>
    match crossing pct n step (δ + step) (b :: t) with
    | some q => some q
    | none => if 100 * a < pct * n then
        (if b = a then none else some (δ + step * mkRat ((pct * n : Nat) - 100 * a) ((100 * (b - a) : Int)).toNat)) else none

/-- A sweep spans the transition (R456). -/
def sweepSpans (n : Nat) (l : List Nat) : Bool := decide (20 * l.headD n ≤ n) && decide (19 * n ≤ 20 * l.getLastD 0)

/-- The first sweep of a line: its middle crossing, or the cause of its failure (R456). -/
def State.inFirst (s : State) (l : List Nat) : Except Nat Rat :=
  let n := 2 ^ s.fld F.CAL_IN_CFG_N_LOG2
  let step := s.fld F.CAL_IN_CFG_STEP_PS
  let a : Int := -(s.fld F.CAL_IN_CFG_SPAN_PS : Int)
  if !sweepSpans n l then .error ccSpan
  else
    match crossing 16 n step a l, crossing 50 n step a l, crossing 84 n step a l with
    | some p, some q, some r => if (s.fld F.CAL_IN_LIM_W_LIM_PS : Rat) < r - p then .error ccWidth else .ok q
    | _, _, _ => .error ccSpan

/-- The mean of the middle crossings of the lines that did not fail. -/
def meanOf (l : List (Except Nat Rat)) : Rat :=
  let v := l.filterMap (fun x => match x with
    | .ok q => some q
    | .error _ => none)
  if v = [] then 0 else v.sum / v.length

/-- The input deskew of a line (R456): `d` is its middle crossing of the first sweep, `d'` that of the second. -/
def State.calIn (s : State) (l : Nat) (d : Except Nat Rat) (d' : Option Rat) : State :=
  match d, d' with
  | .error c, _ => s.calFail (some (l, c))
  | .ok _, none => s.calFail (some (l, ccSpan))
  | .ok d, some d' =>
    let t := s.lineTaps l
    let sc : Rat := mkRat (s.lineScale l) 4096
    let t1 : Int := t + roundRat (d / sc)
    let new := decide (64 ≤ (t1 - t).natAbs)
    let sc1 : Rat := if new then |d - d'| / (t1 - t).natAbs else sc
    let m := roundRat (d' / sc1)
    if sc = 0 || sc1 = 0 || t1 < 0 || 4095 < t1 || t1 + m < 0 || 4095 < t1 + m then s.calFail (some (l, ccRange))
    else ((s.calTaps l (t1 + m).toNat (if new then some sc1 else none)).calError l (d' - m * sc1)).calGood l

/-- CAL_IN_ITEM (R456). -/
def execCalInItem (sweeps : List InSweep) (s : State) : Host.Outcome State Fault Refusal :=
  done (if !s.calAt 4 then s
    else
      let n := 2 ^ s.fld F.CAL_IN_CFG_N_LOG2
      let step := s.fld F.CAL_IN_CFG_STEP_PS
      let a : Int := -(s.fld F.CAL_IN_CFG_SPAN_PS : Int)
      let of := fun (l : Nat) => (sweeps.find? (fun x => x.line.val == l)).getD ⟨0, [], []⟩
      let first := s.calInLines.map (fun l => (l, s.inFirst (of l).first, crossing 50 n step a (of l).second))
      let dut := s.flag F.CAL_RUN_CFG_IN_MODE
      let m := if dut then meanOf (first.map (fun x => x.2.1)) else 0
      let m' := if dut then meanOf (first.filterMap (fun x => match x.2.1, x.2.2 with
        | .ok _, some q => some (.ok q)
        | _, _ => none)) else 0
      (first.foldl (fun s x => s.calIn x.1 (x.2.1.map (fun q => q - m)) (x.2.2.map (fun q => q - m'))) s).calNext 4)

/-! ### DEC (R457) -/

/-- The offset of a channel in range `r` (R457). -/
def State.calDec (s : State) (sums : List DecSums) (r c : Nat) : State :=
  let fail := fun (s : State) => (({ s with cal := { s.cal with ofs := s.cal.ofs.filter (fun x => x.1 / 4 != c) } }).setBit
    R.CAL_DEC_FAIL c true).calFail none
  if s.bit R.CAL_DEC_FAIL c then s
  else if s.decStopped (c / 8) then fail s
  else
    match sums.find? (fun x => x.ch.val == c) with
    | none => fail s
    | some x =>
      let n : Nat := 2 ^ s.fld F.CAL_DEC_CFG_SAMP_LOG2
      let lim := s.fld F.CAL_DEC_CFG_RMS_LIM
      let sum : Int := x.sum - (n : Int) * signedOf 24 (s.decReg c (0x20 + 4 * r)) * 2 ^ 22
      if ((lim * lim * n * n * 2 ^ 44 : Nat) : Int) < ((n * x.sq : Nat) : Int) - x.sum * x.sum then fail s
      else if 2 ^ 20 * n * 2 ^ 22 ≤ sum.natAbs then fail s
      else { s with cal := { s.cal with
          ofs := s.cal.ofs ++ [(4 * c + r, unsignedOf 24 (roundAway sum (n * 2 ^ 22)))] } }

/-- CAL_DEC_ITEM (R457): after GO, every channel of the mask has been measured in the range that waited. -/
def execCalDecItem (sums : List DecSums) (s : State) : Host.Outcome State Fault Refusal :=
  done (if !s.calAt 5 || !s.cal.go then s
    else
      let r := s.fld F.CAL_DEC_WAIT_DEC_RANGE
      let s := s.calChans.foldl (fun s c => s.calDec sums r c) s
      let s := { s with cal := { s.cal with go := false } }
      match s.calRangesFrom (r + 1) with
      | [] => s.calNext 5
      | i :: _ => s.calRange i)

/-! ### Records (R461, R462) -/

/-- Payload bytes of a kind in a version (R461): 0 SET, 1 OUT, 2 IN, 3 TH, 4 TIA, 5 DEC; none where the version has none. -/
def payloadLen (v10 : Bool) (kind : Nat) : Option Nat :=
  match kind with
  | 0 => some 32
  | 1 => some (if v10 then 64 else 128)
  | 2 => some (if v10 then 64 else 128)
  | 3 => some 64
  | 4 => some 3072
  | 5 => if v10 then none else some 128
  | _ => none

/-- The INDEX values of a kind. -/
def indexCount (kind : Nat) : Nat := if kind = 0 then 1 else if kind ≤ 3 then 16 else if kind = 4 then 8 else 4

/-- The payload of a record of the set in force (R461). -/
def State.calPayload (s : State) (v10 : Bool) (kind i : Nat) : List Byte :=
  let line := fun (p k : Nat) => 4 * (16 * i + p) + k
  let pair := fun (k : Nat) (f : Nat → Nat) => (List.range 16).flatMap (fun p => leBytes 2 (f (line p k)) ++ leBytes 2 (f (line p (k + 1))))
  match kind with
  | 0 =>
    let factory := s.cal.factory && !s.flag F.CAL_STAT_EMPTY
    leBytes 4 (s.reg R.CAL_GEN).toNat ++ leBytes 1 (if factory then 0 else 1) ++ leBytes 1 s.cal.temp
      ++ leBytes 2 (if v10 then 57 else 61) ++ leBytes 24 0
  | 1 => pair 0 s.lineTaps ++ (if v10 then [] else pair 0 s.lineScale)
  | 2 => pair 2 s.lineTaps ++ (if v10 then [] else pair 2 s.lineScale)
  | 3 => pair 2 s.lineCode
  | 4 => (List.range 8).flatMap (fun u =>
      (List.range 48).flatMap (fun w => leBytes 4 (s.reg (R.TU_BIN_START i u w)).toNat)
        ++ (List.range 48).flatMap (fun w => leBytes 4 (s.reg (R.TU_BIN_STOP i u w)).toNat))
  | _ => (List.range 32).flatMap (fun k => leBytes 4 (unsignedOf 32 (signedOf 24 (s.reg (ofsReg (32 * i + k))).toNat)))

/-- A record of the set in force, with its CRC (R461). -/
def State.calRecord (s : State) (v10 : Bool) (kind i : Nat) : List Byte :=
  let p := s.calPayload v10 kind i
  let b := leBytes 2 0x5243 ++ leBytes 1 (if v10 then 0x10 else 0x11) ++ leBytes 1 kind ++ leBytes 1 i ++ leBytes 1 0
    ++ leBytes 2 p.length ++ leBytes 8 s.dev.shadow.uid.toNat ++ p
  b ++ leBytes 4 (crcStandard b)

/-- Bytes as little-endian words. -/
def words32 : List Byte → List Word
  | a :: b :: c :: d :: t => BitVec.ofNat 32 (leNat [a, b, c, d]) :: words32 t
  | _ => []

/-- The export stream (R463). -/
def State.calStream (s : State) (v10 : Bool) : List Word :=
  words32 ((List.range (if v10 then 5 else 6)).flatMap (fun k => (List.range (indexCount k)).flatMap (fun i => s.calRecord v10 k i)))

/-- A record of a staged stream: version, kind, index, unique ID, payload, whether its CRC matches. -/
structure CalRec where
  ver : Nat
  kind : Nat
  index : Nat
  uid : Nat
  payload : List Byte
  crc : Bool

/-- The records of a stream; none from the first that is not framed as one on. The first argument bounds the records. -/
def calParse : Nat → List Byte → List (Option CalRec)
  | _, [] => []
  | 0, _ => [none]
  | f + 1, b =>
    let len := leNat ((b.drop 6).take 2)
    if b.length < 20 + len ∨ leNat (b.take 2) ≠ 0x5243 then [none]
    else
      let body := b.take (16 + len)
      some { ver := leNat ((b.drop 2).take 1), kind := leNat ((b.drop 3).take 1), index := leNat ((b.drop 4).take 1)
             uid := leNat ((b.drop 8).take 8), payload := (b.drop 16).take len
             crc := leNat ((b.drop (16 + len)).take 4) == crcStandard body } :: calParse f (b.drop (20 + len))

/-- CAL_IMP_STAT.CAUSE codes. -/
abbrev ciCrc : Nat := 1
abbrev ciVersion : Nat := 2
abbrev ciUid : Nat := 3
abbrev ciFormat : Nat := 4
abbrev ciNoMap : Nat := 5
abbrev ciSb : Nat := 6
abbrev ciOverflow : Nat := 7

/-- Record `i` has the format that the stream's version gives it (R461, R464). -/
def recFormatOk (l : List (Option CalRec)) (i : Nat) : Bool :=
  match l.getD 0 none, l.getD i none with
  | some z, some r =>
    let known := r.ver == 0x10 || r.ver == 0x11
    (i != 0 || r.kind == 0) && r.ver == z.ver && decide (r.kind ≤ 5) && decide (r.index < indexCount r.kind)
      && (!known || payloadLen (r.ver == 0x10) r.kind == some r.payload.length)
      && (l.take i).all (fun x => match x with
        | some y => !(y.kind == r.kind && y.index == r.index)
        | none => true)
      && (i != 0 || leNat ((r.payload.drop 6).take 2) == l.length)
  | _, _ => false

/-- The first cause for which a staged stream is refused, with the record it names (R464). -/
def State.importRefusal (s : State) (l : List (Option CalRec)) : Option (Nat × Nat) :=
  let bad := fun (cause : Nat) (p : CalRec → Bool) =>
    ((List.range l.length).find? (fun i => match l.getD i none with
      | some r => p r
      | none => true)).map (fun i => (cause, i))
  if l = [] then some (ciFormat, 0)
  else
    match (List.range l.length).find? (fun i => !recFormatOk l i) with
    | some i => some (ciFormat, i)
    | none =>
      match bad ciCrc (fun r => !r.crc) with
      | some x => some x
      | none =>
        match bad ciVersion (fun r => !(r.ver == 0x10 || r.ver == 0x11)) with
        | some x => some x
        | none =>
          match bad ciUid (fun r => r.uid != s.dev.shadow.uid.toNat) with
          | some x => some x
          | none => bad ciNoMap (fun r => r.kind == 3 && s.fld (F.PE_SB_MAP_TH_STRIDE r.index) == 0)

/-- Field `j` of 16 bits of a payload. -/
def half (p : List Byte) (j : Nat) : Nat := leNat ((p.drop (2 * j)).take 2)

/-- The values of a record become provisional. -/
def State.stageRecord (s : State) (r : CalRec) : State :=
  let v10 := r.ver == 0x10
  let c := s.cal
  let lines := fun (k : Nat) => (List.range 32).map (fun j => (4 * (16 * r.index + j / 2) + k + j % 2, j))
  let deskew := fun (k : Nat) =>
    { s with cal := { c with
        taps := c.taps ++ (lines k).map (fun x => (x.1, half r.payload x.2 % 4096))
        scales := c.scales ++ (lines k).map (fun x => (x.1, if v10 then 2048 else half r.payload (32 + x.2))) } }
  match r.kind with
  | 0 => { s with cal := { c with source := leNat ((r.payload.drop 4).take 1) } }
  | 1 => deskew 0
  | 2 => deskew 2
  | 3 => { s with cal := { c with th := c.th ++ (lines 2).map (fun x => (x.1, half r.payload x.2)) } }
  | 4 => { s with cal := { c with
      bins := c.bins ++ (List.range 16).map (fun i =>
        (16 * r.index + i, ((r.payload.drop (192 * i)).take 192).map BitVec.toNat)) } }
  | _ => { s with cal := { c with
      ofs := c.ofs ++ (List.range 32).map (fun k => (32 * r.index + k, leNat ((r.payload.drop (4 * k)).take 4) % 2 ^ 24)) } }

/-! ### Import (R464) -/

/-- CAL_IMP_STAT.STATE is OPEN and no stream is being applied. -/
def State.importOpen (s : State) : Bool := s.fld F.CAL_IMP_STAT_STATE == 1 && !s.cal.importing

/-- The import ends. -/
def State.importEnd (s : State) (st cause record : Nat) : State :=
  let s := ((s.setFld F.CAL_IMP_STAT_STATE st).setFld F.CAL_IMP_STAT_CAUSE cause).setFld F.CAL_IMP_STAT_RECORD record
  ({ s with cal := { s.cal with imp := [], importing := false } }).event P.CAL E.CAL_IMP_END

/-- A word of CAL_IMP_DATA. -/
def State.importWord (s : State) (v : Word) : State :=
  if s.cal.imp.length = 8192 then s.importEnd 3 ciOverflow 0
  else
    let s := { s with cal := { s.cal with imp := v :: s.cal.imp } }
    s.setFld F.CAL_IMP_STAT_WORDS s.cal.imp.length

/-- COMMIT: the stream is validated, and its codes start on their way. -/
def State.importCommit (s : State) : State :=
  let l := calParse 512 (s.cal.imp.reverse.flatMap (fun w => leBytes 4 w.toNat))
  match s.importRefusal l with
  | some (c, i) => s.importEnd 3 c i
  | none =>
    let s := { s.calDrop with cal := { s.calDrop.cal with touched := [], importing := true } }
    let s := l.foldl (fun s x => match x with
      | some r => s.stageRecord r
      | none => s) s
    s.calSend s.cal.th

/-- CAL_IMPORT_APPLY (R464): the sideband writes have ended, and the set comes into force, or the import fails. -/
def execCalImportApply (s : State) : Host.Outcome State Fault Refusal :=
  done (if !s.cal.importing || s.cal.frames != [] || (List.range 16).any (fun t => ((s.tg t).frame.map SbFrame.cal).getD false) then s
    else if s.cal.sbFail != [] then ({ s.calDrop with cal := { s.calDrop.cal with touched := [] } }).importEnd 3 ciSb 0
    else
      let s := s.calApply (s.cal.th.map Prod.fst)
      let s := { s with cal := { s.cal with factory := s.cal.factory && s.cal.source == 0 } }
      s.importEnd 2 0 0)

/-- A write of CAL_IMP_CTRL. -/
def impCtrlRule (v : Word) (s : State) : WRule :=
  let m := s.mode
  { stateOk := !s.cal.importing
      && (!v.getLsbD 1 || ((s.fld F.CAL_IMP_STAT_STATE == 1 || v.getLsbD 0) && s.calState == csIdle
        && (m == mBoot || m == mTrain || m == mReady || m == mCalibrate)))
    eff := fun s =>
      let empty := fun (s : State) (st : Nat) => { s.setReg R.CAL_IMP_STAT (BitVec.ofNat 32 (st * 2 ^ 28)) with
        cal := { s.cal with imp := [] } }
      let s := if v.getLsbD 0 then empty s 1 else s
      let s := if v.getLsbD 2 && s.importOpen then empty s 0 else s
      if v.getLsbD 1 && s.importOpen then s.importCommit else s }

/-! ### Export (R463) -/

/-- START of an export. -/
def State.exportStart (s : State) (v10 : Bool) : State :=
  let l := s.calStream v10
  { s.setReg R.CAL_EXP_STAT (BitVec.ofNat 32 (2 ^ 31 + l.length)) with cal := { s.cal with exp := l } }

/-- The export ends. -/
def State.exportEnd (s : State) (result : Nat) : State :=
  let s := (s.setFlag F.CAL_EXP_STAT_ACTIVE false).setFld F.CAL_EXP_STAT_RESULT result
  ({ s with cal := { s.cal with exp := [] } }).event P.CAL E.CAL_EXP_END

/-- A read of CAL_EXP_DATA (R463): the next word, with the check of Constantan's copy. -/
def State.exportRead (s : State) (chk : EccCheck) : State :=
  match s.cal.exp with
  | [] => s.answer 0
  | w :: t =>
    let (inj, s) := s.takeInj P.CAL X.CAL_IMG_ECC
    if inj || chk == .double then ((s.faultInj P.CAL X.CAL_IMG_ECC inj).exportEnd 2).answer 0
    else
      let s := if chk == .corrected then s.count (R.xx_CE_COUNT P.CAL) else s
      let s := ({ s with cal := { s.cal with exp := t } }).setFld F.CAL_EXP_STAT_WORDS_LEFT t.length
      (if t = [] then s.exportEnd 0 else s).answer (w.setWidth 64)

/-! ### The CAL page (R466) -/

/-- A configuration write is in range. -/
def calCfgOk (o : Nat) (v : Word) : Bool :=
  let f := bitsOf v.toNat
  if o = 0x40 then f 17 16 != 3 && !(f 17 16 == 2 && f 3 1 != 0)
  else if o = 0x50 then f 15 0 != 0
  else if o = 0x54 then decide (2000 ≤ f 22 0)
  else if o = 0x5C then decide (4 ≤ f 19 16) && f 15 8 != 0
  else if o = 0x60 then decide (6 ≤ f 31 28) && decide (f 31 28 ≤ 14) && f 23 16 != 0 && f 15 0 != 0 && decide (f 15 0 ≤ 2000)
  else if o = 0x64 then f 7 0 != 0
  else if o = 0x68 then decide (f 23 16 < f 31 24) && decide (4 ≤ f 15 12)
  else if o = 0x6C then decide (f 15 0 < f 31 16)
  else if o = 0x70 then decide (8 ≤ f 28 24) && decide (f 28 24 ≤ 20) && f 23 20 != 0
  else true

/-- A write of CAL_CMD (R450, R457, R460). -/
def calCmdRule (v : Word) (s : State) : WRule :=
  { stateOk := !v.getLsbD 0 || s.calCanStart
    eff := fun s =>
      let s := if v.getLsbD 0 then s.calBegin else s
      let s := if v.getLsbD 2 && s.flag F.CAL_DEC_WAIT_WAITING then
          { s.setFlag F.CAL_DEC_WAIT_WAITING false with cal := { s.cal with go := true } } else s
      if v.getLsbD 1 then s.calGiveUp ceAbandoned else s }

/-- A write of the CAL page (18). -/
def calRule (a : Agent) (off : Nat) (v : Word) (s : State) : WRule :=
  let o := off - P.CAL
  if 0x40 ≤ o ∧ o < 0x80 then
    { stateOk := s.calState == csIdle, rangeOk := calCfgOk o v, eff := fun s => s.storeReg P.CAL off v }
  else if o = 0x80 then calCmdRule v s
  else if o = 0x90 then
    { agentOk := a == .mgmt
      eff := fun s => (s.setReg off v).setFlag F.CAL_STAT_UNSAVED (s.flag F.CAL_STAT_UNSAVED && v != s.reg R.CAL_GEN) }
  else if o = 0x94 then { eff := fun s => s.setReg off (v &&& 0x3FF) }
  else if o = 0xC0 then
    { rangeOk := !v.getLsbD 0 || bitsOf v.toNat 15 8 == 0x10 || bitsOf v.toNat 15 8 == 0x11
      eff := fun s =>
        let s := s.setReg off (v &&& 0xFF00)
        if v.getLsbD 0 then s.exportStart (bitsOf v.toNat 15 8 == 0x10) else s }
  else if o = 0xD0 then impCtrlRule v s
  else if o = 0xD4 then { stateOk := s.importOpen, eff := fun s => s.importWord v }
  else ignored

/-- What a read of the CAL page answers where it is not what the register holds. -/
def State.calRead (s : State) (off : Nat) : Option Word :=
  let l := s.fld F.CAL_RES_SEL_LINE
  if off = R.CAL_RES then some (BitVec.ofNat 32 (sget 0 s.cal.cause l * 2 ^ 28 + s.lineTaps l * 2 ^ 12))
  else if off = R.CAL_RES_ERR then some (sget 0 s.cal.err l)
  else if off = R.CAL_RES_SCALE then some (BitVec.ofNat 32 (s.lineScale l))
  else if off = R.CAL_RES_TH then some (sget 0 s.cal.flips l)
  else if off = R.CAL_IMP_DATA then some 0
  else none

/-- A block reset of the CAL page (R460, R537): the run is abandoned with END RESET, and what is in force stays. -/
def State.calReset (s : State) : State :=
  let s := if s.calState == csMeasure then s.calGiveUp ceReset else s
  { s with cal := { s.cal with exp := [], imp := [] } }

/-! ### Commands -/

/-- A write of CAL_CMD by an agent. -/
def State.calCommand (s : State) (a : Agent) (v : Word) : State := s.writeBy a .cal P.CAL R.CAL_CMD (calCmdRule v s)

/-- CAL_START (R450). -/
def execCalStart (a : Agent) (s : State) : Host.Outcome State Fault Refusal := done (s.calCommand a 1)

/-- CAL_GO (R457). -/
def execCalGo (a : Agent) (s : State) : Host.Outcome State Fault Refusal := done (s.calCommand a 4)

/-- CAL_ABANDON (R460). -/
def execCalAbandon (a : Agent) (s : State) : Host.Outcome State Fault Refusal := done (s.calCommand a 2)

/-- CAL_RUN_TIMEOUT (R460). -/
def execCalRunTimeout (s : State) : Host.Outcome State Fault Refusal :=
  done (if s.calState == csMeasure then (s.fault P.CAL X.CAL_RUN_TMO).calGiveUp ceTimeout else s)

/-- CAL_RESTORE_END (R460): Constantan has written the codes back. -/
def execCalRestoreEnd (s : State) : Host.Outcome State Fault Refusal :=
  done (if s.calState == csRestoring && s.cal.frames == []
      && !(List.range 16).any (fun t => ((s.tg t).frame.map SbFrame.cal).getD false) then
    ({ s with cal := { s.cal with touched := [] } }).calLeave else s)

/-- CAL_EXPORT_START (R463). -/
def execCalExportStart (a : Agent) (ver : Byte) (s : State) : Host.Outcome State Fault Refusal :=
  done (s.writeBy a .cal P.CAL R.CAL_EXP_CTRL (calRule a R.CAL_EXP_CTRL (BitVec.ofNat 32 (ver.toNat * 256 + 1)) s))

/-- CAL_EXP_DATA_READ (R463). -/
def execCalExpDataRead (a : Agent) (chk : EccCheck) (s : State) : Host.Outcome State Fault Refusal :=
  done (if s.responds a then s.exportRead chk else s)

/-- CAL_IMPORT_BEGIN (R464). -/
def execCalImportBegin (a : Agent) (s : State) : Host.Outcome State Fault Refusal :=
  done (s.writeBy a .cal P.CAL R.CAL_IMP_CTRL (impCtrlRule 1 s))

/-- CAL_IMPORT_DATA (R464). -/
def execCalImportData (a : Agent) (v : Word) (s : State) : Host.Outcome State Fault Refusal :=
  done (s.writeBy a .cal P.CAL R.CAL_IMP_DATA (calRule a R.CAL_IMP_DATA v s))

/-- CAL_IMPORT_CANCEL (R464). -/
def execCalImportCancel (a : Agent) (s : State) : Host.Outcome State Fault Refusal :=
  done (s.writeBy a .cal P.CAL R.CAL_IMP_CTRL (impCtrlRule 4 s))

/-- CAL_IMPORT_COMMIT (R464). -/
def execCalImportCommit (a : Agent) (s : State) : Host.Outcome State Fault Refusal :=
  done (s.writeBy a .cal P.CAL R.CAL_IMP_CTRL (impCtrlRule 2 s))

end Sys2Proof.Machine
end

