-- ==== Sys2Proof/Machine/Sched.lean ====
section
/-! DEFINITION. The hardware scheduler, the harts' scheduler ports, the trace streams and the HART, SCHED and TRACE pages
(11, R279, R285 to R295, R305 to R312). -/

namespace Sys2Proof.Machine

open Sys2Proof

/-! ### Dispatch (R289, R291, R293) -/

/-- Clocks of HCLK in one DCLK. -/
abbrev hclkPerDclk : Nat := 3

/-- Removes a task from the order of readiness. -/
def State.unready (s : State) (k : Nat) : State :=
  { s with sched := { s.sched with ready := s.sched.ready.filter (fun x => x != k) } }

/-- A task's state read is checked (SCHED_FLT.STATE_ECC): under an inverted check bit the task goes to IDLE with F
cleared. -/
def State.checkTask (s : State) (k : Nat) : State :=
  match s.takeInj P.SCHED X.SCHED_STATE_ECC with
  | (true, s) =>
    ((s.unready k).setTask k { s.task k with f := 0, st := .idle, deadline := none }).faultInj P.SCHED X.SCHED_STATE_ECC
      true
  | (false, s) => s

/-- Thread `k` is dispatched to hart `h` (R289, R291). -/
def State.dispatchThread (s : State) (k h : Nat) : State :=
  let t := s.task k
  let s := (s.unready k).setTask k { t with f := t.f &&& ~~~t.m, st := .running, unit := h, timedOut := false }
  let s := s.setReg (R.HART_SCHED_GOT h) t.f
  let s := s.setReg (R.HART_SCHED_CUR h)
    (BitVec.ofNat 32 (2 ^ 31 + (if t.timedOut then 2 ^ 30 else 0) + t.prio % 32 * 256 + k % 256))
  let s := (s.count (R.HART_CNT_DISP h)).count (R.xx_BLK_COUNT P.SCHED)
  let w := s.reg64 (R.HART_CNT_WAIT_LO h) (R.HART_CNT_WAIT_HI h) + BitVec.ofNat 64 (hclkPerDclk * (s.dclk - t.readyAt))
  let s := s.setReg64 (R.HART_CNT_WAIT_LO h) (R.HART_CNT_WAIT_HI h) w
  s.traceSched trDispatch k h false t.f.toNat

/-- The dispatch for hart `h`, which asks for a thread (R291). A hart that receives none is free. -/
def State.dispatchFor (s : State) (h : Nat) : State :=
  match s.readyThreads.find? (fun k => s.eligible (s.task k).aff h) with
  | some k => s.dispatchThread k h
  | none => s

/-- The hart runs no thread. -/
def State.freeHart (s : State) (h : Nat) : State := s.setReg (R.HART_SCHED_CUR h) 0

/-- The event of a hart that became free and received no thread. -/
def State.idleEvent (s : State) (h : Nat) : State := if s.hartFree h then s.event (P.HART h) E.HART_IDLE else s

/-- The deadline of a wait (R294): TMO_US µs of Invar time from now, none for 0. -/
def State.waitDeadline (s : State) (us : Nat) : Option (BitVec 64) :=
  if us = 0 then none else some (s.nowCopy + nsTime (us * 1000))

/-- Port command WAIT (R293). -/
def State.portWait (s : State) (h : Nat) : State :=
  let k := s.fld (F.HART_SCHED_CUR_THREAD h)
  let m := s.reg (R.HART_SCHED_MASK h)
  let all := s.flag (F.HART_SCHED_WCFG_MODE h)
  let s := s.freeHart h
  let s := s.setTask k { s.task k with
    m := m, all := all, st := .waiting, deadline := s.waitDeadline (s.fld (F.HART_SCHED_WCFG_TMO_US h)) }
  let s := s.traceSched trWait k h false (m.toNat + if all then 2 ^ 32 else 0)
  match s.testReady k with
  | (true, s) => s.traceSched trReady k 0 false 0
  | (false, s) => s

/-- Port command YIELD (R293). -/
def State.portYield (s : State) (h : Nat) : State :=
  let k := s.fld (F.HART_SCHED_CUR_THREAD h)
  let s := (s.freeHart h).traceSched trYield k h false 0
  (s.makeReady k false false).traceSched trReady k 0 false 0

/-- Port command END (R293). -/
def State.portEnd (s : State) (h : Nat) : State :=
  let k := s.fld (F.HART_SCHED_CUR_THREAD h)
  let s := s.freeHart h
  (s.setTask k { s.task k with st := .idle }).traceSched trEnd k h false 0

/-- Port command PREEMPTED (R293). -/
def State.portPreempted (s : State) (h : Nat) : State :=
  let k := s.fld (F.HART_SCHED_CUR_THREAD h)
  ((s.freeHart h).makeReady k true false).traceSched trReady k 0 false 0

/-- A port command that is accepted (R293): its effect on the hart's thread, then the dispatch for the hart. -/
def State.portCommand (s : State) (h op : Nat) : State :=
  let s := if op = 1 then s.portWait h else if op = 2 then s.portYield h else if op = 3 then s.portEnd h
    else if op = 5 then s.portPreempted h else s
  let s := if s.mode == mQuarantine then s else s.dispatchFor h
  let s := if op = 4 then s else s.idleEvent h
  s.settle

/-- A write of HART_SCHED_CMD (R293, R309). -/
def portRule (a : Agent) (h : Nat) (v : Word) (s : State) : WRule :=
  let op := bitsOf v.toNat 3 0
  let known := decide (1 ≤ op) && decide (op ≤ 5)
  { agentOk := claims a h && decide (h < 8)
    stateOk := !known || (if op = 4 then s.hartFree h else !s.hartFree h)
    rangeOk := known
    eff := fun s => s.portCommand h op }

/-- A port command of an agent. -/
def State.port (s : State) (a : Agent) (h op : Nat) : State :=
  s.writeBy a .hart (P.HART h) (R.HART_SCHED_CMD h) (portRule a h (BitVec.ofNat 32 op) s)

/-- HART_SCHED_WAIT (R293). -/
def execHartSchedWait (a : Agent) (h : Fin 8) (s : State) : Host.Outcome State Fault Refusal := done (s.port a h 1)

/-- HART_SCHED_YIELD (R293). -/
def execHartSchedYield (a : Agent) (h : Fin 8) (s : State) : Host.Outcome State Fault Refusal := done (s.port a h 2)

/-- HART_SCHED_END (R293). -/
def execHartSchedEnd (a : Agent) (h : Fin 8) (s : State) : Host.Outcome State Fault Refusal := done (s.port a h 3)

/-- HART_SCHED_NEXT (R293). -/
def execHartSchedNext (a : Agent) (h : Fin 8) (s : State) : Host.Outcome State Fault Refusal := done (s.port a h 4)

/-- HART_SCHED_PREEMPTED (R293). -/
def execHartSchedPreempted (a : Agent) (h : Fin 8) (s : State) : Host.Outcome State Fault Refusal := done (s.port a h 5)

/-! ### SCHED_CMD (R286, R287, R290, R310) -/

/-- ARM of a task (R286). -/
def State.arm (s : State) (k : Nat) : State :=
  let s := s.checkTask k
  let c := s.reg R.SCHED_ARG_CFG
  let s := s.setTask k { s.task k with
    m := s.reg R.SCHED_ARG_MASK, all := c.getLsbD 31, prio := bitsOf c.toNat 20 16
    aff := if k < 1024 then bitsOf c.toNat 7 0 else (s.task k).aff
    st := .waiting, deadline := none, timedOut := false }
  let s := s.traceSched trArm k 0 false 0
  let s := match s.testReady k with
    | (true, s) => s.traceSched trReady k 0 false 0
    | (false, s) => s
  s.settle

/-- CANCEL of a task that is not RUNNING (R289, R290); `race` names a flag set in the same clock. -/
def State.cancel (s : State) (k : Nat) (race : Option Nat) : State :=
  let s := s.checkTask k
  let t := s.task k
  let t := match race with
    | some f => { t with f := t.f ||| BitVec.ofNat 32 (2 ^ f) }
    | none => t
  let raced := race.isSome && t.st == .waiting && t.flagsReady
  let s := s.setTask k t
  let s := if raced then (s.traceSched trReady k 0 true 0).traceSched trCancel k 0 true 0
    else if t.st == .idle then s else s.traceSched trCancel k 0 false 0
  let s := (s.unready k).setTask k { t with f := 0, st := .idle, deadline := none, timedOut := false }
  let s := if raced then (s.count R.SCHED_RACE).event P.SCHED E.SCHED_RACE else s
  s.settle

/-- RED_GRAPH (11). -/
def State.redGraph (s : State) : Nat := s.fld F.RED_GRAPH_LO_ADDR * 2 ^ 16 + (s.reg R.RED_GRAPH_HI).toNat % 256 * 2 ^ 32

/-- The task that a SCHED_CMD word names. -/
def cmdTask (v : Word) : Nat := (if v.getLsbD 27 then 1024 else 0) + bitsOf v.toNat 25 16

/-- A write of SCHED_CMD (R310), with the flag raised in the same clock, if any. -/
def schedCmdRule (v : Word) (race : Option Nat) (s : State) : WRule :=
  let op := bitsOf v.toNat 31 28
  let k := cmdTask v
  let known := decide (1 ≤ op) && decide (op ≤ 4) && (v.getLsbD 27 || decide (bitsOf v.toNat 25 16 ≤ 255))
  { stateOk := !known || (if op = 1 then
        (s.task k).st == .idle && (if v.getLsbD 27 then decide (s.redGraph + 65536 ≤ s.installed)
          else s.fld F.SCHED_ARG_CFG_AFFINITY != 0)
      else if op = 2 then (s.task k).st != .running
      else true)
    rangeOk := known
    eff := fun s =>
      if op = 1 then s.arm k
      else if op = 2 then s.cancel k race
      else if op = 3 then s.setTaskFlag 4 k (bitsOf v.toNat 4 0)
      else (s.setTask k { s.task k with f := (s.task k).f &&& ~~~BitVec.ofNat 32 (2 ^ bitsOf v.toNat 4 0) }).settle }

/-- A SCHED_CMD of an agent. -/
def State.schedCmd (s : State) (a : Agent) (op : Nat) (k : TaskKind) (id f : Nat) (race : Option Nat) : State :=
  s.writeBy a .sched P.SCHED R.SCHED_CMD (schedCmdRule
    (BitVec.ofNat 32 (op * 2 ^ 28 + (if k = .node then 2 ^ 27 else 0) + id * 65536 + f)) race s)

/-- SCHED_ARM (R286, R290). -/
def execSchedArm (a : Agent) (k : TaskKind) (id : Fin 1024) (s : State) : Host.Outcome State Fault Refusal :=
  done (s.schedCmd a 1 k id 0 none)

/-- SCHED_CANCEL (R289, R290). -/
def execSchedCancel (a : Agent) (k : TaskKind) (id : Fin 1024) (race : Option (Fin 32)) (s : State) :
    Host.Outcome State Fault Refusal :=
  done (s.schedCmd a 2 k id 0 (race.map Fin.val))

/-- SCHED_SETFLAG (R287). -/
def execSchedSetflag (a : Agent) (k : TaskKind) (id : Fin 1024) (f : Fin 32) (s : State) :
    Host.Outcome State Fault Refusal :=
  done (s.schedCmd a 3 k id f none)

/-- SCHED_CLRFLAG (R287). -/
def execSchedClrflag (a : Agent) (k : TaskKind) (id : Fin 1024) (f : Fin 32) (s : State) :
    Host.Outcome State Fault Refusal :=
  done (s.schedCmd a 4 k id f none)

/-- THREAD_WAIT_TIMEOUT (R294): a thread still WAITING with a deadline becomes READY with TIMEDOUT. -/
def execThreadWaitTimeout (t : Fin 256) (s : State) : Host.Outcome State Fault Refusal :=
  let k := t.val
  done (if (s.task k).st == .waiting && (s.task k).deadline.isSome then
      let s := s.traceSched trTimeout k 0 false 0
      ((s.makeReady k false true).traceSched trReady k 0 false 0).settle
    else s)

/-! ### Harts started and stopped (R279, R295) -/

/-- The start address of a hart. -/
def State.hartBoot (s : State) (h : Nat) : BitVec 64 :=
  BitVec.ofNat 64 ((s.reg (R.HART_BOOT_LO h)).toNat + (s.reg (R.HART_BOOT_HI h)).toNat % 512 * 2 ^ 32)

/-- The NMI address of a hart. -/
def State.hartNmi (s : State) (h : Nat) : BitVec 64 :=
  BitVec.ofNat 64 ((s.reg (R.HART_NMI_LO h)).toNat + (s.reg (R.HART_NMI_HI h)).toNat % 512 * 2 ^ 32)

/-- A hart stops running its thread (R295): the thread goes to IDLE with F kept. -/
def State.orphan (s : State) (h : Nat) : State :=
  if s.hartFree h then s
  else
    let k := s.fld (F.HART_SCHED_CUR_THREAD h)
    let s := (s.freeHart h).setTask k { s.task k with st := .idle }
    ((s.traceSched trOrphan k h false 0).event P.SCHED E.SCHED_ORPHAN).settle

/-- Setting or clearing ENABLE of a HART page (R279). -/
def State.hartEnable (h : Nat) (on : Bool) (s : State) : State :=
  if on then (s.setHart h { Hart.init with pc := s.hartBoot h, l1 := (s.hart h).l1 }).settle
  else (s.orphan h).setHart h { Hart.init with l1 := (s.hart h).l1 }

/-- The effect of a block reset on a hart (R279): its L1 contents are discarded. -/
def State.hartReset (s : State) (h : Nat) : State := (s.orphan h).setHart h Hart.init

/-- A hart stops in QUARANTINE (R279) with its state kept. -/
def State.hartStop (s : State) (h : Nat) : State :=
  if s.flag (F.xx_CTRL_ENABLE (P.HART h)) then (s.orphan h).event (P.HART h) E.HART_STOPPED else s

/-- A write of xx_CTRL of a HART page, by an agent other than the hart itself (R279). -/
def hartCtrlRule (a : Agent) (h : Nat) (v : Word) (reset : State → State) : WRule :=
  { ctrlRule (P.HART h) v (State.hartEnable h) reset with agentOk := !claims a h }

/-- HART_ENABLE (R279): ENABLE is written to 1. -/
def execHartEnable (a : Agent) (h : Fin 8) (s : State) : Host.Outcome State Fault Refusal :=
  done (s.writeBy a .hart (P.HART h) (R.xx_CTRL (P.HART h))
    (hartCtrlRule a h ((s.reg (R.xx_CTRL (P.HART h)) &&& 0xFFFFFFFB) ||| 1) (fun s => s)))

/-- The SCHED interrupt of a hart (R292). -/
def State.schedInterrupt (s : State) (h : Nat) : Bool :=
  s.flag (F.HART_SCHED_CUR_PREEMPT_REQ h)
    || (s.hartFree h && s.readyThreads.any (fun k => (s.task k).aff.testBit h))

/-- HART_STAT.STATE: 0 RESET, 1 RUN, 2 WFI, 3 STOPPED by device mode. -/
def State.hartStat (s : State) (h : Nat) : Nat :=
  if !s.flag (F.xx_CTRL_ENABLE (P.HART h)) then 0
  else if s.mode == mQuarantine || s.mode == mDoze || s.mode == mHibernate || s.dev.sleep.target != 0 then 3
  else if (s.hart h).wfi then 2 else 1

/-- A write of HART_CNT_CLR (R308). -/
def cntClrRule (h : Nat) (v : Word) : WRule :=
  { eff := fun s => if v.getLsbD 0 then
      ((s.setReg64 (R.HART_CNT_BUSY_LO h) (R.HART_CNT_BUSY_HI h) 0).setReg64 (R.HART_CNT_WAIT_LO h)
        (R.HART_CNT_WAIT_HI h) 0).setReg64 (R.HART_CNT_DEPTH_LO h) (R.HART_CNT_DEPTH_HI h) 0
    else s }

/-- HART_CNT_CLR (R308). -/
def execHartCntClr (a : Agent) (h : Fin 8) (s : State) : Host.Outcome State Fault Refusal :=
  done (s.writeBy a .hart (P.HART h) (R.HART_CNT_CLR h) (cntClrRule h 1))

/-- A write of an address register of a hart (R279, R309): the high word holds an address of cached DRAM, 0x80_0000_0000 to
0xFF_FFFF_FFFF. -/
def hartAddrRule (a : Agent) (h off : Nat) (hi : Bool) (v : Word) (s : State) : WRule :=
  { agentOk := !claims a h
    stateOk := !s.flag (F.xx_CTRL_ENABLE (P.HART h))
    rangeOk := !hi || (decide (0x80 ≤ bitsOf v.toNat 8 0) && decide (bitsOf v.toNat 8 0 ≤ 0xFF))
    eff := fun s => s.setReg off (if hi then v &&& 0x1FF else v &&& 0xFFFFFFFE) }

/-- A write of a HART page (R309). -/
def hartRule (a : Agent) (h off : Nat) (v : Word) (s : State) : WRule :=
  let self := claims a h && decide (h < 8)
  if off = R.HART_BOOT_LO h ∨ off = R.HART_NMI_LO h then hartAddrRule a h off false v s
  else if off = R.HART_BOOT_HI h ∨ off = R.HART_NMI_HI h then hartAddrRule a h off true v s
  else if off = R.HART_MSIP h then { agentOk := self || a == .mgmt, eff := fun s => s.setReg off (v &&& 1) }
  else if off = R.HART_TIMECMP_LO h ∨ off = R.HART_TIMECMP_HI h then
    { agentOk := self || a == .mgmt, eff := fun s => s.setReg off v }
  else if off = R.HART_SCHED_CMD h then portRule a h v s
  else if off = R.HART_SCHED_MASK h then { agentOk := self, eff := fun s => s.setReg off v }
  else if off = R.HART_SCHED_WCFG h then { agentOk := self, eff := fun s => s.setReg off (v &&& 0x80FFFFFF) }
  else if off = R.HART_CNT_CLR h then cntClrRule h v
  else ignored

/-- pmpaddr `k` as it reads with a granularity of 4 KiB: the bits below the granule are 1 for NAPOT and 0 otherwise. -/
def Hart.pmpView (x : Hart) (k : Nat) : BitVec 64 :=
  let v := sget 0 x.pmpaddr k
  if (sget 0 x.pmpcfg k).getLsbD 4 then v ||| 0x1FF else v &&& ~~~0x3FF

/-- Registers of a HART page that show state other than a stored word. -/
def State.hartPageRead (s : State) (h off : Nat) : Option Word :=
  let x := s.hart h
  if off = R.HART_STAT h then some (BitVec.ofNat 32 (s.hartStat h))
  else if R.HART_PMP_ADDR_LO h 0 ≤ off ∧ off < R.HART_PMP_ADDR_LO h 16 then
    let k := (off - R.HART_PMP_ADDR_LO h 0) / 8
    let v := x.pmpView k
    some (if (off - R.HART_PMP_ADDR_LO h 0) % 8 = 0 then v.setWidth 32 else (v >>> 32).setWidth 32)
  else if R.HART_PMP_CFG h 0 ≤ off ∧ off ≤ R.HART_PMP_CFG h 3 then
    let i := (off - R.HART_PMP_CFG h 0) / 4
    some (BitVec.ofNat 32 ((List.range 4).map (fun j => (sget 0 x.pmpcfg (4 * i + j)).toNat * 2 ^ (8 * j))).sum)
  else none

/-! ### The SCHED page -/

/-- A write of the SCHED page (R310). -/
def schedRule (off : Nat) (v : Word) (s : State) : WRule :=
  if off = R.SCHED_CFG then { eff := fun s => (s.setReg off (v &&& 1)).settle }
  else if off = R.SCHED_CMD then schedCmdRule v none s
  else if off = R.SCHED_ARG_MASK then { eff := fun s => s.setReg off v }
  else if off = R.SCHED_ARG_CFG then { eff := fun s => s.setReg off (v &&& 0x801F00FF) }
  else if off = R.SCHED_Q_SEL then
    { rangeOk := v.getLsbD 27 || decide (bitsOf v.toNat 25 16 ≤ 255), eff := fun s => s.setReg off (v &&& 0x0BFF0000) }
  else if off = R.SCHED_EV_SEL then { eff := fun s => s.setReg off (v &&& 0x1FF) }
  else if off = R.SCHED_EV_ROUTE then
    { eff := fun s => { s with sched := { s.sched with
        routes := sset 0 s.sched.routes (s.fld F.SCHED_EV_SEL_SRC) (v &&& 0xC3FF001F) } } }
  else ignored

/-- The code of a task state (R285). -/
def TaskState.code : TaskState → Nat
  | .idle => 0 | .waiting => 1 | .ready => 2 | .running => 3

/-- Registers of the SCHED page that show state other than a stored word. -/
def State.schedRead (s : State) (off : Nat) : Option Word :=
  let t := s.task (cmdTask (s.reg R.SCHED_Q_SEL))
  if off = R.SCHED_Q_STAT then
    some (BitVec.ofNat 32 ((if t.all then 2 ^ 31 else 0) + t.st.code * 2 ^ 28 + t.unit % 16 * 2 ^ 24 + t.aff % 256 * 2 ^ 16
      + t.prio % 32 * 256))
  else if off = R.SCHED_Q_FLAGS then some t.f
  else if off = R.SCHED_Q_MASK then some t.m
  else if off = R.SCHED_EV_ROUTE then some (sget 0 s.sched.routes (s.fld F.SCHED_EV_SEL_SRC))
  else if off = R.SCHED_READY then
    some (BitVec.ofNat 32 ((s.sched.ready.filter (fun k => decide (1024 ≤ k))).length * 65536
      + (s.sched.ready.filter (fun k => decide (k < 1024))).length))
  else none

/-! ### The TRACE page (R305, R312) -/

/-- Enables or disables a stream: its ring is allocated, or its frames return. -/
def State.traceSwitch (s : State) (pat on : Bool) : State :=
  let base := if pat then F.TRACE_P_BASE_FRAME else F.TRACE_S_BASE_FRAME
  let n := s.fld (if pat then F.TRACE_P_FRAMES_FRAMES else F.TRACE_S_FRAMES_FRAMES)
  let en := if pat then F.TRACE_CTRL_P_EN else F.TRACE_CTRL_S_EN
  if on == s.flag en then s
  else if on then
    match s.allocFrames poolTrace 0 n true with
    | (.ok f, s) =>
      let s := (s.setFld base f).setFlag en true
      let s := ((s.setReg (trReg pat R.TRACE_S_WR R.TRACE_P_WR) 0).setReg (trReg pat R.TRACE_S_RD R.TRACE_P_RD) 0)
      s.setTraceLost pat 0
    | (.error _, s) => s
  else (s.releaseFrames (s.fld base) n).setFlag en false

/-- The frame table is read for a stream that a refused write would enable. -/
def State.traceLook (s : State) (pat on : Bool) : State :=
  let n := s.fld (if pat then F.TRACE_P_FRAMES_FRAMES else F.TRACE_S_FRAMES_FRAMES)
  if !on || s.flag (if pat then F.TRACE_CTRL_P_EN else F.TRACE_CTRL_S_EN) || n == 0 then s
  else
    match s.allocPick poolTrace n true with
    | .ok f => (s.ftRead f).2
    | .error _ => s

/-- A write of TRACE_CTRL (R305): rejected, STATE, where an enable finds no frames. -/
def traceCtrlRule (v : Word) (s : State) : WRule :=
  let t := (s.traceSwitch false (v.getLsbD 0)).traceSwitch true (v.getLsbD 1)
  { stateOk := t.flag F.TRACE_CTRL_S_EN == v.getLsbD 0 && t.flag F.TRACE_CTRL_P_EN == v.getLsbD 1
    eff := fun s => (s.traceSwitch false (v.getLsbD 0)).traceSwitch true (v.getLsbD 1)
    refused := fun e s =>
      if e == .state then ((s.traceLook false (v.getLsbD 0)).traceLook true (v.getLsbD 1)).event P.ALLOC E.ALLOC_REFUSED
      else s }

/-- A write of a read index of a stream (R305): it may not make the level negative. -/
def traceRdRule (pat : Bool) (v : Word) (s : State) : WRule :=
  let cap := s.fld (if pat then F.TRACE_P_FRAMES_FRAMES else F.TRACE_S_FRAMES_FRAMES) * 65536
  let wr := (s.reg (trReg pat R.TRACE_S_WR R.TRACE_P_WR)).toNat
  let rd := (s.reg (trReg pat R.TRACE_S_RD R.TRACE_P_RD)).toNat
  { rangeOk := decide (v.toNat < cap) && decide (ringLevel v.toNat rd cap ≤ ringLevel wr rd cap)
    eff := fun s => s.setReg (trReg pat R.TRACE_S_RD R.TRACE_P_RD) v }

/-- A write of the TRACE page (R305, R312). -/
def tracePageRule (off : Nat) (v : Word) (s : State) : WRule :=
  if off = R.TRACE_CTRL then traceCtrlRule v s
  else if off = R.TRACE_S_TYPES then { eff := fun s => s.setReg off (v &&& 0xFFFF) }
  else if off = R.TRACE_S_FRAMES ∨ off = R.TRACE_P_FRAMES then
    { stateOk := !s.flag (if off = R.TRACE_S_FRAMES then F.TRACE_CTRL_S_EN else F.TRACE_CTRL_P_EN)
      rangeOk := bitsOf v.toNat 15 0 != 0
      eff := fun s => s.setReg off (v &&& 0xFFFF) }
  else if off = R.TRACE_S_RD then traceRdRule false v s
  else if off = R.TRACE_P_RD then traceRdRule true v s
  else ignored

/-- TRACE_ENABLE (R305): S_EN or P_EN is set. -/
def execTraceEnable (a : Agent) (pattern : Bool) (s : State) : Host.Outcome State Fault Refusal :=
  done (s.writeBy a .trace P.TRACE R.TRACE_CTRL (traceCtrlRule (s.reg R.TRACE_CTRL ||| (if pattern then 2 else 1)) s))

/-- A block reset of the TRACE page: the frames of its streams return to the pool. -/
def State.traceReset (s : State) : State := (s.traceSwitch false false).traceSwitch true false

/-- A block reset of the SCHED page: every task IDLE with F = 0, no route (R285). Harts keep running what they run; their
threads are IDLE. -/
def State.schedReset (s : State) : State :=
  { s with sched := { s.sched with tasks := [], ready := [], routes := [] } }

end Sys2Proof.Machine
end

