-- ==== Sys2Proof/Machine/Red.lean ====
section
/-! DEFINITION. Solder: dispatch of graph nodes, their operations, completion (11, R296 to R304, R311). -/

namespace Sys2Proof.Machine

open Sys2Proof

/-! ### Descriptors (R297, R298) -/

/-- Statuses of RED_N_STATUS. -/
abbrev rnOk : Nat := 1
abbrev rnOverflow : Nat := 2
abbrev rnIllegal : Nat := 3
abbrev rnBadAddr : Nat := 4
abbrev rnBusy : Nat := 5
abbrev rnReadFail : Nat := 6
abbrev rnWriteFail : Nat := 7
abbrev rnDmaErr : Nat := 8

/-- A node descriptor (R297). -/
structure NodeDesc where
  op : Nat
  prio : Nat
  rearm : Bool
  flog : Bool
  consume : Bool
  cu : Nat
  part : Nat
  param : Nat
  src : Nat
  arg : Nat
  dst : Nat
  len : Nat
  dstLen : Nat
  succ : List Nat

/-- The descriptor that 64 bytes spell (R297). -/
def nodeDesc (b : List Byte) : NodeDesc :=
  let q := fun (i : Nat) => leNat ((b.drop (8 * i)).take 8)
  let f := bitsOf (q 0)
  { op := f 7 0, prio := f 12 8, rearm := (q 0).testBit 13, flog := (q 0).testBit 14, consume := (q 0).testBit 15
    cu := f 18 16, part := f 24 19, param := f 63 32, src := bitsOf (q 1) 39 0, arg := q 2, dst := bitsOf (q 3) 39 0
    len := bitsOf (q 4) 31 0, dstLen := bitsOf (q 4) 63 32
    succ := [bitsOf (q 5) 31 0, bitsOf (q 5) 63 32, bitsOf (q 6) 31 0, bitsOf (q 6) 63 32] }

/-- The partitions of ARG64. -/
def NodeDesc.parts (d : NodeDesc) : List Nat := (List.range 64).filter (fun k => d.arg.testBit k)

/-- The descriptor that execution unit `u` has read. -/
def State.unitDesc (s : State) (u : Nat) : NodeDesc := nodeDesc (sget [] s.sched.desc u)

/-! ### Fail logs as sources (R300) -/

/-- The addresses of the records of a fail log from RD to WR. -/
def State.flogRecords (s : State) (u k : Nat) : List Nat :=
  (List.range (s.flogLevel u k)).map (fun i =>
    s.fld (F.CAP_P_FLOG_BASE_FRAME u k) * 2 ^ 21
      + ((s.reg (R.CAP_P_FLOG_RD u k)).toNat + i) % max 1 (s.flogCap u k) * 32)

/-- The addresses of the source records of a COUNT or BITMAP. -/
def State.sourceRecords (s : State) (d : NodeDesc) : List Nat :=
  if d.flog then s.flogRecords d.cu d.part else (List.range (d.len / 32)).map (fun i => d.src + 32 * i)

/-- TYPE of the record at an address. -/
def State.recType (s : State) (a : Nat) : Nat := bitsOf (s.memNat a 8) 63 60

/-- Record `x` comes before or with record `y` in a MERGE (R301): by STAMP, PART, TG. -/
def State.recLe (s : State) (x y : Nat) : Bool :=
  let p := fun (a : Nat) => bitsOf (s.memNat a 8) 59 54
  let t := fun (a : Nat) => bitsOf (s.memNat a 8) 53 50
  let st := fun (a : Nat) => s.memNat (a + 8) 8
  decide (st x < st y) || (st x == st y && (decide (p x < p y) || (p x == p y && decide (t x ≤ t y))))

/-- Inserts a record before the first that comes after it. -/
def State.recInsert (s : State) (x : Nat) : List Nat → List Nat
  | [] => [x]
  | y :: t => if s.recLe x y then x :: y :: t else y :: s.recInsert x t

/-- The records of a MERGE in its order (R301); records of one log keep their order. -/
def State.mergeRecords (s : State) (d : NodeDesc) : List Nat :=
  (d.parts.flatMap (s.flogRecords d.cu)).foldr s.recInsert []

/-! ### Operations (R299 to R302) -/

/-- What an operation does: its status and RESULT, the ranges it reads, and its writes in order, each with its range. -/
structure NodeOut where
  status : Nat
  result : BitVec 64
  reads : List (Nat × Nat) := []
  writes : List (Nat × Nat × (State → State)) := []

/-- The operands are legal (R299, R300). -/
def State.nodeLegal (s : State) (d : NodeDesc) : Bool :=
  let served := d.parts.all (s.serves d.cu)
  let source := if d.flog then s.serves d.cu d.part else d.src % 32 == 0 && d.len % 32 == 0
  match d.op with
  | 0 => true
  | 1 => d.flog && served && d.dst % 32 == 0
  | 2 => source
  | 3 => source && d.dst % 32 == 0 && decide (d.param % 64 ≤ 47)
  | 4 => !d.flog
  | 5 => true
  | 6 => true
  | 7 => served && d.dst % 32 == 0
  | _ => false

/-- The address ranges lie in the installed DRAM (R299). -/
def State.nodeInside (s : State) (d : NodeDesc) : Bool :=
  let ok := fun (a n : Nat) => n == 0 || decide (a + n ≤ s.installed)
  match d.op with
  | 1 => ok d.dst d.dstLen
  | 2 => d.flog || ok d.src d.len
  | 3 => (d.flog || ok d.src d.len) && ok d.dst d.dstLen
  | 4 => ok d.src d.len
  | 5 => ok d.src d.len && ok d.dst d.dstLen
  | 7 => ok d.dst d.dstLen
  | _ => true

/-- A write of bytes that an operation makes. -/
def putBytes (a : Nat) (l : List Byte) : Nat × Nat × (State → State) := (a, l.length, fun s => s.setMem a l)

/-- The pieces of at most 32 bytes of a range. -/
def pieces (a n : Nat) : List (Nat × Nat) := (List.range ((n + 31) / 32)).map (fun i => (a + 32 * i, min 32 (n - 32 * i)))

/-- MERGE (R299, R301). -/
def State.nodeMerge (s : State) (d : NodeDesc) : NodeOut :=
  let l := s.mergeRecords d
  let fit := min l.length (d.dstLen / 32)
  { status := if fit < l.length then rnOverflow else rnOk
    result := BitVec.ofNat 64 (fit + (l.length - fit) * 2 ^ 32)
    reads := l.map (fun a => (a, 32))
    writes := (l.take fit).zipIdx.map (fun x => putBytes (d.dst + 32 * x.2) (s.memBytes x.1 32)) }

/-- COUNT (R299). -/
def State.nodeCount (s : State) (d : NodeDesc) : NodeOut :=
  let l := s.sourceRecords d
  { status := rnOk, result := BitVec.ofNat 64 (l.filter (fun a => d.param.testBit (s.recType a))).length
    reads := l.map (fun a => (a, 32)) }

/-- The row of BITMAP that a FAIL record at `a` goes to, if any (R299). -/
def State.bitmapRow (s : State) (d : NodeDesc) (a : Nat) : Option Nat :=
  let cyc := bitsOf (s.memNat a 8) 47 0
  let base := d.arg % 2 ^ 48
  let b := (cyc - base) / 2 ^ (d.param % 64)
  if cyc < base ∨ d.dstLen / 32 ≤ b then none else some b

/-- BITMAP (R299). -/
def State.nodeBitmap (s : State) (d : NodeDesc) : NodeOut :=
  let src := s.sourceRecords d
  let fails := src.filter (fun a => s.recType a == 1)
  let hit := fails.filterMap (fun a => (s.bitmapRow d a).map (fun b => (a, b)))
  let zero := if d.param.testBit 8 then (pieces d.dst d.dstLen).map (fun p => putBytes p.1 (leBytes p.2 0)) else []
  { status := rnOk, result := BitVec.ofNat 64 (hit.length + (fails.length - hit.length) * 2 ^ 32)
    reads := src.map (fun a => (a, 32))
    writes := zero ++ hit.map (fun x =>
      let row := d.dst + 32 * x.2
      let bits := (bitsOf (s.memNat (x.1 + 16) 8) 15 0 ||| bitsOf (s.memNat (x.1 + 16) 8) 31 16)
        <<< (16 * bitsOf (s.memNat x.1 8) 53 50)
      (row, 32, fun s => s.setMemNat row 32 (s.memNat row 32 ||| bits))) }

/-- COPY (R299). -/
def State.nodeCopy (s : State) (d : NodeDesc) : NodeOut :=
  let n := min d.len d.dstLen
  { status := if n < d.len then rnOverflow else rnOk, result := BitVec.ofNat 64 n, reads := [(d.src, n)]
    writes := (pieces 0 n).map (fun p => putBytes (d.dst + p.1) (s.memBytes (d.src + p.1) p.2)) }

/-- The 32 bytes of a SUMMARY entry (R302). -/
def State.summaryEntry (s : State) (u k : Nat) : List Byte :=
  let bit := fun (b : Bool) (i : Nat) => if b then 2 ^ i else 0
  let c48 := fun (lo hi : Nat) => (s.reg64 lo hi).toNat % 2 ^ 48
  leBytes 8 (s.fld (F.CAP_P_STAT_STATUS u k) + bit (s.flag (F.CAP_P_STAT_DUT_FAIL u k)) 3
      + bit (s.flag (F.CAP_P_STAT_FIRST_VALID u k)) 4 + bit (s.flag (F.CAP_P_STAT_ARMED u k)) 5 + k * 2 ^ 8
      + c48 (R.CAP_P_FIRST_LO u k) (R.CAP_P_FIRST_HI u k) * 2 ^ 16)
    ++ leBytes 8 (c48 (R.CAP_P_FAILC_LO u k) (R.CAP_P_FAILC_HI u k) + s.fld (F.CAP_P_FIRST_HI_MTO_COUNT u k) * 2 ^ 48)
    ++ leBytes 8 (c48 (R.CAP_P_CMP_LO u k) (R.CAP_P_CMP_HI u k))
    ++ leBytes 8 (s.flogLevel u k + bit (s.flag (F.CAP_P_STAT_FLOG_FULL u k)) 32)

/-- SUMMARY (R299, R302). -/
def State.nodeSummary (s : State) (d : NodeDesc) : NodeOut :=
  let l := d.parts
  let fit := min l.length (d.dstLen / 32)
  { status := if fit < l.length then rnOverflow else rnOk, result := BitVec.ofNat 64 fit
    writes := (l.take fit).zipIdx.map (fun x => putBytes (d.dst + 32 * x.2) (s.summaryEntry d.cu x.1)) }

/-- The end of a DMA node: the channel has ended (R299). -/
def State.nodeDma (s : State) (d : NodeDesc) : NodeOut :=
  let ch := d.param % 32
  if s.fld (F.DMA_CH_STAT_STATUS (ch / 8) (ch % 8)) == dmaOk then
    { status := rnOk, result := (s.reg (R.DMA_CH_CRC (ch / 8) (ch % 8))).setWidth 64 }
  else { status := rnDmaErr, result := 0 }

/-- The operation of a legal node (R299). -/
def State.nodeOp (s : State) (d : NodeDesc) : NodeOut :=
  match d.op with
  | 1 => s.nodeMerge d
  | 2 => s.nodeCount d
  | 3 => s.nodeBitmap d
  | 4 => { status := rnOk, result := BitVec.ofNat 64 (crc32c d.param (s.memBytes d.src d.len)), reads := [(d.src, d.len)] }
  | 5 => s.nodeCopy d
  | 6 => s.nodeDma d
  | 7 => s.nodeSummary d
  | _ => { status := rnOk, result := 0 }

/-! ### Completion (R300, R303) -/

/-- Sets the flag that a successor entry names (R298), from source `src` of R306. -/
def State.followEntry (s : State) (src e : Nat) : State :=
  let id := bitsOf e 25 16
  if !e.testBit 31 || (!e.testBit 30 && decide (255 < id)) then s
  else s.setTaskFlag src (taskKey (if e.testBit 30 then .node else .thread) id) (bitsOf e 4 0)

/-- With CONSUME, the fail logs read are advanced to their WR (R300). -/
def State.nodeConsume (s : State) (d : NodeDesc) : State :=
  let parts := if d.op = 1 then d.parts else if d.op = 2 ∨ d.op = 3 then [d.part] else []
  if d.flog && d.consume then
    parts.foldl (fun s k => s.setReg (R.CAP_P_FLOG_RD d.cu k) (s.reg (R.CAP_P_FLOG_WR d.cu k))) s
  else s

/-- The node on unit `u` completes with a status and RESULT (R303). -/
def State.nodeEnd (s : State) (u : Nat) (d : NodeDesc) (status : Nat) (result : BitVec 64) : State :=
  let node := s.fld (F.RED_EU_NODE u)
  let k := 1024 + node
  let s := s.setFlag (F.RED_EU_BUSY u) false
  let st := (sget 0 s.sched.nodeStat node).toNat
  let s := { s with sched := { s.sched with
    nodeStat := sset 0 s.sched.nodeStat node (BitVec.ofNat 32 (min 0xFFFF (st / 65536 + 1) * 65536 + status))
    nodeRes := sset 0 s.sched.nodeRes node result
    desc := sset [] s.sched.desc u [] } }
  let s := s.traceSched trNodeDone k u false status
  if status = rnOk then
    let s := d.succ.foldl (fun s e => s.followEntry 2 e) (s.nodeConsume d)
    let s := s.count (R.xx_BLK_COUNT P.RED)
    if d.rearm then
      let s := s.setTask k { s.task k with st := .waiting, prio := d.prio }
      (match s.testReady k with
       | (true, s) => s.traceSched trReady k 0 false 0
       | (false, s) => s).settle
    else s.setTask k { s.task k with st := .idle }
  else
    let s := (s.setTask k { s.task k with st := .idle }).event P.RED E.RED_NODE_ERR
    s.followEntry 3 (s.reg R.RED_ERR_ROUTE).toNat

/-- The node on unit `u` ends in an error, for which the spec gives no RESULT: a free value. -/
def State.nodeError (s : State) (u : Nat) (d : NodeDesc) (status : Nat) : State :=
  match s.fresh 64 with
  | (r, s) => s.nodeEnd u d status r

/-- The writes of an operation up to the first to a FAULTED channel; answers whether all were made. -/
def State.nodeWrites : List (Nat × Nat × (State → State)) → State → Bool × State
  | [], s => (true, s)
  | (a, n, f) :: t, s => if s.writeFails a n then (false, s) else State.nodeWrites t (f s)

/-- A DRAM access of a unit fails lasting (R304): the node ends with the status, and the fault is raised. -/
def State.nodeFail (s : State) (u : Nat) (d : NodeDesc) (write inj : Bool) : State :=
  (s.faultInj P.RED (if write then X.RED_WRITE_FAIL else X.RED_READ_FAIL) inj).nodeError u d (if write then rnWriteFail else rnReadFail)

/-- The operation of unit `u` takes place (R299 to R304); `fail` says that a write (true) or read fails lasting after so many
writes. -/
def State.nodeRun (s : State) (u : Nat) (fail : Option (Bool × Nat)) : State :=
  let d := s.unitDesc u
  if !s.nodeLegal d then s.nodeError u d rnIllegal
  else if !s.nodeInside d then s.nodeError u d rnBadAddr
  else
    let o := s.nodeOp d
    let (injR, s) := if o.reads != [] then s.takeInj P.RED X.RED_READ_FAIL else (false, s)
    let (injW, s) := if !o.writes.isEmpty then s.takeInj P.RED X.RED_WRITE_FAIL else (false, s)
    if injR || o.reads.any (fun r => s.rangeDown r.1 r.2) then s.nodeFail u d false injR
    else if injW then s.nodeFail u d true true
    else
      match fail with
      | some (w, k) => ((State.nodeWrites (o.writes.take k) s).2).nodeFail u d w false
      | none =>
        match State.nodeWrites o.writes s with
        | (false, s) => s.nodeFail u d true false
        | (true, s) => if o.status = rnDmaErr then s.nodeError u d rnDmaErr else s.nodeEnd u d o.status o.result

/-- The node of unit `u` still waits for its DMA channel. -/
def State.nodeWaits (s : State) (u : Nat) : Bool :=
  let d := s.unitDesc u
  d.op == 6 && s.dmaActive (d.param % 32)

/-- NODE_COMPLETE (R299 to R304): the operation of execution unit `u` ends. -/
def execNodeComplete (u : Fin 8) (fail : Option (Bool × Nat)) (s : State) : Host.Outcome State Fault Refusal :=
  done (if !s.flag (F.RED_EU_BUSY u) || s.nodeWaits u || s.mode == mQuarantine then s else s.nodeRun u fail)

/-! ### Dispatch (R296) -/

/-- The READY node that a free unit takes: highest priority, then the order of readiness; one that became READY before now. -/
def State.nextNode (s : State) : Option Nat :=
  let r := s.sched.ready.filter (fun k => decide (1024 ≤ k) && decide ((s.task k).readyAt < s.dclk))
  (List.range 32).findSome? (fun i => r.find? (fun k => (s.task k).prio == 31 - i))

/-- Node task `k` is dispatched to unit `u`: its flags are consumed and its descriptor read (R289, R296, R297). A DMA node starts
its channel, or finds it BUSY (R299). -/
def State.dispatchNode (s : State) (k u : Nat) : State :=
  let s := s.checkTask k
  let t := s.task k
  if t.st != .ready then s
  else
    let s := (s.unready k).setTask k { t with f := t.f &&& ~~~t.m, st := .running, unit := u, timedOut := false }
    let s := s.setReg (R.RED_EU u) (BitVec.ofNat 32 (2 ^ 31 + (k - 1024)))
    let s := (s.count (R.xx_BLK_COUNT P.SCHED)).traceSched trDispatch k u false t.f.toNat
    let a := s.redGraph + 64 * (k - 1024)
    let s := { s with sched := { s.sched with desc := sset [] s.sched.desc u (s.memBytes a 64) } }
    let d := s.unitDesc u
    let ch := d.param % 32
    match s.takeInj P.RED X.RED_READ_FAIL with
    | (true, s) => s.nodeFail u d false true
    | (false, s) =>
      if s.rangeDown a 64 then s.nodeFail u d false false
      else if d.op = 6 then (if s.dmaActive ch then s.nodeError u d rnBusy else s.dmaStart ch)
      else s

/-- NODE_DISPATCH (R296): every free unit, EU0 first, takes a READY node; none in QUARANTINE (R279), in a sleep entry (R494) or while the page is
quiescing. -/
def execNodeDispatch (s : State) : Host.Outcome State Fault Refusal :=
  done (if s.mode == mQuarantine || s.dev.sleep.target != 0 || s.flag (F.xx_CTRL_QUIESCE P.RED) then s
    else (List.range 8).foldl (fun s u =>
      if s.flag (F.RED_EU_BUSY u) then s
      else match s.nextNode with
        | some k => s.dispatchNode k u
        | none => s) s)

/-- The busy counts of the units in a DCLK (R308). -/
def State.redTick (s : State) : State :=
  (List.range 8).foldl (fun s u => if s.flag (F.RED_EU_BUSY u) then
    s.setReg64 (R.RED_EU_BUSY_LO u) (R.RED_EU_BUSY_HI u) (s.reg64 (R.RED_EU_BUSY_LO u) (R.RED_EU_BUSY_HI u) + 1) else s) s

/-! ### The RED page (R311) -/

/-- A write of the RED page. -/
def redRule (off : Nat) (v : Word) (s : State) : WRule :=
  let idle := s.sched.tasks.all (fun x => decide (x.1 < 1024) || x.2.st == .idle)
  if off = R.RED_GRAPH_LO then { stateOk := idle, eff := fun s => s.setReg off (v &&& 0xFFFF0000) }
  else if off = R.RED_GRAPH_HI then { stateOk := idle, eff := fun s => s.setReg off (v &&& 0xFF) }
  else if off = R.RED_N_SEL then { eff := fun s => s.setReg off (v &&& 0x3FF) }
  else if off = R.RED_ERR_ROUTE then { eff := fun s => s.setReg off (v &&& 0xC3FF001F) }
  else ignored

/-- Registers of the RED page that show state other than a stored word. -/
def State.redRead (s : State) (off : Nat) : Option Word :=
  let n := s.fld F.RED_N_SEL_NODE
  if off = R.RED_N_STATUS then some (sget 0 s.sched.nodeStat n)
  else if off = R.RED_N_RESULT_LO then some ((sget 0 s.sched.nodeRes n).setWidth 32)
  else if off = R.RED_N_RESULT_HI then some ((sget 0 s.sched.nodeRes n >>> 32).setWidth 32)
  else none

/-- A block reset of the RED page: the nodes on its units go to IDLE. -/
def State.redReset (s : State) : State :=
  let s := (List.range 8).foldl (fun s u =>
    if s.flag (F.RED_EU_BUSY u) then
      let k := 1024 + s.fld (F.RED_EU_NODE u)
      s.setTask k { s.task k with st := .idle } else s) s
  { s with sched := { s.sched with desc := [], nodeStat := [], nodeRes := [] } }

end Sys2Proof.Machine
end

