-- ==== Sys2Proof/Machine/PageReset.lean ====
section
/-! DEFINITION. What stops or returns whole blocks: block resets (R52, R484, R537 to R539), the stops of QUARANTINE entry
(R332), safe lines, work in flight, leaving the maintenance modes (R25). -/

namespace Sys2Proof.Machine

open Sys2Proof

/-! ### Wake levels (R493) -/

/-- Level wake sources present now (R493): HOST while the link is up and not in L1, FABRIC while an enabled port is up. -/
def State.wakeLevels (s : State) : Word :=
  (if s.hostActive then 4 else 0) ||| (if s.fabricActive then 8 else 0)

/-- The latches of level sources set again while enabled (R493). -/
def State.relatch (s : State) : State :=
  s.orReg R.PWR_WAKE_STAT (s.wakeLevels &&& s.reg R.PWR_WAKE_EN)

/-! ### Modes (R16, R25, R269, R234, R460) -/

/-- Every pin channel is in the safe state (R16, R154). -/
def State.linesSafe (s : State) : State := s.safePins (List.range 256)

/-- Entry to CALIBRATE or SERVICE ends ARMED time-interval units and synthesis (R234, R269). -/
def State.stopMeasurement (s : State) : State := s.tuDisarmAll.synStopAll

/-- Leaving DIAGNOSE or SERVICE disables every time-interval unit, decimation channel and synthesis channel (R25). -/
def State.disableMeasurement (s : State) : State :=
  let s := (List.range 64).foldl (fun s u => if s.tuFlag u F.TU_CTRL_EN then s.tuEnable u false else s) s
  let s := (List.range 32).foldl (fun s c => if s.decOn c then s.decEnable c false else s) s
  (List.range 16).foldl (fun s n => if s.flag (F.SYN_CTRL_EN n) then
    (s.setFlag (F.SYN_CTRL_EN n) false).synHalt n syOff else s) s

/-- DEV_MODE.REQ = READY in CALIBRATE (R24, R460): a DEVICE run is abandoned and takes the device out of CALIBRATE when it has
ended; without one the device leaves at once. -/
def State.calAbandon (s : State) : State :=
  if s.calHolds then s.calGiveUp ceAbandoned else s.setMode s.activeMode

/-- A command of a queue pair is in execution. -/
def State.hqInFlight (s : State) : Bool := s.host.hqs.any (fun e => e.2.cmd.isSome)

/-- Work that a sleep entry waits for (R494): DMA transfers, page fetches whose frame is obtained, reduction units, commands of
queue pairs. -/
def State.inFlight (s : State) : Bool :=
  (List.range 32).any s.dmaActive || s.pager.fetches.any (fun x => x.2.1.isSome)
    || (List.range 8).any (fun u => s.flag (F.RED_EU_BUSY u)) || s.hqInFlight

/-- Steps 1 to 4 of R332: outputs safe, sequencers stopped with cause FAULT, partitions FAULTED with FCAUSE 0xF, measurement,
harts, DMA, queue pairs and calibration stopped, ports off, DRAM in self-refresh. -/
def State.quarantineStops (s : State) : State :=
  let s := s.linesSafe.diagEnd
  let s := (List.range 16).foldl (fun s n => if s.gangRuns n then s.gangStop n 0xA else s) s
  let s := (List.range 64).foldl (fun s k => if s.pstate k == pIdle then s
    else
      let s := if s.pstate k == pArmed then s.capFaultArmed k else s
      (s.setFld (F.PART_P_STAT_FCAUSE k) 0xF).setPart k pFaulted) s
  let s := s.stopMeasurement
  let s := (List.range 32).foldl (fun s c => if s.decOn c then s.setDecState c dcOff else s) s
  let s := (List.range 8).foldl State.hartStop s
  let s := s.dmaEndAll (List.range 32) dmaQuar
  (s.hqQuarantine.calQuarantine).portsQuar.dramSleep

/-! ### Block resets (R52) -/

/-- Registers of a page beside the header's that a block reset keeps: those that the chapters name (R537 to R539, R201, R395,
R324, R460, R477) and those that report what a reset of the page does not end (assumption 24). -/
def resetKeeps (k : PageKind) (o : Nat) : Bool :=
  match k with
  | .seq => o == 0x44
  | .pgr => o == 0x40 || o == 0x48
  | .cu => (decide (0x40 ≤ o) && decide (o ≤ 0x4C)) || decide (0x400 ≤ o)
  | .flt => (decide (0x54 ≤ o) && decide (o ≤ 0x6C)) || (decide (0x9C ≤ o) && decide (o ≤ 0xAC)) || decide (0x800 ≤ o)
  | .dram => o == 0x40 || o == 0x74
  | .alloc => (decide (0x40 ≤ o) && decide (o ≤ 0x48)) || o == 0x64 || (decide (0x80 ≤ o) && o % 16 == 8)
  | .dev => o == 0x40 || o == 0x50 || o == 0x54
  | .clk => decide (0x40 ≤ o)
  | .rst => decide (0x40 ≤ o)
  | .pwr => o == 0x54 || o == 0x58
  | .part => decide (0x40 ≤ o) && o != 0x70
  | .mc => decide (0x40 ≤ o) && decide (o ≤ 0x48)
  | .fp => o == 0x44
  | .cal => (decide (0x84 ≤ o) && decide (o ≤ 0x90)) || decide (0x800 ≤ o)
  | .hart => false
  | _ => false

/-- A register of a page of kind `k` that a block reset keeps: the registers at 0x02C to 0x03C, and those of `resetKeeps`; a port and a
DRAM channel keep their enable, since both train again (assumption 24). -/
def keptOver (k : PageKind) (o : Nat) : Bool :=
  (decide (0x2C ≤ o) && decide (o < 0x40)) || resetKeeps k o || (o == 8 && (k == .fp || k == .dram))

/-- The registers of page `p` and their active copies return to their reset values (R52). -/
def State.clearPage (s : State) (k : PageKind) (p : Nat) : State :=
  let gone := fun (o : Nat) => decide (p ≤ o) && decide (o < p + 0x1000) && !keptOver k (o - p)
  { s with
    regs := sdrop gone s.regs
    act := sdrop gone s.act
    loLatch := s.loLatch.filter (fun e => !gone (e.1 % 2 ^ 26)) }

/-- The commit state of page `p` returns to IDLE with generation 0 (R52). -/
def State.clearCommit (s : State) (p : Nat) : State :=
  (s.setReg (R.xx_SHADOW_GEN p) 0).setReg (R.xx_COMMIT_STAT p) 0

/-- Shadow writes to the tables of page `p` have not been transferred. -/
def State.tablesDirty (s : State) (p : Nat) : Bool :=
  let mine := fun (e : Nat × Word) => (tableAt e.1).any (fun t => t.1.isShadowed && t.1.page t.2 == p)
  s.tabs.filter mine != s.tabAct.filter mine

/-- SHADOW_DIRTY of page `p` after its reset: kept on a page of a gang of several timing groups, else set while its tables hold
writes not transferred (R52). -/
def State.dirtyAfter (s : State) (k : PageKind) (p : Nat) : Bool :=
  s.flag (F.xx_STAT_SHADOW_DIRTY p)
    && ((k == .tg && decide (1 < (s.gangGroups (s.gangOf (pageNo p))).length)) || s.tablesDirty p)

/-- A block reset of the TG page of TGn (R168): the test ends, the sideband is free. -/
def State.tgReset (s : State) (n : Nat) : State :=
  let s := if s.flag (F.PE_DIAG_STAT_BUSY n) then s.diagStop n diagAborted else s
  s.setTg n { Tg.init with frame := (s.tg n).frame.filter SbFrame.cal }

/-- What page `p` does at its reset before its registers return. -/
def State.resetBefore (s : State) (k : PageKind) (p : Nat) : State :=
  let n := pageNo p
  match k with
  | .seq => if s.gangRuns n then s.gangStop n 0xA else s
  | .tg =>
    let g := s.gangOf n
    (if s.gangRuns g then s.gangStop g 0xA else s).tgReset n
  | .pgr => s.pgrReset
  | .vc => s.vcReset
  | .tia => (List.range 8).foldl (fun s k => if s.tuFlag (8 * n + k) F.TU_CTRL_EN then s.tuEnable (8 * n + k) false else s) s
  | .dec => (List.range 8).foldl (fun s k => if s.decOn (8 * n + k) then s.decEnable (8 * n + k) false else s) s
  | .syn => (if s.flag (F.SYN_CTRL_EN n) then ((s.setFlag (F.SYN_CTRL_EN n) false).synHalt n syOff).deriveMode else s)
  | .sched => s.schedReset
  | .hic => s.hicReset
  | .trace => s.traceReset
  | .red => s.redReset
  | .hart => s.hartReset n
  | .dram => s.dramReset n
  | .dma => s.dmaEndAll ((List.range 8).map (fun k => 8 * n + k)) dmaAborted
  | .fp => (if s.fpState n == fpLoopback then s.loopLeave n else s).portRetrain n
  | .fab => s.fabReset
  | .hostp => s.hostReset
  | .cal => s.calReset
  | _ => s

/-- What page `p` does at its reset after its registers have returned; `old` is the state before. -/
def State.resetAfter (s old : State) (k : PageKind) (p : Nat) : State :=
  let n := pageNo p
  match k with
  | .seq => (s.setSeq n { (old.seq n).stopped with flight := (old.seq n).flight })
  | .tg =>
    if old.flag (F.PE_DIAG_STAT_BUSY n) then
      (List.range 16).foldl (fun s i => s.setReg (R.PE_DIAG_ERR n i) (old.reg (R.PE_DIAG_ERR n i)))
        (s.setFld (F.PE_DIAG_STAT_RESULT n) diagAborted)
    else s
  | .cu => s.capReset n
  | .tia => { s with tus := sdrop (fun u => u / 8 == n) s.tus }
  | .dec => { s with decs := sdrop (fun c => c / 8 == n) s.decs }
  | .syn => s.setSyn n Syn.init
  | .vc => (List.range 16).foldl (fun s i => s.vcCount i) s
  | .dma =>
    ((List.range 8).filter (fun c => old.dmaActive (8 * n + c))).foldl (fun s c =>
      let s := (s.setFld (F.DMA_CH_STAT_STATE n c) 2).setFld (F.DMA_CH_STAT_STATUS n c) dmaAborted
      (s.setReg (R.DMA_CH_DONE_LO n c) (old.reg (R.DMA_CH_DONE_LO n c))).setReg (R.DMA_CH_DONE_HI n c)
        (old.reg (R.DMA_CH_DONE_HI n c))) s
  | .fq => { s with fq := [] }
  | .fp => s.portGate n
  | .fab => s.fabUpdate
  | .hq => { s with host := { s.host with hqs := [], cplLo := none } }
  | .flt => { s with monel := { s.monel with cfg := [], openClass := [], count := [] } }
  | .time => s.timeReset (old.fld F.TIME_STAT_SSTATE) (old.fld F.TIME_STAT_SRC_PORT)
  | .pwr => s.relatch
  | _ => s

/-- A block reset of page `p` (R52, R328): IN_RESET is 1, the fence is up, and what is not kept is at its reset value. -/
def State.blockReset (s : State) (p : Nat) : State :=
  match pageKind? p with
  | none => s
  | some k =>
    let dirty := s.dirtyAfter k p
    let t := ((s.resetBefore k p).clearPage k p).clearCommit (s.commitPage p)
    let t := t.resetAfter s k p
    let t := (t.setFlag (F.xx_STAT_IN_RESET p) true).setFlag (F.xx_STAT_SHADOW_DIRTY p) dirty
    let t := t.setFlag (F.xx_CTRL_BLOCK_RESET p) true
    let t := { t with monel := { t.monel with fences := t.monel.fences.filter (fun q => q != p) ++ [p] } }
    t.count (R.xx_BLK_COUNT P.RST)

/-- A block reset that a write starts (R476): that of a SEQ or TG page needs no partition of the gang ARMED, RUNNING or PAUSED. -/
def State.resetAllowed (s : State) (p : Nat) : Bool :=
  let n := pageNo p
  let quiet := fun (g : Nat) => (s.gangParts g).all (fun k =>
    s.pstate k != pArmed && s.pstate k != pRunning && s.pstate k != pPaused)
  match pageKind? p with
  | some .seq => quiet (s.gangOf n)
  | some .tg => quiet (s.gangOf n)
  | _ => true

/-- IN_RESET of page `p` falls (R484): a DRAM channel that is enabled is in TRAINING (R395), and Constantan restores (R460). -/
def State.resetEnd (s : State) (p : Nat) : State :=
  let s := (s.setFlag (F.xx_STAT_IN_RESET p) false).setFlag (F.xx_CTRL_BLOCK_RESET p) false
  match pageKind? p with
  | some .dram =>
    if s.flag (F.xx_CTRL_ENABLE p) then s.setFld (F.DRAM_STAT_STATE (pageNo p)) chTraining else s
  | _ => s

/-- BLOCK_RESET_END (R484). -/
def execBlockResetEnd (page : Fin 115) (s : State) : Host.Outcome State Fault Refusal :=
  match pageOfOrdinal page.val with
  | none => done s
  | some p => done (if s.flag (F.xx_STAT_IN_RESET p) then s.resetEnd p else s)

end Sys2Proof.Machine
end

