-- ==== Sys2Proof/Machine/Monel.lean ====
section
/-! DEFINITION. Monel, the fault collector: classes, escalation, the first fault, the log, reactions, fences, ALIVE, ERR_N,
QUARANTINE (12, R323 to R332). -/

namespace Sys2Proof.Machine

open Sys2Proof

/-- FLT_SRC_CFG right after reset: ESC_EN, LOG_EN, NMI_TGT MGMT, INT. -/
abbrev fltCfgReset : Word := 0xC0100001

/-- FLT_SRC_CFG of a source. -/
def State.fltCfg (s : State) (i : Nat) : Word := sget fltCfgReset s.monel.cfg i

/-- OPEN(s) of a source (R325). -/
def State.openClass (s : State) (i : Nat) : Nat := sget 0 s.monel.openClass i

/-- Stores OPEN(s). -/
def State.setOpen (s : State) (i c : Nat) : State :=
  { s with monel := { s.monel with openClass := sset 0 s.monel.openClass i c } }

/-- The class at which a fault is raised (R325). -/
def State.raisedClass (s : State) (f : FaultRec) : Nat :=
  if (s.fltCfg f.src).getLsbD 31 && decide (f.native ≤ s.openClass f.src) then min 3 (s.openClass f.src + 1)
  else f.native

/-- The page of a fault source, none for a device source. -/
def sourcePage (src : Nat) : Option Nat := if src < 230 then pageOfOrdinal (src / 2) else none

/-- The reactions that a fault starts (R324, R329), in the order of bits [13:9] of log word 0: INT, NMI, BLOCK_RESET,
CHIP_RESET, ERR_N. -/
structure Reactions where
  int : Bool
  nmi : Bool
  block : Bool
  chip : Bool
  errn : Bool
  deriving DecidableEq, Repr

/-- The reactions of a fault from source `src` raised at class `c`. -/
def State.reactions (s : State) (src c : Nat) : Reactions :=
  let w := s.fltCfg src
  { int := w.getLsbD 0, nmi := w.getLsbD 1
    block := w.getLsbD 2 && (match sourcePage src with
      | some p => !s.flag (F.xx_STAT_IN_RESET p) && !s.monel.fences.contains p
      | none => false)
    chip := w.getLsbD 3 && s.monel.chipReset.isNone
    errn := w.getLsbD 4 || c == 3 }

/-- Word 0 of a log entry (R327). -/
def logWord0 (f : FaultRec) (c : Nat) (r : Reactions) : Word :=
  BitVec.ofNat 32 (f.src * 2 ^ 24 + f.bit * 2 ^ 19 + f.native * 2 ^ 17 + c * 2 ^ 15 + (if f.inj then 2 ^ 14 else 0)
    + (if r.errn then 2 ^ 13 else 0) + (if r.chip then 2 ^ 12 else 0) + (if r.block then 2 ^ 11 else 0)
    + (if r.nmi then 2 ^ 10 else 0) + (if r.int then 2 ^ 9 else 0))

/-- The level of the fault log (R327). -/
def State.logLevel (s : State) : Nat := (s.reg R.FLT_LOG_WR - s.reg R.FLT_LOG_RD).toNat

/-- Writes a log entry, or counts its loss (R327). -/
def State.logFault (s : State) (f : FaultRec) (c : Nat) (r : Reactions) : State :=
  if !(s.fltCfg f.src).getLsbD 30 then s
  else if s.logLevel < 128 then
    let i := (s.reg R.FLT_LOG_WR).toNat % 128
    let t := s.nowCopy
    let s := s.setReg (R.FLT_LOG i) (logWord0 f c r)
    let s := s.setReg (R.FLT_LOG i + 4) (BitVec.ofNat 32 s.monel.taken)
    let s := s.setReg64 (R.FLT_LOG i + 8) (R.FLT_LOG i + 12) t
    let s := s.setReg R.FLT_LOG_WR (s.reg R.FLT_LOG_WR + 1)
    let s := s.raiseTo R.FLT_LOG_MAX s.logLevel
    let s := match s.takeInj P.FLT X.FLT_LOG_CE with
      | (true, s) => (s.count (R.xx_CE_COUNT P.FLT)).faultInj P.FLT X.FLT_LOG_CE true
      | (false, s) => s
    match s.takeInj P.FLT X.FLT_LOG_UC with
    | (true, s) => s.faultInj P.FLT X.FLT_LOG_UC true
    | (false, s) => s
  else
    let first := !s.monel.lossSeen
    let s := { s.count R.FLT_LOG_LOST with monel := { s.monel with lossSeen := true } }
    if first then s.event P.FLT E.FLT_LOG_LOST else s

/-- Fault `f` raised at class `c` comes before `g` raised at `d` for FLT_FIRST (R326). -/
def comesFirst (f : FaultRec) (c : Nat) (g : FaultRec) (d : Nat) : Bool :=
  decide (d < c) || (c == d && (decide (f.src < g.src) || (f.src == g.src && decide (f.bit < g.bit))))

/-- The fault that FLT_FIRST records of those taken together. -/
def firstOf (l : List (FaultRec × Nat)) : Option (FaultRec × Nat) :=
  l.foldl (fun b x => match b with
    | none => some x
    | some y => if comesFirst x.1 x.2 y.1 y.2 then some x else some y) none

/-- Records the first fault (R326). -/
def State.recordFirst (s : State) (l : List (FaultRec × Nat)) : State :=
  if s.flag F.FLT_FIRST_VALID then s
  else
    match firstOf l with
    | none => s
    | some (f, c) =>
      (s.setReg R.FLT_FIRST (BitVec.ofNat 32 (2 ^ 31 + (if f.inj then 2 ^ 30 else 0) + c * 2 ^ 28 + f.native * 2 ^ 26
        + f.bit * 2 ^ 16 + f.src))).setReg64 R.FLT_FIRST_STAMP_LO R.FLT_FIRST_STAMP_HI s.nowCopy

/-- ALIVE stops and holds its level until COLD (R330). -/
def State.aliveStop (s : State) : State :=
  (s.setFlag F.FLT_ALIVE_STAT_RUN false).setFlag F.FLT_ALIVE_STAT_STOPPED true

/-- QUARANTINE is entered (R332) on fault source `src`; a transition in progress is abandoned (01). Not repeated (R329). -/
def State.quarantine (s : State) (src : Nat) : State :=
  if s.mode == mQuarantine then s
  else
    let s := { s with dev := { s.dev with sleep := ⟨0, 0, false⟩, trigPulse := [], syncPulse := 0 } }
    let s := (s.setFlag F.DEV_MODE_BUSY false).quarantineStops
    let s := (s.setFlag F.FLT_ERRN_ASSERTED true).aliveStop
    let s := s.setReg R.FLT_QUAR (BitVec.ofNat 32 (2 ^ 31 + src))
    let s := s.setReg64 R.FLT_QUAR_STAMP_LO R.FLT_QUAR_STAMP_HI s.nowCopy
    s.setMode mQuarantine

/-- Sends an NMI to every hart of a mask, bit 8 being MGMT (R324, R277). -/
def State.sendNmi (s : State) (mask : Nat) : State :=
  ((List.range 9).filter (fun h => mask.testBit h)).foldl (fun s h => s.setHart h { s.hart h with nmi := true }) s

/-- Starts the reactions of a fault in the order of R324: ERR_N, INT and NMI, the block reset, the pending chip reset. -/
def State.react (s : State) (src c : Nat) (r : Reactions) : State :=
  let s := if r.errn then s.setFlag F.FLT_ERRN_ASSERTED true else s
  let s := if c == 3 then s.aliveStop else s
  let s := if r.int then s.event P.FLT (c - 1) else s
  let s := if r.nmi then s.sendNmi (bitsOf (s.fltCfg src).toNat 20 12) else s
  let s := if r.block then (match sourcePage src with
    | some p => s.blockReset p
    | none => s) else s
  if r.chip then { s with monel := { s.monel with chipReset := some src } } else s

/-- Counts a fault taken and escalates (R325, R327). Answers the class raised. -/
def State.countFault (s : State) (f : FaultRec) : Nat × State :=
  let s := match s.takeInj P.FLT X.FLT_CFG_UC with
    | (true, s) =>
      ({ s with monel := { s.monel with cfg := sset fltCfgReset s.monel.cfg f.src fltCfgReset } }).faultInj P.FLT
        X.FLT_CFG_UC true
    | (false, s) => s
  let c := s.raisedClass f
  let s := s.setOpen f.src (max (s.openClass f.src) c)
  let s := { s with monel := { s.monel with
    taken := (s.monel.taken + 1) % 2 ^ 32
    count := sset 0 s.monel.count f.src (BitVec.ofNat 32 (satInc (sget 0 s.monel.count f.src).toNat)) } }
  (c, s.count (R.xx_BLK_COUNT P.FLT))

/-- Takes one fault: counts, escalates, logs and reacts. -/
def State.takeFault (s : State) (f : FaultRec) : Nat × State :=
  let (c, s) := s.countFault f
  let r := s.reactions f.src c
  (c, (s.logFault f c r).react f.src c r)

/-- Takes faults in turn and collects the classes raised. -/
def State.takeFaults : State → List FaultRec → List (FaultRec × Nat) × State
  | s, [] => ([], s)
  | s, f :: t =>
    let (c, s) := s.takeFault f
    let (l, s) := s.takeFaults t
    ((f, c) :: l, s)

/-- Inserts a fault in the order of source and bit (R325). -/
def insertFault (f : FaultRec) : List FaultRec → List FaultRec
  | [] => [f]
  | g :: t => if f.src < g.src ∨ (f.src = g.src ∧ f.bit < g.bit) then f :: g :: t else g :: insertFault f t

/-- The faults waiting, in ascending order of source and of bit. -/
def sortFaults (l : List FaultRec) : List FaultRec := l.foldl (fun acc f => insertFault f acc) []

/-- FAULT_TAKE (R324 to R327, R332): Monel takes every fault that waits. -/
def execFaultTake (s : State) : Host.Outcome State Fault Refusal :=
  done (if s.mode == mCold then s
    else
      let l := sortFaults s.monel.waiting
      let s := { s with monel := { s.monel with waiting := [] } }
      let (rs, s) := s.takeFaults l
      let s := s.recordFirst rs
      match firstOf (rs.filter (fun x => x.2 == 3)) with
      | some (f, _) => s.quarantine f.src
      | none => s)

/-! ### Register writes (12) -/

/-- A write of FLT_ACK (R325). -/
def fltAckRule (v : Word) : WRule := { eff := fun s => s.setOpen (bitsOf v.toNat 7 0) 0 }

/-- A write of FLT_KICK (R330): MGMT alone, with the kick key; ALIVE does not restart once stopped. -/
def fltKickRule (a : Agent) (v : Word) : WRule :=
  { agentOk := a == .mgmt
    rangeOk := bitsOf v.toNat 15 0 == 0xA11E
    eff := fun s =>
      let s := { s with monel := { s.monel with kicked := true, kickAt := s.dclk } }
      if s.flag F.FLT_ALIVE_STAT_STOPPED then s else s.setFlag F.FLT_ALIVE_STAT_RUN true }

/-- A write of FLT_ERRN (R331). -/
def fltErrnRule (v : Word) (s : State) : WRule :=
  { stateOk := !v.getLsbD 0 || s.mode != mQuarantine
    eff := fun s => if v.getLsbD 0 then s.setFlag F.FLT_ERRN_ASSERTED false else s }

/-- A write of FLT_DEV_INJ (R323): MGMT alone. -/
def fltDevInjRule (a : Agent) (v : Word) : WRule :=
  let src := bitsOf v.toNat 7 0
  { agentOk := a == .mgmt
    rangeOk := decide (230 ≤ src) && decide (src ≤ 243)
    eff := fun s => s.devFault src true }

/-- A write of FLT_LOG_RD (R327). -/
def fltLogRdRule (v : Word) (s : State) : WRule :=
  { rangeOk := decide ((s.reg R.FLT_LOG_WR - v).toNat ≤ 128)
    eff := fun s =>
      let s := s.setReg R.FLT_LOG_RD v
      if s.logLevel == 0 then { s with monel := { s.monel with lossSeen := false } } else s }

/-- A write of FLT_SRC_CFG (R324, R325). -/
def fltCfgRule (v : Word) (i : Nat) : WRule :=
  { rangeOk := (v.getLsbD 31 || nativeOf i == 1) && (!v.getLsbD 2 || decide (i < 230))
    eff := fun s => { s with monel := { s.monel with cfg := sset fltCfgReset s.monel.cfg i (v &&& 0xC01FF01F) } } }

/-- A write of the FLT page (12). -/
def fltPageRule (a : Agent) (off : Nat) (v : Word) (s : State) : WRule :=
  if off = R.FLT_SEL then { eff := fun s => s.setReg off (v &&& 0xFF) }
  else if off = R.FLT_SRC_CFG then fltCfgRule v (s.fld F.FLT_SEL_SRC)
  else if off = R.FLT_ACK then fltAckRule v
  else if off = R.FLT_FIRST then { eff := fun s => if v.getLsbD 31 then s.setFlag F.FLT_FIRST_VALID false else s }
  else if off = R.FLT_LOG_RD then fltLogRdRule v s
  else if off = R.FLT_DEV_INJ then fltDevInjRule a v
  else if off = R.FLT_CFG then { eff := fun s => s.setReg off (v &&& 0xFFFF) }
  else if off = R.FLT_ALIVE_CFG then
    { rangeOk := bitsOf v.toNat 31 16 != 0 && bitsOf v.toNat 15 0 != 0, eff := fun s => s.setReg off v }
  else if off = R.FLT_ALIVE_FIRST then
    { rangeOk := bitsOf v.toNat 15 0 != 0, eff := fun s => s.setReg off (v &&& 0xFFFF) }
  else if off = R.FLT_KICK then fltKickRule a v
  else if off = R.FLT_ERRN then fltErrnRule v s
  else ignored

/-- The window that the heartbeat runs in, in ms (R330). -/
def State.kickWindow (s : State) : Nat :=
  if s.monel.kicked then s.fld F.FLT_ALIVE_CFG_KICK_MS else s.fld F.FLT_ALIVE_FIRST_FIRST_MS

/-- The clocks outside the always-on domain run. -/
def State.clocked (s : State) : Bool := s.mode != mCold && s.mode != mDoze && s.mode != mHibernate

/-- FLT_ALIVE_STAT.LEFT_MS (R330): what is left of the window that began at BOOT entry, at the latest kick or at the latest wake;
the timer is suspended, and the window whole, while the clocks are stopped. -/
def State.kickLeft (s : State) : Nat :=
  if s.clocked then s.kickWindow - (s.dclk - s.monel.kickAt) / 500000 else s.kickWindow

/-- Registers of the FLT page that show state other than a stored word. -/
def State.fltRead (s : State) (off : Nat) : Option Word :=
  let i := s.fld F.FLT_SEL_SRC
  if off = R.FLT_SRC_CFG then some (s.fltCfg i)
  else if off = R.FLT_SRC_STAT then some (BitVec.ofNat 32 (nativeOf i * 2 ^ 24 + s.openClass i * 2 ^ 16))
  else if off = R.FLT_SRC_COUNT then some (sget 0 s.monel.count i)
  else if off = R.FLT_ALIVE_STAT then
    some ((s.reg off &&& 0xFFFF0000) ||| BitVec.ofNat 32 (s.kickLeft % 65536))
  else if R.FLT_FENCE 0 ≤ off ∧ off ≤ R.FLT_FENCE 3 then
    let b := (off - R.FLT_FENCE 0) / 4
    some (BitVec.ofNat 32 ((List.range 32).map (fun j => match pageOfOrdinal (32 * b + j) with
      | some p => if s.fenced p then 2 ^ j else 0
      | none => 0)).sum)
  else none

/-! ### Commands -/

/-- FLT_ACK (R325). -/
def execFltAck (a : Agent) (src : BitVec 8) (s : State) : Host.Outcome State Fault Refusal :=
  done (s.writeBy a .flt P.FLT R.FLT_ACK (fltAckRule (src.setWidth 32)))

/-- FENCE_END (R328): the fence of a page ends once its IN_RESET has fallen. -/
def execFenceEnd (page : Fin 115) (s : State) : Host.Outcome State Fault Refusal :=
  match pageOfOrdinal page.val with
  | none => done s
  | some p =>
    done (if s.flag (F.xx_STAT_IN_RESET p) then s
      else { s with monel := { s.monel with fences := s.monel.fences.filter (fun q => q != p) } })

/-- FLT_KICK (R330). -/
def execFltKick (a : Agent) (key : BitVec 16) (s : State) : Host.Outcome State Fault Refusal :=
  done (s.writeBy a .flt P.FLT R.FLT_KICK (fltKickRule a (key.setWidth 32)))

/-- KICK_MISSED (R330): MGMT_WDOG is raised and ALIVE stops; the timer is suspended in DOZE and HIBERNATE. -/
def execKickMissed (s : State) : Host.Outcome State Fault Refusal :=
  done (if s.clocked then (s.aliveStop).devFault srcMgmtWdog false else s)

/-- ALIVE_TOGGLE (R330). -/
def execAliveToggle (s : State) : Host.Outcome State Fault Refusal :=
  done (if s.flag F.FLT_ALIVE_STAT_RUN then s.setFlag F.FLT_ALIVE_STAT_LEVEL (!s.flag F.FLT_ALIVE_STAT_LEVEL) else s)

/-- FLT_ERRN_RELEASE (R331). -/
def execFltErrnRelease (a : Agent) (s : State) : Host.Outcome State Fault Refusal :=
  done (s.writeBy a .flt P.FLT R.FLT_ERRN (fltErrnRule 1 s))

/-- FLT_DEV_INJ (R323). -/
def execFltDevInj (a : Agent) (src : BitVec 8) (s : State) : Host.Outcome State Fault Refusal :=
  done (s.writeBy a .flt P.FLT R.FLT_DEV_INJ (fltDevInjRule a (src.setWidth 32)))

/-- FLT_LOG_RD (R327). -/
def execFltLogRd (a : Agent) (v : Word) (s : State) : Host.Outcome State Fault Refusal :=
  done (s.writeBy a .flt P.FLT R.FLT_LOG_RD (fltLogRdRule v s))

end Sys2Proof.Machine
end

