-- ==== Sys2Proof/Machine/Dev.lean ====
section
/-! DEFINITION. The device: resets, modes, sleep and wake, clocks and rails, control pins, QSPI, SMBus and the test access
port (01, 20, 21). -/

namespace Sys2Proof.Machine

open Sys2Proof

/-! ### Resets (R24, R483, R485) -/

/-- The registers that a COLD keeps from a pin or chip reset (R483, R399): DRAM_WARM, the DRAM retention registers,
RST_CAUSE, RST_COUNT, DEV_BOOT_PREF. -/
def State.keepRetained (old new : State) : State :=
  ((new.setReg R.RST_CAUSE (old.reg R.RST_CAUSE)).setReg R.RST_COUNT (old.reg R.RST_COUNT)).setReg R.DEV_BOOT_PREF
    (old.reg R.DEV_BOOT_PREF)

/-- The fault record that a chip reset keeps (R483): FLT_FIRST, FLT_QUAR and the fault log with its pointers. -/
def State.keepFaultLog (old new : State) : State :=
  { new with
    regs := copyWords regReset (fun o => (decide (R.FLT_FIRST ≤ o) && decide (o ≤ R.FLT_LOG_LOST))
      || (decide (R.FLT_QUAR ≤ o) && decide (o ≤ R.FLT_QUAR_STAMP_HI))
      || (decide (R.FLT_LOG 0 ≤ o) && decide (o < P.FLT + 0x1000))) old.regs new.regs
    monel := { new.monel with taken := old.monel.taken } }

/-- COLD with every register and table at its reset value; fuses, test port, pins, the queue of commands and the model's own
fields stay (R483). -/
def State.coldBase (s : State) : State :=
  { State.reset with
    pending := s.pending, free := s.free, dclk := s.dclk, lastRead := s.lastRead, hostOut := s.hostOut
    dev := { Dev.init with
      fuses := s.dev.fuses, shadow := s.dev.shadow, tap := s.dev.tap, rails := s.dev.rails, pwrgd := s.dev.pwrgd,
      rstn := s.dev.rstn, chipReset := s.dev.chipReset, qspi := s.dev.qspi } }.setFld F.DEV_MODE_MODE mCold

/-- The device enters COLD by a power reset: only the fuses are kept (R483). -/
def State.coldPower (s : State) : State := s.coldBase

/-- The device enters COLD by a pin reset (CAUSE 2) or a chip reset (CAUSE 3 with its Monel source, CAUSE 4): the retained
set is kept, and a chip reset keeps the fault record (R483). -/
def State.coldKept (s : State) (cause src : Nat) (chip : Bool) : State :=
  let t := (s.keepRetained s.coldBase).coldDram s
  let t := if chip then s.keepFaultLog t else t
  let t := (t.setFld F.RST_CAUSE_CAUSE cause).setFld F.RST_CAUSE_FLT_SRC src
  t.count R.RST_COUNT

/-- The device enters BOOT (R24): fuse-derived values are reloaded (R483), and the window for the first kick begins (R330). -/
def State.enterBoot (s : State) : State :=
  { s with dev := { s.dev with shadow := s.dev.fuses }, monel := { s.monel with kickAt := s.dclk } }.setFld F.DEV_MODE_MODE mBoot

/-- The device leaves COLD when PWRGD is asserted, RST_N is high and no chip reset is in force (R483). -/
def State.tryBoot (s : State) : State :=
  if s.mode == mCold && s.dev.pwrgd && s.dev.rstn && !s.dev.chipReset then s.enterBoot else s

/-- A chip reset begins (R483): COLD for 10 µs. -/
def State.chipCold (s : State) (cause src : Nat) : State :=
  { s.coldKept cause src true with dev := { (s.coldKept cause src true).dev with chipReset := true } }

/-- PWRGD_ASSERT (R24). -/
def execPwrgdAssert (s : State) : Host.Outcome State Fault Refusal :=
  done { s with dev := { s.dev with pwrgd := true } }.tryBoot

/-- PWRGD_DEASSERT (R483, R523). -/
def execPwrgdDeassert (s : State) : Host.Outcome State Fault Refusal :=
  let s := { s with dev := { s.dev with pwrgd := false, chipReset := false } }
  done s.coldPower

/-- RST_N_ASSERT (R483): the device enters COLD unless it is there already. -/
def execRstNAssert (s : State) : Host.Outcome State Fault Refusal :=
  let s := { s with dev := { s.dev with rstn := false } }
  done (if s.mode == mCold then s else s.coldKept 2 0 false)

/-- RST_N_RELEASE (R24). -/
def execRstNRelease (s : State) : Host.Outcome State Fault Refusal :=
  done { s with dev := { s.dev with rstn := true } }.tryBoot

/-- A write of RST_CHIP (R485). -/
def rstChipRule (v : Word) : WRule :=
  { rangeOk := v.toNat / 65536 == 0x5253
    eff := fun s => s.chipCold 4 0 }

/-- RST_CHIP (R485). -/
def execRstChip (a : Agent) (key : BitVec 16) (s : State) : Host.Outcome State Fault Refusal :=
  done (s.writeBy a .rst P.RST R.RST_CHIP (rstChipRule (BitVec.ofNat 32 (key.toNat * 65536))))

/-- CHIP_RESET_END (R483). -/
def execChipResetEnd (s : State) : Host.Outcome State Fault Refusal :=
  done { s with dev := { s.dev with chipReset := false } }.tryBoot

/-- CHIP_RESET_DELAY_EXPIRE (R324): the pending CHIP_RESET reaction takes the device to COLD. -/
def execChipResetDelayExpire (s : State) : Host.Outcome State Fault Refusal :=
  match s.monel.chipReset with
  | some src => done (s.chipCold 3 src)
  | none => done s

/-! ### Sleep and wake (R493 to R496, R501) -/

/-- Stores the sleep record. -/
def State.setSleep (s : State) (z : Sleep) : State := { s with dev := { s.dev with sleep := z } }

/-- An entry to sleep is abandoned (R494), with ABORT_CAUSE 1 WAKE or 2 DRAIN: its steps are undone in reverse order. -/
def State.sleepAbort (s : State) (cause : Nat) : State :=
  let s := if s.dev.sleep.steps == 3 then s.dramWake.portsWake else s
  let s := s.setSleep ⟨0, 0, false⟩
  let s := s.setFlag F.DEV_MODE_BUSY false
  let s := (s.setFlag F.PWR_STAT_SLEEP_ABORT true).setFld F.PWR_STAT_ABORT_CAUSE cause
  s.event P.PWR E.PWR_SLEEP_ABORT

/-- Steps 2 and 3 of a sleep entry once step 1 has drained (R494): fabric ports send SLEEP and turn off, DRAM enters
self-refresh. -/
def State.sleepAdvance (s : State) : State :=
  if s.dev.sleep.steps == 1 && !s.inFlight then
    s.portsSleep.dramSleep.setSleep { s.dev.sleep with steps := 3 }
  else s

/-- A DOZE or HIBERNATE request is accepted (R494). -/
def State.sleepRequest (s : State) (m : Nat) : State :=
  ((s.setFlag F.DEV_MODE_BUSY true).setSleep ⟨m, 1, false⟩).sleepAdvance

/-- The clocks are gated (R494 step 4, R495). -/
def State.sleepGate (s : State) : State :=
  let m := s.dev.sleep.target
  let s := (s.setFlag F.DEV_MODE_BUSY false).setMode m
  let s := (s.setFld F.PWR_STAT_LAST_SLEEP m).count (R.xx_BLK_COUNT P.PWR)
  let s := s.linesSafe.timeSleep
  let s := if m == mHibernate then (s.setFlag F.CLK_TPLL_LOCKED false).hostReset else s
  s.setSleep ⟨m, 3, true⟩

/-- The fields that every wake sets (R496): LAST_WAKE and PWR_EVT.WAKE. The kick timer restarts from KICK_MS (R330). -/
def State.wakeEnd (s : State) (m : Nat) : State :=
  let s := { s with monel := { s.monel with kicked := true, kickAt := s.dclk } }
  let s := (s.setSleep ⟨0, 0, false⟩).setMode m
  let s := s.setFld F.PWR_STAT_LAST_WAKE (s.fld F.PWR_WAKE_STAT_PEND)
  s.event P.PWR E.PWR_WAKE

/-- SLEEP_SAMPLE (R494 step 4). -/
def execSleepSample (s : State) : Host.Outcome State Fault Refusal :=
  let s := s.sleepAdvance
  done (if s.dev.sleep.steps == 3 && !s.dev.sleep.gated then
      (if s.reg R.PWR_WAKE_STAT == 0 then s.sleepGate else s.sleepAbort 1)
    else s)

/-- SLEEP_DRAIN_TIMEOUT (R494). -/
def execSleepDrainTimeout (s : State) : Host.Outcome State Fault Refusal :=
  done (if s.dev.sleep.steps == 1 && s.inFlight then s.sleepAbort 2 else s)

/-- A wake latch sets (R493), which abandons an entry in progress (R494). -/
def State.wakeLatch (s : State) (src : Nat) : State :=
  if s.mode == mCold || !s.bit R.PWR_WAKE_EN src || (s.mode == mHibernate && (src == 2 || src == 3)) then s
  else
    let s := s.setBit R.PWR_WAKE_STAT src true
    if s.dev.sleep.target != 0 && !s.dev.sleep.gated then s.sleepAbort 1 else s

/-- WAKE_LATCH_SET (R493). -/
def execWakeLatchSet (src : Fin 5) (s : State) : Host.Outcome State Fault Refusal := done (s.wakeLatch src)

/-- WAKE_TIMER_EXPIRE (R493): only within a sleep, and only with a nonzero PWR_WAKE_TMR. -/
def execWakeTimerExpire (s : State) : Host.Outcome State Fault Refusal :=
  done (if s.dev.sleep.gated && s.reg R.PWR_WAKE_TMR != 0 then s.wakeLatch 1 else s)

/-- WAKE_DOZE_COMPLETE (R496): `ticks` ticks of the always-on clock passed in DOZE (R380). -/
def execWakeDozeComplete (ticks : BitVec 32) (s : State) : Host.Outcome State Fault Refusal :=
  done (if s.mode == mDoze && s.reg R.PWR_WAKE_STAT != 0 then
      (s.dramWake.timeWake ticks.toNat).wakeEnd mReady |>.portsWake
    else s)

/-- WAKE_HIBERNATE_COMPLETE (R496): the timing PLL relocks and the device reads TRAIN. -/
def execWakeHibernateComplete (lockUs : BitVec 16) (ticks : BitVec 32) (s : State) : Host.Outcome State Fault Refusal :=
  done (if s.mode == mHibernate && s.reg R.PWR_WAKE_STAT != 0 then
      ((s.tpllLock lockUs.toNat).timeWake ticks.toNat).dramRetain.wakeEnd mTrain |>.portsWake
    else s)

/-! ### Modes (R21 to R25) -/

/-- A mode that DEV_MODE.REQ accepts. -/
def reqAccepted (r : Nat) : Bool := r == 3 || r == 4 || r == 7 || r == 8 || r == 9 || r == 10

/-- The transition to a requested mode is listed in R24 with its precondition met, or the mode is the present one (R23). -/
def State.reqAllowed (s : State) (r : Nat) : Bool :=
  let m := s.mode
  r == m || (if r == 3 || r == 8 then (m == mReady || m == mMeasure) && s.allIdle
    else if r == 4 then m == mCalibrate || m == mDiagnose || m == mService
    else if r == 7 then m == mReady && s.allIdle
    else m == mReady && s.reg R.PWR_WAKE_STAT == 0)

/-- The device leaves DIAGNOSE or SERVICE (R25). -/
def State.leaveMaintenance (s : State) : State := s.diagEnd.disableMeasurement.setMode mReady

/-- The effect of an accepted request (R24). -/
def State.modeRequest (s : State) (r : Nat) : State :=
  if r == s.mode then s
  else if r == 3 then s.stopMeasurement.setMode mCalibrate
  else if r == 4 then (if s.mode == mCalibrate then s.calAbandon else s.leaveMaintenance)
  else if r == 7 then s.setMode mDiagnose
  else if r == 8 then s.stopMeasurement.setMode mService
  else s.sleepRequest r

/-- A write of DEV_MODE (R23); a rejected request is an event of the page (20). -/
def devModeRule (v : Word) (s : State) : WRule :=
  let r := bitsOf v.toNat 15 12
  { stateOk := !s.flag F.DEV_MODE_BUSY && (!reqAccepted r || s.reqAllowed r)
    rangeOk := reqAccepted r
    eff := fun s => s.modeRequest r
    refused := fun _ s => s.event P.DEV E.DEV_REJECT }

/-- A request of mode `r` by an agent. -/
def State.requestMode (s : State) (a : Agent) (r : Nat) : State :=
  s.writeBy a .dev P.DEV R.DEV_MODE (devModeRule (BitVec.ofNat 32 (r * 4096)) s)

/-- DEV_MODE_REQ_CALIBRATE (R24). -/
def execDevModeReqCalibrate (a : Agent) (s : State) : Host.Outcome State Fault Refusal := done (s.requestMode a 3)

/-- DEV_MODE_REQ_READY (R24, R25). -/
def execDevModeReqReady (a : Agent) (s : State) : Host.Outcome State Fault Refusal := done (s.requestMode a 4)

/-- DEV_MODE_REQ_DIAGNOSE (R24). -/
def execDevModeReqDiagnose (a : Agent) (s : State) : Host.Outcome State Fault Refusal := done (s.requestMode a 7)

/-- DEV_MODE_REQ_SERVICE (R24). -/
def execDevModeReqService (a : Agent) (s : State) : Host.Outcome State Fault Refusal := done (s.requestMode a 8)

/-- DEV_MODE_REQ_DOZE (R494). -/
def execDevModeReqDoze (a : Agent) (s : State) : Host.Outcome State Fault Refusal := done (s.requestMode a 9)

/-- DEV_MODE_REQ_HIBERNATE (R494). -/
def execDevModeReqHibernate (a : Agent) (s : State) : Host.Outcome State Fault Refusal := done (s.requestMode a 10)

/-- Every enabled fabric port is ACTIVE or has raised TRAIN_FAIL (R490). -/
def State.portsSettled (s : State) : Bool :=
  (List.range 6).all (fun f => !s.flag (F.xx_CTRL_ENABLE (P.FP f)) || s.fld (F.FP_STAT_STATE f) == fpActive
    || s.bit (R.xx_FLT (P.FP f)) X.FP_TRAIN_FAIL)

/-- A write of DEV_BOOT (R490, R500). -/
def devBootRule (a : Agent) (v : Word) (s : State) : WRule :=
  let d := v.getLsbD 31
  let t := v.getLsbD 30
  { agentOk := a == .mgmt
    stateOk := (!d || s.mode == mBoot) && (!t || (s.mode == mTrain && s.flag F.ALLOC_MAP_VALID && s.portsSettled))
    eff := fun s => if d then s.setMode mTrain else if t then s.setMode mReady else s }

/-- DEV_BOOT_DONE (R490). -/
def execDevBootDone (a : Agent) (s : State) : Host.Outcome State Fault Refusal :=
  done (s.writeBy a .dev P.DEV R.DEV_BOOT (devBootRule a 0x80000000 s))

/-- DEV_BOOT_TRAINED (R490). -/
def execDevBootTrained (a : Agent) (s : State) : Host.Outcome State Fault Refusal :=
  done (s.writeBy a .dev P.DEV R.DEV_BOOT (devBootRule a 0x40000000 s))

/-! ### Rails, PLLs, temperature (R478 to R482, R323) -/

/-- RAIL_OUT_OF_RANGE (R478): outside COLD it raises RAIL_MON and is recorded in LAST_OUT. -/
def execRailOutOfRange (rail : Fin 7) (s : State) : Host.Outcome State Fault Refusal :=
  let s := { s with dev := { s.dev with rails := s.dev.rails &&& ~~~(BitVec.ofNat 7 (2 ^ rail.val)) } }
  done (if s.mode == mCold then s
    else (s.setBit R.PWR_RAIL (8 + rail.val) true).devFault srcRailMon false)

/-- RAIL_IN_RANGE (R478). -/
def execRailInRange (rail : Fin 7) (s : State) : Host.Outcome State Fault Refusal :=
  done { s with dev := { s.dev with rails := s.dev.rails ||| BitVec.ofNat 7 (2 ^ rail.val) } }

/-- TPLL_LOCK_LOSS (R481): a FATAL fault. -/
def execTpllLockLoss (s : State) : Host.Outcome State Fault Refusal :=
  done (if s.flag F.CLK_TPLL_LOCKED then (s.setFlag F.CLK_TPLL_LOCKED false).devFault srcTpllLock false else s)

/-- SYSPLL_LOCK_LOSS (R481): a FATAL fault. -/
def execSyspllLockLoss (pll : Fin 2) (s : State) : Host.Outcome State Fault Refusal :=
  done (if s.bit R.CLK_SPLL (31 - pll.val) then (s.setBit R.CLK_SPLL (31 - pll.val) false).devFault srcSyspllLock false
    else s)

/-- A junction temperature is read (20): PWR_TEMP and PWR_TEMP_MAX (R535). -/
def State.setTemp (s : State) (t : BitVec 16) : State :=
  let s := s.setFld F.PWR_TEMP_T t.toNat
  if signedOf 16 (s.fld F.PWR_TEMP_MAX_T) < t.toInt then s.setFld F.PWR_TEMP_MAX_T t.toNat else s

/-- THERM_WARN (R323): 115 °C is 1,840 in units of 1/16 °C. -/
def execThermWarn (t : BitVec 16) (s : State) : Host.Outcome State Fault Refusal :=
  done (if s.mode == mCold then s
    else if 1840 ≤ t.toInt then (s.setTemp t).devFault srcThermWarn false else s.setTemp t)

/-- THERM_TRIP (R323): 130 °C is 2,080 in units of 1/16 °C. -/
def execThermTrip (t : BitVec 16) (s : State) : Host.Outcome State Fault Refusal :=
  done (if s.mode == mCold then s
    else if 2080 ≤ t.toInt then (s.setTemp t).devFault srcThermTrip false else s.setTemp t)

/-- SREF_LOST (R480). -/
def execSrefLost (s : State) : Host.Outcome State Fault Refusal :=
  done (if s.mode == mCold then s
    else ((s.setFlag F.CLK_REF_SREF_OK false).event P.CLK E.CLK_SREF_LOST).srefLost)

/-- SREF_BACK (R480). -/
def execSrefBack (s : State) : Host.Outcome State Fault Refusal :=
  done (if s.mode == mCold then s else (s.setFlag F.CLK_REF_SREF_OK true).event P.CLK E.CLK_SREF_BACK)

/-! ### Control pins (R497 to R499) -/

/-- Outputs at logical 0: COLD, QUARANTINE, DOZE, HIBERNATE, and a sleep entry from its step 2 on (R494, R498). -/
def State.outputsLow (s : State) : Bool :=
  s.mode == mCold || s.mode == mQuarantine || s.mode == mDoze || s.mode == mHibernate || s.dev.sleep.steps == 3

/-- The level of TRIG_OUTn (R498). -/
def State.trigOut (s : State) (n : Nat) : Bool :=
  !s.outputsLow && (s.flag (F.DEV_TOUT_SW_LEVEL n) || s.dev.trigPulse.any (fun p => p.1 == n))

/-- The level of SYNC_OUT (R499). -/
def State.syncOut (s : State) : Bool := !s.outputsLow && decide (0 < s.dev.syncPulse)

/-- TRIG_OUT_PULSE_END (R221): the source releases the pin. -/
def execTrigOutPulseEnd (pin : Fin 8) (src : PulseSource) (s : State) : Host.Outcome State Fault Refusal :=
  done { s with dev := { s.dev with trigPulse := s.dev.trigPulse.filter (fun p => !(p.1 == pin.val && p.2 == src)) } }

/-- A write of DEV_SYNC (R499). The length of a PULSE is not in the spec: a free value (assumption 20). -/
def devSyncRule (v : Word) : WRule :=
  { rangeOk := decide (bitsOf v.toNat 11 8 ≤ 8) && (bitsOf v.toNat 5 4 != 2 || decide (bitsOf v.toNat 3 0 ≤ 3))
    eff := fun s =>
      let s := s.setReg R.DEV_SYNC (v &&& 0xF3F)
      if v.getLsbD 31 && bitsOf v.toNat 5 4 == 3 then
        let (n, s) := s.fresh 16
        { s with dev := { s.dev with syncPulse := n.toNat + 1 } }
      else s }

/-- DEV_SYNC_PULSE (R499): PULSE is written and the other fields keep their values. -/
def execDevSyncPulse (a : Agent) (s : State) : Host.Outcome State Fault Refusal :=
  done (s.writeBy a .dev P.DEV R.DEV_SYNC (devSyncRule (s.reg R.DEV_SYNC ||| 0x80000000)))

/-- QSPI_COMMAND (R486): MGMT alone reaches the port; one command carries at most 256 data bytes. -/
def execQspiCommand (c : QspiCommand) (s : State) : Host.Outcome State Fault Refusal :=
  done (if s.mode == mCold || s.dev.sleep.gated || 256 < c.data.length then s
    else { s with dev := { s.dev with qspi := some c } })

/-! ### Registers of the DEV, FUSE, CLK, RST and PWR pages -/

/-- A write of the DEV page (20). -/
def devRule (a : Agent) (off : Nat) (v : Word) (s : State) : WRule :=
  if off = R.DEV_MODE then devModeRule v s
  else if off = R.DEV_BOOT then devBootRule a v s
  else if off = R.DEV_BOOT_PREF then
    { agentOk := a == .mgmt, rangeOk := bitsOf v.toNat 1 0 != 3, eff := fun s => s.setReg R.DEV_BOOT_PREF (v &&& 3) }
  else if off = R.DEV_SIN ∨ (R.DEV_TIN 0 ≤ off ∧ off ≤ R.DEV_TIN 7) then
    { rangeOk := bitsOf v.toNat 9 8 != 3, eff := fun s => s.setReg off (v &&& 0x3FF) }
  else if R.DEV_TOUT 0 ≤ off ∧ off ≤ R.DEV_TOUT 7 then
    { rangeOk := bitsOf v.toNat 15 8 != 0, eff := fun s => s.setReg off (v &&& 0xCF00FF00) }
  else if off = R.DEV_SYNC then devSyncRule v
  else ignored

/-- A write of the RST page (20). -/
def rstRule (off : Nat) (v : Word) : WRule := if off = R.RST_CHIP then rstChipRule v else ignored

/-- A write of the PWR page (R501). -/
def pwrRule (off : Nat) (v : Word) (s : State) : WRule :=
  let free := !s.flag F.DEV_MODE_BUSY
  if off = R.PWR_WAKE_EN then
    { stateOk := free, eff := fun s => (s.setReg off (v &&& 0x1F)).relatch }
  else if off = R.PWR_WAKE_STAT then { eff := fun s => (s.clrReg off v).relatch }
  else if off = R.PWR_WAKE_TMR then { stateOk := free, eff := fun s => s.setReg off v }
  else if off = R.PWR_SLEEP_TMO then
    { stateOk := free, rangeOk := bitsOf v.toNat 15 0 != 0, eff := fun s => s.setReg off (v &&& 0xFFFF) }
  else if off = R.PWR_STAT then
    { eff := fun s => if v.getLsbD 31 then s.setFlag F.PWR_STAT_SLEEP_ABORT false else s }
  else ignored

/-- FUSE_LC.LIFECYCLE of the fuses (R492): bits 0, 1 and 2 of the field are PROVISIONED, FIELD and RETIRED. -/
def Fuses.lcCode (f : Fuses) : Nat :=
  if f.lifecycle.getLsbD 2 then 3 else if f.lifecycle.getLsbD 1 then 2 else if f.lifecycle.getLsbD 0 then 1 else 0

/-- Word `i` of a 384-bit hash. -/
def hashWord (h : BitVec 384) (i : Nat) : Word := (h >>> (32 * i)).setWidth 32

/-- Registers of these pages that show state other than a stored word (R55, R491, R478). -/
def State.devRead (s : State) (a : Agent) (off : Nat) : Option Word :=
  if off = R.DEV_UID_LO then some (s.dev.shadow.uid.setWidth 32)
  else if off = R.DEV_UID_HI then some ((s.dev.shadow.uid >>> 32).setWidth 32)
  else if R.FUSE_AAT_MGMT ≤ off ∧ off ≤ R.FUSE_AAT_FABRIC then some (s.denyMask ((off - R.FUSE_AAT_MGMT) / 4))
  else if off = R.FUSE_AAT_SELF then some (s.denyMask (agentClass a))
  else if off = R.FUSE_LC then
    let f := s.dev.shadow
    some (BitVec.ofNat 32 ((if f.iso then 128 else 0) + (if f.debugLock then 64 else 0) + f.revoke.toNat * 16 + f.lcCode))
  else if off = R.FUSE_MOSC then some (s.dev.shadow.moscTrim.setWidth 32)
  else if R.FUSE_VKEY_HASH 0 ≤ off ∧ off ≤ R.FUSE_VKEY_HASH 11 then
    some (hashWord s.dev.shadow.vkeyHash ((off - R.FUSE_VKEY_HASH 0) / 4))
  else if R.FUSE_CKEY_HASH0 0 ≤ off ∧ off ≤ R.FUSE_CKEY_HASH0 11 then
    some (hashWord s.dev.shadow.ckeyHash0 ((off - R.FUSE_CKEY_HASH0 0) / 4))
  else if R.FUSE_CKEY_HASH1 0 ≤ off ∧ off ≤ R.FUSE_CKEY_HASH1 11 then
    some (hashWord s.dev.shadow.ckeyHash1 ((off - R.FUSE_CKEY_HASH1 0) / 4))
  else if off = R.PWR_RAIL then
    some (s.reg R.PWR_RAIL ||| (if s.mode == mCold then 0 else s.dev.rails.setWidth 32))
  else none

/-! ### SMBus (R525, R526) -/

/-- An SMBus transaction: no acknowledge in COLD; elsewhere the SMBUS wake latch sets when enabled, and the bytes are
returned, 0xFF each where the command is not served in DOZE and HIBERNATE. -/
def State.smbus (s : State) (always : Bool) (n v : Nat) : State :=
  if s.mode == mCold then s
  else
    let b := if always || !(s.mode == mDoze || s.mode == mHibernate) then leBytes n v else List.replicate n 0xFF
    { s with dev := { s.dev with smbus := b } }.wakeLatch 4

/-- SMBUS_MODE (R526). -/
def execSmbusMode (s : State) : Host.Outcome State Fault Refusal := done (s.smbus true 1 s.mode)

/-- SMBUS_TEMP (R526). -/
def execSmbusTemp (s : State) : Host.Outcome State Fault Refusal := done (s.smbus false 2 (s.fld F.PWR_TEMP_T))

/-- SMBUS_RAIL (R526). -/
def execSmbusRail (s : State) : Host.Outcome State Fault Refusal :=
  done (s.smbus true 2 (bitsOf ((s.devRead .mgmt R.PWR_RAIL).getD 0).toNat 14 0))

/-- SMBUS_FIRST (R526). -/
def execSmbusFirst (s : State) : Host.Outcome State Fault Refusal := done (s.smbus false 4 (s.reg R.FLT_FIRST).toNat)

/-- SMBUS_UID (R526). -/
def execSmbusUid (s : State) : Host.Outcome State Fault Refusal := done (s.smbus true 8 s.dev.shadow.uid.toNat)

/-- SMBUS_ALIVE (R526). -/
def execSmbusAlive (s : State) : Host.Outcome State Fault Refusal :=
  done (s.smbus true 1 (bitsOf (s.reg R.FLT_ALIVE_STAT).toNat 31 29 + 8 * s.fld F.FLT_ERRN_ASSERTED))

/-- SMBUS_CAUSE (R526). -/
def execSmbusCause (s : State) : Host.Outcome State Fault Refusal := done (s.smbus true 1 (s.fld F.RST_CAUSE_CAUSE))

/-- SMBUS_OTHER (R526): acknowledged and ignored; a listed code has a command of its own. -/
def execSmbusOther (_code : Byte) (s : State) : Host.Outcome State Fault Refusal := done (s.smbus true 0 0)

/-! ### Test access port (R527 to R530) -/

/-- Stores the test port. -/
def State.setTap (s : State) (t : Tap) : State := { s with dev := { s.dev with tap := t } }

/-- Every rail is within range. -/
def State.railsGood (s : State) : Bool := s.dev.rails == 0x7F

/-- BYPASS is selected: the boundary cells leave the balls alone. -/
def State.tapBypass (s : State) : State := s.setTap { s.dev.tap with ir := 0xFF, drive := 0 }

/-- EXTEST, CLAMP and HIGHZ act (R528). -/
def State.tapDrives (s : State) : Bool := s.mode == mCold && s.railsGood && s.dev.pwrgd

/-- TAP_RESET (R527). -/
def execTapReset (s : State) : Host.Outcome State Fault Refusal := done (s.setTap { s.dev.tap with ir := 2, drive := 0 })

/-- EXTEST (R528): the cells drive the balls and capture them. -/
def execTapExtest (cells balls : List Bool) (s : State) : Host.Outcome State Fault Refusal :=
  done (if s.tapDrives then s.setTap { s.dev.tap with ir := 0, drive := 1, cells := cells, captured := balls }
    else s.tapBypass)

/-- SAMPLE/PRELOAD (R528). -/
def execTapSamplePreload (cells balls : List Bool) (s : State) : Host.Outcome State Fault Refusal :=
  done (if s.railsGood then s.setTap { s.dev.tap with ir := 1, drive := 0, cells := cells, captured := balls }
    else s.tapBypass)

/-- The IDCODE (R527). -/
def idcode : Word :=
  BitVec.ofNat 32 (Config.dieRevision.toNat * 2 ^ 28 + 0x2568 * 2 ^ 12 + Config.jedecId.toNat * 2 + 1)

/-- IDCODE (R528). -/
def execTapIdcode (s : State) : Host.Outcome State Fault Refusal :=
  done (s.setTap { s.dev.tap with ir := 2, drive := 0, out := idcode.setWidth 64 })

/-- CLAMP (R528). -/
def execTapClamp (s : State) : Host.Outcome State Fault Refusal :=
  done (if s.tapDrives then s.setTap { s.dev.tap with ir := 3, drive := 2 } else s.tapBypass)

/-- HIGHZ (R528). -/
def execTapHighz (s : State) : Host.Outcome State Fault Refusal :=
  done (if s.tapDrives then s.setTap { s.dev.tap with ir := 4, drive := 3 } else s.tapBypass)

/-- A fuse word as the port reads it (R528, R530); the fields without a FIELD code in R530 are opaque. -/
def Fuses.word (f : Fuses) (field word : Nat) : Word :=
  if field = 0x10 then hashWord f.ckeyHash0 word
  else if field = 0x11 then hashWord f.ckeyHash1 word
  else if field = 0x12 then f.revoke.setWidth 32
  else if field = 0x13 then (if f.debugLock then 1 else 0)
  else if field = 0x14 then f.aat.getD word 0
  else if field = 0x15 then (if f.iso then 1 else 0)
  else if field = 0x16 then f.lifecycle.setWidth 32
  else Config.fuseWord field word

/-- FUSE_READ (R528). -/
def execTapFuseRead (s : State) : Host.Outcome State Fault Refusal :=
  let a := s.dev.tap.addr.toNat
  done (s.setTap { s.dev.tap with ir := 0x20, drive := 0, out := (s.dev.fuses.word (a / 256) (a % 256)).setWidth 64 })

/-- FUSE_ADDR (R528). -/
def execTapFuseAddr (addr : BitVec 16) (s : State) : Host.Outcome State Fault Refusal :=
  done (s.setTap { s.dev.tap with ir := 0x21, drive := 0, addr := addr })

/-- The lifecycle rules of R530 for a program of a field word. -/
def Fuses.progAllowed (f : Fuses) (field word : Nat) (data : Word) : Bool :=
  let lc := f.lcCode
  if field = 0x10 then decide (word < 12) && lc == 1
  else if field = 0x11 then decide (word < 12) && (lc == 1 || lc == 2)
  else if field = 0x12 then word == 0 && lc == 2
  else if field = 0x13 ∨ field = 0x15 then word == 0 && (lc == 1 || lc == 2)
  else if field = 0x14 then decide (word < 4) && (lc == 1 || lc == 2)
  else if field = 0x16 then word == 0 && (!data.getLsbD 1 || (lc == 1 && f.blown0))
  else false

/-- The hash that staged words and the last word spell. -/
def stagedHash (st : List (Nat × Word)) : BitVec 384 :=
  BitVec.ofNat 384 ((List.range 12).map (fun i => (sget 0 st i).toNat * 2 ^ (32 * i))).sum

/-- The fuses after a program of a field word that R530 allows. A SECDED field is blown at word 11. -/
def Fuses.prog (f : Fuses) (st : List (Nat × Word)) (field word : Nat) (data : Word) : Fuses :=
  if field = 0x10 then (if word = 11 then { f with ckeyHash0 := f.ckeyHash0 ||| stagedHash st, blown0 := true } else f)
  else if field = 0x11 then (if word = 11 then { f with ckeyHash1 := f.ckeyHash1 ||| stagedHash st, blown1 := true } else f)
  else if field = 0x12 then { f with revoke := f.revoke ||| data.setWidth 2 }
  else if field = 0x13 then { f with debugLock := f.debugLock || data.getLsbD 0 }
  else if field = 0x14 then { f with aat := f.aat.set word (f.aat.getD word 0 ||| (data &&& 0x1FFFFFFF)) }
  else if field = 0x15 then { f with iso := f.iso || data.getLsbD 0 }
  else
    let f := { f with lifecycle := f.lifecycle ||| (data &&& 6).setWidth 3 }
    if data.getLsbD 2 then { f with devkeyWrap := BitVec.allOnes 320 } else f

/-- FUSE_PROG (R530): outside COLD it acts as BYPASS; while BUSY it is discarded. The checks are taken in the order REFUSED,
ALREADY, SUPPLY (assumption 21). -/
def execTapFuseProg (field word : BitVec 8) (data : BitVec 32) (supplyOk : Bool) (s : State) :
    Host.Outcome State Fault Refusal :=
  done (
    let f := s.dev.fuses
    let t := { s.dev.tap with ir := 0x22, drive := 0 }
    if s.mode != mCold then s.tapBypass
    else if t.busy then s.setTap t
    else if !f.progAllowed field.toNat word.toNat data then s.setTap { t with busy := true, pendResult := 1 }
    else if (field == 0x10 && f.blown0) || (field == 0x11 && f.blown1) then
      s.setTap { t with busy := true, pendResult := 2 }
    else if !supplyOk then s.setTap { t with busy := true, pendResult := 3 }
    else
      let st := if field == 0x10 || field == 0x11 then sset 0 t.staged word.toNat data else t.staged
      let s := { s with dev := { s.dev with fuses := f.prog st field.toNat word.toNat data } }
      s.setTap { t with
        busy := true, pendResult := 0
        staged := if (field == 0x10 || field == 0x11) && word == 11 then [] else st })

/-- FUSE_PROG_DONE (R530). -/
def execTapFuseProgDone (verifyOk : Bool) (s : State) : Host.Outcome State Fault Refusal :=
  let t := s.dev.tap
  done (if t.busy then
      s.setTap { t with busy := false, result := if t.pendResult == 0 && !verifyOk then 4 else t.pendResult }
    else s)

/-- FUSE_STAT (R528): acts in COLD only. -/
def execTapFuseStat (s : State) : Host.Outcome State Fault Refusal :=
  let t := s.dev.tap
  done (if s.mode != mCold then s.tapBypass
    else s.setTap { t with
      ir := 0x23, drive := 0
      out := BitVec.ofNat 64 ((if t.busy then 128 else 0) + t.result.toNat) })

/-- DEBUG (R528): under DEBUG_LOCK the register captures 0 and updates are ignored; otherwise the DMI takes the update. What
the debug module answers is in the RISC-V debug specification, not in the manual: a free value (assumption 22). -/
def execTapDebug (dmi : BitVec 41) (s : State) : Host.Outcome State Fault Refusal :=
  let t := { s.dev.tap with ir := 0x30, drive := 0 }
  done (if !s.railsGood then s.tapBypass
    else if s.dev.shadow.debugLock then s.setTap { t with out := 0 }
    else
      let (o, s) := s.fresh 41
      s.setTap { t with out := o.setWidth 64, dmi := dmi })

/-- BYPASS (R528): the one-bit register shifts. -/
def execTapBypass (tdi : Bool) (s : State) : Host.Outcome State Fault Refusal :=
  done (s.setTap { s.dev.tap with
    ir := 0xFF, drive := 0, bypass := tdi, out := if s.dev.tap.bypass then 1 else 0 })

end Sys2Proof.Machine
end

