-- ==== Sys2Proof/Machine/Boot.lean ====
section
/-! DEFINITION. The boot ROM (20, R485 to R490; 04, R120, R121), and the events of the pins TRIG_IN and SYNC_IN and of the host
link's power states (R497, R499, R430). -/

namespace Sys2Proof.Machine

open Sys2Proof

/-! ### Firmware images (R487, R488) -/

/-- The lengths of an image meet R487 and fit its slot of 8 MiB. -/
def imageFits (b : BootImage) : Bool :=
  let n := b.mgmtLen.toNat
  n % 4 == 0 && decide (4 ≤ n) && decide (n ≤ 229376) && decide (b.entry.toNat < n) && b.entry.toNat % 2 == 0
    && decide (0x160 + n + b.payloadLen.toNat ≤ 0x800000)

/-- In lifecycle FIELD the key's hash is one of the two slots, and that slot is not revoked. -/
def Fuses.keyAllowed (f : Fuses) (h : BitVec 384) : Bool :=
  f.lcCode != 2 || (h == f.ckeyHash0 && !f.revoke.getLsbD 0) || (h == f.ckeyHash1 && !f.revoke.getLsbD 1)

/-- An image is valid (R488). -/
def imageValid (b : BootImage) (f : Fuses) : Bool :=
  b.magic == 0x31465754 && b.version == 1 && imageFits b && b.signatureOk && f.keyAllowed b.keyHash

/-- The image that the ROM tries first is A (R489 step 3). -/
def State.firstIsA (s : State) (a b : BootImage) : Bool :=
  let pref := s.fld F.DEV_BOOT_PREF_FIRST
  pref == 1 || (pref != 2 && decide (b.seq.toNat ≤ a.seq.toNat))

/-! ### The patch (R120, R121) -/

/-- The words of one section: patch words from a start address, dispatch overrides, traps; `n` is the number of traps so far.
Each word has its key in the master store. -/
def sectionWords (kind count n : Nat) (l : List Word) : List (Nat × Word) :=
  if kind = 1 then
    (match l with
     | [] => []
     | a :: t => (t.take count).zipIdx.map (fun x => (masterKey 0 ((a.toNat + x.2) % 0x2000), x.1)))
  else if kind = 2 then
    (List.range count).flatMap (fun i =>
      [(masterKey 1 ((l.getD (3 * i) 0).toNat % 256 * 2), l.getD (3 * i + 1) 0),
        (masterKey 1 ((l.getD (3 * i) 0).toNat % 256 * 2 + 1), l.getD (3 * i + 2) 0)])
  else
    (List.range count).flatMap (fun i =>
      [(masterKey 2 (2 * (n + i)), l.getD (2 * i) 0), (masterKey 2 (2 * (n + i) + 1), l.getD (2 * i + 1) 0)])

/-- The words of a payload, section by section; a section of an unknown KIND ends it. -/
def payloadWords : Nat → Nat → List Word → List (Nat × Word)
  | 0, _, _ => []
  | _ + 1, _, [] => []
  | k + 1, n, h :: t =>
    let kind := bitsOf h.toNat 31 24
    let count := h.toNat % 2 ^ 24
    let size := if kind = 1 then count + 1 else if kind = 2 then 3 * count else 2 * count
    if kind = 0 ∨ 3 < kind ∨ t.length < size then []
    else sectionWords kind count n t ++ payloadWords k (if kind = 3 then n + count else n) (t.drop size)

/-- MGMT writes one word of the patch through MC_PLOAD_ADDR and MC_PLOAD_DATA. -/
def State.ploadAt (s : State) (x : Nat × Word) : State :=
  ((s.setFld F.MC_PLOAD_ADDR_TARGET (x.1 / 2 ^ 15)).setFld F.MC_PLOAD_ADDR_INDEX (x.1 % 2 ^ 15)).ploadWord x.2

/-- PSTATE of a patch image (R121): LOADED, or the first condition that fails. -/
def State.patchState (s : State) (p : PatchImage) : Nat :=
  if !p.magicOk || !p.sigOk then 2
  else if !p.tagOk then 3
  else if p.romId != s.reg R.MC_ROMID then 4
  else if p.abiMaj.toNat != s.fld F.MC_ABI_ROM_MAJ || decide (p.abiMin.toNat < s.fld F.MC_ABI_ROM_MIN) then 5
  else 1

/-- Step 4 of R489: the patch is loaded into every sequencer, or its failure is written. -/
def State.loadPatch (s : State) (p : Option PatchImage) : State :=
  let s := s.setFld F.MC_PLOAD_FIN_SEQMASK 0xFFFF
  match p with
  | none => s.ploadFin 2 0 0
  | some p =>
    let r := s.patchState p
    if r = 1 then
      let s := (payloadWords p.payload.length 0 p.payload).foldl State.ploadAt s
      (s.setReg R.MC_PATCH_VER p.version).ploadFin 1 p.abiMaj.toNat p.abiMin.toNat
    else s.ploadFin r 0 0

/-! ### The boot ROM (R489) -/

/-- MGMT code is loaded at SRAM offset 0, and MGMT runs from its entry. -/
def State.loadMgmt (s : State) (b : BootImage) : State :=
  let code := (b.code.take b.mgmtLen.toNat).zipIdx
  let s := { s with cpu := { s.cpu with
      sram := code.foldl (fun (l : List (Nat × Byte)) (x : Byte × Nat) => sset 0 l x.2 x.1) s.cpu.sram } }
  s.setHart 8 { s.hart 8 with pc := BitVec.ofNat 64 (0x10000000 + b.entry.toNat) }

/-- Step 2 of R489: system PLL 0 and the timing PLL. -/
def State.startClocks (s : State) (b : BootInputs) : State :=
  let s := s.setFlag F.CLK_REF_XTAL_OK true
  let s := if b.spllLocks then
      ((s.setReg R.CLK_SPLL 0xC0000000).setFlag F.CLK_MCLK_SRC true).setFlag F.CLK_REF_TREF_OK true
    else s.devFault srcSyspllLock false
  if b.tpllLocks then (s.tpllLock b.lockUs.toNat).setFlag F.CLK_REF_TREF_OK true else s.devFault srcTpllLock false

/-- Steps 3 to 6 of R489, with the image that is loaded, its code (1 A, 2 B), and whether the one tried first failed. -/
def State.runImage (s : State) (b : BootInputs) (img : BootImage) (code : Nat) (fallback : Bool) : State :=
  let s := if fallback then s.devFault srcBootImage false else s
  let s := s.loadPatch b.patch
  let s := { s with dev := { s.dev with keyLocked := true, booted := true } }
  let s := (s.setFld F.DEV_BOOT_IMAGE code).setFlag F.DEV_BOOT_FALLBACK fallback
  (s.setReg R.DEV_IMG_SEQ img.seq).loadMgmt img

/-- Step 3 of R489: the choice of the image; neither valid is a FATAL fault. -/
def State.chooseImage (s : State) (b : BootInputs) : State :=
  let a := s.firstIsA b.imageA b.imageB
  let s := s.setFld F.DEV_BOOT_PREF_FIRST 0
  let first := if a then b.imageA else b.imageB
  let other := if a then b.imageB else b.imageA
  let code := if a then 1 else 2
  if imageValid first s.dev.shadow then s.runImage b first code false
  else if imageValid other s.dev.shadow then s.runImage b other (3 - code) true
  else s.devFault srcBootFail false

/-- BOOT_ROM_SEQUENCE (R489): the ROM runs once at BOOT entry. -/
def execBootRomSequence (b : BootInputs) (s : State) : Host.Outcome State Fault Refusal :=
  done (if s.mode != mBoot || s.dev.booted then s
    else
      let s := { s with dev := { s.dev with shadow := s.dev.fuses } }
      let s := if b.fuseCorrected then (s.count (R.xx_CE_COUNT P.FUSE)).devFault srcFuseCe false else s
      let lc := s.dev.shadow.lcCode
      if b.fuseDouble then s.devFault srcFuseUc false
      else if lc == 0 || lc == 3 then s.devFault srcBootFail false
      else (s.startClocks b).chooseImage b)

/-! ### Pins (R497, R499) -/

/-- EDGE of a filter register selects a transition. -/
def State.edgeSelected (s : State) (off : Nat) (rising : Bool) : Bool :=
  let e := bitsOf (s.reg off).toNat 9 8
  e == 2 || e == (if rising then 0 else 1)

/-- The synchronised event of TRIG_IN pin `i`: pending triggers (R84), interrupt source 460 + i (R314), capture (R205), synthesis
(R265, R268), fabric triggers (R363), event stamps (R384). -/
def State.trigEvent (s : State) (i : Nat) : State :=
  (((((s.raiseTrigger i).pulse (460 + i)).capExternal i).synTrigger i).fabSource 1 i).stampEvent i

/-- TRIG_IN_EVENT (R497): a level change of a pin has passed its filter. -/
def execTrigInEvent (pin : Fin 8) (rising : Bool) (s : State) : Host.Outcome State Fault Refusal :=
  done (if s.clocked && s.edgeSelected (R.DEV_TIN pin.val) rising then s.trigEvent pin.val else s)

/-- SYNC_IN_EVENT (R497, R499): with ROUTE it is an event of a TRIG_IN pin as well. -/
def execSyncInEvent (rising : Bool) (s : State) : Host.Outcome State Fault Refusal :=
  done (if s.clocked && s.edgeSelected R.DEV_SIN rising then
      let s := s.stampEvent 8
      let r := s.fld F.DEV_SYNC_ROUTE
      if r = 0 then s else s.trigEvent (r - 1)
    else s)

/-! ### The host link's L1 (17) -/

/-- ASPM_L1_CHANGE (R427, R493): the link enters or leaves L1; leaving it is activity of the wake source HOST. -/
def execAspmL1Change (l1 : Bool) (s : State) : Host.Outcome State Fault Refusal :=
  done (if !s.flag F.HOST_STAT_DL_UP then s
    else
      let s := s.setFlag F.HOST_STAT_ASPM_L1 l1
      if l1 then s else s.wakeLatch 2)

end Sys2Proof.Machine
end

