-- ==== Sys2Proof/Machine/RegRead.lean ====
section
/-! DEFINITION. Reads of the register window: the value that a register shows, registers that a read clears, coherent pairs, reads
that take an item (R36, R37, R43, R45, R103, R535). -/

namespace Sys2Proof.Machine

open Sys2Proof

/-- Page `p` of kind `k` has work in flight: xx_STAT.ACTIVE (R38; assumption 25). -/
def State.pageActive (s : State) (k : PageKind) (n : Nat) : Bool :=
  match k with
  | .seq => s.gangRuns n
  | .tg => s.gangRuns (s.gangOf n) || (s.tg n).frame.isSome || s.flag (F.PE_DIAG_STAT_BUSY n)
  | .pgr => !s.pager.fetches.isEmpty || s.pager.op.isSome
  | .cu => !(s.cu n).queue.isEmpty
  | .tia => (List.range 8).any (fun u => s.tuState (8 * n + u) == tuArmed)
  | .dec => (List.range 8).any (fun c => s.decForms (8 * n + c))
  | .syn => s.synState n == syRun
  | .red => (List.range 8).any (fun u => s.flag (F.RED_EU_BUSY u))
  | .hart => s.flag (F.HART_SCHED_CUR_VALID n)
  | .dma => (List.range 8).any (fun c => s.dmaActive (8 * n + c))
  | .hostp => s.flag F.HOST_RP_RES_BUSY
  | .hq => s.hqInFlight
  | .cal => s.calState != csIdle
  | .mc => s.reg R.MC_RELOAD != 0
  | _ => false

/-- xx_STAT as it reads. -/
def State.statWord (s : State) (k : PageKind) (n p : Nat) : Word :=
  let act := s.pageActive k n
  BitVec.ofNat 32 (putBits (s.reg (R.xx_STAT p)).toNat 1 0
    ((if act then 1 else 0) + (if s.flag (F.xx_CTRL_QUIESCE p) && !act then 2 else 0)))

/-- Registers from 0x040 of a page on that show state other than a stored word. -/
def State.pageRead (s : State) (a : Agent) (k : PageKind) (n off : Nat) : Option Word :=
  match k with
  | .dev => s.devRead a off
  | .fuse => s.devRead a off
  | .pwr => s.devRead a off
  | .seq => s.seqRead n off
  | .tg => s.tgRead n off
  | .pgr => s.pgrRead off
  | .cu => s.capRead n off
  | .tia => s.tiaRead n off
  | .syn => s.synRead n off
  | .sched => s.schedRead off
  | .hic => s.hicRead off
  | .red => s.redRead off
  | .hart => s.hartPageRead n off
  | .flt => s.fltRead off
  | .dram => s.dramRead n off
  | .alloc => s.allocRead off
  | .fq => s.fqRead off
  | .fab => s.fabRead off
  | .hq => s.hqRead off
  | .time => s.timeRead off
  | .cal => s.calRead off
  | .part => s.partRead off
  | _ => none

/-- The value that a read of a window offset by an agent returns, before what the read does: 0 at a reserved offset (R35), the
shadow of a shadowed register or table (R45). -/
def State.peek (s : State) (a : Agent) (off : Nat) : Word :=
  match pageAt off with
  | none => if (tableAt off).isSome then s.tab off else 0
  | some (row, n, o) =>
    let p := row.base + 0x1000 * n
    if o = 0x04 then BitVec.ofNat 32 (capWord row.kind n (row.ordinal + n) s.dev.shadow.grade.toNat)
    else if o = 0x0C then s.statWord row.kind n p
    else if o = 0x20 ∨ o = 0x28 then s.reg (s.commitPage p + o)
    else if o < 0x40 then s.reg off
    else (s.pageRead a row.kind n off).getD (s.reg off)

/-- The offsets in their page of the registers that a read of the register at offset `o` latches for the same agent (R103, R252
and the register tables): the HI half of a coherent pair, and at DEC_DET_PKSTAMP_LO the two peaks as well. -/
def latchedWith (k : PageKind) (o : Nat) : List Nat :=
  let pair := fun (b : Bool) => if b then [o + 4] else []
  match k with
  | .dev => pair (o == 0x44)
  | .seq => pair (o == 0x84 || o == 0x8C || o == 0x94 || o == 0x9C || o == 0xA4)
  | .pgr => pair (decide (0x400 ≤ o) && decide (o < 0x800) && o % 0x40 == 8)
  | .cu => pair (o == 0x78 || (decide (0x418 ≤ o) && ((o - 0x418) % 0x30 == 0 || (o - 0x418) % 0x30 == 8 || (o - 0x418) % 0x30 == 16)))
  | .tia => pair (o == 0x40 || (decide (0x80 ≤ o) && decide (o < 0x280)
      && (o % 0x40 == 0x14 || o % 0x40 == 0x1C || o % 0x40 == 0x24 || o % 0x40 == 0x2C)))
  | .dec =>
    if decide (0x100 ≤ o) && decide (o < 0x900) then
      (if o % 0x100 = 0x70 then [o + 4, o - 8, o - 4] else pair (o % 0x100 == 0x54 || o % 0x100 == 0x78 || o % 0x100 == 0x90))
    else []
  | .syn => pair (o == 0x70 || o == 0x78 || (decide (0xA0 ≤ o) && decide (o < 0xC0) && o % 8 == 0))
  | .red => pair (o == 0x50 || (decide (0xC0 ≤ o) && decide (o < 0x100) && o % 8 == 0))
  | .hart => pair (o == 0x80 || o == 0x88 || o == 0x90)
  | .flt => pair (o == 0x58 || o == 0xA8)
  | .dram => pair (o == 0x50 || o == 0x58)
  | .dma => pair (decide (0x148 ≤ o) && (o - 0x148) % 0x80 == 0)
  | .fp => pair (o == 0x48)
  | .fab => pair (o == 0x4C || (decide (0x218 ≤ o) && decide (o < 0x418) && (o - 0x218) % 0x20 == 0))
  | .hostp => pair (o == 0xC4)
  | .time => pair (o == 0x50)
  | .part => pair (o == 0x74)
  | _ => []

/-- The registers that a read of LO latches take the value that they show in the same clock. -/
def State.latchPair (s : State) (a : Agent) (off : Nat) : State :=
  match pageAt off with
  | none => s
  | some (row, n, o) =>
    let p := row.base + 0x1000 * n
    (latchedWith row.kind o).foldl (fun t q => t.latch a (p + q) (s.peek a (p + q))) s

/-- The value from which a largest-value field restarts (R535): the level of the tracked quantity. -/
def State.present (s : State) (off : Nat) : Option Word :=
  match pageAt off with
  | none => none
  | some (row, n, o) =>
    let w := fun (x : Nat) => some (BitVec.ofNat 32 x)
    match row.kind with
    | .pwr => if off = R.PWR_TEMP_MAX then some (s.reg R.PWR_TEMP &&& 0xFFFF) else none
    | .pgr => if off = R.PGR_DRAM_MAX then w (s.fld F.PGR_DRAM_USED_FRAMES) else none
    | .vc => if 0x400 ≤ o ∧ (o - 0x400) % 0x20 = 8 then w (s.walker ((o - 0x400) / 0x20)).lines.length else none
    | .cu => if 0x400 ≤ o ∧ (o - 0x400) % 0x30 = 16 then w (s.flogLevel n ((o - 0x400) / 0x30)) else none
    | .trace =>
      if off = R.TRACE_S_MAX then
        w (ringLevel (s.reg R.TRACE_S_WR).toNat (s.reg R.TRACE_S_RD).toNat (s.fld F.TRACE_S_FRAMES_FRAMES * 65536))
      else if off = R.TRACE_P_MAX then
        w (ringLevel (s.reg R.TRACE_P_WR).toNat (s.reg R.TRACE_P_RD).toNat (s.fld F.TRACE_P_FRAMES_FRAMES * 65536))
      else none
    | .hart =>
      if off = R.HART_CNT_DEPTH_MAX n then
        w (s.sched.ready.filter (fun k => decide (k < 1024) && (s.task k).aff.testBit n)).length
      else none
    | .flt => if off = R.FLT_LOG_MAX then w s.logLevel else none
    | .alloc => if 0x80 ≤ o ∧ (o - 0x80) % 16 = 12 then w (s.fld (F.ALLOC_POOL_USED_VALUE ((o - 0x80) / 16))) else none
    | .fq => if 0x400 ≤ o ∧ (o - 0x400) % 0x40 = 8 then w (s.queue ((o - 0x400) / 0x40)).words.length else none
    | .fp => if off = R.FP_DETQ_MAX n then w (s.fport n).detq.length else none
    | .hq => if off = R.HQ_FW_MAX then w s.fwLevel else none
    | .time => if off = R.TIME_ES_MAX then w s.time.queue.length else none
    | _ => none

/-- A read of the fields of type RC at an offset (R37, R535): they are cleared, or restart. -/
def State.readClear (s : State) (off : Nat) : State :=
  match (pageAt off).bind (fun x => findRow x.1.kind x.2.2) with
  | none => s
  | some r =>
    if r.rc = 0 then s
    else if off = R.FLT_SRC_COUNT then
      { s with monel := { s.monel with count := sset 0 s.monel.count (s.fld F.FLT_SEL_SRC) 0 } }
    else
      let m := BitVec.ofNat 32 r.rc
      let v := (s.present off).getD (regReset off)
      s.setReg off ((s.reg off &&& ~~~m) ||| (v &&& m))

/-- A read of a bin-width word checks it (08): an injection fails the check, and the word reads as stored. -/
def State.binCheck (s : State) (off : Nat) : State :=
  match pageAt off with
  | some (row, n, o) =>
    if row.kind == .tia && decide (0x400 ≤ o) then
      match s.takeInj (P.TIA n) X.TIA_TBL_ECC with
      | (true, s) => s.faultInj (P.TIA n) X.TIA_TBL_ECC true
      | (false, s) => s
    else s
  | none => s

/-- A read of a register word by an agent: its value, and the state after it. The registers whose read takes an item are those
of the rows TIME_ES_HEAD_READ, FQ_POP, HIC_CLAIM and CAL_EXP_DATA_READ. -/
def State.readWord (s : State) (a : Agent) (off : Nat) : Word × State :=
  if off = R.TIME_ES_HEAD_LO then s.esHeadRead a
  else if R.FQ_Q_POP_LO 0 ≤ off ∧ off < P.FQ + 0xC00 ∧ (off - R.FQ_Q_POP_LO 0) % 0x40 = 0 then
    s.queuePop a ((off - R.FQ_Q_POP_LO 0) / 0x40) .clean
  else if R.HIC_T_CLAIM 0 ≤ off ∧ off ≤ R.HIC_T_CLAIM 9 ∧ (off - R.HIC_T_CLAIM 0) % 0x20 = 0 then
    s.hicClaim a ((off - R.HIC_T_CLAIM 0) / 0x20)
  else if off = R.CAL_EXP_DATA then ((s.exportRead .clean).lastRead.setWidth 32, s.exportRead .clean)
  else
    match s.latched a off with
    | some v => (v, { s with loLatch := serase s.loLatch (latchKey a off) })
    | none => (s.peek a off, ((s.latchPair a off).readClear off).binCheck off)

/-- A read by an agent, answered where the window responds (R43). -/
def State.readBy (s : State) (a : Agent) (off : Nat) : State :=
  if s.responds a then
    match s.readWord a off with
    | (v, s) => s.answer (v.setWidth 64)
  else s

/-- RC_READ (R37, R535). -/
def execRcRead (a : Agent) (off : BitVec 26) (s : State) : Host.Outcome State Fault Refusal :=
  done (s.readBy a (off.toNat / 4 * 4))

/-- COHERENT_LO_READ (R103). -/
def execCoherentLoRead (a : Agent) (off : BitVec 26) (s : State) : Host.Outcome State Fault Refusal :=
  done (s.readBy a (off.toNat / 4 * 4))

end Sys2Proof.Machine
end

