-- ==== Sys2Proof/Machine/RegWrite.lean ====
section
/-! DEFINITION. Writes of the register window: which rule a write of an offset falls under, tables, the rows of the common header,
the transfer of a shadow (R35 to R54). -/

namespace Sys2Proof.Machine

open Sys2Proof

/-- A write as the window takes it: the page that takes or rejects it, its access group, whether its width and alignment are
right, the rule of the register or table. -/
structure Access where
  page : Nat
  group : Nat
  align : Bool
  rule : WRule

/-! ### Registers -/

/-- What a change of xx_CTRL.ENABLE does (R38; assumption 13). -/
def enableEffect (k : PageKind) (n : Nat) (on : Bool) (s : State) : State :=
  match k with
  | .hart => s.hartEnable n on
  | .pgr => s.pgrEnable on
  | .fp => s.portGate n
  | .dram => s.dramEnable n on
  | _ => s

/-- A write of xx_CTRL of a page: a block reset of a SEQ or TG page is checked under R476. -/
def pageCtrlRule (a : Agent) (k : PageKind) (n p : Nat) (v : Word) (s : State) : WRule :=
  let reset := fun (s : State) => s.blockReset p
  let r := match k with
    | .hart => hartCtrlRule a n v reset
    | .pgr => pgrCtrlRule v reset s
    | _ => ctrlRule p v (enableEffect k n) reset
  if v.getLsbD 2 then { r with stateOk := r.stateOk && s.resetAllowed p } else r

/-- A write of xx_FLT_INJ: on the HOST page, injection raises the faults without a check (17). -/
def pageInjRule (k : PageKind) (p : Nat) (v : Word) : WRule :=
  if k == .hostp then
    { eff := fun s => ((List.range 32).filter (fun b => (v &&& injBits k).getLsbD b)).foldl (fun s b => s.faultInj p b true) s }
  else injRule k p v

/-- The rule of a write from offset 0x040 of a page on. -/
def pageRule (a : Agent) (k : PageKind) (n p off : Nat) (v : Word) (s : State) : WRule :=
  match k with
  | .dev => devRule a off v s
  | .fuse => ignored
  | .clk => ignored
  | .rst => rstRule off v
  | .pwr => pwrRule off v s
  | .seq => seqRule n off v s
  | .tg => tgRule n off v s
  | .pgr => pgrRule off v s
  | .vc => vcRule off v s
  | .cu => capRule State.recomputeOwners n off v s
  | .tia => tiaRule n off v s
  | .dec => decRule n off v s
  | .syn => synRule n off v s
  | .sched => schedRule off v s
  | .hic => hicRule a off v s
  | .trace => tracePageRule off v s
  | .red => redRule off v s
  | .hart => hartRule a n off v s
  | .flt => fltPageRule a off v s
  | .dram => dramRule a n off v s
  | .alloc => allocRule a off v s
  | .dma => dmaRule a n off v s
  | .fq => fqRule a off v s
  | .fp => fpRule n off v s
  | .fab => fabRule off v s
  | .hostp => hostRule a off v s
  | .hq => hqRule a off v s
  | .time => timeRule off v s
  | .cal => calRule a off v s
  | .part => partRule a off v s
  | .mc => if off < p + 0x400 then mcRule a off v s else ignored

/-- The rule of a write of a register. -/
def registerRule (a : Agent) (k : PageKind) (n p off : Nat) (v : Word) (s : State) : WRule :=
  if off = R.xx_CTRL p then pageCtrlRule a k n p v s
  else if off = R.xx_FLT_INJ p then pageInjRule k p v
  else if off < p + 0x40 then headerRule a k p off v s (fun _ s => s) (fun s => s)
  else pageRule a k n p off v s

/-! ### Tables (R53, R54) -/

/-- The lower word of an entry that an agent has written and that awaits its upper word (R54). -/
def State.lowerWord (s : State) (a : Agent) : Option (Nat × Word) := (s.tabLatch.find? (fun e => e.1 == a.ident)).map Prod.snd

/-- An agent's write to the tables ends the wait of its lower word (R54; assumption 26). -/
def State.dropLower (s : State) (a : Agent) : State := { s with tabLatch := serase s.tabLatch a.ident }

/-- A shadowed table word is stored and counted (R45, R54). -/
def State.storeTab (s : State) (p off : Nat) (v : Word) : State := (s.setTab off v).shadowWritten p

/-- The bits of a word of a waveform entry that are kept (R141). -/
def waveMask (w : Nat) : Word := if w < 4 then 0xE0FFFFFF else if w < 6 then 0xCFFFFFFF else 0x00FFFFFF

/-- A word of a waveform entry is in range (R141, R142). -/
def waveOk (w : Nat) (v : Word) : Bool :=
  decide (v.toNat % 2 ^ 24 ≤ 16777213) && (decide (w < 4) || decide (6 ≤ w) || decide (bitsOf v.toNat 27 24 ≤ 4))

/-- The bits of a word of a timing-set descriptor that are kept (R140). -/
def descMask (w : Nat) : Word := if w = 0 then 0xFFFF else if w = 3 then 0 else 0x01FFFFFF

/-- The shortest period of the part's grade, in ps (R3, R138). -/
def State.periodMin (s : State) : Nat := if s.dev.shadow.grade = 2 then 625 else 500

/-- A write of a list of synthesis channel `n` (R54, R259): whole as 64 bits, or the lower word and then the upper one. -/
def synListRule (a : Agent) (n off : Nat) (wide : Bool) (v : BitVec 64) (s : State) : WRule :=
  let list := (off - 0x1900000) % 0x20000 / 0x8000
  let lo := v.setWidth 32
  let up := (v >>> 32).setWidth 32
  let p := P.SYN n
  if wide then
    { rangeOk := synListOk list true up
      eff := fun s => (s.setTab off (lo &&& synListMask list false)).storeTab p (off + 4) (up &&& synListMask list true) }
  else if off % 8 = 0 then
    { eff := fun s => { s.shadowWritten p with tabLatch := (a.ident, off, lo) :: (s.shadowWritten p).tabLatch } }
  else
    let low := s.lowerWord a
    { orderOk := low.any (fun e => e.1 + 4 == off)
      rangeOk := synListOk list true lo
      eff := fun s =>
        let l := (low.map Prod.snd).getD 0
        (s.setTab (off - 4) (l &&& synListMask list false)).storeTab p off (lo &&& synListMask list true) }

/-- The rule of a 32-bit write of a table word. -/
def tableWordRule (k : TableKind) (n off : Nat) (v : Word) (s : State) : WRule :=
  let p := k.page n
  match k with
  | .waveform =>
    let w := off / 4 % 8
    { rangeOk := waveOk w v, eff := fun s => s.storeTab p off (v &&& waveMask w) }
  | .descriptor => { eff := fun s => s.storeTab p off (v &&& descMask (off / 4 % 4)) }
  | .period =>
    { rangeOk := decide (s.periodMin ≤ v.toNat % 2 ^ 23), eff := fun s => s.storeTab p off (v &&& 0x7FFFFF) }
  | .openRegion => { stateOk := s.drained n, eff := fun s => s.setTab off v }
  | .synList => ignored
  | .segment => { rangeOk := segWordOk (off / 4 % 4) v, eff := fun s => s.storeTab p off v }
  | .coef => coefRule n ((off - 0x1B00000) % 0x2000) v s

/-- A write of a table by an agent: 64 bits wide only at the 8-byte entries of the synthesis lists (R54). -/
def tableAccess (a : Agent) (k : TableKind) (n off : Nat) (wide : Bool) (v : BitVec 64) (s : State) : Access :=
  let r := if k == .synList then synListRule a n off wide v s else tableWordRule k n off (v.setWidth 32) s
  { page := k.page n
    group := tableGroup k
    align := off % (if wide then 8 else 4) == 0 && (!wide || k == .synList)
    rule := { r with
      eff := fun s => r.eff (s.dropLower a)
      refused := fun e s => (r.refused e s).dropLower a } }

/-! ### The window -/

/-- The offset is reserved (R35). -/
def reservedOffset (off : Nat) : Bool := (pageAt off).isNone && (tableAt off).isNone

/-- How the window takes a write of 32 bits, or of 64 where `wide`: `full` says that all byte enables are carried. None at an offset
that no register and no table holds. -/
def State.access (s : State) (a : Agent) (off : Nat) (full wide : Bool) (v : BitVec 64) : Option Access :=
  match pageAt off with
  | some (row, n, o) =>
    let p := row.base + 0x1000 * n
    if (findRow row.kind (o / 4 * 4)).isNone then none
    else some {
      page := p
      group := pageGroup row.kind
      align := full && !wide && off % 4 == 0
      rule := registerRule a row.kind n p off (v.setWidth 32) s }
  | none =>
    match tableAt off with
    | some (k, n) =>
      let x := tableAccess a k n off wide v s
      some { x with align := x.align && full }
    | none => none

/-- Why the window would reject a write. -/
def State.windowReason (s : State) (a : Agent) (off : Nat) (full wide : Bool) (v : BitVec 64) : Option Reason :=
  (s.access a off full wide v).bind (fun x => s.writeReason a x.group x.page x.align x.rule)

/-- A write of the window, which responds: a reserved offset drops it with a crossbar fault (R35). -/
def State.windowWrite (s : State) (a : Agent) (off : Nat) (full wide : Bool) (v : BitVec 64) : State :=
  match s.access a off full wide v with
  | some x => s.checkedWrite a x.group x.page off x.align x.rule
  | none => if reservedOffset off then s.devFault srcXbarCe false else s

/-- A write of the window by an agent, taken where the window responds. -/
def State.writeWindow (s : State) (a : Agent) (off : Nat) (full wide : Bool) (v : BitVec 64) : State :=
  if s.responds a then s.windowWrite a off full wide v else s

/-- A whole 32-bit write of a register. -/
def State.writeReg (s : State) (a : Agent) (off : Nat) (v : Word) : State := s.writeWindow a off true false (v.setWidth 64)

/-! ### Commands -/

/-- REGISTER_WRITE (R36, R40). -/
def execRegisterWrite (a : Agent) (off : BitVec 26) (be : BitVec 4) (v : Word) (s : State) : Host.Outcome State Fault Refusal :=
  done (s.writeWindow a off.toNat (be == 0xF) false (v.setWidth 64))

/-- RESERVED_WRITE (R35). -/
def execReservedWrite (a : Agent) (off : BitVec 26) (v : Word) (s : State) : Host.Outcome State Fault Refusal :=
  done (s.writeReg a off.toNat v)

/-- BLOCK_RESET (R52): BLOCK_RESET is written with the other bits of xx_CTRL as they are. -/
def execBlockReset (a : Agent) (page : Fin 115) (s : State) : Host.Outcome State Fault Refusal :=
  done (match pageOfOrdinal page.val with
    | none => s
    | some p => s.writeReg a (R.xx_CTRL p) ((s.reg (R.xx_CTRL p) &&& 0xB) ||| 4))

/-- FAULT_INJECT (R39). -/
def execFaultInject (a : Agent) (page : Fin 115) (bits : Word) (s : State) : Host.Outcome State Fault Refusal :=
  done (match pageOfOrdinal page.val with
    | none => s
    | some p => s.writeReg a (R.xx_FLT_INJ p) bits)

/-- OWNER_WRITE (R58). -/
def execOwnerWrite (a : Agent) (page : Fin 115) (v : Word) (s : State) : Host.Outcome State Fault Refusal :=
  done (match pageOfOrdinal page.val with
    | none => s
    | some p => s.writeReg a (R.xx_OWNER p) v)

/-- SHADOW_WRITE (R45, R49). -/
def execShadowWrite (a : Agent) (off : BitVec 26) (v : Word) (s : State) : Host.Outcome State Fault Refusal :=
  done (s.writeReg a off.toNat v)

/-- TABLE_WRITE (R53, R54). -/
def execTableWrite (a : Agent) (off : BitVec 26) (wide : Bool) (v : BitVec 64) (s : State) : Host.Outcome State Fault Refusal :=
  done (s.writeWindow a off.toNat true wide v)

/-- COMMIT_REQUEST (R46). -/
def execCommitRequest (a : Agent) (page : Fin 115) (expect : Word) (s : State) : Host.Outcome State Fault Refusal :=
  done (match pageOfOrdinal page.val with
    | none => s
    | some p => s.writeReg a (R.xx_COMMIT p) expect)

/-! ### The transfer of a shadow (R45, R48, R51) -/

/-- An offset of the table of a kind and an owner. -/
def inTable (k : TableKind) (n off : Nat) : Bool := tableAt off == some (k, n)

/-- The transfer of SEQn (R101). -/
def State.seqTransfer (s : State) (n : Nat) : State :=
  if s.commitReady (P.SEQ n) then
    (((s.copyShadow (P.SEQ n) (inTable .period n)).transferred (P.SEQ n)).setFlag (F.xx_STAT_SHADOW_DIRTY (P.SEQ n)) false).startMoved n
  else s

/-- The transfer of the gang whose first timing group is TGg: the tables of every member (R51, R169). -/
def State.tgTransfer (s : State) (g : Nat) : State :=
  if s.commitReady (P.TG g) then
    let s := (s.gangGroups g).foldl (fun s t =>
      let s := s.copyShadow (P.TG t) (fun o => inTable .waveform t o || inTable .descriptor t o)
      (s.setFlag (F.xx_STAT_SHADOW_DIRTY (P.TG t)) false).event (P.TG t) E.TG_XFER) s
    s.transferred (P.TG g)
  else s

/-- The transfer of a DEC page at the boundary of `now`: the first of any channel that forms samples, or at once (R248). -/
def State.decMove (s : State) (n : Nat) (now : Nat → Bool) : State :=
  let forming := ((List.range 8).map (fun k => 8 * n + k)).filter s.decForms
  if s.commitReady (P.DEC n) && (forming.isEmpty || forming.any now) then s.decTransfer n now else s

/-- SHADOW_TRANSFER (R45, R48): the commit point of a page has come; `channels` are the channels of a DEC page at their output-sample
boundary. -/
def execShadowTransfer (page : Fin 115) (channels : BitVec 8) (s : State) : Host.Outcome State Fault Refusal :=
  done (match pageOfOrdinal page.val with
    | none => s
    | some p =>
      match pageKind? p with
      | some .seq => s.seqTransfer (pageNo p)
      | some .tg => s.tgTransfer (s.gangOf (pageNo p))
      | some .dec => s.decMove (pageNo p) (fun c => channels.getLsbD (c % 8))
      | some .syn => s.synCommit (pageNo p)
      | _ => s)

end Sys2Proof.Machine
end

