-- ==== Sys2Proof/Machine/Rv.lean ====
section
/-! DEFINITION. The instruction set of the harts (RV64IMAC with Zicsr, Zifencei and Zicbom, R274) and of MGMT (RV32IMC): the
instructions, their encodings, and their arithmetic. The manual names the RISC-V extensions and does not repeat their rules;
the encodings and the arithmetic are those of the RISC-V specifications (PRESUMED, assumption 28). -/

namespace Sys2Proof.Machine

open Sys2Proof

/-- The arithmetic operations of I and M. -/
inductive Alu where
  | add | sub | sll | slt | sltu | xor | srl | sra | or | and | mul | mulh | mulhsu | mulhu | div | divu | rem | remu
  deriving DecidableEq, Repr

/-- The operations of the atomic memory instructions. -/
inductive Amo where
  | swap | add | xor | and | or | min | max | minu | maxu
  deriving DecidableEq, Repr

/-- The operations on a CSR. -/
inductive CsrOp where
  | write | set | clear
  deriving DecidableEq, Repr

/-- The operations on a cache block (Zicbom). -/
inductive Cbo where
  | clean | flush | inval
  deriving DecidableEq, Repr

/-- The instructions. Registers are numbers 0 to 31, sizes the logarithm of the bytes; `w` marks the operations on words. -/
inductive Rv where
  | lui (rd : Nat) (imm : BitVec 64)
  | auipc (rd : Nat) (imm : BitVec 64)
  | jal (rd : Nat) (off : BitVec 64)
  | jalr (rd rs1 : Nat) (off : BitVec 64)
  | branch (f3 rs1 rs2 : Nat) (off : BitVec 64)
  | load (rd rs1 : Nat) (off : BitVec 64) (size : Nat) (signed : Bool)
  | store (rs2 rs1 : Nat) (off : BitVec 64) (size : Nat)
  | alui (w : Bool) (op : Alu) (rd rs1 : Nat) (imm : BitVec 64)
  | alu (w : Bool) (op : Alu) (rd rs1 rs2 : Nat)
  | fence
  | fenceI
  | ecall
  | ebreak
  | mret
  | wfi
  | csr (op : CsrOp) (rd : Nat) (imm : Bool) (src addr : Nat)
  | lr (rd rs1 size : Nat)
  | sc (rd rs1 rs2 size : Nat)
  | amo (op : Amo) (rd rs1 rs2 size : Nat)
  | cbo (op : Cbo) (rs1 : Nat)
  deriving DecidableEq, Repr

/-! ### Encodings -/

/-- The low `w` bits of `n`, sign-extended. -/
def sx (w n : Nat) : BitVec 64 := (BitVec.ofNat w n).signExtend 64

/-- The operation of a register-register instruction with FUNCT7 0, by FUNCT3. -/
def aluOfF3 (f3 : Nat) : Alu :=
  match f3 with
  | 0 => .add | 1 => .sll | 2 => .slt | 3 => .sltu | 4 => .xor | 5 => .srl | 6 => .or | _ => .and

/-- The operation of M, by FUNCT3. -/
def mulOfF3 (f3 : Nat) : Alu :=
  match f3 with
  | 0 => .mul | 1 => .mulh | 2 => .mulhsu | 3 => .mulhu | 4 => .div | 5 => .divu | 6 => .rem | _ => .remu

/-- The operation of a register-register instruction of OP. -/
def opOf (f7 f3 : Nat) : Option Alu :=
  if f7 = 0 then some (aluOfF3 f3)
  else if f7 = 1 then some (mulOfF3 f3)
  else if f7 = 0x20 ∧ f3 = 0 then some .sub
  else if f7 = 0x20 ∧ f3 = 5 then some .sra
  else none

/-- The operation of a register-register instruction of OP-32. -/
def opwOf (f7 f3 : Nat) : Option Alu :=
  match opOf f7 f3 with
  | some .slt | some .sltu | some .xor | some .or | some .and | some .mulh | some .mulhsu | some .mulhu => none
  | x => x

/-- The shift of a shift-immediate instruction whose bits above the shift amount are `hi` (bit 30 of the instruction is `a`). -/
def shiftOf (f3 hi a : Nat) : Option Alu :=
  if f3 = 1 ∧ hi = 0 then some .sll
  else if f3 = 5 ∧ hi = 0 then some .srl
  else if f3 = 5 ∧ hi = a then some .sra
  else none

/-- The atomic operation of FUNCT5. -/
def amoOf (f5 : Nat) : Option Amo :=
  match f5 with
  | 1 => some .swap | 0 => some .add | 4 => some .xor | 0xC => some .and | 8 => some .or | 0x10 => some .min
  | 0x14 => some .max | 0x18 => some .minu | 0x1C => some .maxu | _ => none

/-- The offset of a branch. -/
def immB (v : Nat) : BitVec 64 :=
  sx 13 (bitsOf v 31 31 * 4096 + bitsOf v 7 7 * 2048 + bitsOf v 30 25 * 32 + bitsOf v 11 8 * 2)

/-- The offset of JAL. -/
def immJ (v : Nat) : BitVec 64 :=
  sx 21 (bitsOf v 31 31 * 2 ^ 20 + bitsOf v 19 12 * 4096 + bitsOf v 20 20 * 2048 + bitsOf v 30 21 * 2)

/-- An instruction of SYSTEM. -/
def decodeSystem (v : Nat) : Option Rv :=
  let rd := bitsOf v 11 7
  let f3 := bitsOf v 14 12
  let src := bitsOf v 19 15
  let addr := bitsOf v 31 20
  match f3 with
  | 0 =>
    if v = 0x73 then some .ecall
    else if v = 0x100073 then some .ebreak
    else if v = 0x30200073 then some .mret
    else if v = 0x10500073 then some .wfi
    else none
  | 1 => some (.csr .write rd false src addr)
  | 2 => some (.csr .set rd false src addr)
  | 3 => some (.csr .clear rd false src addr)
  | 5 => some (.csr .write rd true src addr)
  | 6 => some (.csr .set rd true src addr)
  | 7 => some (.csr .clear rd true src addr)
  | _ => none

/-- An instruction of MISC-MEM. -/
def decodeFence (rv32 : Bool) (v : Nat) : Option Rv :=
  match bitsOf v 14 12 with
  | 0 => some .fence
  | 1 => if rv32 then none else some .fenceI
  | 2 =>
    if rv32 || bitsOf v 11 7 != 0 then none
    else
      match bitsOf v 31 20 with
      | 0 => some (.cbo .inval (bitsOf v 19 15))
      | 1 => some (.cbo .clean (bitsOf v 19 15))
      | 2 => some (.cbo .flush (bitsOf v 19 15))
      | _ => none
  | _ => none

/-- An instruction of AMO. -/
def decodeAmo (v : Nat) : Option Rv :=
  let rd := bitsOf v 11 7
  let size := bitsOf v 14 12
  let rs1 := bitsOf v 19 15
  let rs2 := bitsOf v 24 20
  let f5 := bitsOf v 31 27
  if size != 2 && size != 3 then none
  else if f5 = 2 then (if rs2 = 0 then some (.lr rd rs1 size) else none)
  else if f5 = 3 then some (.sc rd rs1 rs2 size)
  else (amoOf f5).map (fun op => .amo op rd rs1 rs2 size)

/-- An instruction of OP-IMM or of OP-IMM-32. -/
def decodeImm (rv32 w : Bool) (v : Nat) : Option Rv :=
  let rd := bitsOf v 11 7
  let f3 := bitsOf v 14 12
  let rs1 := bitsOf v 19 15
  if f3 = 1 ∨ f3 = 5 then
    if rv32 || w then (shiftOf f3 (bitsOf v 31 25) 0x20).map (fun op => .alui w op rd rs1 (BitVec.ofNat 64 (bitsOf v 24 20)))
    else (shiftOf f3 (bitsOf v 31 26) 0x10).map (fun op => .alui w op rd rs1 (BitVec.ofNat 64 (bitsOf v 25 20)))
  else if w && f3 != 0 then none
  else some (.alui w (aluOfF3 f3) rd rs1 (sx 12 (bitsOf v 31 20)))

/-- An instruction of 32 bits, for RV32 or RV64. -/
def decode32 (rv32 : Bool) (v : Nat) : Option Rv :=
  let rd := bitsOf v 11 7
  let f3 := bitsOf v 14 12
  let rs1 := bitsOf v 19 15
  let rs2 := bitsOf v 24 20
  let f7 := bitsOf v 31 25
  match bitsOf v 6 0 with
  | 0x37 => some (.lui rd (sx 32 (v / 4096 * 4096)))
  | 0x17 => some (.auipc rd (sx 32 (v / 4096 * 4096)))
  | 0x6F => some (.jal rd (immJ v))
  | 0x67 => if f3 = 0 then some (.jalr rd rs1 (sx 12 (bitsOf v 31 20))) else none
  | 0x63 => if f3 = 2 ∨ f3 = 3 then none else some (.branch f3 rs1 rs2 (immB v))
  | 0x03 =>
    if f3 = 7 ∨ (rv32 ∧ (f3 = 3 ∨ f3 = 6)) then none
    else some (.load rd rs1 (sx 12 (bitsOf v 31 20)) (f3 % 4) (decide (f3 < 4)))
  | 0x23 =>
    if 4 ≤ f3 ∨ (rv32 ∧ f3 = 3) then none else some (.store rs2 rs1 (sx 12 (f7 * 32 + rd)) f3)
  | 0x13 => decodeImm rv32 false v
  | 0x1B => if rv32 then none else decodeImm rv32 true v
  | 0x33 => (opOf f7 f3).map (fun op => .alu false op rd rs1 rs2)
  | 0x3B => if rv32 then none else (opwOf f7 f3).map (fun op => .alu true op rd rs1 rs2)
  | 0x0F => decodeFence rv32 v
  | 0x2F => if rv32 then none else decodeAmo v
  | 0x73 => decodeSystem v
  | _ => none

/-- The offset of C.J and C.JAL. -/
def immCJ (v : Nat) : BitVec 64 :=
  sx 12 (bitsOf v 12 12 * 2048 + bitsOf v 11 11 * 16 + bitsOf v 10 9 * 256 + bitsOf v 8 8 * 1024 + bitsOf v 7 7 * 64
    + bitsOf v 6 6 * 128 + bitsOf v 5 3 * 2 + bitsOf v 2 2 * 32)

/-- The offset of C.BEQZ and C.BNEZ. -/
def immCB (v : Nat) : BitVec 64 :=
  sx 9 (bitsOf v 12 12 * 256 + bitsOf v 11 10 * 8 + bitsOf v 6 5 * 64 + bitsOf v 4 3 * 2 + bitsOf v 2 2 * 32)

/-- Compressed instructions of quadrant 0. -/
def decodeC0 (rv32 : Bool) (v : Nat) : Option Rv :=
  let rd := 8 + bitsOf v 4 2
  let rs1 := 8 + bitsOf v 9 7
  let offW := BitVec.ofNat 64 (bitsOf v 12 10 * 8 + bitsOf v 6 6 * 4 + bitsOf v 5 5 * 64)
  let offD := BitVec.ofNat 64 (bitsOf v 12 10 * 8 + bitsOf v 6 5 * 64)
  match bitsOf v 15 13 with
  | 0 =>
    let imm := bitsOf v 12 11 * 16 + bitsOf v 10 7 * 64 + bitsOf v 6 6 * 4 + bitsOf v 5 5 * 8
    if imm = 0 then none else some (.alui false .add rd 2 (BitVec.ofNat 64 imm))
  | 2 => some (.load rd rs1 offW 2 true)
  | 3 => if rv32 then none else some (.load rd rs1 offD 3 true)
  | 6 => some (.store rd rs1 offW 2)
  | 7 => if rv32 then none else some (.store rd rs1 offD 3)
  | _ => none

/-- The arithmetic of quadrant 1. -/
def decodeC1Arith (rv32 : Bool) (v : Nat) : Option Rv :=
  let rd := 8 + bitsOf v 9 7
  let rs2 := 8 + bitsOf v 4 2
  let imm := bitsOf v 12 12 * 32 + bitsOf v 6 2
  let far := rv32 && decide (32 ≤ imm)
  match bitsOf v 11 10 with
  | 0 => if far then none else some (.alui false .srl rd rd (BitVec.ofNat 64 imm))
  | 1 => if far then none else some (.alui false .sra rd rd (BitVec.ofNat 64 imm))
  | 2 => some (.alui false .and rd rd (sx 6 imm))
  | _ =>
    if bitsOf v 12 12 = 0 then
      match bitsOf v 6 5 with
      | 0 => some (.alu false .sub rd rd rs2)
      | 1 => some (.alu false .xor rd rd rs2)
      | 2 => some (.alu false .or rd rd rs2)
      | _ => some (.alu false .and rd rd rs2)
    else if rv32 then none
    else
      match bitsOf v 6 5 with
      | 0 => some (.alu true .sub rd rd rs2)
      | 1 => some (.alu true .add rd rd rs2)
      | _ => none

/-- Compressed instructions of quadrant 1. -/
def decodeC1 (rv32 : Bool) (v : Nat) : Option Rv :=
  let rd := bitsOf v 11 7
  let imm := sx 6 (bitsOf v 12 12 * 32 + bitsOf v 6 2)
  match bitsOf v 15 13 with
  | 0 => some (.alui false .add rd rd imm)
  | 1 => if rv32 then some (.jal 1 (immCJ v)) else if rd = 0 then none else some (.alui true .add rd rd imm)
  | 2 => some (.alui false .add rd 0 imm)
  | 3 =>
    if rd = 2 then
      let n := bitsOf v 12 12 * 512 + bitsOf v 6 6 * 16 + bitsOf v 5 5 * 64 + bitsOf v 4 3 * 128 + bitsOf v 2 2 * 32
      if n = 0 then none else some (.alui false .add 2 2 (sx 10 n))
    else if imm = 0 then none
    else some (.lui rd (imm <<< 12))
  | 4 => decodeC1Arith rv32 v
  | 5 => some (.jal 0 (immCJ v))
  | 6 => some (.branch 0 (8 + bitsOf v 9 7) 0 (immCB v))
  | _ => some (.branch 1 (8 + bitsOf v 9 7) 0 (immCB v))

/-- Compressed instructions of quadrant 2. -/
def decodeC2 (rv32 : Bool) (v : Nat) : Option Rv :=
  let rd := bitsOf v 11 7
  let rs2 := bitsOf v 6 2
  match bitsOf v 15 13 with
  | 0 =>
    let n := bitsOf v 12 12 * 32 + rs2
    if rv32 && decide (32 ≤ n) then none else some (.alui false .sll rd rd (BitVec.ofNat 64 n))
  | 2 =>
    if rd = 0 then none
    else some (.load rd 2 (BitVec.ofNat 64 (bitsOf v 12 12 * 32 + bitsOf v 6 4 * 4 + bitsOf v 3 2 * 64)) 2 true)
  | 3 =>
    if rd = 0 ∨ rv32 then none
    else some (.load rd 2 (BitVec.ofNat 64 (bitsOf v 12 12 * 32 + bitsOf v 6 5 * 8 + bitsOf v 4 2 * 64)) 3 true)
  | 4 =>
    if bitsOf v 12 12 = 0 then
      (if rs2 = 0 then (if rd = 0 then none else some (.jalr 0 rd 0)) else some (.alu false .add rd 0 rs2))
    else if rs2 = 0 then some (if rd = 0 then .ebreak else .jalr 1 rd 0)
    else some (.alu false .add rd rd rs2)
  | 6 => some (.store rs2 2 (BitVec.ofNat 64 (bitsOf v 12 9 * 4 + bitsOf v 8 7 * 64)) 2)
  | 7 => if rv32 then none else some (.store rs2 2 (BitVec.ofNat 64 (bitsOf v 12 10 * 8 + bitsOf v 9 7 * 64)) 3)
  | _ => none

/-- The bytes of an instruction whose first half word is `v`. -/
def rvLen (v : Nat) : Nat := if v % 4 = 3 then 4 else 2

/-- An instruction, by its bits: 16 where the two lowest are not both 1. -/
def decodeRv (rv32 : Bool) (v : Nat) : Option Rv :=
  match v % 4 with
  | 0 => decodeC0 rv32 v
  | 1 => decodeC1 rv32 v
  | 2 => decodeC2 rv32 v
  | _ => decode32 rv32 v

/-! ### Arithmetic -/

/-- An operation on operands of `n` bits. -/
def Alu.eval {n : Nat} (op : Alu) (a b : BitVec n) : BitVec n :=
  match op with
  | .add => a + b
  | .sub => a - b
  | .sll => a <<< (b.toNat % n)
  | .slt => BitVec.ofNat n (if a.slt b then 1 else 0)
  | .sltu => BitVec.ofNat n (if a.ult b then 1 else 0)
  | .xor => a ^^^ b
  | .srl => a >>> (b.toNat % n)
  | .sra => a.sshiftRight (b.toNat % n)
  | .or => a ||| b
  | .and => a &&& b
  | .mul => a * b
  | .mulh => BitVec.ofInt n (a.toInt * b.toInt / 2 ^ n)
  | .mulhsu => BitVec.ofInt n (a.toInt * (b.toNat : Int) / 2 ^ n)
  | .mulhu => BitVec.ofNat n (a.toNat * b.toNat / 2 ^ n)
  | .div => if b = 0 then BitVec.ofInt n (-1) else BitVec.ofInt n (a.toInt.tdiv b.toInt)
  | .divu => if b = 0 then BitVec.ofInt n (-1) else BitVec.ofNat n (a.toNat / b.toNat)
  | .rem => if b = 0 then a else BitVec.ofInt n (a.toInt.tmod b.toInt)
  | .remu => if b = 0 then a else BitVec.ofNat n (a.toNat % b.toNat)

/-- An operation on register values: on their low words, sign-extended, where `w`. -/
def aluRun (w : Bool) (op : Alu) (a b : BitVec 64) : BitVec 64 :=
  if w then (op.eval (a.setWidth 32) (b.setWidth 32)).signExtend 64 else op.eval a b

/-- Whether a branch is taken, by FUNCT3. -/
def branchTaken (f3 : Nat) (a b : BitVec 64) : Bool :=
  match f3 with
  | 0 => a == b
  | 1 => a != b
  | 4 => a.slt b
  | 5 => !a.slt b
  | 6 => a.ult b
  | _ => !a.ult b

/-- What an atomic instruction stores over the value `a`. -/
def Amo.eval {n : Nat} (op : Amo) (a b : BitVec n) : BitVec n :=
  match op with
  | .swap => b
  | .add => a + b
  | .xor => a ^^^ b
  | .and => a &&& b
  | .or => a ||| b
  | .min => if a.slt b then a else b
  | .max => if a.slt b then b else a
  | .minu => if a.ult b then a else b
  | .maxu => if a.ult b then b else a

end Sys2Proof.Machine
end

