-- ==== Sys2Proof/Machine/Cache.lean ====
section
/-! DEFINITION. The harts' physical map, physical memory protection and caches, and the accesses that go through them (R274 to
R276, R280 to R284). -/

namespace Sys2Proof.Machine

open Sys2Proof

/-- Where an address of the hart map lies (R275): the register window, local DRAM through the caches, its uncached alias. -/
inductive Place where
  | window (off : Nat)
  | cached (a : Nat)
  | uncached (a : Nat)
  | none
  deriving DecidableEq, Repr

/-- The hart physical map (R275). -/
def placeOf (a : Nat) : Place :=
  if 0x40000000 ≤ a ∧ a < 0x44000000 then .window (a - 0x40000000)
  else if 0x8000000000 ≤ a ∧ a < 0x10000000000 then .cached (a - 0x8000000000)
  else if 0x10000000000 ≤ a ∧ a < 0x18000000000 then .uncached (a - 0x10000000000)
  else .none

/-- The exception codes of RISC-V. -/
abbrev exFetch : Nat := 1
abbrev exIllegal : Nat := 2
abbrev exBreak : Nat := 3
abbrev exLoadAlign : Nat := 4
abbrev exLoad : Nat := 5
abbrev exStoreAlign : Nat := 6
abbrev exStore : Nat := 7
abbrev exEcallU : Nat := 8
abbrev exEcallM : Nat := 11

/-! ### Physical memory protection (R274) -/

/-- The address-matching mode of a PMP entry: 0 OFF, 1 TOR, 3 NAPOT. -/
def Hart.pmpMode (x : Hart) (i : Nat) : Nat := bitsOf (sget 0 x.pmpcfg i).toNat 4 3

/-- The number of bits 1 at the low end of `v`, at most `n`. -/
def trailingOnes : Nat → Nat → Nat
  | 0, _ => 0
  | n + 1, v => if v % 2 = 1 then 1 + trailingOnes n (v / 2) else 0

/-- The addresses that entry `i` matches, from and up to, with a granularity of 4 KiB. -/
def Hart.pmpRange (x : Hart) (i : Nat) : Nat × Nat :=
  let hi := (sget 0 x.pmpaddr i).toNat
  match x.pmpMode i with
  | 1 =>
    let lo := if i = 0 then 0 else (sget 0 x.pmpaddr (i - 1)).toNat
    (lo / 1024 * 4096, hi / 1024 * 4096)
  | 3 =>
    let k := trailingOnes 54 (hi / 512 * 512 + 511)
    let lo := hi / 2 ^ (k + 1) * 2 ^ (k + 3)
    (lo, lo + 2 ^ (k + 3))
  | _ => (0, 0)

/-- The first PMP entry that matches an address. -/
def Hart.pmpEntry (x : Hart) (a : Nat) : Option Nat :=
  (List.range 16).find? (fun i => decide ((x.pmpRange i).1 ≤ a) && decide (a < (x.pmpRange i).2))

/-- Whether the PMP permits an access of a kind (0 read, 1 write, 2 execute) in a mode. -/
def Hart.pmpPermits (x : Hart) (machine : Bool) (kind a : Nat) : Bool :=
  match x.pmpEntry a with
  | none => machine
  | some i =>
    let c := sget 0 x.pmpcfg i
    (machine && !c.getLsbD 7) || c.getLsbD kind

/-- The mode that governs loads and stores: MPP where MPRV is set. -/
def Hart.dataMode (x : Hart) : Bool :=
  if x.machine && x.mstatus.getLsbD 17 then x.mstatus.getLsbD 11 else x.machine

/-- Whether the PMP permits a data access to `n` bytes. -/
def Hart.permits (x : Hart) (kind a n : Nat) : Bool :=
  (List.range n).all (fun i => x.pmpPermits x.dataMode kind (a + i))

/-! ### Cache lines (R280 to R284) -/

/-- The line of a block in a cache. -/
def lineOf (l : List Line) (b : Nat) : Option Line := l.find? (fun x => x.addr == b)

/-- A cache without a block. -/
def lineDrop (l : List Line) (b : Nat) : List Line := l.filter (fun x => x.addr != b)

/-- A cache with a line, which replaces the line of its block. -/
def linePut (l : List Line) (x : Line) : List Line := x :: lineDrop l x.addr

/-- L2 is replaced. -/
def State.setL2 (s : State) (l : List Line) : State := { s with cpu := { s.cpu with l2 := l } }

/-- The L1D of a hart is replaced. -/
def State.setL1 (s : State) (h : Nat) (l : List Line) : State := s.setHart h { s.hart h with l1 := l }

/-- Dirty copies of a block in any L1D go to L2 and stay there clean (R280). -/
def State.snoop (s : State) (b : Nat) : State :=
  (List.range 8).foldl (fun s g =>
    match lineOf (s.hart g).l1 b with
    | some x =>
      if x.dirty then
        (s.setL2 (linePut s.cpu.l2 x)).setL1 g (linePut (s.hart g).l1 { x with dirty := false })
      else s
    | none => s) s

/-- A DRAM access of the harts: a channel in idle self-refresh leaves it (R396). -/
def State.reachDram (s : State) (a : Nat) : State := s.srExit (s.dramPlace a).1

/-- A block of L2 is written to DRAM and stays clean. The mark tells whether DRAM took it (R390). -/
def State.cleanL2 (s : State) (b : Nat) : Bool × State :=
  match lineOf s.cpu.l2 b with
  | some x =>
    if x.dirty then
      let s := s.setL2 (linePut s.cpu.l2 { x with dirty := false })
      let s := s.reachDram (64 * b)
      if s.chanDown (64 * b) then (false, s) else (true, s.setMem (64 * b) x.bytes)
    else (true, s)
  | none => (true, s)

/-- A block leaves every L1D and L2, dirty or not. -/
def State.discard (s : State) (b : Nat) : State :=
  let s := (List.range 8).foldl (fun s g => s.setL1 g (lineDrop (s.hart g).l1 b)) s
  s.setL2 (lineDrop s.cpu.l2 b)

/-- A DRAM access of hart `h` that fails lasting: HART_FLT.BUS_ERR. -/
def State.busErr (s : State) (h : Nat) (inj : Bool) : State := s.faultInj (P.HART h) X.HART_BUS_ERR inj

/-- A block that a cache gives up: L1D to L2, L2 (which includes every L1D) to DRAM. -/
def State.giveUp (h : Nat) (s : State) (v : Victim) : State :=
  match v with
  | .l1 g b =>
    let b := b.toNat
    match lineOf (s.hart g).l1 b with
    | some x =>
      let s := if x.dirty then s.setL2 (linePut s.cpu.l2 { x with dirty := true }) else s
      s.setL1 g (lineDrop (s.hart g).l1 b)
    | none => s
  | .l2 b =>
    let (ok, t) := (s.snoop b.toNat).cleanL2 b.toNat
    let t := t.discard b.toNat
    if ok then t else t.busErr h false

/-- A corrected or a double-bit error in the shared L2, on HART0 only. -/
def State.l2Check (s : State) (chk : CacheCheck) : Bool × State :=
  match s.takeInj (P.HART 0) X.HART_L2_UC with
  | (true, s) => (true, s.faultInj (P.HART 0) X.HART_L2_UC true)
  | (false, s) =>
    match s.takeInj (P.HART 0) X.HART_L2_CE with
    | (true, s) => (false, (s.count (R.xx_CE_COUNT (P.HART 0))).faultInj (P.HART 0) X.HART_L2_CE true)
    | (false, s) =>
      match chk with
      | .l2Corrected => (false, (s.count (R.xx_CE_COUNT (P.HART 0))).fault (P.HART 0) X.HART_L2_CE)
      | .l2Double => (true, s.fault (P.HART 0) X.HART_L2_UC)
      | _ => (false, s)

/-- A corrected error in L1 of a hart. -/
def State.l1Corrected (s : State) (h : Nat) (inj : Bool) : State :=
  (s.count (R.xx_CE_COUNT (P.HART h))).faultInj (P.HART h) X.HART_L1_CE inj

/-- The check of an access to a line of L1; the mark tells whether the access raises an access fault. A double-bit error of a
clean line is refetched. -/
def State.l1Check (s : State) (h : Nat) (dirty : Bool) (chk : CacheCheck) : Bool × State :=
  match (if dirty then s.takeInj (P.HART h) X.HART_L1D_UC else (false, s)) with
  | (true, s) => (true, s.faultInj (P.HART h) X.HART_L1D_UC true)
  | (false, s) =>
    match s.takeInj (P.HART h) X.HART_L1_CE with
    | (true, s) => (false, s.l1Corrected h true)
    | (false, s) =>
      match chk with
      | .l1Corrected => (false, s.l1Corrected h false)
      | .l1Double => if dirty then (true, s.fault (P.HART h) X.HART_L1D_UC) else (false, s.l1Corrected h false)
      | _ => (false, s)

/-- Whether a DRAM access of a hart fails lasting (R390): its channel is FAULTED, the data is poisoned, or an injection says so. -/
def State.dramFails (s : State) (h a : Nat) (chk : CacheCheck) : Bool × State :=
  let s := s.reachDram a
  match s.takeInj (P.HART h) X.HART_BUS_ERR with
  | (true, s) => (true, s.busErr h true)
  | (false, s) => if chk == .dramLost || s.chanDown a then (true, s.busErr h false) else (false, s)

/-- A block as L2 gives it to hart `h`, from DRAM where L2 lacks it; nothing where the access fails. -/
def State.fromL2 (s : State) (h b : Nat) (chk : CacheCheck) : Option (List Byte) × State :=
  let s := s.snoop b
  match s.l2Check chk with
  | (true, s) => (none, s)
  | (false, s) =>
    match lineOf s.cpu.l2 b with
    | some x => (some x.bytes, s)
    | none =>
      match s.dramFails h (64 * b) chk with
      | (true, s) => (none, s)
      | (false, s) =>
        let d := s.memBytes (64 * b) 64
        (some d, s.setL2 (linePut s.cpu.l2 ⟨b, d, false⟩))

/-- Hart `h` has a block in its L1D, filled where it was absent; nothing where the access fails. -/
def State.fill (s : State) (h : Nat) (chk : CacheCheck) (b : Nat) : Option (List Byte) × State :=
  match lineOf (s.hart h).l1 b with
  | some x =>
    match s.l1Check h x.dirty chk with
    | (true, s) => (none, s)
    | (false, s) => (some x.bytes, s)
  | none =>
    match s.fromL2 h b chk with
    | (none, s) => (none, s)
    | (some d, s) => (some d, s.setL1 h (linePut (s.hart h).l1 ⟨b, d, false⟩))

/-- The blocks of `n` bytes at an address. -/
def lineBlocks (a n : Nat) : List Nat := if a / 64 = (a + n - 1) / 64 then [a / 64] else [a / 64, a / 64 + 1]

/-- The bytes of blocks read one after the other; nothing where one of them fails. -/
def State.readBlocks (get : State → Nat → Option (List Byte) × State) : List Nat → State → Option (List Byte) × State
  | [], s => (some [], s)
  | b :: t, s =>
    match get s b with
    | (none, s) => (none, s)
    | (some d, s) =>
      match State.readBlocks get t s with
      | (none, s) => (none, s)
      | (some e, s) => (some (d ++ e), s)

/-- Bytes read through the L1D of hart `h`. -/
def State.cachedRead (s : State) (h : Nat) (chk : CacheCheck) (a n : Nat) : Option (List Byte) × State :=
  match State.readBlocks (fun s b => s.fill h chk b) (lineBlocks a n) s with
  | (none, s) => (none, s)
  | (some d, s) => (some ((d.drop (a % 64)).take n), s)

/-- A store to a block by hart `h`: the other L1D lose it (R280), and reservations on it end. -/
def State.own (h : Nat) (s : State) (b : Nat) : State :=
  (List.range 8).foldl (fun s g =>
    if g = h then s
    else
      let x := s.hart g
      s.setHart g { x with l1 := lineDrop x.l1 b, resv := if x.resv == some b then none else x.resv }) s

/-- One byte is stored into the line that hart `h` has. -/
def State.pokeByte (h : Nat) (s : State) (a : Nat) (v : Byte) : State :=
  match lineOf (s.hart h).l1 (a / 64) with
  | some x => s.setL1 h (linePut (s.hart h).l1 { x with bytes := x.bytes.set (a % 64) v, dirty := true })
  | none => s

/-- Bytes stored through the L1D of hart `h`; the mark tells whether the access succeeded. -/
def State.cachedWrite (s : State) (h : Nat) (chk : CacheCheck) (a : Nat) (d : List Byte) : Bool × State :=
  match s.cachedRead h chk a d.length with
  | (none, s) => (false, s)
  | (some _, s) =>
    let s := (lineBlocks a d.length).foldl (State.own h) s
    (true, (d.zipIdx).foldl (fun (s : State) (x : Byte × Nat) => s.pokeByte h (a + x.2) x.1) s)

/-! ### Loads and stores (R274 to R276) -/

/-- The bytes lie in the installed DRAM (R534). -/
def State.dramHolds (s : State) (a n : Nat) : Bool := decide (a + n ≤ s.installed)

/-- A load of 2^`size` bytes from the register window by an agent (R276, R36). -/
def State.windowLoad (s : State) (g : Agent) (size off : Nat) : BitVec 64 × State :=
  if size = 3 then
    match s.readWord g off with
    | (lo, s) =>
      match s.readWord g (off + 4) with
      | (hi, s) => (hi ++ lo, s)
  else
    match s.readWord g (off / 4 * 4) with
    | (v, s) => (BitVec.ofNat 64 (v.toNat / 2 ^ (8 * (off % 4)) % 2 ^ (8 * 2 ^ size)), s)

/-- A store of 2^`size` bytes to the register window by an agent (R276). -/
def State.windowStore (s : State) (g : Agent) (size off : Nat) (v : BitVec 64) : State :=
  if size = 3 then
    if (tableAt off).isSome then s.writeWindow g off true true v
    else (s.writeReg g off (v.setWidth 32)).writeReg g (off + 4) ((v >>> 32).setWidth 32)
  else s.writeWindow g off (size == 2) false v

/-- A load of 2^`size` bytes by hart `h`: the value, or the exception. -/
def State.hartLoad (s : State) (h : Fin 8) (chk : CacheCheck) (size a : Nat) : Except Nat (BitVec 64) × State :=
  let n := 2 ^ size
  let ok := (s.hart h).permits 0 a n
  match placeOf a with
  | .window off =>
    if !ok || off % n != 0 then (.error exLoad, s)
    else
      match s.windowLoad (.hart h) size off with
      | (v, s) => (.ok v, s)
  | .cached d =>
    if !ok || !s.dramHolds d n then (.error exLoad, s)
    else
      match s.cachedRead h chk d n with
      | (none, s) => (.error exLoad, s)
      | (some l, s) => (.ok (BitVec.ofNat 64 (leNat l)), s)
  | .uncached d =>
    if !ok || !s.dramHolds d n then (.error exLoad, s)
    else
      match s.dramFails h d chk with
      | (true, s) => (.error exLoad, s)
      | (false, s) =>
        if s.rangeDown d n then (.error exLoad, s.busErr h false) else (.ok (BitVec.ofNat 64 (s.memNat d n)), s)
  | .none => (.error exLoad, s)

/-- A store of 2^`size` bytes by hart `h`: the exception, if any. -/
def State.hartStore (s : State) (h : Fin 8) (chk : CacheCheck) (size a : Nat) (v : BitVec 64) : Option Nat × State :=
  let n := 2 ^ size
  let ok := (s.hart h).permits 1 a n
  match placeOf a with
  | .window off =>
    if !ok || off % n != 0 then (some exStore, s) else (none, s.windowStore (.hart h) size off v)
  | .cached d =>
    if !ok || !s.dramHolds d n then (some exStore, s)
    else
      match s.cachedWrite h chk d (leBytes n v.toNat) with
      | (true, s) => (none, s)
      | (false, s) => (some exStore, s)
  | .uncached d =>
    if !ok || !s.dramHolds d n then (some exStore, s)
    else
      match s.dramFails h d chk with
      | (true, s) => (some exStore, s)
      | (false, s) =>
        if s.rangeDown d n then (some exStore, s.busErr h false) else (none, s.setMemNat d n (v.toNat % 2 ^ (8 * n)))
  | .none => (some exStore, s)

/-! ### Instruction fetch (R275, R280) -/

/-- A block for instruction fetch of hart `h`: its L1I keeps what it holds until FENCE.I or a replacement. -/
def State.fetchBlock (s : State) (h : Nat) (chk : CacheCheck) (b : Nat) : Option (List Byte) × State :=
  match lineOf (s.hart h).l1i b with
  | some x =>
    match s.l1Check h false chk with
    | (_, s) => (some x.bytes, s)
  | none =>
    match s.fromL2 h b chk with
    | (none, s) => (none, s)
    | (some d, s) => (some d, s.setHart h { s.hart h with l1i := linePut (s.hart h).l1i ⟨b, d, false⟩ })

/-- A half word fetched by hart `h`, or the exception: only installed cached DRAM that the PMP lets it execute. -/
def State.fetchHalf (s : State) (h : Nat) (chk : CacheCheck) (a : Nat) : Option Nat × State :=
  let x := s.hart h
  match placeOf a with
  | .cached d =>
    if !s.dramHolds d 2 || !x.pmpPermits x.machine 2 a then (none, s)
    else
      match s.fetchBlock h chk (d / 64) with
      | (none, s) => (none, s)
      | (some l, s) => (some (leNat ((l.drop (d % 64)).take 2)), s)
  | _ => (none, s)

/-- The instruction at the program counter of hart `h`: its bits, nothing where the fetch raises an access fault. -/
def State.hartFetch (s : State) (h : Nat) (refetch : Bool) (chk : CacheCheck) : Option Nat × State :=
  let a := (s.hart h).pc.toNat
  let s := if refetch then
      s.setHart h { s.hart h with l1i := lineDrop (lineDrop (s.hart h).l1i (a % 2 ^ 39 / 64)) ((a + 2) % 2 ^ 39 / 64) }
    else s
  match s.fetchHalf h chk a with
  | (none, s) => (none, s)
  | (some lo, s) =>
    if rvLen lo = 2 then (some lo, s)
    else
      match s.fetchHalf h .clean (a + 2) with
      | (none, s) => (none, s)
      | (some hi, s) => (some (hi * 65536 + lo), s)

/-! ### Cache-block operations (R282 to R284) -/

/-- cbo.clean of a block: its dirty bytes are in DRAM afterwards. The mark tells whether DRAM took them. -/
def State.cboClean (s : State) (b : Nat) : Bool × State := (s.snoop b).cleanL2 b

/-- cbo.flush of a block. -/
def State.cboFlush (s : State) (b : Nat) : Bool × State :=
  match s.cboClean b with
  | (ok, s) => (ok, s.discard b)

/-- A cache-block operation of hart `h` at an address: the exception, if any. Only cached DRAM has blocks to act on. -/
def State.hartCbo (s : State) (h : Nat) (op : Cbo) (a : Nat) : Option Nat × State :=
  let x := s.hart h
  let flushes := !x.machine && bitsOf x.menvcfg.toNat 5 4 == 1
  if !(x.permits 0 a 1 || x.permits 1 a 1) then (some exStore, s)
  else
    match placeOf a with
    | .cached d =>
      if !s.dramHolds d 1 then (some exStore, s)
      else
        match (match op with
          | .clean => s.cboClean (d / 64)
          | .flush => s.cboFlush (d / 64)
          | .inval => if flushes then s.cboFlush (d / 64) else (true, s.discard (d / 64))) with
        | (true, s) => (none, s)
        | (false, s) => (some exStore, s.busErr h false)
    | .uncached d => if s.dramHolds d 1 then (none, s) else (some exStore, s)
    | .window _ => (none, s)
    | .none => (some exStore, s)

end Sys2Proof.Machine
end

