-- ==== Sys2Proof/Machine/MgmtMem.lean ====
section
/-! DEFINITION. The private map of MGMT and the accesses of MGMT (20, the table before R486). -/

namespace Sys2Proof.Machine

open Sys2Proof

/-- Where an address of the private map lies: boot ROM, SRAM, QSPI flash, the private page, the register window, the window onto
DRAM. -/
inductive MgmtPlace where
  | rom (a : Nat)
  | sram (a : Nat)
  | flash (a : Nat)
  | priv (off : Nat)
  | window (off : Nat)
  | dram (off : Nat)
  | none
  deriving DecidableEq, Repr

/-- The private map of MGMT. -/
def mgmtPlace (a : Nat) : MgmtPlace :=
  if a < 0x8000 then .rom a
  else if 0x10000000 ≤ a ∧ a < 0x10040000 then .sram (a - 0x10000000)
  else if 0x20000000 ≤ a ∧ a < 0x22000000 then .flash (a - 0x20000000)
  else if 0x30000000 ≤ a ∧ a < 0x30001000 then .priv (a - 0x30000000)
  else if 0x40000000 ≤ a ∧ a < 0x44000000 then .window (a - 0x40000000)
  else if 0x80000000 ≤ a ∧ a < 0x90000000 then .dram (a - 0x80000000)
  else .none

/-- The DRAM address of an offset in MGMT's window onto DRAM: MGMT_DWIN names a 2 MiB-aligned base. -/
def State.dwinAddr (s : State) (off : Nat) : Nat := (Config.dwinFrame s.cpu.dwin).toNat * 2 ^ 21 + off

/-- Bytes of the SRAM. -/
def State.sramBytes (s : State) (a n : Nat) : List Byte := (List.range n).map (fun i => sget 0 s.cpu.sram (a + i))

/-- Bytes are stored in the SRAM. -/
def State.setSram (s : State) (a : Nat) (d : List Byte) : State :=
  { s with cpu := { s.cpu with
      sram := (d.zipIdx).foldl (fun (l : List (Nat × Byte)) (x : Byte × Nat) => sset 0 l (a + x.2) x.1) s.cpu.sram } }

/-- What the check of an SRAM access finds (sources 238 and 239). -/
def State.sramCheck (s : State) (chk : EccCheck) : State :=
  match chk with
  | .clean => s
  | .corrected => s.devFault srcMgmtSramCe false
  | .double => s.devFault srcMgmtSramUc false

/-- A load of 2^`size` bytes by MGMT: the value, or the exception. `flash` is what the flash returns, `chk` what the check of the
SRAM finds; after a double-bit error the value is a free one. -/
def State.mgmtLoad (s : State) (flash : BitVec 64) (chk : EccCheck) (size a : Nat) : Except Nat (BitVec 64) × State :=
  let n := 2 ^ size
  let cut := fun (v : Nat) => (Except.ok (BitVec.ofNat 64 (v % 2 ^ (8 * n))) : Except Nat (BitVec 64))
  match mgmtPlace a with
  | .rom o => (cut (leNat ((List.range n).map (fun i => Config.romByte (o + i)))), s)
  | .sram o =>
    let s := s.sramCheck chk
    if chk == .double then
      match s.fresh 64 with
      | (v, s) => (cut v.toNat, s)
    else (cut (leNat (s.sramBytes o n)), s)
  | .flash _ => (cut flash.toNat, s)
  | .priv o =>
    if o = Config.dwinOffset.toNat ∧ size = 2 then (cut s.cpu.dwin.toNat, s)
    else
      match s.fresh 64 with
      | (v, s) => (cut v.toNat, s)
  | .window o =>
    if o % n != 0 then (.error exLoad, s)
    else
      match s.windowLoad .mgmt size o with
      | (v, s) => (.ok v, s)
  | .dram o =>
    let d := s.dwinAddr o
    if !s.dramHolds d n then (.error exLoad, s)
    else
      let s := s.reachDram d
      if s.rangeDown d n then (.error exLoad, s) else (cut (s.memNat d n), s)
  | .none => (.error exLoad, s)

/-- A store of 2^`size` bytes by MGMT: the exception, if any. -/
def State.mgmtStore (s : State) (chk : EccCheck) (size a : Nat) (v : BitVec 64) : Option Nat × State :=
  let n := 2 ^ size
  match mgmtPlace a with
  | .sram o => (none, (s.sramCheck chk).setSram o (leBytes n v.toNat))
  | .priv o => (none, if o = Config.dwinOffset.toNat ∧ size = 2 then { s with cpu := { s.cpu with dwin := v.setWidth 32 } } else s)
  | .window o => if o % n != 0 then (some exStore, s) else (none, s.windowStore .mgmt size o v)
  | .dram o =>
    let d := s.dwinAddr o
    if !s.dramHolds d n then (some exStore, s)
    else
      let s := s.reachDram d
      if s.rangeDown d n then (some exStore, s) else (none, s.setMemNat d n (v.toNat % 2 ^ (8 * n)))
  | _ => (some exStore, s)

/-- A half word of code of MGMT, from its ROM or its SRAM; nothing elsewhere. -/
def State.mgmtHalf (s : State) (a : Nat) : Option Nat :=
  match mgmtPlace a with
  | .rom o => some (leNat ((List.range 2).map (fun i => Config.romByte (o + i))))
  | .sram o => some (leNat (s.sramBytes o 2))
  | _ => none

/-- The instruction at the program counter of MGMT. After a double-bit error of the SRAM it is a free word. -/
def State.mgmtFetch (s : State) (chk : EccCheck) : Option Nat × State :=
  let a := (s.hart 8).pc.toNat
  match mgmtPlace a with
  | .sram _ =>
    let s := s.sramCheck chk
    if chk == .double then
      match s.fresh 32 with
      | (v, s) => (some v.toNat, s)
    else
      match s.mgmtHalf a with
      | some lo => (if rvLen lo = 2 then some lo else (s.mgmtHalf (a + 2)).map (fun hi => hi * 65536 + lo), s)
      | none => (none, s)
  | _ =>
    match s.mgmtHalf a with
    | some lo => (if rvLen lo = 2 then some lo else (s.mgmtHalf (a + 2)).map (fun hi => hi * 65536 + lo), s)
    | none => (none, s)

/-- The program counter of MGMT is in the SRAM. -/
def State.mgmtInSram (s : State) : Bool :=
  match mgmtPlace (s.hart 8).pc.toNat with
  | .sram _ => true
  | _ => false

end Sys2Proof.Machine
end

