-- ==== Sys2Proof/Machine/Csr.lean ====
section
/-! DEFINITION. The machine CSRs of the harts and of MGMT, and the taking of exceptions, interrupts and NMIs (R274, R277, R278).
Hart 8 is MGMT. The rules of the CSRs are those of the RISC-V privileged specification (PRESUMED, assumption 28). -/

namespace Sys2Proof.Machine

open Sys2Proof

/-- The hart runs instructions: it is enabled and the device mode lets it run (R279); MGMT runs once the boot ROM has passed
control to it (R489), and stops in DOZE, in HIBERNATE and for a sleep entry (R494). -/
def State.runs (s : State) (k : Nat) : Bool :=
  if k < 8 then s.mode != mCold && (s.hartStat k == 1 || s.hartStat k == 2)
  else s.dev.booted && s.mode != mCold && s.mode != mDoze && s.mode != mHibernate && s.dev.sleep.target == 0

/-- The hart still stands where its instruction left it: neither it nor the device has gone to reset. -/
def State.standing (s : State) (k : Nat) : Bool :=
  s.mode != mCold && (if k < 8 then s.flag (F.xx_CTRL_ENABLE (P.HART k)) else s.dev.booted)

/-- The time CSR (R278): bits [63:8] of the copy of Invar time. -/
def State.timeCsr (s : State) : BitVec 64 := s.nowCopy >>> 8

/-- mip (R277): MSIP, MTIP, MEIP and SCHED of a hart, the external interrupt of MGMT. -/
def State.mip (s : State) (k : Nat) : BitVec 64 :=
  let me := if s.notify k then 2 ^ 11 else 0
  if k < 8 then
    BitVec.ofNat 64 (me + (if s.flag (F.HART_MSIP_MSIP k) then 2 ^ 3 else 0)
      + (if (s.reg64 (R.HART_TIMECMP_LO k) (R.HART_TIMECMP_HI k)).toNat ≤ s.timeCsr.toNat then 2 ^ 7 else 0)
      + (if s.schedInterrupt k then 2 ^ 16 else 0))
  else BitVec.ofNat 64 me

/-- The interrupt that the hart takes next, by its number: pending and enabled, and MIE is 1 or the mode is user. The order of
the standard interrupts is that of RISC-V; SCHED comes last (assumption 29). -/
def State.nextInterrupt (s : State) (k : Nat) : Option Nat :=
  let x := s.hart k
  let p := s.mip k &&& x.mie
  if x.machine && !x.mstatus.getLsbD 3 then none
  else [11, 3, 7, 16].find? (fun i => p.getLsbD i)

/-! ### Taking a trap (R277) -/

/-- mstatus after a trap: MPP is the mode left, MPIE is MIE, MIE is 0. -/
def Hart.trapStatus (x : Hart) : BitVec 64 :=
  (x.mstatus &&& ~~~(0x1888 : BitVec 64)) ||| (if x.machine then 0x1800 else 0) ||| (if x.mstatus.getLsbD 3 then 0x80 else 0)

/-- The number of bits of an address of a hart: 32 for MGMT. -/
def addrOf (k : Nat) (v : BitVec 64) : BitVec 64 := if k < 8 then v else v &&& 0xFFFFFFFF

/-- A register value as MGMT holds it: 32 bits, sign-extended. -/
def regOf (k : Nat) (v : BitVec 64) : BitVec 64 := if k < 8 then v else (v.setWidth 32).signExtend 64

/-- Exceptions and interrupts taken are counted (HART_BLK_COUNT). -/
def State.countTrap (s : State) (k : Nat) : State := if k < 8 then s.count (R.xx_BLK_COUNT (P.HART k)) else s

/-- Hart `k` takes an exception of a code: mepc is the program counter of the instruction, mtval a value. -/
def State.trap (s : State) (k code : Nat) (tval : BitVec 64) : State :=
  let x := s.hart k
  (s.setHart k { x with
    pc := addrOf k (x.mtvec &&& ~~~3), machine := true, mstatus := x.trapStatus, mepc := x.pc
    mcause := BitVec.ofNat 64 code, mtval := tval, wfi := false }).countTrap k

/-- An exception with a value of mtval that the spec leaves open (assumption 30). -/
def State.trapFree (s : State) (k code : Nat) : State :=
  match s.fresh 64 with
  | (v, s) => s.trap k code (regOf k v)

/-- Hart `k` takes an interrupt: the vector of its number where mtvec asks for vectors. -/
def State.interrupt (s : State) (k i : Nat) : State :=
  let x := s.hart k
  let base := x.mtvec &&& ~~~3
  let code : BitVec 64 := if k < 8 then 0x8000000000000000 else 0x80000000
  (s.setHart k { x with
    pc := addrOf k (if bitsOf x.mtvec.toNat 1 0 = 1 then base + BitVec.ofNat 64 (4 * i) else base), machine := true
    mstatus := x.trapStatus, mepc := x.pc, mcause := code + BitVec.ofNat 64 i, mtval := 0, wfi := false }).countTrap k

/-- Hart `k` takes an NMI (R277): mepc, mcause 0, MPP, MIE 0, machine mode, the NMI address. -/
def State.takeNmi (s : State) (k : Nat) (a : BitVec 64) : State :=
  let x := s.hart k
  (s.setHart k { x with
    pc := a, machine := true
    mstatus := (x.mstatus &&& ~~~(0x1808 : BitVec 64)) ||| (if x.machine then 0x1800 else 0)
    mepc := x.pc, mcause := 0, nmi := false, wfi := false }).countTrap k

/-- MRET: the mode of MPP, MIE is MPIE, MPIE is 1, MPP is the least privileged mode, MPRV falls on a return to user mode. -/
def State.mret (s : State) (k : Nat) : State :=
  let x := s.hart k
  let m := x.mstatus.getLsbD 11 || decide (8 ≤ k)
  let st := (x.mstatus &&& ~~~(0x1888 : BitVec 64)) ||| 0x80 ||| (if x.mstatus.getLsbD 7 then 8 else 0)
    ||| (if k < 8 then 0 else 0x1800)
  s.setHart k { x with pc := addrOf k x.mepc, machine := m, mstatus := if m then st else st &&& ~~~0x20000 }

/-! ### CSRs -/

/-- The PMP configuration bytes `i` to `i + n - 1` as one value. -/
def Hart.pmpCfg (x : Hart) (i n : Nat) : BitVec 64 :=
  BitVec.ofNat 64 (((List.range n).map (fun j => (sget 0 x.pmpcfg (i + j)).toNat * 2 ^ (8 * j))).sum)

/-- misa of a hart: RV64 with I, M, A, C and U (R274). -/
abbrev hartMisa : BitVec 64 := 0x8000000000101105

/-- A CSR of a hart; none for one that does not exist. -/
def State.hartCsr (s : State) (k addr : Nat) : Option (BitVec 64) :=
  let x := s.hart k
  if addr = 0xF11 ∨ addr = 0xF15 then some 0
  else if addr = 0xF12 then some 0x2568
  else if addr = 0xF13 then some (BitVec.ofNat 64 ((s.peek .mgmt (P.HART k)).toNat % 65536))
  else if addr = 0xF14 then some (BitVec.ofNat 64 k)
  else if addr = 0x300 then some (x.mstatus ||| 0x200000000)
  else if addr = 0x301 then some hartMisa
  else if addr = 0x304 then some x.mie
  else if addr = 0x305 then some x.mtvec
  else if addr = 0x306 then some x.mcounteren
  else if addr = 0x30A then some x.menvcfg
  else if addr = 0x320 then some x.mcountinhibit
  else if 0x323 ≤ addr ∧ addr ≤ 0x33F then some 0
  else if addr = 0x340 then some x.mscratch
  else if addr = 0x341 then some x.mepc
  else if addr = 0x342 then some x.mcause
  else if addr = 0x343 then some x.mtval
  else if addr = 0x344 then some (s.mip k)
  else if addr = 0x3A0 then some (x.pmpCfg 0 8)
  else if addr = 0x3A2 then some (x.pmpCfg 8 8)
  else if 0x3B0 ≤ addr ∧ addr ≤ 0x3BF then some (x.pmpView (addr - 0x3B0))
  else if addr = 0xB00 ∨ addr = 0xC00 then some x.mcycle
  else if addr = 0xB02 ∨ addr = 0xC02 then some x.minstret
  else if addr = 0xC01 then some s.timeCsr
  else if (0xB03 ≤ addr ∧ addr ≤ 0xB1F) ∨ (0xC03 ≤ addr ∧ addr ≤ 0xC1F) then some 0
  else none

/-- A CSR of MGMT; none for one that does not exist. -/
def State.mgmtCsr (s : State) (addr : Nat) : Option (BitVec 64) :=
  let x := s.hart 8
  if (0xF11 ≤ addr ∧ addr ≤ 0xF15) ∨ addr = 0x301 then some (regOf 8 ((Config.mgmtCsr addr).setWidth 64))
  else if addr = 0x300 then some (x.mstatus ||| 0x1800)
  else if addr = 0x310 then some 0
  else if addr = 0x304 then some x.mie
  else if addr = 0x305 then some x.mtvec
  else if addr = 0x320 then some x.mcountinhibit
  else if 0x323 ≤ addr ∧ addr ≤ 0x33F then some 0
  else if addr = 0x340 then some x.mscratch
  else if addr = 0x341 then some (regOf 8 x.mepc)
  else if addr = 0x342 then some (regOf 8 x.mcause)
  else if addr = 0x343 then some x.mtval
  else if addr = 0x344 then some (s.mip 8)
  else if addr = 0xB00 then some (regOf 8 x.mcycle)
  else if addr = 0xB80 then some (regOf 8 (x.mcycle >>> 32))
  else if addr = 0xB02 then some (regOf 8 x.minstret)
  else if addr = 0xB82 then some (regOf 8 (x.minstret >>> 32))
  else if (0xB03 ≤ addr ∧ addr ≤ 0xB1F) ∨ (0xB83 ≤ addr ∧ addr ≤ 0xB9F) then some 0
  else none

/-- A CSR of hart `k`. -/
def State.csr (s : State) (k addr : Nat) : Option (BitVec 64) := if k < 8 then s.hartCsr k addr else s.mgmtCsr addr

/-- Whether the mode of the hart may access a CSR, to write it where `wr`: user mode reaches the counters that mcounteren
opens; a CSR whose number begins with two bits 1 is read-only. -/
def State.csrAllowed (s : State) (k addr : Nat) (wr : Bool) : Bool :=
  let x := s.hart k
  !(wr && addr / 1024 == 3)
    && (x.machine || (addr / 256 % 4 == 0 && decide (0xC00 ≤ addr) && decide (addr ≤ 0xC1F) && x.mcounteren.getLsbD (addr % 32)))

/-- A PMP configuration byte after a write: a locked entry keeps its byte, NA4 cannot be selected, W without R is not held. -/
def pmpByte (old v : BitVec 8) : BitVec 8 :=
  if old.getLsbD 7 then old
  else
    let a := if bitsOf v.toNat 4 3 = 2 then old &&& 0x18 else v &&& 0x18
    let p := if v.getLsbD 1 && !v.getLsbD 0 then v &&& 0x85 else v &&& 0x87
    a ||| p

/-- PMP configuration bytes from entry `i` on are written. -/
def Hart.setPmpCfg (x : Hart) (i : Nat) (v : BitVec 64) : Hart :=
  { x with pmpcfg := (List.range 8).foldl (fun l j =>
      sset 0 l (i + j) (pmpByte (sget 0 l (i + j)) ((v >>> (8 * j)).setWidth 8))) x.pmpcfg }

/-- A PMP address is written, unless its entry is locked or the next one is locked with mode TOR. -/
def Hart.setPmpAddr (x : Hart) (i : Nat) (v : BitVec 64) : Hart :=
  if (sget 0 x.pmpcfg i).getLsbD 7 || ((sget 0 x.pmpcfg (i + 1)).getLsbD 7 && x.pmpMode (i + 1) == 1) then x
  else { x with pmpaddr := sset 0 x.pmpaddr i (v &&& 0x3FFFFFFFFFFFFF) }

/-- mstatus of a hart after a write: MIE, MPIE, MPP (machine or user), MPRV and TW. -/
def hartStatusWrite (old v : BitVec 64) : BitVec 64 :=
  let mpp := if bitsOf v.toNat 12 11 = 0 ∨ bitsOf v.toNat 12 11 = 3 then v &&& 0x1800 else old &&& 0x1800
  (v &&& 0x220088) ||| mpp

/-- mtvec after a write: MODE 0 or 1. -/
def mtvecWrite (old v : BitVec 64) : BitVec 64 := (v &&& ~~~3) ||| (if bitsOf v.toNat 1 0 < 2 then v &&& 3 else old &&& 3)

/-- menvcfg after a write: FIOM, CBIE (0b10 is not held) and CBCFE. -/
def menvcfgWrite (old v : BitVec 64) : BitVec 64 :=
  (v &&& 0x41) ||| (if bitsOf v.toNat 5 4 = 2 then old &&& 0x30 else v &&& 0x30)

/-- A hart after a write of a CSR that exists. CSRs that are read-only in effect keep their value. -/
def Hart.writeCsr (x : Hart) (addr : Nat) (v : BitVec 64) : Hart :=
  if addr = 0x300 then { x with mstatus := hartStatusWrite x.mstatus v }
  else if addr = 0x304 then { x with mie := v &&& 0x10888 }
  else if addr = 0x305 then { x with mtvec := mtvecWrite x.mtvec v }
  else if addr = 0x306 then { x with mcounteren := v &&& 0xFFFFFFFF }
  else if addr = 0x30A then { x with menvcfg := menvcfgWrite x.menvcfg v }
  else if addr = 0x320 then { x with mcountinhibit := v &&& 5 }
  else if addr = 0x340 then { x with mscratch := v }
  else if addr = 0x341 then { x with mepc := v &&& ~~~1 }
  else if addr = 0x342 then { x with mcause := v }
  else if addr = 0x343 then { x with mtval := v }
  else if addr = 0x3A0 then x.setPmpCfg 0 v
  else if addr = 0x3A2 then x.setPmpCfg 8 v
  else if 0x3B0 ≤ addr ∧ addr ≤ 0x3BF then x.setPmpAddr (addr - 0x3B0) v
  else if addr = 0xB00 then { x with mcycle := v }
  else if addr = 0xB02 then { x with minstret := v }
  else x

/-- MGMT after a write of a CSR that exists. -/
def Hart.writeMgmtCsr (x : Hart) (addr : Nat) (v : BitVec 64) : Hart :=
  let lo := fun (w : BitVec 64) => (w &&& ~~~0xFFFFFFFF) ||| (v &&& 0xFFFFFFFF)
  let hi := fun (w : BitVec 64) => (w &&& 0xFFFFFFFF) ||| (v <<< 32)
  if addr = 0x300 then { x with mstatus := v &&& 0x88 }
  else if addr = 0x304 then { x with mie := v &&& 0x800 }
  else if addr = 0x305 then { x with mtvec := mtvecWrite x.mtvec v }
  else if addr = 0x320 then { x with mcountinhibit := v &&& 5 }
  else if addr = 0x340 then { x with mscratch := v }
  else if addr = 0x341 then { x with mepc := addrOf 8 (v &&& ~~~1) }
  else if addr = 0x342 then { x with mcause := v }
  else if addr = 0x343 then { x with mtval := v }
  else if addr = 0xB00 then { x with mcycle := lo x.mcycle }
  else if addr = 0xB80 then { x with mcycle := hi x.mcycle }
  else if addr = 0xB02 then { x with minstret := lo x.minstret }
  else if addr = 0xB82 then { x with minstret := hi x.minstret }
  else x

/-- A CSR of hart `k` is written. -/
def State.setCsr (s : State) (k addr : Nat) (v : BitVec 64) : State :=
  s.setHart k (if k < 8 then (s.hart k).writeCsr addr v else (s.hart k).writeMgmtCsr addr v)

end Sys2Proof.Machine
end

