-- ==== Sys2Proof/Machine/Hart.lean ====
section
/-! DEFINITION. The instructions of the harts and of MGMT, and the commands of the harts (R274 to R284). -/

namespace Sys2Proof.Machine

open Sys2Proof

/-- The core that executes, with what its instruction meets: a hart, or MGMT (hart 8). -/
inductive CoreIn where
  | hart (h : Fin 8) (env : HartEnv)
  | mgmt (flash : BitVec 64) (chk : EccCheck)
  deriving DecidableEq, Repr

/-- The number of the core. -/
def CoreIn.ix : CoreIn → Nat
  | .hart h _ => h.val
  | .mgmt _ _ => 8

/-- MGMT is RV32. -/
def CoreIn.rv32 : CoreIn → Bool
  | .hart _ _ => false
  | .mgmt _ _ => true

/-! ### Registers, program counter -/

/-- A register; x0 reads 0. -/
def State.xr (s : State) (k r : Nat) : BitVec 64 := if r = 0 then 0 else sget 0 (s.hart k).x r

/-- A register is written; x0 discards it. -/
def State.setX (s : State) (k r : Nat) (v : BitVec 64) : State :=
  if r = 0 then s else s.setHart k { s.hart k with x := sset 0 (s.hart k).x r (regOf k v) }

/-- An instruction retires: the program counter goes to `a`, minstret counts. A hart that the instruction has sent to reset stays
there. -/
def State.retireTo (s : State) (k : Nat) (a : BitVec 64) : State :=
  if s.standing k then
    let x := s.hart k
    s.setHart k { x with
      pc := addrOf k a, minstret := if x.mcountinhibit.getLsbD 2 then x.minstret else x.minstret + 1 }
  else s

/-- An instruction of `len` bytes retires. -/
def State.retire (s : State) (k len : Nat) : State := s.retireTo k ((s.hart k).pc + BitVec.ofNat 64 len)

/-! ### Memory -/

/-- The address of an access. -/
def State.dataAddr (s : State) (k rs1 : Nat) (off : BitVec 64) : Nat := (addrOf k (s.xr k rs1 + off)).toNat

/-- The check that a data access of the core meets. -/
def State.coreLoad (c : CoreIn) (size a : Nat) (s : State) : Except Nat (BitVec 64) × State :=
  match c with
  | .hart h env => s.hartLoad h env.chk size a
  | .mgmt flash chk => s.mgmtLoad flash (if s.mgmtInSram then .clean else chk) size a

/-- A store by the core. -/
def State.coreStore (c : CoreIn) (size a : Nat) (v : BitVec 64) (s : State) : Option Nat × State :=
  match c with
  | .hart h env => s.hartStore h env.chk size a v
  | .mgmt _ chk => s.mgmtStore (if s.mgmtInSram then .clean else chk) size a v

/-- A value of 2^`size` bytes, sign-extended. -/
def extend (size : Nat) (v : BitVec 64) : BitVec 64 := sx (8 * 2 ^ size) v.toNat

/-- A load instruction. -/
def State.runLoad (s : State) (c : CoreIn) (len rd rs1 : Nat) (off : BitVec 64) (size : Nat) (signed : Bool) : State :=
  let k := c.ix
  match State.coreLoad c size (s.dataAddr k rs1 off) s with
  | (.error e, s) => s.trapFree k e
  | (.ok v, s) => (s.setX k rd (if signed then extend size v else v)).retire k len

/-- A store instruction. -/
def State.runStore (s : State) (c : CoreIn) (len rs2 rs1 : Nat) (off : BitVec 64) (size : Nat) : State :=
  let k := c.ix
  match State.coreStore c size (s.dataAddr k rs1 off) (s.xr k rs2) s with
  | (some e, s) => s.trapFree k e
  | (none, s) => s.retire k len

/-! ### Atomic instructions (R274, R276) -/

/-- The exception of an LR, an SC or an AMO at an address: misaligned, or not in installed cached DRAM, or not permitted. -/
def State.atomicTrap (s : State) (h : Fin 8) (isLr : Bool) (size a : Nat) : Option Nat :=
  let n := 2 ^ size
  if a % n != 0 then some (if isLr then exLoadAlign else exStoreAlign)
  else
    match placeOf a with
    | .cached d =>
      if s.dramHolds d n && (s.hart h).permits (if isLr then 0 else 1) a n then none
      else some (if isLr then exLoad else exStore)
    | .none => some (if isLr then exLoad else exStore)
    | _ => some exStore

/-- LR: the load, and the reservation of its block. -/
def State.runLr (s : State) (h : Fin 8) (env : HartEnv) (len rd rs1 size : Nat) : State :=
  let a := s.dataAddr h rs1 0
  match s.atomicTrap h true size a with
  | some e => s.trapFree h e
  | none =>
    match s.hartLoad h env.chk size a with
    | (.error e, s) => s.trapFree h e
    | (.ok v, s) =>
      let s := s.setHart h { s.hart h with resv := some (a % 2 ^ 39 / 64) }
      (s.setX h rd (extend size v)).retire h len

/-- SC: it stores and gives 0 where the reservation holds, and gives 1 otherwise; the reservation ends. -/
def State.runSc (s : State) (h : Fin 8) (env : HartEnv) (len rd rs1 rs2 size : Nat) : State :=
  let a := s.dataAddr h rs1 0
  match s.atomicTrap h false size a with
  | some e => s.trapFree h e
  | none =>
    let held := (s.hart h).resv == some (a % 2 ^ 39 / 64) && !env.scFails
    let s := s.setHart h { s.hart h with resv := none }
    if held then
      match s.hartStore h env.chk size a (s.xr h rs2) with
      | (some e, s) => s.trapFree h e
      | (none, s) => (s.setX h rd 0).retire h len
    else (s.setX h rd 1).retire h len

/-- AMO: the old value to `rd`, the result to memory. -/
def State.runAmo (s : State) (h : Fin 8) (env : HartEnv) (len : Nat) (op : Amo) (rd rs1 rs2 size : Nat) : State :=
  let a := s.dataAddr h rs1 0
  match s.atomicTrap h false size a with
  | some e => s.trapFree h e
  | none =>
    match s.hartLoad h env.chk size a with
    | (.error _, s) => s.trapFree h exStore
    | (.ok v, s) =>
      let b := s.xr h rs2
      let r := if size = 2 then (op.eval (v.setWidth 32) (b.setWidth 32)).setWidth 64 else op.eval v b
      match s.hartStore h .clean size a r with
      | (some e, s) => s.trapFree h e
      | (none, s) => (s.setX h rd (extend size v)).retire h len

/-! ### CSR instructions, WFI, cache-block operations -/

/-- A CSR instruction: CSRRS and CSRRC with a zero source do not write. -/
def State.runCsr (s : State) (k len : Nat) (op : CsrOp) (rd : Nat) (imm : Bool) (src addr : Nat) : State :=
  let wr := op == .write || src != 0
  match s.csr k addr with
  | none => s.trapFree k exIllegal
  | some old =>
    if !s.csrAllowed k addr wr then s.trapFree k exIllegal
    else
      let b := if imm then BitVec.ofNat 64 src else s.xr k src
      let v := match op with
        | .write => b
        | .set => old ||| b
        | .clear => old &&& ~~~b
      let n := (s.hart k).minstret
      let s := (s.setX k rd old).retire k len
      if wr then
        let s := if addr = 0xB02 ∨ addr = 0xB82 then s.setHart k { s.hart k with minstret := n } else s
        s.setCsr k addr v
      else s

/-- WFI: the hart waits; in user mode with mstatus.TW it is illegal. -/
def State.runWfi (s : State) (k len : Nat) : State :=
  let x := s.hart k
  if !x.machine && x.mstatus.getLsbD 21 then s.trapFree k exIllegal
  else
    let s := s.retire k len
    s.setHart k { s.hart k with wfi := true }

/-- A pending interrupt that mie enables, or an NMI, ends WFI. -/
def State.wakes (s : State) (k : Nat) : Bool := (s.hart k).nmi || (s.mip k &&& (s.hart k).mie) != 0

/-- A cache-block instruction, with the block address in `rs1`: in user mode menvcfg opens it (R284). -/
def State.runCbo (s : State) (h len : Nat) (op : Cbo) (rs1 : Nat) : State :=
  let x := s.hart h
  let opened := match op with
    | .inval => bitsOf x.menvcfg.toNat 5 4 != 0
    | _ => x.menvcfg.getLsbD 6
  if !x.machine && !opened then s.trapFree h exIllegal
  else
    match s.hartCbo h op (s.xr h rs1).toNat with
    | (some e, s) => s.trapFree h e
    | (none, s) => s.retire h len

/-- FENCE.I: later instruction fetches of the hart see its earlier stores (R280). -/
def State.runFenceI (s : State) (h len : Nat) : State :=
  (s.setHart h { s.hart h with l1i := [] }).retire h len

/-! ### One instruction -/

/-- The instructions beyond RV32IMC: only harts decode them. -/
def State.runHartOnly (s : State) (c : CoreIn) (len : Nat) (i : Rv) : State :=
  match c with
  | .mgmt _ _ => s.trapFree 8 exIllegal
  | .hart h env =>
    match i with
    | .fenceI => s.runFenceI h len
    | .lr rd rs1 size => s.runLr h env len rd rs1 size
    | .sc rd rs1 rs2 size => s.runSc h env len rd rs1 rs2 size
    | .amo op rd rs1 rs2 size => s.runAmo h env len op rd rs1 rs2 size
    | .cbo op rs1 => s.runCbo h len op rs1
    | _ => s.trapFree h exIllegal

/-- The core executes one instruction of `len` bytes. -/
def State.runRv (s : State) (c : CoreIn) (len : Nat) (i : Rv) : State :=
  let k := c.ix
  let x := s.hart k
  match i with
  | .lui rd imm => (s.setX k rd imm).retire k len
  | .auipc rd imm => (s.setX k rd (x.pc + imm)).retire k len
  | .jal rd off => (s.setX k rd (x.pc + BitVec.ofNat 64 len)).retireTo k (x.pc + off)
  | .jalr rd rs1 off =>
    let a := (s.xr k rs1 + off) &&& ~~~1
    (s.setX k rd (x.pc + BitVec.ofNat 64 len)).retireTo k a
  | .branch f3 rs1 rs2 off =>
    if branchTaken f3 (s.xr k rs1) (s.xr k rs2) then s.retireTo k (x.pc + off) else s.retire k len
  | .load rd rs1 off size signed => s.runLoad c len rd rs1 off size signed
  | .store rs2 rs1 off size => s.runStore c len rs2 rs1 off size
  | .alui w op rd rs1 imm => (s.setX k rd (aluRun (w || c.rv32) op (s.xr k rs1) imm)).retire k len
  | .alu w op rd rs1 rs2 => (s.setX k rd (aluRun (w || c.rv32) op (s.xr k rs1) (s.xr k rs2))).retire k len
  | .fence => s.retire k len
  | .ecall => s.trap k (if x.machine then exEcallM else exEcallU) 0
  | .ebreak => s.trapFree k exBreak
  | .mret =>
    if x.machine then
      let t := s.mret k
      t.retireTo k (t.hart k).pc
    else s.trapFree k exIllegal
  | .wfi => s.runWfi k len
  | .csr op rd imm src addr => s.runCsr k len op rd imm src addr
  | .fenceI => s.runHartOnly c len i
  | .lr _ _ _ => s.runHartOnly c len i
  | .sc _ _ _ _ => s.runHartOnly c len i
  | .amo _ _ _ _ _ => s.runHartOnly c len i
  | .cbo _ _ => s.runHartOnly c len i

/-- The core executes the instruction whose bits are `v`. -/
def State.runWord (s : State) (c : CoreIn) (v : Nat) : State :=
  match decodeRv c.rv32 v with
  | none => s.trapFree c.ix exIllegal
  | some i => s.runRv c (rvLen v) i

/-! ### Commands of the harts -/

/-- The instruction at hand accesses data through the caches or DRAM, so that its environment's check is met there and not at the
fetch. -/
def State.usesData (s : State) (h v : Nat) : Bool :=
  let dram := fun (a : Nat) =>
    match placeOf a with
    | .cached _ => true
    | .uncached _ => true
    | _ => false
  match decodeRv false v with
  | some (.load _ rs1 off _ _) => dram (s.dataAddr h rs1 off)
  | some (.store _ rs1 off _) => dram (s.dataAddr h rs1 off)
  | some (.lr _ rs1 _) => dram (s.dataAddr h rs1 0)
  | some (.sc _ rs1 _ _) => dram (s.dataAddr h rs1 0)
  | some (.amo _ _ rs1 _ _) => dram (s.dataAddr h rs1 0)
  | _ => false

/-- Hart `h` fetches and executes one instruction. -/
def State.hartStep (s : State) (h : Fin 8) (env : HartEnv) : State :=
  let s := env.victims.foldl (State.giveUp h) s
  let data := match s.hartFetch h env.refetch .clean with
    | (some v, _) => s.usesData h v
    | (none, _) => false
  match s.hartFetch h env.refetch (if data then .clean else env.chk) with
  | (none, s) => s.trapFree h exFetch
  | (some v, s) => s.runWord (.hart h env) v

/-- A hart that runs executes, unless it waits in WFI and nothing wakes it. -/
def State.whenAwake (s : State) (k : Nat) (f : State → State) : State :=
  if !s.runs k || ((s.hart k).wfi && !s.wakes k) then s
  else f (s.setHart k { s.hart k with wfi := false })

/-- HART_INSTRUCTION (R274, R275, R278, R281). -/
def execHartInstruction (h : Fin 8) (env : HartEnv) (s : State) : Host.Outcome State Fault Refusal :=
  done (s.whenAwake h (fun s => s.hartStep h env))

/-- HART_WINDOW_ACCESS (R276): the access that a load or store instruction of the hart makes; an access that is not allowed
raises the exception. A load answers its value. -/
def execHartWindowAccess (h : Fin 8) (store : Bool) (size : Fin 4) (off : BitVec 26) (v : BitVec 64) (s : State) :
    Host.Outcome State Fault Refusal :=
  done (s.whenAwake h (fun s =>
    if store then
      match s.hartStore h .clean size (0x40000000 + off.toNat) v with
      | (some e, s) => s.trapFree h e
      | (none, s) => s
    else
      match s.hartLoad h .clean size (0x40000000 + off.toNat) with
      | (.error e, s) => s.trapFree h e
      | (.ok v, s) => s.answer v))

/-- FENCE_I (R280). -/
def execFenceI (h : Fin 8) (s : State) : Host.Outcome State Fault Refusal :=
  done (s.whenAwake h (fun s => s.runFenceI h 4))

/-- CBO_CLEAN (R282). -/
def execCboClean (h : Fin 8) (rs1 : Fin 32) (s : State) : Host.Outcome State Fault Refusal :=
  done (s.whenAwake h (fun s => s.runCbo h 4 .clean rs1))

/-- CBO_FLUSH (R282). -/
def execCboFlush (h : Fin 8) (rs1 : Fin 32) (s : State) : Host.Outcome State Fault Refusal :=
  done (s.whenAwake h (fun s => s.runCbo h 4 .flush rs1))

/-- CBO_INVAL (R283, R284). -/
def execCboInval (h : Fin 8) (rs1 : Fin 32) (s : State) : Host.Outcome State Fault Refusal :=
  done (s.whenAwake h (fun s => s.runCbo h 4 .inval rs1))

/-- HART_NMI (R277): an NMI that Monel has sent is taken. -/
def execHartNmi (h : Fin 8) (s : State) : Host.Outcome State Fault Refusal :=
  done (if s.runs h && (s.hart h).nmi then s.takeNmi h (s.hartNmi h) else s)

/-- HART_INTERRUPT (R277): the hart takes the interrupt that is pending and enabled. -/
def execHartInterrupt (h : Fin 8) (s : State) : Host.Outcome State Fault Refusal :=
  done (if s.runs h then (match s.nextInterrupt h with
    | some i => s.interrupt h i
    | none => s) else s)

end Sys2Proof.Machine
end

