-- ==== Sys2Proof/Machine/Mgmt.lean ====
section
/-! DEFINITION. The commands of MGMT (R317, R489). -/

namespace Sys2Proof.Machine

open Sys2Proof

/-- MGMT fetches and executes one instruction. -/
def State.mgmtStep (s : State) (flash : BitVec 64) (chk : EccCheck) : State :=
  match s.mgmtFetch chk with
  | (none, s) => s.trapFree 8 exFetch
  | (some v, s) => s.runWord (.mgmt flash chk) v

/-- MGMT_INSTRUCTION (R489): `flash` is what a load from the QSPI flash returns, `chk` what the check of an SRAM access finds. -/
def execMgmtInstruction (flash : BitVec 64) (chk : EccCheck) (s : State) : Host.Outcome State Fault Refusal :=
  done (s.whenAwake 8 (fun s => s.mgmtStep flash chk))

/-- MGMT_INTERRUPT (R317, R324): an NMI that Monel has sent, else the external interrupt. -/
def execMgmtInterrupt (s : State) : Host.Outcome State Fault Refusal :=
  done (if !s.runs 8 then s
    else if (s.hart 8).nmi then s.takeNmi 8 (Config.mgmtNmi.setWidth 64)
    else
      match s.nextInterrupt 8 with
      | some i => s.interrupt 8 i
      | none => s)

end Sys2Proof.Machine
end

