-- ==== Sys2Proof/Machine/RegMsg.lean ====
section
/-! DEFINITION. Register accesses that reach the window as messages: the commands REG_WRITE, REG_READ and XFER of a queue pair (17,
R441), register messages of fabric peers (13, R354). -/

namespace Sys2Proof.Machine

open Sys2Proof

/-! ### Runs of accesses -/

/-- Whole writes by an agent in order, up to the first that is rejected: the writes done, the reason of the rejection, the state.
-/
def State.writeRun (a : Agent) : List (Nat × Word) → Nat → State → Nat × Option Reason × State
  | [], n, s => (n, none, s)
  | (o, v) :: t, n, s =>
    match s.windowReason a o true false (v.setWidth 64) with
    | some e => (n, some e, s.windowWrite a o true false (v.setWidth 64))
    | none => State.writeRun a t (n + 1) (s.windowWrite a o true false (v.setWidth 64))

/-- Reads of `n` consecutive registers by an agent. -/
def State.readRun (a : Agent) (off : Nat) : Nat → State → List Word × State
  | 0, s => ([], s)
  | n + 1, s =>
    match s.readWord a off with
    | (v, s) =>
      match State.readRun a (off + 4) n s with
      | (l, s) => (v :: l, s)

/-! ### Commands of a queue pair (R441) -/

/-- A register offset of a command is in order. -/
def cmdOffsetOk (o : Nat) : Bool := o % 4 == 0 && decide (o < 0x4000000)

/-- REG_WRITE (R441). -/
def execHqRegWrite (q : Fin 16) (s : State) : Host.Outcome State Fault Refusal :=
  done (s.hqExec q.val 1 (fun c s =>
    let n := cmdNat c 8 1
    let pairs := (List.range (min n 6)).map (fun i => (cmdNat c (16 + 8 * i) 4, BitVec.ofNat 32 (cmdNat c (20 + 8 * i) 4)))
    if 6 < n || !pairs.all (fun x => cmdOffsetOk x.1) then s.hqEnd q.val hsBadField 0
    else
      match State.writeRun (.hostQueue q) pairs 0 s with
      | (k, none, s) => s.hqEnd q.val hsOk (BitVec.ofNat 64 k)
      | (k, some e, s) => s.hqEnd q.val hsRejected (BitVec.ofNat 64 (k + 256 * e.code))))

/-- REG_READ (R441, R445): the values go to host memory. It waits while no bus-master request may be issued. -/
def execHqRegRead (q : Fin 16) (s : State) : Host.Outcome State Fault Refusal :=
  done (s.hqExec q.val 2 (fun c s =>
    let n := cmdNat c 8 1
    let o := cmdNat c 12 4
    let h := cmdNat c 16 8
    if 16 < n || !cmdOffsetOk o || (n != 0 && !cmdOffsetOk (o + 4 * (n - 1))) || h % 4 != 0 then s.hqEnd q.val hsBadField 0
    else if n = 0 then s.hqEnd q.val hsOk 0
    else if !s.busMaster then s
    else
      match State.readRun (.hostQueue q) o n s with
      | (l, s) =>
        match s.hqWrite q.val h (l.flatMap (fun v => leBytes 4 v.toNat)) with
        | (true, s) => s.hqEnd q.val hsOk (BitVec.ofNat 64 n)
        | (false, s) => s))

/-- The writes that program channel `ch` for an XFER. -/
def State.xferWrites (s : State) (ch : Nat) (c : BitVec 512) : List (Nat × Word) :=
  let n := ch / 8
  let k := ch % 8
  let toHost := c.getLsbD 64
  let host := (cmdNat c 16 4, cmdNat c 20 4)
  let dram := (cmdNat c 24 4, cmdNat c 28 4)
  let src := if toHost then dram else host
  let dst := if toHost then host else dram
  [(R.DMA_CH_SPACE n k, if toHost then 0x100 else 1), (R.DMA_CH_SRC_LO n k, src.1), (R.DMA_CH_SRC_HI n k, src.2),
    (R.DMA_CH_DST_LO n k, dst.1), (R.DMA_CH_DST_HI n k, dst.2), (R.DMA_CH_ACNT n k, cmdNat c 32 4),
    (R.DMA_CH_BCCNT n k, 0x10001), (R.DMA_CH_CRC_SEED n k, cmdNat c 36 4),
    (R.DMA_CH_CTRL n k, ((s.reg (R.DMA_CH_CTRL n k)).toNat &&& 0x3C) + 1)].map (fun x => (x.1, BitVec.ofNat 32 x.2))

/-- The RESULT of an XFER on channel `ch`. -/
def State.xferResult (s : State) (ch : Nat) : BitVec 64 :=
  BitVec.ofNat 64 (s.fld (F.DMA_CH_STAT_STATUS (ch / 8) (ch % 8)) % 16 * 2 ^ 32 + (s.reg (R.DMA_CH_CRC (ch / 8) (ch % 8))).toNat)

/-- XFER (R441): the channel is programmed and started; the command ends with the transfer. -/
def execHqXfer (q : Fin 16) (s : State) : Host.Outcome State Fault Refusal :=
  done (s.hqExec q.val 3 (fun c s =>
    let ch := s.fld (F.HQ_Q_CFG_DMA_CH q.val)
    let stat := s.fld (F.DMA_CH_STAT_STATUS (ch / 8) (ch % 8))
    if (s.hq q.val).started then
      (if s.dmaActive ch then s else s.hqEnd q.val (if stat = dmaOk then hsOk else hsXferErr) (s.xferResult ch))
    else if !s.flag (F.HQ_Q_CFG_DMA_EN q.val) then s.hqFree q.val hsBadField
    else if cmdNat c 32 4 = 0 then s.hqEnd q.val hsOk (s.xferResult ch)
    else if s.dmaActive ch then s.hqEnd q.val hsBusy (s.xferResult ch)
    else
      match State.writeRun (.hostQueue q) (s.xferWrites ch c) 0 s with
      | (_, some _, s) => s.hqEnd q.val hsRejected (s.xferResult ch)
      | (_, none, s) => s.setHq q.val { s.hq q.val with started := true }))

/-! ### Register messages of fabric peers (R354) -/

/-- Writes of a register message, each in turn; the reason and the index of the first rejected register. -/
def State.writeMsg (a : Agent) : List (Nat × Word) → Nat → Option (Reason × Nat) → State → Option (Reason × Nat) × State
  | [], _, bad, s => (bad, s)
  | (o, v) :: t, i, bad, s =>
    let bad := bad.or ((s.windowReason a o true false (v.setWidth 64)).map (fun e => (e, i)))
    State.writeMsg a t (i + 1) bad (s.windowWrite a o true false (v.setWidth 64))

/-- A register message is executed as agent FABRIC: the answer, and the state. In QUARANTINE it has no effect. -/
def State.peerRequest (s : State) (src : BitVec 10) (r : RegReq) : RegRsp × State :=
  let a := Agent.fabric src.toFin
  let n := r.count.val + 1
  let off := r.offset.toNat * 4
  if s.mode == mQuarantine then
    ({ tag := r.tag, result := BitVec.ofNat 3 rmQuar, reason := 0, index := 0, data := [] }, s)
  else
    let s := s.count (R.xx_BLK_COUNT P.FAB)
    if r.write then
      match State.writeMsg a ((List.range n).map (fun i => (off + 4 * i, r.data.getD i 0))) 0 none s with
      | (none, s) => ({ tag := r.tag, result := 0, reason := 0, index := 0, data := [] }, s)
      | (some (e, i), s) =>
        ({ tag := r.tag, result := BitVec.ofNat 3 rmRejected, reason := BitVec.ofNat 4 e.code, index := BitVec.ofNat 5 i, data := [] }, s)
    else
      match State.readRun a off n s with
      | (l, s) => ({ tag := r.tag, result := 0, reason := 0, index := 0, data := l }, s)

/-- RREQ (R354). -/
def execPktRreq (f : Fin 6) (seq : BitVec 12) (hd : PktHead) (r : RegReq) (s : State) : Host.Outcome State Fault Refusal :=
  done (s.rxUnicast f seq ⟨hd, .rreq r⟩ (fun s =>
    match s.peerRequest hd.src r with
    | (x, s) => s.sendTo hd.src.toNat (.rrsp x)))

end Sys2Proof.Machine
end

