-- ==== Sys2Proof/Machine/Dispatch.lean ====
section
/-! DEFINITION. The dispatch of commands: one arm per constructor of Instr, each a direct call of its meaning. -/

namespace Sys2Proof.Machine

open Sys2Proof

def exec (i : Instr) (s : State) : Host.Outcome State Fault Refusal :=
  match i with
  | .pwrgdAssert => Sys2Proof.Machine.execPwrgdAssert s
  | .pwrgdDeassert => Sys2Proof.Machine.execPwrgdDeassert s
  | .rstNAssert => Sys2Proof.Machine.execRstNAssert s
  | .rstNRelease => Sys2Proof.Machine.execRstNRelease s
  | .rstChip a key => Sys2Proof.Machine.execRstChip a key s
  | .chipResetEnd => Sys2Proof.Machine.execChipResetEnd s
  | .bootRomSequence b => Sys2Proof.Machine.execBootRomSequence b s
  | .devBootDone a => Sys2Proof.Machine.execDevBootDone a s
  | .devBootTrained a => Sys2Proof.Machine.execDevBootTrained a s
  | .railOutOfRange rail => Sys2Proof.Machine.execRailOutOfRange rail s
  | .tpllLockLoss => Sys2Proof.Machine.execTpllLockLoss s
  | .syspllLockLoss pll => Sys2Proof.Machine.execSyspllLockLoss pll s
  | .thermWarn t => Sys2Proof.Machine.execThermWarn t s
  | .thermTrip t => Sys2Proof.Machine.execThermTrip t s
  | .devModeReqCalibrate a => Sys2Proof.Machine.execDevModeReqCalibrate a s
  | .devModeReqReady a => Sys2Proof.Machine.execDevModeReqReady a s
  | .devModeReqDiagnose a => Sys2Proof.Machine.execDevModeReqDiagnose a s
  | .devModeReqService a => Sys2Proof.Machine.execDevModeReqService a s
  | .devModeReqDoze a => Sys2Proof.Machine.execDevModeReqDoze a s
  | .devModeReqHibernate a => Sys2Proof.Machine.execDevModeReqHibernate a s
  | .sleepSample => Sys2Proof.Machine.execSleepSample s
  | .sleepDrainTimeout => Sys2Proof.Machine.execSleepDrainTimeout s
  | .wakeLatchSet src => Sys2Proof.Machine.execWakeLatchSet src s
  | .wakeTimerExpire => Sys2Proof.Machine.execWakeTimerExpire s
  | .wakeDozeComplete ticks => Sys2Proof.Machine.execWakeDozeComplete ticks s
  | .wakeHibernateComplete lockUs ticks => Sys2Proof.Machine.execWakeHibernateComplete lockUs ticks s
  | .trigInEvent pin rising => Sys2Proof.Machine.execTrigInEvent pin rising s
  | .syncInEvent rising => Sys2Proof.Machine.execSyncInEvent rising s
  | .devSyncPulse a => Sys2Proof.Machine.execDevSyncPulse a s
  | .trigOutPulseEnd pin src => Sys2Proof.Machine.execTrigOutPulseEnd pin src s
  | .qspiCommand c => Sys2Proof.Machine.execQspiCommand c s
  | .smbusMode => Sys2Proof.Machine.execSmbusMode s
  | .smbusTemp => Sys2Proof.Machine.execSmbusTemp s
  | .smbusRail => Sys2Proof.Machine.execSmbusRail s
  | .smbusFirst => Sys2Proof.Machine.execSmbusFirst s
  | .smbusUid => Sys2Proof.Machine.execSmbusUid s
  | .smbusAlive => Sys2Proof.Machine.execSmbusAlive s
  | .smbusCause => Sys2Proof.Machine.execSmbusCause s
  | .smbusOther code => Sys2Proof.Machine.execSmbusOther code s
  | .tapReset => Sys2Proof.Machine.execTapReset s
  | .tapExtest cells balls => Sys2Proof.Machine.execTapExtest cells balls s
  | .tapSamplePreload cells balls => Sys2Proof.Machine.execTapSamplePreload cells balls s
  | .tapIdcode => Sys2Proof.Machine.execTapIdcode s
  | .tapClamp => Sys2Proof.Machine.execTapClamp s
  | .tapHighz => Sys2Proof.Machine.execTapHighz s
  | .tapFuseRead => Sys2Proof.Machine.execTapFuseRead s
  | .tapFuseAddr addr => Sys2Proof.Machine.execTapFuseAddr addr s
  | .tapFuseProg field word data supplyOk => Sys2Proof.Machine.execTapFuseProg field word data supplyOk s
  | .tapFuseProgDone verifyOk => Sys2Proof.Machine.execTapFuseProgDone verifyOk s
  | .tapFuseStat => Sys2Proof.Machine.execTapFuseStat s
  | .tapDebug dmi => Sys2Proof.Machine.execTapDebug dmi s
  | .tapBypass tdi => Sys2Proof.Machine.execTapBypass tdi s
  | .registerWrite a off be v => Sys2Proof.Machine.execRegisterWrite a off be v s
  | .reservedWrite a off v => Sys2Proof.Machine.execReservedWrite a off v s
  | .rcRead a off => Sys2Proof.Machine.execRcRead a off s
  | .coherentLoRead a off => Sys2Proof.Machine.execCoherentLoRead a off s
  | .blockReset a page => Sys2Proof.Machine.execBlockReset a page s
  | .blockResetEnd page => Sys2Proof.Machine.execBlockResetEnd page s
  | .faultInject a page bits => Sys2Proof.Machine.execFaultInject a page bits s
  | .ownerWrite a page v => Sys2Proof.Machine.execOwnerWrite a page v s
  | .shadowWrite a off v => Sys2Proof.Machine.execShadowWrite a off v s
  | .tableWrite a off wide v => Sys2Proof.Machine.execTableWrite a off wide v s
  | .commitRequest a page expect => Sys2Proof.Machine.execCommitRequest a page expect s
  | .shadowTransfer page channels => Sys2Proof.Machine.execShadowTransfer page channels s
  | .wsqEmit n r => Sys2Proof.Machine.execWsqEmit n r s
  | .wsqRepeat n r count => Sys2Proof.Machine.execWsqRepeat n r count s
  | .wsqLoop n r exitOfs count => Sys2Proof.Machine.execWsqLoop n r exitOfs count s
  | .wsqEndloop n r => Sys2Proof.Machine.execWsqEndloop n r s
  | .wsqCall n r target => Sys2Proof.Machine.execWsqCall n r target s
  | .wsqRet n r => Sys2Proof.Machine.execWsqRet n r s
  | .wsqJump n r target => Sys2Proof.Machine.execWsqJump n r target s
  | .wsqJumpc n r cond target => Sys2Proof.Machine.execWsqJumpc n r cond target s
  | .wsqMatch n r timeout => Sys2Proof.Machine.execWsqMatch n r timeout s
  | .wsqWait n r cond noTimeout timeout => Sys2Proof.Machine.execWsqWait n r cond noTimeout timeout s
  | .wsqFlagSet n r mask => Sys2Proof.Machine.execWsqFlagSet n r mask s
  | .wsqFlagClear n r mask => Sys2Proof.Machine.execWsqFlagClear n r mask s
  | .wsqFlagInvert n r mask => Sys2Proof.Machine.execWsqFlagInvert n r mask s
  | .wsqCclr n r => Sys2Proof.Machine.execWsqCclr n r s
  | .wsqTclr n r mask => Sys2Proof.Machine.execWsqTclr n r mask s
  | .wsqSignal n r thread eflag => Sys2Proof.Machine.execWsqSignal n r thread eflag s
  | .wsqCapon n r kind units => Sys2Proof.Machine.execWsqCapon n r kind units s
  | .wsqCapoff n r kind units => Sys2Proof.Machine.execWsqCapoff n r kind units s
  | .wsqMark n r id => Sys2Proof.Machine.execWsqMark n r id s
  | .wsqHalt n r => Sys2Proof.Machine.execWsqHalt n r s
  | .wsqTapstate n r target dwell force => Sys2Proof.Machine.execWsqTapstate n r target dwell force s
  | .wsqTapshift n r ir pauseEnd cmp bits => Sys2Proof.Machine.execWsqTapshift n r ir pauseEnd cmp bits s
  | .wsqSenttx n r operands => Sys2Proof.Machine.execWsqSenttx n r operands s
  | .wsqSentrx n r operands => Sys2Proof.Machine.execWsqSentrx n r operands s
  | .customInstruction n opcode r operands => Sys2Proof.Machine.execCustomInstruction n opcode r operands s
  | .decisionPoint n => Sys2Proof.Machine.execDecisionPoint n s
  | .blockBoundary n => Sys2Proof.Machine.execBlockBoundary n s
  | .boundaryStall n line => Sys2Proof.Machine.execBoundaryStall n line s
  | .midBlockStall n line => Sys2Proof.Machine.execMidBlockStall n line s
  | .seqLate n => Sys2Proof.Machine.execSeqLate n s
  | .holdUnitDecision n => Sys2Proof.Machine.execHoldUnitDecision n s
  | .holdLimitReached n => Sys2Proof.Machine.execHoldLimitReached n s
  | .pauseUnitDecision n => Sys2Proof.Machine.execPauseUnitDecision n s
  | .condRelease n present => Sys2Proof.Machine.execCondRelease n present s
  | .seqStart a n src trig => Sys2Proof.Machine.execSeqStart a n src trig s
  | .seqTriggerStart n => Sys2Proof.Machine.execSeqTriggerStart n s
  | .seqPause a n => Sys2Proof.Machine.execSeqPause a n s
  | .seqResume a n => Sys2Proof.Machine.execSeqResume a n s
  | .seqAbort a n => Sys2Proof.Machine.execSeqAbort a n s
  | .seqGang a n last => Sys2Proof.Machine.execSeqGang a n last s
  | .seqFlagSet a n mask => Sys2Proof.Machine.execSeqFlagSet a n mask s
  | .seqFlagClr a n mask => Sys2Proof.Machine.execSeqFlagClr a n mask s
  | .seqTrigPendClear a n mask => Sys2Proof.Machine.execSeqTrigPendClear a n mask s
  | .uwdogExpire n => Sys2Proof.Machine.execUwdogExpire n s
  | .uopNop n chk => Sys2Proof.Machine.execUopNop n chk s
  | .uopAdd n rd ra rb chk => Sys2Proof.Machine.execUopAdd n rd ra rb chk s
  | .uopSub n rd ra rb chk => Sys2Proof.Machine.execUopSub n rd ra rb chk s
  | .uopAnd n rd ra rb chk => Sys2Proof.Machine.execUopAnd n rd ra rb chk s
  | .uopOr n rd ra rb chk => Sys2Proof.Machine.execUopOr n rd ra rb chk s
  | .uopXor n rd ra rb chk => Sys2Proof.Machine.execUopXor n rd ra rb chk s
  | .uopShl n rd ra imm chk => Sys2Proof.Machine.execUopShl n rd ra imm chk s
  | .uopShr n rd ra imm chk => Sys2Proof.Machine.execUopShr n rd ra imm chk s
  | .uopAddi n rd ra imm chk => Sys2Proof.Machine.execUopAddi n rd ra imm chk s
  | .uopOri n rd ra imm chk => Sys2Proof.Machine.execUopOri n rd ra imm chk s
  | .uopLui n rd imm chk => Sys2Proof.Machine.execUopLui n rd imm chk s
  | .uopMovs n rd sel chk => Sys2Proof.Machine.execUopMovs n rd sel chk s
  | .uopMovd n ra sel chk => Sys2Proof.Machine.execUopMovd n ra sel chk s
  | .uopLdp n rd ra imm chk => Sys2Proof.Machine.execUopLdp n rd ra imm chk s
  | .uopCrc4Step n rd ra rb chk => Sys2Proof.Machine.execUopCrc4Step n rd ra rb chk s
  | .uopCrc6Step n rd ra rb chk => Sys2Proof.Machine.execUopCrc6Step n rd ra rb chk s
  | .uopBr n cond ra target chk => Sys2Proof.Machine.execUopBr n cond ra target chk s
  | .uopCallu n target chk => Sys2Proof.Machine.execUopCallu n target chk s
  | .uopRetu n chk => Sys2Proof.Machine.execUopRetu n chk s
  | .uopTstc n chk => Sys2Proof.Machine.execUopTstc n chk s
  | .uopSeqop n ra imm chk => Sys2Proof.Machine.execUopSeqop n ra imm chk s
  | .uopSigSignal n ra chk => Sys2Proof.Machine.execUopSigSignal n ra chk s
  | .uopSigMark n ra chk => Sys2Proof.Machine.execUopSigMark n ra chk s
  | .uopSigCapon n ra chk => Sys2Proof.Machine.execUopSigCapon n ra chk s
  | .uopSigCapoff n ra chk => Sys2Proof.Machine.execUopSigCapoff n ra chk s
  | .uopOvl n slot ra kind code0 code1 codex chk => Sys2Proof.Machine.execUopOvl n slot ra kind code0 code1 codex chk s
  | .uopOpush n ra imm chk => Sys2Proof.Machine.execUopOpush n ra imm chk s
  | .uopEmitd n chk => Sys2Proof.Machine.execUopEmitd n chk s
  | .uopBoundNext n chk => Sys2Proof.Machine.execUopBoundNext n chk s
  | .uopBoundAgain n chk => Sys2Proof.Machine.execUopBoundAgain n chk s
  | .uopStop n cause chk => Sys2Proof.Machine.execUopStop n cause chk s
  | .uopStk n r sel imm chk => Sys2Proof.Machine.execUopStk n r sel imm chk s
  | .mcDrain a n => Sys2Proof.Machine.execMcDrain a n s
  | .mcRelease a n chk => Sys2Proof.Machine.execMcRelease a n chk s
  | .mcReload a n => Sys2Proof.Machine.execMcReload a n s
  | .mcReloadDone n masterOk => Sys2Proof.Machine.execMcReloadDone n masterOk s
  | .mcPloadData a v => Sys2Proof.Machine.execMcPloadData a v s
  | .mcPloadFin a v => Sys2Proof.Machine.execMcPloadFin a v s
  | .cycleStart n chk => Sys2Proof.Machine.execCycleStart n chk s
  | .edgePlace pin den => Sys2Proof.Machine.execEdgePlace pin den s
  | .strobeSample pin levels => Sys2Proof.Machine.execStrobeSample pin levels s
  | .sbFrameStart a n wr chip addr => Sys2Proof.Machine.execSbFrameStart a n wr chip addr s
  | .sbFrameEnd n crcOk data => Sys2Proof.Machine.execSbFrameEnd n crcOk data s
  | .peDiagStart a n => Sys2Proof.Machine.execPeDiagStart a n s
  | .peDiagAbort a n => Sys2Proof.Machine.execPeDiagAbort a n s
  | .peDiagEnd n errs => Sys2Proof.Machine.execPeDiagEnd n errs s
  | .pgrEnable a => Sys2Proof.Machine.execPgrEnable a s
  | .pgrMap a count hold verify => Sys2Proof.Machine.execPgrMap a count hold verify s
  | .pgrUnmap a count => Sys2Proof.Machine.execPgrUnmap a count s
  | .pgrPreload a count => Sys2Proof.Machine.execPgrPreload a count s
  | .pgrRelease a count => Sys2Proof.Machine.execPgrRelease a count s
  | .pgrRefetch a count => Sys2Proof.Machine.execPgrRefetch a count s
  | .pgrQuery a => Sys2Proof.Machine.execPgrQuery a s
  | .pgrMapOpDone => Sys2Proof.Machine.execPgrMapOpDone s
  | .walkerStep n => Sys2Proof.Machine.execWalkerStep n s
  | .fetchFrameObtained page => Sys2Proof.Machine.execFetchFrameObtained page s
  | .pageFetchArrival page refused data => Sys2Proof.Machine.execPageFetchArrival page refused data s
  | .fetchTimeout page => Sys2Proof.Machine.execFetchTimeout page s
  | .multicastPageDelivery node spage page data => Sys2Proof.Machine.execMulticastPageDelivery node spage page data s
  | .lineFill n line chk => Sys2Proof.Machine.execLineFill n line chk s
  | .pgrSqHistClear a n => Sys2Proof.Machine.execPgrSqHistClear a n s
  | .pgrSqHseed a n taken reps => Sys2Proof.Machine.execPgrSqHseed a n taken reps s
  | .vcSqCfg a n pinLines slices => Sys2Proof.Machine.execVcSqCfg a n pinLines slices s
  | .capPRelease a u k => Sys2Proof.Machine.execCapPRelease a u k s
  | .capPFlogRd a u k v => Sys2Proof.Machine.execCapPFlogRd a u k v s
  | .captureCycleProcess u => Sys2Proof.Machine.execCaptureCycleProcess u s
  | .autoTriggerTimeout u => Sys2Proof.Machine.execAutoTriggerTimeout u s
  | .rearmEnd u => Sys2Proof.Machine.execRearmEnd u s
  | .trgTimerExpire u k => Sys2Proof.Machine.execTrgTimerExpire u k s
  | .tuArm a u => Sys2Proof.Machine.execTuArm a u s
  | .tuDisarm a u => Sys2Proof.Machine.execTuDisarm a u s
  | .tuEnWrite a u en => Sys2Proof.Machine.execTuEnWrite a u en s
  | .frontEndEdge src page rise sub fine fines => Sys2Proof.Machine.execFrontEndEdge src page rise sub fine fines s
  | .tuTimeout u => Sys2Proof.Machine.execTuTimeout u s
  | .decOutputSample ch us chk => Sys2Proof.Machine.execDecOutputSample ch us chk s
  | .decEn a ch en => Sys2Proof.Machine.execDecEn a ch en s
  | .decRestart a ch => Sys2Proof.Machine.execDecRestart a ch s
  | .clockLossTimeout n => Sys2Proof.Machine.execClockLossTimeout n s
  | .modClockResume n => Sys2Proof.Machine.execModClockResume n s
  | .freqMeasureInterval n edges => Sys2Proof.Machine.execFreqMeasureInterval n edges s
  | .decSwapRequest a ch target xfade => Sys2Proof.Machine.execDecSwapRequest a ch target xfade s
  | .coefBankWrite a ch bank word v => Sys2Proof.Machine.execCoefBankWrite a ch bank word v s
  | .synStart a n => Sys2Proof.Machine.execSynStart a n s
  | .synStartInstant n chk => Sys2Proof.Machine.execSynStartInstant n chk s
  | .synSampleBoundary n chk => Sys2Proof.Machine.execSynSampleBoundary n chk s
  | .synDrvEdge n => Sys2Proof.Machine.execSynDrvEdge n s
  | .synStop a n => Sys2Proof.Machine.execSynStop a n s
  | .synEnClear a n => Sys2Proof.Machine.execSynEnClear a n s
  | .synJump a n target atEnd => Sys2Proof.Machine.execSynJump a n target atEnd s
  | .hartEnable a h => Sys2Proof.Machine.execHartEnable a h s
  | .hartInstruction h env => Sys2Proof.Machine.execHartInstruction h env s
  | .hartWindowAccess h store size off v => Sys2Proof.Machine.execHartWindowAccess h store size off v s
  | .fenceI h => Sys2Proof.Machine.execFenceI h s
  | .cboClean h rs1 => Sys2Proof.Machine.execCboClean h rs1 s
  | .cboFlush h rs1 => Sys2Proof.Machine.execCboFlush h rs1 s
  | .cboInval h rs1 => Sys2Proof.Machine.execCboInval h rs1 s
  | .hartNmi h => Sys2Proof.Machine.execHartNmi h s
  | .hartInterrupt h => Sys2Proof.Machine.execHartInterrupt h s
  | .hartSchedWait a h => Sys2Proof.Machine.execHartSchedWait a h s
  | .hartSchedYield a h => Sys2Proof.Machine.execHartSchedYield a h s
  | .hartSchedEnd a h => Sys2Proof.Machine.execHartSchedEnd a h s
  | .hartSchedNext a h => Sys2Proof.Machine.execHartSchedNext a h s
  | .hartSchedPreempted a h => Sys2Proof.Machine.execHartSchedPreempted a h s
  | .schedArm a k id => Sys2Proof.Machine.execSchedArm a k id s
  | .schedCancel a k id race => Sys2Proof.Machine.execSchedCancel a k id race s
  | .schedSetflag a k id f => Sys2Proof.Machine.execSchedSetflag a k id f s
  | .schedClrflag a k id f => Sys2Proof.Machine.execSchedClrflag a k id f s
  | .threadWaitTimeout t => Sys2Proof.Machine.execThreadWaitTimeout t s
  | .nodeDispatch => Sys2Proof.Machine.execNodeDispatch s
  | .nodeComplete u fail => Sys2Proof.Machine.execNodeComplete u fail s
  | .traceEnable a pattern => Sys2Proof.Machine.execTraceEnable a pattern s
  | .hartCntClr a h => Sys2Proof.Machine.execHartCntClr a h s
  | .hicSwi a bits => Sys2Proof.Machine.execHicSwi a bits s
  | .hicClaim a t => Sys2Proof.Machine.execHicClaim a t s
  | .hicComplete a t src => Sys2Proof.Machine.execHicComplete a t src s
  | .msixIssue v => Sys2Proof.Machine.execMsixIssue v s
  | .holdoffExpire t => Sys2Proof.Machine.execHoldoffExpire t s
  | .faultTake => Sys2Proof.Machine.execFaultTake s
  | .chipResetDelayExpire => Sys2Proof.Machine.execChipResetDelayExpire s
  | .fltAck a src => Sys2Proof.Machine.execFltAck a src s
  | .fenceEnd page => Sys2Proof.Machine.execFenceEnd page s
  | .fltKick a key => Sys2Proof.Machine.execFltKick a key s
  | .kickMissed => Sys2Proof.Machine.execKickMissed s
  | .aliveToggle => Sys2Proof.Machine.execAliveToggle s
  | .fltErrnRelease a => Sys2Proof.Machine.execFltErrnRelease a s
  | .fltDevInj a src => Sys2Proof.Machine.execFltDevInj a src s
  | .fltLogRd a v => Sys2Proof.Machine.execFltLogRd a v s
  | .osTs1 f lane num slock offFreq => Sys2Proof.Machine.execOsTs1 f lane num slock offFreq s
  | .osTs2 f lane num peer => Sys2Proof.Machine.execOsTs2 f lane num peer s
  | .osEqr f lane pre post => Sys2Proof.Machine.execOsEqr f lane pre post s
  | .osEqa f lane pre post more => Sys2Proof.Machine.execOsEqa f lane pre post more s
  | .osEqd f lane => Sys2Proof.Machine.execOsEqd f lane s
  | .osEios f => Sys2Proof.Machine.execOsEios f s
  | .osFts f => Sys2Proof.Machine.execOsFts f s
  | .osTsx f num => Sys2Proof.Machine.execOsTsx f num s
  | .osLbk f enter => Sys2Proof.Machine.execOsLbk f enter s
  | .osQuar f => Sys2Proof.Machine.execOsQuar f s
  | .osSleep f => Sys2Proof.Machine.execOsSleep f s
  | .ts1Beacon f => Sys2Proof.Machine.execTs1Beacon f s
  | .trainLimitExpire f => Sys2Proof.Machine.execTrainLimitExpire f s
  | .lcwAck f seq => Sys2Proof.Machine.execLcwAck f seq s
  | .lcwNak f seq mask => Sys2Proof.Machine.execLcwNak f seq mask s
  | .lcwCredit f page n => Sys2Proof.Machine.execLcwCredit f page n s
  | .linkIdle f => Sys2Proof.Machine.execLinkIdle f s
  | .badPacket f seq mask => Sys2Proof.Machine.execBadPacket f seq mask s
  | .linkReplayTimeout f => Sys2Proof.Machine.execLinkReplayTimeout f s
  | .burstTimeout f => Sys2Proof.Machine.execBurstTimeout f s
  | .electricalIdleEnter f => Sys2Proof.Machine.execElectricalIdleEnter f s
  | .idleExitTimeout f => Sys2Proof.Machine.execIdleExitTimeout f s
  | .fpLbWrite a f v => Sys2Proof.Machine.execFpLbWrite a f v s
  | .feLbTimeout f => Sys2Proof.Machine.execFeLbTimeout f s
  | .fpRetrain a f => Sys2Proof.Machine.execFpRetrain a f s
  | .pktLinkinfo f seq info => Sys2Proof.Machine.execPktLinkinfo f seq info s
  | .pktRoute f seq root tree vec => Sys2Proof.Machine.execPktRoute f seq root tree vec s
  | .pktJoin f seq l => Sys2Proof.Machine.execPktJoin f seq l s
  | .pktTsync f seq t2 t3 => Sys2Proof.Machine.execPktTsync f seq t2 t3 s
  | .pktAssign f seq m => Sys2Proof.Machine.execPktAssign f seq m s
  | .pktRreq f seq hd r => Sys2Proof.Machine.execPktRreq f seq hd r s
  | .pktRrsp f seq hd r => Sys2Proof.Machine.execPktRrsp f seq hd r s
  | .pktUnreach f seq hd lost => Sys2Proof.Machine.execPktUnreach f seq hd lost s
  | .pktPreq f seq hd spage grp mc => Sys2Proof.Machine.execPktPreq f seq hd spage grp mc s
  | .pktPbreq f seq hd spage grp mc count => Sys2Proof.Machine.execPktPbreq f seq hd spage grp mc count s
  | .pktPdata f seq hd spage index last data => Sys2Proof.Machine.execPktPdata f seq hd spage index last data s
  | .pktPrep f seq hd spage index last word => Sys2Proof.Machine.execPktPrep f seq hd spage index last word s
  | .pktPnak f seq hd spage cause => Sys2Proof.Machine.execPktPnak f seq hd spage cause s
  | .pageDeliverySend => Sys2Proof.Machine.execPageDeliverySend s
  | .electionSettle => Sys2Proof.Machine.execElectionSettle s
  | .assignCollectEnd => Sys2Proof.Machine.execAssignCollectEnd s
  | .fabRmRead a count => Sys2Proof.Machine.execFabRmRead a count s
  | .fabRmWrite a count => Sys2Proof.Machine.execFabRmWrite a count s
  | .fabRmTimeout => Sys2Proof.Machine.execFabRmTimeout s
  | .fabSpanEnable a k v => Sys2Proof.Machine.execFabSpanEnable a k v s
  | .fabSpanGo a k => Sys2Proof.Machine.execFabSpanGo a k s
  | .csync f d t => Sys2Proof.Machine.execCsync f d t s
  | .csyncStart k => Sys2Proof.Machine.execCsyncStart k s
  | .condSend k => Sys2Proof.Machine.execCondSend k s
  | .detCond f d body matchRep => Sys2Proof.Machine.execDetCond f d body matchRep s
  | .detStall f d cycle => Sys2Proof.Machine.execDetStall f d cycle s
  | .detPause f d cycle => Sys2Proof.Machine.execDetPause f d cycle s
  | .detResume f d cycle => Sys2Proof.Machine.execDetResume f d cycle s
  | .detAbort f d cycle => Sys2Proof.Machine.execDetAbort f d cycle s
  | .detFault f d cycle => Sys2Proof.Machine.execDetFault f d cycle s
  | .detTrig f d k t => Sys2Proof.Machine.execDetTrig f d k t s
  | .detSyncLate f d => Sys2Proof.Machine.execDetSyncLate f d s
  | .spanNoticeApply k => Sys2Proof.Machine.execSpanNoticeApply k s
  | .fabTrigSend a bits => Sys2Proof.Machine.execFabTrigSend a bits s
  | .fabricTrigRaise k => Sys2Proof.Machine.execFabricTrigRaise k s
  | .timeExchange p => Sys2Proof.Machine.execTimeExchange p s
  | .exchangeTimeout p => Sys2Proof.Machine.execExchangeTimeout p s
  | .holdoverTimeout => Sys2Proof.Machine.execHoldoverTimeout s
  | .timeSet a => Sys2Proof.Machine.execTimeSet a s
  | .trimSlewStep => Sys2Proof.Machine.execTrimSlewStep s
  | .pgEnable a k => Sys2Proof.Machine.execPgEnable a k s
  | .pulseFire k => Sys2Proof.Machine.execPulseFire k s
  | .timeEsHeadRead a => Sys2Proof.Machine.execTimeEsHeadRead a s
  | .dramRead addr r chk act => Sys2Proof.Machine.execDramRead addr r chk act s
  | .dramWrite addr r data act => Sys2Proof.Machine.execDramWrite addr r data act s
  | .scrubRead n addr chk last => Sys2Proof.Machine.execScrubRead n addr chk last s
  | .caParityAlert n o => Sys2Proof.Machine.execCaParityAlert n o s
  | .caReplayTimeout n => Sys2Proof.Machine.execCaReplayTimeout n s
  | .idleSelfRefreshEnter n => Sys2Proof.Machine.execIdleSelfRefreshEnter n s
  | .rhThrottleEnd n => Sys2Proof.Machine.execRhThrottleEnd n s
  | .rhWindowEnd n => Sys2Proof.Machine.execRhWindowEnd n s
  | .dramInit a n => Sys2Proof.Machine.execDramInit a n s
  | .dramTrnCsSweep a n rank sub => Sys2Proof.Machine.execDramTrnCsSweep a n rank sub s
  | .dramTrnCaSweep a n rank sub => Sys2Proof.Machine.execDramTrnCaSweep a n rank sub s
  | .dramTrnMrw a n rank sub => Sys2Proof.Machine.execDramTrnMrw a n rank sub s
  | .dramTrnMrr a n rank sub => Sys2Proof.Machine.execDramTrnMrr a n rank sub s
  | .dramTrnWlevel a n rank sub => Sys2Proof.Machine.execDramTrnWlevel a n rank sub s
  | .dramTrnRdSweep a n rank sub => Sys2Proof.Machine.execDramTrnRdSweep a n rank sub s
  | .dramTrnWrSweep a n rank sub => Sys2Proof.Machine.execDramTrnWrSweep a n rank sub s
  | .dramTrnApply a n rank sub => Sys2Proof.Machine.execDramTrnApply a n rank sub s
  | .dramTrnVerify a n rank sub => Sys2Proof.Machine.execDramTrnVerify a n rank sub s
  | .dramResume a n rank sub => Sys2Proof.Machine.execDramResume a n rank sub s
  | .dramTrnRverify a n rank sub => Sys2Proof.Machine.execDramTrnRverify a n rank sub s
  | .dramTrnDone n passed windows errs => Sys2Proof.Machine.execDramTrnDone n passed windows errs s
  | .dramTrnTimeout n => Sys2Proof.Machine.execDramTrnTimeout n s
  | .allocMap a w chmask => Sys2Proof.Machine.execAllocMap a w chmask s
  | .frameAlloc a pool count => Sys2Proof.Machine.execFrameAlloc a pool count s
  | .frameFree a pool count => Sys2Proof.Machine.execFrameFree a pool count s
  | .frameRetire a => Sys2Proof.Machine.execFrameRetire a s
  | .frameQuery a => Sys2Proof.Machine.execFrameQuery a s
  | .allocServe => Sys2Proof.Machine.execAllocServe s
  | .dmaStart a ch v => Sys2Proof.Machine.execDmaStart a ch v s
  | .dmaAbort a ch => Sys2Proof.Machine.execDmaAbort a ch s
  | .dmaDone ch data fail => Sys2Proof.Machine.execDmaDone ch data fail s
  | .dmaQueueWaitEnd ch => Sys2Proof.Machine.execDmaQueueWaitEnd ch s
  | .dmaQueueTimeout ch => Sys2Proof.Machine.execDmaQueueTimeout ch s
  | .fqEnable a k v => Sys2Proof.Machine.execFqEnable a k v s
  | .fqPush a k hi => Sys2Proof.Machine.execFqPush a k hi s
  | .fqPop a k chk => Sys2Proof.Machine.execFqPop a k chk s
  | .fqFlush a k => Sys2Proof.Machine.execFqFlush a k s
  | .hostLinkReset => Sys2Proof.Machine.execHostLinkReset s
  | .pcieConfigRequest req => Sys2Proof.Machine.execPcieConfigRequest req s
  | .bar2Read off len chk => Sys2Proof.Machine.execBar2Read off len chk s
  | .bar2Write off data poisoned => Sys2Proof.Machine.execBar2Write off data poisoned s
  | .hifOffer a v => Sys2Proof.Machine.execHifOffer a v s
  | .sqTailDoorbell a q v => Sys2Proof.Machine.execSqTailDoorbell a q v s
  | .cqHeadDoorbell a q v => Sys2Proof.Machine.execCqHeadDoorbell a q v s
  | .commandFetch q cmd => Sys2Proof.Machine.execCommandFetch q cmd s
  | .hqNop q => Sys2Proof.Machine.execHqNop q s
  | .hqRegWrite q => Sys2Proof.Machine.execHqRegWrite q s
  | .hqRegRead q => Sys2Proof.Machine.execHqRegRead q s
  | .hqXfer q => Sys2Proof.Machine.execHqXfer q s
  | .hqFw q => Sys2Proof.Machine.execHqFw q s
  | .hqBadOpcode q => Sys2Proof.Machine.execHqBadOpcode q s
  | .completionPost q => Sys2Proof.Machine.execCompletionPost q s
  | .fwCpl a hi => Sys2Proof.Machine.execFwCpl a hi s
  | .hqQueueEnable a q v => Sys2Proof.Machine.execHqQueueEnable a q v s
  | .hqQueueDisable a q => Sys2Proof.Machine.execHqQueueDisable a q s
  | .rpCfgRd a be => Sys2Proof.Machine.execRpCfgRd a be s
  | .rpCfgWr a be => Sys2Proof.Machine.execRpCfgWr a be s
  | .rpMemRd a be => Sys2Proof.Machine.execRpMemRd a be s
  | .rpMemWr a be => Sys2Proof.Machine.execRpMemWr a be s
  | .rpCmdDone res crs => Sys2Proof.Machine.execRpCmdDone res crs s
  | .rpInboundRequest addr req => Sys2Proof.Machine.execRpInboundRequest addr req s
  | .rpRetrain a => Sys2Proof.Machine.execRpRetrain a s
  | .calStart a => Sys2Proof.Machine.execCalStart a s
  | .calTiaItem hits => Sys2Proof.Machine.execCalTiaItem hits s
  | .calOutItem stamps => Sys2Proof.Machine.execCalOutItem stamps s
  | .calThItem readings sbFail => Sys2Proof.Machine.execCalThItem readings sbFail s
  | .calInItem sweeps => Sys2Proof.Machine.execCalInItem sweeps s
  | .calDecItem sums => Sys2Proof.Machine.execCalDecItem sums s
  | .calGo a => Sys2Proof.Machine.execCalGo a s
  | .calAbandon a => Sys2Proof.Machine.execCalAbandon a s
  | .calRunTimeout => Sys2Proof.Machine.execCalRunTimeout s
  | .calRestoreEnd => Sys2Proof.Machine.execCalRestoreEnd s
  | .calExportStart a ver => Sys2Proof.Machine.execCalExportStart a ver s
  | .calExpDataRead a chk => Sys2Proof.Machine.execCalExpDataRead a chk s
  | .calImportBegin a => Sys2Proof.Machine.execCalImportBegin a s
  | .calImportData a v => Sys2Proof.Machine.execCalImportData a v s
  | .calImportCancel a => Sys2Proof.Machine.execCalImportCancel a s
  | .calImportCommit a => Sys2Proof.Machine.execCalImportCommit a s
  | .calImportApply => Sys2Proof.Machine.execCalImportApply s
  | .partArm a p => Sys2Proof.Machine.execPartArm a p s
  | .partDisarm a p => Sys2Proof.Machine.execPartDisarm a p s
  | .partPause a p => Sys2Proof.Machine.execPartPause a p s
  | .partResume a p => Sys2Proof.Machine.execPartResume a p s
  | .partAbort a p => Sys2Proof.Machine.execPartAbort a p s
  | .partService a p => Sys2Proof.Machine.execPartService a p s
  | .partEndService a p => Sys2Proof.Machine.execPartEndService a p s
  | .partIsolate a p => Sys2Proof.Machine.execPartIsolate a p s
  | .partRecover a p => Sys2Proof.Machine.execPartRecover a p s
  | .partDefine a p => Sys2Proof.Machine.execPartDefine a p s
  | .partUndefine a p => Sys2Proof.Machine.execPartUndefine a p s
  | .partRetire a reg bits => Sys2Proof.Machine.execPartRetire a reg bits s
  | .contextCheckPass bad => Sys2Proof.Machine.execContextCheckPass bad s
  | .srefLost => Sys2Proof.Machine.execSrefLost s
  | .srefBack => Sys2Proof.Machine.execSrefBack s
  | .railInRange rail => Sys2Proof.Machine.execRailInRange rail s
  | .hostLinkUp width speed => Sys2Proof.Machine.execHostLinkUp width speed s
  | .rpLinkChange up width speed => Sys2Proof.Machine.execRpLinkChange up width speed s
  | .msixTableWrite off v => Sys2Proof.Machine.execMsixTableWrite off v s
  | .busMasterCompletion ch res => Sys2Proof.Machine.execBusMasterCompletion ch res s
  | .mgmtInstruction flash chk => Sys2Proof.Machine.execMgmtInstruction flash chk s
  | .mgmtInterrupt => Sys2Proof.Machine.execMgmtInterrupt s
  | .detMessageLost f mask1 mask2 => Sys2Proof.Machine.execDetMessageLost f mask1 mask2 s
  | .aspmL1Change l1 => Sys2Proof.Machine.execAspmL1Change l1 s

end Sys2Proof.Machine
end

