-- ==== Sys2Proof/Machine/Tick.lean ====
section
/-! DEFINITION. What one DCLK does when no command waits (assumption 1). -/

namespace Sys2Proof.Machine

open Sys2Proof

/-- A counter of 64 bits over two registers moves by `n`. -/
def State.addReg64 (s : State) (lo hi n : Nat) : State := s.setReg64 lo hi (s.reg64 lo hi + BitVec.ofNat 64 n)

/-- The HCLK of one DCLK for a hart: its counters (R308) and mcycle. -/
def State.hartTick (s : State) (h : Nat) : State :=
  let depth := (s.sched.ready.filter (fun k => decide (k < 1024) && (s.task k).aff.testBit h)).length
  let s := if s.hartFree h then s else s.addReg64 (R.HART_CNT_BUSY_LO h) (R.HART_CNT_BUSY_HI h) hclkPerDclk
  let s := if depth = 0 then s else s.addReg64 (R.HART_CNT_DEPTH_LO h) (R.HART_CNT_DEPTH_HI h) (hclkPerDclk * depth)
  let x := s.hart h
  if s.runs h && !x.mcountinhibit.getLsbD 0 then s.setHart h { x with mcycle := x.mcycle + BitVec.ofNat 64 hclkPerDclk }
  else s

/-- The MCLK of one DCLK for MGMT: 400 MHz beside 500 MHz. -/
def State.mgmtTick (s : State) : State :=
  let x := s.hart 8
  if s.runs 8 && !x.mcountinhibit.getLsbD 0 then
    s.setHart 8 { x with mcycle := x.mcycle + BitVec.ofNat 64 ((s.dclk + 1) * 4 / 5 - s.dclk * 4 / 5) }
  else s

/-- A timed level on SYNC_OUT runs out (R498, R499). -/
def State.syncTick (s : State) : State := { s with dev := { s.dev with syncPulse := s.dev.syncPulse - 1 } }

/-- What runs in DCLK where the clocks are not gated. -/
def State.clockTick (s : State) : State :=
  let s := ((s.dmaTick.decTick).redTick).fabTick
  (((List.range 8).foldl State.hartTick s).mgmtTick).syncTick

/-- One DCLK. The timebase runs in every mode; the rest stands in COLD, in DOZE and in HIBERNATE (R482, R495). -/
def State.tick (s : State) : State :=
  let s := s.timeTick
  let s := if s.mode == mCold || s.dev.sleep.gated then s else s.clockTick
  { s with dclk := s.dclk + 1 }

end Sys2Proof.Machine
end

