-- ==== Sys2Proof/WellFormed.lean ====
section
/-! DEFINITION. The commands that the part can be given: the data that a command brings has the size that its rule gives. -/

namespace Sys2Proof

/-- A command is well formed: the data it carries has the length of its rule (R393, R346, R354, R355, R434, R486). -/
def Instr.wellFormed (i : Instr) : Bool :=
  match i with
  | .pwrgdAssert => true
  | .pwrgdDeassert => true
  | .rstNAssert => true
  | .rstNRelease => true
  | .rstChip _ _ => true
  | .chipResetEnd => true
  | .bootRomSequence _ => true
  | .devBootDone _ => true
  | .devBootTrained _ => true
  | .railOutOfRange _ => true
  | .tpllLockLoss => true
  | .syspllLockLoss _ => true
  | .thermWarn _ => true
  | .thermTrip _ => true
  | .devModeReqCalibrate _ => true
  | .devModeReqReady _ => true
  | .devModeReqDiagnose _ => true
  | .devModeReqService _ => true
  | .devModeReqDoze _ => true
  | .devModeReqHibernate _ => true
  | .sleepSample => true
  | .sleepDrainTimeout => true
  | .wakeLatchSet _ => true
  | .wakeTimerExpire => true
  | .wakeDozeComplete _ => true
  | .wakeHibernateComplete _ _ => true
  | .trigInEvent _ _ => true
  | .syncInEvent _ => true
  | .devSyncPulse _ => true
  | .trigOutPulseEnd _ _ => true
  | .qspiCommand c => decide (c.data.length ≤ 256)
  | .smbusMode => true
  | .smbusTemp => true
  | .smbusRail => true
  | .smbusFirst => true
  | .smbusUid => true
  | .smbusAlive => true
  | .smbusCause => true
  | .smbusOther _ => true
  | .tapReset => true
  | .tapExtest _ _ => true
  | .tapSamplePreload _ _ => true
  | .tapIdcode => true
  | .tapClamp => true
  | .tapHighz => true
  | .tapFuseRead => true
  | .tapFuseAddr _ => true
  | .tapFuseProg _ _ _ _ => true
  | .tapFuseProgDone _ => true
  | .tapFuseStat => true
  | .tapDebug _ => true
  | .tapBypass _ => true
  | .registerWrite _ _ _ _ => true
  | .reservedWrite _ _ _ => true
  | .rcRead _ _ => true
  | .coherentLoRead _ _ => true
  | .blockReset _ _ => true
  | .blockResetEnd _ => true
  | .faultInject _ _ _ => true
  | .ownerWrite _ _ _ => true
  | .shadowWrite _ _ _ => true
  | .tableWrite _ _ _ _ => true
  | .commitRequest _ _ _ => true
  | .shadowTransfer _ _ => true
  | .wsqEmit _ _ => true
  | .wsqRepeat _ _ _ => true
  | .wsqLoop _ _ _ _ => true
  | .wsqEndloop _ _ => true
  | .wsqCall _ _ _ => true
  | .wsqRet _ _ => true
  | .wsqJump _ _ _ => true
  | .wsqJumpc _ _ _ _ => true
  | .wsqMatch _ _ _ => true
  | .wsqWait _ _ _ _ _ => true
  | .wsqFlagSet _ _ _ => true
  | .wsqFlagClear _ _ _ => true
  | .wsqFlagInvert _ _ _ => true
  | .wsqCclr _ _ => true
  | .wsqTclr _ _ _ => true
  | .wsqSignal _ _ _ _ => true
  | .wsqCapon _ _ _ _ => true
  | .wsqCapoff _ _ _ _ => true
  | .wsqMark _ _ _ => true
  | .wsqHalt _ _ => true
  | .wsqTapstate _ _ _ _ _ => true
  | .wsqTapshift _ _ _ _ _ _ => true
  | .wsqSenttx _ _ _ => true
  | .wsqSentrx _ _ _ => true
  | .customInstruction _ _ _ _ => true
  | .decisionPoint _ => true
  | .blockBoundary _ => true
  | .boundaryStall _ _ => true
  | .midBlockStall _ _ => true
  | .seqLate _ => true
  | .holdUnitDecision _ => true
  | .holdLimitReached _ => true
  | .pauseUnitDecision _ => true
  | .condRelease _ _ => true
  | .seqStart _ _ _ _ => true
  | .seqTriggerStart _ => true
  | .seqPause _ _ => true
  | .seqResume _ _ => true
  | .seqAbort _ _ => true
  | .seqGang _ _ _ => true
  | .seqFlagSet _ _ _ => true
  | .seqFlagClr _ _ _ => true
  | .seqTrigPendClear _ _ _ => true
  | .uwdogExpire _ => true
  | .uopNop _ _ => true
  | .uopAdd _ _ _ _ _ => true
  | .uopSub _ _ _ _ _ => true
  | .uopAnd _ _ _ _ _ => true
  | .uopOr _ _ _ _ _ => true
  | .uopXor _ _ _ _ _ => true
  | .uopShl _ _ _ _ _ => true
  | .uopShr _ _ _ _ _ => true
  | .uopAddi _ _ _ _ _ => true
  | .uopOri _ _ _ _ _ => true
  | .uopLui _ _ _ _ => true
  | .uopMovs _ _ _ _ => true
  | .uopMovd _ _ _ _ => true
  | .uopLdp _ _ _ _ _ => true
  | .uopCrc4Step _ _ _ _ _ => true
  | .uopCrc6Step _ _ _ _ _ => true
  | .uopBr _ _ _ _ _ => true
  | .uopCallu _ _ _ => true
  | .uopRetu _ _ => true
  | .uopTstc _ _ => true
  | .uopSeqop _ _ _ _ => true
  | .uopSigSignal _ _ _ => true
  | .uopSigMark _ _ _ => true
  | .uopSigCapon _ _ _ => true
  | .uopSigCapoff _ _ _ => true
  | .uopOvl _ _ _ _ _ _ _ _ => true
  | .uopOpush _ _ _ _ => true
  | .uopEmitd _ _ => true
  | .uopBoundNext _ _ => true
  | .uopBoundAgain _ _ => true
  | .uopStop _ _ _ => true
  | .uopStk _ _ _ _ _ => true
  | .mcDrain _ _ => true
  | .mcRelease _ _ _ => true
  | .mcReload _ _ => true
  | .mcReloadDone _ _ => true
  | .mcPloadData _ _ => true
  | .mcPloadFin _ _ => true
  | .cycleStart _ _ => true
  | .edgePlace _ _ => true
  | .strobeSample _ _ => true
  | .sbFrameStart _ _ _ _ _ => true
  | .sbFrameEnd _ _ _ => true
  | .peDiagStart _ _ => true
  | .peDiagAbort _ _ => true
  | .peDiagEnd _ _ => true
  | .pgrEnable _ => true
  | .pgrMap _ _ _ _ => true
  | .pgrUnmap _ _ => true
  | .pgrPreload _ _ => true
  | .pgrRelease _ _ => true
  | .pgrRefetch _ _ => true
  | .pgrQuery _ => true
  | .pgrMapOpDone => true
  | .walkerStep _ => true
  | .fetchFrameObtained _ => true
  | .pageFetchArrival _ _ data => decide (data.length ≤ 0x200000)
  | .fetchTimeout _ => true
  | .multicastPageDelivery _ _ _ data => decide (data.length ≤ 0x200000)
  | .lineFill _ _ _ => true
  | .pgrSqHistClear _ _ => true
  | .pgrSqHseed _ _ _ _ => true
  | .vcSqCfg _ _ _ _ => true
  | .capPRelease _ _ _ => true
  | .capPFlogRd _ _ _ _ => true
  | .captureCycleProcess _ => true
  | .autoTriggerTimeout _ => true
  | .rearmEnd _ => true
  | .trgTimerExpire _ _ => true
  | .tuArm _ _ => true
  | .tuDisarm _ _ => true
  | .tuEnWrite _ _ _ => true
  | .frontEndEdge _ _ _ _ _ _ => true
  | .tuTimeout _ => true
  | .decOutputSample _ _ _ => true
  | .decEn _ _ _ => true
  | .decRestart _ _ => true
  | .clockLossTimeout _ => true
  | .modClockResume _ => true
  | .freqMeasureInterval _ _ => true
  | .decSwapRequest _ _ _ _ => true
  | .coefBankWrite _ _ _ _ _ => true
  | .synStart _ _ => true
  | .synStartInstant _ _ => true
  | .synSampleBoundary _ _ => true
  | .synDrvEdge _ => true
  | .synStop _ _ => true
  | .synEnClear _ _ => true
  | .synJump _ _ _ _ => true
  | .hartEnable _ _ => true
  | .hartInstruction _ _ => true
  | .hartWindowAccess _ _ _ _ _ => true
  | .fenceI _ => true
  | .cboClean _ _ => true
  | .cboFlush _ _ => true
  | .cboInval _ _ => true
  | .hartNmi _ => true
  | .hartInterrupt _ => true
  | .hartSchedWait _ _ => true
  | .hartSchedYield _ _ => true
  | .hartSchedEnd _ _ => true
  | .hartSchedNext _ _ => true
  | .hartSchedPreempted _ _ => true
  | .schedArm _ _ _ => true
  | .schedCancel _ _ _ _ => true
  | .schedSetflag _ _ _ _ => true
  | .schedClrflag _ _ _ _ => true
  | .threadWaitTimeout _ => true
  | .nodeDispatch => true
  | .nodeComplete _ _ => true
  | .traceEnable _ _ => true
  | .hartCntClr _ _ => true
  | .hicSwi _ _ => true
  | .hicClaim _ _ => true
  | .hicComplete _ _ _ => true
  | .msixIssue _ => true
  | .holdoffExpire _ => true
  | .faultTake => true
  | .chipResetDelayExpire => true
  | .fltAck _ _ => true
  | .fenceEnd _ => true
  | .fltKick _ _ => true
  | .kickMissed => true
  | .aliveToggle => true
  | .fltErrnRelease _ => true
  | .fltDevInj _ _ => true
  | .fltLogRd _ _ => true
  | .osTs1 _ _ _ _ _ => true
  | .osTs2 _ _ _ _ => true
  | .osEqr _ _ _ _ => true
  | .osEqa _ _ _ _ _ => true
  | .osEqd _ _ => true
  | .osEios _ => true
  | .osFts _ => true
  | .osTsx _ _ => true
  | .osLbk _ _ => true
  | .osQuar _ => true
  | .osSleep _ => true
  | .ts1Beacon _ => true
  | .trainLimitExpire _ => true
  | .lcwAck _ _ => true
  | .lcwNak _ _ _ => true
  | .lcwCredit _ _ _ => true
  | .linkIdle _ => true
  | .badPacket _ _ _ => true
  | .linkReplayTimeout _ => true
  | .burstTimeout _ => true
  | .electricalIdleEnter _ => true
  | .idleExitTimeout _ => true
  | .fpLbWrite _ _ _ => true
  | .feLbTimeout _ => true
  | .fpRetrain _ _ => true
  | .pktLinkinfo _ _ _ => true
  | .pktRoute _ _ _ _ _ => true
  | .pktJoin _ _ _ => true
  | .pktTsync _ _ _ _ => true
  | .pktAssign _ _ _ => true
  | .pktRreq _ _ _ r => (if r.write then r.data.length == r.count.val + 1 else r.data.isEmpty)
  | .pktRrsp _ _ _ r => decide (r.data.length ≤ 16)
  | .pktUnreach _ _ _ _ => true
  | .pktPreq _ _ _ _ _ _ => true
  | .pktPbreq _ _ _ _ _ _ _ => true
  | .pktPdata _ _ _ _ _ _ data => data.length == 512
  | .pktPrep _ _ _ _ _ _ word => word.length == 16
  | .pktPnak _ _ _ _ _ => true
  | .pageDeliverySend => true
  | .electionSettle => true
  | .assignCollectEnd => true
  | .fabRmRead _ _ => true
  | .fabRmWrite _ _ => true
  | .fabRmTimeout => true
  | .fabSpanEnable _ _ _ => true
  | .fabSpanGo _ _ => true
  | .csync _ _ _ => true
  | .csyncStart _ => true
  | .condSend _ => true
  | .detCond _ _ _ _ => true
  | .detStall _ _ _ => true
  | .detPause _ _ _ => true
  | .detResume _ _ _ => true
  | .detAbort _ _ _ => true
  | .detFault _ _ _ => true
  | .detTrig _ _ _ _ => true
  | .detSyncLate _ _ => true
  | .spanNoticeApply _ => true
  | .fabTrigSend _ _ => true
  | .fabricTrigRaise _ => true
  | .timeExchange _ => true
  | .exchangeTimeout _ => true
  | .holdoverTimeout => true
  | .timeSet _ => true
  | .trimSlewStep => true
  | .pgEnable _ _ => true
  | .pulseFire _ => true
  | .timeEsHeadRead _ => true
  | .dramRead _ _ _ _ => true
  | .dramWrite addr _ data _ => decide (1 ≤ data.length) && decide (addr.toNat % 64 + data.length ≤ 64)
  | .scrubRead _ _ _ _ => true
  | .caParityAlert _ _ => true
  | .caReplayTimeout _ => true
  | .idleSelfRefreshEnter _ => true
  | .rhThrottleEnd _ => true
  | .rhWindowEnd _ => true
  | .dramInit _ _ => true
  | .dramTrnCsSweep _ _ _ _ => true
  | .dramTrnCaSweep _ _ _ _ => true
  | .dramTrnMrw _ _ _ _ => true
  | .dramTrnMrr _ _ _ _ => true
  | .dramTrnWlevel _ _ _ _ => true
  | .dramTrnRdSweep _ _ _ _ => true
  | .dramTrnWrSweep _ _ _ _ => true
  | .dramTrnApply _ _ _ _ => true
  | .dramTrnVerify _ _ _ _ => true
  | .dramResume _ _ _ _ => true
  | .dramTrnRverify _ _ _ _ => true
  | .dramTrnDone _ _ _ _ => true
  | .dramTrnTimeout _ => true
  | .allocMap _ _ _ => true
  | .frameAlloc _ _ _ => true
  | .frameFree _ _ _ => true
  | .frameRetire _ => true
  | .frameQuery _ => true
  | .allocServe => true
  | .dmaStart _ _ _ => true
  | .dmaAbort _ _ => true
  | .dmaDone _ _ _ => true
  | .dmaQueueWaitEnd _ => true
  | .dmaQueueTimeout _ => true
  | .fqEnable _ _ _ => true
  | .fqPush _ _ _ => true
  | .fqPop _ _ _ => true
  | .fqFlush _ _ => true
  | .hostLinkReset => true
  | .pcieConfigRequest _ => true
  | .bar2Read _ _ _ => true
  | .bar2Write _ data _ => decide (1 ≤ data.length) && decide (data.length ≤ 4096)
  | .hifOffer _ _ => true
  | .sqTailDoorbell _ _ _ => true
  | .cqHeadDoorbell _ _ _ => true
  | .commandFetch _ _ => true
  | .hqNop _ => true
  | .hqRegWrite _ => true
  | .hqRegRead _ => true
  | .hqXfer _ => true
  | .hqFw _ => true
  | .hqBadOpcode _ => true
  | .completionPost _ => true
  | .fwCpl _ _ => true
  | .hqQueueEnable _ _ _ => true
  | .hqQueueDisable _ _ => true
  | .rpCfgRd _ _ => true
  | .rpCfgWr _ _ => true
  | .rpMemRd _ _ => true
  | .rpMemWr _ _ => true
  | .rpCmdDone _ _ => true
  | .rpInboundRequest _ _ => true
  | .rpRetrain _ => true
  | .calStart _ => true
  | .calTiaItem _ => true
  | .calOutItem _ => true
  | .calThItem _ _ => true
  | .calInItem _ => true
  | .calDecItem _ => true
  | .calGo _ => true
  | .calAbandon _ => true
  | .calRunTimeout => true
  | .calRestoreEnd => true
  | .calExportStart _ _ => true
  | .calExpDataRead _ _ => true
  | .calImportBegin _ => true
  | .calImportData _ _ => true
  | .calImportCancel _ => true
  | .calImportCommit _ => true
  | .calImportApply => true
  | .partArm _ _ => true
  | .partDisarm _ _ => true
  | .partPause _ _ => true
  | .partResume _ _ => true
  | .partAbort _ _ => true
  | .partService _ _ => true
  | .partEndService _ _ => true
  | .partIsolate _ _ => true
  | .partRecover _ _ => true
  | .partDefine _ _ => true
  | .partUndefine _ _ => true
  | .partRetire _ _ _ => true
  | .contextCheckPass _ => true
  | .srefLost => true
  | .srefBack => true
  | .railInRange _ => true
  | .hostLinkUp _ _ => true
  | .rpLinkChange _ _ _ => true
  | .msixTableWrite _ _ => true
  | .busMasterCompletion _ _ => true
  | .mgmtInstruction _ _ => true
  | .mgmtInterrupt => true
  | .detMessageLost _ _ _ => true
  | .aspmL1Change _ => true

end Sys2Proof
end

