-- ==== Sys2Proof/Safety.lean ====
section
/-! DEFINITION. The terms in which claims about the part are stated: a write that reaches its register, what a change leaves
alone, the invariants of a run. -/

namespace Sys2Proof.Machine

open Sys2Proof

/-- A write of agent `a` on the page at `p`, of kind `k`, passes the checks that every register shares: the window responds
(R21, R332, R495), the agent-access table permits the page's group (R55), the page's owner permits the agent (R59), and the
page is not in reset (R52). -/
def State.admits (s : State) (a : Agent) (k : PageKind) (p : Nat) : Bool :=
  s.responds a && s.permits a (pageGroup k) && s.ownerPermits a p && !s.flag (F.xx_STAT_IN_RESET p)

/-- Every register but those of a list holds what it held. -/
def State.regsButFor (s t : State) (l : List Nat) : Prop := ∀ o, o ∉ l → t.reg o = s.reg o

/-- Every byte of DRAM reads as before. -/
def State.memSame (s t : State) : Prop := ∀ a, t.memByte a = s.memByte a

/-- Every byte of DRAM outside the `n` bytes from `a` reads as before. -/
def State.memSameBut (s t : State) (a n : Nat) : Prop := ∀ c, (c < a ∨ a + n ≤ c) → t.memByte c = s.memByte c

/-- Every hart but `h`, and MGMT if `h` is not 8, is as it was. -/
def State.hartsButFor (s t : State) (h : Nat) : Prop := ∀ g, g ≠ h → t.hart g = s.hart g

/-- Memory and the register window have their canonical form. -/
def State.canonical (s : State) : Bool := Memory.wf s.dram.mem && swf regReset s.regs

/-- L2 includes every L1D (R274). -/
def State.l2Includes (s : State) : Prop :=
  ∀ h, h < 8 → ∀ x ∈ (s.hart h).l1, (lineOf s.cpu.l2 x.addr).isSome = true

/-- The micro-engine of SQn can take the record `r`, and the record's block is legal, well formed, `size` bytes long and admitted
(R68, R70, R114, R181). -/
def State.emits (s : State) (n : Nat) (r : BlockHead) (size : Nat) : Bool :=
  s.canDispatch n && headLegal r false && s.sizeKnown n (blockBase r) && s.recordSize n r == some size
    && s.admitted n (s.seq n).next (blockBase r) size

/-- A sequencer at the entry of an instruction that emits. -/
def Seq.entered (q : Seq) : Seq := { q with iterate := false }

/-- The micro-engine of SQn can take the generator record `r`, and its header is present and fits the gang (R126, R130). -/
def State.generates (s : State) (n : Nat) (r : BlockHead) : Bool :=
  s.canDispatch n && headLegal r false && r.enc == 0 && (s.line n (blockBase r / 4096)).isSome
    && (s.genHead n (blockBase r)).extent (s.gangG n)

/-- A routine runs on SQn, and its next micro-operation of `k` micro-cycles passes the watchdog, the bounds and the injections of
the fetch (R104, R105, R117). -/
def State.uopRuns (s : State) (n k : Nat) : Bool :=
  (s.micro n).active && decide ((s.micro n).count + k ≤ 4096) && decide ((s.micro n).upc < 0x7000)
    && !s.bit (R.xx_FLT_INJ P.MC) (regionFault (s.micro n).upc) && !s.bit (R.xx_FLT_INJ (P.SEQ n)) X.SEQ_CSTORE_ECC

/-- A micro-engine past a micro-operation of `k` micro-cycles (R109). -/
def Micro.passed (m : Micro) (k : Nat) : Micro := { m with count := m.count + k, upc := m.upc + 1 }

/-- The state past a micro-operation of `k` micro-cycles on SQn. -/
def State.passed (s : State) (n k : Nat) : State := s.setMicro n ((s.micro n).passed k)

/-- A packet with SEQ `q` that arrives on a port is accepted (R344): link words flow, it is the packet expected, no attempt at it
has failed, and no injection makes it fail. -/
def State.receives (s : State) (f q : Nat) : Bool :=
  s.wordsFlow f && !(s.fport f).off && (s.fport f).expect == q && (s.fport f).tries == 0
    && !s.bit (R.xx_FLT_INJ (P.FP f)) X.FP_LINK_FAIL && !s.bit (R.xx_FLT_INJ (P.FP f)) X.FP_LINK_RETRY

/-- The state after an accepted packet: counted, acknowledged, its credit returned (R343, R344). -/
def State.accepted (s : State) (f q : Nat) (page : Bool) : State :=
  (((s.setFport f { s.fport f with
      rxIdle := false, exiting := false, expect := ((s.fport f).expect + 1) % 4096, naked := false, tries := 0
      injected := false }).count (R.xx_BLK_COUNT (P.FP f))).put f (.control 1 q 0)).put f (.control 3 (if page then 2 else 1) 1)

/-- A message of the deterministic class arrives on a port with a good first copy (R346). -/
def State.hears (s : State) (f : Nat) : Bool :=
  s.linkUp f && !(s.fport f).off && !s.bit (R.xx_FLT_INJ (P.FP f)) X.FP_DET_RETRY

/-- Every command that waits is well formed. -/
def State.queueWf (s : State) : Bool := s.pending.all Instr.wellFormed

end Sys2Proof.Machine
end

