-- ==== Sys2Proof/Certificates/Slice0/Obligations.lean ====
section
/-! DEFINITION. The statements about the part, from the numbered rules of the spec. Each says in its docstring what it states and where a
clause rests on a choice of the model. -/

open Sys2Proof Sys2Proof.Machine

/-- The block's form: when a command waits, one step is that command on the state whose queue is the rest, whatever the command;
the model's own form of the machine (assumption 1). -/
def Obligations.StepTakesTheFront : Prop :=
  ∀ (c : Instr) (rest : List Instr) (s : State), s.pending = c :: rest →
    Sys2Proof.Machine.step s = exec c { s with pending := rest }

/-- With an empty queue a step lets one DCLK pass (the model's choice, assumption 1): in COLD and while the clocks are gated only
the timebase moves, by 2 ns and its servo terms where the servo is not OFF. -/
def Obligations.IdleStepIsOneDclk : Prop :=
  (∀ s : State, s.pending = [] → Sys2Proof.Machine.step s = .next s.tick) ∧
  (∀ s : State, (s.mode = mCold ∨ s.dev.sleep.gated = true) → s.sstate ≠ ssOff → s.flag F.CLK_TPLL_LOCKED = false →
    s.dclk % 8 ≠ 0 → s.tick = { s.moveCounter s.timeInc with dclk := s.dclk + 1 }) ∧
  (∀ s : State, (s.mode = mCold ∨ s.dev.sleep.gated = true) → s.sstate = ssOff → s.flag F.CLK_TPLL_LOCKED = false →
    s.dclk % 8 ≠ 0 → s.tick = { s with dclk := s.dclk + 1 })

/-- Right after reset the device is in BOOT, every register of the window holds the reset value of its table, every task is IDLE
with F = 0, every partition is IDLE, no fault waits, no frame is allocated, no hart runs. Bytes of DRAM read 0 and the harts'
registers are 0 by the model's choice (assumptions 6 and 11); the other clauses are the spec's. -/
def Obligations.ResetState : Prop :=
  State.reset.mode = mBoot ∧
  (∀ o, State.reset.reg o = regReset o) ∧
  (∀ k, State.reset.task k = Task.init ∧ (State.reset.task k).st = .idle ∧ (State.reset.task k).f = 0) ∧
  (∀ k, k < 64 → State.reset.pstate k = pIdle) ∧
  State.reset.monel.waiting = [] ∧
  (∀ n, (State.reset.frame n).st = .free) ∧
  (∀ h, h < 8 → State.reset.hartStat h = 0) ∧
  (∀ a, State.reset.memByte a = 0) ∧ (∀ h, State.reset.hart h = Hart.init) ∧
  State.reset.pending = []

/-- PWRGD and RST_N and the end of the 10 µs take the device from COLD to BOOT exactly when PWRGD is high, RST_N is high and no
chip reset is in force, and the fuse shadow is loaded again. Loss of PWRGD keeps the fuses only: every register but DEV_MODE has
its reset value. RST_N low, RST_CHIP with its key and a CHIP_RESET reaction take the device to COLD with their cause, count the
reset and keep the fuses. -/
def Obligations.PowerAndResetPins : Prop :=
  (∀ s : State, s.mode = mCold → s.dev.rstn = true → s.dev.chipReset = false →
    exec .pwrgdAssert s =
      .next ({ s with dev := { s.dev with pwrgd := true, shadow := s.dev.fuses } }.setFld F.DEV_MODE_MODE mBoot)) ∧
  (∀ s : State, (s.mode ≠ mCold ∨ s.dev.rstn = false ∨ s.dev.chipReset = true) →
    exec .pwrgdAssert s = .next { s with dev := { s.dev with pwrgd := true } }) ∧
  (∀ s : State, s.mode = mCold → s.dev.pwrgd = true → s.dev.chipReset = false →
    exec .rstNRelease s =
      .next ({ s with dev := { s.dev with rstn := true, shadow := s.dev.fuses } }.setFld F.DEV_MODE_MODE mBoot)) ∧
  (∀ s : State, s.mode = mCold → s.dev.pwrgd = true → s.dev.rstn = true →
    exec .chipResetEnd s =
      .next ({ s with dev := { s.dev with chipReset := false, shadow := s.dev.fuses } }.setFld F.DEV_MODE_MODE mBoot)) ∧
  (∀ s : State, ∃ t, exec .pwrgdDeassert s = .next t ∧ t.mode = mCold ∧ t.dev.pwrgd = false ∧ t.dev.fuses = s.dev.fuses ∧
    (∀ o, o ≠ R.DEV_MODE → t.reg o = regReset o) ∧ t.cpu = Cpu.init ∧ t.pending = s.pending) ∧
  (∀ s : State, s.mode ≠ mCold → ∃ t, exec .rstNAssert s = .next t ∧ t.mode = mCold ∧ t.dev.rstn = false ∧
    t.dev.fuses = s.dev.fuses ∧ t.fld F.RST_CAUSE_CAUSE = 2 ∧ t.reg R.DEV_BOOT_PREF = s.reg R.DEV_BOOT_PREF ∧
    (t.reg R.RST_COUNT).toNat = satInc (s.reg R.RST_COUNT).toNat) ∧
  (∀ s : State, s.mode = mCold → exec .rstNAssert s = .next { s with dev := { s.dev with rstn := false } }) ∧
  (∀ (s : State) (a : Agent), s.admits a .rst P.RST = true → ∃ t, exec (.rstChip a 0x5253) s = .next t ∧
    t.mode = mCold ∧ t.dev.chipReset = true ∧ t.fld F.RST_CAUSE_CAUSE = 4 ∧ t.dev.fuses = s.dev.fuses) ∧
  (∀ (s : State) (a : Agent) (key : BitVec 16), s.admits a .rst P.RST = true → key ≠ 0x5253 →
    exec (.rstChip a key) s = .next (s.reject P.RST R.RST_CHIP .range)) ∧
  (∀ (s : State) (src : Nat), s.monel.chipReset = some src → src < 256 → ∃ t, exec .chipResetDelayExpire s = .next t ∧
    t.mode = mCold ∧ t.dev.chipReset = true ∧ t.fld F.RST_CAUSE_CAUSE = 3 ∧ t.fld F.RST_CAUSE_FLT_SRC = src) ∧
  (∀ s : State, s.monel.chipReset = none → exec .chipResetDelayExpire s = .next s)

/-- The boot ROM runs the valid image that it tries first, else the other one: MGMT starts at SRAM offset MGMT_ENTRY, and the key
engine is locked. DONE and TRAINED move the device on under their conditions, and only MGMT writes them. DEV_MODE.REQ is rejected
while BUSY is 1, a request for the present mode changes nothing, and each listed transition is made under its precondition. -/
def Obligations.BootAndModes : Prop :=
  (∀ (s : State) (b : BootInputs), s.mode = mBoot → s.dev.booted = false → b.fuseDouble = false →
    (s.dev.fuses.lcCode = 1 ∨ s.dev.fuses.lcCode = 2) → s.fld F.DEV_BOOT_PREF_FIRST = 1 →
    imageValid b.imageA s.dev.fuses = true → ∃ t, exec (.bootRomSequence b) s = .next t ∧ t.dev.keyLocked = true ∧
      t.dev.booted = true ∧ t.dev.shadow = s.dev.fuses ∧
      (t.hart 8).pc = BitVec.ofNat 64 (0x10000000 + b.imageA.entry.toNat)) ∧
  (∀ (s : State) (b : BootInputs), s.mode = mBoot → s.dev.booted = false → b.fuseDouble = false →
    (s.dev.fuses.lcCode = 1 ∨ s.dev.fuses.lcCode = 2) → s.fld F.DEV_BOOT_PREF_FIRST = 1 →
    imageValid b.imageA s.dev.fuses = false → imageValid b.imageB s.dev.fuses = true →
    ∃ t, exec (.bootRomSequence b) s = .next t ∧ t.dev.keyLocked = true ∧ t.dev.booted = true ∧
      (t.hart 8).pc = BitVec.ofNat 64 (0x10000000 + b.imageB.entry.toNat)) ∧
  (∀ s : State, s.admits .mgmt .dev P.DEV = true → s.mode = mBoot →
    exec (.devBootDone .mgmt) s = .next (s.setMode mTrain)) ∧
  (∀ s : State, s.admits .mgmt .dev P.DEV = true → s.mode ≠ mBoot →
    exec (.devBootDone .mgmt) s = .next (s.reject P.DEV R.DEV_BOOT .state)) ∧
  (∀ (s : State) (a : Agent), s.responds a = true → a ≠ .mgmt →
    exec (.devBootDone a) s = .next (s.reject P.DEV R.DEV_BOOT .agent) ∧
    exec (.devBootTrained a) s = .next (s.reject P.DEV R.DEV_BOOT .agent)) ∧
  (∀ s : State, s.admits .mgmt .dev P.DEV = true → s.mode = mTrain → s.flag F.ALLOC_MAP_VALID = true →
    s.portsSettled = true → exec (.devBootTrained .mgmt) s = .next (s.setMode mReady)) ∧
  (∀ (s : State) (a : Agent), s.admits a .dev P.DEV = true → s.flag F.DEV_MODE_BUSY = false →
    (s.mode = mReady ∨ s.mode = mMeasure) → s.allIdle = true →
    exec (.devModeReqCalibrate a) s = .next (s.stopMeasurement.setMode mCalibrate) ∧
    exec (.devModeReqService a) s = .next (s.stopMeasurement.setMode mService)) ∧
  (∀ (s : State) (a : Agent), s.admits a .dev P.DEV = true → s.flag F.DEV_MODE_BUSY = false → s.mode = mReady →
    s.allIdle = true → exec (.devModeReqDiagnose a) s = .next (s.setMode mDiagnose)) ∧
  (∀ (s : State) (a : Agent), s.admits a .dev P.DEV = true → s.flag F.DEV_MODE_BUSY = false →
    (s.mode = mDiagnose ∨ s.mode = mService) →
    exec (.devModeReqReady a) s = .next (s.diagEnd.disableMeasurement.setMode mReady)) ∧
  (∀ (s : State) (a : Agent), s.admits a .dev P.DEV = true → s.flag F.DEV_MODE_BUSY = false → s.mode = mCalibrate →
    exec (.devModeReqReady a) s = .next s.calAbandon) ∧
  (∀ (s : State) (a : Agent), s.admits a .dev P.DEV = true → s.flag F.DEV_MODE_BUSY = false → s.mode = mReady →
    exec (.devModeReqReady a) s = .next s) ∧
  (∀ (s : State) (a : Agent), s.admits a .dev P.DEV = true → s.flag F.DEV_MODE_BUSY = true →
    exec (.devModeReqReady a) s = .next ((s.reject P.DEV R.DEV_MODE .state).event P.DEV E.DEV_REJECT)) ∧
  (∀ (s : State) (a : Agent), s.admits a .dev P.DEV = true → s.flag F.DEV_MODE_BUSY = false → s.mode = mReady →
    s.reg R.PWR_WAKE_STAT = 0 →
    exec (.devModeReqDoze a) s =
      .next (((s.setFlag F.DEV_MODE_BUSY true).setSleep ⟨9, 1, false⟩).sleepAdvance) ∧
    exec (.devModeReqHibernate a) s =
      .next (((s.setFlag F.DEV_MODE_BUSY true).setSleep ⟨10, 1, false⟩).sleepAdvance))

/-- At its sample the sleep controller gates the clocks when no wake latch is set, and abandons the entry with cause WAKE when one
is; an entry whose drain takes too long is abandoned with cause DRAIN. A latch sets only while it is enabled, in HIBERNATE never
from the host link or the fabric, and abandons an entry whose clocks are not gated. A wake ends the sleep record. -/
def Obligations.SleepAndWake : Prop :=
  (∀ (s : State) (m : Nat), s.dev.sleep = ⟨m, 3, false⟩ → s.reg R.PWR_WAKE_STAT = 0 →
    ∃ t, exec .sleepSample s = .next t ∧ t.dev.sleep = ⟨m, 3, true⟩) ∧
  (∀ (s : State) (m : Nat), s.dev.sleep = ⟨m, 3, false⟩ → s.reg R.PWR_WAKE_STAT ≠ 0 →
    exec .sleepSample s = .next (s.sleepAbort 1)) ∧
  (∀ (s : State) (m : Nat), s.dev.sleep = ⟨m, 1, false⟩ → s.inFlight = true →
    exec .sleepDrainTimeout s = .next (s.sleepAbort 2) ∧ exec .sleepSample s = .next s) ∧
  (∀ (s : State) (src : Fin 5), s.mode ≠ mCold → s.mode ≠ mHibernate → s.bit R.PWR_WAKE_EN src = true →
    s.dev.sleep.target = 0 → exec (.wakeLatchSet src) s = .next (s.setBit R.PWR_WAKE_STAT src true)) ∧
  (∀ (s : State) (src : Fin 5), s.mode ≠ mCold → s.mode ≠ mHibernate → s.bit R.PWR_WAKE_EN src = true →
    s.dev.sleep.target ≠ 0 → s.dev.sleep.gated = false →
    exec (.wakeLatchSet src) s = .next ((s.setBit R.PWR_WAKE_STAT src true).sleepAbort 1)) ∧
  (∀ (s : State) (src : Fin 5), (s.mode = mCold ∨ s.bit R.PWR_WAKE_EN src = false ∨
      (s.mode = mHibernate ∧ (src = 2 ∨ src = 3))) → exec (.wakeLatchSet src) s = .next s) ∧
  (∀ s : State, s.mode = mDoze → s.dev.sleep.gated = true → s.reg R.PWR_WAKE_TMR ≠ 0 → s.bit R.PWR_WAKE_EN 1 = true →
    exec .wakeTimerExpire s = .next (s.setBit R.PWR_WAKE_STAT 1 true)) ∧
  (∀ s : State, s.reg R.PWR_WAKE_TMR = 0 → exec .wakeTimerExpire s = .next s) ∧
  (∀ (s : State) (n : BitVec 32), s.mode = mDoze → s.reg R.PWR_WAKE_STAT ≠ 0 →
    ∃ t, exec (.wakeDozeComplete n) s = .next t ∧ t.dev.sleep = ⟨0, 0, false⟩) ∧
  (∀ (s : State) (k : BitVec 16) (n : BitVec 32), s.mode = mHibernate → s.reg R.PWR_WAKE_STAT ≠ 0 →
    ∃ t, exec (.wakeHibernateComplete k n) s = .next t ∧ t.dev.sleep = ⟨0, 0, false⟩) ∧
  (∀ (s : State) (k : BitVec 16) (n : BitVec 32), s.reg R.PWR_WAKE_STAT = 0 →
    exec (.wakeDozeComplete n) s = .next s ∧ exec (.wakeHibernateComplete k n) s = .next s)

/-- A rail out of range is recorded and raises RAIL_MON outside COLD, and never in it; a PLL that loses its lock clears its LOCKED
bit and raises its fault once; the thermal faults are raised from 115 °C and 130 °C on, in units of 1/16 °C, and the reading is
stored in either case; the loss and the return of SREF are events. -/
def Obligations.ClocksRailsTemperature : Prop :=
  (∀ (s : State) (r : Fin 7), s.mode ≠ mCold → exec (.railOutOfRange r) s =
    .next (({ s with dev := { s.dev with rails := s.dev.rails &&& ~~~(BitVec.ofNat 7 (2 ^ r.val)) } }.setBit R.PWR_RAIL
      (8 + r.val) true).devFault srcRailMon false)) ∧
  (∀ (s : State) (r : Fin 7), s.mode = mCold → exec (.railOutOfRange r) s =
    .next { s with dev := { s.dev with rails := s.dev.rails &&& ~~~(BitVec.ofNat 7 (2 ^ r.val)) } }) ∧
  (∀ (s : State) (r : Fin 7), ∃ t, exec (.railInRange r) s = .next t ∧ t.dev.rails.getLsbD r = true ∧ t.regs = s.regs ∧
    t.monel = s.monel) ∧
  (∀ s : State, s.flag F.CLK_TPLL_LOCKED = true →
    exec .tpllLockLoss s = .next ((s.setFlag F.CLK_TPLL_LOCKED false).devFault srcTpllLock false)) ∧
  (∀ s : State, s.flag F.CLK_TPLL_LOCKED = false → exec .tpllLockLoss s = .next s) ∧
  (∀ (s : State) (p : Fin 2), s.bit R.CLK_SPLL (31 - p.val) = true → exec (.syspllLockLoss p) s =
    .next ((s.setBit R.CLK_SPLL (31 - p.val) false).devFault srcSyspllLock false)) ∧
  (∀ (s : State) (t : BitVec 16), s.mode ≠ mCold → 1840 ≤ t.toInt →
    exec (.thermWarn t) s = .next ((s.setTemp t).devFault srcThermWarn false)) ∧
  (∀ (s : State) (t : BitVec 16), s.mode ≠ mCold → t.toInt < 1840 → exec (.thermWarn t) s = .next (s.setTemp t)) ∧
  (∀ (s : State) (t : BitVec 16), s.mode ≠ mCold → 2080 ≤ t.toInt →
    exec (.thermTrip t) s = .next ((s.setTemp t).devFault srcThermTrip false)) ∧
  (∀ (s : State) (t : BitVec 16), (s.setTemp t).fld F.PWR_TEMP_T = t.toNat) ∧
  (∀ s : State, s.mode ≠ mCold →
    exec .srefLost s = .next ((s.setFlag F.CLK_REF_SREF_OK false).event P.CLK E.CLK_SREF_LOST).srefLost ∧
    exec .srefBack s = .next ((s.setFlag F.CLK_REF_SREF_OK true).event P.CLK E.CLK_SREF_BACK))

/-- An edge that EDGE selects is the event of its pin, with the interrupt source 460 + i, and one that it does not select does
nothing; SYNC_IN is stamped, and routed to a TRIG_IN where ROUTE says so. DEV_SYNC.PULSE puts SYNC_OUT to 1 for a time that the
spec leaves open (assumption 20), and a timed pulse leaves TRIG_OUT with its source. SMBus commands answer outside COLD with
their bytes, and with 0xFF for TEMP and FIRST in DOZE and HIBERNATE. A QSPI command of at most 256 bytes is taken. -/
def Obligations.PinsSmbusQspi : Prop :=
  (∀ (s : State) (p : Fin 8) (r : Bool), s.clocked = true → s.edgeSelected (R.DEV_TIN p) r = true →
    exec (.trigInEvent p r) s =
      .next ((((((s.raiseTrigger p).pulse (460 + p.val)).capExternal p).synTrigger p).fabSource 1 p).stampEvent p)) ∧
  (∀ (s : State) (p : Fin 8) (r : Bool), s.edgeSelected (R.DEV_TIN p) r = false → exec (.trigInEvent p r) s = .next s) ∧
  (∀ (s : State) (r : Bool), s.clocked = true → s.edgeSelected R.DEV_SIN r = true →
    (s.stampEvent 8).fld F.DEV_SYNC_ROUTE = 0 → exec (.syncInEvent r) s = .next (s.stampEvent 8)) ∧
  (∀ (s : State) (a : Agent), s.admits a .dev P.DEV = true → s.fld F.DEV_SYNC_OUT_SRC = 3 →
    s.fld F.DEV_SYNC_ROUTE ≤ 8 → ∃ t, exec (.devSyncPulse a) s = .next t ∧ 0 < t.dev.syncPulse ∧
      t.reg R.DEV_SYNC = s.reg R.DEV_SYNC &&& 0xF3F) ∧
  (∀ (s : State) (p : Fin 8) (x : PulseSource), ∃ t, exec (.trigOutPulseEnd p x) s = .next t ∧
    (p.val, x) ∉ t.dev.trigPulse ∧ t.regs = s.regs ∧
    (∀ q y, (q, y) ≠ (p.val, x) → ((q, y) ∈ t.dev.trigPulse ↔ (q, y) ∈ s.dev.trigPulse))) ∧
  (∀ (s : State) (c : QspiCommand), s.mode ≠ mCold → s.dev.sleep.gated = false → c.data.length ≤ 256 →
    exec (.qspiCommand c) s = .next { s with dev := { s.dev with qspi := some c } }) ∧
  (∀ s : State, s.mode ≠ mCold →
    exec .smbusMode s = .next ({ s with dev := { s.dev with smbus := leBytes 1 s.mode } }.wakeLatch 4) ∧
    exec .smbusUid s = .next ({ s with dev := { s.dev with smbus := leBytes 8 s.dev.shadow.uid.toNat } }.wakeLatch 4) ∧
    exec .smbusCause s =
      .next ({ s with dev := { s.dev with smbus := leBytes 1 (s.fld F.RST_CAUSE_CAUSE) } }.wakeLatch 4) ∧
    exec .smbusAlive s = .next ({ s with dev := { s.dev with
      smbus := leBytes 1 (bitsOf (s.reg R.FLT_ALIVE_STAT).toNat 31 29 + 8 * s.fld F.FLT_ERRN_ASSERTED) } }.wakeLatch 4) ∧
    exec .smbusRail s = .next ({ s with dev := { s.dev with
      smbus := leBytes 2 (bitsOf (s.reg R.PWR_RAIL ||| s.dev.rails.setWidth 32).toNat 14 0) } }.wakeLatch 4) ∧
    ∀ c, exec (.smbusOther c) s = .next ({ s with dev := { s.dev with smbus := [] } }.wakeLatch 4)) ∧
  (∀ s : State, s.mode ≠ mCold → s.mode ≠ mDoze → s.mode ≠ mHibernate →
    exec .smbusTemp s = .next ({ s with dev := { s.dev with smbus := leBytes 2 (s.fld F.PWR_TEMP_T) } }.wakeLatch 4) ∧
    exec .smbusFirst s = .next ({ s with dev := { s.dev with smbus := leBytes 4 (s.reg R.FLT_FIRST).toNat } }.wakeLatch 4)) ∧
  (∀ s : State, (s.mode = mDoze ∨ s.mode = mHibernate) →
    exec .smbusTemp s = .next ({ s with dev := { s.dev with smbus := [0xFF, 0xFF] } }.wakeLatch 4) ∧
    exec .smbusFirst s = .next ({ s with dev := { s.dev with smbus := [0xFF, 0xFF, 0xFF, 0xFF] } }.wakeLatch 4)) ∧
  (∀ s : State, s.mode = mCold → exec .smbusMode s = .next s ∧ exec .smbusUid s = .next s) ∧
  (∀ (s : State), s.flag F.HOST_STAT_DL_UP = true →
    exec (.aspmL1Change true) s = .next (s.setFlag F.HOST_STAT_ASPM_L1 true) ∧
    exec (.aspmL1Change false) s = .next ((s.setFlag F.HOST_STAT_ASPM_L1 false).wakeLatch 2))

/-- Test-Logic-Reset selects IDCODE. EXTEST, CLAMP and HIGHZ act on the balls in COLD with the rails in range and select BYPASS
otherwise; FUSE_PROG and FUSE_STAT act in COLD only. A program that the lifecycle does not allow ends REFUSED and blows nothing,
one that is allowed only sets fuse bits of its field, and a failed verify ends with code 4. DEBUG captures 0 under DEBUG_LOCK; what
the debug module answers otherwise is a free value (assumption 22). None of them changes a register of the window. -/
def Obligations.TestAccessPort : Prop :=
  (∀ s : State, exec .tapReset s = .next (s.setTap { s.dev.tap with ir := 2, drive := 0 })) ∧
  (∀ (s : State) (c b : List Bool), s.mode = mCold → s.railsGood = true → s.dev.pwrgd = true →
    exec (.tapExtest c b) s = .next (s.setTap { s.dev.tap with ir := 0, drive := 1, cells := c, captured := b }) ∧
    exec .tapClamp s = .next (s.setTap { s.dev.tap with ir := 3, drive := 2 }) ∧
    exec .tapHighz s = .next (s.setTap { s.dev.tap with ir := 4, drive := 3 })) ∧
  (∀ (s : State) (c b : List Bool), (s.mode ≠ mCold ∨ s.railsGood = false ∨ s.dev.pwrgd = false) →
    exec (.tapExtest c b) s = .next (s.setTap { s.dev.tap with ir := 0xFF, drive := 0 }) ∧
    exec .tapClamp s = .next (s.setTap { s.dev.tap with ir := 0xFF, drive := 0 }) ∧
    exec .tapHighz s = .next (s.setTap { s.dev.tap with ir := 0xFF, drive := 0 })) ∧
  (∀ (s : State) (c b : List Bool), s.railsGood = true →
    exec (.tapSamplePreload c b) s = .next (s.setTap { s.dev.tap with ir := 1, drive := 0, cells := c, captured := b })) ∧
  (∀ s : State, exec .tapIdcode s = .next (s.setTap { s.dev.tap with ir := 2, drive := 0, out := idcode.setWidth 64 })) ∧
  (idcode.getLsbD 0 = true ∧ (idcode >>> 12).setWidth 16 = (0x2568 : BitVec 16)) ∧
  (∀ (s : State) (x : BitVec 16), exec (.tapFuseAddr x) s = .next (s.setTap { s.dev.tap with ir := 0x21, drive := 0, addr := x })) ∧
  (∀ s : State, s.dev.tap.addr = 0x1600 → exec .tapFuseRead s =
    .next (s.setTap { s.dev.tap with ir := 0x20, drive := 0, out := s.dev.fuses.lifecycle.setWidth 64 })) ∧
  (∀ (s : State) (f w : BitVec 8) (d : BitVec 32) (v : Bool), s.mode ≠ mCold →
    exec (.tapFuseProg f w d v) s = .next s.tapBypass ∧ exec .tapFuseStat s = .next s.tapBypass) ∧
  (∀ (s : State) (f w : BitVec 8) (d : BitVec 32) (v : Bool), s.mode = mCold → s.dev.tap.busy = false →
    s.dev.fuses.progAllowed f.toNat w.toNat d = false → exec (.tapFuseProg f w d v) s =
      .next (s.setTap { s.dev.tap with ir := 0x22, drive := 0, busy := true, pendResult := 1 })) ∧
  (∀ (s : State) (d : BitVec 32), s.mode = mCold → s.dev.tap.busy = false → s.dev.fuses.lcCode = 2 →
    ∃ t, exec (.tapFuseProg 0x12 0 d true) s = .next t ∧ t.dev.fuses = { s.dev.fuses with
      revoke := s.dev.fuses.revoke ||| d.setWidth 2 } ∧ t.dev.tap.busy = true ∧ t.regs = s.regs) ∧
  (∀ (s : State) (v : Bool), s.dev.tap.busy = true → s.dev.tap.pendResult = 0 → exec (.tapFuseProgDone v) s =
    .next (s.setTap { s.dev.tap with busy := false, result := if v = true then 0 else 4 })) ∧
  (∀ s : State, s.mode = mCold → ∃ t, exec .tapFuseStat s = .next t ∧ t.dev.tap.out.getLsbD 7 = s.dev.tap.busy ∧
    t.dev.tap.out.setWidth 3 = s.dev.tap.result ∧ t.dev.fuses = s.dev.fuses ∧ t.regs = s.regs) ∧
  (∀ (s : State) (x : BitVec 41), s.railsGood = true → s.dev.shadow.debugLock = true →
    exec (.tapDebug x) s = .next (s.setTap { s.dev.tap with ir := 0x30, drive := 0, out := 0 })) ∧
  (∀ (s : State) (x : BitVec 41), s.railsGood = true → s.dev.shadow.debugLock = false →
    ∃ t, exec (.tapDebug x) s = .next t ∧ t.dev.tap.dmi = x ∧ t.dev.fuses = s.dev.fuses ∧ t.regs = s.regs) ∧
  (∀ (s : State) (i : Bool), exec (.tapBypass i) s = .next (s.setTap { s.dev.tap with
    ir := 0xFF, drive := 0, bypass := i, out := if s.dev.tap.bypass = true then 1 else 0 }))

/-- Whatever field, word and data a FUSE_PROG names and in whatever state, no blown fuse bit reads unblown afterwards, for every
field that R530 lets a program reach. -/
def Obligations.FusesOnlyGainBits : Prop :=
  ∀ (s t : State) (f w : BitVec 8) (d : BitVec 32) (v : Bool), exec (.tapFuseProg f w d v) s = .next t →
    s.dev.fuses.lifecycle &&& t.dev.fuses.lifecycle = s.dev.fuses.lifecycle ∧
    s.dev.fuses.revoke &&& t.dev.fuses.revoke = s.dev.fuses.revoke ∧
    s.dev.fuses.ckeyHash0 &&& t.dev.fuses.ckeyHash0 = s.dev.fuses.ckeyHash0 ∧
    s.dev.fuses.ckeyHash1 &&& t.dev.fuses.ckeyHash1 = s.dev.fuses.ckeyHash1 ∧
    (s.dev.fuses.debugLock = true → t.dev.fuses.debugLock = true) ∧ (s.dev.fuses.iso = true → t.dev.fuses.iso = true) ∧
    (s.dev.fuses.blown0 = true → t.dev.fuses.blown0 = true) ∧ (s.dev.fuses.blown1 = true → t.dev.fuses.blown1 = true) ∧
    (∀ i, s.dev.fuses.aat.getD i 0 &&& t.dev.fuses.aat.getD i 0 = s.dev.fuses.aat.getD i 0) ∧
    t.regs = s.regs

/-- A write that the window takes is applied when its checks pass, and leaves only a rejection's report when one fails; a write to a
reserved offset is dropped with XBAR_CE; nothing is taken where the window does not respond. The rows REGISTER_WRITE, SHADOW_WRITE,
TABLE_WRITE and RESERVED_WRITE are these. A rejection's report sets CONFIG_REJECT of the page that took the write, puts the reason and the
offset into xx_REJECT_ADDR, and counts in xx_REJECT_COUNT, which stops at its largest value; a reason AGENT or OWNER raises XBAR_CE as
well and no other reason does. -/
def Obligations.RegisterWritesAreCheckedWhole : Prop :=
  (∀ (s : State) (a : Agent) (off : BitVec 26) (be : BitVec 4) (v : Word) (x : Access), s.responds a = true →
    s.access a off.toNat (be == 0xF) false (v.setWidth 64) = some x → s.writeReason a x.group x.page x.align x.rule = none →
    exec (.registerWrite a off be v) s = .next (x.rule.eff s)) ∧
  (∀ (s : State) (a : Agent) (off : BitVec 26) (be : BitVec 4) (v : Word) (x : Access) (e : Reason), s.responds a = true →
    s.access a off.toNat (be == 0xF) false (v.setWidth 64) = some x → s.writeReason a x.group x.page x.align x.rule = some e →
    exec (.registerWrite a off be v) s = .next (x.rule.refused e (s.reject x.page off.toNat e))) ∧
  (∀ (s : State) (a : Agent) (off : BitVec 26) (be : BitVec 4) (v : Word) (w : BitVec 64) (b : Bool), s.responds a = false →
    exec (.registerWrite a off be v) s = .next s ∧ exec (.tableWrite a off b w) s = .next s ∧
    exec (.shadowWrite a off v) s = .next s ∧ exec (.reservedWrite a off v) s = .next s) ∧
  (∀ (s : State) (a : Agent) (off : BitVec 26) (v : Word), s.responds a = true → reservedOffset off.toNat = true →
    exec (.reservedWrite a off v) s = .next (s.devFault srcXbarCe false)) ∧
  (∀ (s : State) (a : Agent) (off : BitVec 26) (v : Word) (x : Access), s.responds a = true →
    s.access a off.toNat true false (v.setWidth 64) = some x → s.writeReason a x.group x.page x.align x.rule = none →
    exec (.shadowWrite a off v) s = .next (x.rule.eff s)) ∧
  (∀ (s : State) (a : Agent) (off : BitVec 26) (w : BitVec 64) (b : Bool) (x : Access), s.responds a = true →
    s.access a off.toNat true b w = some x → s.writeReason a x.group x.page x.align x.rule = none →
    exec (.tableWrite a off b w) s = .next (x.rule.eff s)) ∧
  (∀ (s : State) (a : Agent) (off : BitVec 26) (be : BitVec 4) (v : Word) (x : Access),
    s.access a off.toNat (be == 0xF) false (v.setWidth 64) = some x → (be ≠ 0xF ∨ off.toNat % 4 ≠ 0) →
    s.writeReason a x.group x.page x.align x.rule = some .align) ∧
  (∀ (s : State) (row : PageRow) (n off : Nat) (r : Reason), row ∈ pageRows → n < row.count → off < 2 ^ 26 →
    (s.reject (row.base + 0x1000 * n) off r).flag (F.xx_STAT_CONFIG_REJECT (row.base + 0x1000 * n)) = true ∧
    (s.reject (row.base + 0x1000 * n) off r).reg (R.xx_REJECT_ADDR (row.base + 0x1000 * n)) =
      BitVec.ofNat 32 (r.code * 2 ^ 28 + off) ∧
    (s.reject (row.base + 0x1000 * n) off r).reg (R.xx_REJECT_COUNT (row.base + 0x1000 * n)) =
      BitVec.ofNat 32 (satInc (s.reg (R.xx_REJECT_COUNT (row.base + 0x1000 * n))).toNat) ∧
    (s.reject (row.base + 0x1000 * n) off r).monel.waiting =
      (if r = .agent ∨ r = .owner then s.monel.waiting ++ [⟨srcXbarCe, 0, false, nativeOf srcXbarCe⟩] else s.monel.waiting))

/-- A register write that a check refuses, on any page but those whose own rule records a refusal, changes no register beside the
report's three words of its page, no byte of memory, no hart and no table. -/
def Obligations.RejectedWriteChangesNothingElse : Prop :=
  ∀ (s t : State) (a : Agent) (off : BitVec 26) (be : BitVec 4) (v : Word) (x : Access), s.responds a = true →
    s.access a off.toNat (be == 0xF) false (v.setWidth 64) = some x →
    (∃ e, s.writeReason a x.group x.page x.align x.rule = some e ∧ ∀ y, x.rule.refused e y = y) →
    exec (.registerWrite a off be v) s = .next t →
    s.regsButFor t [R.xx_STAT x.page, R.xx_REJECT_ADDR x.page, R.xx_REJECT_COUNT x.page] ∧
    t.dram = s.dram ∧ t.cpu = s.cpu ∧ t.tabs = s.tabs ∧ t.act = s.act ∧ t.tabAct = s.tabAct ∧ t.sched = s.sched ∧
    t.pending = s.pending

/-- FAULT_INJECT sets implemented bits of xx_FLT_INJ. OWNER_WRITE is MGMT's alone and stores KIND and ID in their ranges.
COMMIT_REQUEST on a page without a shadow is ignored; on a SEQ page it arms a commit when it names the current generation and is
refused as stale otherwise. BLOCK_RESET puts the page in reset and raises its fence where nothing forbids it; its end lets IN_RESET
fall and finds nothing to do elsewhere. -/
def Obligations.HeaderCommands : Prop :=
  (∀ (s : State) (a : Agent) (page : Fin 115) (p : Nat) (k : PageKind) (bits : Word), pageOfOrdinal page.val = some p →
    pageKind? p = some k → k ≠ .hostp → s.admits a k p = true →
    exec (.faultInject a page bits) s = .next (s.orReg (R.xx_FLT_INJ p) (bits &&& injBits k))) ∧
  (∀ (s : State) (page : Fin 115) (p : Nat) (k : PageKind) (v : Word), pageOfOrdinal page.val = some p →
    pageKind? p = some k → s.admits .mgmt k p = true → bitsOf v.toNat 31 30 = 1 → bitsOf v.toNat 11 0 ≤ 63 →
    exec (.ownerWrite .mgmt page v) s =
      .next ((s.setFld (F.xx_OWNER_KIND p) 1).setFld (F.xx_OWNER_ID p) (bitsOf v.toNat 11 0))) ∧
  (∀ (s : State) (a : Agent) (page : Fin 115) (p : Nat) (v : Word), pageOfOrdinal page.val = some p → a ≠ .mgmt →
    s.responds a = true → exec (.ownerWrite a page v) s = .next (s.reject p (R.xx_OWNER p) .agent)) ∧
  (∀ (s : State) (a : Agent) (page : Fin 115) (p : Nat) (k : PageKind) (e : Word), pageOfOrdinal page.val = some p →
    pageKind? p = some k → s.admits a k p = true → shadowedKind k = false →
    exec (.commitRequest a page e) s = .next s) ∧
  (∀ (s : State) (a : Agent) (page : Fin 115) (p : Nat) (e : Word), pageOfOrdinal page.val = some p →
    pageKind? p = some .seq → s.admits a .seq p = true → exec (.commitRequest a page e) s = .next (s.commitRequest p e)) ∧
  (∀ (s : State) (p : Nat) (e : Word), e = s.reg (R.xx_SHADOW_GEN p) → s.flag (F.xx_CTRL_FREEZE_SHADOW p) = false →
    s.commitRequest p e = ((s.setFld (F.xx_COMMIT_STAT_STATE p) 1).setFlag (F.xx_COMMIT_STAT_CANCEL p) false).setFlag
      (F.xx_COMMIT_STAT_PENDING p) true) ∧
  (∀ (s : State) (p : Nat) (e : Word), e ≠ s.reg (R.xx_SHADOW_GEN p) →
    s.commitRequest p e = (s.setFld (F.xx_COMMIT_STAT_STATE p) 4).setFlag (F.xx_COMMIT_STAT_CANCEL p) false) ∧
  (∀ (s : State) (a : Agent) (page : Fin 115) (p : Nat) (k : PageKind), pageOfOrdinal page.val = some p →
    pageKind? p = some k → s.admits a k p = true → k ≠ .hart → k ≠ .pgr → s.resetAllowed p = true →
    ∃ t, exec (.blockReset a page) s = .next t ∧ t.flag (F.xx_STAT_IN_RESET p) = true ∧ p ∈ t.monel.fences) ∧
  (∀ (s : State) (a : Agent) (page : Fin 115) (p : Nat) (k : PageKind), pageOfOrdinal page.val = some p →
    pageKind? p = some k → s.admits a k p = true → k ≠ .hart → k ≠ .pgr → s.resetAllowed p = false →
    exec (.blockReset a page) s = .next (s.reject p (R.xx_CTRL p) .state)) ∧
  (∀ (s : State) (page : Fin 115) (p : Nat), pageOfOrdinal page.val = some p → s.flag (F.xx_STAT_IN_RESET p) = true →
    exec (.blockResetEnd page) s = .next (s.resetEnd p)) ∧
  (∀ (s : State) (page : Fin 115) (p : Nat), pageOfOrdinal page.val = some p → s.flag (F.xx_STAT_IN_RESET p) = false →
    exec (.blockResetEnd page) s = .next s)

/-- At a page's commit point the shadow moves to the active copy when a commit is armed and not frozen, and nothing happens
otherwise. The transfer counts itself in XFER modulo 256, clears WCOUNT and PENDING and leaves STATE at transferred. -/
def Obligations.ShadowTransfers : Prop :=
  (∀ (s : State) (page : Fin 115) (n : Fin 16) (ch : BitVec 8), pageOfOrdinal page.val = some (P.SEQ n) →
    s.commitReady (P.SEQ n) = true → exec (.shadowTransfer page ch) s =
      .next ((((s.copyShadow (P.SEQ n) (inTable .period n)).transferred (P.SEQ n)).setFlag
        (F.xx_STAT_SHADOW_DIRTY (P.SEQ n)) false).startMoved n)) ∧
  (∀ (s : State) (page : Fin 115) (p : Nat) (k : PageKind) (ch : BitVec 8), pageOfOrdinal page.val = some p →
    pageKind? p = some k → s.commitReady (s.commitPage p) = false → exec (.shadowTransfer page ch) s = .next s) ∧
  (∀ (s : State) (page : Fin 115) (n : Fin 4) (ch : BitVec 8), pageOfOrdinal page.val = some (P.SYN n) →
    s.commitReady (P.SYN n) = true → s.synState n ≠ syRun → ∃ t, exec (.shadowTransfer page ch) s = .next t ∧
      t.fld (F.xx_SHADOW_GEN_WCOUNT (P.SYN n)) = 0 ∧ t.flag (F.xx_STAT_SHADOW_DIRTY (P.SYN n)) = false) ∧
  (∀ (s : State) (row : PageRow) (n : Nat), row ∈ pageRows → n < row.count →
    (s.transferred (row.base + 0x1000 * n)).fld (F.xx_SHADOW_GEN_XFER (row.base + 0x1000 * n)) =
      (s.fld (F.xx_SHADOW_GEN_XFER (row.base + 0x1000 * n)) + 1) % 256 ∧
    (s.transferred (row.base + 0x1000 * n)).fld (F.xx_SHADOW_GEN_WCOUNT (row.base + 0x1000 * n)) = 0 ∧
    (s.transferred (row.base + 0x1000 * n)).fld (F.xx_COMMIT_STAT_STATE (row.base + 0x1000 * n)) = 3 ∧
    (s.transferred (row.base + 0x1000 * n)).flag (F.xx_COMMIT_STAT_PENDING (row.base + 0x1000 * n)) = false)

/-- A read answers the latched half of a coherent pair where one waits for the agent and drops it, else what the register shows; it
latches the pair's other half and clears the register's RC fields, which restart from the level present or from their reset
value. A read is answered only where the window responds. The registers whose read takes an item have rows of their own. -/
def Obligations.ReadsOfTheWindow : Prop :=
  (∀ (s : State) (a : Agent) (off : BitVec 26) (o : Nat), o = off.toNat / 4 * 4 → s.responds a = true →
    o ≠ R.TIME_ES_HEAD_LO → (o < R.FQ_Q_POP_LO 0 ∨ P.FQ + 0xC00 ≤ o) → (o < R.HIC_T_CLAIM 0 ∨ R.HIC_T_CLAIM 9 < o) →
    o ≠ R.CAL_EXP_DATA → s.latched a o = none →
    exec (.rcRead a off) s = .next ((((s.latchPair a o).readClear o).binCheck o).answer ((s.peek a o).setWidth 64)) ∧
    exec (.coherentLoRead a off) s =
      .next ((((s.latchPair a o).readClear o).binCheck o).answer ((s.peek a o).setWidth 64))) ∧
  (∀ (s : State) (a : Agent) (off : BitVec 26) (o : Nat) (v : Word), o = off.toNat / 4 * 4 → s.responds a = true →
    o ≠ R.TIME_ES_HEAD_LO → (o < R.FQ_Q_POP_LO 0 ∨ P.FQ + 0xC00 ≤ o) → (o < R.HIC_T_CLAIM 0 ∨ R.HIC_T_CLAIM 9 < o) →
    o ≠ R.CAL_EXP_DATA → s.latched a o = some v → exec (.coherentLoRead a off) s =
      .next (State.answer { s with loLatch := serase s.loLatch (latchKey a o) } (v.setWidth 64))) ∧
  (∀ (s : State) (a : Agent) (off : BitVec 26), s.responds a = false →
    exec (.rcRead a off) s = .next s ∧ exec (.coherentLoRead a off) s = .next s) ∧
  (∀ (s : State) (o : Nat) (x : PageRow × Nat × Nat) (r : RegRow), pageAt o = some x → findRow x.1.kind x.2.2 = some r →
    r.rc ≠ 0 → o ≠ R.FLT_SRC_COUNT → (s.readClear o).reg o =
      (s.reg o &&& ~~~(BitVec.ofNat 32 r.rc)) ||| ((s.present o).getD (regReset o) &&& BitVec.ofNat 32 r.rc)) ∧
  (∀ (s : State) (a : Agent) (o : Nat), tableAt o = none → pageAt o = none → s.peek a o = 0)

/-- A partition command of an agent that may command the partition has its effect in the states that its rule names, and is rejected
with reason STATE otherwise: DISARM in ARMED, PAUSE in RUNNING, RESUME in PAUSED, ABORT in RUNNING or PAUSED, SERVICE in IDLE or
FAULTED, END_SERVICE in SERVICE, ISOLATE of a live partition that no span slot holds, RECOVER of a FAULTED one, ARM of an IDLE one
whose resources are ready. -/
def Obligations.PartitionCommands : Prop :=
  (∀ (s : State) (a : Agent) (p : Fin 64), s.admits a .part P.PART = true → s.partOwner a p = true →
    s.bit (R.xx_FLT_INJ P.PART) X.PART_CTX_ECC = false →
    (s.armable p = true → (s.capArm p).1 = true → exec (.partArm a p) s = .next (s.partArm p)) ∧
    (s.armable p = false → exec (.partArm a p) s = .next (s.reject P.PART R.PART_CMD .state)) ∧
    (s.pstate p = pArmed → exec (.partDisarm a p) s = .next ((s.capDisarm p).setPart p pIdle)) ∧
    (s.pstate p ≠ pArmed → exec (.partDisarm a p) s = .next (s.reject P.PART R.PART_CMD .state)) ∧
    (s.pstate p = pRunning → exec (.partPause a p) s = .next (s.runRequest (s.gangOfPart p) 1)) ∧
    (s.pstate p ≠ pRunning → exec (.partPause a p) s = .next (s.reject P.PART R.PART_CMD .state)) ∧
    (s.pstate p = pPaused → exec (.partResume a p) s = .next (s.runRequest (s.gangOfPart p) 2)) ∧
    (s.pstate p ≠ pPaused → exec (.partResume a p) s = .next (s.reject P.PART R.PART_CMD .state)) ∧
    ((s.pstate p = pRunning ∨ s.pstate p = pPaused) → exec (.partAbort a p) s = .next (s.partAbort p)) ∧
    (s.pstate p ≠ pRunning → s.pstate p ≠ pPaused → exec (.partAbort a p) s = .next (s.reject P.PART R.PART_CMD .state) ∧
      exec (.partIsolate a p) s = .next (s.reject P.PART R.PART_CMD .state)) ∧
    ((s.pstate p = pIdle ∨ s.pstate p = pFaulted) → s.partMode = true →
      exec (.partService a p) s = .next (s.setPart p pService)) ∧
    (s.partMode = false → exec (.partService a p) s = .next (s.reject P.PART R.PART_CMD .state)) ∧
    (s.pstate p = pService → s.flag (F.PART_P_STAT_SVC_BUSY p) = false →
      exec (.partEndService a p) s = .next (s.setPart p pIdle)) ∧
    (s.flag (F.PART_P_STAT_SVC_BUSY p) = true → exec (.partEndService a p) s = .next (s.reject P.PART R.PART_CMD .state)) ∧
    ((s.pstate p = pRunning ∨ s.pstate p = pPaused) → s.spanSite p = none → exec (.partIsolate a p) s =
      .next (((s.takeOut p 0).setFlag (F.PART_P_STAT_ISOLATED p) true).event P.PART E.PART_ISOLATED)) ∧
    (s.recoverable p = true →
      exec (.partRecover a p) s = .next ((s.setFlag (F.PART_P_STAT_ISOLATED p) false).setPart p pIdle)) ∧
    (s.pstate p ≠ pFaulted → exec (.partRecover a p) s = .next (s.reject P.PART R.PART_CMD .state))) ∧
  (∀ (s : State) (a : Agent) (p : Fin 64), s.admits a .part P.PART = true → s.partOwner a p = false →
    exec (.partArm a p) s = .next (s.reject P.PART R.PART_CMD .owner) ∧
    exec (.partAbort a p) s = .next (s.reject P.PART R.PART_CMD .owner) ∧
    exec (.partIsolate a p) s = .next (s.reject P.PART R.PART_CMD .owner)) ∧
  (∀ (s : State) (a : Agent) (k : Nat), s.isolation = true → a ≠ .mgmt →
    bitsOf (s.reg R.PART_SHARED_OWNER).toNat 31 30 ≠ 2 → (s.tagOf a).getLsbD k = false → s.partOwner a k = false)

/-- DEFINED is set of an IDLE partition whose quads lie in one gang and whose resources overlap no defined partition and are not
retired, and cleared of an IDLE one; either recomputes the owners of the pages. Otherwise the write is rejected. Only MGMT retires,
and only what is not in use; a retired bit stays. -/
def Obligations.PartitionContexts : Prop :=
  (∀ (s : State) (a : Agent) (p : Fin 64), s.admits a .part P.PART = true →
    s.bit (R.xx_FLT_INJ P.PART) X.PART_CTX_ECC = false → s.defined p = false → s.pstate p = pIdle →
    s.definedParts.all (fun j => j == p.val || !s.partsOverlap p j) = true → s.namesRetired p = false →
    s.quadsLegal p = true → exec (.partDefine a p) s =
      .next ((((s.setFlag (F.PART_P_CFG_DEFINED p) true).forgetCorrupt p).recomputeOwners).ctxRead p).2) ∧
  (∀ (s : State) (a : Agent) (p : Fin 64), s.admits a .part P.PART = true →
    s.bit (R.xx_FLT_INJ P.PART) X.PART_CTX_ECC = false → s.defined p = false → s.pstate p ≠ pIdle →
    exec (.partDefine a p) s = .next (s.reject P.PART (R.PART_P_CFG p) .state)) ∧
  (∀ (s : State) (a : Agent) (p : Fin 64), s.admits a .part P.PART = true → s.defined p = true → s.pstate p = pIdle →
    exec (.partUndefine a p) s = .next (((s.setFlag (F.PART_P_CFG_DEFINED p) false).recomputeOwners).ctxRead p).2) ∧
  (∀ (s : State) (bits : Word), s.admits .mgmt .part P.PART = true →
    (∀ b, b < 32 → s.retInUse 5 b = false) → exec (.partRetire .mgmt 5 bits) s =
      .next (s.orReg R.PART_RET_SY (bits &&& 0xFFFFF))) ∧
  (∀ (s : State) (a : Agent) (i : Fin 7) (bits : Word), s.admits a .part P.PART = true → a ≠ .mgmt →
    exec (.partRetire a i bits) s = .next (s.reject P.PART (retReg i) .agent)) ∧
  (∀ (s t : State) (a : Agent) (i : Fin 7) (bits : Word) (b : Nat), exec (.partRetire a i bits) s = .next t →
    s.bit (retReg i) b = true → t.bit (retReg i) b = true) ∧
  (∀ s : State, s.bit (R.xx_FLT_INJ P.PART) X.PART_CTX_ECC = false → exec (.contextCheckPass []) s = .next s) ∧
  (∀ (s : State) (p : Fin 64), s.bit (R.xx_FLT_INJ P.PART) X.PART_CTX_ECC = false →
    exec (.contextCheckPass [p]) s = .next (s.ctxError p false))

/-- HIC_SWI pulses sources 468 + i. A claim takes the deliverable source of the highest level, the lowest number on a tie: it answers
it with VALID, clears its pending bit, pushes it and counts the delivery; it answers 0 when there is none or the agent is not the
target's. A message of a vector that is ready clears its sources and writes the entry's data to its address; one that is not ready
is not issued. -/
def Obligations.InterruptController : Prop :=
  (∀ (s : State) (a : Agent) (i : Fin 16), s.admits a .hic P.HIC = true →
    exec (.hicSwi a (BitVec.ofNat 16 (2 ^ i.val))) s = .next (s.pulse (468 + i.val))) ∧
  (∀ (s : State) (a : Agent), s.admits a .hic P.HIC = true → exec (.hicSwi a 0) s = .next s) ∧
  (∀ (s : State) (h : Fin 8) (i : Nat), s.responds (.hart h) = true → s.bestSource h = some i →
    s.bit (R.xx_FLT_INJ P.HIC) X.HIC_CFG_ECC = false → s.deliverable h i = true → exec (.hicClaim (.hart h) ⟨h.val, by omega⟩) s =
      .next ((((s.setBit (R.HIC_PEND (i / 32)) (i % 32) false).setNest h ((i, s.srcLevel i) :: s.nest h)).delivered h).answer
        ((BitVec.ofNat 32 (2 ^ 31 + s.srcLevel i * 512 + i)).setWidth 64))) ∧
  (∀ (s : State) (a : Agent) (t : Fin 10), s.responds a = true → (claims a t = false ∨ s.bestSource t = none) →
    exec (.hicClaim a t) s = .next (s.answer 0)) ∧
  (∀ (s : State) (t i : Nat), s.bestSource t = some i → s.deliverable t i = true ∧
    ∀ j, j < 512 → s.deliverable t j = true → s.srcLevel j < s.srcLevel i ∨ (s.srcLevel j = s.srcLevel i ∧ i ≤ j)) ∧
  (∀ (s : State) (t : Nat), s.bestSource t = none ↔ ∀ j, j < 512 → s.deliverable t j = false) ∧
  (∀ (s : State) (v : BitVec 8), s.msixReady v.toNat = true → ∃ t, exec (.msixIssue v) s = .next t ∧
    t.hostOut = s.hostOut ++ [⟨(s.msixEntry v.toNat).addr, leBytes 4 (s.msixEntry v.toNat).data.toNat⟩] ∧
    (∀ i, i ∈ s.vectorSources v.toNat → t.srcPending i = false)) ∧
  (∀ (s : State) (v : BitVec 8), s.msixReady v.toNat = false → exec (.msixIssue v) s = .next s) ∧
  (∀ (s : State) (t : Fin 10), ∃ u, exec (.holdoffExpire t) s = .next u ∧ u.heldOff t = false ∧ u.regs = s.regs ∧
    (∀ x, x ≠ t.val → u.heldOff x = s.heldOff x))

/-- R319: a complete by the target's own agent pops the stack when its number is the top's, and is rejected with STATE and leaves the
stack otherwise; any other agent's is rejected with AGENT; and no complete changes a pending bit, whatever the agent and the number. -/
def Obligations.CompletionPopsTheStack : Prop :=
  (∀ (s : State) (a : Agent) (t : Fin 10) (src : BitVec 9) (l : Nat) (r : List (Nat × Nat)), s.admits a .hic P.HIC = true →
    claims a t = true → s.nest t = (src.toNat, l) :: r → exec (.hicComplete a t src) s = .next (s.setNest t r)) ∧
  (∀ (s : State) (a : Agent) (t : Fin 10) (src : BitVec 9), s.admits a .hic P.HIC = true → claims a t = true →
    (∀ l r, s.nest t ≠ (src.toNat, l) :: r) →
    exec (.hicComplete a t src) s = .next (s.reject P.HIC (R.HIC_T_COMPLETE t) .state) ∧
    (s.reject P.HIC (R.HIC_T_COMPLETE t) .state).nest t = s.nest t) ∧
  (∀ (s : State) (a : Agent) (t : Fin 10) (src : BitVec 9), s.admits a .hic P.HIC = true → claims a t = false → t ≠ 9 →
    exec (.hicComplete a t src) s = .next (s.reject P.HIC (R.HIC_T_COMPLETE t) .agent)) ∧
  (∀ (s u : State) (a : Agent) (t : Fin 10) (src : BitVec 9) (i : Nat), exec (.hicComplete a t src) s = .next u →
    i < 512 → u.srcPending i = s.srcPending i)

/-- FAULT_TAKE takes every fault that waits, in ascending order of source and bit, and enters QUARANTINE on a FATAL one; none waits
afterwards unless a reaction raised it. FLT_ACK closes a source's class; FENCE_END ends a fence once IN_RESET has fallen; a kick
needs MGMT and its key and starts ALIVE unless it stopped; a missed kick raises MGMT_WDOG and stops ALIVE; ERR_N is released except
in QUARANTINE; FLT_DEV_INJ raises a device source for MGMT; FLT_LOG_RD moves within the log. -/
def Obligations.FaultRecorder : Prop :=
  (∀ s : State, s.mode ≠ mCold → s.monel.waiting = [] → ∃ t, exec .faultTake s = .next t ∧ t.regs = s.regs ∧
    t.monel.waiting = []) ∧
  (∀ s : State, s.mode = mCold → exec .faultTake s = .next s) ∧
  (∀ (s : State) (f : FaultRec), s.mode ≠ mCold → s.monel.waiting = [f] → (({ s with monel := { s.monel with
      waiting := [] } } : State).takeFault f).1 ≠ 3 → exec .faultTake s =
    .next ((({ s with monel := { s.monel with waiting := [] } } : State).takeFault f).2.recordFirst
      [(f, (({ s with monel := { s.monel with waiting := [] } } : State).takeFault f).1)])) ∧
  (∀ (s : State) (f : FaultRec), s.mode ≠ mCold → s.monel.waiting = [f] → (({ s with monel := { s.monel with
      waiting := [] } } : State).takeFault f).1 = 3 → exec .faultTake s =
    .next (((({ s with monel := { s.monel with waiting := [] } } : State).takeFault f).2.recordFirst [(f, 3)]).quarantine f.src)) ∧
  (∀ (s : State) (a : Agent) (src : BitVec 8), s.admits a .flt P.FLT = true → ∃ t, exec (.fltAck a src) s = .next t ∧
    t.openClass src.toNat = 0 ∧ t.regs = s.regs ∧ ∀ x, x ≠ src.toNat → t.openClass x = s.openClass x) ∧
  (∀ (s : State) (page : Fin 115) (p : Nat), pageOfOrdinal page.val = some p → s.flag (F.xx_STAT_IN_RESET p) = false →
    ∃ t, exec (.fenceEnd page) s = .next t ∧ p ∉ t.monel.fences ∧ t.regs = s.regs) ∧
  (∀ (s : State) (page : Fin 115) (p : Nat), pageOfOrdinal page.val = some p → s.flag (F.xx_STAT_IN_RESET p) = true →
    exec (.fenceEnd page) s = .next s) ∧
  (∀ s : State, s.admits .mgmt .flt P.FLT = true → s.flag F.FLT_ALIVE_STAT_STOPPED = false → exec (.fltKick .mgmt 0xA11E) s =
    .next (({ s with monel := { s.monel with kicked := true, kickAt := s.dclk } } : State).setFlag F.FLT_ALIVE_STAT_RUN true)) ∧
  (∀ (s : State) (key : BitVec 16), s.admits .mgmt .flt P.FLT = true → key ≠ 0xA11E →
    exec (.fltKick .mgmt key) s = .next (s.reject P.FLT R.FLT_KICK .range)) ∧
  (∀ (s : State) (a : Agent) (key : BitVec 16) (src : BitVec 8), s.admits a .flt P.FLT = true → a ≠ .mgmt →
    exec (.fltKick a key) s = .next (s.reject P.FLT R.FLT_KICK .agent) ∧
    exec (.fltDevInj a src) s = .next (s.reject P.FLT R.FLT_DEV_INJ .agent)) ∧
  (∀ s : State, s.clocked = true → exec .kickMissed s =
    .next (((s.setFlag F.FLT_ALIVE_STAT_RUN false).setFlag F.FLT_ALIVE_STAT_STOPPED true).devFault srcMgmtWdog false)) ∧
  (∀ s : State, s.clocked = false → exec .kickMissed s = .next s) ∧
  (∀ s : State, s.flag F.FLT_ALIVE_STAT_RUN = true →
    exec .aliveToggle s = .next (s.setFlag F.FLT_ALIVE_STAT_LEVEL (!s.flag F.FLT_ALIVE_STAT_LEVEL))) ∧
  (∀ s : State, s.flag F.FLT_ALIVE_STAT_RUN = false → exec .aliveToggle s = .next s) ∧
  (∀ (s : State) (a : Agent), s.admits a .flt P.FLT = true → s.mode ≠ mQuarantine →
    exec (.fltErrnRelease a) s = .next (s.setFlag F.FLT_ERRN_ASSERTED false)) ∧
  (∀ (s : State) (a : Agent), s.admits a .flt P.FLT = true → s.mode = mQuarantine →
    exec (.fltErrnRelease a) s = .next (s.reject P.FLT R.FLT_ERRN .state)) ∧
  (∀ (s : State) (src : BitVec 8), s.admits .mgmt .flt P.FLT = true → 230 ≤ src.toNat → src.toNat ≤ 243 →
    exec (.fltDevInj .mgmt src) s = .next (s.devFault src.toNat true)) ∧
  (∀ (s : State) (a : Agent) (v : Word), s.admits a .flt P.FLT = true → (s.reg R.FLT_LOG_WR - v).toNat ≤ 128 →
    ∃ t, exec (.fltLogRd a v) s = .next t ∧ t.reg R.FLT_LOG_RD = v ∧ s.regsButFor t [R.FLT_LOG_RD]) ∧
  (∀ (s : State) (a : Agent) (v : Word), s.admits a .flt P.FLT = true → 128 < (s.reg R.FLT_LOG_WR - v).toNat →
    exec (.fltLogRd a v) s = .next (s.reject P.FLT R.FLT_LOG_RD .range))

/-- ARM takes an IDLE task, for a thread with an affinity, for a node with its graph in installed DRAM, and is rejected with STATE of any
other task; CANCEL of a RUNNING task is rejected, and every other one leaves the task IDLE with F = 0 where preemption is off;
SETFLAG and CLRFLAG act in any state; a thread ID above 255 is out of range. A wait's timeout makes a thread READY with TIMEDOUT only
while it still waits with a deadline. -/
def Obligations.SchedulerCommands : Prop :=
  (∀ (s : State) (a : Agent) (id : Fin 1024), s.admits a .sched P.SCHED = true → id.val ≤ 255 → (s.task id).st = .idle →
    s.fld F.SCHED_ARG_CFG_AFFINITY ≠ 0 → exec (.schedArm a .thread id) s = .next (s.arm id)) ∧
  (∀ (s : State) (a : Agent) (id : Fin 1024), s.admits a .sched P.SCHED = true → (s.task (1024 + id.val)).st = .idle →
    s.redGraph + 65536 ≤ s.installed → exec (.schedArm a .node id) s = .next (s.arm (1024 + id.val))) ∧
  (∀ (s : State) (a : Agent) (id : Fin 1024), s.admits a .sched P.SCHED = true → id.val ≤ 255 → (s.task id).st ≠ .idle →
    exec (.schedArm a .thread id) s = .next (s.reject P.SCHED R.SCHED_CMD .state)) ∧
  (∀ (s : State) (a : Agent) (id : Fin 1024), s.admits a .sched P.SCHED = true → id.val ≤ 255 →
    (s.task id).st = .running → exec (.schedCancel a .thread id none) s = .next (s.reject P.SCHED R.SCHED_CMD .state)) ∧
  (∀ (s : State) (a : Agent) (id : Fin 1024), s.admits a .sched P.SCHED = true → (s.task (1024 + id.val)).st = .running →
    exec (.schedCancel a .node id none) s = .next (s.reject P.SCHED R.SCHED_CMD .state)) ∧
  (∀ (s : State) (a : Agent) (id : Fin 1024), s.admits a .sched P.SCHED = true → id.val ≤ 255 →
    (s.task id).st ≠ .running → s.flag F.SCHED_CFG_PREEMPT_EN = false →
    ∃ t, exec (.schedCancel a .thread id none) s = .next t ∧ (t.task id).f = 0 ∧ (t.task id).st = .idle ∧
      id.val ∉ t.sched.ready) ∧
  (∀ (s : State) (a : Agent) (k : TaskKind) (id : Fin 1024) (f : Fin 32) (r : Option (Fin 32)),
    s.admits a .sched P.SCHED = true → (k = .node ∨ id.val ≤ 255) →
    exec (.schedSetflag a k id f) s = .next (s.setTaskFlag 4 (taskKey k id) f) ∧
    exec (.schedClrflag a k id f) s = .next ((s.setTask (taskKey k id) { s.task (taskKey k id) with
      f := (s.task (taskKey k id)).f &&& ~~~BitVec.ofNat 32 (2 ^ f.val) }).settle) ∧
    ((s.task (taskKey k id)).st ≠ .running →
      exec (.schedCancel a k id r) s = .next (s.cancel (taskKey k id) (r.map Fin.val)))) ∧
  (∀ (s : State) (a : Agent) (id : Fin 1024) (f : Fin 32), s.admits a .sched P.SCHED = true → 255 < id.val →
    exec (.schedArm a .thread id) s = .next (s.reject P.SCHED R.SCHED_CMD .range) ∧
    exec (.schedSetflag a .thread id f) s = .next (s.reject P.SCHED R.SCHED_CMD .range)) ∧
  (∀ (s : State) (t : Fin 256), (s.task t).st = .waiting → (s.task t).deadline.isSome = true →
    exec (.threadWaitTimeout t) s = .next ((((s.traceSched trTimeout t 0 false 0).makeReady t false true).traceSched
      trReady t 0 false 0).settle)) ∧
  (∀ (s : State) (t : Fin 256), ((s.task t).st ≠ .waiting ∨ (s.task t).deadline = none) →
    exec (.threadWaitTimeout t) s = .next s)

/-- A hart with a thread WAITs, YIELDs, ENDs or hands back a preempted thread, and a free one asks for the NEXT, through its own port
only; the other case is rejected with STATE, another agent's with AGENT. An agent other than the hart enables it: it starts at
HART_BOOT. HART_CNT_CLR clears the hart's 64-bit counters. A trace stream is enabled with its frames, or refused without them. -/
def Obligations.HartSchedulerPorts : Prop :=
  (∀ (s : State) (h : Fin 8), s.admits (.hart h) .hart (P.HART h) = true → s.hartFree h = false →
    exec (.hartSchedWait (.hart h) h) s = .next (s.portCommand h 1) ∧
    exec (.hartSchedYield (.hart h) h) s = .next (s.portCommand h 2) ∧
    exec (.hartSchedEnd (.hart h) h) s = .next (s.portCommand h 3) ∧
    exec (.hartSchedPreempted (.hart h) h) s = .next (s.portCommand h 5) ∧
    exec (.hartSchedNext (.hart h) h) s = .next (s.reject (P.HART h) (R.HART_SCHED_CMD h) .state)) ∧
  (∀ (s : State) (h : Fin 8), s.admits (.hart h) .hart (P.HART h) = true → s.hartFree h = true →
    exec (.hartSchedNext (.hart h) h) s = .next (s.portCommand h 4) ∧
    exec (.hartSchedWait (.hart h) h) s = .next (s.reject (P.HART h) (R.HART_SCHED_CMD h) .state) ∧
    exec (.hartSchedYield (.hart h) h) s = .next (s.reject (P.HART h) (R.HART_SCHED_CMD h) .state)) ∧
  (∀ (s : State) (a : Agent) (h : Fin 8), s.admits a .hart (P.HART h) = true → a ≠ .hart h →
    exec (.hartSchedWait a h) s = .next (s.reject (P.HART h) (R.HART_SCHED_CMD h) .agent) ∧
    exec (.hartSchedNext a h) s = .next (s.reject (P.HART h) (R.HART_SCHED_CMD h) .agent)) ∧
  (∀ (s : State) (h k : Nat), s.readyThreads.find? (fun k => s.eligible (s.task k).aff h) = some k →
    s.dispatchFor h = s.dispatchThread k h ∧ s.eligible (s.task k).aff h = true ∧ k < 1024) ∧
  (∀ (s : State) (a : Agent) (h : Fin 8), s.admits a .hart (P.HART h) = true → a ≠ .hart h →
    s.flag (F.xx_CTRL_ENABLE (P.HART h)) = false → ∃ t, exec (.hartEnable a h) s = .next t ∧
      t.hart h = { Hart.init with pc := s.hartBoot h, l1 := (s.hart h).l1 } ∧ s.hartsButFor t h) ∧
  (∀ (s : State) (h : Fin 8), s.admits (.hart h) .hart (P.HART h) = true →
    exec (.hartEnable (.hart h) h) s = .next (s.reject (P.HART h) (R.xx_CTRL (P.HART h)) .agent)) ∧
  (∀ (s : State) (a : Agent) (h : Fin 8), s.admits a .hart (P.HART h) = true → ∃ t, exec (.hartCntClr a h) s = .next t ∧
    t.reg64 (R.HART_CNT_BUSY_LO h) (R.HART_CNT_BUSY_HI h) = 0 ∧ t.reg64 (R.HART_CNT_WAIT_LO h) (R.HART_CNT_WAIT_HI h) = 0 ∧
    t.reg64 (R.HART_CNT_DEPTH_LO h) (R.HART_CNT_DEPTH_HI h) = 0 ∧ s.regsButFor t [R.HART_CNT_BUSY_LO h,
      R.HART_CNT_BUSY_HI h, R.HART_CNT_WAIT_LO h, R.HART_CNT_WAIT_HI h, R.HART_CNT_DEPTH_LO h, R.HART_CNT_DEPTH_HI h]) ∧
  (∀ (s : State) (a : Agent), s.admits a .trace P.TRACE = true → (s.traceSwitch false true).flag F.TRACE_CTRL_S_EN = true →
    exec (.traceEnable a false) s = .next (s.traceSwitch false true)) ∧
  (∀ (s : State) (a : Agent), s.admits a .trace P.TRACE = true → s.flag F.TRACE_CTRL_S_EN = false →
    (s.traceSwitch false true).flag F.TRACE_CTRL_S_EN = false →
    exec (.traceEnable a false) s = .next ((s.reject P.TRACE R.TRACE_CTRL .state).event P.ALLOC E.ALLOC_REFUSED))

/-- No node is dispatched in QUARANTINE, in a sleep entry or while the page quiesces; a dispatch finds nothing to do when every unit is
busy or no node is READY, and otherwise gives the free unit of the lowest number the READY node of the highest priority. A unit that
is not busy, or whose queue node waits, does not complete; any other completes with its outcome. -/
def Obligations.NodesOfTheGraph : Prop :=
  (∀ s : State, (s.mode = mQuarantine ∨ s.dev.sleep.target ≠ 0 ∨ s.flag (F.xx_CTRL_QUIESCE P.RED) = true) →
    exec .nodeDispatch s = .next s) ∧
  (∀ s : State, (s.nextNode = none ∨ ∀ u, u < 8 → s.flag (F.RED_EU_BUSY u) = true) → exec .nodeDispatch s = .next s) ∧
  (∀ (s : State) (k : Nat), s.mode ≠ mQuarantine → s.dev.sleep.target = 0 → s.flag (F.xx_CTRL_QUIESCE P.RED) = false →
    s.nextNode = some k → s.flag (F.RED_EU_BUSY 7) = false → (∀ u, u < 7 → s.flag (F.RED_EU_BUSY u) = true) →
    exec .nodeDispatch s = .next (s.dispatchNode k 7)) ∧
  (∀ (s : State) (k : Nat), s.nextNode = some k → k ∈ s.sched.ready ∧ 1024 ≤ k ∧
    ∀ j ∈ s.sched.ready, 1024 ≤ j → (s.task j).readyAt < s.dclk → (s.task j).prio < 32 → (s.task j).prio ≤ (s.task k).prio) ∧
  (∀ (s : State) (u : Fin 8) (e : Option (Bool × Nat)), s.flag (F.RED_EU_BUSY u) = true → s.nodeWaits u = false →
    s.mode ≠ mQuarantine → exec (.nodeComplete u e) s = .next (s.nodeRun u e)) ∧
  (∀ (s : State) (u : Fin 8) (e : Option (Bool × Nat)), (s.flag (F.RED_EU_BUSY u) = false ∨ s.nodeWaits u = true) →
    exec (.nodeComplete u e) s = .next s)

/-- R312: a write of TRACE_S_FRAMES or TRACE_P_FRAMES is taken while its stream is disabled, rejected with STATE while it is enabled, and
rejected with RANGE for the value 0. -/
def Obligations.TraceSizesAreFixedWhileEnabled : Prop :=
  ∀ (s : State) (a : Agent) (pat : Bool) (off : Nat) (en : Fld) (v : Word), s.admits a .trace P.TRACE = true →
    off = (if pat then R.TRACE_P_FRAMES else R.TRACE_S_FRAMES) →
    en = (if pat then F.TRACE_CTRL_P_EN else F.TRACE_CTRL_S_EN) →
    (s.flag en = false → v.toNat % 65536 ≠ 0 →
      exec (.registerWrite a (BitVec.ofNat 26 off) 0xF v) s = .next (s.setReg off (v &&& 0xFFFF))) ∧
    (s.flag en = true → exec (.registerWrite a (BitVec.ofNat 26 off) 0xF v) s = .next (s.reject P.TRACE off .state)) ∧
    (s.flag en = false → v.toNat % 65536 = 0 →
      exec (.registerWrite a (BitVec.ofNat 26 off) 0xF v) s = .next (s.reject P.TRACE off .range))

/-- R311: a write of RED_GRAPH_LO or RED_GRAPH_HI is taken while every node is IDLE, and rejected with STATE while one is not. -/
def Obligations.GraphAddressIsFixedWhileNodesLive : Prop :=
  (∀ (s : State) (a : Agent) (v : Word), s.admits a .red P.RED = true → (∀ x ∈ s.sched.tasks, 1024 ≤ x.1 → x.2.st = .idle) →
    exec (.registerWrite a (BitVec.ofNat 26 R.RED_GRAPH_LO) 0xF v) s = .next (s.setReg R.RED_GRAPH_LO (v &&& 0xFFFF0000)) ∧
    exec (.registerWrite a (BitVec.ofNat 26 R.RED_GRAPH_HI) 0xF v) s = .next (s.setReg R.RED_GRAPH_HI (v &&& 0xFF))) ∧
  (∀ (s : State) (a : Agent) (v : Word) (n : Fin 1024), s.admits a .red P.RED = true → (s.task (1024 + n.val)).st ≠ .idle →
    exec (.registerWrite a (BitVec.ofNat 26 R.RED_GRAPH_LO) 0xF v) s = .next (s.reject P.RED R.RED_GRAPH_LO .state) ∧
    exec (.registerWrite a (BitVec.ofNat 26 R.RED_GRAPH_HI) 0xF v) s = .next (s.reject P.RED R.RED_GRAPH_HI .state))

/-- R500: MGMT writes DEV_BOOT_PREF, DEV_BOOT.DONE and DEV_BOOT.TRAINED (with their effects, under their own conditions); a write of
any of them by any other agent is rejected with AGENT. -/
def Obligations.BootRegistersAreMgmtOnly : Prop :=
  (∀ (s : State) (v : Word), s.admits .mgmt .dev P.DEV = true → v.toNat % 4 ≠ 3 →
    exec (.registerWrite .mgmt (BitVec.ofNat 26 R.DEV_BOOT_PREF) 0xF v) s = .next (s.setReg R.DEV_BOOT_PREF (v &&& 3))) ∧
  (∀ s : State, s.admits .mgmt .dev P.DEV = true → s.mode = mBoot →
    exec (.devBootDone .mgmt) s = .next (s.setMode mTrain)) ∧
  (∀ s : State, s.admits .mgmt .dev P.DEV = true → s.mode = mTrain → s.flag F.ALLOC_MAP_VALID = true →
    s.portsSettled = true → exec (.devBootTrained .mgmt) s = .next (s.setMode mReady)) ∧
  (∀ (s : State) (a : Agent) (v : Word), s.admits a .dev P.DEV = true → a ≠ .mgmt →
    exec (.registerWrite a (BitVec.ofNat 26 R.DEV_BOOT_PREF) 0xF v) s = .next (s.reject P.DEV R.DEV_BOOT_PREF .agent) ∧
    exec (.registerWrite a (BitVec.ofNat 26 R.DEV_BOOT) 0xF v) s = .next (s.reject P.DEV R.DEV_BOOT .agent) ∧
    exec (.devBootDone a) s = .next (s.reject P.DEV R.DEV_BOOT .agent) ∧
    exec (.devBootTrained a) s = .next (s.reject P.DEV R.DEV_BOOT .agent))

/-- R501: a write of PWR_WAKE_EN, PWR_WAKE_TMR or PWR_SLEEP_TMO is taken while DEV_MODE.BUSY is 0 (a timeout of 0 is out of range), and
rejected with STATE while it is 1. -/
def Obligations.WakeRegistersAreFixedWhileBusy : Prop :=
  (∀ (s : State) (a : Agent) (v : Word), s.admits a .pwr P.PWR = true → s.flag F.DEV_MODE_BUSY = false →
    exec (.registerWrite a (BitVec.ofNat 26 R.PWR_WAKE_EN) 0xF v) s = .next (s.setReg R.PWR_WAKE_EN (v &&& 0x1F)).relatch ∧
    exec (.registerWrite a (BitVec.ofNat 26 R.PWR_WAKE_TMR) 0xF v) s = .next (s.setReg R.PWR_WAKE_TMR v) ∧
    (v.toNat % 65536 ≠ 0 →
      exec (.registerWrite a (BitVec.ofNat 26 R.PWR_SLEEP_TMO) 0xF v) s = .next (s.setReg R.PWR_SLEEP_TMO (v &&& 0xFFFF)))) ∧
  (∀ (s : State) (a : Agent) (v : Word), s.admits a .pwr P.PWR = true → s.flag F.DEV_MODE_BUSY = true →
    exec (.registerWrite a (BitVec.ofNat 26 R.PWR_WAKE_EN) 0xF v) s = .next (s.reject P.PWR R.PWR_WAKE_EN .state) ∧
    exec (.registerWrite a (BitVec.ofNat 26 R.PWR_WAKE_TMR) 0xF v) s = .next (s.reject P.PWR R.PWR_WAKE_TMR .state) ∧
    exec (.registerWrite a (BitVec.ofNat 26 R.PWR_SLEEP_TMO) 0xF v) s = .next (s.reject P.PWR R.PWR_SLEEP_TMO .state))

/-- A read of installed DRAM answers the eight bytes at its address when the data is good, counts and reports a corrected error, and
answers nothing when the data is poisoned: then it retires the frame. A write stores its bytes and nothing else, at most to the end
of its 64-byte burst; a FAULTED channel fails it; an access beyond the installed DRAM does nothing. The scrubber runs only on a
READY channel with HOURS not 0. -/
def Obligations.DramReadsAndWrites : Prop :=
  (∀ (s : State) (x : BitVec 40) (r : Requester), x.toNat < s.installed → s.chState (s.dramPlace x.toNat).1 = chReady →
    s.bit (R.xx_FLT_INJ (P.DRAM (s.dramPlace x.toNat).1)) X.DRAM_ECC_UC = false →
    s.bit (R.xx_FLT_INJ (P.DRAM (s.dramPlace x.toNat).1)) X.DRAM_ECC_RETRY = false →
    s.bit (R.xx_FLT_INJ (P.DRAM (s.dramPlace x.toNat).1)) X.DRAM_ECC_CE = false →
    exec (.dramRead x r .clean none) s = .next (s.answer (BitVec.ofNat 64 (s.memNat x.toNat 8))) ∧
    exec (.dramRead x r .lasting none) s =
      .next ((((s.setReg (R.DRAM_UE_ADDR_LO (s.dramPlace x.toNat).1) (BitVec.ofNat 32 x.toNat)).setReg
        (R.DRAM_UE_ADDR_HI (s.dramPlace x.toNat).1) (BitVec.ofNat 32 (x.toNat / 2 ^ 32))).fault
        (P.DRAM (s.dramPlace x.toNat).1) X.DRAM_ECC_UC).retireFrame (x.toNat / 2 ^ 21))) ∧
  (∀ (s : State) (x : BitVec 40) (r : Requester) (c : ReadCheck) (d : List Byte) (v : Option Activate),
    s.installed ≤ x.toNat → exec (.dramRead x r c v) s = .next s ∧ exec (.dramWrite x r d v) s = .next s) ∧
  (∀ (s : State) (x : BitVec 40) (r : Requester) (d : List Byte), x.toNat < s.installed →
    s.chState (s.dramPlace x.toNat).1 = chReady → d.length ≤ 64 - x.toNat % 64 →
    exec (.dramWrite x r d none) s = .next (s.setMem x.toNat d) ∧ s.memSameBut (s.setMem x.toNat d) x.toNat d.length ∧
    ∀ i, i < d.length → (s.setMem x.toNat d).memByte (x.toNat + i) = d.getD i 0) ∧
  (∀ (s : State) (x : BitVec 40) (r : Requester) (d : List Byte), x.toNat < s.installed →
    s.chState (s.dramPlace x.toNat).1 = chFaulted → exec (.dramWrite x r d none) s = .next (s.writeFail r) ∧
    s.memSame (s.writeFail r)) ∧
  (∀ (s : State) (n : Fin 8) (x : BitVec 40) (c : ReadCheck) (l : Bool), (s.fld (F.DRAM_SCRUB_HOURS n) = 0 ∨
    s.chState n ≠ chReady) → exec (.scrubRead n x c l) s = .next s) ∧
  (∀ (s : State) (n : Fin 8) (x : BitVec 40) (c : ReadCheck), s.fld (F.DRAM_SCRUB_HOURS n) ≠ 0 → s.chState n = chReady →
    exec (.scrubRead n x c false) s = .next (s.readCheck n x.toNat c) ∧
    exec (.scrubRead n x c true) s = .next ((s.readCheck n x.toNat c).count (R.xx_BLK_COUNT (P.DRAM n))))

/-- An alert that the replay clears counts it and leaves the channel READY, one that repeats or does not release in time fails the
channel; an idle channel enters self-refresh only with a time set, no sequencer busy and no capture armed; a throttle and a window
end. Nothing happens to a channel in another state. -/
def Obligations.DramChannelEvents : Prop :=
  (∀ (s : State) (n : Fin 8), (s.chState n = chReady ∨ s.chState n = chReplay ∨ s.chState n = chSelfRefresh) →
    exec (.caParityAlert n .released) s =
      .next (((s.setFld (F.DRAM_STAT_STATE n) chReady).count (R.DRAM_REPLAY n)).fault (P.DRAM n) X.DRAM_CA_REPLAY) ∧
    exec (.caParityAlert n .again) s = .next (s.chanFail n) ∧
    exec (.caParityAlert n .held) s = .next (s.setFld (F.DRAM_STAT_STATE n) chReplay)) ∧
  (∀ (s : State) (n : Fin 8) (o : AlertOutcome), (s.chState n = chOff ∨ s.chState n = chTraining ∨ s.chState n = chFaulted) →
    exec (.caParityAlert n o) s = .next s) ∧
  (∀ (s : State) (n : Fin 8), s.chState n = chReplay → exec (.caReplayTimeout n) s = .next (s.chanFail n)) ∧
  (∀ (s : State) (n : Fin 8), s.chState n ≠ chReplay → exec (.caReplayTimeout n) s = .next s) ∧
  (∀ (s : State) (n : Fin 8), s.chState n = chReady → s.fld (F.DRAM_SR_IDLE_US n) ≠ 0 → s.seqBusy = false →
    s.captureArmed = false → exec (.idleSelfRefreshEnter n) s =
      .next ((s.setFld (F.DRAM_STAT_STATE n) chSelfRefresh).event (P.DRAM n) E.DRAM_SR_ENTER)) ∧
  (∀ (s : State) (n : Fin 8), (s.chState n ≠ chReady ∨ s.fld (F.DRAM_SR_IDLE_US n) = 0 ∨ s.seqBusy = true ∨
    s.captureArmed = true) → exec (.idleSelfRefreshEnter n) s = .next s) ∧
  (∀ (s : State) (n : Fin 8), exec (.rhThrottleEnd n) s = .next (s.setFlag (F.DRAM_RH_STAT_THROTTLING n) false)) ∧
  (∀ (s : State) (n : Fin 8), ∃ t, exec (.rhWindowEnd n) s = .next t ∧ t.regs = s.regs ∧ s.memSame t ∧
    (∀ sub b, sub < 2 → b < 256 → sget [] t.dram.rh (rhKey n sub b) = []) ∧
    (∀ m sub b, m ≠ n.val → sub < 2 → b < 256 → sget [] t.dram.rh (rhKey m sub b) = sget [] s.dram.rh (rhKey m sub b)))

/-- Setting ENABLE puts a present channel into TRAINING. Each training operation of MGMT starts while the channel may be trained and
reads BUSY; another agent's is rejected, as is one outside TRAIN and TRAINING. An operation that ends reports its windows: MRW sets
the mode register, MRR answers it on every lane, APPLY puts the delays in force, VERIFY makes the channel READY when it passes and
loses its contents, a timeout fails it. -/
def Obligations.DramTraining : Prop :=
  (∀ (s : State) (a : Agent) (n : Fin 8), s.admits a .dram (P.DRAM n) = true →
    s.flag (F.xx_CTRL_ENABLE (P.DRAM n)) = false → s.flag (F.xx_CTRL_BLOCK_RESET (P.DRAM n)) = false →
    s.flag (F.DRAM_GEOM_PRESENT n) = true →
    ∃ t, exec (.dramInit a n) s = .next t ∧ t.chState n = chTraining ∧ t.flag (F.xx_CTRL_ENABLE (P.DRAM n)) = true ∧
      t.fld (F.DRAM_STAT_CAP_GIB n) = s.chCapacity n / 2 ^ 30) ∧
  (∀ (s : State) (n : Fin 8) (rank sub : Bool), s.admits .mgmt .dram (P.DRAM n) = true → s.trainable n = true →
    exec (.dramTrnCsSweep .mgmt n rank sub) s = .next (s.trnStart n (BitVec.ofNat 32 ((if rank then 128 else 0) + (if sub then 64 else 0) + 1))) ∧
    exec (.dramTrnCaSweep .mgmt n rank sub) s = .next (s.trnStart n (BitVec.ofNat 32 ((if rank then 128 else 0) + (if sub then 64 else 0) + 2))) ∧
    exec (.dramTrnMrw .mgmt n rank sub) s = .next (s.trnStart n (BitVec.ofNat 32 ((if rank then 128 else 0) + (if sub then 64 else 0) + 3))) ∧
    exec (.dramTrnMrr .mgmt n rank sub) s = .next (s.trnStart n (BitVec.ofNat 32 ((if rank then 128 else 0) + (if sub then 64 else 0) + 4))) ∧
    exec (.dramTrnWlevel .mgmt n rank sub) s = .next (s.trnStart n (BitVec.ofNat 32 ((if rank then 128 else 0) + (if sub then 64 else 0) + 5))) ∧
    exec (.dramTrnRdSweep .mgmt n rank sub) s = .next (s.trnStart n (BitVec.ofNat 32 ((if rank then 128 else 0) + (if sub then 64 else 0) + 6))) ∧
    exec (.dramTrnWrSweep .mgmt n rank sub) s = .next (s.trnStart n (BitVec.ofNat 32 ((if rank then 128 else 0) + (if sub then 64 else 0) + 7))) ∧
    exec (.dramTrnApply .mgmt n rank sub) s = .next (s.trnStart n (BitVec.ofNat 32 ((if rank then 128 else 0) + (if sub then 64 else 0) + 8))) ∧
    exec (.dramTrnVerify .mgmt n rank sub) s = .next (s.trnStart n (BitVec.ofNat 32 ((if rank then 128 else 0) + (if sub then 64 else 0) + 9))) ∧
    exec (.dramResume .mgmt n rank sub) s = .next (s.trnStart n (BitVec.ofNat 32 ((if rank then 128 else 0) + (if sub then 64 else 0) + 10))) ∧
    exec (.dramTrnRverify .mgmt n rank sub) s = .next (s.trnStart n (BitVec.ofNat 32 ((if rank then 128 else 0) + (if sub then 64 else 0) + 11))) ∧
    ∀ v, (s.trnStart n v).flag (F.DRAM_TRN_CMD_BUSY n) = true) ∧
  (∀ (s : State) (a : Agent) (n : Fin 8) (rank sub : Bool), s.admits a .dram (P.DRAM n) = true → a ≠ .mgmt →
    exec (.dramTrnCsSweep a n rank sub) s = .next (s.reject (P.DRAM n) (R.DRAM_TRN_CMD n) .agent) ∧
    exec (.dramTrnVerify a n rank sub) s = .next (s.reject (P.DRAM n) (R.DRAM_TRN_CMD n) .agent)) ∧
  (∀ (s : State) (n : Fin 8) (rank sub : Bool), s.admits .mgmt .dram (P.DRAM n) = true → s.trainable n = false →
    exec (.dramTrnCsSweep .mgmt n rank sub) s = .next (s.reject (P.DRAM n) (R.DRAM_TRN_CMD n) .state)) ∧
  (∀ (s : State) (n : Fin 8) (p : Bool) (w e : List (BitVec 7 × Word)), s.flag (F.DRAM_TRN_CMD_BUSY n) = false →
    exec (.dramTrnDone n p w e) s = .next s ∧ exec (.dramTrnTimeout n) s = .next s) ∧
  (∀ (s : State) (n : Fin 8) (p : Bool) (w e : List (BitVec 7 × Word)), s.flag (F.DRAM_TRN_CMD_BUSY n) = true →
    exec (.dramTrnDone n p w e) s = .next ((((s.trnReport n w e).trnEnd n p).2.setReg (R.DRAM_TRN_CMD n)
      (BitVec.ofNat 32 (((s.trnReport n w e).trnEnd n p).1 * 2 ^ 28))).event (P.DRAM n) E.DRAM_TRN_DONE) ∧
    exec (.dramTrnTimeout n) s =
      .next (((s.setReg (R.DRAM_TRN_CMD n) 0x20000000).event (P.DRAM n) E.DRAM_TRN_DONE).trainFail n)) ∧
  (∀ (s : State) (n : Fin 8), sget 0 s.dram.trnOp n % 16 = 9 →
    s.trnEnd n true = (0, (s.loseChannel n).chanReady n) ∧ s.trnEnd n false = (3, (s.loseChannel n).trainFail n)) ∧
  (∀ (s : State) (n : Fin 8), sget 0 s.dram.trnOp n % 16 = 8 → s.trnEnd n true = (0, s.applyDelays n))

/-- ALLOC_MAP is MGMT's, in TRAIN, once, over READY channels of one geometry in whole groups, and installs their frames. An ALLOC_CMD
waits with BUSY until it is served: an allocation answers its frames or why there are none, a free of frames that are not the
pool's names the first of them and frees none, a retire retires, a query answers the frame's state, pool and owner. -/
def Obligations.FrameAllocator : Prop :=
  (∀ (s : State) (w : BitVec 2) (m : BitVec 8), s.admits .mgmt .alloc P.ALLOC = true → s.mode = mTrain →
    s.flag F.ALLOC_MAP_VALID = false → (groupsPresent w.toNat m.toNat).length * 2 ^ w.toNat = (channelsOf m.toNat).length →
    (∀ n ∈ channelsOf m.toNat, s.chState n = chReady ∧
      s.reg (R.DRAM_GEOM n) = s.reg (R.DRAM_GEOM ((channelsOf m.toNat).headD 0))) →
    ∃ t, exec (.allocMap .mgmt w m) s = .next t ∧ t.flag F.ALLOC_MAP_VALID = true ∧
      t.fld F.ALLOC_MAP_W_LOG2 = w.toNat ∧ t.fld F.ALLOC_MAP_CHMASK = m.toNat ∧
      s.regsButFor t [R.ALLOC_MAP, R.ALLOC_FRAMES, R.ALLOC_FREE]) ∧
  (∀ (s : State) (w : BitVec 2) (m : BitVec 8), s.admits .mgmt .alloc P.ALLOC = true →
    (s.mode ≠ mTrain ∨ s.flag F.ALLOC_MAP_VALID = true) →
    exec (.allocMap .mgmt w m) s = .next (s.reject P.ALLOC R.ALLOC_MAP .state)) ∧
  (∀ (s : State) (a : Agent) (w : BitVec 2) (m : BitVec 8), s.admits a .alloc P.ALLOC = true → a ≠ .mgmt →
    exec (.allocMap a w m) s = .next (s.reject P.ALLOC R.ALLOC_MAP .agent)) ∧
  (∀ (s : State) (a : Agent) (p : BitVec 3) (n : BitVec 18), s.admits a .alloc P.ALLOC = true →
    s.flag F.ALLOC_RES_BUSY = false → (p.toNat = poolHart ∨ p.toNat = poolDma) →
    (∃ t, exec (.frameAlloc a p n) s = .next t ∧ t.flag F.ALLOC_RES_BUSY = true ∧
      t.dram.cmd = some (BitVec.ofNat 32 (2 ^ 28 + p.toNat * 2 ^ 24 + n.toNat))) ∧
    (∃ t, exec (.frameFree a p n) s = .next t ∧ t.flag F.ALLOC_RES_BUSY = true ∧
      t.dram.cmd = some (BitVec.ofNat 32 (2 * 2 ^ 28 + p.toNat * 2 ^ 24 + n.toNat))) ∧
    (∃ t, exec (.frameRetire a) s = .next t ∧ t.flag F.ALLOC_RES_BUSY = true ∧ t.dram.cmd = some 0x30000000) ∧
    (∃ t, exec (.frameQuery a) s = .next t ∧ t.flag F.ALLOC_RES_BUSY = true ∧ t.dram.cmd = some 0x40000000)) ∧
  (∀ (s : State) (a : Agent) (p : BitVec 3) (n : BitVec 18), s.admits a .alloc P.ALLOC = true →
    s.flag F.ALLOC_RES_BUSY = true → exec (.frameAlloc a p n) s = .next (s.reject P.ALLOC R.ALLOC_CMD .state) ∧
    exec (.frameQuery a) s = .next (s.reject P.ALLOC R.ALLOC_CMD .state)) ∧
  (∀ s : State, s.dram.cmd = none → exec .allocServe s = .next s) ∧
  (∀ (s : State) (v : Word), s.dram.cmd = some v →
    exec .allocServe s = .next (({ s with dram := { s.dram with cmd := none } } : State).allocServe v)) ∧
  (∀ (s : State) (v : Word) (f : Nat), bitsOf v.toNat 31 28 = 2 → s.bit (R.xx_FLT_INJ P.ALLOC) X.ALLOC_FT_ECC = false →
    ((List.range (bitsOf v.toNat 17 0)).map (fun i => s.fld F.ALLOC_ARG_FRAME + i)).find?
      (fun f => !s.allocatedTo (bitsOf v.toNat 26 24) f) = some f → s.allocServe v = s.allocResult 4 0 0 f)

/-- TIME_SET puts the counter to the value set in FREE or ROOT while no span slot forbids it, and is rejected otherwise. An exchange
starts on a link that is up. Its timeout drops it and counts an outlier on the source port; 5 ms without one puts a following servo
into HOLDOVER; the trim moves by at most its slew toward its target. Reading the head of the stamp queue takes its oldest entry, and
answers 0 when it is empty. A generator armed for the future fires nothing yet and counts from 0; one that is due fires once. -/
def Obligations.InvarTime : Prop :=
  (∀ (s : State) (a : Agent), s.admits a .time P.TIME = true → (s.sstate = ssFree ∨ s.sstate = ssRoot) → s.spanHold = false →
    ∃ t, exec (.timeSet a) s = .next t ∧ t.now = s.reg64 R.TIME_SET_LO R.TIME_SET_HI) ∧
  (∀ (s : State) (a : Agent), s.admits a .time P.TIME = true → (s.spanHold = true ∨ (s.sstate ≠ ssFree ∧ s.sstate ≠ ssRoot)) →
    exec (.timeSet a) s = .next (s.reject P.TIME R.TIME_CMD .state)) ∧
  (∀ (s : State) (p : Fin 6), s.linkUp p = true → exec (.timeExchange p) s = .next ((s.linkWake p).exchangeStart p)) ∧
  (∀ (s : State) (p : Fin 6), s.linkUp p = false → exec (.timeExchange p) s = .next s) ∧
  (∀ (s : State) (p : Fin 6), sget none s.time.exch p.val = none → exec (.exchangeTimeout p) s = .next s) ∧
  (∀ (s : State) (p : Fin 6), sget none s.time.exch p.val ≠ none → ∃ t, exec (.exchangeTimeout p) s = .next t ∧
    sget none t.time.exch p.val = none ∧ t.time.ctr = s.time.ctr ∧
    t.reg R.TIME_OUTLIER = (if s.isSource p = true then BitVec.ofNat 32 (satInc (s.reg R.TIME_OUTLIER).toNat)
      else s.reg R.TIME_OUTLIER)) ∧
  (∀ s : State, s.fld F.TIME_STAT_SRC_PORT ≠ 7 → (s.sstate = ssAcquire ∨ s.sstate = ssTrack ∨ s.sstate = ssLocked) →
    exec .holdoverTimeout s = .next (s.setSstate ssHoldover)) ∧
  (∀ s : State, s.fld F.TIME_STAT_SRC_PORT = 7 → exec .holdoverTimeout s = .next s) ∧
  (∀ s : State, (s.astate = asHold ∨ s.astate = asFail) → exec .trimSlewStep s = .next s) ∧
  (∀ s : State, s.astate ≠ asHold → s.astate ≠ asFail → ∃ t, exec .trimSlewStep s = .next t ∧ t.regs = s.regs ∧
    t.time.target = s.time.target ∧ (t.time.trim - s.time.trim).natAbs ≤ s.fld F.TIME_ALIGN_TRIM_SLEW ∧
    (t.time.target - t.time.trim).natAbs ≤ (s.time.target - s.time.trim).natAbs) ∧
  (∀ (s : State) (a : Agent) (e : EsEntry) (l : List EsEntry), s.responds a = true → s.time.queue = e :: l →
    ∃ t, exec (.timeEsHeadRead a) s = .next t ∧ t.lastRead = (e.stamp.setWidth 32).setWidth 64 ∧ t.time.queue = l ∧
      t.regs = s.regs) ∧
  (∀ (s : State) (a : Agent), s.responds a = true → s.time.queue = [] →
    ∃ t, exec (.timeEsHeadRead a) s = .next t ∧ t.lastRead = 0 ∧ t.time.queue = []) ∧
  (∀ (s : State) (a : Agent) (k : Fin 4), s.admits a .time P.TIME = true → s.flag (F.PG_CFG_EN k) = false →
    s.fld (F.PG_CFG_MODE k) = 0 → s.fld (F.PG_CFG_WIDTH k) ≠ 0 →
    exec (.pgEnable a k) s = .next ((s.setReg (R.PG_CFG k) ((s.reg (R.PG_CFG k) ||| 0x80000000) &&& 0xE00FFF00)).pgArm k)) ∧
  (∀ (s : State) (a : Agent) (k : Fin 4), s.admits a .time P.TIME = true → s.flag (F.PG_CFG_EN k) = true →
    exec (.pgEnable a k) s = .next (s.reject P.TIME (R.PG_CFG k) .state)) ∧
  (∀ (s : State) (k : Fin 4), s.flag (F.PG_STAT_ARMED k) = true → s.pgDueCount k s.now ≠ 0 → exec (.pulseFire k) s =
    .next (s.pgFire k (s.pgDueCount k s.now) (decide (1 < s.pgDueCount k s.now)))) ∧
  (∀ (s : State) (k : Fin 4), (s.flag (F.PG_STAT_ARMED k) = false ∨ s.pgDueCount k s.now = 0) →
    exec (.pulseFire k) s = .next s)

/-- A START of a channel that is not active, outside QUARANTINE and a sleep entry, runs the start checks; of an active one it is
rejected. A transfer of length 0 ends at once with nothing moved, one that its bindings forbid ends ILLEGAL. ABORT ends an active
transfer ABORTED, unless its last write completed in that clock, and is ignored otherwise. DMA_DONE completes a transfer whose beats
have all moved, and ends one whose next beat fails with its cause. A queue wait ends when its queue can serve, or times out. -/
def Obligations.DmaTransfers : Prop :=
  (∀ (s : State) (a : Agent) (ch : Fin 32) (v : BitVec 5), s.admits a .dma (P.DMA (ch.val / 8)) = true →
    s.dmaActive ch = false → s.mode ≠ mQuarantine → s.dev.sleep.target = 0 → exec (.dmaStart a ch v) s =
      .next ((s.setReg (R.DMA_CH_CTRL (ch.val / 8) (ch.val % 8)) (BitVec.ofNat 32 (v.toNat * 4))).dmaStart ch)) ∧
  (∀ (s : State) (a : Agent) (ch : Fin 32) (v : BitVec 5), s.admits a .dma (P.DMA (ch.val / 8)) = true →
    (s.dmaActive ch = true ∨ s.mode = mQuarantine) → exec (.dmaStart a ch v) s =
      .next (s.reject (P.DMA (ch.val / 8)) (R.DMA_CH_CTRL (ch.val / 8) (ch.val % 8)) .state)) ∧
  (∀ (s : State) (ch : Fin 32), s.dmaLen ch = 0 → s.dmaCrcWr ch = false →
    ∃ u : State, s.dmaStart ch = u.dmaEnd ch dmaOk ∧ u.dmaMoved ch = 0 ∧ s.memSame u) ∧
  (∀ (s : State) (ch : Fin 32), s.dmaLen ch ≠ 0 → (s.dmaSrc ch).space = spQueue →
    s.queueCons ((s.dmaSrc ch).addr.toNat % 32) (0x40 + ch.val) = false →
    ∃ u : State, s.dmaStart ch = u.dmaEnd ch dmaIllegal ∧ u.dmaMoved ch = 0 ∧ s.memSame u) ∧
  (∀ (s : State) (a : Agent) (ch : Fin 32), s.admits a .dma (P.DMA (ch.val / 8)) = true → s.dmaActive ch = true →
    (s.dmaMoved ch < s.dmaLen ch ∨ s.dmaWaiting ch = true) → exec (.dmaAbort a ch) s = .next (s.dmaEnd ch dmaAborted)) ∧
  (∀ (s : State) (a : Agent) (ch : Fin 32), s.admits a .dma (P.DMA (ch.val / 8)) = true → s.dmaActive ch = true →
    s.dmaLen ch ≤ s.dmaMoved ch → s.dmaWaiting ch = false → exec (.dmaAbort a ch) s = .next (s.dmaComplete ch)) ∧
  (∀ (s : State) (a : Agent) (ch : Fin 32), s.admits a .dma (P.DMA (ch.val / 8)) = true → s.dmaActive ch = false →
    s.mode ≠ mQuarantine → ∃ t, exec (.dmaAbort a ch) s = .next t ∧ t.dmaActive ch = false ∧ s.memSame t ∧
      s.regsButFor t [R.DMA_CH_CTRL (ch.val / 8) (ch.val % 8)]) ∧
  (∀ (s : State) (ch : Fin 32) (d : List Byte) (e : Option (Nat × DmaError)), s.dmaActive ch = false →
    exec (.dmaDone ch d e) s = .next s) ∧
  (∀ (s : State) (ch : Fin 32) (d : List Byte) (e : Option (Nat × DmaError)), s.dmaActive ch = true →
    s.dmaWaiting ch = false → s.dmaLen ch ≤ s.dmaMoved ch → exec (.dmaDone ch d e) s = .next (s.dmaComplete ch)) ∧
  (∀ (s : State) (ch : Fin 32) (d : List Byte) (e : DmaError), s.dmaActive ch = true → s.dmaWaiting ch = false →
    s.dmaMoved ch < s.dmaLen ch → exec (.dmaDone ch d (some (0, e))) s = .next (s.dmaFail ch e)) ∧
  (∀ (s : State) (ch : Fin 32), s.dmaActive ch = true → s.dmaWaiting ch = true → s.dmaBlocked ch = false →
    exec (.dmaQueueWaitEnd ch) s = .next (s.setFlag (F.DMA_CH_STAT_WAITING (ch.val / 8) (ch.val % 8)) false)) ∧
  (∀ (s : State) (ch : Fin 32), (s.dmaActive ch = false ∨ s.dmaWaiting ch = false ∨ s.dmaBlocked ch = true) →
    exec (.dmaQueueWaitEnd ch) s = .next s) ∧
  (∀ (s : State) (ch : Fin 32), s.dmaActive ch = true → s.dmaWaiting ch = true →
    s.fld (F.DMA_CH_TMO_US (ch.val / 8) (ch.val % 8)) ≠ 0 → exec (.dmaQueueTimeout ch) s = .next (s.dmaEnd ch dmaTimeout)) ∧
  (∀ (s : State) (ch : Fin 32), (s.dmaActive ch = false ∨ s.dmaWaiting ch = false) →
    exec (.dmaQueueTimeout ch) s = .next s)

/-- A beat between DRAM ranges whose channels work, with no injected error, copies the bytes at the place the transfer has reached from
the source to the destination, changes no other byte, and counts them: the bytes of a beat are read before any is written. -/
def Obligations.DmaBeatMovesBytes : Prop :=
  ∀ (s : State) (ch : Fin 32) (o b c n src dst : Nat), s.dmaPlace ch = (o, b, c) → n = s.dmaBeatLen ch →
    src = ((s.dmaSrc ch).row b c + o) % 2 ^ 40 → dst = ((s.dmaDst ch).row b c + o) % 2 ^ 40 →
    (s.dmaSrc ch).space = spDram → (s.dmaDst ch).space = spDram → s.rangeDown src n = false → s.rangeDown dst n = false →
    s.bit (R.xx_FLT_INJ (P.DMA (ch.val / 8))) X.DMA_BUF_UC = false →
    (∀ i, i < n → (s.dmaBeat ch []).memByte (dst + i) = s.memByte (src + i)) ∧ s.memSameBut (s.dmaBeat ch []) dst n ∧
    (s.dmaBeat ch []).reg64 (R.DMA_CH_DONE_LO (ch.val / 8) (ch.val % 8)) (R.DMA_CH_DONE_HI (ch.val / 8) (ch.val % 8)) =
      BitVec.ofNat 64 (s.dmaMoved ch + n)

/-- A queue is enabled empty and takes its depth from the pool, and only within it. A push is a header that the queue admits or a
payload word of the item its agent opened; a complete item is appended in order. A pop takes the oldest word, answers its low half
and latches the rest; an empty queue reports an underrun and answers the last word. A flush discards the words. -/
def Obligations.HardwareQueues : Prop :=
  (∀ (s : State) (a : Agent) (k : Fin 32) (v : Word), s.admits a .fq P.FQ = true → s.flag (F.FQ_Q_CFG_EN k) = false →
    v.getLsbD 31 = true → bitsOf v.toNat 15 8 ≤ 2 → bitsOf v.toNat 7 0 ≤ 1 → bitsOf v.toNat 24 16 ≠ 0 →
    bitsOf v.toNat 24 16 ≤ 256 → bitsOf v.toNat 24 16 ≤ s.fld F.FQ_POOL_FREE →
    ∃ t, exec (.fqEnable a k v) s = .next t ∧ t.queue k = Queue.init ∧ t.flag (F.FQ_Q_CFG_EN k) = true ∧
      t.fld F.FQ_POOL_FREE = s.fld F.FQ_POOL_FREE - bitsOf v.toNat 24 16 ∧ s.memSame t) ∧
  (∀ (s : State) (a : Agent) (k : Fin 32) (v : Word), s.admits a .fq P.FQ = true → s.flag (F.FQ_Q_CFG_EN k) = false →
    v.getLsbD 31 = true → s.fld F.FQ_POOL_FREE < bitsOf v.toNat 24 16 →
    exec (.fqEnable a k v) s = .next (s.reject P.FQ (R.FQ_Q_CFG k) .state)) ∧
  (∀ (s : State) (a : Agent) (k : Fin 32) (hi lo : Word), s.admits a .fq P.FQ = true → s.queueProd k 1 = true →
    (s.queue k).lo = some (a.ident, lo) → (s.queue k).openLen = none → s.queueAdmits k (bitsOf lo.toNat 11 0) = true →
    exec (.fqPush a k hi) s =
      .next ((s.setQueue k { s.queue k with lo := none }).queueOpen k 1 (bitsOf lo.toNat 11 0) a.ident)) ∧
  (∀ (s : State) (a : Agent) (k : Fin 32) (hi lo : Word) (n : Nat), s.admits a .fq P.FQ = true → s.queueProd k 1 = true →
    (s.queue k).lo = some (a.ident, lo) → (s.queue k).openLen = some n → (s.queue k).opener = a.ident →
    exec (.fqPush a k hi) s = .next ((s.setQueue k { s.queue k with lo := none }).queuePayload k (hi ++ lo))) ∧
  (∀ (s : State) (a : Agent) (k : Fin 32) (hi : Word), s.admits a .fq P.FQ = true → s.queueProd k 1 = false →
    exec (.fqPush a k hi) s = .next (s.reject P.FQ (R.FQ_Q_PUSH_HI k) .state)) ∧
  (∀ (s : State) (k : Fin 32) (item : List (BitVec 64)),
    (((s.queueComplete k item).queue k).words.map Prod.fst) = (s.queue k).words.map Prod.fst ++ item ∧
    (∀ j, j ≠ k.val → (s.queueComplete k item).queue j = s.queue j)) ∧
  (∀ (s : State) (a : Agent) (k : Fin 32) (w : BitVec 64) (h : Bool) (l : List (BitVec 64 × Bool)), s.responds a = true →
    s.fld (F.FQ_Q_CFG_CONS k) = 1 → (s.queue k).words = (w, h) :: l → s.bit (R.xx_FLT_INJ P.FQ) X.FQ_WORD_UC = false →
    ∃ t, exec (.fqPop a k .clean) s = .next t ∧ t.lastRead = (w.setWidth 32).setWidth 64 ∧ (t.queue k).words = l ∧
      t.latched a (R.FQ_Q_POP_HI k) = some ((w >>> 32).setWidth 32) ∧ t.regs = s.regs) ∧
  (∀ (s : State) (a : Agent) (k : Fin 32) (c : EccCheck), s.responds a = true → s.fld (F.FQ_Q_CFG_CONS k) = 1 →
    (s.queue k).words = [] → ∃ t, exec (.fqPop a k c) s = .next t ∧
      t.lastRead = ((s.queue k).last.setWidth 32).setWidth 64 ∧ t.flag (F.FQ_Q_STAT_UNDERRUN k) = true) ∧
  (∀ (s : State) (a : Agent) (k : Fin 32), s.admits a .fq P.FQ = true → exec (.fqFlush a k) s = .next (s.queueFlush k) ∧
    ((s.queueFlush k).queue k).words = [])

/-- An instruction whose record the micro-engine can take, legal, well formed and admitted, transfers its block and goes on at the next
record: EMIT once, REPEAT COUNT times (and only the skip for 0), the others with their effect at the block's first cycle, SIGNAL at
its end. One that the micro-engine cannot take yet waits; one whose record is illegal stops with cause ILLEGAL. -/
def Obligations.PlainInstructions : Prop :=
  (∀ (s : State) (n : Fin 16) (r : BlockHead) (z : Nat), s.emits n r z = true →
    exec (.wsqEmit n r) s = .next (s.enqueue n ((s.seq n).block r z) (s.seq n).entered.onward) ∧
    (∀ c : Word, c ≠ 0 → exec (.wsqRepeat n r c) s =
      .next (s.enqueue n { (s.seq n).block r z with reps := c.toNat } (s.seq n).entered.onward)) ∧
    (∀ m : BitVec 16,
      exec (.wsqFlagSet n r m) s =
        .next (s.enqueue n { (s.seq n).block r z with effects := [.flags 0 m] } (s.seq n).entered.onward) ∧
      exec (.wsqFlagClear n r m) s =
        .next (s.enqueue n { (s.seq n).block r z with effects := [.flags 1 m] } (s.seq n).entered.onward) ∧
      exec (.wsqFlagInvert n r m) s =
        .next (s.enqueue n { (s.seq n).block r z with effects := [.flags 2 m] } (s.seq n).entered.onward) ∧
      exec (.wsqTclr n r m) s =
        .next (s.enqueue n { (s.seq n).block r z with effects := [.flags 4 m] } (s.seq n).entered.onward)) ∧
    exec (.wsqCclr n r) s =
      .next (s.enqueue n { (s.seq n).block r z with effects := [.flags 3 0] } (s.seq n).entered.onward) ∧
    (∀ (t : BitVec 8) (f : BitVec 5), exec (.wsqSignal n r t f) s =
      .next (s.enqueue n { (s.seq n).block r z with signals := [(t.toNat, f.toNat)] } (s.seq n).entered.onward)) ∧
    (∀ (k : BitVec 3) (u : BitVec 8),
      exec (.wsqCapon n r k u) s =
        .next (s.enqueue n { (s.seq n).block r z with effects := [.capture true k.toNat u.toNat] } (s.seq n).entered.onward) ∧
      exec (.wsqCapoff n r k u) s =
        .next (s.enqueue n { (s.seq n).block r z with effects := [.capture false k.toNat u.toNat] } (s.seq n).entered.onward)) ∧
    (∀ m : Word, exec (.wsqMark n r m) s =
      .next (s.enqueue n { (s.seq n).block r z with effects := [.mark m] } (s.seq n).entered.onward))) ∧
  (∀ (s : State) (n : Fin 16) (r : BlockHead), s.canDispatch n = true → headLegal r false = true →
    exec (.wsqRepeat n r 0) s = .next (s.skip n [] ((s.seq n).next + 16))) ∧
  (∀ (s : State) (n : Fin 16) (r : BlockHead) (c : Word), s.canDispatch n = false →
    exec (.wsqEmit n r) s = .next s ∧ exec (.wsqRepeat n r c) s = .next s ∧ exec (.wsqMark n r c) s = .next s) ∧
  (∀ (s : State) (n : Fin 16) (r : BlockHead) (c : Word), s.canDispatch n = true → headLegal r false = false →
    exec (.wsqEmit n r) s = .next (s.dispatchStop n 6) ∧ exec (.wsqRepeat n r c) s = .next (s.dispatchStop n 6) ∧
    exec (.wsqMark n r c) s = .next (s.dispatchStop n 6)) ∧
  (∀ (s : State) (n : Fin 16) (r : BlockHead), s.canDispatch n = true → headLegal r false = true →
    s.sizeKnown n (blockBase r) = true → s.recordSize n r = none → exec (.wsqEmit n r) s = .next (s.dispatchStop n 8))

/-- LOOP pushes its count, iterates without pushing again, skips its body for a count of 0, and stops with STACK at depth 8; ENDLOOP
returns to the LOOP while iterations are left and pops it at the last; CALL pushes the next address and stops at depth 16; RET pops it
and stops on an empty stack; JUMP goes to its target; JUMPC, MATCH and WAIT open a conditional exit, a MATCH or WAIT with timeout 0
only leaves its effect; HALT ends the gang at the end of its block, or of the block that streams when its own is empty. -/
def Obligations.ControlInstructions : Prop :=
  (∀ (s : State) (n : Fin 16) (r : BlockHead) (z : Nat), s.emits n r z = true →
    (∀ (x : BitVec 24) (c : Word), 2 ≤ x.toNat → c ≠ 0 → (s.seq n).iterate = false → (s.seq n).loops.length < 8 →
      exec (.wsqLoop n r x c) s = .next (s.enqueue n { (s.seq n).block r z with
        depth0 := ((s.seq n).loops.length + 1, (s.seq n).calls.length)
        depth1 := ((s.seq n).loops.length + 1, (s.seq n).calls.length) }
        { (s.seq n).entered.onward with
          loops := ((s.seq n).next, c.toNat, (s.seq n).calls.length) :: (s.seq n).loops })) ∧
    (∀ (x : BitVec 24) (c : Word), 2 ≤ x.toNat → (s.seq n).iterate = true →
      exec (.wsqLoop n r x c) s = .next (s.enqueue n ((s.seq n).block r z) (s.seq n).entered.onward)) ∧
    (∀ a m d t, (s.seq n).loops = (a, m, d) :: t → 1 < m → exec (.wsqEndloop n r) s =
      .next (s.enqueue n ((s.seq n).block r z) { s.seq n with next := a, iterate := true, loops := (a, m - 1, d) :: t })) ∧
    (∀ a m d t, (s.seq n).loops = (a, m, d) :: t → m ≤ 1 → exec (.wsqEndloop n r) s =
      .next (s.enqueue n { (s.seq n).block r z with depth1 := (t.length, (s.seq n).calls.length), pops := [a] }
        { (s.seq n).entered.onward with loops := t })) ∧
    (∀ x : BitVec 38, (s.seq n).calls.length < 16 → exec (.wsqCall n r x) s =
      .next (s.enqueue n { (s.seq n).block r z with depth1 := ((s.seq n).loops.length, (s.seq n).calls.length + 1) }
        { (s.seq n).entered with calls := wrapAddr ((s.seq n).next + 16) :: (s.seq n).calls, next := x.toNat * 16 })) ∧
    (∀ a t, (s.seq n).calls = a :: t → (∀ l ∈ (s.seq n).loops, l.2.2 ≠ (s.seq n).calls.length) →
      exec (.wsqRet n r) s = .next (s.enqueue n { (s.seq n).block r z with
        depth1 := ((s.seq n).loops.length, t.length), pops := [] } { (s.seq n).entered with calls := t, next := a })) ∧
    (∀ x : BitVec 38, exec (.wsqJump n r x) s =
      .next (s.enqueue n ((s.seq n).block r z) { (s.seq n).entered with next := x.toNat * 16 })) ∧
    (∀ (c : Byte) (x : BitVec 38), condLegal c = true → exec (.wsqJumpc n r c x) s =
      .next (s.enqueue n { (s.seq n).block r z with exit := .jumpc c (x.toNat * 16) } (s.seq n).entered.opened)) ∧
    (∀ m : Word, m ≠ 0 → s.openParts n ≠ [] → exec (.wsqMatch n r m) s = .next (s.enqueue n { (s.seq n).block r z with
      exit := .matches m.toNat, effects := [.matchEntry] } (s.seq n).entered.opened)) ∧
    (∀ (c : Byte) (m : Word), condLegal c = true → waitCondLegal c = true → m ≠ 0 →
      exec (.wsqWait n r c false m) s = .next (s.enqueue n { (s.seq n).block r z with
        exit := .waits c false m.toNat, effects := [.waitEntry] } (s.seq n).entered.opened)) ∧
    exec (.wsqHalt n r) s = .next (s.enqueue n { (s.seq n).block r z with exit := .halts } (s.seq n).entered.opened)) ∧
  (∀ (s : State) (n : Fin 16) (r : BlockHead) (x : BitVec 24) (c : Word), s.canDispatch n = true → headLegal r false = true →
    (2 ≤ x.toNat → (s.seq n).iterate = false → exec (.wsqLoop n r x 0) s = .next (s.skip n [] ((s.seq n).next + 16 * x.toNat))) ∧
    (2 ≤ x.toNat → (s.seq n).iterate = false → c ≠ 0 → 8 ≤ (s.seq n).loops.length →
      exec (.wsqLoop n r x c) s = .next (s.dispatchStop n 7)) ∧
    (x.toNat < 2 → exec (.wsqLoop n r x c) s = .next (s.dispatchStop n 6)) ∧
    ((s.seq n).loops = [] → exec (.wsqEndloop n r) s = .next (s.dispatchStop n 7)) ∧
    (16 ≤ (s.seq n).calls.length → ∀ y, exec (.wsqCall n r y) s = .next (s.dispatchStop n 7)) ∧
    ((s.seq n).calls = [] → exec (.wsqRet n r) s = .next (s.dispatchStop n 7)) ∧
    (∀ (d : Byte) (y : BitVec 38), condLegal d = false → exec (.wsqJumpc n r d y) s = .next (s.dispatchStop n 6)) ∧
    exec (.wsqMatch n r 0) s = .next (s.skip n [.matchZero (s.seq n).next] ((s.seq n).next + 16)) ∧
    (∀ d : Byte, condLegal d = true → waitCondLegal d = true →
      exec (.wsqWait n r d false 0) s = .next (s.skip n [.waitZero] ((s.seq n).next + 16)))) ∧
  (∀ (s : State) (n : Fin 16) (r : BlockHead), s.canDispatch n = true → r.enc ≠ 3 → r.len = 0 →
    exec (.wsqHalt n r) s = .next (s.dispatchStop n 1))

/-- TAPSTATE to a legal target emits the walk and the dwell; with nothing to walk it is a skip. TAPSHIFT of 0 bits is a skip, and
otherwise emits entry walk, bits and exit walk in iterations of the block. SENTTX of 0 frames is a skip, and otherwise emits the
runs of its frames; SENTRX with no frame or no timeout leaves short ports, and otherwise opens a conditional exit. An illegal operand
stops with ILLEGAL. A custom opcode with a valid entry starts its routine; one below 0xC0 or without an entry is illegal. -/
def Obligations.GeneratorInstructions : Prop :=
  (∀ (s : State) (n : Fin 16) (r : BlockHead) (t : BitVec 4), s.generates n r = true → 1 ≤ t.toNat → t.toNat ≤ 4 →
    (s.genHead n (blockBase r)).tapPins (s.gangG n) = true → s.tapState n = t.toNat →
    exec (.wsqTapstate n r t 0 false) s = .next (s.skip n [] ((s.seq n).next + 16))) ∧
  (∀ (s : State) (n : Fin 16) (r : BlockHead) (t : BitVec 4) (d : BitVec 24) (f : Bool), s.generates n r = true →
    (t.toNat = 0 ∨ 4 < t.toNat) → exec (.wsqTapstate n r t d f) s = .next (s.dispatchStop n 6)) ∧
  (∀ (s : State) (n : Fin 16) (r : BlockHead) (t : BitVec 4) (d : BitVec 24) (h : GenHead), s.generates n r = true →
    h = s.genHead n (blockBase r) → 1 ≤ t.toNat → t.toNat ≤ 4 → h.tapPins (s.gangG n) = true → s.tapState n = 0 →
    exec (.wsqTapstate n r t d false) s = .next (s.emitGen n r h (.tap {
      pins := h.pins, codes := h.codes, lead := List.replicate 5 true ++ tapWalk 1 t.toNat, body := d.toNat, shift := false
      fill := t.toNat == 1, tail := [], rest := t.toNat == 1, tdi := 0, tdo := 0, cmp := false, state := t.toNat })
      (iterations ((List.replicate 5 true ++ tapWalk 1 t.toNat).length + d.toNat) r.len.toNat) .fixed [] Seq.onward)) ∧
  (∀ (s : State) (n : Fin 16) (r : BlockHead) (h : GenHead), s.generates n r = true → h = s.genHead n (blockBase r) →
    h.tapPins (s.gangG n) = true → s.tapState n ≠ 0 →
    exec (.wsqTapshift n r false false false 0) s = .next (s.skip n [] ((s.seq n).next + 16)) ∧
    (∀ k : BitVec 25, 0 < k.toNat → k.toNat ≤ 16777216 → h.stream (s.gangG n) h.ofs1 ((k.toNat + 7) / 8) = true →
      exec (.wsqTapshift n r false false false k) s = .next (s.emitGen n r h (.tap {
        pins := h.pins, codes := h.codes, lead := shiftWalk false (s.tapState n), body := k.toNat, shift := true, fill := false
        tail := [true, false], rest := false, tdi := blockBase r + h.ofs1, tdo := blockBase r + h.ofs2, cmp := false, state := 2 })
        (iterations ((shiftWalk false (s.tapState n)).length + k.toNat + 2) r.len.toNat) .fixed [] Seq.onward))) ∧
  (∀ (s : State) (n : Fin 16) (r : BlockHead) (i p c : Bool) (k : BitVec 25), s.generates n r = true → s.tapState n = 0 →
    exec (.wsqTapshift n r i p c k) s = .next (s.dispatchStop n 6)) ∧
  (∀ (s : State) (n : Fin 16) (r : BlockHead) (o : BitVec 56) (h : GenHead), s.generates n r = true →
    h = s.genHead n (blockBase r) → bitsOf o.toNat 55 54 ≤ 1 → 1 ≤ bitsOf o.toNat 51 48 → bitsOf o.toNat 51 48 ≤ 6 →
    4 ≤ bitsOf o.toNat 19 16 → pauseLegal (o.toNat.testBit 53) (o.toNat.testBit 52) (bitsOf o.toNat 47 36)
      (bitsOf o.toNat 51 48) = true → h.sentPins (s.gangG n) = true → 1 ≤ h.tick → h.tick ≤ 65535 →
    o.toNat.testBit 15 = false →
    (bitsOf o.toNat 35 20 = 0 → exec (.wsqSenttx n r o) s = .next (s.skip n [] ((s.seq n).next + 16))) ∧
    (bitsOf o.toNat 35 20 = 1 → h.stream (s.gangG n) h.ofs1 4 = true → exec (.wsqSenttx n r o) s =
      .next (s.emitGen n r h (.sentTx (h.pins.take 4) h.codes (sentRuns (bitsOf o.toNat 19 16) h.tick
        (sentPulses (sentNibbles (bitsOf o.toNat 55 54 == 1) (bitsOf o.toNat 51 48) (s.seqNat n (blockBase r + h.ofs1) 4) none)
          (o.toNat.testBit 53) (o.toNat.testBit 52) (bitsOf o.toNat 47 36))))
        (iterations (runCycles (sentRuns (bitsOf o.toNat 19 16) h.tick (sentPulses (sentNibbles (bitsOf o.toNat 55 54 == 1)
          (bitsOf o.toNat 51 48) (s.seqNat n (blockBase r + h.ofs1) 4) none) (o.toNat.testBit 53) (o.toNat.testBit 52)
          (bitsOf o.toNat 47 36)))) r.len.toNat) .fixed [] Seq.onward))) ∧
  (∀ (s : State) (n : Fin 16) (r : BlockHead) (o : BitVec 56) (h : GenHead) (u : Nat), s.generates n r = true →
    h = s.genHead n (blockBase r) → u = bitsOf o.toNat 47 45 → bitsOf o.toNat 55 54 ≤ 1 → 1 ≤ bitsOf o.toNat 51 48 →
    bitsOf o.toNat 51 48 ≤ 6 → h.sentPins (s.gangG n) = true → 8 ≤ h.tick → h.tick ≤ 65535 → h.ofs1 = 0 →
    s.fld (F.CAP_SRC_SEQ u) = n.val → (∀ p ∈ h.pins.take 4, p = 255 ∨ ∃ k, s.pinPart (16 * n.val + p) = some k ∧
      s.capArmed u k = true) → bitsOf o.toNat 35 20 ≠ 0 → h.timeout ≠ 0 → exec (.wsqSentrx n r o) s =
    .next (s.emitGen n r h (.sentRx (h.pins.take 4) h.codes) 1 (.sentRx (bitsOf o.toNat 35 20) h.timeout)
      [.sentStart u {
        pins := h.pins.take 4, crcm := bitsOf o.toNat 55 54, pause := o.toNat.testBit 53, esm := o.toNat.testBit 52
        nibbles := bitsOf o.toNat 51 48, frames := bitsOf o.toNat 35 20, tick := h.tick, expect := 0, start := 0 }] Seq.opened)) ∧
  (∀ (s : State) (n : Fin 16) (r : BlockHead) (o : BitVec 56) (op : Byte), s.canDispatch n = true →
    (op.toNat < 0xC0 ∨ (s.dispatchWord n op.toNat 0).getLsbD 31 = false) →
    exec (.customInstruction n op r o) s = .next (s.dispatchStop n 6)) ∧
  (∀ (s : State) (n : Fin 16) (r : BlockHead) (o : BitVec 56) (op : Byte) (z : Nat), s.emits n r z = true →
    0xC0 ≤ op.toNat → (s.dispatchWord n op.toNat 0).getLsbD 31 = true → (s.dispatchWord n op.toNat 0).getLsbD 29 = false →
    ∃ t, exec (.customInstruction n op r o) s = .next t ∧ (t.seq n).micro.active = true ∧
      (t.seq n).micro.upc = (s.dispatchWord n op.toNat 0).toNat % 2 ^ 15 ∧ (t.seq n).micro.pc = (s.seq n).next ∧
      (t.seq n).micro.operands = o ∧ (t.seq n).next = wrapAddr ((s.seq n).next + 16))

/-- A micro-operation writes its result to RD (U0 discards it), sets Z and N by the result and C by its carry, borrow or last bit
shifted out, counts its micro-cycles and goes on at the next micro-address, or at its target; LUI, the CRC steps and the logical
operations clear C. MOVS and MOVD move the specials, MOVD of a DESC special writes it; a reserved special is UOP_ILLEGAL. LDP reads
the block data and faults outside it; CALLU and RETU keep a stack of 4; TSTC tests its condition at the decision point. -/
def Obligations.MicroOperations : Prop :=
  (∀ (s : State) (n rd ra rb : Fin 16) (m p : Micro), m = s.micro n → p = m.passed 1 → s.uopRuns n 1 = true →
    exec (.uopNop n .clean) s = .next (s.setMicro n p) ∧
    exec (.uopAdd n rd ra rb .clean) s = .next (s.setMicro n
      (p.alu rd (m.reg ra + m.reg rb) (decide (2 ^ 32 ≤ (m.reg ra).toNat + (m.reg rb).toNat)))) ∧
    exec (.uopSub n rd ra rb .clean) s = .next (s.setMicro n
      (p.alu rd (m.reg ra - m.reg rb) (decide ((m.reg ra).toNat < (m.reg rb).toNat)))) ∧
    exec (.uopAnd n rd ra rb .clean) s = .next (s.setMicro n (p.alu rd (m.reg ra &&& m.reg rb) false)) ∧
    exec (.uopOr n rd ra rb .clean) s = .next (s.setMicro n (p.alu rd (m.reg ra ||| m.reg rb) false)) ∧
    exec (.uopXor n rd ra rb .clean) s = .next (s.setMicro n (p.alu rd (m.reg ra ^^^ m.reg rb) false)) ∧
    (∀ imm : BitVec 14, imm.toNat % 32 ≠ 0 →
      exec (.uopShl n rd ra imm .clean) s = .next (s.setMicro n
        (p.alu rd (m.reg ra <<< (imm.toNat % 32)) ((m.reg ra).getLsbD (32 - imm.toNat % 32)))) ∧
      exec (.uopShr n rd ra imm .clean) s = .next (s.setMicro n
        (p.alu rd (m.reg ra >>> (imm.toNat % 32)) ((m.reg ra).getLsbD (imm.toNat % 32 - 1))))) ∧
    (∀ imm : BitVec 14, imm.toNat % 32 = 0 →
      (∃ t c, exec (.uopShl n rd ra imm .clean) s = .next t ∧ t.micro n = p.alu rd (m.reg ra) c) ∧
      (∃ t c, exec (.uopShr n rd ra imm .clean) s = .next t ∧ t.micro n = p.alu rd (m.reg ra) c)) ∧
    (∀ imm : BitVec 14,
      exec (.uopAddi n rd ra imm .clean) s = .next (s.setMicro n (p.alu rd (m.reg ra + imm.signExtend 32)
        (decide (2 ^ 32 ≤ (m.reg ra).toNat + (imm.signExtend 32 : Word).toNat)))) ∧
      exec (.uopOri n rd ra imm .clean) s = .next (s.setMicro n (p.alu rd (m.reg ra ||| imm.setWidth 32) false))) ∧
    (∀ imm : BitVec 16, exec (.uopLui n rd imm .clean) s =
      .next (s.setMicro n (p.alu rd (imm.setWidth 32 <<< 16) false))) ∧
    exec (.uopCrc4Step n rd ra rb .clean) s = .next (s.setMicro n (p.alu rd (BitVec.ofNat 32
      ((msbFirst 4 (m.reg rb).toNat).foldl (crcShift 4 13) ((m.reg ra).toNat % 16))) false)) ∧
    exec (.uopCrc6Step n rd ra rb .clean) s = .next (s.setMicro n (p.alu rd (BitVec.ofNat 32
      ((msbFirst 2 (m.reg rb).toNat).foldl (crcShift 6 25) ((m.reg ra).toNat % 64))) false))) ∧
  (∀ (s : State) (n rd ra : Fin 16) (sel : BitVec 6) (m p : Micro), m = s.micro n → p = m.passed 1 → s.uopRuns n 1 = true →
    (∀ v, s.special n sel.toNat = some v → sel.toNat < 0x10 → exec (.uopMovs n rd sel .clean) s =
      .next (s.setMicro n (p.setU rd v))) ∧
    (sel = 0x08 → exec (.uopMovd n ra sel .clean) s = .next (s.setMicro n { p with descLen := m.reg ra })) ∧
    (sel = 0x0B → exec (.uopMovd n ra sel .clean) s = .next (s.setMicro n { p with descEnc := m.reg ra &&& 0xF })) ∧
    (sel.toNat < 8 → exec (.uopMovd n ra sel .clean) s = .next (s.setMicro n p)) ∧
    (0x20 ≤ sel.toNat → exec (.uopMovs n rd sel .clean) s = .next (s.microFault n X.MC_UOP_ILLEGAL) ∧
      exec (.uopMovd n ra sel .clean) s = .next (s.microFault n X.MC_UOP_ILLEGAL))) ∧
  (∀ (s : State) (n rd ra : Fin 16) (imm : BitVec 14) (m p : Micro), m = s.micro n → p = m.passed 2 → s.uopRuns n 2 = true →
    (m.ldpOffset ra imm + 4 ≤ m.size → s.linesPresent n (m.base + m.ldpOffset ra imm) 4 = true →
      exec (.uopLdp n rd ra imm .clean) s = .next (s.setMicro n
        (p.setU rd (BitVec.ofNat 32 (s.seqNat n (m.base + m.ldpOffset ra imm) 4))))) ∧
    (m.ldpOffset ra imm + 4 ≤ m.size → s.linesPresent n (m.base + m.ldpOffset ra imm) 4 = false →
      exec (.uopLdp n rd ra imm .clean) s = .next s) ∧
    (m.size < m.ldpOffset ra imm + 4 → exec (.uopLdp n rd ra imm .clean) s =
      .next ((s.setMicro n { m with count := m.count + 2 }).microFault n X.MC_UBOUNDS))) ∧
  (∀ (s : State) (n ra : Fin 16) (c : BitVec 4) (t : BitVec 15) (m : Micro), m = s.micro n → m.isOpen = false → c.toNat ≤ 8 →
    (m.bcond c.toNat (m.reg ra) = true → s.uopRuns n 2 = true → exec (.uopBr n c ra t .clean) s =
      .next (s.setMicro n { m with count := m.count + 2, upc := t.toNat })) ∧
    (m.bcond c.toNat (m.reg ra) = false → s.uopRuns n 1 = true → exec (.uopBr n c ra t .clean) s =
      .next (s.setMicro n (m.passed 1)))) ∧
  (∀ (s : State) (n ra : Fin 16) (c : BitVec 4) (t : BitVec 15), s.uopRuns n 1 = true → 8 < c.toNat →
    exec (.uopBr n c ra t .clean) s = .next (s.microFault n X.MC_UOP_ILLEGAL)) ∧
  (∀ (s : State) (n : Fin 16) (t : BitVec 15) (m : Micro), m = s.micro n → s.uopRuns n 2 = true → m.isOpen = false →
    (m.stack.length < 4 → exec (.uopCallu n t .clean) s = .next (s.setMicro n
      { m with count := m.count + 2, upc := t.toNat, stack := (m.upc + 1) :: m.stack })) ∧
    (4 ≤ m.stack.length → exec (.uopCallu n t .clean) s = .next (s.microFault n X.MC_UOP_ILLEGAL)) ∧
    (∀ a l, m.stack = a :: l → exec (.uopRetu n .clean) s = .next (s.setMicro n
      { m with count := m.count + 2, upc := a, stack := l })) ∧
    (m.stack = [] → exec (.uopRetu n .clean) s = .next (s.microFault n X.MC_UOP_ILLEGAL))) ∧
  (∀ (s : State) (n : Fin 16) (t : BitVec 15) (m : Micro), m = s.micro n → s.uopRuns n 2 = true → m.isOpen = true →
    (t.toNat < 0x6000 ∨ 0x7000 ≤ t.toNat) → m.stack.length < 4 →
    exec (.uopCallu n t .clean) s = .next ((s.setMicro n
      { m with count := m.count + 2, stack := (m.upc + 1) :: m.stack }).microFault n X.MC_UBOUNDS)) ∧
  (∀ (s : State) (n : Fin 16), s.uopRuns n 1 = true → (s.seq n).streaming.isSome = true → (s.seq n).dp = true →
    condLegal (((s.micro n).operands >>> 48).setWidth 8) = true → exec (.uopTstc n .clean) s = .next (s.setMicro n
      { (s.micro n).passed 1 with z := !(s.passed n 1).cond n (((s.micro n).operands >>> 48).setWidth 8) })) ∧
  (∀ (s : State) (n : Fin 16), s.uopRuns n 1 = true → ((s.seq n).streaming = none ∨ (s.seq n).dp = false) →
    exec (.uopTstc n .clean) s = .next s)

/-- SEQOP and SIG join the effects of the next EMITD; OVL configures a slot and OPUSH feeds one, waiting while its queue holds 64; EMITD
transfers the block of the DESC specials once, waiting for room; BOUND ends the instruction or repeats its routine from AGAIN; STOP
stops with its cause; STK moves a vendor word. No routine, no effect; a pass beyond 4,096 micro-cycles expires the watchdog, a
micro-address from 0x7000 is UBOUNDS, and a double-bit error of the fetch stops with a contained fault. -/
def Obligations.MicroEffects : Prop :=
  (∀ (s : State) (n ra : Fin 16) (imm : BitVec 14) (m p : Micro), m = s.micro n → p = m.passed 1 → s.uopRuns n 1 = true →
    (imm.toNat % 16 < 5 → exec (.uopSeqop n ra imm .clean) s =
      .next (s.setMicro n (p.effect (.flags (imm.toNat % 16) ((m.reg ra).setWidth 16))))) ∧
    (5 ≤ imm.toNat % 16 → exec (.uopSeqop n ra imm .clean) s = .next ((s.passed n 1).microStop n 6)) ∧
    exec (.uopSigSignal n ra .clean) s = .next (s.setMicro n
      { p with signals := m.signals ++ [(bitsOf (m.reg ra).toNat 15 8, (m.reg ra).toNat % 32)] }) ∧
    exec (.uopSigMark n ra .clean) s = .next (s.setMicro n (p.effect (.mark (m.reg ra)))) ∧
    exec (.uopSigCapon n ra .clean) s = .next (s.setMicro n
      (p.effect (.capture true (bitsOf (m.reg ra).toNat 10 8) ((m.reg ra).toNat % 256)))) ∧
    exec (.uopSigCapoff n ra .clean) s = .next (s.setMicro n
      (p.effect (.capture false (bitsOf (m.reg ra).toNat 10 8) ((m.reg ra).toNat % 256))))) ∧
  (∀ (s : State) (n sl ra : Fin 16) (k c0 c1 cx : BitVec 4) (m p : Micro), m = s.micro n → p = m.passed 1 →
    s.uopRuns n 1 = true →
    (k.toNat ≤ 5 → exec (.uopOvl n sl ra k c0 c1 cx .clean) s = .next (s.setMicro n
      ({ p with ovls := m.ovls + 1 }.setSlot sl {
        kind := k.toNat, pin := (m.slot sl).pin, code0 := c0.toNat, code1 := c1.toNat, codex := cx.toNat
        addr := m.base + (m.reg ra).toNat, stop := m.base + m.size, tag := m.ovls + 1, queue := [], used := 0, under := false }))) ∧
    (5 < k.toNat → exec (.uopOvl n sl ra k c0 c1 cx .clean) s = .next (s.microFault n X.MC_UOP_ILLEGAL))) ∧
  (∀ (s : State) (n ra : Fin 16) (imm : BitVec 14) (m : Micro) (x : Slot), m = s.micro n → x = m.slot (imm.toNat % 16) →
    s.uopRuns n 1 = true →
    ((s.seq n).streaming = none → (s.seq n).queued = none → x.queue.length < 64 → exec (.uopOpush n ra imm .clean) s =
      .next (s.setMicro n ((m.passed 1).setSlot (imm.toNat % 16) { x with queue := x.queue ++ [m.reg ra] }))) ∧
    (64 ≤ ((s.seq n).liveSlot x).queue.length → exec (.uopOpush n ra imm .clean) s = .next s)) ∧
  (∀ (s : State) (n : Fin 16) (m : Micro) (p : State), m = s.micro n → p = s.passed n 2 → s.uopRuns n 2 = true →
    ((s.seq n).queued.isSome = true → exec (.uopEmitd n .clean) s = .next s) ∧
    ((s.seq n).queued = none → (m.descLen.toNat < 32 ∨ 1048575 < m.descLen.toNat) →
      exec (.uopEmitd n .clean) s = .next (p.microStop n 6)) ∧
    ((s.seq n).queued = none → 32 ≤ m.descLen.toNat → m.descLen.toNat ≤ 1048575 → s.descKnown n = true →
      (∀ z, p.descSize n = some z → exec (.uopEmitd n .clean) s = .next (p.enqueue n (p.microDesc n z)
        { p.seq n with micro := { p.micro n with iter := m.iter + 1, effects := [], signals := [] } })) ∧
      (p.descSize n = none → exec (.uopEmitd n .clean) s = .next (p.microStop n 8)))) ∧
  (∀ (s : State) (n : Fin 16), s.uopRuns n 1 = true →
    exec (.uopBoundNext n .clean) s = .next ((s.passed n 1).boundNext n) ∧
    ((s.seq n).fault = none → exec (.uopBoundAgain n .clean) s = .next (((s.passed n 1).umax n ((s.micro n).count + 1)).setMicro n
      { (s.micro n).passed 1 with count := 0, upc := (s.micro n).again })) ∧
    (∀ c, (s.seq n).fault = some c → exec (.uopBoundAgain n .clean) s =
      .next (((s.passed n 1).umax n ((s.micro n).count + 1)).gangStop n c)) ∧
    (∀ c : BitVec 4, (s.micro n).isOpen = false → exec (.uopStop n c .clean) s = .next ((s.passed n 1).microStop n c.toNat)) ∧
    (∀ c : BitVec 4, (s.micro n).isOpen = true → c ≠ 1 → c ≠ 6 →
      exec (.uopStop n c .clean) s = .next (s.microFault n X.MC_UOP_ILLEGAL))) ∧
  (∀ (s : State) (n r : Fin 16) (x : BitVec 6) (i : BitVec 16), s.uopRuns n 2 = true →
    ((s.micro n).isOpen = false → ∃ t v, exec (.uopStk n r x i .clean) s = .next t ∧
      t.micro n = ((s.micro n).passed 2).setU r v) ∧
    ((s.micro n).isOpen = true → exec (.uopStk n r x i .clean) s = .next (s.microFault n X.MC_UOP_ILLEGAL))) ∧
  (∀ (s : State) (n r ra rb : Fin 16) (i : BitVec 14) (k : EccCheck), (s.micro n).active = false →
    exec (.uopNop n k) s = .next s ∧ exec (.uopAdd n r ra rb k) s = .next s ∧ exec (.uopLdp n r ra i k) s = .next s ∧
    exec (.uopEmitd n k) s = .next s ∧ exec (.uopBoundNext n k) s = .next s ∧ exec (.uwdogExpire n) s = .next s) ∧
  (∀ (s : State) (n : Fin 16) (k : EccCheck), (s.micro n).active = true → 4096 ≤ (s.micro n).count →
    exec (.uopNop n k) s = .next (s.watchdog n) ∧ exec (.uwdogExpire n) s = .next (s.watchdog n)) ∧
  (∀ (s : State) (n : Fin 16) (k : EccCheck), (s.micro n).active = true → (s.micro n).count < 4096 → 0x7000 ≤ (s.micro n).upc →
    exec (.uopNop n k) s = .next (s.microFault n X.MC_UBOUNDS)) ∧
  (∀ (s : State) (n : Fin 16), s.uopRuns n 1 = true →
    exec (.uopNop n .double) s = .next (s.fetchError n false) ∧
    exec (.uopNop n .corrected) s = .next (((s.count (R.MC_SQ_CE n)).count (R.xx_CE_COUNT P.MC)).passed n 1))

/-- At the decision point of the streaming block the requests are sampled and its exit decides: a JUMPC by its condition, a MATCH and a
WAIT by theirs or their timeout. A boundary takes a recorded fault or a late result first, a HALT stops the gang with cause 1, and what
else follows the block begins. A stall is held or stops the gang with cause 3, a late descriptor with 4, a hold at its limit with 3.
The earliest result is released: it counts, or one that has not returned makes the gang late, cause 5. Out of its time each command
leaves the state as it is. -/
def Obligations.SequencerBoundaries : Prop :=
  (∀ (s : State) (n : Fin 16), ((s.seq n).streaming = none ∨ s.runState n ≠ rsRunning ∨ (s.seq n).dp = true) →
    exec (.decisionPoint n) s = .next s) ∧
  (∀ (s t : State) (n : Fin 16) (d : Desc), (s.seq n).streaming = some d → s.runState n = rsRunning → (s.seq n).dp = false →
    t = (s.setSeq n { s.seq n with dp := true }).sampleRequests n →
    (d.exit = .fixed → exec (.decisionPoint n) s = .next t) ∧
    (d.exit = .halts → exec (.decisionPoint n) s = .next t) ∧
    (∀ c a x, d.exit = .jumpc c a → x = (if t.cond n c then a else d.after) → exec (.decisionPoint n) s =
      .next ((t.setSeq n { t.seq n with next := x, openExit := false }).executed n d.pc 1 (t.cond n c) (16 + d.size) x)) ∧
    (∀ m, d.exit = .matches m → exec (.decisionPoint n) s = .next (t.decideMatch n m d)) ∧
    (∀ c b m, d.exit = .waits c b m → t.cond n c = false → (b = true ∨ (t.seq n).rep ≠ m) →
      exec (.decisionPoint n) s = .next t) ∧
    (∀ c b m, d.exit = .waits c b m → t.cond n c = true → bitsOf c.toNat 6 4 ≠ 2 → exec (.decisionPoint n) s =
      .next ((t.setSeq n { t.seq n with ends := true, openExit := false }).executed n d.pc (t.seq n).rep false
        (16 + d.size) d.after))) ∧
  (∀ (s : State) (n : Fin 16), s.gangRuns n = false → exec (.blockBoundary n) s = .next s) ∧
  (∀ (s : State) (n : Fin 16) (c : Nat), s.gangRuns n = true → (s.seq n).fault = some c → (s.seq n).streaming = none →
    exec (.blockBoundary n) s = .next (s.gangStop n c)) ∧
  (∀ (s t : State) (n : Fin 16) (d : Desc), s.runState n = rsRunning → (s.seq n).fault = none →
    (s.seq n).streaming = some d → (s.seq n).dp = true → d.len ≤ (s.seq n).vec → t = s.endBlock n d →
    (∀ c, (t.seq n).late = some c → exec (.blockBoundary n) s = .next (t.gangStop n c)) ∧
    ((t.seq n).late = none → (((t.seq n).streaming.map Desc.slots).getD d.slots).any Slot.under = true →
      exec (.blockBoundary n) s = .next ((t.fault P.MC X.MC_OVL_UNDERRUN).gangStop n 0xA)) ∧
    ((t.seq n).late = none → (((t.seq n).streaming.map Desc.slots).getD d.slots).any Slot.under = false → d.exit = .halts →
      exec (.blockBoundary n) s = .next (t.gangStop n 1)) ∧
    (∀ u, t.afterBlock n d = some u → exec (.blockBoundary n) s = .next u)) ∧
  (∀ (s : State) (n : Fin 16), (s.runState n = rsPaused ∨ s.runState n = rsHold) → (s.seq n).fault = none →
    ((s.seq n).udp = false ∨ (s.seq n).unit < 32) → exec (.blockBoundary n) s = .next s) ∧
  (∀ (s t : State) (n : Fin 16), t = s.setSeq n { s.seq n with udp := true } →
    (s.runState n = rsPaused → (s.seq n).udp = false → exec (.pauseUnitDecision n) s = .next (t.sampleRequests n)) ∧
    (s.runState n ≠ rsPaused → exec (.pauseUnitDecision n) s = .next s) ∧
    (s.runState n = rsHold → (s.seq n).udp = false → exec (.holdUnitDecision n) s =
      .next ((s.setSeq n { s.seq n with udp := true, present := s.stallOver n }).sampleRequests n)) ∧
    (s.runState n ≠ rsHold → exec (.holdUnitDecision n) s = .next s ∧ exec (.holdLimitReached n) s = .next s)) ∧
  (∀ (s t u : State) (n : Fin 16) (l : BitVec 30) (safe : Bool), s.boundaryStalls n = some (t, safe) →
    ((t.line n l.toNat).isSome = true → exec (.boundaryStall n l) s = .next s) ∧
    ((t.line n l.toNat) = none → u = (t.missLine n l.toNat).count (R.PGR_SQ_STALLS n) → u.holds n safe l.toNat = false →
      u.spanOf n = none → exec (.boundaryStall n l) s = .next (u.gangStop n 3)) ∧
    ((t.line n l.toNat) = none → u = (t.missLine n l.toNat).count (R.PGR_SQ_STALLS n) → u.holds n safe l.toNat = true →
      exec (.boundaryStall n l) s = .next (((((u.setSeq n { u.seq n with stall := some l.toNat, hold := 0 }).nextUnit n).setRun n
        rsHold).event (P.SEQ n) E.SEQ_HOLD_BEGIN).event P.PGR E.PGR_STALL_BEGIN)) ∧
    ((t.line n ((t.seq n).next / 4096)).isSome = true → u = t.count (R.PGR_SQ_STALLS n) →
      u.holds n safe ((t.seq n).next / 4096) = false → u.spanOf n = none →
      exec (.seqLate n) s = .next (u.gangStop n 4)) ∧
    (t.line n ((t.seq n).next / 4096) = none → exec (.seqLate n) s = .next s)) ∧
  (∀ (s : State) (n : Fin 16) (l : BitVec 30), s.boundaryStalls n = none →
    exec (.boundaryStall n l) s = .next s ∧ exec (.seqLate n) s = .next s) ∧
  (∀ (s : State) (n : Fin 16) (l : BitVec 30) (d : Desc), (s.seq n).streaming = some d → s.runState n = rsRunning →
    (s.seq n).fault = none → (s.seq n).vec < d.len → s.line n l.toNat = none → (d.base + 524288) / 4096 ≤ l.toNat →
    l.toNat * 4096 < d.base + d.size →
    exec (.midBlockStall n l) s = .next ((s.missLine n l.toNat).takeStall n l.toNat 3 d.holdSafe)) ∧
  (∀ (s : State) (n : Fin 16) (l : BitVec 30), ((s.seq n).streaming = none ∨ s.runState n ≠ rsRunning) →
    exec (.midBlockStall n l) s = .next s) ∧
  (∀ (s : State) (n : Fin 16), s.runState n = rsHold → (s.seq n).udp = true → 32 ≤ (s.seq n).unit → (s.seq n).present = false →
    (s.fld (F.PGR_SQ_HOLD_LIMIT_UNITS n) ≤ (s.seq n).hold + 1 → exec (.holdLimitReached n) s = .next (s.gangStop n 3)) ∧
    ((s.seq n).hold + 1 < s.fld (F.PGR_SQ_HOLD_LIMIT_UNITS n) → exec (.holdLimitReached n) s = .next s)) ∧
  (∀ (s : State) (n : Fin 16) (p : Bool), (s.seq n).flight = [] → exec (.condRelease n p) s = .next s) ∧
  (∀ (s t : State) (n : Fin 16) (p : Bool) (f : Flight), firstFlight (s.seq n).flight = some f → f.remote = false →
    t = s.setSeq n { s.seq n with flight := (s.seq n).flight.erase f } →
    (∀ b x, f.res = some (b, x) → exec (.condRelease n true) s = .next (t.releaseResult n f b x)) ∧
    ((f.res = none ∨ p = false) → (t.capDeliver n f.cycle none).gangRuns n = false → exec (.condRelease n p) s = .next (t.capDeliver n f.cycle none)) ∧
    ((f.res = none ∨ p = false) → (t.capDeliver n f.cycle none).gangRuns n = true →
      ((t.capDeliver n f.cycle none).seq n).late = none →
      exec (.condRelease n p) s = .next ((t.capDeliver n f.cycle none).setSeq n
        { (t.capDeliver n f.cycle none).seq n with late := some 5 })))

/-- SEQ_RUN starts a startable gang at once, arms it for a trigger, or leaves the start to a cycle; a gang that is not startable, and a
sequencer that is not bound, reject it with STATE, START_SRC 3 is out of range. An armed trigger start consumes its pending trigger.
A pause, resume or abort sets its request bit in the run states it acts in, and only then, and keeps the start source. SEQ_GANG
regroups; flags are set and cleared, pending triggers cleared, by the bits of the mask. -/
def Obligations.SequencerRequests : Prop :=
  (∀ (s t : State) (a : Agent) (n : Fin 16) (src : BitVec 2) (trig : BitVec 4), s.admits a .seq (P.SEQ n) = true →
    t = (s.setFld (F.SEQ_RUN_START_TRIG n) trig.toNat).setFld (F.SEQ_RUN_START_SRC n) src.toNat → s.bound n = true →
    (src.toNat = s.fld (F.SEQ_RUN_START_SRC n) ∨ s.gangRuns n = false) →
    (s.startable n = true → src = 0 → exec (.seqStart a n src trig) s = .next (t.startGang n t.nextEdge)) ∧
    (s.startable n = true → src = 1 → exec (.seqStart a n src trig) s = .next (t.setFlag (F.SEQ_RUN_START n) true)) ∧
    (s.startable n = true → src = 2 → exec (.seqStart a n src trig) s = .next t) ∧
    (s.startable n = true → src = 3 → exec (.seqStart a n src trig) s = .next (s.reject (P.SEQ n) (R.SEQ_RUN n) .range)) ∧
    (s.startable n = false → exec (.seqStart a n src trig) s = .next (s.reject (P.SEQ n) (R.SEQ_RUN n) .state))) ∧
  (∀ (s : State) (n : Fin 16), s.flag (F.SEQ_RUN_START n) = true → s.fld (F.SEQ_RUN_START_SRC n) = 1 →
    s.trigPend n (s.fld (F.SEQ_RUN_START_TRIG n)) = true → s.startable n = true → exec (.seqTriggerStart n) s =
      .next ((s.setBit (R.SEQ_TRIG_PEND n) (s.fld (F.SEQ_RUN_START_TRIG n)) false).startGang n s.nextEdge)) ∧
  (∀ (s : State) (n : Fin 16), (s.flag (F.SEQ_RUN_START n) = false ∨ s.startable n = false) →
    exec (.seqTriggerStart n) s = .next s) ∧
  (∀ (s : State) (a : Agent) (n : Fin 16), s.admits a .seq (P.SEQ n) = true → s.bound n = true →
    s.fld (F.SEQ_RUN_START_SRC n) ≠ 3 → s.spanOf n = none →
    ∃ p r b, exec (.seqPause a n) s = .next p ∧ exec (.seqResume a n) s = .next r ∧ exec (.seqAbort a n) s = .next b ∧
      s.regsButFor p [R.SEQ_RUN n] ∧ s.regsButFor r [R.SEQ_RUN n] ∧ s.regsButFor b [R.SEQ_RUN n] ∧
      p.flag (F.SEQ_RUN_PAUSE n) =
        (s.flag (F.SEQ_RUN_PAUSE n) || s.runState n == rsRunning || s.runState n == rsHold) ∧
      r.flag (F.SEQ_RUN_RESUME n) = (s.flag (F.SEQ_RUN_RESUME n) || s.runState n == rsPaused) ∧
      b.flag (F.SEQ_RUN_ABORT n) = (s.flag (F.SEQ_RUN_ABORT n) || s.gangRuns n) ∧
      p.fld (F.SEQ_RUN_START_SRC n) = s.fld (F.SEQ_RUN_START_SRC n) ∧
      p.fld (F.SEQ_RUN_START_TRIG n) = s.fld (F.SEQ_RUN_START_TRIG n)) ∧
  (∀ (s : State) (a : Agent) (n : Fin 16) (m : BitVec 16), s.admits a .seq (P.SEQ n) = true → s.bound n = false →
    exec (.seqPause a n) s = .next (s.reject (P.SEQ n) (R.SEQ_RUN n) .state) ∧
    exec (.seqGang a n 0) s = .next (s.reject (P.SEQ n) (R.SEQ_GANG n) .state) ∧
    exec (.seqFlagSet a n m) s = .next (s.reject (P.SEQ n) (R.SEQ_FLAG_SET n) .state)) ∧
  (∀ (s : State) (a : Agent) (n : Fin 16) (l : BitVec 4), s.admits a .seq (P.SEQ n) = true →
    (seqGangRule n (l.setWidth 32) s).stateOk = true →
    (n.val ≤ l.toNat → exec (.seqGang a n l) s = .next (s.regroup n l.toNat)) ∧
    (l.toNat < n.val → exec (.seqGang a n l) s = .next (s.reject (P.SEQ n) (R.SEQ_GANG n) .range))) ∧
  (∀ (s : State) (a : Agent) (n : Fin 16) (m : BitVec 16), s.admits a .seq (P.SEQ n) = true → s.bound n = true →
    exec (.seqFlagSet a n m) s = .next (s.setFlags n (s.flags n ||| m.toNat)) ∧
    exec (.seqFlagClr a n m) s = .next (s.setFlags n (s.flags n &&& (0xFFFF ^^^ m.toNat))) ∧
    exec (.seqTrigPendClear a n m) s = .next (s.clrReg (R.SEQ_TRIG_PEND n) (m.setWidth 32)))

/-- MC_DRAIN drains an idle sequencer and rejects a busy one with STATE; a release validates the open region. A reload asks for a drained
sequencer and an authentic patch, and ends whole, with its EVT, or with MC_FLT.MASTER_ECC and the store marked bad. Only MGMT, in BOOT,
loads the patch: a word goes where MC_PLOAD_ADDR says, a finished patch is published or, in another PSTATE, raises PATCH_AUTH. -/
def Obligations.ControlStores : Prop :=
  (∀ (s : State) (a : Agent) (n : Fin 16) (k : EccCheck), s.admits a .mc P.MC = true →
    (∀ i < 16, s.drained i = (s.fld F.MC_DRAIN_REQ).testBit i) →
    (s.drained n = false → (s.seqState n = 0 ∨ s.seqState n = rsIdle) → exec (.mcDrain a n) s =
      .next (((s.setFld F.MC_DRAIN_REQ (putBits (s.fld F.MC_DRAIN_REQ) n n 1)).setBit R.MC_DRAINED n true).event P.MC
        E.MC_DRAINED)) ∧
    (s.drained n = false → s.seqState n ≠ 0 → s.seqState n ≠ rsIdle →
      exec (.mcDrain a n) s = .next (s.reject P.MC R.MC_DRAIN .state)) ∧
    (s.drained n = true → (s.seq n).store.bad = false → exec (.mcRelease a n k) s =
      .next ((s.setFld F.MC_DRAIN_REQ (putBits (s.fld F.MC_DRAIN_REQ) n n 0)).release n k)) ∧
    (s.drained n = true → (s.seq n).store.bad = true →
      exec (.mcRelease a n k) s = .next (s.reject P.MC R.MC_DRAIN .state))) ∧
  (∀ (s : State) (a : Agent) (n : Fin 16), s.admits a .mc P.MC = true →
    (s.drained n = true → s.fld F.MC_PATCH_STAT_PSTATE = 1 →
      exec (.mcReload a n) s = .next (s.orReg R.MC_RELOAD (BitVec.ofNat 32 (2 ^ n.val)))) ∧
    ((s.drained n = false ∨ s.fld F.MC_PATCH_STAT_PSTATE ≠ 1) →
      exec (.mcReload a n) s = .next (s.reject P.MC R.MC_RELOAD .state))) ∧
  (∀ (s : State) (n : Fin 16) (b : Bool), s.bit R.MC_RELOAD n = false → exec (.mcReloadDone n b) s = .next s) ∧
  (∀ (s t : State) (n : Fin 16) (x : Store), s.bit R.MC_RELOAD n = true → s.bit (R.xx_FLT_INJ P.MC) X.MC_MASTER_ECC = false →
    (t = (s.setBit R.MC_RELOAD n false).setFld F.MC_PATCH_STAT_LOADED (putBits (s.fld F.MC_PATCH_STAT_LOADED) n n 1) →
      x = s.master.foldl (fun x e => x.put e.1 e.2) (s.seq n).store.rom →
      exec (.mcReloadDone n true) s = .next ((t.setStore n { x with bad := false }).event P.MC E.MC_RELOADED)) ∧
    (t = (s.setBit R.MC_RELOAD n false).setFld F.MC_PATCH_STAT_LOADED (putBits (s.fld F.MC_PATCH_STAT_LOADED) n n 0) →
      exec (.mcReloadDone n false) s =
        .next ((t.setStore n { (s.seq n).store.rom with bad := true }).faultInj P.MC X.MC_MASTER_ECC false))) ∧
  (∀ (s : State) (v : Word), s.admits .mgmt .mc P.MC = true → s.mode = mBoot →
    exec (.mcPloadData .mgmt v) s = .next (s.ploadWord v) ∧
    (bitsOf v.toNat 15 12 = 0 → exec (.mcPloadFin .mgmt v) s = .next (s.setFld F.MC_PLOAD_FIN_SEQMASK (bitsOf v.toNat 31 16))) ∧
    (bitsOf v.toNat 15 12 = 1 → bitsOf v.toNat 11 8 = s.fld F.MC_ABI_ROM_MAJ → s.fld F.MC_ABI_ROM_MIN ≤ v.toNat % 256 →
      exec (.mcPloadFin .mgmt v) s = .next ((s.setFld F.MC_PLOAD_FIN_SEQMASK (bitsOf v.toNat 31 16)).ploadFin 1
        (bitsOf v.toNat 11 8) (v.toNat % 256))) ∧
    (2 ≤ bitsOf v.toNat 15 12 → bitsOf v.toNat 15 12 ≤ 5 → exec (.mcPloadFin .mgmt v) s =
      .next ((s.setFld F.MC_PLOAD_FIN_SEQMASK (bitsOf v.toNat 31 16)).ploadFin (bitsOf v.toNat 15 12)
        (bitsOf v.toNat 11 8) (v.toNat % 256))) ∧
    (bitsOf v.toNat 15 12 = 1 → bitsOf v.toNat 11 8 ≠ s.fld F.MC_ABI_ROM_MAJ →
      exec (.mcPloadFin .mgmt v) s = .next (s.reject P.MC R.MC_PLOAD_FIN .range))) ∧
  (∀ (s : State) (v : Word), s.admits .mgmt .mc P.MC = true → s.mode ≠ mBoot →
    exec (.mcPloadData .mgmt v) s = .next (s.reject P.MC R.MC_PLOAD_DATA .state) ∧
    exec (.mcPloadFin .mgmt v) s = .next (s.reject P.MC R.MC_PLOAD_FIN .state)) ∧
  (∀ (s : State) (a : Agent) (v : Word), s.admits a .mc P.MC = true → a ≠ .mgmt →
    exec (.mcPloadData a v) s = .next (s.reject P.MC R.MC_PLOAD_DATA .agent) ∧
    exec (.mcPloadFin a v) s = .next (s.reject P.MC R.MC_PLOAD_FIN .agent))

/-- A cycle of a gang takes the next vector of its block, a pause cycle or a hold vector. The next edge of a line is placed, or dropped
with EDGE_COLLIDE when it comes closer than the minimum spacing to the one before. The next strobe samples the levels at its ball; one
too close to those taken is dropped and fails if it expects something. A frame starts on a free sideband, its first bad response is
repeated, and the second judged. The self-test runs in DIAGNOSE only and ends with the pins that failed, or at once. -/
def Obligations.CyclesAndPins : Prop :=
  (∀ (s : State) (n : Fin 16) (k : EccCheck),
    (s.runState n = rsPaused → (s.seq n).unit < 32 → exec (.cycleStart n k) s = .next (s.unitCycle n none k)) ∧
    (s.runState n = rsHold → (s.seq n).unit < 32 → exec (.cycleStart n k) s = .next (s.unitCycle n (some (s.holdLanes n)) k)) ∧
    (∀ d, s.runState n = rsRunning → (s.seq n).streaming = some d → (s.seq n).vec < d.len →
      exec (.cycleStart n k) s = .next (s.runCycle n d k)) ∧
    (s.gangRuns n = false → exec (.cycleStart n k) s = .next s)) ∧
  (∀ (s : State) (p : Fin 256) (e : Edge),
    ((s.pin p).drvQ = [] → exec (.edgePlace p false) s = .next s) ∧
    (firstEdge (s.pin p).drvQ = some e → (∀ l, (s.pin p).drvLast = some l → s.minSpacing ≤ 4 * (e.time - l)) →
      exec (.edgePlace p false) s = .next (s.setPin p
        { s.pin p with drvQ := (s.pin p).drvQ.erase e, drv := e.level, drvLast := some e.time })) ∧
    (∀ l, firstEdge (s.pin p).drvQ = some e → (s.pin p).drvLast = some l → 4 * (e.time - l) < s.minSpacing →
      exec (.edgePlace p false) s = .next ((s.setPin p { s.pin p with drvQ := (s.pin p).drvQ.erase e }).drop (p.val / 16)
        dropCollide 0 (p.val % 16) e.cycle)) ∧
    (firstEdge (s.pin p).denQ = some e → (∀ l, (s.pin p).denLast = some l → s.minSpacing ≤ 4 * (e.time - l)) →
      exec (.edgePlace p true) s = .next (s.setPin p
        { s.pin p with denQ := (s.pin p).denQ.erase e, den := e.level, denLast := some e.time }))) ∧
  (∀ (s : State) (p : Fin 256) (v : Bool × Bool) (b : Strobe),
    ((s.pin p).strobes = [] → exec (.strobeSample p [v]) s = .next s) ∧
    (firstStrobe (s.pin p).strobes = some b → (s.pin p).taken = [] → exec (.strobeSample p [v]) s =
      .next ((s.setPin p { s.pin p with strobes := (s.pin p).strobes.erase b, taken := [(b.t0, b.t1)] }).setResult
        (s.gangOf (p.val / 16)) p b (!meets b.expect (s.sampleOf p v), some (s.sampleOf p v)))) ∧
    (∀ t u, firstStrobe (s.pin p).strobes = some b → (s.pin p).taken = [t] → b.t0 < t.1 + 125 →
      u = (s.setPin p { s.pin p with strobes := (s.pin p).strobes.erase b }).drop (p.val / 16) dropStrobe 0 (p.val % 16) b.cycle →
      exec (.strobeSample p [v]) s = .next (u.setResult (u.pinSeq p) p b (b.expect != 0, none)))) ∧
  (∀ (s : State) (a : Agent) (n c : Fin 16) (x : BitVec 16), s.admits a .tg (P.TG n) = true →
    ((s.tg n).frame = none → exec (.sbFrameStart a n true c x) s = .next (s.sbStart n {
      cal := false, wr := true, chip := c, addr := x.toNat, wdata := s.fld (F.PE_SB_WDATA_WDATA n), again := false })) ∧
    ((s.tg n).frame = none → exec (.sbFrameStart a n false c x) s = .next (s.sbStart n {
      cal := false, wr := false, chip := c, addr := x.toNat, wdata := 0, again := false })) ∧
    (∀ w f, (s.tg n).frame = some f → exec (.sbFrameStart a n w c x) s =
      .next (s.reject (P.TG n) (R.PE_SB_CMD n) .state))) ∧
  (∀ (s : State) (n : Fin 16) (b : Bool) (d : BitVec 16), (s.tg n).frame = none →
    exec (.sbFrameEnd n b d) s = .next s) ∧
  (∀ (s t : State) (n : Fin 16) (b : Bool) (d : BitVec 16) (f : SbFrame), (s.tg n).frame = some f → f.cal = false →
    (s.tg n).inverts = 0 → s.bit (R.xx_FLT_INJ (P.TG n)) X.TG_SB_FAIL = false →
    (f.judge b d ≠ sbOk → f.again = false →
      exec (.sbFrameEnd n b d) s = .next (s.setTg n { s.tg n with frame := some { f with again := true } })) ∧
    (f.judge b d = sbOk → f.again = false →
      t = ((s.setTg n { s.tg n with frame := none }).setFlag (F.PE_SB_STAT_BUSY n) false) →
      exec (.sbFrameEnd n b d) s = .next ((((t.setFld (F.PE_SB_STAT_RESULT n) sbOk).setFld (F.PE_SB_STAT_RDATA n) d.toNat).event
        (P.TG n) E.TG_SB_DONE).calPump n))) ∧
  (∀ (s : State) (a : Agent) (n : Fin 16), s.admits a .tg (P.TG n) = true →
    (s.mode = mDiagnose → s.flag (F.PE_DIAG_STAT_BUSY n) = false → ∃ t, exec (.peDiagStart a n) s = .next t ∧
      t.flag (F.PE_DIAG_STAT_BUSY n) = true ∧ t.fld (F.PE_DIAG_STAT_FAILPINS n) = 0 ∧
      ∀ p < 16, s.bit (R.PE_DIAG_PINS n) p = true → t.reg (R.PE_DIAG_ERR n p) = 0) ∧
    ((s.mode ≠ mDiagnose ∨ s.flag (F.PE_DIAG_STAT_BUSY n) = true) →
      exec (.peDiagStart a n) s = .next (s.reject (P.TG n) (R.PE_DIAG_CMD n) .state)) ∧
    (s.flag (F.PE_DIAG_STAT_BUSY n) = true → exec (.peDiagAbort a n) s = .next (s.diagStop n diagAborted)) ∧
    (s.flag (F.PE_DIAG_STAT_BUSY n) = false → exec (.peDiagAbort a n) s = .next s)) ∧
  (∀ (s : State) (n : Fin 16) (e : List (BitVec 16 × BitVec 16)), s.flag (F.PE_DIAG_STAT_BUSY n) = false →
    exec (.peDiagEnd n e) s = .next s) ∧
  (∀ (s t : State) (n : Fin 16), s.flag (F.PE_DIAG_STAT_BUSY n) = true →
    t = (s.diagPins n).foldl (fun s p => s.setReg (R.PE_DIAG_ERR n p) 0) s →
    exec (.peDiagEnd n []) s = .next ((t.setFld (F.PE_DIAG_STAT_FAILPINS n) 0).diagStop n diagPass))

/-- PGR_CTRL.ENABLE makes the level-1 table, or is refused with STATE and ALLOC_EVT.REFUSED. A map operation asks for an enabled pager
that is not busy and a range within pattern space; it is under way until PGR_MAP_OP_DONE, and a count of 0 is done at once. VC_SQ_CFG
is accepted for an idle sequencer within 24 slices of its own and 48 in all, and discards its lines; the history of a sequencer is
cleared at any time and seeded while its gang does not run. -/
def Obligations.PatternPages : Prop :=
  (∀ (s : State) (a : Agent), s.admits a .pgr P.PGR = true → s.flag (F.xx_CTRL_ENABLE P.PGR) = false →
    s.flag (F.xx_COMMIT_STAT_PENDING P.PGR) = false →
    (s.pager.tables ≠ [] → ∃ t, exec (.pgrEnable a) s = .next t ∧ t.flag (F.xx_CTRL_ENABLE P.PGR) = true ∧
      s.regsButFor t [R.xx_CTRL P.PGR] ∧ t.pager = s.pager) ∧
    (s.pgrEnableOk = true → ∃ t, exec (.pgrEnable a) s = .next t ∧ t.pager.tables ≠ []) ∧
    (s.pgrEnableOk = false → exec (.pgrEnable a) s =
      .next ((s.reject P.PGR (R.xx_CTRL P.PGR) .state).event P.ALLOC E.ALLOC_REFUSED))) ∧
  (∀ (s u : State) (a : Agent) (c : BitVec 16) (h v : Bool), s.admits a .pgr P.PGR = true → s.flag F.PGR_MAP_STAT_BUSY = false →
    s.flag (F.xx_CTRL_ENABLE P.PGR) = true → s.fld F.PGR_MAP_PAGE_PAGE + c.toNat ≤ 2097152 → c ≠ 0 →
    u = s.setFlag F.PGR_MAP_STAT_BUSY true →
    ((v = false ∨ c = 1) → exec (.pgrMap a c h v) s =
      .next (u.pagerUpd (fun p => { p with op := some ⟨1, v, h, s.fld F.PGR_MAP_PAGE_PAGE, c.toNat⟩ }))) ∧
    (v = true → 1 < c.toNat → exec (.pgrMap a c h v) s = .next (s.reject P.PGR R.PGR_MAP_OP .range)) ∧
    exec (.pgrUnmap a c) s =
      .next (u.pagerUpd (fun p => { p with op := some ⟨2, false, false, s.fld F.PGR_MAP_PAGE_PAGE, c.toNat⟩ })) ∧
    exec (.pgrPreload a c) s =
      .next (u.pagerUpd (fun p => { p with op := some ⟨3, false, false, s.fld F.PGR_MAP_PAGE_PAGE, c.toNat⟩ })) ∧
    exec (.pgrRelease a c) s =
      .next (u.pagerUpd (fun p => { p with op := some ⟨4, false, false, s.fld F.PGR_MAP_PAGE_PAGE, c.toNat⟩ })) ∧
    exec (.pgrRefetch a c) s =
      .next (u.pagerUpd (fun p => { p with op := some ⟨5, false, false, s.fld F.PGR_MAP_PAGE_PAGE, c.toNat⟩ })) ∧
    exec (.pgrQuery a) s =
      .next (u.pagerUpd (fun p => { p with op := some ⟨6, false, false, s.fld F.PGR_MAP_PAGE_PAGE, 1⟩ })) ∧
    exec (.pgrUnmap a 0) s = .next (s.mapEnd 0 mapOk)) ∧
  (∀ (s : State) (a : Agent) (c : BitVec 16), s.admits a .pgr P.PGR = true →
    (s.flag F.PGR_MAP_STAT_BUSY = true ∨ s.flag (F.xx_CTRL_ENABLE P.PGR) = false) →
    exec (.pgrMap a c false false) s = .next (s.reject P.PGR R.PGR_MAP_OP .state) ∧
    exec (.pgrQuery a) s = .next (s.reject P.PGR R.PGR_MAP_OP .state)) ∧
  (∀ s : State, s.pager.op = none → exec .pgrMapOpDone s = .next s) ∧
  (∀ (s t : State) (o : MapOp) (k r : Nat), s.pager.op = some o → s.mapPages o o.count 0 = (k, r, t) →
    ((t.mapEnd k r).heldPending = true → exec .pgrMapOpDone s = .next (t.mapEnd k r)) ∧
    (o.op = 3 → (t.mapEnd k r).heldPending = false →
      exec .pgrMapOpDone s = .next ((t.mapEnd k r).event P.PGR E.PGR_PRELOAD_DONE)) ∧
    (o.op = 4 → s.heldPending = false → exec .pgrMapOpDone s = .next (t.mapEnd k r))) ∧
  (∀ (s : State) (a : Agent) (n : Fin 16) (b : Bool) (c : BitVec 24), s.admits a .pgr P.PGR = true →
    exec (.pgrSqHistClear a n) s = .next (s.setWalker n { s.walker n with hist := [] }) ∧
    (s.gangRuns n = false → exec (.pgrSqHseed a n b c) s = .next (s.setHistory n
      (s.fld (F.PGR_SQ_HSEED_ADDR_HI_ADDR n) * 2 ^ 32 + (s.reg (R.PGR_SQ_HSEED_ADDR_LO n)).toNat / 16 * 16) c.toNat b)) ∧
    (s.gangRuns n = true → exec (.pgrSqHseed a n b c) s = .next (s.reject P.PGR (R.PGR_SQ_HSEED_VAL n) .state))) ∧
  (∀ (s t : State) (a : Agent) (n : Fin 16) (p : BitVec 14) (k : BitVec 5) (z : Nat), s.admits a .vc P.VC = true →
    z = ((List.range 16).map (fun i => if i = n.val then k.toNat else s.fld (F.VC_SQ_CFG_SLICES i))).sum →
    s.seqIdle n = true → s.bound n = true →
    (k.toNat ≤ 24 → p.toNat ≤ k.toNat * 512 - 256 → z ≤ 48 →
      t = (s.setFld (F.VC_SQ_CFG_SLICES n) k.toNat).setFld (F.VC_SQ_CFG_PIN_LINES n) p.toNat →
      exec (.vcSqCfg a n p k) s = .next (((t.setWalker n
        { t.walker n with lines := [], pins := [], cand := none, retry := [] }).vcCount n).setFld F.VC_FREE_SLICES (48 - z))) ∧
    ((24 < k.toNat ∨ k.toNat * 512 - 256 < p.toNat ∨ 48 < z) →
      exec (.vcSqCfg a n p k) s = .next (s.reject P.VC (R.VC_SQ_CFG n) .range))) ∧
  (∀ (s : State) (a : Agent) (n : Fin 16) (p : BitVec 14) (k : BitVec 5), s.admits a .vc P.VC = true → s.seqIdle n = false →
    exec (.vcSqCfg a n p k) s = .next (s.reject P.VC (R.VC_SQ_CFG n) .state))

/-- A fetch obtains a frame unless the part sleeps or is quarantined, and its data are checked: a refused, late or damaged attempt is
repeated once, then the page is FAILED; a multicast delivery is taken only by a page mapped to that source. A line is filled from its
page when it has room, and discarded on a double-bit error. The walker examines one record within its reach, requesting the page where
it is absent. -/
def Obligations.PagesAndLines : Prop :=
  (∀ (s : State) (v : BitVec 21), (s.dev.sleep.target ≠ 0 ∨ s.mode = mQuarantine ∨ s.fetchOf v.toNat = none) →
    exec (.fetchFrameObtained v) s = .next s) ∧
  (∀ (s t u : State) (v : BitVec 21) (f : Nat) (j : Bool), s.dev.sleep.target = 0 → s.mode ≠ mQuarantine →
    s.fetchOf v.toNat = some (none, j) → s.fetchFrame (s.pager.resident.length + 1) = (some f, t) →
    u = t.pagerUpd (fun p => { p with fetches := p.fetches.map (fun x => if x.1 = v.toNat then (v.toNat, some f, j) else x) }) →
    (u.sourceOpen v.toNat = true → exec (.fetchFrameObtained v) s = .next (u.pageAsk v.toNat)) ∧
    (u.sourceOpen v.toNat = false → exec (.fetchFrameObtained v) s =
      .next ((u.fetchFail v.toNat f j).fetchFail v.toNat f j))) ∧
  (∀ (s : State) (v : BitVec 21) (b : Bool) (d : List Byte), (s.fetchOf v.toNat = none ∨ ∃ j, s.fetchOf v.toNat = some (none, j)) →
    exec (.pageFetchArrival v b d) s = .next s ∧ exec (.fetchTimeout v) s = .next s) ∧
  (∀ (s t : State) (v : BitVec 21) (f w : Nat) (j : Bool) (d : List Byte), s.fetchOf v.toNat = some (some f, j) →
    w = (s.pageWords v.toNat).2 →
    exec (.fetchTimeout v) s = .next (s.fetchFail v.toNat f j) ∧
    exec (.pageFetchArrival v true d) s = .next (s.fetchFail v.toNat f j) ∧
    (s.bit (R.xx_FLT_INJ P.PGR) X.PGR_FETCH_RETRY = false → w.testBit 59 = true → crcStandard (pageData d) ≠ w % 2 ^ 32 →
      exec (.pageFetchArrival v false d) s = .next (s.fetchFail v.toNat f j)) ∧
    (s.bit (R.xx_FLT_INJ P.PGR) X.PGR_FETCH_RETRY = false → (w.testBit 59 = false ∨ crcStandard (pageData d) = w % 2 ^ 32) →
      w.testBit 58 = false → w.testBit 60 = false →
      t = (((s.setMem (f * 2 ^ 21) (pageData d)).setPageBits v.toNat 63 61 pgResident).setPageBits v.toNat 58 58 0).setPageBits
        v.toNat 49 32 f →
      exec (.pageFetchArrival v false d) s = .next (((t.fetchGone v.toNat).pagerUpd
        (fun p => { p with resident := p.resident ++ [v.toNat] })).count (R.xx_BLK_COUNT P.PGR)))) ∧
  (∀ (s t u : State) (v f : Nat) (j : Bool), (s.pageWords v).2.testBit 58 = true →
    t = ((s.setPageBits v 63 61 pgFailed).freeFrame f).setDramUsed (s.fld F.PGR_DRAM_USED_FRAMES - 1) →
    u = ((t.fetchGone v).fault P.PGR X.PGR_PAGE_FAIL).event P.PGR E.PGR_PAGE_FAILED → u.pageHeld v = false →
    s.fetchFail v f j = u) ∧
  (∀ (s : State) (n : BitVec 10) (p v : BitVec 21) (d : List Byte), s.pageFrom v.toNat n.toNat p.toNat = false →
    exec (.multicastPageDelivery n p v d) s = .next s) ∧
  (∀ (s : State) (n : BitVec 10) (p v : BitVec 21) (f : Nat) (j : Bool) (d : List Byte),
    s.pageFrom v.toNat n.toNat p.toNat = true → s.pageState v.toNat = pgFetching → s.fetchOf v.toNat = some (some f, j) →
    exec (.multicastPageDelivery n p v d) s = .next (s.fetchArrive v.toNat f false j d)) ∧
  (∀ (s : State) (n : Fin 16) (l : BitVec 30) (k : EccCheck),
    ((s.line n l.toNat) = none → s.patAddr (l.toNat * 4096) = none → exec (.lineFill n l k) s = .next s) ∧
    (∀ a, s.line n l.toNat = none → s.patAddr (l.toNat * 4096) = some a → s.rangeDown a 4096 = true →
      exec (.lineFill n l k) s = .next ((s.fault P.VC X.VC_LINE_FAIL).gangFault n 0xA)) ∧
    (∀ a t, s.line n l.toNat = none → s.patAddr (l.toNat * 4096) = some a → s.rangeDown a 4096 = false →
      (s.walker n).lines.length < s.fld (F.VC_SQ_CFG_SLICES n) * 512 → (s.walker n).retry = [] →
      s.bit (R.xx_FLT_INJ P.VC) X.VC_LINE_RETRY = false → t = s.count (R.VC_SQ_FILLS n) → ∃ u,
      exec (.lineFill n l .clean) s = .next u ∧
      u = t.setLines n ((s.walker n).lines ++ [⟨l.toNat, t.memBytes a 4096⟩])) ∧
    ((s.line n l.toNat).isSome = true → s.bit (R.xx_FLT_INJ P.VC) X.VC_LINE_RETRY = false →
      exec (.lineFill n l .clean) s = .next s ∧ exec (.lineFill n l .corrected) s = .next (s.count (R.xx_CE_COUNT P.VC)) ∧
      exec (.lineFill n l .double) s = .next (s.lineDouble n l.toNat false))) ∧
  (∀ (s : State) (n : Fin 16), (s.flag (F.xx_CTRL_ENABLE P.PGR) = false ∨ s.bound n = false ∨
      s.fld (F.VC_SQ_CFG_SLICES n) = 0 ∨ s.reach n = 0) → exec (.walkerStep n) s = .next s) ∧
  (∀ (s : State) (n : Fin 16), s.flag (F.xx_CTRL_ENABLE P.PGR) = true → s.bound n = true → s.fld (F.VC_SQ_CFG_SLICES n) ≠ 0 →
    (s.walker n).on = true →
    ((s.walker n).halted = true → exec (.walkerStep n) s = .next s) ∧
    (s.reach n ≤ (s.walker n).ord - (s.seq n).ord → exec (.walkerStep n) s = .next s) ∧
    ((s.walker n).halted = false → (s.walker n).ord - (s.seq n).ord < s.reach n →
      (s.patAddr (s.walker n).addr = none → exec (.walkerStep n) s = .next (s.fetchRequest ((s.walker n).addr / 2 ^ 21))) ∧
      (∀ d, s.patAddr (s.walker n).addr = some d → s.chanDown d = true →
        exec (.walkerStep n) s = .next (s.walkPoison ((s.walker n).addr / 2 ^ 21))) ∧
      (∀ d, s.patAddr (s.walker n).addr = some d → s.chanDown d = false →
        exec (.walkerStep n) s = .next (s.walkRecord n))))

/-- The oldest cycle of a unit is processed once all its results have been released. AUTO's timeout forces a trigger in PRE, a re-arm
ends with the next segment in PRE, and a running timer comes to its limit. A region is released while its partition is IDLE; the read
position of a fail log moves within its level. -/
def Obligations.CaptureCommands : Prop :=
  (∀ (s : State) (u : Fin 8),
    ((s.cu u).queue = [] → exec (.captureCycleProcess u) s = .next s) ∧
    (∀ c l, (s.cu u).queue = c :: l → c.left ≠ 0 → exec (.captureCycleProcess u) s = .next s) ∧
    (∀ c l, (s.cu u).queue = c :: l → c.left = 0 → exec (.captureCycleProcess u) s =
      .next (((s.setCu u { s.cu u with queue := l }).capProcess u c).capSettle u))) ∧
  (∀ (s : State) (u : Fin 8),
    (s.fld (F.TRG_CFG_MODE u) = 2 → s.phase u = phPre → exec (.autoTriggerTimeout u) s =
      .next (s.setCu u { s.cu u with force := true })) ∧
    ((s.fld (F.TRG_CFG_MODE u) ≠ 2 ∨ s.phase u ≠ phPre) → exec (.autoTriggerTimeout u) s = .next s) ∧
    (s.phase u = phRearm → exec (.rearmEnd u) s = .next (s.segStart u (s.fld (F.TRG_STATE_SEG u) + 1))) ∧
    (s.phase u ≠ phRearm → exec (.rearmEnd u) s = .next s)) ∧
  (∀ (s : State) (u : Fin 8) (i : Fin 4),
    ((s.timer u i).1 = true → (s.timer u i).2 < (s.reg (R.TRG_TM_LIM u i)).toNat → ∃ t,
      exec (.trgTimerExpire u i) s = .next t ∧ t.timer u i = (true, (s.reg (R.TRG_TM_LIM u i)).toNat) ∧
      t.timerExpired u i = true ∧ t.regs = s.regs) ∧
    (((s.timer u i).1 = false ∨ s.timerExpired u i = true) → exec (.trgTimerExpire u i) s = .next s)) ∧
  (∀ (s : State) (a : Agent) (u : Fin 8) (k : Fin 64), s.admits a .cu (P.CU u) = true →
    (s.pstate k = pIdle → exec (.capPRelease a u k) s = .next (s.capFree u k)) ∧
    (s.pstate k ≠ pIdle → exec (.capPRelease a u k) s = .next (s.reject (P.CU u) (R.CAP_P_STAT u k) .state))) ∧
  (∀ (s : State) (a : Agent) (u : Fin 8) (k : Fin 64) (v : Word) (c : Nat), s.admits a .cu (P.CU u) = true → c = s.flogCap u k →
    (c ≠ 0 → v.toNat < c → ringLevel v.toNat (s.reg (R.CAP_P_FLOG_RD u k)).toNat c ≤ s.flogLevel u k →
      exec (.capPFlogRd a u k v) s = .next (s.setReg (R.CAP_P_FLOG_RD u k) v)) ∧
    (c ≠ 0 → c ≤ v.toNat → exec (.capPFlogRd a u k v) s = .next (s.reject (P.CU u) (R.CAP_P_FLOG_RD u k) .range)) ∧
    (c = 0 → v ≠ 0 → exec (.capPFlogRd a u k v) s = .next (s.reject (P.CU u) (R.CAP_P_FLOG_RD u k) .range)))

/-- An arm of a unit at rest clears its stamps and opens its arm point 4 TCNT on, 1 DCLK; an armed unit is not armed again. A disarm
ends an armed unit with CANCEL, a timeout without it. EN opens a unit to IDLE outside CALIBRATE, SERVICE and QUARANTINE. An edge reaches
every unit through its source's front end; a source code that does not exist has no edges. An end leaves the unit DONE, with the
misses of the stamps that were not taken. -/
def Obligations.IntervalUnits : Prop :=
  (∀ (s : State) (a : Agent) (u : Fin 64), s.admits a .tia (P.TIA (u.val / 8)) = true → s.noMeasure = false →
    (s.tuFlag u F.TU_CTRL_EN = true → (s.tuState u = tuIdle ∨ s.tuState u = tuDone) → ∃ t, exec (.tuArm a u) s = .next t ∧
      t.tuState u = tuArmed ∧ (t.tu u).armAt = (s.time.tcnt.toNat + 4) % 2 ^ 56 ∧
      t.tuFlag u F.TU_STAT_START_TAKEN = false ∧ t.tuFlag u F.TU_STAT_STOP_TAKEN = false ∧ t.stamp u false = (0, 0) ∧
      t.stamp u true = (0, 0)) ∧
    (s.tuState u = tuArmed → exec (.tuArm a u) s =
      .next (s.reject (P.TIA (u.val / 8)) (R.TU_CTRL (u.val / 8) (u.val % 8)) .state))) ∧
  (∀ (s : State) (a : Agent) (u : Fin 64), s.admits a .tia (P.TIA (u.val / 8)) = true → s.noMeasure = true →
    exec (.tuArm a u) s = .next (s.reject (P.TIA (u.val / 8)) (R.TU_CTRL (u.val / 8) (u.val % 8)) .state) ∧
    (s.tuFlag u F.TU_CTRL_EN = false → exec (.tuEnWrite a u true) s =
      .next (s.reject (P.TIA (u.val / 8)) (R.TU_CTRL (u.val / 8) (u.val % 8)) .state))) ∧
  (∀ (s t : State) (a : Agent) (u : Fin 64), s.admits a .tia (P.TIA (u.val / 8)) = true →
    t = s.setTuFlag u F.TU_CTRL_TMO_EN (s.tuFlag u F.TU_CTRL_TMO_EN) →
    (s.tuState u = tuArmed → exec (.tuDisarm a u) s = .next (t.tuEnd u true)) ∧
    (s.tuState u ≠ tuArmed → exec (.tuDisarm a u) s = .next t) ∧
    (s.tuFlag u F.TU_CTRL_EN = true → exec (.tuEnWrite a u false) s = .next (t.tuEnable u false)) ∧
    (s.tuFlag u F.TU_CTRL_EN = false → exec (.tuEnWrite a u false) s = .next t) ∧
    (s.tuFlag u F.TU_CTRL_EN = false → s.noMeasure = false → s.tuState u ≠ tuCal → s.tuRetired u = false →
      exec (.tuEnWrite a u true) s = .next (t.tuEnable u true))) ∧
  (∀ (s : State) (u : Fin 64),
    (s.tuState u = tuArmed → s.tuFlag u F.TU_CTRL_TMO_EN = true → exec (.tuTimeout u) s = .next (s.tuEnd u false)) ∧
    ((s.tuState u ≠ tuArmed ∨ s.tuFlag u F.TU_CTRL_TMO_EN = false) → exec (.tuTimeout u) s = .next s)) ∧
  (∀ (s : State) (c : BitVec 10) (p : Fin 8) (r : Bool) (b : Fin 4) (f : Fin 192),
    (0x30A < c.toNat → exec (.frontEndEdge c p r b f []) s = .next s) ∧
    (c.toNat ≤ 0x30A → exec (.frontEndEdge c p r b f []) s = .next (s.frontEdge {
      src := c.toNat, page := p, rise := r, coarse := (s.time.tcnt.toNat + b.val) % 2 ^ 56, fine := fun _ => f }))) ∧
  (∀ (s t : State) (u : Fin 64) (c : Bool), s.tuFlag u F.TU_STAT_START_TAKEN = true → s.tuFlag u F.TU_STAT_STOP_TAKEN = false →
    s.tuState u = tuArmed → t = s.tuEnd u c → t.tuState u = tuDone ∧ t.tuFlag u F.TU_STAT_START_MISS = false ∧
      t.tuFlag u F.TU_STAT_STOP_MISS = true ∧ t.tuFlag u F.TU_STAT_CANCEL = c ∧ t.stamp u false = s.stamp u false)

/-- An output sample reaches the post-filter of a channel that forms samples, with SEQ one on, unless the banks' check fails: then the
channel is in FAULT. EN is set outside CALIBRATE, SERVICE and QUARANTINE; a restart is asked for of a channel that forms samples; a swap
waits for a boundary, or is taken at once by a channel that forms none. A bank in use is not written. A lost clock stops the channels
with its fault, its return restarts them; above 41 MHz they stop with OVERCLOCK. -/
def Obligations.DecimationChannels : Prop :=
  (∀ (s : State) (c : Fin 32) (l : List Word) (k : EccCheck), s.decForms c = false →
    exec (.decOutputSample c l k) s = .next s) ∧
  (∀ (s t : State) (c : Fin 32) (l : List Word) (q : Nat), s.decForms c = true →
    s.bit (R.xx_FLT_INJ (P.DEC (c.val / 8))) X.DEC_COEF_ECC = false → q = ((s.dec c).seq + 1) % 65536 →
    (t = (s.setDec c { s.dec c with hist := ((l.map BitVec.toInt).reverse ++ (s.dec c).hist).take 1024, seq := q }).setReg
        (R.DEC_CH_SEQ (c.val / 8) (c.val % 8)) (BitVec.ofNat 32 q) →
      exec (.decOutputSample c l .clean) s = .next ((t.decForm c).decBoundary c)) ∧
    exec (.decOutputSample c l .double) s =
      .next ((s.fault (P.DEC (c.val / 8)) X.DEC_COEF_ECC).setDecState c dcFault)) ∧
  (∀ (s : State) (c : Fin 32) (n : Nat), s.decState c = dcSettling → s.fld (F.DEC_CH_STAT_SETTLE_LEFT (c.val / 8) (c.val % 8)) = n + 1 →
    s.decForm c = (s.setFld (F.DEC_CH_STAT_SETTLE_LEFT (c.val / 8) (c.val % 8)) n).count (R.DEC_CH_SUPP (c.val / 8) (c.val % 8))) ∧
  (∀ (s : State) (a : Agent) (c : Fin 32), s.admits a .dec (P.DEC (c.val / 8)) = true →
    (s.decOn c = true → exec (.decEn a c true) s = .next s ∧ exec (.decEn a c false) s = .next (s.decEnable c false)) ∧
    (s.decOn c = false → exec (.decEn a c false) s = .next s) ∧
    (s.decOn c = false → s.noMeasure = false → s.bit R.PART_RET_DX c = false →
      exec (.decEn a c true) s = .next (s.decEnable c true)) ∧
    (s.decOn c = false → s.noMeasure = true →
      exec (.decEn a c true) s = .next (s.reject (P.DEC (c.val / 8)) (R.DEC_CH_CTRL (c.val / 8) (c.val % 8)) .state)) ∧
    (s.decForms c = true → exec (.decRestart a c) s = .next (s.setDec c { s.dec c with restart := true })) ∧
    (s.decForms c = false → exec (.decRestart a c) s = .next s)) ∧
  (∀ (s t : State) (a : Agent) (c : Fin 32) (b : Bool) (x : BitVec 12), s.admits a .dec (P.DEC (c.val / 8)) = true →
    s.flag (F.DEC_CH_SWAP_STAT_FADING (c.val / 8) (c.val % 8)) = false →
    t = ((s.setDec c { s.dec c with pendFade := x.toNat }).setFlag (F.DEC_CH_SWAP_STAT_PENDING (c.val / 8) (c.val % 8)) true).setFlag
      (F.DEC_CH_SWAP_STAT_PEND_TARGET (c.val / 8) (c.val % 8)) b →
    (t.decForms c = true → exec (.decSwapRequest a c b x) s = .next t) ∧
    (t.decForms c = false → exec (.decSwapRequest a c b x) s = .next (t.swapTake c false))) ∧
  (∀ (s : State) (a : Agent) (c : Fin 32) (b : Bool) (w : Fin 1024) (v : Word) (o : Nat), s.responds a = true →
    s.permits a (tableGroup .coef) = true → s.ownerPermits a (P.DEC (c.val / 8)) = true →
    s.flag (F.xx_STAT_IN_RESET (P.DEC (c.val / 8))) = false →
    o = 0x1B00000 + c.val * 0x2000 + ((if b then 0x1000 else 0) + 4 * w.val) →
    (s.bankInUse c b = true → exec (.coefBankWrite a c b w v) s = .next (s.reject (P.DEC (c.val / 8)) o .state)) ∧
    (s.bankInUse c b = false → w.val ≠ 0 → exec (.coefBankWrite a c b w v) s = .next (s.setTab o (v &&& 0xFFFFFF))) ∧
    (s.bankInUse c b = false → w.val = 0 → v.toNat % 2048 ≤ 1023 →
      exec (.coefBankWrite a c b w v) s = .next (s.setTab o (v &&& 0x7FF))) ∧
    (s.bankInUse c b = false → w.val = 0 → 1023 < v.toNat % 2048 →
      exec (.coefBankWrite a c b w v) s = .next (s.reject (P.DEC (c.val / 8)) o .range))) ∧
  (∀ (s : State) (n : Fin 4),
    ((s.flag (F.DEC_CLK_STAT_NO_CLOCK n) = true ∨ ∀ k < 8, s.decOn (8 * n.val + k) = false) →
      exec (.clockLossTimeout n) s = .next s) ∧
    (s.flag (F.DEC_CLK_STAT_NO_CLOCK n) = false → exec (.modClockResume n) s = .next s) ∧
    (s.flag (F.DEC_CLK_STAT_NO_CLOCK n) = true → exec (.modClockResume n) s =
      .next (((s.setFlag (F.DEC_CLK_STAT_NO_CLOCK n) false).decResume n).event (P.DEC n) E.DEC_CLOCK_BACK)) ∧
    (∀ k < 8, s.flag (F.DEC_CLK_STAT_NO_CLOCK n) = false → s.decOn (8 * n.val + k) = true →
      ∃ t, exec (.clockLossTimeout n) s = .next t ∧ t.flag (F.DEC_CLK_STAT_NO_CLOCK n) = true ∧
        t.fld (F.DEC_CLK_STAT_FREQ_KHZ n) = 0) ∧
    (∀ e : BitVec 12, e.toNat * 625 / 16 ≤ 41000 → s.flag (F.DEC_CLK_STAT_OVERCLOCK n) = false →
      s.flag (F.DEC_CLK_STAT_NO_CLOCK n) = false →
      exec (.freqMeasureInterval n e) s = .next (s.setFld (F.DEC_CLK_STAT_FREQ_KHZ n) (e.toNat * 625 / 16))) ∧
    (∀ e : BitVec 12, 41000 < e.toNat * 625 / 16 → ∃ t, exec (.freqMeasureInterval n e) s = .next t ∧
      t.flag (F.DEC_CLK_STAT_OVERCLOCK n) = true))

/-- START arms an enabled channel at rest, and its start instant gives it its first sample; at every boundary the accumulator goes on by
SDIV times FTW and the sample is formed. A change of the top phase bit places its edge. A stop asks a running channel to end at its next
boundary; clearing EN stops it at once. A jump request replaces the pending one, and waits for a boundary from the next DCLK on; a
channel that does not run discards it. -/
def Obligations.SynthesisChannels : Prop :=
  (∀ (s t : State) (a : Agent) (n : Fin 16), s.admits a .syn (P.SYN n) = true → t = s.setFlag (F.SYN_CTRL_EN n) true →
    s.flag (F.SYN_CTRL_EN n) = true →
    ((s.synState n = syIdle ∨ s.synState n = syDone ∨ s.synState n = syFault) → exec (.synStart a n) s = .next (t.synArm n)) ∧
    ((s.synState n = syRun ∨ s.synState n = syArmed) → exec (.synStart a n) s = .next (s.reject (P.SYN n) (R.SYN_CTRL n) .state)) ∧
    (s.synState n = syRun → exec (.synStop a n) s = .next (t.setSyn n { t.syn n with stop := true })) ∧
    (s.synState n ≠ syRun → exec (.synStop a n) s = .next t) ∧
    exec (.synEnClear a n) s = .next (((s.setFlag (F.SYN_CTRL_EN n) false).synHalt n syOff).deriveMode)) ∧
  (∀ (s : State) (a : Agent) (n : Fin 16), s.admits a .syn (P.SYN n) = true → s.flag (F.SYN_CTRL_EN n) = false →
    exec (.synStart a n) s = .next (s.reject (P.SYN n) (R.SYN_CTRL n) .state) ∧
    exec (.synEnClear a n) s = .next (s.setFlag (F.SYN_CTRL_EN n) false)) ∧
  (∀ (s t : State) (a : Agent) (n : Fin 16) (x : Byte) (e : Bool), s.admits a .syn (P.SYN n) = true →
    t = ((s.setFlag (F.SYN_JUMP_STAT_PENDING n) true).setFlag (F.SYN_JUMP_STAT_PEND_MODE n) e).setFld
      (F.SYN_JUMP_STAT_PEND_TARGET n) x.toNat →
    (s.synState n ≠ syRun → exec (.synJump a n x e) s = .next s) ∧
    (s.synState n = syRun → s.flag (F.SYN_JUMP_STAT_PENDING n) = false →
      exec (.synJump a n x e) s = .next (t.setSyn n { t.syn n with jumpAt := some (s.dclk + 1) })) ∧
    (s.synState n = syRun → s.flag (F.SYN_JUMP_STAT_PENDING n) = true → ∃ u, exec (.synJump a n x e) s = .next u ∧
      u.fld (F.SYN_JUMP_STAT_PEND_TARGET n) = x.toNat ∧ u.flag (F.SYN_JUMP_STAT_PENDING n) = true ∧
      u.reg (R.SYN_JUMP_REPL n) = (s.count (R.SYN_JUMP_REPL n)).reg (R.SYN_JUMP_REPL n))) ∧
  (∀ (s : State) (n : Fin 16) (k : EccCheck), s.synState n ≠ syRun → s.synState n ≠ syStopping →
    exec (.synSampleBoundary n k) s = .next s ∧ exec (.synDrvEdge n) s = .next s) ∧
  (∀ (s t u : State) (n : Fin 16) (k : EccCheck) (a : Nat), t = s.synFlush n → (t.synState n = syRun ∨ t.synState n = syStopping) →
    a = (t.syn n).acc + t.synSdiv n * (t.syn n).ftw →
    u = (t.setSyn n { t.syn n with
        acc := a % 2 ^ 48, wraps := (t.syn n).wraps + a / 2 ^ 48, time := (t.syn n).time + 500 * t.synSdiv n
        crossed := 0 }).setReg64 (R.SYN_ACC_LO n) (R.SYN_ACC_HI n) (BitVec.ofNat 64 (a % 2 ^ 48)) →
    exec (.synSampleBoundary n k) s = .next (u.synBoundary n k)) ∧
  (∀ (s : State) (n : Fin 16), s.synState n = syRun → s.synCrossings n ≤ (s.syn n).crossed →
    exec (.synDrvEdge n) s = .next s) ∧
  (∀ (s t : State) (n : Fin 16) (b : Nat), s.synState n = syRun → (s.syn n).crossed < s.synCrossings n →
    b = s.synTheta n / 2 ^ 47 + 1 + (s.syn n).crossed →
    t = s.setSyn n { s.syn n with crossed := (s.syn n).crossed + 1 } →
    exec (.synDrvEdge n) s = .next (t.synEdge n
      ((s.syn n).time + (2 * 500 * (b * 2 ^ 47 - s.synTheta n) + (s.syn n).ftw) / (2 * (s.syn n).ftw)) (b % 2 == 0))) ∧
  (∀ (s : State) (n : Fin 16) (k : EccCheck), (s.synState n ≠ syArmed ∨ s.synStartAt n = none) →
    exec (.synStartInstant n k) s = .next s) ∧
  (∀ (s b d e : State) (n : Fin 16) (k : EccCheck) (z : Nat), s.synState n = syArmed → s.synStartAt n = some z →
    b = ((s.setSyn n { Syn.init with time := z }).setReg64 (R.SYN_ACC_LO n) (R.SYN_ACC_HI n) 0).setReg64 (R.SYN_SAMPLES_LO n)
      (R.SYN_SAMPLES_HI n) 0 →
    d = (((b.synCommit n).setSynState n syRun).setFlag (F.SYN_JUMP_STAT_PENDING n) false).event (P.SYN n) E.SYN_STARTED →
    e = State.enterChain 256 d n (d.fld (F.SYN_CFG_FIRST_SEG n)) →
    (e.synState n = syRun → exec (.synStartInstant n k) s = .next (e.synSample n k true)) ∧
    (e.synState n ≠ syRun → exec (.synStartInstant n k) s = .next e))

/-- A core that runs and is awake executes the instruction that it fetches, as its decoding says; a fetch that fails and a word that
decodes to none raise their exceptions. An exception saves pc and mode and goes to mtvec in machine mode; an interrupt is taken where it
is pending and enabled, an NMI at its own address. A window access answers its value or its exception. FENCE.I drops the fetched lines,
a cache-block instruction of user mode needs menvcfg. A core that does not run, or waits, does nothing. -/
def Obligations.HartExecution : Prop :=
  (∀ (s : State) (h : Fin 8) (e : HartEnv) (b : Bool) (z : Fin 4) (o : BitVec 26) (v : BitVec 64) (r : Fin 32),
    (s.runs h = false ∨ ((s.hart h).wfi = true ∧ s.wakes h = false)) →
    exec (.hartInstruction h e) s = .next s ∧ exec (.hartWindowAccess h b z o v) s = .next s ∧ exec (.fenceI h) s = .next s ∧
    exec (.cboClean h r) s = .next s ∧ exec (.cboFlush h r) s = .next s ∧ exec (.cboInval h r) s = .next s) ∧
  (∀ (s t u : State) (h : Fin 8) (e : HartEnv), s.runs h = true → ((s.hart h).wfi = false ∨ s.wakes h = true) →
    t = s.setHart h { s.hart h with wfi := false } → e.victims = [] → e.chk = .clean →
    (t.hartFetch h e.refetch .clean = (none, u) → exec (.hartInstruction h e) s = .next (u.trapFree h exFetch)) ∧
    (∀ v, t.hartFetch h e.refetch .clean = (some v, u) →
      (∀ i, decodeRv false v = some i → exec (.hartInstruction h e) s = .next (u.runRv (.hart h e) (rvLen v) i)) ∧
      (decodeRv false v = none → exec (.hartInstruction h e) s = .next (u.trapFree h exIllegal)))) ∧
  (∀ (s : State) (h : Fin 8) (e : HartEnv) (x : Hart), x = s.hart h →
    (s.runRv (.hart h e) 4 .ecall).hart h = { x with
      pc := x.mtvec &&& ~~~3, machine := true, mstatus := x.trapStatus, mepc := x.pc
      mcause := if x.machine then 11 else 8, mtval := 0, wfi := false } ∧
    (∀ imm, s.runRv (.hart h e) 4 (.lui 0 imm) = s.retire h 4) ∧
    (∀ op rd r1 imm, rd ≠ 0 → s.standing h = true → (s.runRv (.hart h e) 4 (.alui false op rd r1 imm)).xr h rd =
      aluRun false op (s.xr h r1) imm) ∧
    (∀ f r1 r2 off, branchTaken f (s.xr h r1) (s.xr h r2) = true → s.standing h = true →
      ((s.runRv (.hart h e) 4 (.branch f r1 r2 off)).hart h).pc = x.pc + off) ∧
    (x.machine = false → s.runRv (.hart h e) 4 .mret = s.trapFree h exIllegal) ∧
    (∀ c u rd r1 off z sg, s.hartLoad h e.chk z (s.dataAddr h r1 off) = (.error c, u) →
      s.runRv (.hart h e) 4 (.load rd r1 off z sg) = u.trapFree h c)) ∧
  (∀ (s t : State) (h : Fin 8) (z : Fin 4) (o : BitVec 26) (v : BitVec 64), s.runs h = true →
    ((s.hart h).wfi = false ∨ s.wakes h = true) → t = s.setHart h { s.hart h with wfi := false } →
    (∀ u w, t.hartLoad h .clean z (0x40000000 + o.toNat) = (.ok w, u) →
      exec (.hartWindowAccess h false z o v) s = .next (u.answer w)) ∧
    (∀ u c, t.hartLoad h .clean z (0x40000000 + o.toNat) = (.error c, u) →
      exec (.hartWindowAccess h false z o v) s = .next (u.trapFree h c)) ∧
    (∀ u, t.hartStore h .clean z (0x40000000 + o.toNat) v = (none, u) →
      exec (.hartWindowAccess h true z o v) s = .next u) ∧
    (∀ u c, t.hartStore h .clean z (0x40000000 + o.toNat) v = (some c, u) →
      exec (.hartWindowAccess h true z o v) s = .next (u.trapFree h c)) ∧
    (t.standing h = true → ∃ u, exec (.fenceI h) s = .next u ∧ (u.hart h).l1i = [] ∧ (u.hart h).pc = (s.hart h).pc + 4)) ∧
  (∀ (s t u : State) (h : Fin 8) (r : Fin 32), s.runs h = true → ((s.hart h).wfi = false ∨ s.wakes h = true) →
    t = s.setHart h { s.hart h with wfi := false } →
    ((t.hart h).machine = true ∨ (t.hart h).menvcfg.getLsbD 6 = true →
      (t.hartCbo h .clean (t.xr h r).toNat = (none, u) → exec (.cboClean h r) s = .next (u.retire h 4)) ∧
      (t.hartCbo h .flush (t.xr h r).toNat = (none, u) → exec (.cboFlush h r) s = .next (u.retire h 4)) ∧
      (∀ c, t.hartCbo h .clean (t.xr h r).toNat = (some c, u) → exec (.cboClean h r) s = .next (u.trapFree h c))) ∧
    ((t.hart h).machine = true → t.hartCbo h .inval (t.xr h r).toNat = (none, u) →
      exec (.cboInval h r) s = .next (u.retire h 4)) ∧
    ((t.hart h).machine = false → (t.hart h).menvcfg = 0 →
      exec (.cboClean h r) s = .next (t.trapFree h exIllegal) ∧ exec (.cboFlush h r) s = .next (t.trapFree h exIllegal) ∧
      exec (.cboInval h r) s = .next (t.trapFree h exIllegal))) ∧
  (∀ (s : State) (h : Fin 8) (x : Hart), x = s.hart h → s.runs h = true →
    (x.nmi = true → ∃ t, exec (.hartNmi h) s = .next t ∧ t.hart h = { x with
      pc := s.hartNmi h, machine := true, mstatus := (x.mstatus &&& ~~~0x1808) ||| (if x.machine then 0x1800 else 0)
      mepc := x.pc, mcause := 0, nmi := false, wfi := false } ∧ s.regsButFor t [R.xx_BLK_COUNT (P.HART h)]) ∧
    (x.nmi = false → exec (.hartNmi h) s = .next s) ∧
    (∀ i, s.nextInterrupt h = some i → bitsOf x.mtvec.toNat 1 0 = 0 → ∃ t, exec (.hartInterrupt h) s = .next t ∧
      t.hart h = { x with
        pc := x.mtvec &&& ~~~3, machine := true, mstatus := x.trapStatus, mepc := x.pc
        mcause := 0x8000000000000000 + BitVec.ofNat 64 i, mtval := 0, wfi := false } ∧
      s.regsButFor t [R.xx_BLK_COUNT (P.HART h)]) ∧
    (s.nextInterrupt h = none → exec (.hartInterrupt h) s = .next s)) ∧
  (∀ (s : State) (h : Fin 8), s.runs h = false → exec (.hartNmi h) s = .next s ∧ exec (.hartInterrupt h) s = .next s) ∧
  (∀ (s : State) (f : BitVec 64) (k : EccCheck), s.runs 8 = false →
    exec (.mgmtInstruction f k) s = .next s ∧ exec .mgmtInterrupt s = .next s) ∧
  (∀ (s t u : State) (f : BitVec 64) (k : EccCheck), s.runs 8 = true → (s.hart 8).wfi = false →
    t = s.setHart 8 { s.hart 8 with wfi := false } →
    (t.mgmtFetch k = (none, u) → exec (.mgmtInstruction f k) s = .next (u.trapFree 8 exFetch)) ∧
    (∀ v, t.mgmtFetch k = (some v, u) → exec (.mgmtInstruction f k) s = .next (u.runWord (.mgmt f k) v))) ∧
  (∀ s : State, s.runs 8 = true → (s.hart 8).nmi = false →
    (s.nextInterrupt 8 = none → exec .mgmtInterrupt s = .next s) ∧
    (∀ i, s.nextInterrupt 8 = some i → exec .mgmtInterrupt s = .next (s.interrupt 8 i)))

/-- A port in DOWN that sees TS1 aligns; a frequency beyond the limit, no usable lane and the training limit fail the training. A tap
request is applied and answered by the nearest taps; equalisation ends on a lane by EQD in one direction and by the receiver's choice in
the other. EIOS and FTS mark the partner's transmit direction, TSX is stamped or answered. Loopback is entered while OFFLINE, asked of
the partner, or refused. QUAR and SLEEP take a port down without a fault. Out of its state a port ignores an ordered set. -/
def Obligations.FabricTraining : Prop :=
  (∀ (s : State) (f : Fin 6) (l n : Fin 4) (a b : Bool) (p : BitVec 4) (x y : Byte) (m : Option (Fin 9 × Fin 17)),
    s.lanesLive f = false →
    exec (.osTs1 f l n a b) s = .next s ∧ exec (.osTs2 f l n p) s = .next s ∧ exec (.osEqr f l x y) s = .next s ∧
    exec (.osEqa f l x y m) s = .next s ∧ exec (.osEqd f l) s = .next s ∧ exec (.osQuar f) s = .next s ∧
    exec (.osSleep f) s = .next s ∧ exec (.ts1Beacon f) s = .next s) ∧
  (∀ (s t : State) (f : Fin 6) (l n : Fin 4) (b : Bool), s.lanesLive f = true → s.fpState f = fpDown →
    t = ((s.setFpState f fpAlign).sendTs f 0x11 0).alignSeen f l n →
    exec (.osTs1 f l n b true) s = .next (t.trainFails f dcFreq) ∧ exec (.osTs1 f l n false false) s = .next t) ∧
  (∀ (s : State) (f : Fin 6), s.lanesLive f = true →
    (s.fpState f = fpDown → exec (.ts1Beacon f) s = .next (s.sendTs f 0x11 0)) ∧
    (s.fpState f ≠ fpDown → exec (.ts1Beacon f) s = .next s)) ∧
  (∀ (s t : State) (f : Fin 6) (l n : Fin 4) (p : BitVec 4) (u : Nat), s.lanesLive f = true →
    (s.fpState f ≠ fpAlign → exec (.osTs2 f l n p) s = .next s) ∧
    (s.fpState f = fpAlign → t = s.alignSeen f l n →
      u = usedLanes (t.fld (F.FP_CFG_LANES_EN f) &&& (t.fport f).locked &&& p.toNat &&& (15 - (t.fport f).avoid)) →
      (u = 0 → exec (.osTs2 f l n p) s = .next (t.trainFails f dcNoLane)) ∧
      (∀ w, u ≠ 0 → w = (t.setFld (F.FP_STAT_LANES f) u).setFpState f fpEq →
        exec (.osTs2 f l n p) s = .next (((List.range 4).filter (fun l => u.testBit l)).foldl (fun s l => s.eqFirst f l)
          (w.setFport f { w.fport f with eqSent := [], eqRx := 0, eqTx := 0 }))))) ∧
  (∀ (s : State) (f : Fin 6) (l : Fin 4) (x y : Byte), s.lanesLive f = true → s.fpState f = fpEq →
    exec (.osEqr f l x y) s = .next (((s.setFld (F.FP_EQ_STAT_PRE f l) (min x.toNat 8)).setFld (F.FP_EQ_STAT_POST f l)
      (min y.toNat 16)).put f (.set l 0x14 (min x.toNat 8) (min y.toNat 16))) ∧
    exec (.osEqd f l) s = .next (((s.setFport f { s.fport f with eqTx := (s.fport f).eqTx ||| 2 ^ l.val }).setFlag
      (F.FP_EQ_STAT_DONE f l) true).eqCheck f) ∧
    (∀ m, (s.fport f).eqRx.testBit l = true → exec (.osEqa f l x y m) s = .next s) ∧
    ((s.fport f).eqRx.testBit l = false → exec (.osEqa f l x y none) s = .next
      (((s.setFport f { s.fport f with eqRx := (s.fport f).eqRx ||| 2 ^ l.val }).put f (.set l 0x15 0 0)).eqCheck f)) ∧
    (∀ a b, (s.fport f).eqRx.testBit l = false → s.flag (F.FP_EQ_CFG_FIXED f) = false → sget 0 (s.fport f).eqSent l < 64 →
      exec (.osEqa f l x y (some (a, b))) s = .next ((s.setFport f { s.fport f with
        eqSent := sset 0 (s.fport f).eqSent l (sget 0 (s.fport f).eqSent l + 1) }).put f (.set l 0x13 a b)))) ∧
  (∀ (s : State) (f : Fin 6) (n : Byte),
    (s.linkUp f = true → exec (.osEios f) s = .next (s.setFport f { s.fport f with rxIdle := true, exiting := false })) ∧
    (s.linkUp f = false → exec (.osEios f) s = .next s ∧ exec (.osFts f) s = .next s) ∧
    (s.linkUp f = true → (s.fport f).rxIdle = true → exec (.osFts f) s =
      .next (s.setFport f { s.fport f with exiting := true })) ∧
    (s.wordsFlow f = false → exec (.osTsx f n) s = .next s) ∧
    (s.wordsFlow f = true → sget none s.time.exch f = none → exec (.osTsx f n) s =
      .next ((s.put f (.set 0 0x18 n.toNat 0)).sendLocal f
        (.tsync s.now s.now))) ∧
    (∀ d c, s.wordsFlow f = true → sget none s.time.exch f = some ⟨d, c, none⟩ → (s.fport f).tsx = n.toNat →
      exec (.osTsx f n) s =
        .next (s.setTime { s.time with exch := sset none s.time.exch f (some ⟨d, c, some s.now⟩) }))) ∧
  (∀ (s : State) (f : Fin 6),
    ((s.fpState f = fpAlign ∨ s.fpState f = fpEq ∨ s.fpState f = fpConfig) →
      exec (.trainLimitExpire f) s = .next (s.trainFails f dcTimeout)) ∧
    (s.fpState f = fpActive → exec (.trainLimitExpire f) s = .next s) ∧
    ((s.fport f).failed = true → s.trainFails f dcTimeout = (s.count (R.FP_TRAIN_FAILS f)).portLeave f fpDown dcTimeout)) ∧
  (∀ (s : State) (a : Agent) (f : Fin 6), s.admits a .fp (P.FP f) = true →
    ((s.fpState f = fpDisabled ∨ s.fpState f = fpLoopback) → exec (.fpRetrain a f) s = .next s) ∧
    (s.fpState f ≠ fpDisabled → s.fpState f ≠ fpLoopback → exec (.fpRetrain a f) s = .next (s.portLeave f fpDown dcLocal))) ∧
  (∀ (s : State) (f : Fin 6),
    ((s.fpState f = fpActive ∨ s.fpState f = fpConfig) → s.lanesLive f = true →
      exec (.osQuar f) s = .next ((s.portLeave f fpDown dcPeerQuar).event (P.FP f) E.FP_PEER_QUAR) ∧
      exec (.osSleep f) s = .next ((s.portLeave f fpDown dcPeerSleep).event (P.FP f) E.FP_PEER_SLEEP)) ∧
    (s.fpState f ≠ fpActive → exec (.electricalIdleEnter f) s = .next s) ∧
    (s.fpState f = fpActive → s.fld (F.FP_CFG_IDLE_US f) ≠ 0 → (s.fport f).queue = [] → (s.fport f).detq = [] →
      s.fab.groups = [] → exec (.electricalIdleEnter f) s = .next ((s.putSet f 0x16 0 0).setFpState f fpIdle)) ∧
    ((s.linkUp f = false ∨ (s.fport f).exiting = false) → exec (.idleExitTimeout f) s = .next s) ∧
    (s.linkUp f = true → (s.fport f).exiting = true → exec (.idleExitTimeout f) s = .next (s.lasting f 0 0 false))) ∧
  (∀ (s : State) (a : Agent) (f : Fin 6) (v : Word), s.admits a .fp (P.FP f) = true →
    (v.toNat % 4 ≠ 0 → s.flag (F.FP_CFG_OFFLINE f) = false →
      exec (.fpLbWrite a f v) s = .next (s.reject (P.FP f) (R.FP_LB f) .state)) ∧
    ((v.toNat % 4 = 1 ∨ v.toNat % 4 = 2) → s.flag (F.FP_CFG_OFFLINE f) = true → exec (.fpLbWrite a f v) s =
      .next (((s.setFlag (F.FP_LB_PRBS_EN f) (v.getLsbD 9)).setFld (F.FP_LB_MODE f) (v.toNat % 4)).setFpState f fpLoopback))) ∧
  (∀ (s : State) (f : Fin 6),
    ((s.fport f).lbk = true → exec (.osLbk f true) s = .next (s.setFport f { s.fport f with lbk := false }) ∧
      exec (.osLbk f false) s = .next s ∧
      exec (.feLbTimeout f) s = .next (((s.setFport f { s.fport f with lbk := false }).setFlag (F.FP_LB_FE_REFUSED f) true).event
        (P.FP f) E.FP_FE_REFUSED)) ∧
    ((s.fport f).lbk = false → exec (.feLbTimeout f) s = .next s) ∧
    ((s.fport f).lbk = false → s.linkUp f = true → s.flag (F.FP_CFG_FE_LB_OK f) = true →
      exec (.osLbk f true) s = .next ((s.portLeave f fpLoopback 0).putSet f 0x19 1 0)))

/-- Link control words act where link words flow: ACK takes the packets covered out of the replay buffer, CREDIT adds credits up to 16,
NAK and the replay timeout resend, and a packet resent twice is lasting. A bad packet counts its lanes' violations and fails an attempt;
the first failed attempt is answered with one NAK, a second one is lasting. A lasting failure degrades a wide link of revision 1.1 whose
attempts name one lane, and takes every other link down. -/
def Obligations.FabricLinkLayer : Prop :=
  (∀ (s : State) (f : Fin 6) (q : BitVec 12) (m : BitVec 4) (b : Bool) (c : Byte), s.wordsFlow f = false →
    exec (.lcwAck f q) s = .next s ∧ exec (.lcwNak f q m) s = .next s ∧ exec (.lcwCredit f b c) s = .next s ∧
    exec (.linkIdle f) s = .next s ∧ exec (.badPacket f q m) s = .next s ∧ exec (.linkReplayTimeout f) s = .next s ∧
    exec (.burstTimeout f) s = .next s) ∧
  (∀ (s t : State) (f : Fin 6) (q : BitVec 12) (m : BitVec 4) (c : Byte), s.wordsFlow f = true → t = s.wordSeen f →
    exec (.linkIdle f) s = .next t ∧
    exec (.lcwAck f q) s = .next ((t.setFport f { t.fport f with
      replay := (s.fport f).replay.filter (fun x => decide (2048 ≤ (q.toNat + 4096 - x.1) % 4096)) }).pump f
        (s.fport f).queue.length) ∧
    exec (.lcwCredit f true c) s = .next ((t.setFport f { t.fport f with page := min 16 ((s.fport f).page + c.toNat) }).pump f
      (s.fport f).queue.length) ∧
    exec (.lcwCredit f false c) s = .next ((t.setFport f { t.fport f with ctl := min 16 ((s.fport f).ctl + c.toNat) }).pump f
      (s.fport f).queue.length) ∧
    ((∀ x ∈ (s.fport f).replay, x.1 = q.toNat → x.2.1 = false) → exec (.lcwNak f q m) s =
      .next (((s.fport f).replay.filter (fun x => !x.2.1)).foldl (fun s x => s.put f (.packet x.1 x.2.2)) (t.setFport f
        { t.fport f with replay := (s.fport f).replay.map (fun x => (x.1, true, x.2.2)), txMask := m.toNat }))) ∧
    ((∃ x ∈ (s.fport f).replay, x.1 = q.toNat ∧ x.2.1 = true) →
      exec (.lcwNak f q m) s = .next (t.lasting f (s.fport f).txMask m.toNat false))) ∧
  (∀ (s : State) (f : Fin 6), s.wordsFlow f = true →
    ((s.fport f).replay = [] → exec (.linkReplayTimeout f) s = .next s) ∧
    (∀ x l, (s.fport f).replay = x :: l → x.2.1 = true →
      exec (.linkReplayTimeout f) s = .next (s.lasting f (s.fport f).txMask 0 false))) ∧
  (∀ (s t : State) (f : Fin 6) (q : BitVec 12) (m : BitVec 4), s.wordsFlow f = true → (s.fport f).off = false →
    t = (s.wordSeen f).countViolations f m.toNat →
    ((s.fport f).naked = true → q.toNat ≠ (s.fport f).expect → exec (.badPacket f q m) s = .next t) ∧
    ((s.fport f).tries = 0 → q.toNat = (s.fport f).expect → exec (.badPacket f q m) s =
      .next ((t.put f (.control 2 (s.fport f).expect m.toNat)).setFport f
        { t.fport f with tries := 1, naked := true, mask := m.toNat, injected := false })) ∧
    ((s.fport f).tries ≠ 0 → q.toNat = (s.fport f).expect → exec (.badPacket f q m) s =
      .next ((t.put f (.control 2 (s.fport f).expect m.toNat)).lasting f (s.fport f).mask m.toNat (s.fport f).injected)) ∧
    ((s.fport f).tries = 0 → exec (.burstTimeout f) s = .next ((s.put f (.control 2 (s.fport f).expect 0)).setFport f
      { s.fport f with tries := 1, naked := true, mask := 0, injected := false }))) ∧
  (∀ (s : State) (f : Fin 6) (a b : Nat) (j : Bool), (s.fld (F.FP_STAT_REV f) = 0 ∨ s.width f ≤ 1 ∨ a ≠ b) →
    s.lasting f a b j = (s.faultInj (P.FP f) X.FP_LINK_FAIL j).portLeave f fpDown dcLinkFail)

/-- A packet that is expected is accepted: counted, acknowledged, its credit returned, and then it acts; one behind the expected is a
stale copy. LINKINFO, ROUTE and JOIN set what the port knows of its neighbour, and the network view follows. ASSIGN grants or collects
addresses, TSYNC completes an exchange. A unicast packet for this part acts, one for another goes on; register requests are answered,
responses end the message outstanding, page requests are served and page packets collected. The election settles into ASSIGN, and
collection ends with the grants. -/
def Obligations.FabricPackets : Prop :=
  (∀ (s t : State) (f : Fin 6) (q : BitVec 12), s.receives f q.toNat = true → t = s.accepted f q.toNat false →
    (∀ i : LinkInfo, ∃ u, exec (.pktLinkinfo f q i) s = .next u ∧ u = ((((((t.setFport f { t.fport f with info := some i }).setReg64
      (R.FP_PEER_ID_LO f) (R.FP_PEER_ID_HI f) i.uid).setReg (R.FP_PEER_ADDR f) (match i.addr with
        | some a => BitVec.ofNat 32 (2 ^ 31 + a.toNat)
        | none => 0)).setFld (F.FP_STAT_PEER_PORT f) i.port.val).configCheck f).fabUpdate)) ∧
    (∀ r b v u, u = (t.setFport f { t.fport f with vec := v, declRoot := r, declTree := b }).fabUpdate →
      (u.treeLink f = t.treeLink f → exec (.pktRoute f q r b v) s = .next u) ∧
      (u.treeLink f ≠ t.treeLink f → exec (.pktRoute f q r b v) s = .next u.sendRoutes.sendJoins)) ∧
    (∀ l, exec (.pktJoin f q l) s = .next (t.setFport f { t.fport f with joins := l }).fabUpdate) ∧
    (∀ a b, (∀ d c e, sget none t.time.exch f ≠ some ⟨d, c, some e⟩) → exec (.pktTsync f q a b) s = .next t) ∧
    (∀ a b d c e u, sget none t.time.exch f = some ⟨d, c, some e⟩ →
      u = (t.setTime { t.time with exch := sset none t.time.exch f none }).setDelay f (exchangeDelay d a b e) →
      exec (.pktTsync f q a b) s =
        .next (((u.setFport f { u.fport f with measured := true }).exchangeDone f d a b e c).configCheck f).fabUpdate) ∧
    (∀ u a, exec (.pktAssign f q (.grant u a)) s = .next (t.passGrant u.toNat (a.map (·.toNat)))) ∧
    (∀ u a b r x, x = t.fabUpd (fun z => { z with asked := (u.toNat, f.val) :: z.asked.filter (fun x => x.1 != u.toNat) }) →
      x.fab.rootPort = some r →
      exec (.pktAssign f q (.request u a b)) s = .next (x.sendLocal r (.assign (.request u a b))))) ∧
  (∀ (s t u : State) (f : Fin 6) (q : BitVec 12) (h : PktHead), s.receives f q.toNat = true → h.mc = false →
    t = s.accepted f q.toNat false → u = s.accepted f q.toNat true →
    (t.hasAddr = true → h.dst.toNat = t.fabAddr →
      (∀ r x z, t.peerRequest h.src r = (x, z) → exec (.pktRreq f q h r) s = .next (z.sendTo h.src.toNat (.rrsp x))) ∧
      (∀ r : RegRsp, t.fab.rm = none → exec (.pktRrsp f q h r) s = .next t) ∧
      (∀ (r : RegRsp) o, t.fab.rm = some o → o.tag = r.tag.toNat → o.dst = h.src.toNat → o.write = true →
        exec (.pktRrsp f q h r) s = .next (t.rmEnd r.result.toNat r.reason.toNat r.index.toNat)) ∧
      (∀ l o, t.fab.rm = some o → o.dst = l.toNat → exec (.pktUnreach f q h l) s = .next (t.rmEnd rmUnreach 0 0)) ∧
      (∀ l, t.fab.rm = none → exec (.pktUnreach f q h l) s = .next t)) ∧
    (t.hasAddr = true → h.dst.toNat ≠ t.fabAddr → ∀ r,
      exec (.pktRreq f q h r) s = .next (t.forward ⟨h, .rreq r⟩)) ∧
    (t.hasAddr = false → ∀ r, exec (.pktRreq f q h r) s = .next t) ∧
    (u.hasAddr = true → h.dst.toNat = u.fabAddr →
      (∀ p g b, exec (.pktPreq f q h p g b) s = .next (u.serve h.src.toNat p.toNat g.toNat b)) ∧
      (∀ p g b, exec (.pktPbreq f q h p g b 0) s = .next (u.serve h.src.toNat p.toNat g.toNat b)) ∧
      (∀ p i b d, exec (.pktPdata f q h p i b d) s = .next (u.pageData? h.src.toNat p.toNat i false d)) ∧
      (∀ p i b w, exec (.pktPrep f q h p i b w) s = .next (u.pageData? h.src.toNat p.toNat i false (expand w))) ∧
      (∀ p c, u.pager.fetches = [] → exec (.pktPnak f q h p c) s = .next u) ∧
      (∀ p c v r j, u.pager.fetches = [(v, some r, j)] → u.pageFrom v h.src.toNat p.toNat = true →
        exec (.pktPnak f q h p c) s = .next (u.fetchArrive v r true j [])))) ∧
  (∀ (s : State) (f : Fin 6) (q : BitVec 12) (l : List JoinEntry), s.wordsFlow f = true → (s.fport f).off = false →
    s.bit (R.xx_FLT_INJ (P.FP f)) X.FP_LINK_FAIL = false → s.bit (R.xx_FLT_INJ (P.FP f)) X.FP_LINK_RETRY = false →
    2048 ≤ (q.toNat + 4096 - (s.fport f).expect) % 4096 →
    exec (.pktJoin f q l) s = .next ((s.wordSeen f).count (R.FP_STALE f))) ∧
  (∀ (s : State) (f : Fin 6) (q : BitVec 12) (l : List JoinEntry), s.wordsFlow f = false → exec (.pktJoin f q l) s = .next s) ∧
  (∀ s : State, s.fab.active = [] → exec .pageDeliverySend s = .next s) ∧
  (∀ (s : State) (d : Delivery) (l : List Delivery) (a : Nat), s.fab.active = d :: l →
    (s.pageState d.spage ≠ pgHome → exec .pageDeliverySend s = .next (s.fabUpd (fun b => ({ b with active := l }).promote))) ∧
    (s.pageState d.spage = pgHome → d.mc = false → s.patAddr (d.spage * 2 ^ 21 + d.index * 512) = some a → d.index < 4095 →
      exec .pageDeliverySend s = .next ((s.sendTo d.dst (.pdata (BitVec.ofNat 21 d.spage)
        ⟨d.index % 4096, Nat.mod_lt _ (by decide)⟩ false (s.memBytes a 512))).fabUpd
          (fun b => { b with active := l ++ [{ d with index := d.index + 1 }] })))) ∧
  (∀ s : State, s.fld F.FAB_STAT_NSTATE ≠ nsElect → exec .electionSettle s = .next s) ∧
  (∀ (s t : State), s.fld F.FAB_STAT_NSTATE = nsElect → t = s.setFld F.FAB_STAT_NSTATE nsAssign → s.fab.rootPort = none →
    exec .electionSettle s =
      .next (t.fabUpd (fun b => { b with collecting := true, requests := insertRequest t.ownRequest b.requests }))) ∧
  (∀ s : State, s.fab.collecting = false → exec .assignCollectEnd s = .next s) ∧
  (∀ (s : State) (g : List (Nat × Nat)), s.fab.collecting = true → g = grantAddrs s.fab.requests →
    exec .assignCollectEnd s = .next (s.fab.requests.foldl (fun s r =>
      s.passGrant r.1 ((g.find? (fun x => x.1 == r.1)).map Prod.snd))
      (s.fabUpd (fun b => { b with collecting := false, requests := [], granted := g }))))

/-- A register message of COUNT 0 is done at once, one without a route ends UNREACH, one outstanding ends by its answer or its timeout; a
busy unit rejects a second with STATE. A span slot is enabled on the conditions of R358, GO sends CSYNC with the lead, and at T a slot
in time starts its gang. A message of the deterministic class goes on along the tree and acts on a member: notices wait for their
release and are applied in priority order, FAULT first; COND is held; a trigger is raised at its time. Both copies lost are lasting. -/
def Obligations.FabricMessages : Prop :=
  (∀ (s : State) (a : Agent) (c : BitVec 5), s.admits a .fab P.FAB = true →
    (s.flag F.FAB_RM_STAT_BUSY = true → exec (.fabRmRead a c) s = .next (s.reject P.FAB R.FAB_RM_CMD .state) ∧
      exec (.fabRmWrite a c) s = .next (s.reject P.FAB R.FAB_RM_CMD .state)) ∧
    (s.flag F.FAB_RM_STAT_BUSY = false → c.toNat ≤ 16 → exec (.fabRmRead a c) s = .next (s.rmSend false c.toNat) ∧
      exec (.fabRmWrite a c) s = .next (s.rmSend true c.toNat)) ∧
    (s.flag F.FAB_RM_STAT_BUSY = false → 16 < c.toNat →
      exec (.fabRmRead a c) s = .next (s.reject P.FAB R.FAB_RM_CMD .range))) ∧
  (∀ (s : State) (b : Bool) (c : Nat), s.rmSend b 0 = s.rmEnd rmOk 0 0 ∧
    (0 < c → s.hasAddr = false → s.rmSend b c = (s.count R.FAB_UNREACH).rmEnd rmUnreach 0 0)) ∧
  (∀ s : State, (s.fab.rm = none → exec .fabRmTimeout s = .next s) ∧
    (s.fab.rm.isSome = true → exec .fabRmTimeout s = .next (s.rmEnd rmTimeout 0 0))) ∧
  (∀ (s t : State) (a : Agent) (k : Fin 16) (v : Word), s.admits a .fab P.FAB = true →
    (s.flag (F.FAB_SPAN_CFG_EN k) = true →
      exec (.fabSpanEnable a k v) s = .next (s.reject P.FAB (R.FAB_SPAN_CFG k) .state)) ∧
    (s.flag (F.FAB_SPAN_CFG_EN k) = false → s.spanOk k (v ||| 0x80000000) = false →
      exec (.fabSpanEnable a k v) s = .next (s.reject P.FAB (R.FAB_SPAN_CFG k) .state)) ∧
    (s.flag (F.FAB_SPAN_CFG_EN k) = false → s.spanOk k (v ||| 0x80000000) = true →
      t = s.setReg (R.FAB_SPAN_CFG k) ((v ||| 0x80000000) &&& 0xCF1FFF00) → exec (.fabSpanEnable a k v) s =
        .next ((t.setReg (R.FAB_SPAN_STAT k) (BitVec.ofNat 32 (2 ^ 28))).setSpan k Span.init).fabUpdate)) ∧
  (∀ (s t : State) (a : Agent) (k : Fin 16) (x : BitVec 64), s.admits a .fab P.FAB = true →
    ((s.flag (F.FAB_SPAN_CFG_LEADER k) = false ∨ s.flag (F.FAB_SPAN_CFG_EN k) = false ∨ s.spanHasArmed k = false) →
      exec (.fabSpanGo a k) s = .next (s.reject P.FAB (R.FAB_SPAN_GO k) .state)) ∧
    (s.flag (F.FAB_SPAN_CFG_EN k) = true → s.flag (F.FAB_SPAN_CFG_LEADER k) = true →
      s.fld (F.FAB_SPAN_STAT_STATE k) = spWait → s.spanHasArmed k = true →
      40 * (s.group (s.fld (F.FAB_SPAN_CFG_GRP k))).diam + 1000 ≤ s.fld (F.FAB_SPAN_SYNC_SYNC_LEAD_NS k) →
      x = s.now + nsTime (s.fld (F.FAB_SPAN_SYNC_SYNC_LEAD_NS k)) → t = s.detSend k dtCsync x 0 →
      exec (.fabSpanGo a k) s = .next ((t.setReg64 (R.FAB_SPAN_T_LO k) (R.FAB_SPAN_T_HI k) x).setSpan k
        { t.span k with sync := true, late := false }))) ∧
  (∀ (s t : State) (k : Fin 16) (n : Nat), n = s.fld (F.FAB_SPAN_CFG_SEQ k) → t = s.setSpan k { s.span k with sync := false } →
    ((s.span k).sync = false → exec (.csyncStart k) s = .next s) ∧
    ((s.span k).sync = true → s.flag (F.FAB_SPAN_CFG_EN k) = true →
      timeReached s.now (s.reg64 (R.FAB_SPAN_T_LO k) (R.FAB_SPAN_T_HI k)) = true →
      ((s.span k).late = true → exec (.csyncStart k) s = .next (t.syncMissed k 6)) ∧
      ((s.span k).late = false → t.startable n = false → exec (.csyncStart k) s = .next (t.syncMissed k 7)) ∧
      ((s.span k).late = false → t.fld (F.FAB_SPAN_STAT_STATE k) = spWait → t.spanHasArmed k = true → t.startable n = true →
        exec (.csyncStart k) s = .next ((((t.setFld (F.FAB_SPAN_STAT_STATE k) spRunning).setFld (F.FAB_SPAN_STAT_END k) 0).setSpan
          k Span.init).startGang n (2000 * s.dclk))))) ∧
  (∀ (s : State) (k : Fin 16) (n : Nat), n = s.fld (F.FAB_SPAN_CFG_SEQ k) →
    (s.fld (F.FAB_SPAN_STAT_STATE k) ≠ spRunning →
      exec (.condSend k) s = .next s ∧ exec (.spanNoticeApply k) s = .next s) ∧
    (s.fld (F.FAB_SPAN_STAT_STATE k) = spRunning → (s.seq n).sends = [] → exec (.condSend k) s = .next s) ∧
    (∀ c z x l, s.fld (F.FAB_SPAN_STAT_STATE k) = spRunning → (s.seq n).sends = (c, z, 0, x) :: l → exec (.condSend k) s =
      .next ((s.setSeq n { s.seq n with sends := l }).detSend k dtCond
        (BitVec.ofNat 64 ((s.passBits k n 0 x) * 2 ^ 32 + c % 2 ^ 32)) 0)) ∧
    (s.fld (F.FAB_SPAN_STAT_STATE k) = spRunning → (s.span k).notices = [] → exec (.spanNoticeApply k) s = .next s) ∧
    (∀ t, t = s.setSpan k { s.span k with notices := [] } → s.fld (F.FAB_SPAN_STAT_STATE k) = spRunning →
      ((s.span k).notice = some dtFault → exec (.spanNoticeApply k) s = .next (t.gangFault n 0xA)) ∧
      ((s.span k).notice = some dtPause → exec (.spanNoticeApply k) s = .next (t.setSeq n
        { t.seq n with sampled := (true, (t.seq n).sampled.2) })) ∧
      ((s.span k).notice = some dtStall → exec (.spanNoticeApply k) s = .next (t.setSeq n
        { t.seq n with late := some ((t.seq n).late.getD 3) })))) ∧
  (∀ (s : State) (f : Fin 6) (d : DetHead) (x : BitVec 64) (c : Word), s.linkUp f = false →
    exec (.csync f d x) s = .next s ∧ exec (.detCond f d x false) s = .next s ∧ exec (.detStall f d c) s = .next s ∧
    exec (.detPause f d c) s = .next s ∧ exec (.detResume f d c) s = .next s ∧ exec (.detAbort f d c) s = .next s ∧
    exec (.detFault f d c) s = .next s ∧ exec (.detSyncLate f d) s = .next s ∧ exec (.detTrig f d 0 x) s = .next s ∧
    exec (.detMessageLost f 0 0) s = .next s) ∧
  (∀ (s : State) (f : Fin 6) (d : DetHead) (x : BitVec 64) (c : Word) (y : Nat → BitVec 64 → Nat → State),
    s.hears f = true → d.second = false →
    y = (fun k b a => (s.wordSeen f).detForward (some f.val) ⟨d.grp.toNat, d.src.toNat, k, b, a⟩) →
    (s.group d.grp.toNat).member = true → s.hasAddr = true →
    exec (.csync f d x) s = .next (((y dtCsync x 0).slotsOf d.grp.toNat).foldl (fun s k => s.syncAt k x) (y dtCsync x 0)) ∧
    exec (.detStall f d c) s = .next (((y dtStall (c.setWidth 64) 0).runningSlots d.grp.toNat).foldl
      (fun s k => s.spanReceive k dtStall c.toNat) (y dtStall (c.setWidth 64) 0)) ∧
    exec (.detPause f d c) s = .next (((y dtPause (c.setWidth 64) 0).runningSlots d.grp.toNat).foldl
      (fun s k => s.spanReceive k dtPause c.toNat) (y dtPause (c.setWidth 64) 0)) ∧
    exec (.detResume f d c) s = .next (((y dtResume (c.setWidth 64) 0).runningSlots d.grp.toNat).foldl
      (fun s k => s.spanReceive k dtResume c.toNat) (y dtResume (c.setWidth 64) 0)) ∧
    exec (.detAbort f d c) s = .next (((y dtAbort (c.setWidth 64) 0).runningSlots d.grp.toNat).foldl
      (fun s k => s.spanReceive k dtAbort c.toNat) (y dtAbort (c.setWidth 64) 0)) ∧
    exec (.detFault f d c) s = .next (((y dtFault (c.setWidth 64) 0).runningSlots d.grp.toNat).foldl
      (fun s k => s.spanReceive k dtFault c.toNat) (y dtFault (c.setWidth 64) 0)) ∧
    exec (.detSyncLate f d) s = .next (y dtSyncLate 0 0) ∧
    exec (.detCond f d x true) s = .next (((y dtCond x 1).runningSlots d.grp.toNat).foldl (fun s k => s.setSpan k { s.span k with
      conds := (s.span k).conds ++ [(x.toNat % 2 ^ 32, x.toNat / 2 ^ 32, true)] }) (y dtCond x 1)) ∧
    (∀ k : Fin 8, timeReached (y dtTrig x k).now x = false → exec (.detTrig f d k x) s =
      .next ((y dtTrig x k).fabUpd (fun b => { b with trigs := b.trigs ++ [(k.val, x)] }))) ∧
    (∀ k : Fin 8, timeReached (y dtTrig x k).now x = true → (y dtTrig x k).now ≠ x → exec (.detTrig f d k x) s =
      .next (((y dtTrig x k).count R.FAB_TRIG_LATE).fabRaise k))) ∧
  (∀ (s : State) (f : Fin 6) (a b : BitVec 4), s.linkUp f = true → exec (.detMessageLost f a b) s =
    .next ((((s.wordSeen f).countViolations f a.toNat).countViolations f b.toNat).lasting f a.toNat b.toNat false)) ∧
  (∀ (s : State) (a : Agent) (b : Byte), s.admits a .fab P.FAB = true → exec (.fabTrigSend a b) s =
    .next (((List.range 8).filter (fun k => b.getLsbD k && s.flag (F.FAB_TRIG_CFG_EN k)
      && s.fld (F.FAB_TRIG_CFG_SRC k) == 0)).foldl State.fabTrigger s)) ∧
  (∀ (s : State) (k : Fin 8) (t : BitVec 64),
    (s.fab.trigs = [] → exec (.fabricTrigRaise k) s = .next s) ∧
    (s.fab.trigs = [(k.val, t)] → timeReached s.now t = true → exec (.fabricTrigRaise k) s =
      .next ((s.fabUpd (fun b => { b with trigs := [] })).fabRaise k)) ∧
    (s.fab.trigs = [(k.val, t)] → timeReached s.now t = false → exec (.fabricTrigRaise k) s = .next s))

/-- A link reset returns the link to detection in every mode but COLD; training that ends brings the data link up. Configuration requests
are retried until CFG_READY and then answered. A memory request in D3hot is aborted, one beyond its segment is aborted and reported, a
write within it reaches DRAM. A message that its mask held goes out at the unmasking. An offer agrees on the highest common version, and
is rejected while a queue pair is enabled or where its bounds are crossed. A completion that is not data ends its transfer with HOST_ERR.
A root-port command sets BUSY, its end clears it and gives RESULT; requests of the device behind the root port reach DRAM, its message
is counted, others are aborted. -/
def Obligations.HostLink : Prop :=
  (∀ s : State, (s.mode ≠ mCold → exec .hostLinkReset s = .next s.hostReset) ∧
    (s.mode = mCold → exec .hostLinkReset s = .next s)) ∧
  (∀ (s : State) (w : BitVec 4) (v : BitVec 3), s.flag F.HOST_STAT_DL_UP = true → exec (.hostLinkUp w v) s = .next s) ∧
  (∀ (s : State) (w : BitVec 4) (v : BitVec 3), s.responds .host = true → s.mode ≠ mBoot →
    s.flag F.HOST_STAT_DL_UP = false → 0 < w.toNat → w.toNat ≤ (if s.flag F.HOST_CFG_MODE then 4 else 8) → 0 < v.toNat →
    v.toNat ≤ 5 → exec (.hostLinkUp w v) s = .next
      (((((s.setFlag F.HOST_STAT_CFG_READY true).setFlag F.HOST_STAT_DL_UP true).setFld F.HOST_STAT_WIDTH w.toNat).setFld
        F.HOST_STAT_SPEED v.toNat).event P.HOST E.HOST_LINK_UP)) ∧
  (∀ (s : State) (q : CfgRequest), s.mode ≠ mCold → s.mode ≠ mDoze → s.mode ≠ mHibernate →
    s.flag F.HOST_STAT_CFG_READY = false → exec (.pcieConfigRequest q) s = .next (s.complete 2 [])) ∧
  (∀ (s : State) (e m d : Bool) (b : Word), s.mode ≠ mCold → s.mode ≠ mDoze → s.mode ≠ mHibernate →
    s.flag F.HOST_STAT_CFG_READY = true →
    exec (.pcieConfigRequest (.busMaster e)) s = .next ((s.setFlag F.HOST_STAT_BME e).complete 0 []) ∧
    exec (.pcieConfigRequest (.msix e m)) s =
      .next (((s.setFlag F.HOST_STAT_MSIX_EN e).setFlag F.HOST_STAT_MSIX_FMASK m).complete 0 []) ∧
    exec (.pcieConfigRequest (.power d)) s = .next ((s.dState d).complete 0 []) ∧
    exec (.pcieConfigRequest (.clearCe b)) s = .next ((s.setReg R.HOST_AER_CE (s.reg R.HOST_AER_CE &&& ~~~b)).complete 0 []) ∧
    exec (.pcieConfigRequest (.clearUe b)) s = .next ((s.setReg R.HOST_AER_UE (s.reg R.HOST_AER_UE &&& ~~~b)).complete 0 []) ∧
    exec (.pcieConfigRequest (.read .deviceId)) s =
      .next (s.complete 0 (leBytes 4 (BitVec.ofNat 32 (0x2568 * 65536 + Config.pciVendor.toNat)).toNat)) ∧
    exec (.pcieConfigRequest (.read .subsystem)) s = .next (s.complete 0 (leBytes 4 (s.reg R.HOST_SUBSYS).toNat)) ∧
    exec (.pcieConfigRequest (.read .aerUe)) s = .next (s.complete 0 (leBytes 4 (s.reg R.HOST_AER_UE).toNat))) ∧
  (∀ (s : State) (o : BitVec 36) (n : Fin 4097) (k : ReadCheck) (l : List Byte) (i : BitVec 12) (v : Word),
    (s.hostTakes = false → exec (.bar2Read o n k) s = .next s ∧ exec (.bar2Write o l false) s = .next s ∧
      exec (.msixTableWrite i v) s = .next s) ∧
    (s.hostTakes = true → s.fld F.HOST_STAT_DSTATE ≠ 0 → exec (.bar2Read o n k) s = .next (s.complete 1 []) ∧
      exec (.bar2Write o l false) s = .next s ∧ exec (.msixTableWrite i v) s = .next s)) ∧
  (∀ (s t : State) (o : BitVec 36) (n : Fin 4097) (k : ReadCheck) (l : List Byte), s.hostTakes = true →
    s.fld F.HOST_STAT_DSTATE = 0 → t = s.complete 0 [] →
    exec (.bar2Write o l true) s = .next (s.aerUc uePoison) ∧
    (o.toNat % 2 ^ 32 + n.val ≤ 2 ^ 32 → s.bar2Addr o.toNat n.val = none → exec (.bar2Read o n k) s =
      .next ((t.bar2Abort o.toNat).setHost { (t.bar2Abort o.toNat).host with cpl := 4 })) ∧
    (o.toNat % 2 ^ 32 + n.val ≤ 2 ^ 32 → exec (.bar2Read o n k) s = .next (t.bar2Read (o.toNat, n.val) k)) ∧
    (o.toNat % 2 ^ 32 + l.length ≤ 2 ^ 32 → s.bar2Addr o.toNat l.length = none → exec (.bar2Write o l false) s =
      .next (s.bar2Abort o.toNat)) ∧
    (∀ a u, o.toNat % 2 ^ 32 + l.length ≤ 2 ^ 32 → s.bar2Addr o.toNat l.length = some a →
      u = (s.count (R.xx_BLK_COUNT P.HOST)).srExit (s.dramPlace a).1 →
      (u.writeFails a l.length = false → exec (.bar2Write o l false) s = .next (u.setMem a l)) ∧
      (u.writeFails a l.length = true → exec (.bar2Write o l false) s = .next (u.writeFail .host)))) ∧
  (∀ (s t : State) (i : BitVec 12) (v : Word) (e : MsixEntry), s.hostTakes = true → s.fld F.HOST_STAT_DSTATE = 0 →
    e = s.msixEntry (i.toNat / 16) →
    t = { s with hic := { s.hic with msix := sset MsixEntry.init s.hic.msix (i.toNat / 16) (e.write (i.toNat / 4 % 4) v) } } →
    (e.masked = false → exec (.msixTableWrite i v) s = .next t) ∧
    (e.masked = true → t.msixReady (i.toNat / 16) = false → exec (.msixTableWrite i v) s = .next t) ∧
    (e.masked = true → t.msixReady (i.toNat / 16) = true → exec (.msixTableWrite i v) s = .next (t.msixIssue (i.toNat / 16)))) ∧
  (∀ (s : State) (a : Agent) (v : Word), s.admits a .hostp P.HOST = true →
    (s.hqAnyEnabled = true → exec (.hifOffer a v) s = .next (s.reject P.HOST R.HOST_HIF_OFFER .state)) ∧
    (s.hqAnyEnabled = false → v.toNat / 65536 < v.toNat % 65536 →
      exec (.hifOffer a v) s = .next (s.reject P.HOST R.HOST_HIF_OFFER .range)) ∧
    (∀ x, s.hqAnyEnabled = false → v.toNat % 65536 ≤ v.toNat / 65536 → hifAgree (v.toNat % 65536) (v.toNat / 65536) = some x →
      exec (.hifOffer a v) s = .next (((s.setReg R.HOST_HIF_OFFER v).setReg R.HOST_HIF_AGREED
        (BitVec.ofNat 32 (2 ^ 31 + x))).event P.HOST E.HOST_HIF)) ∧
    (s.hqAnyEnabled = false → v.toNat % 65536 ≤ v.toNat / 65536 → hifAgree (v.toNat % 65536) (v.toNat / 65536) = none →
      exec (.hifOffer a v) s = .next (((s.setReg R.HOST_HIF_OFFER v).setReg R.HOST_HIF_AGREED
        0x40000000).event P.HOST E.HOST_HIF))) ∧
  (∀ (s : State) (c : Fin 32) (l : List Byte), s.dmaActive c = true → (s.dmaSrc c).space = spHost →
    exec (.busMasterCompletion c (.data l)) s = .next (State.dmaRun c (l.length + 1) l none s) ∧
    exec (.busMasterCompletion c .timeout) s = .next ((s.aerUc ueTimeout).dmaEnd c dmaHostErr) ∧
    exec (.busMasterCompletion c .poisoned) s = .next ((s.aerUc uePoison).dmaEnd c dmaHostErr) ∧
    exec (.busMasterCompletion c .unsupported) s = .next (s.dmaEnd c dmaHostErr) ∧
    exec (.busMasterCompletion c .abort) s = .next (s.dmaEnd c dmaHostErr)) ∧
  (∀ (s : State) (c : Fin 32) (r : BusResult), s.dmaActive c = false → exec (.busMasterCompletion c r) s = .next s) ∧
  (∀ (s : State) (a : Agent) (b : BitVec 4) (y : Nat → State), s.admits a .hostp P.HOST = true →
    (drivesRp a = false → exec (.rpCfgRd a b) s = .next (s.reject P.HOST R.HOST_RP_CMD .agent) ∧
      exec (.rpRetrain a) s = .next (s.reject P.HOST R.HOST_RP_CTRL .agent)) ∧
    (drivesRp a = true → s.flag F.HOST_CFG_MODE = false →
      exec (.rpMemRd a b) s = .next (s.reject P.HOST R.HOST_RP_CMD .state) ∧
      exec (.rpRetrain a) s = .next (s.reject P.HOST R.HOST_RP_CTRL .state)) ∧
    (drivesRp a = true → s.flag F.HOST_RP_RES_BUSY = true →
      exec (.rpMemWr a b) s = .next (s.reject P.HOST R.HOST_RP_CMD .state)) ∧
    (drivesRp a = true → s.flag F.HOST_CFG_MODE = true → s.flag F.HOST_RP_RES_BUSY = false →
      y = (fun op => (s.setFlag F.HOST_RP_RES_BUSY true).setHost { s.host with rp := some op }) →
      exec (.rpCfgRd a b) s = .next (y 1) ∧ exec (.rpCfgWr a b) s = .next (y 2) ∧ exec (.rpMemRd a b) s = .next (y 3) ∧
      exec (.rpMemWr a b) s = .next (y 4)) ∧
    (drivesRp a = true → s.flag F.HOST_CFG_MODE = true → exec (.rpRetrain a) s =
      .next (s.setReg R.HOST_RP_CTRL ((s.reg R.HOST_RP_CTRL &&& 3) ||| 2)))) ∧
  (∀ (s t : State) (op : Nat) (r : BusResult) (l : List Byte), t = s.setHost { s.host with rp := none } →
    (s.host.rp = none → exec (.rpCmdDone r false) s = .next s) ∧
    (s.host.rp = some op →
      (op = 1 ∨ op = 3 → exec (.rpCmdDone (.data l) false) s =
        .next ((t.setReg R.HOST_RP_RES 0).setReg R.HOST_RP_RDATA (BitVec.ofNat 32 (leNat (l.take 4))))) ∧
      (op ≠ 1 → op ≠ 3 → exec (.rpCmdDone (.data l) false) s = .next (t.setReg R.HOST_RP_RES 0)) ∧
      exec (.rpCmdDone .unsupported false) s = .next (t.setReg R.HOST_RP_RES 0x10000000) ∧
      exec (.rpCmdDone .abort false) s = .next (t.setReg R.HOST_RP_RES 0x20000000) ∧
      exec (.rpCmdDone .timeout false) s = .next ((t.setReg R.HOST_RP_RES 0x30000000).fault P.HOST X.HOST_RP_UC) ∧
      exec (.rpCmdDone .poisoned false) s = .next ((t.setReg R.HOST_RP_RES 0x50000000).fault P.HOST X.HOST_RP_UC) ∧
      exec (.rpCmdDone .abort true) s = .next (t.setReg R.HOST_RP_RES 0x40000000))) ∧
  (∀ (s u : State) (a : BitVec 64) (n : Fin 4097) (l : List Byte), u = s.srExit (s.dramPlace a.toNat).1 →
    (s.rpUp = false → exec (.rpInboundRequest a (.read n)) s = .next s ∧ exec (.rpInboundRequest a (.write l)) s = .next s) ∧
    (s.rpUp = true → s.installed < a.toNat + n.val → exec (.rpInboundRequest a (.read n)) s = .next (s.complete 1 [])) ∧
    (s.rpUp = true → a.toNat + n.val ≤ s.installed → exec (.rpInboundRequest a (.read n)) s =
      .next (u.complete (if s.rangeDown a.toNat n.val then 5 else 0) (s.memBytes a.toNat n.val))) ∧
    (s.rpUp = true → a.toNat + l.length ≤ s.installed → u.writeFails a.toNat l.length = false →
      exec (.rpInboundRequest a (.write l)) s = .next (u.setMem a.toNat l)) ∧
    (s.rpUp = true → s.installed < a.toNat + l.length → a ≠ s.reg64 R.HOST_RP_MSI_ADDR_LO R.HOST_RP_MSI_ADDR_HI →
      exec (.rpInboundRequest a (.write l)) s = .next (s.complete 1 [])) ∧
    (s.rpUp = true → s.installed < a.toNat + l.length → a = s.reg64 R.HOST_RP_MSI_ADDR_LO R.HOST_RP_MSI_ADDR_HI →
      exec (.rpInboundRequest a (.write l)) s = .next (((s.setFld F.HOST_RP_MSI_COUNT
        (min 0xFFFF (s.fld F.HOST_RP_MSI_COUNT + 1))).setFld F.HOST_RP_MSI_DATA (leNat (l.take 2))).event P.HOST E.HOST_RP_MSI))) ∧
  (∀ (s : State) (w : BitVec 4) (v : BitVec 3),
    (s.flag F.HOST_CFG_MODE = false → ∀ b, exec (.rpLinkChange b w v) s = .next s) ∧
    (s.flag F.HOST_CFG_MODE = true → exec (.rpLinkChange true w v) s = .next (((s.setReg R.HOST_RP_STAT
      (BitVec.ofNat 32 (2 ^ 31 + w.toNat * 2 ^ 27 + v.toNat * 2 ^ 24))).setFlag F.HOST_RP_CTRL_RETRAIN false).event P.HOST
        E.HOST_RP_LINK)) ∧
    (s.flag F.HOST_CFG_MODE = true → exec (.rpLinkChange false w v) s = .next (((s.setReg R.HOST_RP_STAT
      0).setFlag F.HOST_RP_CTRL_RETRAIN false).event P.HOST E.HOST_RP_LINK)))

/-- The doorbells of a running queue store their index, and are rejected out of its state or range. A command is fetched when one waits,
none executes and a completion entry is free; a failed fetch posts FETCH_ERR and fails the queue. NOP ends OK, REG_WRITE and REG_READ do
their accesses as agent HOST_QUEUE and report, XFER programs the queue's DMA channel and ends with it, FW is placed in the firmware ring
and is completed by firmware. What is malformed ends BAD_FIELD, an unknown opcode BAD_OPCODE, and a fence waits for the commands with
firmware. The oldest completion is posted. A queue is enabled only from OFF under the conditions of R447, and a disable stops it. -/
def Obligations.HostQueues : Prop :=
  (∀ (s : State) (a : Agent) (q : Fin 16) (v : Word), s.admits a .hq P.HQ = true →
    (s.hqState q ≠ hqRun → exec (.sqTailDoorbell a q v) s = .next (s.reject P.HQ (R.HQ_SQ_TAIL q) .state) ∧
      exec (.cqHeadDoorbell a q v) s = .next (s.reject P.HQ (R.HQ_CQ_HEAD q) .state)) ∧
    (s.hqState q = hqRun →
      (v.toNat % 4096 < s.fld (F.HQ_Q_SIZE_SQ_SIZE q) → exec (.sqTailDoorbell a q v) s =
        .next (s.setReg (R.HQ_SQ_TAIL q) (v &&& 0xFFF))) ∧
      (s.fld (F.HQ_Q_SIZE_SQ_SIZE q) ≤ v.toNat % 4096 → exec (.sqTailDoorbell a q v) s =
        .next (s.reject P.HQ (R.HQ_SQ_TAIL q) .range)) ∧
      (v.toNat % 4096 < s.fld (F.HQ_Q_SIZE_CQ_SIZE q) → exec (.cqHeadDoorbell a q v) s =
        .next (s.setReg (R.HQ_CQ_HEAD q) (v &&& 0xFFF))) ∧
      (s.fld (F.HQ_Q_SIZE_CQ_SIZE q) ≤ v.toNat % 4096 → exec (.cqHeadDoorbell a q v) s =
        .next (s.reject P.HQ (R.HQ_CQ_HEAD q) .range)))) ∧
  (∀ (s : State) (q : Fin 16) (c : Option (BitVec 512)),
    (s.hqState q ≠ hqRun → exec (.commandFetch q c) s = .next s) ∧
    (s.fld (F.HQ_Q_STAT_SQ_HEAD q) = s.fld (F.HQ_SQ_TAIL_TAIL q) → exec (.commandFetch q c) s = .next s) ∧
    (s.cqFree q = 0 → exec (.commandFetch q c) s = .next s) ∧
    ((s.hq q).cmd.isSome = true → exec (.commandFetch q c) s = .next s) ∧
    (s.busMaster = false → exec (.commandFetch q c) s = .next s)) ∧
  (∀ (s : State) (q : Fin 16) (c : BitVec 512) (h : Nat), h = s.fld (F.HQ_Q_STAT_SQ_HEAD q) → s.hqState q = hqRun →
    (s.hq q).cmd = none → h ≠ s.fld (F.HQ_SQ_TAIL_TAIL q) → s.cqFree q ≠ 0 → s.busMaster = true → s.dev.sleep.target = 0 →
    s.bit (R.xx_FLT_INJ P.HQ) X.HQ_FETCH_ERR = false →
    (s.hostReach (s.sqAddr q + 63) = true → exec (.commandFetch q (some c)) s =
      .next ((s.setHq q { s.hq q with cmd := some c, started := false }).setFld (F.HQ_Q_STAT_SQ_HEAD q)
        (if h + 1 = s.fld (F.HQ_Q_SIZE_SQ_SIZE q) then 0 else h + 1))) ∧
    exec (.commandFetch q none) s = .next (((s.fresh 64).2.hqPost q 0xFFFF hsFetchErr (s.fresh 64).1).hqFail q X.HQ_FETCH_ERR
      false)) ∧
  (∀ (s : State) (q : Fin 16),
    (s.hqState q ≠ hqRun → s.hqState q ≠ hqStopping → exec (.hqNop q) s = .next s ∧ exec (.hqRegWrite q) s = .next s ∧
      exec (.hqRegRead q) s = .next s ∧ exec (.hqXfer q) s = .next s ∧ exec (.hqFw q) s = .next s ∧
      exec (.hqBadOpcode q) s = .next s ∧ exec (.completionPost q) s = .next s) ∧
    ((s.hq q).cmd = none → exec (.hqNop q) s = .next s ∧ exec (.hqRegWrite q) s = .next s ∧ exec (.hqRegRead q) s = .next s ∧
      exec (.hqXfer q) s = .next s ∧ exec (.hqFw q) s = .next s ∧ exec (.hqBadOpcode q) s = .next s) ∧
    ((s.hq q).out = [] → exec (.completionPost q) s = .next s) ∧
    (∀ c x r l, s.hqState q = hqRun ∨ s.hqState q = hqStopping → s.busMaster = true → (s.hq q).out = (c, x, r) :: l →
      exec (.completionPost q) s = .next (((s.setHq q { s.hq q with out := l }).hqPost q c x r).hqSettle q))) ∧
  (∀ (s : State) (q : Fin 16) (c : BitVec 512) (y : Nat → BitVec 64 → State), s.hqState q = hqRun → (s.hq q).cmd = some c →
    y = (fun st r => s.setHq q { s.hq q with cmd := none, started := false, out := (s.hq q).out ++ [(cmdNat c 0 2, st, r)] }) →
    (s.hqAction q c = .badOpcode → exec (.hqBadOpcode q) s = .next (y hsBadOpcode 0)) ∧
    (s.hqAction q c ≠ .badOpcode → exec (.hqBadOpcode q) s = .next s) ∧
    (s.hqAction q c = .wait → exec (.hqNop q) s = .next s ∧ exec (.hqRegWrite q) s = .next s ∧ exec (.hqRegRead q) s = .next s ∧
      exec (.hqXfer q) s = .next s ∧ exec (.hqFw q) s = .next s) ∧
    (s.hqAction q c = .badField → cmdNat c 2 1 = 0 → exec (.hqNop q) s = .next (y hsBadField 0)) ∧
    (s.hqAction q c = .run →
      (cmdNat c 2 1 = 0 → exec (.hqNop q) s = .next (y hsOk 0)) ∧
      (cmdNat c 2 1 = 1 → 6 < cmdNat c 8 1 → exec (.hqRegWrite q) s = .next (y hsBadField 0)) ∧
      (cmdNat c 2 1 = 1 → cmdNat c 8 1 = 0 → exec (.hqRegWrite q) s = .next (y hsOk 0)) ∧
      (cmdNat c 2 1 = 2 → cmdNat c 8 1 = 0 → cmdOffsetOk (cmdNat c 12 4) = true → cmdNat c 16 8 % 4 = 0 →
        exec (.hqRegRead q) s = .next (y hsOk 0)) ∧
      (cmdNat c 2 1 = 2 → 16 < cmdNat c 8 1 → exec (.hqRegRead q) s = .next (y hsBadField 0)) ∧
      (cmdNat c 2 1 = 2 → cmdNat c 16 8 % 4 ≠ 0 → exec (.hqRegRead q) s = .next (y hsBadField 0)))) ∧
  (∀ (s t : State) (q : Fin 16) (c : BitVec 512) (v : Word) (o : Nat), s.hqState q = hqRun → (s.hq q).cmd = some c →
    s.hqAction q c = .run → cmdNat c 2 1 = 1 → cmdNat c 8 1 = 1 → o = cmdNat c 16 4 → cmdOffsetOk o = true →
    v = BitVec.ofNat 32 (cmdNat c 20 4) → t = s.windowWrite (.hostQueue q) o true false (v.setWidth 64) →
    (s.windowReason (.hostQueue q) o true false (v.setWidth 64) = none → exec (.hqRegWrite q) s = .next (t.hqEnd q hsOk 1)) ∧
    (∀ e, s.windowReason (.hostQueue q) o true false (v.setWidth 64) = some e → exec (.hqRegWrite q) s =
      .next (t.hqEnd q hsRejected (BitVec.ofNat 64 (256 * e.code))))) ∧
  (∀ (s : State) (q : Fin 16) (c : BitVec 512) (n o h : Nat) (x : List Word × State), s.hqState q = hqRun →
    (s.hq q).cmd = some c → s.hqAction q c = .run → cmdNat c 2 1 = 2 → n = cmdNat c 8 1 → o = cmdNat c 12 4 →
    h = cmdNat c 16 8 → 0 < n → n ≤ 16 → h % 4 = 0 → o % 4 = 0 → o + 4 * n ≤ 0x4000000 →
    x = State.readRun (.hostQueue q) o n s →
    (s.busMaster = false → exec (.hqRegRead q) s = .next s) ∧
    (s.busMaster = true → (x.2.hqWrite q h (x.1.flatMap (fun v => leBytes 4 v.toNat))).1 = true → exec (.hqRegRead q) s =
      .next ((x.2.hqWrite q h (x.1.flatMap (fun v => leBytes 4 v.toNat))).2.hqEnd q hsOk (BitVec.ofNat 64 n)))) ∧
  (∀ (s : State) (q : Fin 16) (c : BitVec 512) (k : Nat), s.hqState q = hqRun → (s.hq q).cmd = some c →
    s.hqAction q c = .run → cmdNat c 2 1 = 3 → k = s.fld (F.HQ_Q_CFG_DMA_CH q) →
    ((s.hq q).started = true → s.dmaActive k = true → exec (.hqXfer q) s = .next s) ∧
    ((s.hq q).started = true → s.dmaActive k = false → exec (.hqXfer q) s = .next (s.hqEnd q
      (if s.fld (F.DMA_CH_STAT_STATUS (k / 8) (k % 8)) = dmaOk then hsOk else hsXferErr) (s.xferResult k))) ∧
    ((s.hq q).started = false → s.flag (F.HQ_Q_CFG_DMA_EN q) = false → exec (.hqXfer q) s = .next (s.hqFree q hsBadField)) ∧
    ((s.hq q).started = false → s.flag (F.HQ_Q_CFG_DMA_EN q) = true → cmdNat c 32 4 ≠ 0 → s.dmaActive k = true →
      exec (.hqXfer q) s = .next (s.hqEnd q hsBusy (s.xferResult k))) ∧
    (∀ n t, (s.hq q).started = false → s.flag (F.HQ_Q_CFG_DMA_EN q) = true → cmdNat c 32 4 ≠ 0 → s.dmaActive k = false →
      State.writeRun (.hostQueue q) (s.xferWrites k c) 0 s = (n, none, t) →
      exec (.hqXfer q) s = .next (t.setHq q { t.hq q with started := true }))) ∧
  (∀ (s : State) (q : Fin 16) (c : BitVec 512), s.hqState q = hqRun → (s.hq q).cmd = some c →
    s.hqAction q c = .run → cmdNat c 2 1 = 4 →
    (s.flag F.HQ_FW_RING_EN = false → exec (.hqFw q) s = .next (s.hqFree q hsBadField)) ∧
    (s.flag F.HQ_FW_RING_EN = true → 32767 ≤ s.fwLevel → exec (.hqFw q) s = .next s) ∧
    (∀ a t u, a = s.fld F.HQ_FW_RING_FRAME * 2 ^ 21 + (s.reg R.HQ_FW_WR).toNat % 32768 * 64 →
      t = s.setMem a (leBytes 64 (putBits c.toNat 39 32 q.val)) → u = t.setReg R.HQ_FW_WR (t.reg R.HQ_FW_WR + 1) →
      s.flag F.HQ_FW_RING_EN = true → s.fwLevel < 32767 → s.writeFails a 64 = false →
      exec (.hqFw q) s = .next (((u.raiseTo R.HQ_FW_MAX u.fwLevel).setHq q { (u.raiseTo R.HQ_FW_MAX u.fwLevel).hq q with
        cmd := none, fw := ((u.raiseTo R.HQ_FW_MAX u.fwLevel).hq q).fw ++ [cmdNat c 0 2] }).event P.HQ E.HQ_FW_CMD))) ∧
  (∀ (s t u : State) (a : Agent) (w lo : Word) (q cid st : Nat), s.admits a .hq P.HQ = true → q = w.toNat / 2 ^ 28 →
    st = w.toNat / 2 ^ 16 % 256 → cid = w.toNat % 2 ^ 16 → t = s.setHost { s.host with cplLo := none } →
    u = t.setHq q { t.hq q with fw := dropFirst cid (t.hq q).fw } →
    (s.host.cplLo = some (a.ident, lo) → s.hqState q = hqRun → cid ∈ (s.hq q).fw → st = 0 ∨ 0x80 ≤ st →
      (s.busMaster = true → exec (.fwCpl a w) s = .next (u.hqPost q cid st (lo.setWidth 64))) ∧
      (s.busMaster = false → exec (.fwCpl a w) s = .next (u.setHq q { u.hq q with
        out := (u.hq q).out ++ [(cid, st, lo.setWidth 64)] }))) ∧
    (s.hqState q ≠ hqRun → exec (.fwCpl a w) s = .next ((s.reject P.HQ R.HQ_FW_CPL_HI .state).setHost
      { (s.reject P.HQ R.HQ_FW_CPL_HI .state).host with cplLo := none })) ∧
    (s.host.cplLo = none → s.hqState q = hqRun → cid ∈ (s.hq q).fw → exec (.fwCpl a w) s =
      .next ((s.reject P.HQ R.HQ_FW_CPL_HI .order).setHost { (s.reject P.HQ R.HQ_FW_CPL_HI .order).host with cplLo := none }))) ∧
  (∀ (s : State) (a : Agent) (q : Fin 16) (v : Word), s.admits a .hq P.HQ = true →
    (s.hqEnabled q = true → exec (.hqQueueEnable a q v) s = .next (s.reject P.HQ (R.HQ_Q_CFG q) .state)) ∧
    (s.hqMayEnable q (v ||| 0x80000000) = false → exec (.hqQueueEnable a q v) s =
      .next (s.reject P.HQ (R.HQ_Q_CFG q) .state)) ∧
    (s.hqEnabled q = false → s.hqMayEnable q (v ||| 0x80000000) = true → exec (.hqQueueEnable a q v) s =
      .next ((s.setReg (R.HQ_Q_CFG q) ((v ||| 0x80000000) &&& 0x803F0000)).hqStart q)) ∧
    (s.hqEnabled q = true → exec (.hqQueueDisable a q) s =
      .next ((s.setReg (R.HQ_Q_CFG q) (s.reg (R.HQ_Q_CFG q) &&& 0x7FFFFFFF &&& 0x803F0000)).hqDisable q)) ∧
    (s.hqEnabled q = false → exec (.hqQueueDisable a q) s =
      .next (s.setReg (R.HQ_Q_CFG q) (s.reg (R.HQ_Q_CFG q) &&& 0x7FFFFFFF &&& 0x803F0000))))

/-- A START begins a run where its conditions hold and is rejected STATE where they do not; GO lets the waiting range of the DEC item go
on. Each item measures its elements in order of number and hands on to the next item; outside its stage it does nothing. A run that takes
too long gives up with TIMEOUT, and ends when the codes in force have been written back. An export answers its words one by one, 0 after
the last, and an uncorrectable word ends it. An import opens, takes words, overflows after 8,192, is cancelled, is committed outside a
run in the modes that allow it, and comes into force when its sideband writes have ended, or fails with them. -/
def Obligations.Calibration : Prop :=
  (∀ (s : State) (a : Agent), s.admits a .cal P.CAL = true →
    (s.calCanStart = true → exec (.calStart a) s = .next s.calBegin) ∧
    (s.calCanStart = false → exec (.calStart a) s = .next (s.reject P.CAL R.CAL_CMD .state)) ∧
    (s.flag F.CAL_DEC_WAIT_WAITING = false → exec (.calGo a) s = .next s) ∧
    (∀ t, t = s.setFlag F.CAL_DEC_WAIT_WAITING false → s.flag F.CAL_DEC_WAIT_WAITING = true → exec (.calGo a) s =
      .next { t with cal := { t.cal with go := true } })) ∧
  (∀ (s : State) (h : List TiaHits) (o : List OutStamps) (r : List ThReadings) (g : List (Fin 16)) (w : List InSweep)
    (d : List DecSums), s.calState ≠ csMeasure →
    exec (.calTiaItem h) s = .next s ∧ exec (.calOutItem o) s = .next s ∧ exec (.calThItem r g) s = .next s ∧
    exec (.calInItem w) s = .next s ∧ exec (.calDecItem d) s = .next s ∧ exec .calRunTimeout s = .next s) ∧
  (∀ (s : State) (h : List TiaHits), s.calState = csMeasure → s.fld F.CAL_STAT_STAGE = 1 → exec (.calTiaItem h) s =
    .next ((((List.range 128).filter (fun i => s.calPages.contains (i / 16))).foldl (fun s i => s.calTable h i) s).calNext 1)) ∧
  (∀ (s : State) (o : List OutStamps), s.calState = csMeasure → s.fld F.CAL_STAT_STAGE = 2 → exec (.calOutItem o) s =
    .next ((s.calOutLines.foldl (fun s l => s.calOut o l) s).calNext 2)) ∧
  (∀ (s : State) (r : List ThReadings), s.calState = csMeasure → s.fld F.CAL_STAT_STAGE = 3 →
    (∀ t, t < 16 → s.bit (R.xx_FLT_INJ (P.TG t)) X.TG_SB_FAIL = false) → exec (.calThItem r []) s =
    .next ((s.calInLines.foldl (fun s l => s.calTh r l) s).calNext 3)) ∧
  (∀ (s : State) (w : List InSweep) (x : Nat → InSweep) (n p : Nat) (a : Int), s.calState = csMeasure →
    s.fld F.CAL_STAT_STAGE = 4 → s.flag F.CAL_RUN_CFG_IN_MODE = false → n = 2 ^ s.fld F.CAL_IN_CFG_N_LOG2 →
    p = s.fld F.CAL_IN_CFG_STEP_PS → a = -(s.fld F.CAL_IN_CFG_SPAN_PS : Int) →
    x = (fun l => (w.find? (fun y => y.line.val == l)).getD ⟨0, [], []⟩) → exec (.calInItem w) s =
    .next ((s.calInLines.foldl (fun t l => t.calIn l ((s.inFirst (x l).first).map (fun q => q - 0))
      ((crossing 50 n p a (x l).second).map (fun q => q - 0))) s).calNext 4)) ∧
  (∀ (s t u : State) (d : List DecSums) (r : Nat), s.calState = csMeasure → s.fld F.CAL_STAT_STAGE = 5 →
    (s.cal.go = false → exec (.calDecItem d) s = .next s) ∧
    (s.cal.go = true → r = s.fld F.CAL_DEC_WAIT_DEC_RANGE → t = s.calChans.foldl (fun s c => s.calDec d r c) s →
      u = { t with cal := { t.cal with go := false } } →
      (u.calRangesFrom (r + 1) = [] → exec (.calDecItem d) s = .next (u.calNext 5)) ∧
      (∀ i l, u.calRangesFrom (r + 1) = i :: l → exec (.calDecItem d) s = .next (u.calRange i)))) ∧
  (∀ s : State, s.calState = csMeasure → exec .calRunTimeout s = .next ((s.fault P.CAL X.CAL_RUN_TMO).calGiveUp ceTimeout)) ∧
  (∀ s : State,
    (s.calState ≠ csRestoring → exec .calRestoreEnd s = .next s) ∧
    (s.cal.frames ≠ [] → exec .calRestoreEnd s = .next s ∧ exec .calImportApply s = .next s) ∧
    (s.calState = csRestoring → s.cal.frames = [] → (∀ t, t < 16 → (s.tg t).frame = none) → exec .calRestoreEnd s =
      .next { s with cal := { s.cal with touched := [] } }.calLeave)) ∧
  (∀ (s t : State) (a : Agent) (v : Byte), s.admits a .cal P.CAL = true →
    (v ≠ 0x10 → v ≠ 0x11 → exec (.calExportStart a v) s = .next (s.reject P.CAL R.CAL_EXP_CTRL .range)) ∧
    (v = 0x10 ∨ v = 0x11 → t = s.setReg R.CAL_EXP_CTRL (BitVec.ofNat 32 (v.toNat * 256)) → exec (.calExportStart a v) s =
      .next { t.setReg R.CAL_EXP_STAT (BitVec.ofNat 32 (2 ^ 31 + (t.calStream (v == 0x10)).length)) with
        cal := { t.cal with exp := t.calStream (v == 0x10) } })) ∧
  (∀ (s : State) (a : Agent) (k : EccCheck), s.responds a = true →
    (s.cal.exp = [] → exec (.calExpDataRead a k) s = .next (s.answer 0)) ∧
    (∀ w x l t, s.cal.exp = w :: x :: l → s.bit (R.xx_FLT_INJ P.CAL) X.CAL_IMG_ECC = false →
      t = { s with cal := { s.cal with exp := x :: l } }.setFld F.CAL_EXP_STAT_WORDS_LEFT (l.length + 1) →
      exec (.calExpDataRead a .clean) s = .next (t.answer (w.setWidth 64))) ∧
    (∀ w t, s.cal.exp = [w] → s.bit (R.xx_FLT_INJ P.CAL) X.CAL_IMG_ECC = false →
      t = { s with cal := { s.cal with exp := [] } }.setFld F.CAL_EXP_STAT_WORDS_LEFT 0 →
      exec (.calExpDataRead a .clean) s = .next ((t.exportEnd 0).answer (w.setWidth 64))) ∧
    (∀ w l, s.cal.exp = w :: l → s.bit (R.xx_FLT_INJ P.CAL) X.CAL_IMG_ECC = false →
      exec (.calExpDataRead a .double) s = .next (((s.fault P.CAL X.CAL_IMG_ECC).exportEnd 2).answer 0))) ∧
  (∀ (s : State) (a : Agent), s.responds a = false → ∀ k, exec (.calExpDataRead a k) s = .next s) ∧
  (∀ (s : State) (a : Agent) (v : Word), s.admits a .cal P.CAL = true →
    (s.cal.importing = true → exec (.calImportBegin a) s = .next (s.reject P.CAL R.CAL_IMP_CTRL .state) ∧
      exec (.calImportCancel a) s = .next (s.reject P.CAL R.CAL_IMP_CTRL .state) ∧
      exec (.calImportCommit a) s = .next (s.reject P.CAL R.CAL_IMP_CTRL .state) ∧
      exec (.calImportData a v) s = .next (s.reject P.CAL R.CAL_IMP_DATA .state)) ∧
    (∀ t, t = s.setReg R.CAL_IMP_STAT 0x10000000 → s.cal.importing = false → exec (.calImportBegin a) s =
      .next { t with cal := { t.cal with imp := [] } }) ∧
    (∀ t, t = s.setReg R.CAL_IMP_STAT 0 → s.cal.importing = false → s.fld F.CAL_IMP_STAT_STATE = 1 →
      exec (.calImportCancel a) s = .next { t with cal := { t.cal with imp := [] } }) ∧
    (s.cal.importing = false → s.fld F.CAL_IMP_STAT_STATE ≠ 1 → exec (.calImportCancel a) s = .next s ∧
      exec (.calImportData a v) s = .next (s.reject P.CAL R.CAL_IMP_DATA .state) ∧
      exec (.calImportCommit a) s = .next (s.reject P.CAL R.CAL_IMP_CTRL .state)) ∧
    (s.cal.importing = false → s.fld F.CAL_IMP_STAT_STATE = 1 →
      (s.cal.imp.length = 8192 → exec (.calImportData a v) s = .next (s.importEnd 3 ciOverflow 0)) ∧
      (s.cal.imp.length ≠ 8192 → exec (.calImportData a v) s = .next ({ s with cal := { s.cal with
        imp := v :: s.cal.imp } }.setFld F.CAL_IMP_STAT_WORDS (s.cal.imp.length + 1))) ∧
      (s.calState ≠ csIdle → exec (.calImportCommit a) s = .next (s.reject P.CAL R.CAL_IMP_CTRL .state)) ∧
      (s.calState = csIdle → s.mode = mBoot ∨ s.mode = mTrain ∨ s.mode = mReady ∨ s.mode = mCalibrate →
        exec (.calImportCommit a) s = .next s.importCommit))) ∧
  (∀ s t : State, s.cal.frames = [] → (∀ t, t < 16 → (s.tg t).frame = none) →
    (s.cal.importing = false → exec .calImportApply s = .next s) ∧
    (s.cal.importing = true → s.cal.sbFail ≠ [] → exec .calImportApply s =
      .next ({ s.calDrop with cal := { s.calDrop.cal with touched := [] } }.importEnd 3 ciSb 0)) ∧
    (s.cal.importing = true → s.cal.sbFail = [] → t = s.calApply (s.cal.th.map Prod.fst) → exec .calImportApply s =
      .next ({ t with cal := { t.cal with factory := t.cal.factory && t.cal.source == 0 } }.importEnd 2 0 0)))

/-- From every state in which the registers and the bytes of DRAM are listed in strictly rising order, none at the value that an
unlisted one reads as, every step of every command leaves them so: equal contents stay equal data. -/
def Obligations.EveryStepKeepsCanonicalForm : Prop :=
  ∀ s t : State, s.canonical = true → step s = .next t → t.canonical = true

/-- The state after reset has the canonical form that every step keeps, with no byte of DRAM listed. That an unlisted byte reads 0 is the
model's choice (assumption 6). -/
def Obligations.ResetIsCanonical : Prop :=
  State.reset.canonical = true ∧ State.reset.dram.mem = [] ∧ ∀ a, State.reset.memByte a = 0
end

