-- ==== Sys2Proof/Laws/Dispatch.lean ====
section
/-! SUPPORT. One equation for each command: exec is its meaning. Proofs rewrite by these and never unfold exec. -/

namespace Sys2Proof.Machine

open Sys2Proof

@[simp] theorem exec_pwrgdAssert : ∀ s : State, exec .pwrgdAssert s = execPwrgdAssert s := fun _ => rfl
@[simp] theorem exec_pwrgdDeassert : ∀ s : State, exec .pwrgdDeassert s = execPwrgdDeassert s := fun _ => rfl
@[simp] theorem exec_rstNAssert : ∀ s : State, exec .rstNAssert s = execRstNAssert s := fun _ => rfl
@[simp] theorem exec_rstNRelease : ∀ s : State, exec .rstNRelease s = execRstNRelease s := fun _ => rfl
@[simp] theorem exec_rstChip : ∀ a key (s : State), exec (.rstChip a key) s = execRstChip a key s := fun _ _ _ => rfl
@[simp] theorem exec_chipResetEnd : ∀ s : State, exec .chipResetEnd s = execChipResetEnd s := fun _ => rfl
@[simp] theorem exec_bootRomSequence : ∀ b (s : State), exec (.bootRomSequence b) s = execBootRomSequence b s := fun _ _ => rfl
@[simp] theorem exec_devBootDone : ∀ a (s : State), exec (.devBootDone a) s = execDevBootDone a s := fun _ _ => rfl
@[simp] theorem exec_devBootTrained : ∀ a (s : State), exec (.devBootTrained a) s = execDevBootTrained a s := fun _ _ => rfl
@[simp] theorem exec_railOutOfRange : ∀ rail (s : State), exec (.railOutOfRange rail) s = execRailOutOfRange rail s := fun _ _ => rfl
@[simp] theorem exec_tpllLockLoss : ∀ s : State, exec .tpllLockLoss s = execTpllLockLoss s := fun _ => rfl
@[simp] theorem exec_syspllLockLoss : ∀ pll (s : State), exec (.syspllLockLoss pll) s = execSyspllLockLoss pll s := fun _ _ => rfl
@[simp] theorem exec_thermWarn : ∀ t (s : State), exec (.thermWarn t) s = execThermWarn t s := fun _ _ => rfl
@[simp] theorem exec_thermTrip : ∀ t (s : State), exec (.thermTrip t) s = execThermTrip t s := fun _ _ => rfl
@[simp] theorem exec_devModeReqCalibrate : ∀ a (s : State), exec (.devModeReqCalibrate a) s = execDevModeReqCalibrate a s := fun _ _ => rfl
@[simp] theorem exec_devModeReqReady : ∀ a (s : State), exec (.devModeReqReady a) s = execDevModeReqReady a s := fun _ _ => rfl
@[simp] theorem exec_devModeReqDiagnose : ∀ a (s : State), exec (.devModeReqDiagnose a) s = execDevModeReqDiagnose a s := fun _ _ => rfl
@[simp] theorem exec_devModeReqService : ∀ a (s : State), exec (.devModeReqService a) s = execDevModeReqService a s := fun _ _ => rfl
@[simp] theorem exec_devModeReqDoze : ∀ a (s : State), exec (.devModeReqDoze a) s = execDevModeReqDoze a s := fun _ _ => rfl
@[simp] theorem exec_devModeReqHibernate : ∀ a (s : State), exec (.devModeReqHibernate a) s = execDevModeReqHibernate a s := fun _ _ => rfl
@[simp] theorem exec_sleepSample : ∀ s : State, exec .sleepSample s = execSleepSample s := fun _ => rfl
@[simp] theorem exec_sleepDrainTimeout : ∀ s : State, exec .sleepDrainTimeout s = execSleepDrainTimeout s := fun _ => rfl
@[simp] theorem exec_wakeLatchSet : ∀ src (s : State), exec (.wakeLatchSet src) s = execWakeLatchSet src s := fun _ _ => rfl
@[simp] theorem exec_wakeTimerExpire : ∀ s : State, exec .wakeTimerExpire s = execWakeTimerExpire s := fun _ => rfl
@[simp] theorem exec_wakeDozeComplete : ∀ ticks (s : State), exec (.wakeDozeComplete ticks) s = execWakeDozeComplete ticks s := fun _ _ => rfl
@[simp] theorem exec_wakeHibernateComplete : ∀ lockUs ticks (s : State), exec (.wakeHibernateComplete lockUs ticks) s = execWakeHibernateComplete lockUs ticks s := fun _ _ _ => rfl
@[simp] theorem exec_trigInEvent : ∀ pin rising (s : State), exec (.trigInEvent pin rising) s = execTrigInEvent pin rising s := fun _ _ _ => rfl
@[simp] theorem exec_syncInEvent : ∀ rising (s : State), exec (.syncInEvent rising) s = execSyncInEvent rising s := fun _ _ => rfl
@[simp] theorem exec_devSyncPulse : ∀ a (s : State), exec (.devSyncPulse a) s = execDevSyncPulse a s := fun _ _ => rfl
@[simp] theorem exec_trigOutPulseEnd : ∀ pin src (s : State), exec (.trigOutPulseEnd pin src) s = execTrigOutPulseEnd pin src s := fun _ _ _ => rfl
@[simp] theorem exec_qspiCommand : ∀ c (s : State), exec (.qspiCommand c) s = execQspiCommand c s := fun _ _ => rfl
@[simp] theorem exec_smbusMode : ∀ s : State, exec .smbusMode s = execSmbusMode s := fun _ => rfl
@[simp] theorem exec_smbusTemp : ∀ s : State, exec .smbusTemp s = execSmbusTemp s := fun _ => rfl
@[simp] theorem exec_smbusRail : ∀ s : State, exec .smbusRail s = execSmbusRail s := fun _ => rfl
@[simp] theorem exec_smbusFirst : ∀ s : State, exec .smbusFirst s = execSmbusFirst s := fun _ => rfl
@[simp] theorem exec_smbusUid : ∀ s : State, exec .smbusUid s = execSmbusUid s := fun _ => rfl
@[simp] theorem exec_smbusAlive : ∀ s : State, exec .smbusAlive s = execSmbusAlive s := fun _ => rfl
@[simp] theorem exec_smbusCause : ∀ s : State, exec .smbusCause s = execSmbusCause s := fun _ => rfl
@[simp] theorem exec_smbusOther : ∀ code (s : State), exec (.smbusOther code) s = execSmbusOther code s := fun _ _ => rfl
@[simp] theorem exec_tapReset : ∀ s : State, exec .tapReset s = execTapReset s := fun _ => rfl
@[simp] theorem exec_tapExtest : ∀ cells balls (s : State), exec (.tapExtest cells balls) s = execTapExtest cells balls s := fun _ _ _ => rfl
@[simp] theorem exec_tapSamplePreload : ∀ cells balls (s : State), exec (.tapSamplePreload cells balls) s = execTapSamplePreload cells balls s := fun _ _ _ => rfl
@[simp] theorem exec_tapIdcode : ∀ s : State, exec .tapIdcode s = execTapIdcode s := fun _ => rfl
@[simp] theorem exec_tapClamp : ∀ s : State, exec .tapClamp s = execTapClamp s := fun _ => rfl
@[simp] theorem exec_tapHighz : ∀ s : State, exec .tapHighz s = execTapHighz s := fun _ => rfl
@[simp] theorem exec_tapFuseRead : ∀ s : State, exec .tapFuseRead s = execTapFuseRead s := fun _ => rfl
@[simp] theorem exec_tapFuseAddr : ∀ addr (s : State), exec (.tapFuseAddr addr) s = execTapFuseAddr addr s := fun _ _ => rfl
@[simp] theorem exec_tapFuseProg : ∀ field word data supplyOk (s : State), exec (.tapFuseProg field word data supplyOk) s = execTapFuseProg field word data supplyOk s := fun _ _ _ _ _ => rfl
@[simp] theorem exec_tapFuseProgDone : ∀ verifyOk (s : State), exec (.tapFuseProgDone verifyOk) s = execTapFuseProgDone verifyOk s := fun _ _ => rfl
@[simp] theorem exec_tapFuseStat : ∀ s : State, exec .tapFuseStat s = execTapFuseStat s := fun _ => rfl
@[simp] theorem exec_tapDebug : ∀ dmi (s : State), exec (.tapDebug dmi) s = execTapDebug dmi s := fun _ _ => rfl
@[simp] theorem exec_tapBypass : ∀ tdi (s : State), exec (.tapBypass tdi) s = execTapBypass tdi s := fun _ _ => rfl
@[simp] theorem exec_registerWrite : ∀ a off be v (s : State), exec (.registerWrite a off be v) s = execRegisterWrite a off be v s := fun _ _ _ _ _ => rfl
@[simp] theorem exec_reservedWrite : ∀ a off v (s : State), exec (.reservedWrite a off v) s = execReservedWrite a off v s := fun _ _ _ _ => rfl
@[simp] theorem exec_rcRead : ∀ a off (s : State), exec (.rcRead a off) s = execRcRead a off s := fun _ _ _ => rfl
@[simp] theorem exec_coherentLoRead : ∀ a off (s : State), exec (.coherentLoRead a off) s = execCoherentLoRead a off s := fun _ _ _ => rfl
@[simp] theorem exec_blockReset : ∀ a page (s : State), exec (.blockReset a page) s = execBlockReset a page s := fun _ _ _ => rfl
@[simp] theorem exec_blockResetEnd : ∀ page (s : State), exec (.blockResetEnd page) s = execBlockResetEnd page s := fun _ _ => rfl
@[simp] theorem exec_faultInject : ∀ a page bits (s : State), exec (.faultInject a page bits) s = execFaultInject a page bits s := fun _ _ _ _ => rfl
@[simp] theorem exec_ownerWrite : ∀ a page v (s : State), exec (.ownerWrite a page v) s = execOwnerWrite a page v s := fun _ _ _ _ => rfl
@[simp] theorem exec_shadowWrite : ∀ a off v (s : State), exec (.shadowWrite a off v) s = execShadowWrite a off v s := fun _ _ _ _ => rfl
@[simp] theorem exec_tableWrite : ∀ a off wide v (s : State), exec (.tableWrite a off wide v) s = execTableWrite a off wide v s := fun _ _ _ _ _ => rfl
@[simp] theorem exec_commitRequest : ∀ a page expect (s : State), exec (.commitRequest a page expect) s = execCommitRequest a page expect s := fun _ _ _ _ => rfl
@[simp] theorem exec_shadowTransfer : ∀ page channels (s : State), exec (.shadowTransfer page channels) s = execShadowTransfer page channels s := fun _ _ _ => rfl
@[simp] theorem exec_wsqEmit : ∀ n r (s : State), exec (.wsqEmit n r) s = execWsqEmit n r s := fun _ _ _ => rfl
@[simp] theorem exec_wsqRepeat : ∀ n r count (s : State), exec (.wsqRepeat n r count) s = execWsqRepeat n r count s := fun _ _ _ _ => rfl
@[simp] theorem exec_wsqLoop : ∀ n r exitOfs count (s : State), exec (.wsqLoop n r exitOfs count) s = execWsqLoop n r exitOfs count s := fun _ _ _ _ _ => rfl
@[simp] theorem exec_wsqEndloop : ∀ n r (s : State), exec (.wsqEndloop n r) s = execWsqEndloop n r s := fun _ _ _ => rfl
@[simp] theorem exec_wsqCall : ∀ n r target (s : State), exec (.wsqCall n r target) s = execWsqCall n r target s := fun _ _ _ _ => rfl
@[simp] theorem exec_wsqRet : ∀ n r (s : State), exec (.wsqRet n r) s = execWsqRet n r s := fun _ _ _ => rfl
@[simp] theorem exec_wsqJump : ∀ n r target (s : State), exec (.wsqJump n r target) s = execWsqJump n r target s := fun _ _ _ _ => rfl
@[simp] theorem exec_wsqJumpc : ∀ n r cond target (s : State), exec (.wsqJumpc n r cond target) s = execWsqJumpc n r cond target s := fun _ _ _ _ _ => rfl
@[simp] theorem exec_wsqMatch : ∀ n r timeout (s : State), exec (.wsqMatch n r timeout) s = execWsqMatch n r timeout s := fun _ _ _ _ => rfl
@[simp] theorem exec_wsqWait : ∀ n r cond noTimeout timeout (s : State), exec (.wsqWait n r cond noTimeout timeout) s = execWsqWait n r cond noTimeout timeout s := fun _ _ _ _ _ _ => rfl
@[simp] theorem exec_wsqFlagSet : ∀ n r mask (s : State), exec (.wsqFlagSet n r mask) s = execWsqFlagSet n r mask s := fun _ _ _ _ => rfl
@[simp] theorem exec_wsqFlagClear : ∀ n r mask (s : State), exec (.wsqFlagClear n r mask) s = execWsqFlagClear n r mask s := fun _ _ _ _ => rfl
@[simp] theorem exec_wsqFlagInvert : ∀ n r mask (s : State), exec (.wsqFlagInvert n r mask) s = execWsqFlagInvert n r mask s := fun _ _ _ _ => rfl
@[simp] theorem exec_wsqCclr : ∀ n r (s : State), exec (.wsqCclr n r) s = execWsqCclr n r s := fun _ _ _ => rfl
@[simp] theorem exec_wsqTclr : ∀ n r mask (s : State), exec (.wsqTclr n r mask) s = execWsqTclr n r mask s := fun _ _ _ _ => rfl
@[simp] theorem exec_wsqSignal : ∀ n r thread eflag (s : State), exec (.wsqSignal n r thread eflag) s = execWsqSignal n r thread eflag s := fun _ _ _ _ _ => rfl
@[simp] theorem exec_wsqCapon : ∀ n r kind units (s : State), exec (.wsqCapon n r kind units) s = execWsqCapon n r kind units s := fun _ _ _ _ _ => rfl
@[simp] theorem exec_wsqCapoff : ∀ n r kind units (s : State), exec (.wsqCapoff n r kind units) s = execWsqCapoff n r kind units s := fun _ _ _ _ _ => rfl
@[simp] theorem exec_wsqMark : ∀ n r id (s : State), exec (.wsqMark n r id) s = execWsqMark n r id s := fun _ _ _ _ => rfl
@[simp] theorem exec_wsqHalt : ∀ n r (s : State), exec (.wsqHalt n r) s = execWsqHalt n r s := fun _ _ _ => rfl
@[simp] theorem exec_wsqTapstate : ∀ n r target dwell force (s : State), exec (.wsqTapstate n r target dwell force) s = execWsqTapstate n r target dwell force s := fun _ _ _ _ _ _ => rfl
@[simp] theorem exec_wsqTapshift : ∀ n r ir pauseEnd cmp bits (s : State), exec (.wsqTapshift n r ir pauseEnd cmp bits) s = execWsqTapshift n r ir pauseEnd cmp bits s := fun _ _ _ _ _ _ _ => rfl
@[simp] theorem exec_wsqSenttx : ∀ n r operands (s : State), exec (.wsqSenttx n r operands) s = execWsqSenttx n r operands s := fun _ _ _ _ => rfl
@[simp] theorem exec_wsqSentrx : ∀ n r operands (s : State), exec (.wsqSentrx n r operands) s = execWsqSentrx n r operands s := fun _ _ _ _ => rfl
@[simp] theorem exec_customInstruction : ∀ n opcode r operands (s : State), exec (.customInstruction n opcode r operands) s = execCustomInstruction n opcode r operands s := fun _ _ _ _ _ => rfl
@[simp] theorem exec_decisionPoint : ∀ n (s : State), exec (.decisionPoint n) s = execDecisionPoint n s := fun _ _ => rfl
@[simp] theorem exec_blockBoundary : ∀ n (s : State), exec (.blockBoundary n) s = execBlockBoundary n s := fun _ _ => rfl
@[simp] theorem exec_boundaryStall : ∀ n line (s : State), exec (.boundaryStall n line) s = execBoundaryStall n line s := fun _ _ _ => rfl
@[simp] theorem exec_midBlockStall : ∀ n line (s : State), exec (.midBlockStall n line) s = execMidBlockStall n line s := fun _ _ _ => rfl
@[simp] theorem exec_seqLate : ∀ n (s : State), exec (.seqLate n) s = execSeqLate n s := fun _ _ => rfl
@[simp] theorem exec_holdUnitDecision : ∀ n (s : State), exec (.holdUnitDecision n) s = execHoldUnitDecision n s := fun _ _ => rfl
@[simp] theorem exec_holdLimitReached : ∀ n (s : State), exec (.holdLimitReached n) s = execHoldLimitReached n s := fun _ _ => rfl
@[simp] theorem exec_pauseUnitDecision : ∀ n (s : State), exec (.pauseUnitDecision n) s = execPauseUnitDecision n s := fun _ _ => rfl
@[simp] theorem exec_condRelease : ∀ n present (s : State), exec (.condRelease n present) s = execCondRelease n present s := fun _ _ _ => rfl
@[simp] theorem exec_seqStart : ∀ a n src trig (s : State), exec (.seqStart a n src trig) s = execSeqStart a n src trig s := fun _ _ _ _ _ => rfl
@[simp] theorem exec_seqTriggerStart : ∀ n (s : State), exec (.seqTriggerStart n) s = execSeqTriggerStart n s := fun _ _ => rfl
@[simp] theorem exec_seqPause : ∀ a n (s : State), exec (.seqPause a n) s = execSeqPause a n s := fun _ _ _ => rfl
@[simp] theorem exec_seqResume : ∀ a n (s : State), exec (.seqResume a n) s = execSeqResume a n s := fun _ _ _ => rfl
@[simp] theorem exec_seqAbort : ∀ a n (s : State), exec (.seqAbort a n) s = execSeqAbort a n s := fun _ _ _ => rfl
@[simp] theorem exec_seqGang : ∀ a n last (s : State), exec (.seqGang a n last) s = execSeqGang a n last s := fun _ _ _ _ => rfl
@[simp] theorem exec_seqFlagSet : ∀ a n mask (s : State), exec (.seqFlagSet a n mask) s = execSeqFlagSet a n mask s := fun _ _ _ _ => rfl
@[simp] theorem exec_seqFlagClr : ∀ a n mask (s : State), exec (.seqFlagClr a n mask) s = execSeqFlagClr a n mask s := fun _ _ _ _ => rfl
@[simp] theorem exec_seqTrigPendClear : ∀ a n mask (s : State), exec (.seqTrigPendClear a n mask) s = execSeqTrigPendClear a n mask s := fun _ _ _ _ => rfl
@[simp] theorem exec_uwdogExpire : ∀ n (s : State), exec (.uwdogExpire n) s = execUwdogExpire n s := fun _ _ => rfl
@[simp] theorem exec_uopNop : ∀ n chk (s : State), exec (.uopNop n chk) s = execUopNop n chk s := fun _ _ _ => rfl
@[simp] theorem exec_uopAdd : ∀ n rd ra rb chk (s : State), exec (.uopAdd n rd ra rb chk) s = execUopAdd n rd ra rb chk s := fun _ _ _ _ _ _ => rfl
@[simp] theorem exec_uopSub : ∀ n rd ra rb chk (s : State), exec (.uopSub n rd ra rb chk) s = execUopSub n rd ra rb chk s := fun _ _ _ _ _ _ => rfl
@[simp] theorem exec_uopAnd : ∀ n rd ra rb chk (s : State), exec (.uopAnd n rd ra rb chk) s = execUopAnd n rd ra rb chk s := fun _ _ _ _ _ _ => rfl
@[simp] theorem exec_uopOr : ∀ n rd ra rb chk (s : State), exec (.uopOr n rd ra rb chk) s = execUopOr n rd ra rb chk s := fun _ _ _ _ _ _ => rfl
@[simp] theorem exec_uopXor : ∀ n rd ra rb chk (s : State), exec (.uopXor n rd ra rb chk) s = execUopXor n rd ra rb chk s := fun _ _ _ _ _ _ => rfl
@[simp] theorem exec_uopShl : ∀ n rd ra imm chk (s : State), exec (.uopShl n rd ra imm chk) s = execUopShl n rd ra imm chk s := fun _ _ _ _ _ _ => rfl
@[simp] theorem exec_uopShr : ∀ n rd ra imm chk (s : State), exec (.uopShr n rd ra imm chk) s = execUopShr n rd ra imm chk s := fun _ _ _ _ _ _ => rfl
@[simp] theorem exec_uopAddi : ∀ n rd ra imm chk (s : State), exec (.uopAddi n rd ra imm chk) s = execUopAddi n rd ra imm chk s := fun _ _ _ _ _ _ => rfl
@[simp] theorem exec_uopOri : ∀ n rd ra imm chk (s : State), exec (.uopOri n rd ra imm chk) s = execUopOri n rd ra imm chk s := fun _ _ _ _ _ _ => rfl
@[simp] theorem exec_uopLui : ∀ n rd imm chk (s : State), exec (.uopLui n rd imm chk) s = execUopLui n rd imm chk s := fun _ _ _ _ _ => rfl
@[simp] theorem exec_uopMovs : ∀ n rd sel chk (s : State), exec (.uopMovs n rd sel chk) s = execUopMovs n rd sel chk s := fun _ _ _ _ _ => rfl
@[simp] theorem exec_uopMovd : ∀ n ra sel chk (s : State), exec (.uopMovd n ra sel chk) s = execUopMovd n ra sel chk s := fun _ _ _ _ _ => rfl
@[simp] theorem exec_uopLdp : ∀ n rd ra imm chk (s : State), exec (.uopLdp n rd ra imm chk) s = execUopLdp n rd ra imm chk s := fun _ _ _ _ _ _ => rfl
@[simp] theorem exec_uopCrc4Step : ∀ n rd ra rb chk (s : State), exec (.uopCrc4Step n rd ra rb chk) s = execUopCrc4Step n rd ra rb chk s := fun _ _ _ _ _ _ => rfl
@[simp] theorem exec_uopCrc6Step : ∀ n rd ra rb chk (s : State), exec (.uopCrc6Step n rd ra rb chk) s = execUopCrc6Step n rd ra rb chk s := fun _ _ _ _ _ _ => rfl
@[simp] theorem exec_uopBr : ∀ n cond ra target chk (s : State), exec (.uopBr n cond ra target chk) s = execUopBr n cond ra target chk s := fun _ _ _ _ _ _ => rfl
@[simp] theorem exec_uopCallu : ∀ n target chk (s : State), exec (.uopCallu n target chk) s = execUopCallu n target chk s := fun _ _ _ _ => rfl
@[simp] theorem exec_uopRetu : ∀ n chk (s : State), exec (.uopRetu n chk) s = execUopRetu n chk s := fun _ _ _ => rfl
@[simp] theorem exec_uopTstc : ∀ n chk (s : State), exec (.uopTstc n chk) s = execUopTstc n chk s := fun _ _ _ => rfl
@[simp] theorem exec_uopSeqop : ∀ n ra imm chk (s : State), exec (.uopSeqop n ra imm chk) s = execUopSeqop n ra imm chk s := fun _ _ _ _ _ => rfl
@[simp] theorem exec_uopSigSignal : ∀ n ra chk (s : State), exec (.uopSigSignal n ra chk) s = execUopSigSignal n ra chk s := fun _ _ _ _ => rfl
@[simp] theorem exec_uopSigMark : ∀ n ra chk (s : State), exec (.uopSigMark n ra chk) s = execUopSigMark n ra chk s := fun _ _ _ _ => rfl
@[simp] theorem exec_uopSigCapon : ∀ n ra chk (s : State), exec (.uopSigCapon n ra chk) s = execUopSigCapon n ra chk s := fun _ _ _ _ => rfl
@[simp] theorem exec_uopSigCapoff : ∀ n ra chk (s : State), exec (.uopSigCapoff n ra chk) s = execUopSigCapoff n ra chk s := fun _ _ _ _ => rfl
@[simp] theorem exec_uopOvl : ∀ n slot ra kind code0 code1 codex chk (s : State), exec (.uopOvl n slot ra kind code0 code1 codex chk) s = execUopOvl n slot ra kind code0 code1 codex chk s := fun _ _ _ _ _ _ _ _ _ => rfl
@[simp] theorem exec_uopOpush : ∀ n ra imm chk (s : State), exec (.uopOpush n ra imm chk) s = execUopOpush n ra imm chk s := fun _ _ _ _ _ => rfl
@[simp] theorem exec_uopEmitd : ∀ n chk (s : State), exec (.uopEmitd n chk) s = execUopEmitd n chk s := fun _ _ _ => rfl
@[simp] theorem exec_uopBoundNext : ∀ n chk (s : State), exec (.uopBoundNext n chk) s = execUopBoundNext n chk s := fun _ _ _ => rfl
@[simp] theorem exec_uopBoundAgain : ∀ n chk (s : State), exec (.uopBoundAgain n chk) s = execUopBoundAgain n chk s := fun _ _ _ => rfl
@[simp] theorem exec_uopStop : ∀ n cause chk (s : State), exec (.uopStop n cause chk) s = execUopStop n cause chk s := fun _ _ _ _ => rfl
@[simp] theorem exec_uopStk : ∀ n r sel imm chk (s : State), exec (.uopStk n r sel imm chk) s = execUopStk n r sel imm chk s := fun _ _ _ _ _ _ => rfl
@[simp] theorem exec_mcDrain : ∀ a n (s : State), exec (.mcDrain a n) s = execMcDrain a n s := fun _ _ _ => rfl
@[simp] theorem exec_mcRelease : ∀ a n chk (s : State), exec (.mcRelease a n chk) s = execMcRelease a n chk s := fun _ _ _ _ => rfl
@[simp] theorem exec_mcReload : ∀ a n (s : State), exec (.mcReload a n) s = execMcReload a n s := fun _ _ _ => rfl
@[simp] theorem exec_mcReloadDone : ∀ n masterOk (s : State), exec (.mcReloadDone n masterOk) s = execMcReloadDone n masterOk s := fun _ _ _ => rfl
@[simp] theorem exec_mcPloadData : ∀ a v (s : State), exec (.mcPloadData a v) s = execMcPloadData a v s := fun _ _ _ => rfl
@[simp] theorem exec_mcPloadFin : ∀ a v (s : State), exec (.mcPloadFin a v) s = execMcPloadFin a v s := fun _ _ _ => rfl
@[simp] theorem exec_cycleStart : ∀ n chk (s : State), exec (.cycleStart n chk) s = execCycleStart n chk s := fun _ _ _ => rfl
@[simp] theorem exec_edgePlace : ∀ pin den (s : State), exec (.edgePlace pin den) s = execEdgePlace pin den s := fun _ _ _ => rfl
@[simp] theorem exec_strobeSample : ∀ pin levels (s : State), exec (.strobeSample pin levels) s = execStrobeSample pin levels s := fun _ _ _ => rfl
@[simp] theorem exec_sbFrameStart : ∀ a n wr chip addr (s : State), exec (.sbFrameStart a n wr chip addr) s = execSbFrameStart a n wr chip addr s := fun _ _ _ _ _ _ => rfl
@[simp] theorem exec_sbFrameEnd : ∀ n crcOk data (s : State), exec (.sbFrameEnd n crcOk data) s = execSbFrameEnd n crcOk data s := fun _ _ _ _ => rfl
@[simp] theorem exec_peDiagStart : ∀ a n (s : State), exec (.peDiagStart a n) s = execPeDiagStart a n s := fun _ _ _ => rfl
@[simp] theorem exec_peDiagAbort : ∀ a n (s : State), exec (.peDiagAbort a n) s = execPeDiagAbort a n s := fun _ _ _ => rfl
@[simp] theorem exec_peDiagEnd : ∀ n errs (s : State), exec (.peDiagEnd n errs) s = execPeDiagEnd n errs s := fun _ _ _ => rfl
@[simp] theorem exec_pgrEnable : ∀ a (s : State), exec (.pgrEnable a) s = execPgrEnable a s := fun _ _ => rfl
@[simp] theorem exec_pgrMap : ∀ a count hold verify (s : State), exec (.pgrMap a count hold verify) s = execPgrMap a count hold verify s := fun _ _ _ _ _ => rfl
@[simp] theorem exec_pgrUnmap : ∀ a count (s : State), exec (.pgrUnmap a count) s = execPgrUnmap a count s := fun _ _ _ => rfl
@[simp] theorem exec_pgrPreload : ∀ a count (s : State), exec (.pgrPreload a count) s = execPgrPreload a count s := fun _ _ _ => rfl
@[simp] theorem exec_pgrRelease : ∀ a count (s : State), exec (.pgrRelease a count) s = execPgrRelease a count s := fun _ _ _ => rfl
@[simp] theorem exec_pgrRefetch : ∀ a count (s : State), exec (.pgrRefetch a count) s = execPgrRefetch a count s := fun _ _ _ => rfl
@[simp] theorem exec_pgrQuery : ∀ a (s : State), exec (.pgrQuery a) s = execPgrQuery a s := fun _ _ => rfl
@[simp] theorem exec_pgrMapOpDone : ∀ s : State, exec .pgrMapOpDone s = execPgrMapOpDone s := fun _ => rfl
@[simp] theorem exec_walkerStep : ∀ n (s : State), exec (.walkerStep n) s = execWalkerStep n s := fun _ _ => rfl
@[simp] theorem exec_fetchFrameObtained : ∀ page (s : State), exec (.fetchFrameObtained page) s = execFetchFrameObtained page s := fun _ _ => rfl
@[simp] theorem exec_pageFetchArrival : ∀ page refused data (s : State), exec (.pageFetchArrival page refused data) s = execPageFetchArrival page refused data s := fun _ _ _ _ => rfl
@[simp] theorem exec_fetchTimeout : ∀ page (s : State), exec (.fetchTimeout page) s = execFetchTimeout page s := fun _ _ => rfl
@[simp] theorem exec_multicastPageDelivery : ∀ node spage page data (s : State), exec (.multicastPageDelivery node spage page data) s = execMulticastPageDelivery node spage page data s := fun _ _ _ _ _ => rfl
@[simp] theorem exec_lineFill : ∀ n line chk (s : State), exec (.lineFill n line chk) s = execLineFill n line chk s := fun _ _ _ _ => rfl
@[simp] theorem exec_pgrSqHistClear : ∀ a n (s : State), exec (.pgrSqHistClear a n) s = execPgrSqHistClear a n s := fun _ _ _ => rfl
@[simp] theorem exec_pgrSqHseed : ∀ a n taken reps (s : State), exec (.pgrSqHseed a n taken reps) s = execPgrSqHseed a n taken reps s := fun _ _ _ _ _ => rfl
@[simp] theorem exec_vcSqCfg : ∀ a n pinLines slices (s : State), exec (.vcSqCfg a n pinLines slices) s = execVcSqCfg a n pinLines slices s := fun _ _ _ _ _ => rfl
@[simp] theorem exec_capPRelease : ∀ a u k (s : State), exec (.capPRelease a u k) s = execCapPRelease a u k s := fun _ _ _ _ => rfl
@[simp] theorem exec_capPFlogRd : ∀ a u k v (s : State), exec (.capPFlogRd a u k v) s = execCapPFlogRd a u k v s := fun _ _ _ _ _ => rfl
@[simp] theorem exec_captureCycleProcess : ∀ u (s : State), exec (.captureCycleProcess u) s = execCaptureCycleProcess u s := fun _ _ => rfl
@[simp] theorem exec_autoTriggerTimeout : ∀ u (s : State), exec (.autoTriggerTimeout u) s = execAutoTriggerTimeout u s := fun _ _ => rfl
@[simp] theorem exec_rearmEnd : ∀ u (s : State), exec (.rearmEnd u) s = execRearmEnd u s := fun _ _ => rfl
@[simp] theorem exec_trgTimerExpire : ∀ u k (s : State), exec (.trgTimerExpire u k) s = execTrgTimerExpire u k s := fun _ _ _ => rfl
@[simp] theorem exec_tuArm : ∀ a u (s : State), exec (.tuArm a u) s = execTuArm a u s := fun _ _ _ => rfl
@[simp] theorem exec_tuDisarm : ∀ a u (s : State), exec (.tuDisarm a u) s = execTuDisarm a u s := fun _ _ _ => rfl
@[simp] theorem exec_tuEnWrite : ∀ a u en (s : State), exec (.tuEnWrite a u en) s = execTuEnWrite a u en s := fun _ _ _ _ => rfl
@[simp] theorem exec_frontEndEdge : ∀ src page rise sub fine fines (s : State), exec (.frontEndEdge src page rise sub fine fines) s = execFrontEndEdge src page rise sub fine fines s := fun _ _ _ _ _ _ _ => rfl
@[simp] theorem exec_tuTimeout : ∀ u (s : State), exec (.tuTimeout u) s = execTuTimeout u s := fun _ _ => rfl
@[simp] theorem exec_decOutputSample : ∀ ch us chk (s : State), exec (.decOutputSample ch us chk) s = execDecOutputSample ch us chk s := fun _ _ _ _ => rfl
@[simp] theorem exec_decEn : ∀ a ch en (s : State), exec (.decEn a ch en) s = execDecEn a ch en s := fun _ _ _ _ => rfl
@[simp] theorem exec_decRestart : ∀ a ch (s : State), exec (.decRestart a ch) s = execDecRestart a ch s := fun _ _ _ => rfl
@[simp] theorem exec_clockLossTimeout : ∀ n (s : State), exec (.clockLossTimeout n) s = execClockLossTimeout n s := fun _ _ => rfl
@[simp] theorem exec_modClockResume : ∀ n (s : State), exec (.modClockResume n) s = execModClockResume n s := fun _ _ => rfl
@[simp] theorem exec_freqMeasureInterval : ∀ n edges (s : State), exec (.freqMeasureInterval n edges) s = execFreqMeasureInterval n edges s := fun _ _ _ => rfl
@[simp] theorem exec_decSwapRequest : ∀ a ch target xfade (s : State), exec (.decSwapRequest a ch target xfade) s = execDecSwapRequest a ch target xfade s := fun _ _ _ _ _ => rfl
@[simp] theorem exec_coefBankWrite : ∀ a ch bank word v (s : State), exec (.coefBankWrite a ch bank word v) s = execCoefBankWrite a ch bank word v s := fun _ _ _ _ _ _ => rfl
@[simp] theorem exec_synStart : ∀ a n (s : State), exec (.synStart a n) s = execSynStart a n s := fun _ _ _ => rfl
@[simp] theorem exec_synStartInstant : ∀ n chk (s : State), exec (.synStartInstant n chk) s = execSynStartInstant n chk s := fun _ _ _ => rfl
@[simp] theorem exec_synSampleBoundary : ∀ n chk (s : State), exec (.synSampleBoundary n chk) s = execSynSampleBoundary n chk s := fun _ _ _ => rfl
@[simp] theorem exec_synDrvEdge : ∀ n (s : State), exec (.synDrvEdge n) s = execSynDrvEdge n s := fun _ _ => rfl
@[simp] theorem exec_synStop : ∀ a n (s : State), exec (.synStop a n) s = execSynStop a n s := fun _ _ _ => rfl
@[simp] theorem exec_synEnClear : ∀ a n (s : State), exec (.synEnClear a n) s = execSynEnClear a n s := fun _ _ _ => rfl
@[simp] theorem exec_synJump : ∀ a n target atEnd (s : State), exec (.synJump a n target atEnd) s = execSynJump a n target atEnd s := fun _ _ _ _ _ => rfl
@[simp] theorem exec_hartEnable : ∀ a h (s : State), exec (.hartEnable a h) s = execHartEnable a h s := fun _ _ _ => rfl
@[simp] theorem exec_hartInstruction : ∀ h env (s : State), exec (.hartInstruction h env) s = execHartInstruction h env s := fun _ _ _ => rfl
@[simp] theorem exec_hartWindowAccess : ∀ h store size off v (s : State), exec (.hartWindowAccess h store size off v) s = execHartWindowAccess h store size off v s := fun _ _ _ _ _ _ => rfl
@[simp] theorem exec_fenceI : ∀ h (s : State), exec (.fenceI h) s = execFenceI h s := fun _ _ => rfl
@[simp] theorem exec_cboClean : ∀ h rs1 (s : State), exec (.cboClean h rs1) s = execCboClean h rs1 s := fun _ _ _ => rfl
@[simp] theorem exec_cboFlush : ∀ h rs1 (s : State), exec (.cboFlush h rs1) s = execCboFlush h rs1 s := fun _ _ _ => rfl
@[simp] theorem exec_cboInval : ∀ h rs1 (s : State), exec (.cboInval h rs1) s = execCboInval h rs1 s := fun _ _ _ => rfl
@[simp] theorem exec_hartNmi : ∀ h (s : State), exec (.hartNmi h) s = execHartNmi h s := fun _ _ => rfl
@[simp] theorem exec_hartInterrupt : ∀ h (s : State), exec (.hartInterrupt h) s = execHartInterrupt h s := fun _ _ => rfl
@[simp] theorem exec_hartSchedWait : ∀ a h (s : State), exec (.hartSchedWait a h) s = execHartSchedWait a h s := fun _ _ _ => rfl
@[simp] theorem exec_hartSchedYield : ∀ a h (s : State), exec (.hartSchedYield a h) s = execHartSchedYield a h s := fun _ _ _ => rfl
@[simp] theorem exec_hartSchedEnd : ∀ a h (s : State), exec (.hartSchedEnd a h) s = execHartSchedEnd a h s := fun _ _ _ => rfl
@[simp] theorem exec_hartSchedNext : ∀ a h (s : State), exec (.hartSchedNext a h) s = execHartSchedNext a h s := fun _ _ _ => rfl
@[simp] theorem exec_hartSchedPreempted : ∀ a h (s : State), exec (.hartSchedPreempted a h) s = execHartSchedPreempted a h s := fun _ _ _ => rfl
@[simp] theorem exec_schedArm : ∀ a k id (s : State), exec (.schedArm a k id) s = execSchedArm a k id s := fun _ _ _ _ => rfl
@[simp] theorem exec_schedCancel : ∀ a k id race (s : State), exec (.schedCancel a k id race) s = execSchedCancel a k id race s := fun _ _ _ _ _ => rfl
@[simp] theorem exec_schedSetflag : ∀ a k id f (s : State), exec (.schedSetflag a k id f) s = execSchedSetflag a k id f s := fun _ _ _ _ _ => rfl
@[simp] theorem exec_schedClrflag : ∀ a k id f (s : State), exec (.schedClrflag a k id f) s = execSchedClrflag a k id f s := fun _ _ _ _ _ => rfl
@[simp] theorem exec_threadWaitTimeout : ∀ t (s : State), exec (.threadWaitTimeout t) s = execThreadWaitTimeout t s := fun _ _ => rfl
@[simp] theorem exec_nodeDispatch : ∀ s : State, exec .nodeDispatch s = execNodeDispatch s := fun _ => rfl
@[simp] theorem exec_nodeComplete : ∀ u fail (s : State), exec (.nodeComplete u fail) s = execNodeComplete u fail s := fun _ _ _ => rfl
@[simp] theorem exec_traceEnable : ∀ a pattern (s : State), exec (.traceEnable a pattern) s = execTraceEnable a pattern s := fun _ _ _ => rfl
@[simp] theorem exec_hartCntClr : ∀ a h (s : State), exec (.hartCntClr a h) s = execHartCntClr a h s := fun _ _ _ => rfl
@[simp] theorem exec_hicSwi : ∀ a bits (s : State), exec (.hicSwi a bits) s = execHicSwi a bits s := fun _ _ _ => rfl
@[simp] theorem exec_hicClaim : ∀ a t (s : State), exec (.hicClaim a t) s = execHicClaim a t s := fun _ _ _ => rfl
@[simp] theorem exec_hicComplete : ∀ a t src (s : State), exec (.hicComplete a t src) s = execHicComplete a t src s := fun _ _ _ _ => rfl
@[simp] theorem exec_msixIssue : ∀ v (s : State), exec (.msixIssue v) s = execMsixIssue v s := fun _ _ => rfl
@[simp] theorem exec_holdoffExpire : ∀ t (s : State), exec (.holdoffExpire t) s = execHoldoffExpire t s := fun _ _ => rfl
@[simp] theorem exec_faultTake : ∀ s : State, exec .faultTake s = execFaultTake s := fun _ => rfl
@[simp] theorem exec_chipResetDelayExpire : ∀ s : State, exec .chipResetDelayExpire s = execChipResetDelayExpire s := fun _ => rfl
@[simp] theorem exec_fltAck : ∀ a src (s : State), exec (.fltAck a src) s = execFltAck a src s := fun _ _ _ => rfl
@[simp] theorem exec_fenceEnd : ∀ page (s : State), exec (.fenceEnd page) s = execFenceEnd page s := fun _ _ => rfl
@[simp] theorem exec_fltKick : ∀ a key (s : State), exec (.fltKick a key) s = execFltKick a key s := fun _ _ _ => rfl
@[simp] theorem exec_kickMissed : ∀ s : State, exec .kickMissed s = execKickMissed s := fun _ => rfl
@[simp] theorem exec_aliveToggle : ∀ s : State, exec .aliveToggle s = execAliveToggle s := fun _ => rfl
@[simp] theorem exec_fltErrnRelease : ∀ a (s : State), exec (.fltErrnRelease a) s = execFltErrnRelease a s := fun _ _ => rfl
@[simp] theorem exec_fltDevInj : ∀ a src (s : State), exec (.fltDevInj a src) s = execFltDevInj a src s := fun _ _ _ => rfl
@[simp] theorem exec_fltLogRd : ∀ a v (s : State), exec (.fltLogRd a v) s = execFltLogRd a v s := fun _ _ _ => rfl
@[simp] theorem exec_osTs1 : ∀ f lane num slock offFreq (s : State), exec (.osTs1 f lane num slock offFreq) s = execOsTs1 f lane num slock offFreq s := fun _ _ _ _ _ _ => rfl
@[simp] theorem exec_osTs2 : ∀ f lane num peer (s : State), exec (.osTs2 f lane num peer) s = execOsTs2 f lane num peer s := fun _ _ _ _ _ => rfl
@[simp] theorem exec_osEqr : ∀ f lane pre post (s : State), exec (.osEqr f lane pre post) s = execOsEqr f lane pre post s := fun _ _ _ _ _ => rfl
@[simp] theorem exec_osEqa : ∀ f lane pre post more (s : State), exec (.osEqa f lane pre post more) s = execOsEqa f lane pre post more s := fun _ _ _ _ _ _ => rfl
@[simp] theorem exec_osEqd : ∀ f lane (s : State), exec (.osEqd f lane) s = execOsEqd f lane s := fun _ _ _ => rfl
@[simp] theorem exec_osEios : ∀ f (s : State), exec (.osEios f) s = execOsEios f s := fun _ _ => rfl
@[simp] theorem exec_osFts : ∀ f (s : State), exec (.osFts f) s = execOsFts f s := fun _ _ => rfl
@[simp] theorem exec_osTsx : ∀ f num (s : State), exec (.osTsx f num) s = execOsTsx f num s := fun _ _ _ => rfl
@[simp] theorem exec_osLbk : ∀ f enter (s : State), exec (.osLbk f enter) s = execOsLbk f enter s := fun _ _ _ => rfl
@[simp] theorem exec_osQuar : ∀ f (s : State), exec (.osQuar f) s = execOsQuar f s := fun _ _ => rfl
@[simp] theorem exec_osSleep : ∀ f (s : State), exec (.osSleep f) s = execOsSleep f s := fun _ _ => rfl
@[simp] theorem exec_ts1Beacon : ∀ f (s : State), exec (.ts1Beacon f) s = execTs1Beacon f s := fun _ _ => rfl
@[simp] theorem exec_trainLimitExpire : ∀ f (s : State), exec (.trainLimitExpire f) s = execTrainLimitExpire f s := fun _ _ => rfl
@[simp] theorem exec_lcwAck : ∀ f seq (s : State), exec (.lcwAck f seq) s = execLcwAck f seq s := fun _ _ _ => rfl
@[simp] theorem exec_lcwNak : ∀ f seq mask (s : State), exec (.lcwNak f seq mask) s = execLcwNak f seq mask s := fun _ _ _ _ => rfl
@[simp] theorem exec_lcwCredit : ∀ f page n (s : State), exec (.lcwCredit f page n) s = execLcwCredit f page n s := fun _ _ _ _ => rfl
@[simp] theorem exec_linkIdle : ∀ f (s : State), exec (.linkIdle f) s = execLinkIdle f s := fun _ _ => rfl
@[simp] theorem exec_badPacket : ∀ f seq mask (s : State), exec (.badPacket f seq mask) s = execBadPacket f seq mask s := fun _ _ _ _ => rfl
@[simp] theorem exec_linkReplayTimeout : ∀ f (s : State), exec (.linkReplayTimeout f) s = execLinkReplayTimeout f s := fun _ _ => rfl
@[simp] theorem exec_burstTimeout : ∀ f (s : State), exec (.burstTimeout f) s = execBurstTimeout f s := fun _ _ => rfl
@[simp] theorem exec_electricalIdleEnter : ∀ f (s : State), exec (.electricalIdleEnter f) s = execElectricalIdleEnter f s := fun _ _ => rfl
@[simp] theorem exec_idleExitTimeout : ∀ f (s : State), exec (.idleExitTimeout f) s = execIdleExitTimeout f s := fun _ _ => rfl
@[simp] theorem exec_fpLbWrite : ∀ a f v (s : State), exec (.fpLbWrite a f v) s = execFpLbWrite a f v s := fun _ _ _ _ => rfl
@[simp] theorem exec_feLbTimeout : ∀ f (s : State), exec (.feLbTimeout f) s = execFeLbTimeout f s := fun _ _ => rfl
@[simp] theorem exec_fpRetrain : ∀ a f (s : State), exec (.fpRetrain a f) s = execFpRetrain a f s := fun _ _ _ => rfl
@[simp] theorem exec_pktLinkinfo : ∀ f seq info (s : State), exec (.pktLinkinfo f seq info) s = execPktLinkinfo f seq info s := fun _ _ _ _ => rfl
@[simp] theorem exec_pktRoute : ∀ f seq root tree vec (s : State), exec (.pktRoute f seq root tree vec) s = execPktRoute f seq root tree vec s := fun _ _ _ _ _ _ => rfl
@[simp] theorem exec_pktJoin : ∀ f seq l (s : State), exec (.pktJoin f seq l) s = execPktJoin f seq l s := fun _ _ _ _ => rfl
@[simp] theorem exec_pktTsync : ∀ f seq t2 t3 (s : State), exec (.pktTsync f seq t2 t3) s = execPktTsync f seq t2 t3 s := fun _ _ _ _ _ => rfl
@[simp] theorem exec_pktAssign : ∀ f seq m (s : State), exec (.pktAssign f seq m) s = execPktAssign f seq m s := fun _ _ _ _ => rfl
@[simp] theorem exec_pktRreq : ∀ f seq hd r (s : State), exec (.pktRreq f seq hd r) s = execPktRreq f seq hd r s := fun _ _ _ _ _ => rfl
@[simp] theorem exec_pktRrsp : ∀ f seq hd r (s : State), exec (.pktRrsp f seq hd r) s = execPktRrsp f seq hd r s := fun _ _ _ _ _ => rfl
@[simp] theorem exec_pktUnreach : ∀ f seq hd lost (s : State), exec (.pktUnreach f seq hd lost) s = execPktUnreach f seq hd lost s := fun _ _ _ _ _ => rfl
@[simp] theorem exec_pktPreq : ∀ f seq hd spage grp mc (s : State), exec (.pktPreq f seq hd spage grp mc) s = execPktPreq f seq hd spage grp mc s := fun _ _ _ _ _ _ _ => rfl
@[simp] theorem exec_pktPbreq : ∀ f seq hd spage grp mc count (s : State), exec (.pktPbreq f seq hd spage grp mc count) s = execPktPbreq f seq hd spage grp mc count s := fun _ _ _ _ _ _ _ _ => rfl
@[simp] theorem exec_pktPdata : ∀ f seq hd spage index last data (s : State), exec (.pktPdata f seq hd spage index last data) s = execPktPdata f seq hd spage index last data s := fun _ _ _ _ _ _ _ _ => rfl
@[simp] theorem exec_pktPrep : ∀ f seq hd spage index last word (s : State), exec (.pktPrep f seq hd spage index last word) s = execPktPrep f seq hd spage index last word s := fun _ _ _ _ _ _ _ _ => rfl
@[simp] theorem exec_pktPnak : ∀ f seq hd spage cause (s : State), exec (.pktPnak f seq hd spage cause) s = execPktPnak f seq hd spage cause s := fun _ _ _ _ _ _ => rfl
@[simp] theorem exec_pageDeliverySend : ∀ s : State, exec .pageDeliverySend s = execPageDeliverySend s := fun _ => rfl
@[simp] theorem exec_electionSettle : ∀ s : State, exec .electionSettle s = execElectionSettle s := fun _ => rfl
@[simp] theorem exec_assignCollectEnd : ∀ s : State, exec .assignCollectEnd s = execAssignCollectEnd s := fun _ => rfl
@[simp] theorem exec_fabRmRead : ∀ a count (s : State), exec (.fabRmRead a count) s = execFabRmRead a count s := fun _ _ _ => rfl
@[simp] theorem exec_fabRmWrite : ∀ a count (s : State), exec (.fabRmWrite a count) s = execFabRmWrite a count s := fun _ _ _ => rfl
@[simp] theorem exec_fabRmTimeout : ∀ s : State, exec .fabRmTimeout s = execFabRmTimeout s := fun _ => rfl
@[simp] theorem exec_fabSpanEnable : ∀ a k v (s : State), exec (.fabSpanEnable a k v) s = execFabSpanEnable a k v s := fun _ _ _ _ => rfl
@[simp] theorem exec_fabSpanGo : ∀ a k (s : State), exec (.fabSpanGo a k) s = execFabSpanGo a k s := fun _ _ _ => rfl
@[simp] theorem exec_csync : ∀ f d t (s : State), exec (.csync f d t) s = execCsync f d t s := fun _ _ _ _ => rfl
@[simp] theorem exec_csyncStart : ∀ k (s : State), exec (.csyncStart k) s = execCsyncStart k s := fun _ _ => rfl
@[simp] theorem exec_condSend : ∀ k (s : State), exec (.condSend k) s = execCondSend k s := fun _ _ => rfl
@[simp] theorem exec_detCond : ∀ f d body matchRep (s : State), exec (.detCond f d body matchRep) s = execDetCond f d body matchRep s := fun _ _ _ _ _ => rfl
@[simp] theorem exec_detStall : ∀ f d cycle (s : State), exec (.detStall f d cycle) s = execDetStall f d cycle s := fun _ _ _ _ => rfl
@[simp] theorem exec_detPause : ∀ f d cycle (s : State), exec (.detPause f d cycle) s = execDetPause f d cycle s := fun _ _ _ _ => rfl
@[simp] theorem exec_detResume : ∀ f d cycle (s : State), exec (.detResume f d cycle) s = execDetResume f d cycle s := fun _ _ _ _ => rfl
@[simp] theorem exec_detAbort : ∀ f d cycle (s : State), exec (.detAbort f d cycle) s = execDetAbort f d cycle s := fun _ _ _ _ => rfl
@[simp] theorem exec_detFault : ∀ f d cycle (s : State), exec (.detFault f d cycle) s = execDetFault f d cycle s := fun _ _ _ _ => rfl
@[simp] theorem exec_detTrig : ∀ f d k t (s : State), exec (.detTrig f d k t) s = execDetTrig f d k t s := fun _ _ _ _ _ => rfl
@[simp] theorem exec_detSyncLate : ∀ f d (s : State), exec (.detSyncLate f d) s = execDetSyncLate f d s := fun _ _ _ => rfl
@[simp] theorem exec_spanNoticeApply : ∀ k (s : State), exec (.spanNoticeApply k) s = execSpanNoticeApply k s := fun _ _ => rfl
@[simp] theorem exec_fabTrigSend : ∀ a bits (s : State), exec (.fabTrigSend a bits) s = execFabTrigSend a bits s := fun _ _ _ => rfl
@[simp] theorem exec_fabricTrigRaise : ∀ k (s : State), exec (.fabricTrigRaise k) s = execFabricTrigRaise k s := fun _ _ => rfl
@[simp] theorem exec_timeExchange : ∀ p (s : State), exec (.timeExchange p) s = execTimeExchange p s := fun _ _ => rfl
@[simp] theorem exec_exchangeTimeout : ∀ p (s : State), exec (.exchangeTimeout p) s = execExchangeTimeout p s := fun _ _ => rfl
@[simp] theorem exec_holdoverTimeout : ∀ s : State, exec .holdoverTimeout s = execHoldoverTimeout s := fun _ => rfl
@[simp] theorem exec_timeSet : ∀ a (s : State), exec (.timeSet a) s = execTimeSet a s := fun _ _ => rfl
@[simp] theorem exec_trimSlewStep : ∀ s : State, exec .trimSlewStep s = execTrimSlewStep s := fun _ => rfl
@[simp] theorem exec_pgEnable : ∀ a k (s : State), exec (.pgEnable a k) s = execPgEnable a k s := fun _ _ _ => rfl
@[simp] theorem exec_pulseFire : ∀ k (s : State), exec (.pulseFire k) s = execPulseFire k s := fun _ _ => rfl
@[simp] theorem exec_timeEsHeadRead : ∀ a (s : State), exec (.timeEsHeadRead a) s = execTimeEsHeadRead a s := fun _ _ => rfl
@[simp] theorem exec_dramRead : ∀ addr r chk act (s : State), exec (.dramRead addr r chk act) s = execDramRead addr r chk act s := fun _ _ _ _ _ => rfl
@[simp] theorem exec_dramWrite : ∀ addr r data act (s : State), exec (.dramWrite addr r data act) s = execDramWrite addr r data act s := fun _ _ _ _ _ => rfl
@[simp] theorem exec_scrubRead : ∀ n addr chk last (s : State), exec (.scrubRead n addr chk last) s = execScrubRead n addr chk last s := fun _ _ _ _ _ => rfl
@[simp] theorem exec_caParityAlert : ∀ n o (s : State), exec (.caParityAlert n o) s = execCaParityAlert n o s := fun _ _ _ => rfl
@[simp] theorem exec_caReplayTimeout : ∀ n (s : State), exec (.caReplayTimeout n) s = execCaReplayTimeout n s := fun _ _ => rfl
@[simp] theorem exec_idleSelfRefreshEnter : ∀ n (s : State), exec (.idleSelfRefreshEnter n) s = execIdleSelfRefreshEnter n s := fun _ _ => rfl
@[simp] theorem exec_rhThrottleEnd : ∀ n (s : State), exec (.rhThrottleEnd n) s = execRhThrottleEnd n s := fun _ _ => rfl
@[simp] theorem exec_rhWindowEnd : ∀ n (s : State), exec (.rhWindowEnd n) s = execRhWindowEnd n s := fun _ _ => rfl
@[simp] theorem exec_dramInit : ∀ a n (s : State), exec (.dramInit a n) s = execDramInit a n s := fun _ _ _ => rfl
@[simp] theorem exec_dramTrnCsSweep : ∀ a n rank sub (s : State), exec (.dramTrnCsSweep a n rank sub) s = execDramTrnCsSweep a n rank sub s := fun _ _ _ _ _ => rfl
@[simp] theorem exec_dramTrnCaSweep : ∀ a n rank sub (s : State), exec (.dramTrnCaSweep a n rank sub) s = execDramTrnCaSweep a n rank sub s := fun _ _ _ _ _ => rfl
@[simp] theorem exec_dramTrnMrw : ∀ a n rank sub (s : State), exec (.dramTrnMrw a n rank sub) s = execDramTrnMrw a n rank sub s := fun _ _ _ _ _ => rfl
@[simp] theorem exec_dramTrnMrr : ∀ a n rank sub (s : State), exec (.dramTrnMrr a n rank sub) s = execDramTrnMrr a n rank sub s := fun _ _ _ _ _ => rfl
@[simp] theorem exec_dramTrnWlevel : ∀ a n rank sub (s : State), exec (.dramTrnWlevel a n rank sub) s = execDramTrnWlevel a n rank sub s := fun _ _ _ _ _ => rfl
@[simp] theorem exec_dramTrnRdSweep : ∀ a n rank sub (s : State), exec (.dramTrnRdSweep a n rank sub) s = execDramTrnRdSweep a n rank sub s := fun _ _ _ _ _ => rfl
@[simp] theorem exec_dramTrnWrSweep : ∀ a n rank sub (s : State), exec (.dramTrnWrSweep a n rank sub) s = execDramTrnWrSweep a n rank sub s := fun _ _ _ _ _ => rfl
@[simp] theorem exec_dramTrnApply : ∀ a n rank sub (s : State), exec (.dramTrnApply a n rank sub) s = execDramTrnApply a n rank sub s := fun _ _ _ _ _ => rfl
@[simp] theorem exec_dramTrnVerify : ∀ a n rank sub (s : State), exec (.dramTrnVerify a n rank sub) s = execDramTrnVerify a n rank sub s := fun _ _ _ _ _ => rfl
@[simp] theorem exec_dramResume : ∀ a n rank sub (s : State), exec (.dramResume a n rank sub) s = execDramResume a n rank sub s := fun _ _ _ _ _ => rfl
@[simp] theorem exec_dramTrnRverify : ∀ a n rank sub (s : State), exec (.dramTrnRverify a n rank sub) s = execDramTrnRverify a n rank sub s := fun _ _ _ _ _ => rfl
@[simp] theorem exec_dramTrnDone : ∀ n passed windows errs (s : State), exec (.dramTrnDone n passed windows errs) s = execDramTrnDone n passed windows errs s := fun _ _ _ _ _ => rfl
@[simp] theorem exec_dramTrnTimeout : ∀ n (s : State), exec (.dramTrnTimeout n) s = execDramTrnTimeout n s := fun _ _ => rfl
@[simp] theorem exec_allocMap : ∀ a w chmask (s : State), exec (.allocMap a w chmask) s = execAllocMap a w chmask s := fun _ _ _ _ => rfl
@[simp] theorem exec_frameAlloc : ∀ a pool count (s : State), exec (.frameAlloc a pool count) s = execFrameAlloc a pool count s := fun _ _ _ _ => rfl
@[simp] theorem exec_frameFree : ∀ a pool count (s : State), exec (.frameFree a pool count) s = execFrameFree a pool count s := fun _ _ _ _ => rfl
@[simp] theorem exec_frameRetire : ∀ a (s : State), exec (.frameRetire a) s = execFrameRetire a s := fun _ _ => rfl
@[simp] theorem exec_frameQuery : ∀ a (s : State), exec (.frameQuery a) s = execFrameQuery a s := fun _ _ => rfl
@[simp] theorem exec_allocServe : ∀ s : State, exec .allocServe s = execAllocServe s := fun _ => rfl
@[simp] theorem exec_dmaStart : ∀ a ch v (s : State), exec (.dmaStart a ch v) s = execDmaStart a ch v s := fun _ _ _ _ => rfl
@[simp] theorem exec_dmaAbort : ∀ a ch (s : State), exec (.dmaAbort a ch) s = execDmaAbort a ch s := fun _ _ _ => rfl
@[simp] theorem exec_dmaDone : ∀ ch data fail (s : State), exec (.dmaDone ch data fail) s = execDmaDone ch data fail s := fun _ _ _ _ => rfl
@[simp] theorem exec_dmaQueueWaitEnd : ∀ ch (s : State), exec (.dmaQueueWaitEnd ch) s = execDmaQueueWaitEnd ch s := fun _ _ => rfl
@[simp] theorem exec_dmaQueueTimeout : ∀ ch (s : State), exec (.dmaQueueTimeout ch) s = execDmaQueueTimeout ch s := fun _ _ => rfl
@[simp] theorem exec_fqEnable : ∀ a k v (s : State), exec (.fqEnable a k v) s = execFqEnable a k v s := fun _ _ _ _ => rfl
@[simp] theorem exec_fqPush : ∀ a k hi (s : State), exec (.fqPush a k hi) s = execFqPush a k hi s := fun _ _ _ _ => rfl
@[simp] theorem exec_fqPop : ∀ a k chk (s : State), exec (.fqPop a k chk) s = execFqPop a k chk s := fun _ _ _ _ => rfl
@[simp] theorem exec_fqFlush : ∀ a k (s : State), exec (.fqFlush a k) s = execFqFlush a k s := fun _ _ _ => rfl
@[simp] theorem exec_hostLinkReset : ∀ s : State, exec .hostLinkReset s = execHostLinkReset s := fun _ => rfl
@[simp] theorem exec_pcieConfigRequest : ∀ req (s : State), exec (.pcieConfigRequest req) s = execPcieConfigRequest req s := fun _ _ => rfl
@[simp] theorem exec_bar2Read : ∀ off len chk (s : State), exec (.bar2Read off len chk) s = execBar2Read off len chk s := fun _ _ _ _ => rfl
@[simp] theorem exec_bar2Write : ∀ off data poisoned (s : State), exec (.bar2Write off data poisoned) s = execBar2Write off data poisoned s := fun _ _ _ _ => rfl
@[simp] theorem exec_hifOffer : ∀ a v (s : State), exec (.hifOffer a v) s = execHifOffer a v s := fun _ _ _ => rfl
@[simp] theorem exec_sqTailDoorbell : ∀ a q v (s : State), exec (.sqTailDoorbell a q v) s = execSqTailDoorbell a q v s := fun _ _ _ _ => rfl
@[simp] theorem exec_cqHeadDoorbell : ∀ a q v (s : State), exec (.cqHeadDoorbell a q v) s = execCqHeadDoorbell a q v s := fun _ _ _ _ => rfl
@[simp] theorem exec_commandFetch : ∀ q cmd (s : State), exec (.commandFetch q cmd) s = execCommandFetch q cmd s := fun _ _ _ => rfl
@[simp] theorem exec_hqNop : ∀ q (s : State), exec (.hqNop q) s = execHqNop q s := fun _ _ => rfl
@[simp] theorem exec_hqRegWrite : ∀ q (s : State), exec (.hqRegWrite q) s = execHqRegWrite q s := fun _ _ => rfl
@[simp] theorem exec_hqRegRead : ∀ q (s : State), exec (.hqRegRead q) s = execHqRegRead q s := fun _ _ => rfl
@[simp] theorem exec_hqXfer : ∀ q (s : State), exec (.hqXfer q) s = execHqXfer q s := fun _ _ => rfl
@[simp] theorem exec_hqFw : ∀ q (s : State), exec (.hqFw q) s = execHqFw q s := fun _ _ => rfl
@[simp] theorem exec_hqBadOpcode : ∀ q (s : State), exec (.hqBadOpcode q) s = execHqBadOpcode q s := fun _ _ => rfl
@[simp] theorem exec_completionPost : ∀ q (s : State), exec (.completionPost q) s = execCompletionPost q s := fun _ _ => rfl
@[simp] theorem exec_fwCpl : ∀ a hi (s : State), exec (.fwCpl a hi) s = execFwCpl a hi s := fun _ _ _ => rfl
@[simp] theorem exec_hqQueueEnable : ∀ a q v (s : State), exec (.hqQueueEnable a q v) s = execHqQueueEnable a q v s := fun _ _ _ _ => rfl
@[simp] theorem exec_hqQueueDisable : ∀ a q (s : State), exec (.hqQueueDisable a q) s = execHqQueueDisable a q s := fun _ _ _ => rfl
@[simp] theorem exec_rpCfgRd : ∀ a be (s : State), exec (.rpCfgRd a be) s = execRpCfgRd a be s := fun _ _ _ => rfl
@[simp] theorem exec_rpCfgWr : ∀ a be (s : State), exec (.rpCfgWr a be) s = execRpCfgWr a be s := fun _ _ _ => rfl
@[simp] theorem exec_rpMemRd : ∀ a be (s : State), exec (.rpMemRd a be) s = execRpMemRd a be s := fun _ _ _ => rfl
@[simp] theorem exec_rpMemWr : ∀ a be (s : State), exec (.rpMemWr a be) s = execRpMemWr a be s := fun _ _ _ => rfl
@[simp] theorem exec_rpCmdDone : ∀ res crs (s : State), exec (.rpCmdDone res crs) s = execRpCmdDone res crs s := fun _ _ _ => rfl
@[simp] theorem exec_rpInboundRequest : ∀ addr req (s : State), exec (.rpInboundRequest addr req) s = execRpInboundRequest addr req s := fun _ _ _ => rfl
@[simp] theorem exec_rpRetrain : ∀ a (s : State), exec (.rpRetrain a) s = execRpRetrain a s := fun _ _ => rfl
@[simp] theorem exec_calStart : ∀ a (s : State), exec (.calStart a) s = execCalStart a s := fun _ _ => rfl
@[simp] theorem exec_calTiaItem : ∀ hits (s : State), exec (.calTiaItem hits) s = execCalTiaItem hits s := fun _ _ => rfl
@[simp] theorem exec_calOutItem : ∀ stamps (s : State), exec (.calOutItem stamps) s = execCalOutItem stamps s := fun _ _ => rfl
@[simp] theorem exec_calThItem : ∀ readings sbFail (s : State), exec (.calThItem readings sbFail) s = execCalThItem readings sbFail s := fun _ _ _ => rfl
@[simp] theorem exec_calInItem : ∀ sweeps (s : State), exec (.calInItem sweeps) s = execCalInItem sweeps s := fun _ _ => rfl
@[simp] theorem exec_calDecItem : ∀ sums (s : State), exec (.calDecItem sums) s = execCalDecItem sums s := fun _ _ => rfl
@[simp] theorem exec_calGo : ∀ a (s : State), exec (.calGo a) s = execCalGo a s := fun _ _ => rfl
@[simp] theorem exec_calAbandon : ∀ a (s : State), exec (.calAbandon a) s = execCalAbandon a s := fun _ _ => rfl
@[simp] theorem exec_calRunTimeout : ∀ s : State, exec .calRunTimeout s = execCalRunTimeout s := fun _ => rfl
@[simp] theorem exec_calRestoreEnd : ∀ s : State, exec .calRestoreEnd s = execCalRestoreEnd s := fun _ => rfl
@[simp] theorem exec_calExportStart : ∀ a ver (s : State), exec (.calExportStart a ver) s = execCalExportStart a ver s := fun _ _ _ => rfl
@[simp] theorem exec_calExpDataRead : ∀ a chk (s : State), exec (.calExpDataRead a chk) s = execCalExpDataRead a chk s := fun _ _ _ => rfl
@[simp] theorem exec_calImportBegin : ∀ a (s : State), exec (.calImportBegin a) s = execCalImportBegin a s := fun _ _ => rfl
@[simp] theorem exec_calImportData : ∀ a v (s : State), exec (.calImportData a v) s = execCalImportData a v s := fun _ _ _ => rfl
@[simp] theorem exec_calImportCancel : ∀ a (s : State), exec (.calImportCancel a) s = execCalImportCancel a s := fun _ _ => rfl
@[simp] theorem exec_calImportCommit : ∀ a (s : State), exec (.calImportCommit a) s = execCalImportCommit a s := fun _ _ => rfl
@[simp] theorem exec_calImportApply : ∀ s : State, exec .calImportApply s = execCalImportApply s := fun _ => rfl
@[simp] theorem exec_partArm : ∀ a p (s : State), exec (.partArm a p) s = execPartArm a p s := fun _ _ _ => rfl
@[simp] theorem exec_partDisarm : ∀ a p (s : State), exec (.partDisarm a p) s = execPartDisarm a p s := fun _ _ _ => rfl
@[simp] theorem exec_partPause : ∀ a p (s : State), exec (.partPause a p) s = execPartPause a p s := fun _ _ _ => rfl
@[simp] theorem exec_partResume : ∀ a p (s : State), exec (.partResume a p) s = execPartResume a p s := fun _ _ _ => rfl
@[simp] theorem exec_partAbort : ∀ a p (s : State), exec (.partAbort a p) s = execPartAbort a p s := fun _ _ _ => rfl
@[simp] theorem exec_partService : ∀ a p (s : State), exec (.partService a p) s = execPartService a p s := fun _ _ _ => rfl
@[simp] theorem exec_partEndService : ∀ a p (s : State), exec (.partEndService a p) s = execPartEndService a p s := fun _ _ _ => rfl
@[simp] theorem exec_partIsolate : ∀ a p (s : State), exec (.partIsolate a p) s = execPartIsolate a p s := fun _ _ _ => rfl
@[simp] theorem exec_partRecover : ∀ a p (s : State), exec (.partRecover a p) s = execPartRecover a p s := fun _ _ _ => rfl
@[simp] theorem exec_partDefine : ∀ a p (s : State), exec (.partDefine a p) s = execPartDefine a p s := fun _ _ _ => rfl
@[simp] theorem exec_partUndefine : ∀ a p (s : State), exec (.partUndefine a p) s = execPartUndefine a p s := fun _ _ _ => rfl
@[simp] theorem exec_partRetire : ∀ a reg bits (s : State), exec (.partRetire a reg bits) s = execPartRetire a reg bits s := fun _ _ _ _ => rfl
@[simp] theorem exec_contextCheckPass : ∀ bad (s : State), exec (.contextCheckPass bad) s = execContextCheckPass bad s := fun _ _ => rfl
@[simp] theorem exec_srefLost : ∀ s : State, exec .srefLost s = execSrefLost s := fun _ => rfl
@[simp] theorem exec_srefBack : ∀ s : State, exec .srefBack s = execSrefBack s := fun _ => rfl
@[simp] theorem exec_railInRange : ∀ rail (s : State), exec (.railInRange rail) s = execRailInRange rail s := fun _ _ => rfl
@[simp] theorem exec_hostLinkUp : ∀ width speed (s : State), exec (.hostLinkUp width speed) s = execHostLinkUp width speed s := fun _ _ _ => rfl
@[simp] theorem exec_rpLinkChange : ∀ up width speed (s : State), exec (.rpLinkChange up width speed) s = execRpLinkChange up width speed s := fun _ _ _ _ => rfl
@[simp] theorem exec_msixTableWrite : ∀ off v (s : State), exec (.msixTableWrite off v) s = execMsixTableWrite off v s := fun _ _ _ => rfl
@[simp] theorem exec_busMasterCompletion : ∀ ch res (s : State), exec (.busMasterCompletion ch res) s = execBusMasterCompletion ch res s := fun _ _ _ => rfl
@[simp] theorem exec_mgmtInstruction : ∀ flash chk (s : State), exec (.mgmtInstruction flash chk) s = execMgmtInstruction flash chk s := fun _ _ _ => rfl
@[simp] theorem exec_mgmtInterrupt : ∀ s : State, exec .mgmtInterrupt s = execMgmtInterrupt s := fun _ => rfl
@[simp] theorem exec_detMessageLost : ∀ f mask1 mask2 (s : State), exec (.detMessageLost f mask1 mask2) s = execDetMessageLost f mask1 mask2 s := fun _ _ _ _ => rfl
@[simp] theorem exec_aspmL1Change : ∀ l1 (s : State), exec (.aspmL1Change l1) s = execAspmL1Change l1 s := fun _ _ => rfl

end Sys2Proof.Machine
end

