-- ==== Sys2Proof/Laws/Word.lean ====
section
/-! SUPPORT. Laws of the sparse data and of the bit fields of Word.lean. -/

namespace Sys2Proof

theorem sget_serase_self {α : Type} (d : α) (l : List (Nat × α)) (i : Nat) : sget d (serase l i) i = d := by
  induction l with
  | nil => rfl
  | cons e t ih =>
    obtain ⟨k, v⟩ := e
    simp only [serase]
    split
    · exact ih
    · simp_all [sget]

theorem sget_serase_other {α : Type} (d : α) (l : List (Nat × α)) {i j : Nat} (h : j ≠ i) :
    sget d (serase l i) j = sget d l j := by
  induction l with
  | nil => rfl
  | cons e t ih =>
    obtain ⟨k, v⟩ := e
    simp only [serase, sget]
    split
    · subst_vars; simp_all
    · simp [sget, ih]

theorem sget_sinsert_other {α : Type} (d : α) (l : List (Nat × α)) {i j : Nat} (v : α) (h : j ≠ i) :
    sget d (sinsert l i v) j = sget d l j := by
  induction l with
  | nil => simp [sinsert, sget, h]
  | cons e t ih =>
    obtain ⟨k, w⟩ := e
    simp only [sinsert]
    split
    · simp [sget, h]
    · simp [sget, ih]

theorem sget_sinsert_self {α : Type} (d : α) (l : List (Nat × α)) (i : Nat) (v : α) (h : ∀ e ∈ l, e.1 ≠ i) :
    sget d (sinsert l i v) i = v := by
  induction l with
  | nil => simp [sinsert, sget]
  | cons e t ih =>
    obtain ⟨k, w⟩ := e
    have hk : k ≠ i := h (k, w) (by simp)
    have ht : ∀ e ∈ t, e.1 ≠ i := fun e he => h e (by simp [he])
    simp only [sinsert]
    split
    · simp [sget]
    · simp [sget, Ne.symm hk, ih ht]

theorem serase_key {α : Type} (l : List (Nat × α)) (i : Nat) : ∀ e ∈ serase l i, e.1 ≠ i := by
  induction l with
  | nil => simp [serase]
  | cons e t ih =>
    obtain ⟨k, v⟩ := e
    intro x hx
    simp only [serase] at hx
    split at hx
    · exact ih x hx
    · rcases List.mem_cons.mp hx with rfl | hx
      · simpa using Ne.symm ‹_›
      · exact ih x hx

/-- Sparse data after a write reads the value written at its key. -/
@[simp] theorem sget_sset_self {α : Type} [DecidableEq α] (d : α) (l : List (Nat × α)) (i : Nat) (v : α) :
    sget d (sset d l i v) i = v := by
  unfold sset
  split
  · subst_vars; exact sget_serase_self _ l i
  · exact sget_sinsert_self d _ i v (serase_key l i)

/-- Sparse data after a write reads as before at every other key, whatever the two defaults. -/
theorem sget_sset_other {α : Type} [DecidableEq α] (d e : α) (l : List (Nat × α)) {i j : Nat} (v : α) (h : j ≠ i) :
    sget e (sset d l i v) j = sget e l j := by
  unfold sset
  split
  · exact sget_serase_other e l h
  · rw [sget_sinsert_other e _ v h, sget_serase_other e l h]

/-- The bits of a word after a field of it is written: those of the field are the low bits of what was written. -/
theorem testBit_putBits (v hi lo x i : Nat) :
    (putBits v hi lo x).testBit i = if lo ≤ i ∧ i < lo + (hi + 1 - lo) then x.testBit (i - lo) else v.testBit i := by
  unfold putBits bitsOf
  simp only [Nat.shiftRight_eq_div_pow]
  set n := hi + 1 - lo
  have hp : 0 < 2 ^ lo := Nat.two_pow_pos lo
  have hv : v = 2 ^ lo * (v / 2 ^ lo) + v % 2 ^ lo := (Nat.div_add_mod v _).symm
  have hm : v / 2 ^ lo = 2 ^ n * (v / 2 ^ lo / 2 ^ n) + v / 2 ^ lo % 2 ^ n := (Nat.div_add_mod _ _).symm
  have hr : v % 2 ^ lo < 2 ^ lo := Nat.mod_lt _ hp
  have hb : v / 2 ^ lo % 2 ^ n < 2 ^ n := Nat.mod_lt _ (Nat.two_pow_pos n)
  have hx : x % 2 ^ n < 2 ^ n := Nat.mod_lt _ (Nat.two_pow_pos n)
  generalize v / 2 ^ lo / 2 ^ n = a at hm
  generalize v / 2 ^ lo % 2 ^ n = b at *
  generalize v % 2 ^ lo = r at *
  have h0 : v = 2 ^ lo * (2 ^ n * a + b) + r := by rw [← hm]; exact hv
  have h1 : v - b * 2 ^ lo + x % 2 ^ n * 2 ^ lo = 2 ^ lo * (2 ^ n * a + x % 2 ^ n) + r := by
    rw [h0]; ring_nf; omega
  rw [h1, h0, Nat.testBit_two_pow_mul_add _ hr, Nat.testBit_two_pow_mul_add _ hr, Nat.testBit_two_pow_mul_add _ hx,
    Nat.testBit_two_pow_mul_add _ hb, Nat.testBit_mod_two_pow]
  by_cases c1 : i < lo
  · have : ¬ (lo ≤ i ∧ i < lo + n) := by omega
    simp [c1, this]
  · by_cases c2 : i - lo < n
    · have : lo ≤ i ∧ i < lo + n := by omega
      simp [c1, c2, this]
    · have : ¬ (lo ≤ i ∧ i < lo + n) := by omega
      simp [c1, c2, this]

/-- The bits of a field. -/
theorem testBit_bitsOf (v hi lo i : Nat) : (bitsOf v hi lo).testBit i = (decide (i < hi + 1 - lo) && v.testBit (lo + i)) := by
  unfold bitsOf
  rw [Nat.testBit_mod_two_pow, Nat.testBit_shiftRight]

/-- A field after it is written holds the low bits of what was written. -/
theorem bitsOf_putBits (v hi lo x : Nat) : bitsOf (putBits v hi lo x) hi lo = x % 2 ^ (hi + 1 - lo) := by
  apply Nat.eq_of_testBit_eq
  intro i
  rw [testBit_bitsOf, testBit_putBits, Nat.testBit_mod_two_pow]
  by_cases h : i < hi + 1 - lo
  · have : lo ≤ lo + i ∧ lo + i < lo + (hi + 1 - lo) := by omega
    simp only [this, if_true, and_self, h, decide_true, Bool.true_and]
    congr 1; omega
  · simp [h]

/-- A field that lies apart from the one written keeps its value. -/
theorem bitsOf_putBits_other (v hi lo x hi' lo' : Nat) (h : hi' < lo ∨ hi < lo') :
    bitsOf (putBits v hi lo x) hi' lo' = bitsOf v hi' lo' := by
  apply Nat.eq_of_testBit_eq
  intro i
  rw [testBit_bitsOf, testBit_bitsOf, testBit_putBits]
  by_cases c : i < hi' + 1 - lo'
  · have : ¬ (lo ≤ lo' + i ∧ lo' + i < lo + (hi + 1 - lo)) := by omega
    simp [this]
  · simp [c]

/-- A word of `n` bits stays one when a field within it is written. -/
theorem putBits_lt (v hi lo x n : Nat) (hv : v < 2 ^ n) (h : hi < n) : putBits v hi lo x < 2 ^ n := by
  apply Nat.lt_pow_two_of_testBit
  intro i hi'
  rw [testBit_putBits]
  split
  · omega
  · exact Nat.testBit_lt_two_pow (lt_of_lt_of_le hv (Nat.pow_le_pow_right (by decide) hi'))

theorem bitsOf_lt (v hi lo : Nat) : bitsOf v hi lo < 2 ^ (hi + 1 - lo) := Nat.mod_lt _ (Nat.two_pow_pos _)

end Sys2Proof
end

