-- ==== Sys2Proof/Laws/State.lean ====
section
/-! SUPPORT. What an update of a register leaves alone: one lemma per field of State and update; and what an update of the
processors, of the answer and of the free-value counter leaves alone. -/

namespace Sys2Proof.Machine

open Sys2Proof

@[simp] theorem State.setReg_pending (s : State) (o : Nat) (v : Word) : (s.setReg o v).pending = s.pending := rfl
@[simp] theorem State.setReg_free (s : State) (o : Nat) (v : Word) : (s.setReg o v).free = s.free := rfl
@[simp] theorem State.setReg_dclk (s : State) (o : Nat) (v : Word) : (s.setReg o v).dclk = s.dclk := rfl
@[simp] theorem State.setReg_lastRead (s : State) (o : Nat) (v : Word) : (s.setReg o v).lastRead = s.lastRead := rfl
@[simp] theorem State.setReg_act (s : State) (o : Nat) (v : Word) : (s.setReg o v).act = s.act := rfl
@[simp] theorem State.setReg_tabs (s : State) (o : Nat) (v : Word) : (s.setReg o v).tabs = s.tabs := rfl
@[simp] theorem State.setReg_tabAct (s : State) (o : Nat) (v : Word) : (s.setReg o v).tabAct = s.tabAct := rfl
@[simp] theorem State.setReg_tabLatch (s : State) (o : Nat) (v : Word) : (s.setReg o v).tabLatch = s.tabLatch := rfl
@[simp] theorem State.setReg_loLatch (s : State) (o : Nat) (v : Word) : (s.setReg o v).loLatch = s.loLatch := rfl
@[simp] theorem State.setReg_dev (s : State) (o : Nat) (v : Word) : (s.setReg o v).dev = s.dev := rfl
@[simp] theorem State.setReg_monel (s : State) (o : Nat) (v : Word) : (s.setReg o v).monel = s.monel := rfl
@[simp] theorem State.setReg_hic (s : State) (o : Nat) (v : Word) : (s.setReg o v).hic = s.hic := rfl
@[simp] theorem State.setReg_sched (s : State) (o : Nat) (v : Word) : (s.setReg o v).sched = s.sched := rfl
@[simp] theorem State.setReg_cpu (s : State) (o : Nat) (v : Word) : (s.setReg o v).cpu = s.cpu := rfl
@[simp] theorem State.setReg_dram (s : State) (o : Nat) (v : Word) : (s.setReg o v).dram = s.dram := rfl
@[simp] theorem State.setReg_time (s : State) (o : Nat) (v : Word) : (s.setReg o v).time = s.time := rfl
@[simp] theorem State.setReg_part (s : State) (o : Nat) (v : Word) : (s.setReg o v).part = s.part := rfl
@[simp] theorem State.setReg_seqs (s : State) (o : Nat) (v : Word) : (s.setReg o v).seqs = s.seqs := rfl
@[simp] theorem State.setReg_master (s : State) (o : Nat) (v : Word) : (s.setReg o v).master = s.master := rfl
@[simp] theorem State.setReg_tgs (s : State) (o : Nat) (v : Word) : (s.setReg o v).tgs = s.tgs := rfl
@[simp] theorem State.setReg_pins (s : State) (o : Nat) (v : Word) : (s.setReg o v).pins = s.pins := rfl
@[simp] theorem State.setReg_pager (s : State) (o : Nat) (v : Word) : (s.setReg o v).pager = s.pager := rfl
@[simp] theorem State.setReg_cus (s : State) (o : Nat) (v : Word) : (s.setReg o v).cus = s.cus := rfl
@[simp] theorem State.setReg_tus (s : State) (o : Nat) (v : Word) : (s.setReg o v).tus = s.tus := rfl
@[simp] theorem State.setReg_fronts (s : State) (o : Nat) (v : Word) : (s.setReg o v).fronts = s.fronts := rfl
@[simp] theorem State.setReg_decs (s : State) (o : Nat) (v : Word) : (s.setReg o v).decs = s.decs := rfl
@[simp] theorem State.setReg_syns (s : State) (o : Nat) (v : Word) : (s.setReg o v).syns = s.syns := rfl
@[simp] theorem State.setReg_cal (s : State) (o : Nat) (v : Word) : (s.setReg o v).cal = s.cal := rfl
@[simp] theorem State.setReg_fq (s : State) (o : Nat) (v : Word) : (s.setReg o v).fq = s.fq := rfl
@[simp] theorem State.setReg_mover (s : State) (o : Nat) (v : Word) : (s.setReg o v).mover = s.mover := rfl
@[simp] theorem State.setReg_fab (s : State) (o : Nat) (v : Word) : (s.setReg o v).fab = s.fab := rfl
@[simp] theorem State.setReg_host (s : State) (o : Nat) (v : Word) : (s.setReg o v).host = s.host := rfl
@[simp] theorem State.setReg_hostOut (s : State) (o : Nat) (v : Word) : (s.setReg o v).hostOut = s.hostOut := rfl

@[simp] theorem State.setFld_pending (s : State) (f : Fld) (v : Nat) : (s.setFld f v).pending = s.pending := rfl
@[simp] theorem State.setFld_free (s : State) (f : Fld) (v : Nat) : (s.setFld f v).free = s.free := rfl
@[simp] theorem State.setFld_dclk (s : State) (f : Fld) (v : Nat) : (s.setFld f v).dclk = s.dclk := rfl
@[simp] theorem State.setFld_lastRead (s : State) (f : Fld) (v : Nat) : (s.setFld f v).lastRead = s.lastRead := rfl
@[simp] theorem State.setFld_act (s : State) (f : Fld) (v : Nat) : (s.setFld f v).act = s.act := rfl
@[simp] theorem State.setFld_tabs (s : State) (f : Fld) (v : Nat) : (s.setFld f v).tabs = s.tabs := rfl
@[simp] theorem State.setFld_tabAct (s : State) (f : Fld) (v : Nat) : (s.setFld f v).tabAct = s.tabAct := rfl
@[simp] theorem State.setFld_tabLatch (s : State) (f : Fld) (v : Nat) : (s.setFld f v).tabLatch = s.tabLatch := rfl
@[simp] theorem State.setFld_loLatch (s : State) (f : Fld) (v : Nat) : (s.setFld f v).loLatch = s.loLatch := rfl
@[simp] theorem State.setFld_dev (s : State) (f : Fld) (v : Nat) : (s.setFld f v).dev = s.dev := rfl
@[simp] theorem State.setFld_monel (s : State) (f : Fld) (v : Nat) : (s.setFld f v).monel = s.monel := rfl
@[simp] theorem State.setFld_hic (s : State) (f : Fld) (v : Nat) : (s.setFld f v).hic = s.hic := rfl
@[simp] theorem State.setFld_sched (s : State) (f : Fld) (v : Nat) : (s.setFld f v).sched = s.sched := rfl
@[simp] theorem State.setFld_cpu (s : State) (f : Fld) (v : Nat) : (s.setFld f v).cpu = s.cpu := rfl
@[simp] theorem State.setFld_dram (s : State) (f : Fld) (v : Nat) : (s.setFld f v).dram = s.dram := rfl
@[simp] theorem State.setFld_time (s : State) (f : Fld) (v : Nat) : (s.setFld f v).time = s.time := rfl
@[simp] theorem State.setFld_part (s : State) (f : Fld) (v : Nat) : (s.setFld f v).part = s.part := rfl
@[simp] theorem State.setFld_seqs (s : State) (f : Fld) (v : Nat) : (s.setFld f v).seqs = s.seqs := rfl
@[simp] theorem State.setFld_master (s : State) (f : Fld) (v : Nat) : (s.setFld f v).master = s.master := rfl
@[simp] theorem State.setFld_tgs (s : State) (f : Fld) (v : Nat) : (s.setFld f v).tgs = s.tgs := rfl
@[simp] theorem State.setFld_pins (s : State) (f : Fld) (v : Nat) : (s.setFld f v).pins = s.pins := rfl
@[simp] theorem State.setFld_pager (s : State) (f : Fld) (v : Nat) : (s.setFld f v).pager = s.pager := rfl
@[simp] theorem State.setFld_cus (s : State) (f : Fld) (v : Nat) : (s.setFld f v).cus = s.cus := rfl
@[simp] theorem State.setFld_tus (s : State) (f : Fld) (v : Nat) : (s.setFld f v).tus = s.tus := rfl
@[simp] theorem State.setFld_fronts (s : State) (f : Fld) (v : Nat) : (s.setFld f v).fronts = s.fronts := rfl
@[simp] theorem State.setFld_decs (s : State) (f : Fld) (v : Nat) : (s.setFld f v).decs = s.decs := rfl
@[simp] theorem State.setFld_syns (s : State) (f : Fld) (v : Nat) : (s.setFld f v).syns = s.syns := rfl
@[simp] theorem State.setFld_cal (s : State) (f : Fld) (v : Nat) : (s.setFld f v).cal = s.cal := rfl
@[simp] theorem State.setFld_fq (s : State) (f : Fld) (v : Nat) : (s.setFld f v).fq = s.fq := rfl
@[simp] theorem State.setFld_mover (s : State) (f : Fld) (v : Nat) : (s.setFld f v).mover = s.mover := rfl
@[simp] theorem State.setFld_fab (s : State) (f : Fld) (v : Nat) : (s.setFld f v).fab = s.fab := rfl
@[simp] theorem State.setFld_host (s : State) (f : Fld) (v : Nat) : (s.setFld f v).host = s.host := rfl
@[simp] theorem State.setFld_hostOut (s : State) (f : Fld) (v : Nat) : (s.setFld f v).hostOut = s.hostOut := rfl

@[simp] theorem State.setFlag_pending (s : State) (f : Fld) (b : Bool) : (s.setFlag f b).pending = s.pending := rfl
@[simp] theorem State.setFlag_free (s : State) (f : Fld) (b : Bool) : (s.setFlag f b).free = s.free := rfl
@[simp] theorem State.setFlag_dclk (s : State) (f : Fld) (b : Bool) : (s.setFlag f b).dclk = s.dclk := rfl
@[simp] theorem State.setFlag_lastRead (s : State) (f : Fld) (b : Bool) : (s.setFlag f b).lastRead = s.lastRead := rfl
@[simp] theorem State.setFlag_act (s : State) (f : Fld) (b : Bool) : (s.setFlag f b).act = s.act := rfl
@[simp] theorem State.setFlag_tabs (s : State) (f : Fld) (b : Bool) : (s.setFlag f b).tabs = s.tabs := rfl
@[simp] theorem State.setFlag_tabAct (s : State) (f : Fld) (b : Bool) : (s.setFlag f b).tabAct = s.tabAct := rfl
@[simp] theorem State.setFlag_tabLatch (s : State) (f : Fld) (b : Bool) : (s.setFlag f b).tabLatch = s.tabLatch := rfl
@[simp] theorem State.setFlag_loLatch (s : State) (f : Fld) (b : Bool) : (s.setFlag f b).loLatch = s.loLatch := rfl
@[simp] theorem State.setFlag_dev (s : State) (f : Fld) (b : Bool) : (s.setFlag f b).dev = s.dev := rfl
@[simp] theorem State.setFlag_monel (s : State) (f : Fld) (b : Bool) : (s.setFlag f b).monel = s.monel := rfl
@[simp] theorem State.setFlag_hic (s : State) (f : Fld) (b : Bool) : (s.setFlag f b).hic = s.hic := rfl
@[simp] theorem State.setFlag_sched (s : State) (f : Fld) (b : Bool) : (s.setFlag f b).sched = s.sched := rfl
@[simp] theorem State.setFlag_cpu (s : State) (f : Fld) (b : Bool) : (s.setFlag f b).cpu = s.cpu := rfl
@[simp] theorem State.setFlag_dram (s : State) (f : Fld) (b : Bool) : (s.setFlag f b).dram = s.dram := rfl
@[simp] theorem State.setFlag_time (s : State) (f : Fld) (b : Bool) : (s.setFlag f b).time = s.time := rfl
@[simp] theorem State.setFlag_part (s : State) (f : Fld) (b : Bool) : (s.setFlag f b).part = s.part := rfl
@[simp] theorem State.setFlag_seqs (s : State) (f : Fld) (b : Bool) : (s.setFlag f b).seqs = s.seqs := rfl
@[simp] theorem State.setFlag_master (s : State) (f : Fld) (b : Bool) : (s.setFlag f b).master = s.master := rfl
@[simp] theorem State.setFlag_tgs (s : State) (f : Fld) (b : Bool) : (s.setFlag f b).tgs = s.tgs := rfl
@[simp] theorem State.setFlag_pins (s : State) (f : Fld) (b : Bool) : (s.setFlag f b).pins = s.pins := rfl
@[simp] theorem State.setFlag_pager (s : State) (f : Fld) (b : Bool) : (s.setFlag f b).pager = s.pager := rfl
@[simp] theorem State.setFlag_cus (s : State) (f : Fld) (b : Bool) : (s.setFlag f b).cus = s.cus := rfl
@[simp] theorem State.setFlag_tus (s : State) (f : Fld) (b : Bool) : (s.setFlag f b).tus = s.tus := rfl
@[simp] theorem State.setFlag_fronts (s : State) (f : Fld) (b : Bool) : (s.setFlag f b).fronts = s.fronts := rfl
@[simp] theorem State.setFlag_decs (s : State) (f : Fld) (b : Bool) : (s.setFlag f b).decs = s.decs := rfl
@[simp] theorem State.setFlag_syns (s : State) (f : Fld) (b : Bool) : (s.setFlag f b).syns = s.syns := rfl
@[simp] theorem State.setFlag_cal (s : State) (f : Fld) (b : Bool) : (s.setFlag f b).cal = s.cal := rfl
@[simp] theorem State.setFlag_fq (s : State) (f : Fld) (b : Bool) : (s.setFlag f b).fq = s.fq := rfl
@[simp] theorem State.setFlag_mover (s : State) (f : Fld) (b : Bool) : (s.setFlag f b).mover = s.mover := rfl
@[simp] theorem State.setFlag_fab (s : State) (f : Fld) (b : Bool) : (s.setFlag f b).fab = s.fab := rfl
@[simp] theorem State.setFlag_host (s : State) (f : Fld) (b : Bool) : (s.setFlag f b).host = s.host := rfl
@[simp] theorem State.setFlag_hostOut (s : State) (f : Fld) (b : Bool) : (s.setFlag f b).hostOut = s.hostOut := rfl

@[simp] theorem State.orReg_pending (s : State) (o : Nat) (m : Word) : (s.orReg o m).pending = s.pending := rfl
@[simp] theorem State.orReg_free (s : State) (o : Nat) (m : Word) : (s.orReg o m).free = s.free := rfl
@[simp] theorem State.orReg_dclk (s : State) (o : Nat) (m : Word) : (s.orReg o m).dclk = s.dclk := rfl
@[simp] theorem State.orReg_lastRead (s : State) (o : Nat) (m : Word) : (s.orReg o m).lastRead = s.lastRead := rfl
@[simp] theorem State.orReg_act (s : State) (o : Nat) (m : Word) : (s.orReg o m).act = s.act := rfl
@[simp] theorem State.orReg_tabs (s : State) (o : Nat) (m : Word) : (s.orReg o m).tabs = s.tabs := rfl
@[simp] theorem State.orReg_tabAct (s : State) (o : Nat) (m : Word) : (s.orReg o m).tabAct = s.tabAct := rfl
@[simp] theorem State.orReg_tabLatch (s : State) (o : Nat) (m : Word) : (s.orReg o m).tabLatch = s.tabLatch := rfl
@[simp] theorem State.orReg_loLatch (s : State) (o : Nat) (m : Word) : (s.orReg o m).loLatch = s.loLatch := rfl
@[simp] theorem State.orReg_dev (s : State) (o : Nat) (m : Word) : (s.orReg o m).dev = s.dev := rfl
@[simp] theorem State.orReg_monel (s : State) (o : Nat) (m : Word) : (s.orReg o m).monel = s.monel := rfl
@[simp] theorem State.orReg_hic (s : State) (o : Nat) (m : Word) : (s.orReg o m).hic = s.hic := rfl
@[simp] theorem State.orReg_sched (s : State) (o : Nat) (m : Word) : (s.orReg o m).sched = s.sched := rfl
@[simp] theorem State.orReg_cpu (s : State) (o : Nat) (m : Word) : (s.orReg o m).cpu = s.cpu := rfl
@[simp] theorem State.orReg_dram (s : State) (o : Nat) (m : Word) : (s.orReg o m).dram = s.dram := rfl
@[simp] theorem State.orReg_time (s : State) (o : Nat) (m : Word) : (s.orReg o m).time = s.time := rfl
@[simp] theorem State.orReg_part (s : State) (o : Nat) (m : Word) : (s.orReg o m).part = s.part := rfl
@[simp] theorem State.orReg_seqs (s : State) (o : Nat) (m : Word) : (s.orReg o m).seqs = s.seqs := rfl
@[simp] theorem State.orReg_master (s : State) (o : Nat) (m : Word) : (s.orReg o m).master = s.master := rfl
@[simp] theorem State.orReg_tgs (s : State) (o : Nat) (m : Word) : (s.orReg o m).tgs = s.tgs := rfl
@[simp] theorem State.orReg_pins (s : State) (o : Nat) (m : Word) : (s.orReg o m).pins = s.pins := rfl
@[simp] theorem State.orReg_pager (s : State) (o : Nat) (m : Word) : (s.orReg o m).pager = s.pager := rfl
@[simp] theorem State.orReg_cus (s : State) (o : Nat) (m : Word) : (s.orReg o m).cus = s.cus := rfl
@[simp] theorem State.orReg_tus (s : State) (o : Nat) (m : Word) : (s.orReg o m).tus = s.tus := rfl
@[simp] theorem State.orReg_fronts (s : State) (o : Nat) (m : Word) : (s.orReg o m).fronts = s.fronts := rfl
@[simp] theorem State.orReg_decs (s : State) (o : Nat) (m : Word) : (s.orReg o m).decs = s.decs := rfl
@[simp] theorem State.orReg_syns (s : State) (o : Nat) (m : Word) : (s.orReg o m).syns = s.syns := rfl
@[simp] theorem State.orReg_cal (s : State) (o : Nat) (m : Word) : (s.orReg o m).cal = s.cal := rfl
@[simp] theorem State.orReg_fq (s : State) (o : Nat) (m : Word) : (s.orReg o m).fq = s.fq := rfl
@[simp] theorem State.orReg_mover (s : State) (o : Nat) (m : Word) : (s.orReg o m).mover = s.mover := rfl
@[simp] theorem State.orReg_fab (s : State) (o : Nat) (m : Word) : (s.orReg o m).fab = s.fab := rfl
@[simp] theorem State.orReg_host (s : State) (o : Nat) (m : Word) : (s.orReg o m).host = s.host := rfl
@[simp] theorem State.orReg_hostOut (s : State) (o : Nat) (m : Word) : (s.orReg o m).hostOut = s.hostOut := rfl

@[simp] theorem State.clrReg_pending (s : State) (o : Nat) (m : Word) : (s.clrReg o m).pending = s.pending := rfl
@[simp] theorem State.clrReg_free (s : State) (o : Nat) (m : Word) : (s.clrReg o m).free = s.free := rfl
@[simp] theorem State.clrReg_dclk (s : State) (o : Nat) (m : Word) : (s.clrReg o m).dclk = s.dclk := rfl
@[simp] theorem State.clrReg_lastRead (s : State) (o : Nat) (m : Word) : (s.clrReg o m).lastRead = s.lastRead := rfl
@[simp] theorem State.clrReg_act (s : State) (o : Nat) (m : Word) : (s.clrReg o m).act = s.act := rfl
@[simp] theorem State.clrReg_tabs (s : State) (o : Nat) (m : Word) : (s.clrReg o m).tabs = s.tabs := rfl
@[simp] theorem State.clrReg_tabAct (s : State) (o : Nat) (m : Word) : (s.clrReg o m).tabAct = s.tabAct := rfl
@[simp] theorem State.clrReg_tabLatch (s : State) (o : Nat) (m : Word) : (s.clrReg o m).tabLatch = s.tabLatch := rfl
@[simp] theorem State.clrReg_loLatch (s : State) (o : Nat) (m : Word) : (s.clrReg o m).loLatch = s.loLatch := rfl
@[simp] theorem State.clrReg_dev (s : State) (o : Nat) (m : Word) : (s.clrReg o m).dev = s.dev := rfl
@[simp] theorem State.clrReg_monel (s : State) (o : Nat) (m : Word) : (s.clrReg o m).monel = s.monel := rfl
@[simp] theorem State.clrReg_hic (s : State) (o : Nat) (m : Word) : (s.clrReg o m).hic = s.hic := rfl
@[simp] theorem State.clrReg_sched (s : State) (o : Nat) (m : Word) : (s.clrReg o m).sched = s.sched := rfl
@[simp] theorem State.clrReg_cpu (s : State) (o : Nat) (m : Word) : (s.clrReg o m).cpu = s.cpu := rfl
@[simp] theorem State.clrReg_dram (s : State) (o : Nat) (m : Word) : (s.clrReg o m).dram = s.dram := rfl
@[simp] theorem State.clrReg_time (s : State) (o : Nat) (m : Word) : (s.clrReg o m).time = s.time := rfl
@[simp] theorem State.clrReg_part (s : State) (o : Nat) (m : Word) : (s.clrReg o m).part = s.part := rfl
@[simp] theorem State.clrReg_seqs (s : State) (o : Nat) (m : Word) : (s.clrReg o m).seqs = s.seqs := rfl
@[simp] theorem State.clrReg_master (s : State) (o : Nat) (m : Word) : (s.clrReg o m).master = s.master := rfl
@[simp] theorem State.clrReg_tgs (s : State) (o : Nat) (m : Word) : (s.clrReg o m).tgs = s.tgs := rfl
@[simp] theorem State.clrReg_pins (s : State) (o : Nat) (m : Word) : (s.clrReg o m).pins = s.pins := rfl
@[simp] theorem State.clrReg_pager (s : State) (o : Nat) (m : Word) : (s.clrReg o m).pager = s.pager := rfl
@[simp] theorem State.clrReg_cus (s : State) (o : Nat) (m : Word) : (s.clrReg o m).cus = s.cus := rfl
@[simp] theorem State.clrReg_tus (s : State) (o : Nat) (m : Word) : (s.clrReg o m).tus = s.tus := rfl
@[simp] theorem State.clrReg_fronts (s : State) (o : Nat) (m : Word) : (s.clrReg o m).fronts = s.fronts := rfl
@[simp] theorem State.clrReg_decs (s : State) (o : Nat) (m : Word) : (s.clrReg o m).decs = s.decs := rfl
@[simp] theorem State.clrReg_syns (s : State) (o : Nat) (m : Word) : (s.clrReg o m).syns = s.syns := rfl
@[simp] theorem State.clrReg_cal (s : State) (o : Nat) (m : Word) : (s.clrReg o m).cal = s.cal := rfl
@[simp] theorem State.clrReg_fq (s : State) (o : Nat) (m : Word) : (s.clrReg o m).fq = s.fq := rfl
@[simp] theorem State.clrReg_mover (s : State) (o : Nat) (m : Word) : (s.clrReg o m).mover = s.mover := rfl
@[simp] theorem State.clrReg_fab (s : State) (o : Nat) (m : Word) : (s.clrReg o m).fab = s.fab := rfl
@[simp] theorem State.clrReg_host (s : State) (o : Nat) (m : Word) : (s.clrReg o m).host = s.host := rfl
@[simp] theorem State.clrReg_hostOut (s : State) (o : Nat) (m : Word) : (s.clrReg o m).hostOut = s.hostOut := rfl

@[simp] theorem State.setBit_pending (s : State) (o i : Nat) (b : Bool) : (s.setBit o i b).pending = s.pending := by unfold State.setBit; split <;> rfl
@[simp] theorem State.setBit_free (s : State) (o i : Nat) (b : Bool) : (s.setBit o i b).free = s.free := by unfold State.setBit; split <;> rfl
@[simp] theorem State.setBit_dclk (s : State) (o i : Nat) (b : Bool) : (s.setBit o i b).dclk = s.dclk := by unfold State.setBit; split <;> rfl
@[simp] theorem State.setBit_lastRead (s : State) (o i : Nat) (b : Bool) : (s.setBit o i b).lastRead = s.lastRead := by unfold State.setBit; split <;> rfl
@[simp] theorem State.setBit_act (s : State) (o i : Nat) (b : Bool) : (s.setBit o i b).act = s.act := by unfold State.setBit; split <;> rfl
@[simp] theorem State.setBit_tabs (s : State) (o i : Nat) (b : Bool) : (s.setBit o i b).tabs = s.tabs := by unfold State.setBit; split <;> rfl
@[simp] theorem State.setBit_tabAct (s : State) (o i : Nat) (b : Bool) : (s.setBit o i b).tabAct = s.tabAct := by unfold State.setBit; split <;> rfl
@[simp] theorem State.setBit_tabLatch (s : State) (o i : Nat) (b : Bool) : (s.setBit o i b).tabLatch = s.tabLatch := by unfold State.setBit; split <;> rfl
@[simp] theorem State.setBit_loLatch (s : State) (o i : Nat) (b : Bool) : (s.setBit o i b).loLatch = s.loLatch := by unfold State.setBit; split <;> rfl
@[simp] theorem State.setBit_dev (s : State) (o i : Nat) (b : Bool) : (s.setBit o i b).dev = s.dev := by unfold State.setBit; split <;> rfl
@[simp] theorem State.setBit_monel (s : State) (o i : Nat) (b : Bool) : (s.setBit o i b).monel = s.monel := by unfold State.setBit; split <;> rfl
@[simp] theorem State.setBit_hic (s : State) (o i : Nat) (b : Bool) : (s.setBit o i b).hic = s.hic := by unfold State.setBit; split <;> rfl
@[simp] theorem State.setBit_sched (s : State) (o i : Nat) (b : Bool) : (s.setBit o i b).sched = s.sched := by unfold State.setBit; split <;> rfl
@[simp] theorem State.setBit_cpu (s : State) (o i : Nat) (b : Bool) : (s.setBit o i b).cpu = s.cpu := by unfold State.setBit; split <;> rfl
@[simp] theorem State.setBit_dram (s : State) (o i : Nat) (b : Bool) : (s.setBit o i b).dram = s.dram := by unfold State.setBit; split <;> rfl
@[simp] theorem State.setBit_time (s : State) (o i : Nat) (b : Bool) : (s.setBit o i b).time = s.time := by unfold State.setBit; split <;> rfl
@[simp] theorem State.setBit_part (s : State) (o i : Nat) (b : Bool) : (s.setBit o i b).part = s.part := by unfold State.setBit; split <;> rfl
@[simp] theorem State.setBit_seqs (s : State) (o i : Nat) (b : Bool) : (s.setBit o i b).seqs = s.seqs := by unfold State.setBit; split <;> rfl
@[simp] theorem State.setBit_master (s : State) (o i : Nat) (b : Bool) : (s.setBit o i b).master = s.master := by unfold State.setBit; split <;> rfl
@[simp] theorem State.setBit_tgs (s : State) (o i : Nat) (b : Bool) : (s.setBit o i b).tgs = s.tgs := by unfold State.setBit; split <;> rfl
@[simp] theorem State.setBit_pins (s : State) (o i : Nat) (b : Bool) : (s.setBit o i b).pins = s.pins := by unfold State.setBit; split <;> rfl
@[simp] theorem State.setBit_pager (s : State) (o i : Nat) (b : Bool) : (s.setBit o i b).pager = s.pager := by unfold State.setBit; split <;> rfl
@[simp] theorem State.setBit_cus (s : State) (o i : Nat) (b : Bool) : (s.setBit o i b).cus = s.cus := by unfold State.setBit; split <;> rfl
@[simp] theorem State.setBit_tus (s : State) (o i : Nat) (b : Bool) : (s.setBit o i b).tus = s.tus := by unfold State.setBit; split <;> rfl
@[simp] theorem State.setBit_fronts (s : State) (o i : Nat) (b : Bool) : (s.setBit o i b).fronts = s.fronts := by unfold State.setBit; split <;> rfl
@[simp] theorem State.setBit_decs (s : State) (o i : Nat) (b : Bool) : (s.setBit o i b).decs = s.decs := by unfold State.setBit; split <;> rfl
@[simp] theorem State.setBit_syns (s : State) (o i : Nat) (b : Bool) : (s.setBit o i b).syns = s.syns := by unfold State.setBit; split <;> rfl
@[simp] theorem State.setBit_cal (s : State) (o i : Nat) (b : Bool) : (s.setBit o i b).cal = s.cal := by unfold State.setBit; split <;> rfl
@[simp] theorem State.setBit_fq (s : State) (o i : Nat) (b : Bool) : (s.setBit o i b).fq = s.fq := by unfold State.setBit; split <;> rfl
@[simp] theorem State.setBit_mover (s : State) (o i : Nat) (b : Bool) : (s.setBit o i b).mover = s.mover := by unfold State.setBit; split <;> rfl
@[simp] theorem State.setBit_fab (s : State) (o i : Nat) (b : Bool) : (s.setBit o i b).fab = s.fab := by unfold State.setBit; split <;> rfl
@[simp] theorem State.setBit_host (s : State) (o i : Nat) (b : Bool) : (s.setBit o i b).host = s.host := by unfold State.setBit; split <;> rfl
@[simp] theorem State.setBit_hostOut (s : State) (o i : Nat) (b : Bool) : (s.setBit o i b).hostOut = s.hostOut := by unfold State.setBit; split <;> rfl

@[simp] theorem State.count_pending (s : State) (o : Nat) : (s.count o).pending = s.pending := rfl
@[simp] theorem State.count_free (s : State) (o : Nat) : (s.count o).free = s.free := rfl
@[simp] theorem State.count_dclk (s : State) (o : Nat) : (s.count o).dclk = s.dclk := rfl
@[simp] theorem State.count_lastRead (s : State) (o : Nat) : (s.count o).lastRead = s.lastRead := rfl
@[simp] theorem State.count_act (s : State) (o : Nat) : (s.count o).act = s.act := rfl
@[simp] theorem State.count_tabs (s : State) (o : Nat) : (s.count o).tabs = s.tabs := rfl
@[simp] theorem State.count_tabAct (s : State) (o : Nat) : (s.count o).tabAct = s.tabAct := rfl
@[simp] theorem State.count_tabLatch (s : State) (o : Nat) : (s.count o).tabLatch = s.tabLatch := rfl
@[simp] theorem State.count_loLatch (s : State) (o : Nat) : (s.count o).loLatch = s.loLatch := rfl
@[simp] theorem State.count_dev (s : State) (o : Nat) : (s.count o).dev = s.dev := rfl
@[simp] theorem State.count_monel (s : State) (o : Nat) : (s.count o).monel = s.monel := rfl
@[simp] theorem State.count_hic (s : State) (o : Nat) : (s.count o).hic = s.hic := rfl
@[simp] theorem State.count_sched (s : State) (o : Nat) : (s.count o).sched = s.sched := rfl
@[simp] theorem State.count_cpu (s : State) (o : Nat) : (s.count o).cpu = s.cpu := rfl
@[simp] theorem State.count_dram (s : State) (o : Nat) : (s.count o).dram = s.dram := rfl
@[simp] theorem State.count_time (s : State) (o : Nat) : (s.count o).time = s.time := rfl
@[simp] theorem State.count_part (s : State) (o : Nat) : (s.count o).part = s.part := rfl
@[simp] theorem State.count_seqs (s : State) (o : Nat) : (s.count o).seqs = s.seqs := rfl
@[simp] theorem State.count_master (s : State) (o : Nat) : (s.count o).master = s.master := rfl
@[simp] theorem State.count_tgs (s : State) (o : Nat) : (s.count o).tgs = s.tgs := rfl
@[simp] theorem State.count_pins (s : State) (o : Nat) : (s.count o).pins = s.pins := rfl
@[simp] theorem State.count_pager (s : State) (o : Nat) : (s.count o).pager = s.pager := rfl
@[simp] theorem State.count_cus (s : State) (o : Nat) : (s.count o).cus = s.cus := rfl
@[simp] theorem State.count_tus (s : State) (o : Nat) : (s.count o).tus = s.tus := rfl
@[simp] theorem State.count_fronts (s : State) (o : Nat) : (s.count o).fronts = s.fronts := rfl
@[simp] theorem State.count_decs (s : State) (o : Nat) : (s.count o).decs = s.decs := rfl
@[simp] theorem State.count_syns (s : State) (o : Nat) : (s.count o).syns = s.syns := rfl
@[simp] theorem State.count_cal (s : State) (o : Nat) : (s.count o).cal = s.cal := rfl
@[simp] theorem State.count_fq (s : State) (o : Nat) : (s.count o).fq = s.fq := rfl
@[simp] theorem State.count_mover (s : State) (o : Nat) : (s.count o).mover = s.mover := rfl
@[simp] theorem State.count_fab (s : State) (o : Nat) : (s.count o).fab = s.fab := rfl
@[simp] theorem State.count_host (s : State) (o : Nat) : (s.count o).host = s.host := rfl
@[simp] theorem State.count_hostOut (s : State) (o : Nat) : (s.count o).hostOut = s.hostOut := rfl

@[simp] theorem State.countBy_pending (s : State) (o k : Nat) : (s.countBy o k).pending = s.pending := rfl
@[simp] theorem State.countBy_free (s : State) (o k : Nat) : (s.countBy o k).free = s.free := rfl
@[simp] theorem State.countBy_dclk (s : State) (o k : Nat) : (s.countBy o k).dclk = s.dclk := rfl
@[simp] theorem State.countBy_lastRead (s : State) (o k : Nat) : (s.countBy o k).lastRead = s.lastRead := rfl
@[simp] theorem State.countBy_act (s : State) (o k : Nat) : (s.countBy o k).act = s.act := rfl
@[simp] theorem State.countBy_tabs (s : State) (o k : Nat) : (s.countBy o k).tabs = s.tabs := rfl
@[simp] theorem State.countBy_tabAct (s : State) (o k : Nat) : (s.countBy o k).tabAct = s.tabAct := rfl
@[simp] theorem State.countBy_tabLatch (s : State) (o k : Nat) : (s.countBy o k).tabLatch = s.tabLatch := rfl
@[simp] theorem State.countBy_loLatch (s : State) (o k : Nat) : (s.countBy o k).loLatch = s.loLatch := rfl
@[simp] theorem State.countBy_dev (s : State) (o k : Nat) : (s.countBy o k).dev = s.dev := rfl
@[simp] theorem State.countBy_monel (s : State) (o k : Nat) : (s.countBy o k).monel = s.monel := rfl
@[simp] theorem State.countBy_hic (s : State) (o k : Nat) : (s.countBy o k).hic = s.hic := rfl
@[simp] theorem State.countBy_sched (s : State) (o k : Nat) : (s.countBy o k).sched = s.sched := rfl
@[simp] theorem State.countBy_cpu (s : State) (o k : Nat) : (s.countBy o k).cpu = s.cpu := rfl
@[simp] theorem State.countBy_dram (s : State) (o k : Nat) : (s.countBy o k).dram = s.dram := rfl
@[simp] theorem State.countBy_time (s : State) (o k : Nat) : (s.countBy o k).time = s.time := rfl
@[simp] theorem State.countBy_part (s : State) (o k : Nat) : (s.countBy o k).part = s.part := rfl
@[simp] theorem State.countBy_seqs (s : State) (o k : Nat) : (s.countBy o k).seqs = s.seqs := rfl
@[simp] theorem State.countBy_master (s : State) (o k : Nat) : (s.countBy o k).master = s.master := rfl
@[simp] theorem State.countBy_tgs (s : State) (o k : Nat) : (s.countBy o k).tgs = s.tgs := rfl
@[simp] theorem State.countBy_pins (s : State) (o k : Nat) : (s.countBy o k).pins = s.pins := rfl
@[simp] theorem State.countBy_pager (s : State) (o k : Nat) : (s.countBy o k).pager = s.pager := rfl
@[simp] theorem State.countBy_cus (s : State) (o k : Nat) : (s.countBy o k).cus = s.cus := rfl
@[simp] theorem State.countBy_tus (s : State) (o k : Nat) : (s.countBy o k).tus = s.tus := rfl
@[simp] theorem State.countBy_fronts (s : State) (o k : Nat) : (s.countBy o k).fronts = s.fronts := rfl
@[simp] theorem State.countBy_decs (s : State) (o k : Nat) : (s.countBy o k).decs = s.decs := rfl
@[simp] theorem State.countBy_syns (s : State) (o k : Nat) : (s.countBy o k).syns = s.syns := rfl
@[simp] theorem State.countBy_cal (s : State) (o k : Nat) : (s.countBy o k).cal = s.cal := rfl
@[simp] theorem State.countBy_fq (s : State) (o k : Nat) : (s.countBy o k).fq = s.fq := rfl
@[simp] theorem State.countBy_mover (s : State) (o k : Nat) : (s.countBy o k).mover = s.mover := rfl
@[simp] theorem State.countBy_fab (s : State) (o k : Nat) : (s.countBy o k).fab = s.fab := rfl
@[simp] theorem State.countBy_host (s : State) (o k : Nat) : (s.countBy o k).host = s.host := rfl
@[simp] theorem State.countBy_hostOut (s : State) (o k : Nat) : (s.countBy o k).hostOut = s.hostOut := rfl

@[simp] theorem State.raiseTo_pending (s : State) (o v : Nat) : (s.raiseTo o v).pending = s.pending := by unfold State.raiseTo; split <;> rfl
@[simp] theorem State.raiseTo_free (s : State) (o v : Nat) : (s.raiseTo o v).free = s.free := by unfold State.raiseTo; split <;> rfl
@[simp] theorem State.raiseTo_dclk (s : State) (o v : Nat) : (s.raiseTo o v).dclk = s.dclk := by unfold State.raiseTo; split <;> rfl
@[simp] theorem State.raiseTo_lastRead (s : State) (o v : Nat) : (s.raiseTo o v).lastRead = s.lastRead := by unfold State.raiseTo; split <;> rfl
@[simp] theorem State.raiseTo_act (s : State) (o v : Nat) : (s.raiseTo o v).act = s.act := by unfold State.raiseTo; split <;> rfl
@[simp] theorem State.raiseTo_tabs (s : State) (o v : Nat) : (s.raiseTo o v).tabs = s.tabs := by unfold State.raiseTo; split <;> rfl
@[simp] theorem State.raiseTo_tabAct (s : State) (o v : Nat) : (s.raiseTo o v).tabAct = s.tabAct := by unfold State.raiseTo; split <;> rfl
@[simp] theorem State.raiseTo_tabLatch (s : State) (o v : Nat) : (s.raiseTo o v).tabLatch = s.tabLatch := by unfold State.raiseTo; split <;> rfl
@[simp] theorem State.raiseTo_loLatch (s : State) (o v : Nat) : (s.raiseTo o v).loLatch = s.loLatch := by unfold State.raiseTo; split <;> rfl
@[simp] theorem State.raiseTo_dev (s : State) (o v : Nat) : (s.raiseTo o v).dev = s.dev := by unfold State.raiseTo; split <;> rfl
@[simp] theorem State.raiseTo_monel (s : State) (o v : Nat) : (s.raiseTo o v).monel = s.monel := by unfold State.raiseTo; split <;> rfl
@[simp] theorem State.raiseTo_hic (s : State) (o v : Nat) : (s.raiseTo o v).hic = s.hic := by unfold State.raiseTo; split <;> rfl
@[simp] theorem State.raiseTo_sched (s : State) (o v : Nat) : (s.raiseTo o v).sched = s.sched := by unfold State.raiseTo; split <;> rfl
@[simp] theorem State.raiseTo_cpu (s : State) (o v : Nat) : (s.raiseTo o v).cpu = s.cpu := by unfold State.raiseTo; split <;> rfl
@[simp] theorem State.raiseTo_dram (s : State) (o v : Nat) : (s.raiseTo o v).dram = s.dram := by unfold State.raiseTo; split <;> rfl
@[simp] theorem State.raiseTo_time (s : State) (o v : Nat) : (s.raiseTo o v).time = s.time := by unfold State.raiseTo; split <;> rfl
@[simp] theorem State.raiseTo_part (s : State) (o v : Nat) : (s.raiseTo o v).part = s.part := by unfold State.raiseTo; split <;> rfl
@[simp] theorem State.raiseTo_seqs (s : State) (o v : Nat) : (s.raiseTo o v).seqs = s.seqs := by unfold State.raiseTo; split <;> rfl
@[simp] theorem State.raiseTo_master (s : State) (o v : Nat) : (s.raiseTo o v).master = s.master := by unfold State.raiseTo; split <;> rfl
@[simp] theorem State.raiseTo_tgs (s : State) (o v : Nat) : (s.raiseTo o v).tgs = s.tgs := by unfold State.raiseTo; split <;> rfl
@[simp] theorem State.raiseTo_pins (s : State) (o v : Nat) : (s.raiseTo o v).pins = s.pins := by unfold State.raiseTo; split <;> rfl
@[simp] theorem State.raiseTo_pager (s : State) (o v : Nat) : (s.raiseTo o v).pager = s.pager := by unfold State.raiseTo; split <;> rfl
@[simp] theorem State.raiseTo_cus (s : State) (o v : Nat) : (s.raiseTo o v).cus = s.cus := by unfold State.raiseTo; split <;> rfl
@[simp] theorem State.raiseTo_tus (s : State) (o v : Nat) : (s.raiseTo o v).tus = s.tus := by unfold State.raiseTo; split <;> rfl
@[simp] theorem State.raiseTo_fronts (s : State) (o v : Nat) : (s.raiseTo o v).fronts = s.fronts := by unfold State.raiseTo; split <;> rfl
@[simp] theorem State.raiseTo_decs (s : State) (o v : Nat) : (s.raiseTo o v).decs = s.decs := by unfold State.raiseTo; split <;> rfl
@[simp] theorem State.raiseTo_syns (s : State) (o v : Nat) : (s.raiseTo o v).syns = s.syns := by unfold State.raiseTo; split <;> rfl
@[simp] theorem State.raiseTo_cal (s : State) (o v : Nat) : (s.raiseTo o v).cal = s.cal := by unfold State.raiseTo; split <;> rfl
@[simp] theorem State.raiseTo_fq (s : State) (o v : Nat) : (s.raiseTo o v).fq = s.fq := by unfold State.raiseTo; split <;> rfl
@[simp] theorem State.raiseTo_mover (s : State) (o v : Nat) : (s.raiseTo o v).mover = s.mover := by unfold State.raiseTo; split <;> rfl
@[simp] theorem State.raiseTo_fab (s : State) (o v : Nat) : (s.raiseTo o v).fab = s.fab := by unfold State.raiseTo; split <;> rfl
@[simp] theorem State.raiseTo_host (s : State) (o v : Nat) : (s.raiseTo o v).host = s.host := by unfold State.raiseTo; split <;> rfl
@[simp] theorem State.raiseTo_hostOut (s : State) (o v : Nat) : (s.raiseTo o v).hostOut = s.hostOut := by unfold State.raiseTo; split <;> rfl

@[simp] theorem State.setReg64_pending (s : State) (a b : Nat) (v : BitVec 64) : (s.setReg64 a b v).pending = s.pending := rfl
@[simp] theorem State.setReg64_free (s : State) (a b : Nat) (v : BitVec 64) : (s.setReg64 a b v).free = s.free := rfl
@[simp] theorem State.setReg64_dclk (s : State) (a b : Nat) (v : BitVec 64) : (s.setReg64 a b v).dclk = s.dclk := rfl
@[simp] theorem State.setReg64_lastRead (s : State) (a b : Nat) (v : BitVec 64) : (s.setReg64 a b v).lastRead = s.lastRead := rfl
@[simp] theorem State.setReg64_act (s : State) (a b : Nat) (v : BitVec 64) : (s.setReg64 a b v).act = s.act := rfl
@[simp] theorem State.setReg64_tabs (s : State) (a b : Nat) (v : BitVec 64) : (s.setReg64 a b v).tabs = s.tabs := rfl
@[simp] theorem State.setReg64_tabAct (s : State) (a b : Nat) (v : BitVec 64) : (s.setReg64 a b v).tabAct = s.tabAct := rfl
@[simp] theorem State.setReg64_tabLatch (s : State) (a b : Nat) (v : BitVec 64) : (s.setReg64 a b v).tabLatch = s.tabLatch := rfl
@[simp] theorem State.setReg64_loLatch (s : State) (a b : Nat) (v : BitVec 64) : (s.setReg64 a b v).loLatch = s.loLatch := rfl
@[simp] theorem State.setReg64_dev (s : State) (a b : Nat) (v : BitVec 64) : (s.setReg64 a b v).dev = s.dev := rfl
@[simp] theorem State.setReg64_monel (s : State) (a b : Nat) (v : BitVec 64) : (s.setReg64 a b v).monel = s.monel := rfl
@[simp] theorem State.setReg64_hic (s : State) (a b : Nat) (v : BitVec 64) : (s.setReg64 a b v).hic = s.hic := rfl
@[simp] theorem State.setReg64_sched (s : State) (a b : Nat) (v : BitVec 64) : (s.setReg64 a b v).sched = s.sched := rfl
@[simp] theorem State.setReg64_cpu (s : State) (a b : Nat) (v : BitVec 64) : (s.setReg64 a b v).cpu = s.cpu := rfl
@[simp] theorem State.setReg64_dram (s : State) (a b : Nat) (v : BitVec 64) : (s.setReg64 a b v).dram = s.dram := rfl
@[simp] theorem State.setReg64_time (s : State) (a b : Nat) (v : BitVec 64) : (s.setReg64 a b v).time = s.time := rfl
@[simp] theorem State.setReg64_part (s : State) (a b : Nat) (v : BitVec 64) : (s.setReg64 a b v).part = s.part := rfl
@[simp] theorem State.setReg64_seqs (s : State) (a b : Nat) (v : BitVec 64) : (s.setReg64 a b v).seqs = s.seqs := rfl
@[simp] theorem State.setReg64_master (s : State) (a b : Nat) (v : BitVec 64) : (s.setReg64 a b v).master = s.master := rfl
@[simp] theorem State.setReg64_tgs (s : State) (a b : Nat) (v : BitVec 64) : (s.setReg64 a b v).tgs = s.tgs := rfl
@[simp] theorem State.setReg64_pins (s : State) (a b : Nat) (v : BitVec 64) : (s.setReg64 a b v).pins = s.pins := rfl
@[simp] theorem State.setReg64_pager (s : State) (a b : Nat) (v : BitVec 64) : (s.setReg64 a b v).pager = s.pager := rfl
@[simp] theorem State.setReg64_cus (s : State) (a b : Nat) (v : BitVec 64) : (s.setReg64 a b v).cus = s.cus := rfl
@[simp] theorem State.setReg64_tus (s : State) (a b : Nat) (v : BitVec 64) : (s.setReg64 a b v).tus = s.tus := rfl
@[simp] theorem State.setReg64_fronts (s : State) (a b : Nat) (v : BitVec 64) : (s.setReg64 a b v).fronts = s.fronts := rfl
@[simp] theorem State.setReg64_decs (s : State) (a b : Nat) (v : BitVec 64) : (s.setReg64 a b v).decs = s.decs := rfl
@[simp] theorem State.setReg64_syns (s : State) (a b : Nat) (v : BitVec 64) : (s.setReg64 a b v).syns = s.syns := rfl
@[simp] theorem State.setReg64_cal (s : State) (a b : Nat) (v : BitVec 64) : (s.setReg64 a b v).cal = s.cal := rfl
@[simp] theorem State.setReg64_fq (s : State) (a b : Nat) (v : BitVec 64) : (s.setReg64 a b v).fq = s.fq := rfl
@[simp] theorem State.setReg64_mover (s : State) (a b : Nat) (v : BitVec 64) : (s.setReg64 a b v).mover = s.mover := rfl
@[simp] theorem State.setReg64_fab (s : State) (a b : Nat) (v : BitVec 64) : (s.setReg64 a b v).fab = s.fab := rfl
@[simp] theorem State.setReg64_host (s : State) (a b : Nat) (v : BitVec 64) : (s.setReg64 a b v).host = s.host := rfl
@[simp] theorem State.setReg64_hostOut (s : State) (a b : Nat) (v : BitVec 64) : (s.setReg64 a b v).hostOut = s.hostOut := rfl

@[simp] theorem State.setHart_pending (s : State) (h : Nat) (x : Hart) : (s.setHart h x).pending = s.pending := rfl
@[simp] theorem State.setHart_free (s : State) (h : Nat) (x : Hart) : (s.setHart h x).free = s.free := rfl
@[simp] theorem State.setHart_dclk (s : State) (h : Nat) (x : Hart) : (s.setHart h x).dclk = s.dclk := rfl
@[simp] theorem State.setHart_lastRead (s : State) (h : Nat) (x : Hart) : (s.setHart h x).lastRead = s.lastRead := rfl
@[simp] theorem State.setHart_act (s : State) (h : Nat) (x : Hart) : (s.setHart h x).act = s.act := rfl
@[simp] theorem State.setHart_tabs (s : State) (h : Nat) (x : Hart) : (s.setHart h x).tabs = s.tabs := rfl
@[simp] theorem State.setHart_tabAct (s : State) (h : Nat) (x : Hart) : (s.setHart h x).tabAct = s.tabAct := rfl
@[simp] theorem State.setHart_tabLatch (s : State) (h : Nat) (x : Hart) : (s.setHart h x).tabLatch = s.tabLatch := rfl
@[simp] theorem State.setHart_loLatch (s : State) (h : Nat) (x : Hart) : (s.setHart h x).loLatch = s.loLatch := rfl
@[simp] theorem State.setHart_dev (s : State) (h : Nat) (x : Hart) : (s.setHart h x).dev = s.dev := rfl
@[simp] theorem State.setHart_monel (s : State) (h : Nat) (x : Hart) : (s.setHart h x).monel = s.monel := rfl
@[simp] theorem State.setHart_hic (s : State) (h : Nat) (x : Hart) : (s.setHart h x).hic = s.hic := rfl
@[simp] theorem State.setHart_sched (s : State) (h : Nat) (x : Hart) : (s.setHart h x).sched = s.sched := rfl
@[simp] theorem State.setHart_dram (s : State) (h : Nat) (x : Hart) : (s.setHart h x).dram = s.dram := rfl
@[simp] theorem State.setHart_time (s : State) (h : Nat) (x : Hart) : (s.setHart h x).time = s.time := rfl
@[simp] theorem State.setHart_part (s : State) (h : Nat) (x : Hart) : (s.setHart h x).part = s.part := rfl
@[simp] theorem State.setHart_seqs (s : State) (h : Nat) (x : Hart) : (s.setHart h x).seqs = s.seqs := rfl
@[simp] theorem State.setHart_master (s : State) (h : Nat) (x : Hart) : (s.setHart h x).master = s.master := rfl
@[simp] theorem State.setHart_tgs (s : State) (h : Nat) (x : Hart) : (s.setHart h x).tgs = s.tgs := rfl
@[simp] theorem State.setHart_pins (s : State) (h : Nat) (x : Hart) : (s.setHart h x).pins = s.pins := rfl
@[simp] theorem State.setHart_pager (s : State) (h : Nat) (x : Hart) : (s.setHart h x).pager = s.pager := rfl
@[simp] theorem State.setHart_cus (s : State) (h : Nat) (x : Hart) : (s.setHart h x).cus = s.cus := rfl
@[simp] theorem State.setHart_tus (s : State) (h : Nat) (x : Hart) : (s.setHart h x).tus = s.tus := rfl
@[simp] theorem State.setHart_fronts (s : State) (h : Nat) (x : Hart) : (s.setHart h x).fronts = s.fronts := rfl
@[simp] theorem State.setHart_decs (s : State) (h : Nat) (x : Hart) : (s.setHart h x).decs = s.decs := rfl
@[simp] theorem State.setHart_syns (s : State) (h : Nat) (x : Hart) : (s.setHart h x).syns = s.syns := rfl
@[simp] theorem State.setHart_cal (s : State) (h : Nat) (x : Hart) : (s.setHart h x).cal = s.cal := rfl
@[simp] theorem State.setHart_fq (s : State) (h : Nat) (x : Hart) : (s.setHart h x).fq = s.fq := rfl
@[simp] theorem State.setHart_mover (s : State) (h : Nat) (x : Hart) : (s.setHart h x).mover = s.mover := rfl
@[simp] theorem State.setHart_fab (s : State) (h : Nat) (x : Hart) : (s.setHart h x).fab = s.fab := rfl
@[simp] theorem State.setHart_host (s : State) (h : Nat) (x : Hart) : (s.setHart h x).host = s.host := rfl
@[simp] theorem State.setHart_hostOut (s : State) (h : Nat) (x : Hart) : (s.setHart h x).hostOut = s.hostOut := rfl
@[simp] theorem State.setHart_regs (s : State) (h : Nat) (x : Hart) : (s.setHart h x).regs = s.regs := rfl

@[simp] theorem State.answer_pending (s : State) (v : BitVec 64) : (s.answer v).pending = s.pending := rfl
@[simp] theorem State.answer_free (s : State) (v : BitVec 64) : (s.answer v).free = s.free := rfl
@[simp] theorem State.answer_dclk (s : State) (v : BitVec 64) : (s.answer v).dclk = s.dclk := rfl
@[simp] theorem State.answer_act (s : State) (v : BitVec 64) : (s.answer v).act = s.act := rfl
@[simp] theorem State.answer_tabs (s : State) (v : BitVec 64) : (s.answer v).tabs = s.tabs := rfl
@[simp] theorem State.answer_tabAct (s : State) (v : BitVec 64) : (s.answer v).tabAct = s.tabAct := rfl
@[simp] theorem State.answer_tabLatch (s : State) (v : BitVec 64) : (s.answer v).tabLatch = s.tabLatch := rfl
@[simp] theorem State.answer_loLatch (s : State) (v : BitVec 64) : (s.answer v).loLatch = s.loLatch := rfl
@[simp] theorem State.answer_dev (s : State) (v : BitVec 64) : (s.answer v).dev = s.dev := rfl
@[simp] theorem State.answer_monel (s : State) (v : BitVec 64) : (s.answer v).monel = s.monel := rfl
@[simp] theorem State.answer_hic (s : State) (v : BitVec 64) : (s.answer v).hic = s.hic := rfl
@[simp] theorem State.answer_sched (s : State) (v : BitVec 64) : (s.answer v).sched = s.sched := rfl
@[simp] theorem State.answer_cpu (s : State) (v : BitVec 64) : (s.answer v).cpu = s.cpu := rfl
@[simp] theorem State.answer_dram (s : State) (v : BitVec 64) : (s.answer v).dram = s.dram := rfl
@[simp] theorem State.answer_time (s : State) (v : BitVec 64) : (s.answer v).time = s.time := rfl
@[simp] theorem State.answer_part (s : State) (v : BitVec 64) : (s.answer v).part = s.part := rfl
@[simp] theorem State.answer_seqs (s : State) (v : BitVec 64) : (s.answer v).seqs = s.seqs := rfl
@[simp] theorem State.answer_master (s : State) (v : BitVec 64) : (s.answer v).master = s.master := rfl
@[simp] theorem State.answer_tgs (s : State) (v : BitVec 64) : (s.answer v).tgs = s.tgs := rfl
@[simp] theorem State.answer_pins (s : State) (v : BitVec 64) : (s.answer v).pins = s.pins := rfl
@[simp] theorem State.answer_pager (s : State) (v : BitVec 64) : (s.answer v).pager = s.pager := rfl
@[simp] theorem State.answer_cus (s : State) (v : BitVec 64) : (s.answer v).cus = s.cus := rfl
@[simp] theorem State.answer_tus (s : State) (v : BitVec 64) : (s.answer v).tus = s.tus := rfl
@[simp] theorem State.answer_fronts (s : State) (v : BitVec 64) : (s.answer v).fronts = s.fronts := rfl
@[simp] theorem State.answer_decs (s : State) (v : BitVec 64) : (s.answer v).decs = s.decs := rfl
@[simp] theorem State.answer_syns (s : State) (v : BitVec 64) : (s.answer v).syns = s.syns := rfl
@[simp] theorem State.answer_cal (s : State) (v : BitVec 64) : (s.answer v).cal = s.cal := rfl
@[simp] theorem State.answer_fq (s : State) (v : BitVec 64) : (s.answer v).fq = s.fq := rfl
@[simp] theorem State.answer_mover (s : State) (v : BitVec 64) : (s.answer v).mover = s.mover := rfl
@[simp] theorem State.answer_fab (s : State) (v : BitVec 64) : (s.answer v).fab = s.fab := rfl
@[simp] theorem State.answer_host (s : State) (v : BitVec 64) : (s.answer v).host = s.host := rfl
@[simp] theorem State.answer_hostOut (s : State) (v : BitVec 64) : (s.answer v).hostOut = s.hostOut := rfl
@[simp] theorem State.answer_regs (s : State) (v : BitVec 64) : (s.answer v).regs = s.regs := rfl

@[simp] theorem State.setTab_pending (s : State) (o : Nat) (v : Word) : (s.setTab o v).pending = s.pending := rfl
@[simp] theorem State.setTab_free (s : State) (o : Nat) (v : Word) : (s.setTab o v).free = s.free := rfl
@[simp] theorem State.setTab_dclk (s : State) (o : Nat) (v : Word) : (s.setTab o v).dclk = s.dclk := rfl
@[simp] theorem State.setTab_lastRead (s : State) (o : Nat) (v : Word) : (s.setTab o v).lastRead = s.lastRead := rfl
@[simp] theorem State.setTab_act (s : State) (o : Nat) (v : Word) : (s.setTab o v).act = s.act := rfl
@[simp] theorem State.setTab_tabAct (s : State) (o : Nat) (v : Word) : (s.setTab o v).tabAct = s.tabAct := rfl
@[simp] theorem State.setTab_tabLatch (s : State) (o : Nat) (v : Word) : (s.setTab o v).tabLatch = s.tabLatch := rfl
@[simp] theorem State.setTab_loLatch (s : State) (o : Nat) (v : Word) : (s.setTab o v).loLatch = s.loLatch := rfl
@[simp] theorem State.setTab_dev (s : State) (o : Nat) (v : Word) : (s.setTab o v).dev = s.dev := rfl
@[simp] theorem State.setTab_monel (s : State) (o : Nat) (v : Word) : (s.setTab o v).monel = s.monel := rfl
@[simp] theorem State.setTab_hic (s : State) (o : Nat) (v : Word) : (s.setTab o v).hic = s.hic := rfl
@[simp] theorem State.setTab_sched (s : State) (o : Nat) (v : Word) : (s.setTab o v).sched = s.sched := rfl
@[simp] theorem State.setTab_cpu (s : State) (o : Nat) (v : Word) : (s.setTab o v).cpu = s.cpu := rfl
@[simp] theorem State.setTab_dram (s : State) (o : Nat) (v : Word) : (s.setTab o v).dram = s.dram := rfl
@[simp] theorem State.setTab_time (s : State) (o : Nat) (v : Word) : (s.setTab o v).time = s.time := rfl
@[simp] theorem State.setTab_part (s : State) (o : Nat) (v : Word) : (s.setTab o v).part = s.part := rfl
@[simp] theorem State.setTab_seqs (s : State) (o : Nat) (v : Word) : (s.setTab o v).seqs = s.seqs := rfl
@[simp] theorem State.setTab_master (s : State) (o : Nat) (v : Word) : (s.setTab o v).master = s.master := rfl
@[simp] theorem State.setTab_tgs (s : State) (o : Nat) (v : Word) : (s.setTab o v).tgs = s.tgs := rfl
@[simp] theorem State.setTab_pins (s : State) (o : Nat) (v : Word) : (s.setTab o v).pins = s.pins := rfl
@[simp] theorem State.setTab_pager (s : State) (o : Nat) (v : Word) : (s.setTab o v).pager = s.pager := rfl
@[simp] theorem State.setTab_cus (s : State) (o : Nat) (v : Word) : (s.setTab o v).cus = s.cus := rfl
@[simp] theorem State.setTab_tus (s : State) (o : Nat) (v : Word) : (s.setTab o v).tus = s.tus := rfl
@[simp] theorem State.setTab_fronts (s : State) (o : Nat) (v : Word) : (s.setTab o v).fronts = s.fronts := rfl
@[simp] theorem State.setTab_decs (s : State) (o : Nat) (v : Word) : (s.setTab o v).decs = s.decs := rfl
@[simp] theorem State.setTab_syns (s : State) (o : Nat) (v : Word) : (s.setTab o v).syns = s.syns := rfl
@[simp] theorem State.setTab_cal (s : State) (o : Nat) (v : Word) : (s.setTab o v).cal = s.cal := rfl
@[simp] theorem State.setTab_fq (s : State) (o : Nat) (v : Word) : (s.setTab o v).fq = s.fq := rfl
@[simp] theorem State.setTab_mover (s : State) (o : Nat) (v : Word) : (s.setTab o v).mover = s.mover := rfl
@[simp] theorem State.setTab_fab (s : State) (o : Nat) (v : Word) : (s.setTab o v).fab = s.fab := rfl
@[simp] theorem State.setTab_host (s : State) (o : Nat) (v : Word) : (s.setTab o v).host = s.host := rfl
@[simp] theorem State.setTab_hostOut (s : State) (o : Nat) (v : Word) : (s.setTab o v).hostOut = s.hostOut := rfl
@[simp] theorem State.setTab_regs (s : State) (o : Nat) (v : Word) : (s.setTab o v).regs = s.regs := rfl

@[simp] theorem State.setMemByte_pending (s : State) (a : Nat) (v : Byte) : (s.setMemByte a v).pending = s.pending := rfl
@[simp] theorem State.setMemByte_free (s : State) (a : Nat) (v : Byte) : (s.setMemByte a v).free = s.free := rfl
@[simp] theorem State.setMemByte_dclk (s : State) (a : Nat) (v : Byte) : (s.setMemByte a v).dclk = s.dclk := rfl
@[simp] theorem State.setMemByte_lastRead (s : State) (a : Nat) (v : Byte) : (s.setMemByte a v).lastRead = s.lastRead := rfl
@[simp] theorem State.setMemByte_act (s : State) (a : Nat) (v : Byte) : (s.setMemByte a v).act = s.act := rfl
@[simp] theorem State.setMemByte_tabs (s : State) (a : Nat) (v : Byte) : (s.setMemByte a v).tabs = s.tabs := rfl
@[simp] theorem State.setMemByte_tabAct (s : State) (a : Nat) (v : Byte) : (s.setMemByte a v).tabAct = s.tabAct := rfl
@[simp] theorem State.setMemByte_tabLatch (s : State) (a : Nat) (v : Byte) : (s.setMemByte a v).tabLatch = s.tabLatch := rfl
@[simp] theorem State.setMemByte_loLatch (s : State) (a : Nat) (v : Byte) : (s.setMemByte a v).loLatch = s.loLatch := rfl
@[simp] theorem State.setMemByte_dev (s : State) (a : Nat) (v : Byte) : (s.setMemByte a v).dev = s.dev := rfl
@[simp] theorem State.setMemByte_monel (s : State) (a : Nat) (v : Byte) : (s.setMemByte a v).monel = s.monel := rfl
@[simp] theorem State.setMemByte_hic (s : State) (a : Nat) (v : Byte) : (s.setMemByte a v).hic = s.hic := rfl
@[simp] theorem State.setMemByte_sched (s : State) (a : Nat) (v : Byte) : (s.setMemByte a v).sched = s.sched := rfl
@[simp] theorem State.setMemByte_cpu (s : State) (a : Nat) (v : Byte) : (s.setMemByte a v).cpu = s.cpu := rfl
@[simp] theorem State.setMemByte_time (s : State) (a : Nat) (v : Byte) : (s.setMemByte a v).time = s.time := rfl
@[simp] theorem State.setMemByte_part (s : State) (a : Nat) (v : Byte) : (s.setMemByte a v).part = s.part := rfl
@[simp] theorem State.setMemByte_seqs (s : State) (a : Nat) (v : Byte) : (s.setMemByte a v).seqs = s.seqs := rfl
@[simp] theorem State.setMemByte_master (s : State) (a : Nat) (v : Byte) : (s.setMemByte a v).master = s.master := rfl
@[simp] theorem State.setMemByte_tgs (s : State) (a : Nat) (v : Byte) : (s.setMemByte a v).tgs = s.tgs := rfl
@[simp] theorem State.setMemByte_pins (s : State) (a : Nat) (v : Byte) : (s.setMemByte a v).pins = s.pins := rfl
@[simp] theorem State.setMemByte_pager (s : State) (a : Nat) (v : Byte) : (s.setMemByte a v).pager = s.pager := rfl
@[simp] theorem State.setMemByte_cus (s : State) (a : Nat) (v : Byte) : (s.setMemByte a v).cus = s.cus := rfl
@[simp] theorem State.setMemByte_tus (s : State) (a : Nat) (v : Byte) : (s.setMemByte a v).tus = s.tus := rfl
@[simp] theorem State.setMemByte_fronts (s : State) (a : Nat) (v : Byte) : (s.setMemByte a v).fronts = s.fronts := rfl
@[simp] theorem State.setMemByte_decs (s : State) (a : Nat) (v : Byte) : (s.setMemByte a v).decs = s.decs := rfl
@[simp] theorem State.setMemByte_syns (s : State) (a : Nat) (v : Byte) : (s.setMemByte a v).syns = s.syns := rfl
@[simp] theorem State.setMemByte_cal (s : State) (a : Nat) (v : Byte) : (s.setMemByte a v).cal = s.cal := rfl
@[simp] theorem State.setMemByte_fq (s : State) (a : Nat) (v : Byte) : (s.setMemByte a v).fq = s.fq := rfl
@[simp] theorem State.setMemByte_mover (s : State) (a : Nat) (v : Byte) : (s.setMemByte a v).mover = s.mover := rfl
@[simp] theorem State.setMemByte_fab (s : State) (a : Nat) (v : Byte) : (s.setMemByte a v).fab = s.fab := rfl
@[simp] theorem State.setMemByte_host (s : State) (a : Nat) (v : Byte) : (s.setMemByte a v).host = s.host := rfl
@[simp] theorem State.setMemByte_hostOut (s : State) (a : Nat) (v : Byte) : (s.setMemByte a v).hostOut = s.hostOut := rfl
@[simp] theorem State.setMemByte_regs (s : State) (a : Nat) (v : Byte) : (s.setMemByte a v).regs = s.regs := rfl

@[simp] theorem State.setFrame_pending (s : State) (n : Nat) (x : Frame) : (s.setFrame n x).pending = s.pending := rfl
@[simp] theorem State.setFrame_free (s : State) (n : Nat) (x : Frame) : (s.setFrame n x).free = s.free := rfl
@[simp] theorem State.setFrame_dclk (s : State) (n : Nat) (x : Frame) : (s.setFrame n x).dclk = s.dclk := rfl
@[simp] theorem State.setFrame_lastRead (s : State) (n : Nat) (x : Frame) : (s.setFrame n x).lastRead = s.lastRead := rfl
@[simp] theorem State.setFrame_act (s : State) (n : Nat) (x : Frame) : (s.setFrame n x).act = s.act := rfl
@[simp] theorem State.setFrame_tabs (s : State) (n : Nat) (x : Frame) : (s.setFrame n x).tabs = s.tabs := rfl
@[simp] theorem State.setFrame_tabAct (s : State) (n : Nat) (x : Frame) : (s.setFrame n x).tabAct = s.tabAct := rfl
@[simp] theorem State.setFrame_tabLatch (s : State) (n : Nat) (x : Frame) : (s.setFrame n x).tabLatch = s.tabLatch := rfl
@[simp] theorem State.setFrame_loLatch (s : State) (n : Nat) (x : Frame) : (s.setFrame n x).loLatch = s.loLatch := rfl
@[simp] theorem State.setFrame_dev (s : State) (n : Nat) (x : Frame) : (s.setFrame n x).dev = s.dev := rfl
@[simp] theorem State.setFrame_monel (s : State) (n : Nat) (x : Frame) : (s.setFrame n x).monel = s.monel := rfl
@[simp] theorem State.setFrame_hic (s : State) (n : Nat) (x : Frame) : (s.setFrame n x).hic = s.hic := rfl
@[simp] theorem State.setFrame_sched (s : State) (n : Nat) (x : Frame) : (s.setFrame n x).sched = s.sched := rfl
@[simp] theorem State.setFrame_cpu (s : State) (n : Nat) (x : Frame) : (s.setFrame n x).cpu = s.cpu := rfl
@[simp] theorem State.setFrame_time (s : State) (n : Nat) (x : Frame) : (s.setFrame n x).time = s.time := rfl
@[simp] theorem State.setFrame_part (s : State) (n : Nat) (x : Frame) : (s.setFrame n x).part = s.part := rfl
@[simp] theorem State.setFrame_seqs (s : State) (n : Nat) (x : Frame) : (s.setFrame n x).seqs = s.seqs := rfl
@[simp] theorem State.setFrame_master (s : State) (n : Nat) (x : Frame) : (s.setFrame n x).master = s.master := rfl
@[simp] theorem State.setFrame_tgs (s : State) (n : Nat) (x : Frame) : (s.setFrame n x).tgs = s.tgs := rfl
@[simp] theorem State.setFrame_pins (s : State) (n : Nat) (x : Frame) : (s.setFrame n x).pins = s.pins := rfl
@[simp] theorem State.setFrame_pager (s : State) (n : Nat) (x : Frame) : (s.setFrame n x).pager = s.pager := rfl
@[simp] theorem State.setFrame_cus (s : State) (n : Nat) (x : Frame) : (s.setFrame n x).cus = s.cus := rfl
@[simp] theorem State.setFrame_tus (s : State) (n : Nat) (x : Frame) : (s.setFrame n x).tus = s.tus := rfl
@[simp] theorem State.setFrame_fronts (s : State) (n : Nat) (x : Frame) : (s.setFrame n x).fronts = s.fronts := rfl
@[simp] theorem State.setFrame_decs (s : State) (n : Nat) (x : Frame) : (s.setFrame n x).decs = s.decs := rfl
@[simp] theorem State.setFrame_syns (s : State) (n : Nat) (x : Frame) : (s.setFrame n x).syns = s.syns := rfl
@[simp] theorem State.setFrame_cal (s : State) (n : Nat) (x : Frame) : (s.setFrame n x).cal = s.cal := rfl
@[simp] theorem State.setFrame_fq (s : State) (n : Nat) (x : Frame) : (s.setFrame n x).fq = s.fq := rfl
@[simp] theorem State.setFrame_mover (s : State) (n : Nat) (x : Frame) : (s.setFrame n x).mover = s.mover := rfl
@[simp] theorem State.setFrame_fab (s : State) (n : Nat) (x : Frame) : (s.setFrame n x).fab = s.fab := rfl
@[simp] theorem State.setFrame_host (s : State) (n : Nat) (x : Frame) : (s.setFrame n x).host = s.host := rfl
@[simp] theorem State.setFrame_hostOut (s : State) (n : Nat) (x : Frame) : (s.setFrame n x).hostOut = s.hostOut := rfl
@[simp] theorem State.setFrame_regs (s : State) (n : Nat) (x : Frame) : (s.setFrame n x).regs = s.regs := rfl

end Sys2Proof.Machine
end

