-- ==== Sys2Proof/Laws/Ops.lean ====
section
/-! SUPPORT. Registers, fields and memory read after they are written; memory keeps its canonical form. -/

namespace Sys2Proof.Machine

open Sys2Proof

/-! ### Registers and fields -/

@[simp] theorem State.reg_setReg_self (s : State) (o : Nat) (v : Word) : (s.setReg o v).reg o = v := by
  simp [State.reg, State.setReg]

theorem State.reg_setReg_other (s : State) {o p : Nat} (v : Word) (h : p ≠ o) : (s.setReg o v).reg p = s.reg p := by
  simp only [State.reg, State.setReg]
  exact sget_sset_other _ _ _ v h

theorem State.reg_setReg (s : State) (o p : Nat) (v : Word) :
    (s.setReg o v).reg p = if p = o then v else s.reg p := by
  split
  · subst_vars; simp
  · exact s.reg_setReg_other v ‹_›

theorem State.reg_setFld_other (s : State) {f : Fld} {p : Nat} (v : Nat) (h : p ≠ f.off) :
    (s.setFld f v).reg p = s.reg p := s.reg_setReg_other _ h

theorem State.toNat_setFld (s : State) (f : Fld) (v : Nat) (h : f.hi < 32) :
    ((s.setFld f v).reg f.off).toNat = putBits (s.reg f.off).toNat f.hi f.lo v := by
  simp only [State.setFld, State.reg_setReg_self, BitVec.toNat_ofNat]
  exact Nat.mod_eq_of_lt (putBits_lt _ _ _ _ 32 (s.reg f.off).isLt h)

/-- A field after it is written. -/
theorem State.fld_setFld_self (s : State) (f : Fld) (v : Nat) (h : f.hi < 32) :
    (s.setFld f v).fld f = v % 2 ^ (f.hi + 1 - f.lo) := by
  simp only [State.fld, s.toNat_setFld f v h, bitsOf_putBits]

/-- A field of another register, or apart from the one written, keeps its value. -/
theorem State.fld_setFld_other (s : State) {f g : Fld} (v : Nat) (h : f.hi < 32)
    (hd : g.off ≠ f.off ∨ g.hi < f.lo ∨ f.hi < g.lo) : (s.setFld f v).fld g = s.fld g := by
  by_cases ho : g.off = f.off
  · have hd : g.hi < f.lo ∨ f.hi < g.lo := by simpa [ho] using hd
    simp only [State.fld, ho, s.toNat_setFld f v h]
    exact bitsOf_putBits_other _ _ _ _ _ _ hd
  · simp only [State.fld, s.reg_setFld_other v ho]

theorem State.flag_setFlag_self (s : State) (f : Fld) (b : Bool) (h : f.hi = f.lo) (hl : f.lo < 32) :
    (s.setFlag f b).flag f = b := by
  simp only [State.flag, State.setFlag, s.fld_setFld_self f _ (by omega), h, Nat.add_sub_cancel_left]
  cases b <;> rfl

theorem State.flag_setFlag_other (s : State) {f g : Fld} (b : Bool) (h : f.hi < 32)
    (hd : g.off ≠ f.off ∨ g.hi < f.lo ∨ f.hi < g.lo) : (s.setFlag f b).flag g = s.flag g := by
  simp only [State.flag, State.setFlag, s.fld_setFld_other _ h hd]

theorem State.reg_setFlag_other (s : State) {f : Fld} {p : Nat} (b : Bool) (h : p ≠ f.off) :
    (s.setFlag f b).reg p = s.reg p := s.reg_setFld_other _ h

theorem State.reg_count_other (s : State) {o p : Nat} (h : p ≠ o) : (s.count o).reg p = s.reg p := s.reg_setReg_other _ h

theorem State.reg_setBit_other (s : State) {o p : Nat} (i : Nat) (b : Bool) (h : p ≠ o) :
    (s.setBit o i b).reg p = s.reg p := by
  unfold State.setBit
  split <;> exact s.reg_setReg_other _ h

@[simp] theorem State.reg_answer (s : State) (v : BitVec 64) (o : Nat) : (s.answer v).reg o = s.reg o := rfl

@[simp] theorem State.reg_setHart (s : State) (h : Nat) (x : Hart) (o : Nat) : (s.setHart h x).reg o = s.reg o := rfl

@[simp] theorem State.hart_setHart_self (s : State) (h : Nat) (x : Hart) : (s.setHart h x).hart h = x := by
  simp [State.hart, State.setHart]

theorem State.hart_setHart_other (s : State) {h g : Nat} (x : Hart) (hg : g ≠ h) : (s.setHart h x).hart g = s.hart g :=
  sget_sset_other _ _ _ x hg

/-! ### Memory -/

/-- Sparse data that reads no default stays so: removing a key. -/
theorem swf_tail {α : Type} [DecidableEq α] {d : Nat → α} {e : Nat × α} {t : List (Nat × α)} (h : swf d (e :: t) = true) :
    swf d t = true := by
  obtain ⟨k, v⟩ := e
  cases t with
  | nil => rfl
  | cons f u =>
    obtain ⟨k', v'⟩ := f
    simp only [swf, Bool.and_eq_true] at h
    exact h.2

/-- The canonical form, entry by entry. -/
theorem swf_iff {α : Type} [DecidableEq α] (d : Nat → α) (l : List (Nat × α)) :
    swf d l = true ↔ l.Pairwise (fun a b => a.1 < b.1) ∧ ∀ e ∈ l, e.2 ≠ d e.1 := by
  induction l with
  | nil => simp [swf]
  | cons e t ih =>
    obtain ⟨k, v⟩ := e
    cases t with
    | nil => simp [swf]
    | cons f u =>
      obtain ⟨k', v'⟩ := f
      simp only [swf, Bool.and_eq_true, decide_eq_true_eq, ih]
      constructor
      · rintro ⟨⟨h1, h2⟩, h3, h4⟩
        refine ⟨List.pairwise_cons.mpr ⟨?_, h3⟩, ?_⟩
        · intro b hb
          rcases List.mem_cons.mp hb with rfl | hb
          · exact h2
          · exact lt_trans h2 ((List.pairwise_cons.mp h3).1 b hb)
        · intro b hb
          rcases List.mem_cons.mp hb with rfl | hb
          · exact h1
          · exact h4 b hb
      · rintro ⟨h1, h2⟩
        obtain ⟨ha, hb⟩ := List.pairwise_cons.mp h1
        exact ⟨⟨h2 (k, v) (by simp), ha (k', v') (by simp)⟩, hb, fun e he => h2 e (by simp only [List.mem_cons] at *; tauto)⟩

theorem serase_sublist {α : Type} (l : List (Nat × α)) (i : Nat) : (serase l i).Sublist l := by
  induction l with
  | nil => exact List.Sublist.refl _
  | cons e t ih =>
    obtain ⟨k, v⟩ := e
    simp only [serase]
    split
    · exact ih.cons _
    · exact ih.cons_cons _

theorem mem_sinsert {α : Type} (l : List (Nat × α)) (i : Nat) (v : α) (e : Nat × α) (h : e ∈ sinsert l i v) :
    e = (i, v) ∨ e ∈ l := by
  induction l with
  | nil => simpa [sinsert] using h
  | cons f t ih =>
    obtain ⟨k, w⟩ := f
    simp only [sinsert] at h
    split at h
    · simpa using h
    · rcases List.mem_cons.mp h with rfl | h
      · simp
      · rcases ih h with h | h
        · exact Or.inl h
        · exact Or.inr (List.mem_cons_of_mem _ h)

theorem sinsert_pairwise {α : Type} (l : List (Nat × α)) (i : Nat) (v : α) (h : l.Pairwise (fun a b => a.1 < b.1))
    (hn : ∀ e ∈ l, e.1 ≠ i) : (sinsert l i v).Pairwise (fun a b => a.1 < b.1) := by
  induction l with
  | nil => simp [sinsert]
  | cons f t ih =>
    obtain ⟨k, w⟩ := f
    obtain ⟨h1, h2⟩ := List.pairwise_cons.mp h
    have hk : k ≠ i := hn (k, w) (by simp)
    simp only [sinsert]
    split
    · rename_i hi
      refine List.pairwise_cons.mpr ⟨?_, h⟩
      intro b hb
      rcases List.mem_cons.mp hb with rfl | hb
      · exact hi
      · exact lt_trans hi (h1 b hb)
    · refine List.pairwise_cons.mpr ⟨?_, ih h2 (fun e he => hn e (by simp [he]))⟩
      intro b hb
      rcases mem_sinsert t i v b hb with rfl | hb
      · simp only; omega
      · exact h1 b hb

/-- A write keeps the canonical form of sparse data. -/
theorem swf_sset {α : Type} [DecidableEq α] (d : Nat → α) (l : List (Nat × α)) (i : Nat) (v : α) (h : swf d l = true) :
    swf d (sset (d i) l i v) = true := by
  rw [swf_iff] at *
  obtain ⟨h1, h2⟩ := h
  have hp : (serase l i).Pairwise (fun a b => a.1 < b.1) := h1.sublist (serase_sublist l i)
  have he : ∀ e ∈ serase l i, e.2 ≠ d e.1 := fun e he => h2 e ((serase_sublist l i).subset he)
  unfold sset
  split
  · exact ⟨hp, he⟩
  · refine ⟨sinsert_pairwise _ i v hp (serase_key l i), ?_⟩
    intro e hm
    rcases mem_sinsert _ i v e hm with rfl | hm
    · assumption
    · exact he e hm

@[simp] theorem State.memByte_setMemByte_self (s : State) (a : Nat) (b : Byte) : (s.setMemByte a b).memByte a = b := by
  simp [State.memByte, State.setMemByte]

theorem State.memByte_setMemByte_other (s : State) {a c : Nat} (b : Byte) (h : c ≠ a) :
    (s.setMemByte a b).memByte c = s.memByte c := by
  simp only [State.memByte, State.setMemByte]
  exact sget_sset_other _ _ _ b h

/-- A store of bytes leaves every byte outside them alone. -/
theorem State.memByte_setMem_other (d : List Byte) : ∀ (s : State) (a c : Nat), (c < a ∨ a + d.length ≤ c) →
    (s.setMem a d).memByte c = s.memByte c := by
  induction d with
  | nil => intro s a c _; rfl
  | cons b t ih =>
    intro s a c h
    simp only [List.length_cons] at h
    show ((s.setMemByte a b).setMem (a + 1) t).memByte c = s.memByte c
    rw [ih _ _ _ (by omega), s.memByte_setMemByte_other b (by omega)]

/-- A store of bytes is read back. -/
theorem State.memByte_setMem_self (d : List Byte) : ∀ (s : State) (a i : Nat), i < d.length →
    (s.setMem a d).memByte (a + i) = d.getD i 0 := by
  induction d with
  | nil => intro s a i h; simp at h
  | cons b t ih =>
    intro s a i h
    show ((s.setMemByte a b).setMem (a + 1) t).memByte (a + i) = _
    cases i with
    | zero =>
      rw [State.memByte_setMem_other t _ _ _ (by omega)]
      simp
    | succ j =>
      have := ih (s.setMemByte a b) (a + 1) j (by simpa using h)
      rw [show a + (j + 1) = a + 1 + j by omega, this]
      simp

/-- A store of one byte keeps the canonical form of DRAM. -/
theorem State.memWf_setMemByte (s : State) (a : Nat) (b : Byte) (h : Memory.wf s.dram.mem = true) :
    Memory.wf (s.setMemByte a b).dram.mem = true := swf_sset (fun _ => 0) s.dram.mem a b h

/-- A store of bytes keeps the canonical form of DRAM. -/
theorem State.memWf_setMem (d : List Byte) : ∀ (s : State) (a : Nat), Memory.wf s.dram.mem = true →
    Memory.wf (s.setMem a d).dram.mem = true := by
  induction d with
  | nil => intro s a h; exact h
  | cons b t ih => intro s a h; exact ih _ _ (s.memWf_setMemByte a b h)

/-- A store of a number keeps the canonical form of DRAM. -/
theorem State.memWf_setMemNat (s : State) (a n v : Nat) (h : Memory.wf s.dram.mem = true) :
    Memory.wf (s.setMemNat a n v).dram.mem = true := State.memWf_setMem _ s a h

/-- Dropping bytes keeps the canonical form. -/
theorem swf_sdrop {α : Type} [DecidableEq α] (d : Nat → α) (p : Nat → Bool) (l : List (Nat × α)) (h : swf d l = true) :
    swf d (sdrop p l) = true := by
  rw [swf_iff] at *
  exact ⟨h.1.sublist List.filter_sublist, fun e he => h.2 e (List.mem_of_mem_filter he)⟩

/-- Memory right after reset has the canonical form. -/
theorem memWf_reset : Memory.wf State.reset.dram.mem = true := by decide

/-- Every register write keeps the canonical form of the register window. -/
theorem State.regsWf_setReg (s : State) (o : Nat) (v : Word) (h : swf regReset s.regs = true) :
    swf regReset (s.setReg o v).regs = true := swf_sset regReset s.regs o v h

end Sys2Proof.Machine
end

