-- ==== Sys2Proof/Laws/Writes.lean ====
section
/-! SUPPORT. What a checked write of the register window does: applied, refused with its reason, or not taken. -/

namespace Sys2Proof.Machine

open Sys2Proof

/-- Everything a checked write of a page can do, under the checks that every register shares. -/
theorem State.writeBy_admits {s : State} {a : Agent} {k : PageKind} {p : Nat} (off : Nat) (r : WRule)
    (h : s.admits a k p = true) : s.writeBy a k p off r =
      match firstReason true r.agentOk r.ownerOk r.stateOk r.orderOk r.rangeOk with
      | some e => r.refused e (s.reject p off e)
      | none => r.eff s := by
  simp only [State.admits, Bool.and_eq_true] at h
  obtain ⟨⟨⟨h1, h2⟩, h3⟩, h4⟩ := h
  simp only [State.writeBy, h1, if_true, State.checkedWrite, State.writeReason, h2, h3, h4, Bool.true_and] <;> rfl

/-- A write whose checks pass is applied. -/
theorem State.writeBy_ok {s : State} {a : Agent} {k : PageKind} {p : Nat} (off : Nat) (r : WRule)
    (h : s.admits a k p = true) (h1 : r.agentOk = true) (h2 : r.ownerOk = true) (h3 : r.stateOk = true)
    (h4 : r.orderOk = true) (h5 : r.rangeOk = true) : s.writeBy a k p off r = r.eff s := by
  rw [State.writeBy_admits off r h, h1, h2, h3, h4, h5]; rfl

/-- A write refused for a reason. -/
theorem State.writeBy_refused {s : State} {a : Agent} {k : PageKind} {p : Nat} (off : Nat) (r : WRule) (e : Reason)
    (h : s.admits a k p = true) (he : firstReason true r.agentOk r.ownerOk r.stateOk r.orderOk r.rangeOk = some e) :
    s.writeBy a k p off r = r.refused e (s.reject p off e) := by
  rw [State.writeBy_admits off r h, he]

/-- Where the window does not respond nothing happens. -/
theorem State.writeBy_silent {s : State} {a : Agent} (k : PageKind) (p off : Nat) (r : WRule) (h : s.responds a = false) :
    s.writeBy a k p off r = s := by
  simp [State.writeBy, h]

/-- The checks of a write: the window responds. -/
theorem State.admits_responds {s : State} {a : Agent} {k : PageKind} {p : Nat} (h : s.admits a k p = true) :
    s.responds a = true := by
  simp only [State.admits, Bool.and_eq_true] at h
  exact h.1.1.1

/-- A whole 32-bit write of a register of a page is a checked write under the register's rule. -/
theorem State.writeReg_page {s : State} {a : Agent} {row : PageRow} {n o off : Nat} (v : Word)
    (hp : pageAt off = some (row, n, o)) (hr : (findRow row.kind (o / 4 * 4)).isSome = true) (ha : off % 4 = 0) :
    s.writeReg a off v = s.writeBy a row.kind (row.base + 0x1000 * n) off
      (registerRule a row.kind n (row.base + 0x1000 * n) off v s) := by
  have hv : (v.setWidth 64).setWidth 32 = v := by
    apply BitVec.eq_of_toNat_eq; simp
  have hn : (findRow row.kind (o / 4 * 4)).isNone = false := by
    cases hf : findRow row.kind (o / 4 * 4) <;> simp_all
  simp only [State.writeReg, State.writeWindow, State.writeBy, State.windowWrite, State.access, hp, hn, hv, ha,
    Bool.false_eq_true, if_false]
  rfl

/-- The page of an ordinal: its offset, its kind and its row. -/
theorem pageOfOrdinal_spec : ∀ o : Fin 115, ∀ x ∈ pageOfOrdinal o.val,
    pageAt x = (pageAt x).map (fun y => (y.1, y.2.1, 0)) ∧ (pageAt x).isSome = true := by decide

end Sys2Proof.Machine
end

