-- ==== Sys2Proof/Tests/Slice0.lean ====
section
/-! SUPPORT. Tests of the model: ill-formed commands, worked values of the spec, and for every statement with hypotheses states and
operands that meet them, clause by clause. -/

namespace Sys2Proof.Tests

open Sys2Proof Sys2Proof.Machine

set_option maxRecDepth 100000
set_option Elab.async false

/-! ### States and operands of the tests -/

/-- READY, with 128 MiB of DRAM. -/
def w0 : State := (State.reset.setFld F.DEV_MODE_MODE mReady).setFld F.ALLOC_FRAMES_VALUE 64

/-- A valid image. -/
def wImage : BootImage := ⟨0x31465754, 1, 0, 0x100, 0, 0x100, true, 0, []⟩

/-- What a boot finds. -/
def wBoot : BootInputs := ⟨false, false, true, true, 0, wImage, wImage, none⟩

/-- A block of 32 units at 0. -/
def wHead : BlockHead := ⟨false, true, 0, 32, 0⟩

/-- A descriptor of that block. -/
def wDesc : Desc := { Seq.init.block wHead 256 with pc := 0 }

/-- Sequencer `n` runs, with the first line of the pattern in its cache. -/
def wRun (s : State) (n : Nat) : State := (s.setFld (F.SEQ_STATE_STATE n) rsRunning).setWalker n { s.walker n with lines := [⟨0, []⟩] }

/-- A first line that holds the header of a generator block. -/
def wLine (pins : List Nat) (o1 size tick rx : Nat) : CacheLine :=
  ⟨0, (pins ++ List.replicate (16 - pins.length) 255).map (BitVec.ofNat 8) ++ leBytes 4 0 ++ leBytes 4 o1 ++ leBytes 4 0 ++ leBytes 4 size
    ++ leBytes 4 tick ++ leBytes 4 rx⟩

/-- Sequencer 0 runs with given lines in its cache. -/
def wLines (s : State) (l : List CacheLine) : State := (s.setFld (F.SEQ_STATE_STATE 0) rsRunning).setWalker 0 { s.walker 0 with lines := l }

/-- A pattern space of one page table, with the two words of the entry of page `v`. -/
def wPg (v loc st : Nat) : State :=
  ((((((w0.setFlag (F.xx_CTRL_ENABLE P.PGR) true).setFld F.PGR_PT_BASE_L1 1).setFlag F.ALLOC_MAP_VALID true).setMemNat 16384 8 (2 ^ 63 + 2)).setMemNat
    (32768 + 16 * v) 8 loc).setMemNat (32776 + 16 * v) 8 st)

/-- What an instruction of a hart meets: nothing. -/
def wEnv : HartEnv := ⟨false, [], .clean, false⟩

/-- A packet head. -/
def wPkt : PktHead := ⟨false, 5, 3, 7⟩

/-- A generator head. -/
def wGen : GenHead := w0.genHead 0 0

/-- A page. -/
def wPage : PageRow := pageRows.headD ⟨.dev, 0, 1, 0, 0⟩

/-- A register of full width. -/
def wReg : RegRow := ⟨0, 1, 0, 1, 0, 0, 0, 0, 0, 0, 0, 0⟩

/-- An answer to a register message. -/
def wRsp : RegRsp := ⟨0, 0, 0, 0, []⟩

/-- The outcome is a next state. -/
def wDone (o : Host.Outcome State Fault Refusal) : Bool := match o with
  | .next _ => true
  | _ => false

/-- An access to a page. -/
def wAccess : Access := ⟨P.DEV, 0, true, ignored⟩

/-! ### Well-formed commands -/

/-- No row of the table has bits. -/
theorem test_no_word_spells_a_command : decodeTableWord 8 0xFF = none ∧ decodeTableWord 64 0 = none := by decide

/-- An ill-formed command for each check of the data that a command brings. -/
theorem test_ill_formed :
    (Instr.dramWrite 63 .dma [0, 0] none).wellFormed = false ∧ (Instr.dramWrite 0 .dma [] none).wellFormed = false ∧
    (Instr.bar2Write 0 [] false).wellFormed = false ∧ (Instr.bar2Write 0 (List.replicate 4097 0) false).wellFormed = false ∧
    (Instr.qspiCommand ⟨0, 3, 0, 0, false, List.replicate 257 0⟩).wellFormed = false ∧
    (Instr.pktPdata 0 0 wPkt 0 0 false (List.replicate 511 0)).wellFormed = false ∧
    (Instr.pktPrep 0 0 wPkt 0 0 false [0]).wellFormed = false ∧
    (Instr.pktRreq 0 0 wPkt ⟨true, 0, 1, 0, [0]⟩).wellFormed = false ∧
    (Instr.pktRreq 0 0 wPkt ⟨false, 0, 0, 0, [0]⟩).wellFormed = false ∧
    (Instr.pktRrsp 0 0 wPkt ⟨0, 0, 0, 0, List.replicate 17 0⟩).wellFormed = false := by decide +kernel

/-- The two checks on the bytes of a page: one byte above 2 MiB is too many. -/
theorem test_ill_formed_page (d : List Byte) (h : d.length = 0x200001) :
    (Instr.pageFetchArrival 0 false d).wellFormed = false ∧ (Instr.multicastPageDelivery 0 0 0 d).wellFormed = false := by
  have e : decide (d.length ≤ 0x200000) = false := by rw [h]; decide
  exact ⟨e, e⟩

/-- Commands at the limits of the same checks. -/
theorem test_well_formed :
    (Instr.dramWrite 63 .dma [0] none).wellFormed = true ∧ (Instr.pktPrep 0 0 wPkt 0 0 false (List.replicate 16 0)).wellFormed = true ∧
    (Instr.pktRreq 0 0 wPkt ⟨true, 0, 1, 0, [0, 0]⟩).wellFormed = true := by decide +kernel

/-! ### Values that the spec gives -/

/-- The bytes of the ASCII text 123456789. -/
def wDigits : List Byte := [0x31, 0x32, 0x33, 0x34, 0x35, 0x36, 0x37, 0x38, 0x39]

/-- 16_dma_and_queues.md: the CRC-32C of the nine digits, raw and standard. -/
theorem test_crc_check_value : crc32c 0xFFFFFFFF wDigits = 0x1CF96D7C ∧ crcStandard wDigits = 0xE3069283 := by decide +kernel

/-- 16_dma_and_queues.md: a result used as the seed continues the CRC. -/
theorem test_crc_continues : crc32c (crc32c 0xFFFFFFFF (wDigits.take 4)) (wDigits.drop 4) = 0x1CF96D7C := by decide +kernel

/-- 12_interrupts_and_faults.md: events [7:0] of CU0, ordinal 39, reach source 156; source 484 is free. -/
theorem test_reset_binding : bindReset 156 = 0x80000027 ∧ bindReset 484 = 0 := by decide

/-- 13_olmor_fabric.md, the condition across three hops: LEAD_NS 234, the last strobe at 127.2 ns is released at 362 ns. -/
theorem test_condition_lead :
    ((w0.setFld (F.SEQ_COND_LEAD_HOPS 0) 3).setFld (F.SEQ_SPAN_FLOOR_FLOOR_NS 0) 234).leadNs 0 = 234 ∧
    ((w0.setFld (F.SEQ_COND_LEAD_HOPS 0) 3).setFld (F.SEQ_SPAN_FLOOR_FLOOR_NS 0) 234).releaseAt 0 127200 = 362000 := by
  decide +kernel

/-- 14_invar_time.md, the first exchange of the worked example: 41,203.5 ns is 20,602 DCLK periods, with -500 ps left. -/
theorem test_step_rounding : roundDiv (41203500 * 64) 128000 = 20602 ∧ (41203500 : Int) - 2000 * 20602 = -500 := by decide

/-- 09_decimation_chains.md, the worked example: PRESET WIDE, POST_OSR 1 and no taps give S = 9. -/
theorem test_settling_count :
    presetSettle 1 = 9 ∧ ({ w0 with tabs := [] } : State).taps 0 false = 0 := by decide +kernel

/-- 07 and 21: a byte written to DRAM reads back, the next one stays. -/
theorem test_dram_write :
    (match step { w0 with
        pending := [.dramWrite 5 .dma [7] none]
        regs := (List.range 8).foldl (fun s n => s.setFld (F.DRAM_STAT_STATE n) chReady) w0 |>.regs } with
      | .next s => (s.memByte 5, s.memByte 6, s.pending)
      | _ => (0, 0, [])) = (7, 0, []) := by decide +kernel

/-- 02_register_pages.md: a host write of DEV_BOOT_PREF, a register of MGMT, is rejected with reason AGENT. -/
theorem test_rejected_write :
    (match step { w0 with pending := [.registerWrite .host (BitVec.ofNat 26 R.DEV_BOOT_PREF) 0xF 7] } with
      | .next s => (s.fld F.DEV_BOOT_PREF_FIRST == w0.fld F.DEV_BOOT_PREF_FIRST, (s.reg (R.xx_REJECT_ADDR P.DEV)).toNat / 2 ^ 28 == Reason.agent.code,
          (s.reg (R.xx_REJECT_COUNT P.DEV)).toNat)
      | _ => (false, false, 0)) = (true, true, 1) := by decide +kernel

/-- Hart 0 at the start of cached DRAM with one instruction there. -/
def wHart (x : List (Nat × BitVec 64)) (v : Nat) : State :=
  let s := (w0.setFlag (F.xx_CTRL_ENABLE (P.HART 0)) true).setMemNat 0 4 v
  s.setHart 0 { s.hart 0 with pc := 0x8000000000, x := x }

/-- 11_site_controller.md, RV64I: `addi x1, x0, 5`, its word by the RISC-V encoding. -/
theorem test_hart_addi :
    (match exec (.hartInstruction 0 wEnv) (wHart [] 0x00500093) with
      | .next s => (s.xr 0 1, (s.hart 0).pc)
      | _ => (0, 0)) = (5, 0x8000000004) := by decide +kernel

/-- 11_site_controller.md, RV64I: an arithmetic shift keeps the sign, `srai x2, x2, 63`. -/
theorem test_hart_srai :
    (match exec (.hartInstruction 0 wEnv) (wHart [(2, 0x8000000000000000)] 0x43F15113) with
      | .next s => s.xr 0 2
      | _ => 0) = 0xFFFFFFFFFFFFFFFF := by decide +kernel

/-- 11_site_controller.md, RV64C: `c.li x10, -1`, two bytes long. -/
theorem test_hart_compressed :
    (match exec (.hartInstruction 0 wEnv) (wHart [] 0x557D) with
      | .next s => (s.xr 0 10, (s.hart 0).pc)
      | _ => (0, 0)) = (0xFFFFFFFFFFFFFFFF, 0x8000000002) := by decide +kernel

/-! ### Witnesses of the statements: for each clause, a state and operands that meet its hypotheses -/

theorem wit_StepTakesTheFront : (∃ ss : State, ss.pending = Instr.hostLinkReset :: ([] : List Instr)) :=
  ⟨({ w0 with pending := Instr.hostLinkReset :: ([] : List Instr) } : State), by decide +kernel⟩

theorem wit_IdleStepIsOneDclk :
    (∃ ss : State, ss.pending = []) ∧
    (∃ ss : State, (ss.mode = mCold ∨ ss.dev.sleep.gated = true) ∧ ss.sstate ≠ ssOff ∧ ss.flag F.CLK_TPLL_LOCKED = false ∧
      ss.dclk % 8 ≠ 0) ∧
    (∃ ss : State, (ss.mode = mCold ∨ ss.dev.sleep.gated = true) ∧ ss.sstate = ssOff ∧ ss.flag F.CLK_TPLL_LOCKED = false ∧
      ss.dclk % 8 ≠ 0) :=
  ⟨⟨({ w0 with pending := [] } : State), by decide +kernel⟩,
   ⟨(((({ w0 with dclk := 1 } : State).setFld F.DEV_MODE_MODE mCold).setFld F.TIME_STAT_SSTATE ((ssOff) + 1)).setFlag
     F.CLK_TPLL_LOCKED false), by decide +kernel⟩,
   ⟨(((({ w0 with dclk := 9 } : State).setFld F.DEV_MODE_MODE mCold).setFld F.TIME_STAT_SSTATE ssOff).setFlag
     F.CLK_TPLL_LOCKED false), by decide +kernel⟩⟩

theorem wit_ResetState :
    ((0) < 64) ∧
    ((0) < 8) :=
  ⟨by decide +kernel,
   by decide +kernel⟩

theorem wit_PowerAndResetPins :
    (∃ ss : State, ss.mode = mCold ∧ ss.dev.rstn = true ∧ ss.dev.chipReset = false) ∧
    (∃ ss : State, (ss.mode ≠ mCold ∨ ss.dev.rstn = false ∨ ss.dev.chipReset = true)) ∧
    (∃ ss : State, ss.mode = mCold ∧ ss.dev.pwrgd = true ∧ ss.dev.chipReset = false) ∧
    (∃ ss : State, ss.mode = mCold ∧ ss.dev.pwrgd = true ∧ ss.dev.rstn = true) ∧
    (∃ ss : State, ss.mode ≠ mCold) ∧
    (∃ ss : State, ss.admits Agent.mgmt .rst P.RST = true ∧ (0 : BitVec 16) ≠ 0x5253) ∧
    (∃ ss : State, ss.monel.chipReset = some (0) ∧ (0) < 256) ∧
    (∃ ss : State, ss.monel.chipReset = none) :=
  ⟨⟨({ ({ (w0.setFld F.DEV_MODE_MODE mCold) with dev.rstn := true } : State) with dev.chipReset := false } : State),
    by decide +kernel⟩,
   ⟨(w0.setFld F.DEV_MODE_MODE ((mCold) + 1)), by decide +kernel⟩,
   ⟨({ ({ (w0.setFld F.DEV_MODE_MODE mCold) with dev.pwrgd := true } : State) with dev.chipReset := false } : State),
     by decide +kernel⟩,
   ⟨({ ({ (w0.setFld F.DEV_MODE_MODE mCold) with dev.pwrgd := true } : State) with dev.rstn := true } : State),
     by decide +kernel⟩,
   ⟨(w0.setFld F.DEV_MODE_MODE ((mCold) + 1)), by decide +kernel⟩,
   ⟨w0, by decide +kernel⟩,
   ⟨({ w0 with monel.chipReset := some (0) } : State), by decide +kernel⟩,
   ⟨({ w0 with monel.chipReset := none } : State), by decide +kernel⟩⟩

theorem wit_BootAndModes :
    (∃ ss : State, ss.mode = mBoot ∧ ss.dev.booted = false ∧ wBoot.fuseDouble = false ∧ (ss.dev.fuses.lcCode = 1 ∨
      ss.dev.fuses.lcCode = 2) ∧ ss.fld F.DEV_BOOT_PREF_FIRST = 1 ∧ imageValid wBoot.imageA ss.dev.fuses = true) ∧
    (∃ ss : State, ss.mode = mBoot ∧ ss.dev.booted = false ∧ ({ wBoot
      with imageA := { wImage with magic := 0 } }).fuseDouble = false ∧ (ss.dev.fuses.lcCode = 1 ∨ ss.dev.fuses.lcCode = 2)
      ∧ ss.fld F.DEV_BOOT_PREF_FIRST = 1 ∧ imageValid ({ wBoot with imageA := { wImage with magic := 0 } }).imageA
      ss.dev.fuses = false ∧ imageValid ({ wBoot with imageA := { wImage with magic := 0 } }).imageB ss.dev.fuses = true) ∧
    (∃ ss : State, ss.admits .mgmt .dev P.DEV = true ∧ ss.mode = mBoot) ∧
    (∃ ss : State, ss.admits .mgmt .dev P.DEV = true ∧ ss.mode ≠ mBoot) ∧
    (∃ ss : State, ss.responds (Agent.hart 7) = true ∧ (Agent.hart 7) ≠ .mgmt) ∧
    (∃ ss : State, ss.admits .mgmt .dev P.DEV = true ∧ ss.mode = mTrain ∧ ss.flag F.ALLOC_MAP_VALID = true ∧ ss.portsSettled
      = true) ∧
    (∃ ss : State, ss.admits Agent.mgmt .dev P.DEV = true ∧ ss.flag F.DEV_MODE_BUSY = false ∧ (ss.mode = mReady ∨ ss.mode =
      mMeasure) ∧ ss.allIdle = true) ∧
    (∃ ss : State, ss.admits Agent.mgmt .dev P.DEV = true ∧ ss.flag F.DEV_MODE_BUSY = false ∧ ss.mode = mReady ∧ ss.allIdle
      = true) ∧
    (∃ ss : State, ss.admits Agent.mgmt .dev P.DEV = true ∧ ss.flag F.DEV_MODE_BUSY = false ∧ (ss.mode = mDiagnose ∨ ss.mode
      = mService)) ∧
    (∃ ss : State, ss.admits Agent.mgmt .dev P.DEV = true ∧ ss.flag F.DEV_MODE_BUSY = false ∧ ss.mode = mCalibrate) ∧
    (∃ ss : State, ss.admits Agent.mgmt .dev P.DEV = true ∧ ss.flag F.DEV_MODE_BUSY = true) ∧
    (∃ ss : State, ss.admits Agent.mgmt .dev P.DEV = true ∧ ss.flag F.DEV_MODE_BUSY = false ∧ ss.mode = mReady ∧ ss.reg
      R.PWR_WAKE_STAT = 0) :=
  ⟨⟨(({ ({ (w0.setFld F.DEV_MODE_MODE mBoot) with dev.booted := false } : State) with dev.fuses.lifecycle := 1 } :
    State).setFld F.DEV_BOOT_PREF_FIRST 1), by decide +kernel⟩,
   ⟨(({ ({ (w0.setFld F.DEV_MODE_MODE mBoot) with dev.booted := false } : State) with dev.fuses.lifecycle := 1 } :
     State).setFld F.DEV_BOOT_PREF_FIRST 1), by decide +kernel⟩,
   ⟨(w0.setFld F.DEV_MODE_MODE mBoot), by decide +kernel⟩,
   ⟨(w0.setFld F.DEV_MODE_MODE ((mBoot) + 1)), by decide +kernel⟩,
   ⟨(w0.setFlag (F.xx_CTRL_ENABLE (P.HART 7)) true), by decide +kernel⟩,
   ⟨((w0.setFld F.DEV_MODE_MODE mTrain).setFlag F.ALLOC_MAP_VALID true), by decide +kernel⟩,
   ⟨((w0.setFlag F.DEV_MODE_BUSY false).setFld F.DEV_MODE_MODE mReady), by decide +kernel⟩,
   ⟨((w0.setFlag F.DEV_MODE_BUSY false).setFld F.DEV_MODE_MODE mReady), by decide +kernel⟩,
   ⟨((w0.setFlag F.DEV_MODE_BUSY false).setFld F.DEV_MODE_MODE mDiagnose), by decide +kernel⟩,
   ⟨((w0.setFlag F.DEV_MODE_BUSY false).setFld F.DEV_MODE_MODE mCalibrate), by decide +kernel⟩,
   ⟨(w0.setFlag F.DEV_MODE_BUSY true), by decide +kernel⟩,
   ⟨(((w0.setFlag F.DEV_MODE_BUSY false).setFld F.DEV_MODE_MODE mReady).setReg R.PWR_WAKE_STAT 0), by decide +kernel⟩⟩

theorem wit_SleepAndWake :
    (∃ ss : State, ss.dev.sleep = ⟨(0), 3, false⟩ ∧ ss.reg R.PWR_WAKE_STAT = 0) ∧
    (∃ ss : State, ss.dev.sleep = ⟨(0), 3, false⟩ ∧ ss.reg R.PWR_WAKE_STAT ≠ 0) ∧
    (∃ ss : State, ss.dev.sleep = ⟨(3), 1, false⟩ ∧ ss.inFlight = true) ∧
    (∃ ss : State, ss.mode ≠ mCold ∧ ss.mode ≠ mHibernate ∧ ss.bit R.PWR_WAKE_EN (0 : Fin 5) = true ∧ ss.dev.sleep.target =
      0) ∧
    (∃ ss : State, ss.mode ≠ mCold ∧ ss.mode ≠ mHibernate ∧ ss.bit R.PWR_WAKE_EN (0 : Fin 5) = true ∧ ss.dev.sleep.target ≠
      0 ∧ ss.dev.sleep.gated = false) ∧
    (∃ ss : State, (ss.mode = mCold ∨ ss.bit R.PWR_WAKE_EN (0 : Fin 5) = false ∨ (ss.mode = mHibernate ∧ ((0 : Fin 5) = 2 ∨
      (0 : Fin 5) = 3)))) ∧
    (∃ ss : State, ss.mode = mDoze ∧ ss.dev.sleep.gated = true ∧ ss.reg R.PWR_WAKE_TMR ≠ 0 ∧ ss.bit R.PWR_WAKE_EN 1 = true)
      ∧
    (∃ ss : State, ss.reg R.PWR_WAKE_TMR = 0) ∧
    (∃ ss : State, ss.mode = mDoze ∧ ss.reg R.PWR_WAKE_STAT ≠ 0) ∧
    (∃ ss : State, ss.mode = mHibernate ∧ ss.reg R.PWR_WAKE_STAT ≠ 0) :=
  ⟨⟨(({ w0 with dev.sleep := ⟨(0), 3, false⟩ } : State).setReg R.PWR_WAKE_STAT 0), by decide +kernel⟩,
   ⟨(({ w0 with dev.sleep := ⟨(0), 3, false⟩ } : State).setReg R.PWR_WAKE_STAT 1), by decide +kernel⟩,
   ⟨(({ w0 with dev.sleep := ⟨(3), 1, false⟩ } : State).setFld (F.DMA_CH_STAT_STATE 3 7) 1), by decide +kernel⟩,
   ⟨({ (((w0.setFld F.DEV_MODE_MODE ((mCold) + 1)).setFld F.DEV_MODE_MODE ((mHibernate) + 1)).setBit R.PWR_WAKE_EN (0 : Fin
     5) true) with dev.sleep.target := 0 } : State), by decide +kernel⟩,
   ⟨({ ({ (((w0.setFld F.DEV_MODE_MODE ((mCold) + 1)).setFld F.DEV_MODE_MODE ((mHibernate) + 1)).setBit R.PWR_WAKE_EN (0 :
     Fin 5) true) with dev.sleep.target := 1 } : State) with dev.sleep.gated := false } : State), by decide +kernel⟩,
   ⟨(w0.setFld F.DEV_MODE_MODE mCold), by decide +kernel⟩,
   ⟨((({ (w0.setFld F.DEV_MODE_MODE mDoze) with dev.sleep.gated := true } : State).setReg R.PWR_WAKE_TMR 1).setBit
     R.PWR_WAKE_EN 1 true), by decide +kernel⟩,
   ⟨(w0.setReg R.PWR_WAKE_TMR 0), by decide +kernel⟩,
   ⟨((w0.setFld F.DEV_MODE_MODE mDoze).setReg R.PWR_WAKE_STAT 1), by decide +kernel⟩,
   ⟨((w0.setFld F.DEV_MODE_MODE mHibernate).setReg R.PWR_WAKE_STAT 1), by decide +kernel⟩⟩

theorem wit_ClocksRailsTemperature :
    (∃ ss : State, ss.mode = mCold) ∧
    (∃ ss : State, ss.flag F.CLK_TPLL_LOCKED = true) ∧
    (∃ ss : State, ss.flag F.CLK_TPLL_LOCKED = false) ∧
    (∃ ss : State, ss.bit R.CLK_SPLL (31 - (0 : Fin 2).val) = true) ∧
    (∃ ss : State, ss.mode ≠ mCold ∧ 1840 ≤ (1840 : BitVec 16).toInt) ∧
    (∃ ss : State, ss.mode ≠ mCold ∧ (0 : BitVec 16).toInt < 1840) ∧
    (∃ ss : State, ss.mode ≠ mCold ∧ 2080 ≤ (2080 : BitVec 16).toInt) :=
  ⟨⟨(w0.setFld F.DEV_MODE_MODE mCold), by decide +kernel⟩,
   ⟨(w0.setFlag F.CLK_TPLL_LOCKED true), by decide +kernel⟩,
   ⟨(w0.setFlag F.CLK_TPLL_LOCKED false), by decide +kernel⟩,
   ⟨(w0.setBit R.CLK_SPLL (31 - (0 : Fin 2).val) true), by decide +kernel⟩,
   ⟨(w0.setFld F.DEV_MODE_MODE ((mCold) + 1)), by decide +kernel⟩,
   ⟨(w0.setFld F.DEV_MODE_MODE ((mCold) + 1)), by decide +kernel⟩,
   ⟨(w0.setFld F.DEV_MODE_MODE ((mCold) + 1)), by decide +kernel⟩⟩

theorem wit_PinsSmbusQspi :
    (∃ ss : State, ss.clocked = true ∧ ss.edgeSelected (R.DEV_TIN (0 : Fin 8)) true = true) ∧
    (∃ ss : State, ss.edgeSelected (R.DEV_TIN (1 : Fin 8)) false = false) ∧
    (∃ ss : State, ss.clocked = true ∧ ss.edgeSelected R.DEV_SIN true = true ∧ (ss.stampEvent 8).fld F.DEV_SYNC_ROUTE = 0) ∧
    (∃ ss : State, ss.admits Agent.mgmt .dev P.DEV = true ∧ ss.fld F.DEV_SYNC_OUT_SRC = 3 ∧ ss.fld F.DEV_SYNC_ROUTE ≤ 8) ∧
    (∃ ss : State, ss.mode ≠ mCold ∧ ss.dev.sleep.gated = false ∧ (⟨0, 3, 0, 0, false, []⟩ : QspiCommand).data.length ≤ 256)
      ∧
    (∃ ss : State, ss.mode ≠ mCold ∧ ss.mode ≠ mDoze ∧ ss.mode ≠ mHibernate) ∧
    (∃ ss : State, (ss.mode = mDoze ∨ ss.mode = mHibernate)) ∧
    (∃ ss : State, ss.mode = mCold) ∧
    (∃ ss : State, ss.flag F.HOST_STAT_DL_UP = true) :=
  ⟨⟨w0, by decide +kernel⟩,
   ⟨w0, by decide +kernel⟩,
   ⟨w0, by decide +kernel⟩,
   ⟨(w0.setFld F.DEV_SYNC_OUT_SRC 3), by decide +kernel⟩,
   ⟨({ (w0.setFld F.DEV_MODE_MODE ((mCold) + 1)) with dev.sleep.gated := false } : State), by decide +kernel⟩,
   ⟨(((w0.setFld F.DEV_MODE_MODE ((mCold) + 1)).setFld F.DEV_MODE_MODE ((mDoze) + 1)).setFld F.DEV_MODE_MODE ((mHibernate) +
     1)), by decide +kernel⟩,
   ⟨(w0.setFld F.DEV_MODE_MODE mDoze), by decide +kernel⟩,
   ⟨(w0.setFld F.DEV_MODE_MODE mCold), by decide +kernel⟩,
   ⟨(w0.setFlag F.HOST_STAT_DL_UP true), by decide +kernel⟩⟩

theorem wit_TestAccessPort :
    (∃ ss : State, ss.mode = mCold ∧ ss.railsGood = true ∧ ss.dev.pwrgd = true) ∧
    (∃ ss : State, (ss.mode ≠ mCold ∨ ss.railsGood = false ∨ ss.dev.pwrgd = false)) ∧
    (∃ ss : State, ss.dev.tap.addr = 0x1600) ∧
    (∃ ss : State, ss.mode ≠ mCold) ∧
    (∃ ss : State, ss.mode = mCold ∧ ss.dev.tap.busy = false ∧ ss.dev.fuses.progAllowed (0 : BitVec 8).toNat (0 : BitVec
      8).toNat (0 : BitVec 32) = false) ∧
    (∃ ss : State, ss.mode = mCold ∧ ss.dev.tap.busy = false ∧ ss.dev.fuses.lcCode = 2) ∧
    (∃ ss : State, ss.dev.tap.busy = true ∧ ss.dev.tap.pendResult = 0) ∧
    (∃ ss : State, ss.railsGood = true ∧ ss.dev.shadow.debugLock = true) ∧
    (∃ ss : State, ss.railsGood = true ∧ ss.dev.shadow.debugLock = false) :=
  ⟨⟨({ (w0.setFld F.DEV_MODE_MODE mCold) with dev.pwrgd := true } : State), by decide +kernel⟩,
   ⟨(w0.setFld F.DEV_MODE_MODE ((mCold) + 1)), by decide +kernel⟩,
   ⟨({ w0 with dev.tap.addr := 0x1600 } : State), by decide +kernel⟩,
   ⟨(w0.setFld F.DEV_MODE_MODE ((mCold) + 1)), by decide +kernel⟩,
   ⟨({ (w0.setFld F.DEV_MODE_MODE mCold) with dev.tap.busy := false } : State), by decide +kernel⟩,
   ⟨({ ({ (w0.setFld F.DEV_MODE_MODE mCold) with dev.tap.busy := false } : State) with dev.fuses.lifecycle := 2 } : State),
     by decide +kernel⟩,
   ⟨({ ({ w0 with dev.tap.busy := true } : State) with dev.tap.pendResult := 0 } : State), by decide +kernel⟩,
   ⟨({ w0 with dev.shadow.debugLock := true } : State), by decide +kernel⟩,
   ⟨({ w0 with dev.shadow.debugLock := false } : State), by decide +kernel⟩⟩

theorem wit_FusesOnlyGainBits :
    (∃ ss : State, ss.dev.fuses.debugLock = true ∧ wDone (exec (.tapFuseProg 0 0 1 true) ss) = true) ∧
    (∃ ss : State, ss.dev.fuses.iso = true ∧ wDone (exec (.tapFuseProg 0 0 1 true) ss) = true) ∧
    (∃ ss : State, ss.dev.fuses.blown0 = true ∧ wDone (exec (.tapFuseProg 0 0 1 true) ss) = true) ∧
    (∃ ss : State, ss.dev.fuses.blown1 = true ∧ wDone (exec (.tapFuseProg 0 0 1 true) ss) = true) :=
  ⟨⟨{ w0 with dev.fuses.debugLock := true }, by decide +kernel⟩,
   ⟨{ w0 with dev.fuses.iso := true }, by decide +kernel⟩,
   ⟨{ w0 with dev.fuses.blown0 := true }, by decide +kernel⟩,
   ⟨{ w0 with dev.fuses.blown1 := true }, by decide +kernel⟩⟩

theorem wit_RegisterWritesAreCheckedWhole :
    (∃ ss : State, ss.responds .mgmt = true ∧ (ss.access .mgmt (R.PWR_WAKE_TMR) true false 7).any (fun x => ss.writeReason
      .mgmt x.group x.page x.align x.rule == none) = true) ∧
    (∃ ss : State, ss.responds .host = true ∧ (ss.access .host (R.DEV_BOOT_PREF) true false 7).any (fun x => ss.writeReason
      .host x.group x.page x.align x.rule == some .agent) = true) ∧
    (∃ ss : State, ss.responds Agent.host = false) ∧
    (∃ ss : State, ss.responds Agent.host = true ∧ reservedOffset (32768 : BitVec 26).toNat = true) ∧
    (∃ ss : State, ss.responds .mgmt = true ∧ (ss.access .mgmt (R.SEQ_START_ADDR_LO 15) true false 16).any (fun x =>
      ss.writeReason .mgmt x.group x.page x.align x.rule == none) = true) ∧
    (∃ ss : State, ss.responds .mgmt = true ∧ (ss.access .mgmt (0x1900000) true true 16).any (fun x => ss.writeReason .mgmt
      x.group x.page x.align x.rule == none) = true) ∧
    (∃ ss : State, (ss.access .mgmt (R.PWR_WAKE_TMR) ((7 : BitVec 4) == 0xF) false 16).any (fun _ => true) = true ∧
      (ss.access .mgmt (R.PWR_WAKE_TMR + 1) true false 16).any (fun _ => true) = true) ∧
    (wPage ∈ pageRows ∧ (0) < wPage.count ∧ (0) < 2 ^ 26) :=
  ⟨⟨w0, by decide +kernel⟩,
   ⟨w0, by decide +kernel⟩,
   ⟨w0.setFld F.DEV_MODE_MODE mHibernate, by decide +kernel⟩,
   ⟨w0, by decide +kernel⟩,
   ⟨w0, by decide +kernel⟩,
   ⟨w0, by decide +kernel⟩,
   ⟨w0, by decide +kernel⟩,
   by decide +kernel⟩

theorem wit_RejectedWriteChangesNothingElse : (∃ ss : State, ss.responds .host = true ∧ (ss.access .host (R.DEV_BOOT_PREF)
  true false 7).any (fun x => ss.writeReason .host x.group x.page x.align x.rule == some .agent) = true ∧ wDone (exec
  (.registerWrite .host (BitVec.ofNat 26 R.DEV_BOOT_PREF) 0xF 7) ss) = true) :=
  ⟨w0, by decide +kernel⟩

theorem wit_HeaderCommands :
    (∃ ss : State, pageOfOrdinal (0 : Fin 115).val = some (0) ∧ pageKind? (0) = some PageKind.dev ∧ PageKind.dev ≠ .hostp ∧
      ss.admits Agent.mgmt PageKind.dev (0) = true) ∧
    (∃ ss : State, pageOfOrdinal (0 : Fin 115).val = some (0) ∧ pageKind? (0) = some PageKind.dev ∧ ss.admits .mgmt
      PageKind.dev (0) = true ∧ bitsOf (1073741824 : BitVec 32).toNat 31 30 = 1 ∧ bitsOf (1073741824 : BitVec 32).toNat 11 0
      ≤ 63) ∧
    (∃ ss : State, pageOfOrdinal (0 : Fin 115).val = some (0) ∧ Agent.host ≠ .mgmt ∧ ss.responds Agent.host = true) ∧
    (∃ ss : State, pageOfOrdinal (0 : Fin 115).val = some (0) ∧ pageKind? (0) = some PageKind.dev ∧ ss.admits Agent.mgmt
      PageKind.dev (0) = true ∧ shadowedKind PageKind.dev = false) ∧
    (∃ ss : State, pageOfOrdinal (20 : Fin 115).val = some (P.SEQ 15) ∧ pageKind? (P.SEQ 15) = some .seq ∧ ss.admits
      Agent.mgmt .seq (P.SEQ 15) = true) ∧
    (∃ ss : State, ss.flag (F.xx_CTRL_FREEZE_SHADOW (0)) = false) ∧
    (∃ ss : State, (1 : BitVec 32) ≠ ss.reg (R.xx_SHADOW_GEN (1))) ∧
    (∃ ss : State, pageOfOrdinal (0 : Fin 115).val = some (0) ∧ pageKind? (0) = some PageKind.dev ∧ ss.admits Agent.mgmt
      PageKind.dev (0) = true ∧ PageKind.dev ≠ .hart ∧ PageKind.dev ≠ .pgr ∧ ss.resetAllowed (0) = true) ∧
    (∃ ss : State, pageOfOrdinal (5 : Fin 115).val = some (P.SEQ 0) ∧ pageKind? (P.SEQ 0) = some PageKind.seq ∧ ss.admits
      Agent.mgmt PageKind.seq (P.SEQ 0) = true ∧ PageKind.seq ≠ .hart ∧ PageKind.seq ≠ .pgr ∧ ss.resetAllowed (P.SEQ 0) =
      false) ∧
    (∃ ss : State, pageOfOrdinal (0 : Fin 115).val = some (0) ∧ ss.flag (F.xx_STAT_IN_RESET (0)) = true) ∧
    (∃ ss : State, pageOfOrdinal (0 : Fin 115).val = some (0) ∧ ss.flag (F.xx_STAT_IN_RESET (0)) = false) :=
  ⟨⟨w0, by decide +kernel⟩,
   ⟨w0, by decide +kernel⟩,
   ⟨w0, by decide +kernel⟩,
   ⟨w0, by decide +kernel⟩,
   ⟨w0, by decide +kernel⟩,
   ⟨(w0.setFlag (F.xx_CTRL_FREEZE_SHADOW (0)) false), by decide +kernel⟩,
   ⟨w0, by decide +kernel⟩,
   ⟨w0, by decide +kernel⟩,
   ⟨(((w0.setReg64 (R.PART_P_QUAD_LO 63) (R.PART_P_QUAD_HI 63) 1).setFlag (F.PART_P_CFG_DEFINED 63) true).setFld
     (F.PART_P_STAT_STATE 63) pArmed), by decide +kernel⟩,
   ⟨(w0.setFlag (F.xx_STAT_IN_RESET (0)) true), by decide +kernel⟩,
   ⟨(w0.setFlag (F.xx_STAT_IN_RESET (0)) false), by decide +kernel⟩⟩

theorem wit_ShadowTransfers :
    (∃ ss : State, pageOfOrdinal (20 : Fin 115).val = some (P.SEQ (15 : Fin 16)) ∧ ss.commitReady (P.SEQ (15 : Fin 16)) =
      true) ∧
    (∃ ss : State, pageOfOrdinal (0 : Fin 115).val = some (0) ∧ pageKind? (0) = some PageKind.dev ∧ ss.commitReady
      (ss.commitPage (0)) = false) ∧
    (∃ ss : State, pageOfOrdinal (59 : Fin 115).val = some (P.SYN (0 : Fin 4)) ∧ ss.commitReady (P.SYN (0 : Fin 4)) = true ∧
      ss.synState (0 : Fin 4) ≠ syRun) ∧
    (wPage ∈ pageRows ∧ (0) < wPage.count) :=
  ⟨⟨(w0.setFlag (F.xx_COMMIT_STAT_PENDING (P.SEQ 15)) true), by decide +kernel⟩,
   ⟨w0, by decide +kernel⟩,
   ⟨((w0.setFld (F.SYN_STAT_STATE (0 : Fin 4)) ((syRun) + 1)).setFlag (F.xx_COMMIT_STAT_PENDING (P.SYN 0)) true),
     by decide +kernel⟩,
   by decide +kernel⟩

theorem wit_ReadsOfTheWindow :
    (∃ ss : State, ss.responds Agent.mgmt = true ∧ ((0 : BitVec 26).toNat / 4 * 4) ≠ R.TIME_ES_HEAD_LO ∧ (((0 : BitVec
      26).toNat / 4 * 4) < R.FQ_Q_POP_LO 0 ∨ P.FQ + 0xC00 ≤ ((0 : BitVec 26).toNat / 4 * 4)) ∧ (((0 : BitVec 26).toNat / 4 *
      4) < R.HIC_T_CLAIM 0 ∨ R.HIC_T_CLAIM 9 < ((0 : BitVec 26).toNat / 4 * 4)) ∧ ((0 : BitVec 26).toNat / 4 * 4) ≠
      R.CAL_EXP_DATA ∧ ss.latched Agent.mgmt ((0 : BitVec 26).toNat / 4 * 4) = none) ∧
    (∃ ss : State, ss.responds Agent.host = true ∧ ((BitVec.ofNat 26 (R.PART_P_QUAD_HI 63)).toNat / 4 * 4) ≠
      R.TIME_ES_HEAD_LO ∧ (((BitVec.ofNat 26 (R.PART_P_QUAD_HI 63)).toNat / 4 * 4) < R.FQ_Q_POP_LO 0 ∨ P.FQ + 0xC00 ≤
      ((BitVec.ofNat 26 (R.PART_P_QUAD_HI 63)).toNat / 4 * 4)) ∧ (((BitVec.ofNat 26 (R.PART_P_QUAD_HI 63)).toNat / 4 * 4) <
      R.HIC_T_CLAIM 0 ∨ R.HIC_T_CLAIM 9 < ((BitVec.ofNat 26 (R.PART_P_QUAD_HI 63)).toNat / 4 * 4)) ∧ ((BitVec.ofNat 26
      (R.PART_P_QUAD_HI 63)).toNat / 4 * 4) ≠ R.CAL_EXP_DATA ∧ ss.latched Agent.host ((BitVec.ofNat 26 (R.PART_P_QUAD_HI
      63)).toNat / 4 * 4) = some (5 : Word)) ∧
    (∃ ss : State, ss.responds Agent.mgmt = false) ∧
    ((pageAt (R.PWR_TEMP_MAX)).any (fun x => (findRow x.1.kind x.2.2).any (fun r => r.rc != 0)) = true ∧ R.PWR_TEMP_MAX ≠
      R.FLT_SRC_COUNT) ∧
    (tableAt (0x8000) = none ∧ pageAt (0x8000) = none) :=
  ⟨⟨w0, by decide +kernel⟩,
   ⟨{ w0 with loLatch := [(latchKey .host (R.PART_P_QUAD_HI 63), 5)] }, by decide +kernel⟩,
   ⟨w0.setFld F.DEV_MODE_MODE mDoze, by decide +kernel⟩,
   by decide +kernel,
   by decide +kernel⟩

theorem wit_PartitionCommands :
    (∃ ss : State, ss.admits Agent.host .part P.PART = true ∧ ss.partOwner Agent.host (63 : Fin 64) = true ∧ ss.bit
      (R.xx_FLT_INJ P.PART) X.PART_CTX_ECC = false ∧ ss.armable (63 : Fin 64) = true ∧ (ss.capArm (63 : Fin 64)).1 = true) ∧
    (∃ ss : State, ss.admits Agent.mgmt .part P.PART = true ∧ ss.partOwner Agent.mgmt (0 : Fin 64) = true ∧ ss.bit
      (R.xx_FLT_INJ P.PART) X.PART_CTX_ECC = false ∧ ss.armable (0 : Fin 64) = false) ∧
    (∃ ss : State, ss.admits Agent.mgmt .part P.PART = true ∧ ss.partOwner Agent.mgmt (0 : Fin 64) = true ∧ ss.bit
      (R.xx_FLT_INJ P.PART) X.PART_CTX_ECC = false ∧ ss.pstate (0 : Fin 64) = pArmed) ∧
    (∃ ss : State, ss.admits Agent.mgmt .part P.PART = true ∧ ss.partOwner Agent.mgmt (0 : Fin 64) = true ∧ ss.bit
      (R.xx_FLT_INJ P.PART) X.PART_CTX_ECC = false ∧ ss.pstate (0 : Fin 64) ≠ pArmed) ∧
    (∃ ss : State, ss.admits Agent.mgmt .part P.PART = true ∧ ss.partOwner Agent.mgmt (0 : Fin 64) = true ∧ ss.bit
      (R.xx_FLT_INJ P.PART) X.PART_CTX_ECC = false ∧ ss.pstate (0 : Fin 64) = pRunning) ∧
    (∃ ss : State, ss.admits Agent.mgmt .part P.PART = true ∧ ss.partOwner Agent.mgmt (0 : Fin 64) = true ∧ ss.bit
      (R.xx_FLT_INJ P.PART) X.PART_CTX_ECC = false ∧ ss.pstate (0 : Fin 64) = pPaused) ∧
    (∃ ss : State, ss.admits Agent.mgmt .part P.PART = true ∧ ss.partOwner Agent.mgmt (0 : Fin 64) = true ∧ ss.bit
      (R.xx_FLT_INJ P.PART) X.PART_CTX_ECC = false ∧ ss.pstate (0 : Fin 64) ≠ pRunning ∧ ss.pstate (0 : Fin 64) ≠ pPaused) ∧
    (∃ ss : State, ss.admits Agent.mgmt .part P.PART = true ∧ ss.partOwner Agent.mgmt (0 : Fin 64) = true ∧ ss.bit
      (R.xx_FLT_INJ P.PART) X.PART_CTX_ECC = false ∧ (ss.pstate (0 : Fin 64) = pIdle ∨ ss.pstate (0 : Fin 64) = pFaulted) ∧
      ss.partMode = true) ∧
    (∃ ss : State, ss.admits Agent.mgmt .part P.PART = true ∧ ss.partOwner Agent.mgmt (0 : Fin 64) = true ∧ ss.bit
      (R.xx_FLT_INJ P.PART) X.PART_CTX_ECC = false ∧ ss.partMode = false) ∧
    (∃ ss : State, ss.admits Agent.mgmt .part P.PART = true ∧ ss.partOwner Agent.mgmt (0 : Fin 64) = true ∧ ss.bit
      (R.xx_FLT_INJ P.PART) X.PART_CTX_ECC = false ∧ ss.pstate (0 : Fin 64) = pService ∧ ss.flag (F.PART_P_STAT_SVC_BUSY (0
      : Fin 64)) = false) ∧
    (∃ ss : State, ss.admits Agent.mgmt .part P.PART = true ∧ ss.partOwner Agent.mgmt (0 : Fin 64) = true ∧ ss.bit
      (R.xx_FLT_INJ P.PART) X.PART_CTX_ECC = false ∧ ss.flag (F.PART_P_STAT_SVC_BUSY (0 : Fin 64)) = true) ∧
    (∃ ss : State, ss.admits Agent.mgmt .part P.PART = true ∧ ss.partOwner Agent.mgmt (0 : Fin 64) = true ∧ ss.bit
      (R.xx_FLT_INJ P.PART) X.PART_CTX_ECC = false ∧ (ss.pstate (0 : Fin 64) = pRunning ∨ ss.pstate (0 : Fin 64) = pPaused)
      ∧ ss.spanSite (0 : Fin 64) = none) ∧
    (∃ ss : State, ss.admits Agent.mgmt .part P.PART = true ∧ ss.partOwner Agent.mgmt (63 : Fin 64) = true ∧ ss.bit
      (R.xx_FLT_INJ P.PART) X.PART_CTX_ECC = false ∧ ss.recoverable (63 : Fin 64) = true) ∧
    (∃ ss : State, ss.admits Agent.mgmt .part P.PART = true ∧ ss.partOwner Agent.mgmt (0 : Fin 64) = true ∧ ss.bit
      (R.xx_FLT_INJ P.PART) X.PART_CTX_ECC = false ∧ ss.pstate (0 : Fin 64) ≠ pFaulted) ∧
    (∃ ss : State, ss.admits Agent.host .part P.PART = true ∧ ss.partOwner Agent.host (0 : Fin 64) = false) ∧
    (∃ ss : State, ss.isolation = true ∧ Agent.host ≠ .mgmt ∧ bitsOf (ss.reg R.PART_SHARED_OWNER).toNat 31 30 ≠ 2 ∧
      (ss.tagOf Agent.host).getLsbD (63) = false) :=
  ⟨⟨(((((w0.setReg64 (R.PART_P_QUAD_LO 63) (R.PART_P_QUAD_HI 63) 1).setFlag (F.PART_P_CFG_DEFINED 63) true).setReg
    (R.CAP_PMASK_HI 0) 0x80000000))).setReg (R.CAP_CFG 0) 0, by decide +kernel⟩,
   ⟨(w0.setBit (R.xx_FLT_INJ P.PART) X.PART_CTX_ECC false), by decide +kernel⟩,
   ⟨((w0.setBit (R.xx_FLT_INJ P.PART) X.PART_CTX_ECC false).setFld (F.PART_P_STAT_STATE (0 : Fin 64)) pArmed),
     by decide +kernel⟩,
   ⟨((w0.setBit (R.xx_FLT_INJ P.PART) X.PART_CTX_ECC false).setFld (F.PART_P_STAT_STATE (0 : Fin 64)) ((pArmed) + 1)),
     by decide +kernel⟩,
   ⟨((w0.setBit (R.xx_FLT_INJ P.PART) X.PART_CTX_ECC false).setFld (F.PART_P_STAT_STATE (0 : Fin 64)) pRunning),
     by decide +kernel⟩,
   ⟨((w0.setBit (R.xx_FLT_INJ P.PART) X.PART_CTX_ECC false).setFld (F.PART_P_STAT_STATE (0 : Fin 64)) pPaused),
     by decide +kernel⟩,
   ⟨(((w0.setBit (R.xx_FLT_INJ P.PART) X.PART_CTX_ECC false).setFld (F.PART_P_STAT_STATE (0 : Fin 64)) ((pRunning) +
     1)).setFld (F.PART_P_STAT_STATE (0 : Fin 64)) ((pPaused) + 1)), by decide +kernel⟩,
   ⟨((w0.setBit (R.xx_FLT_INJ P.PART) X.PART_CTX_ECC false).setFld (F.PART_P_STAT_STATE (0 : Fin 64)) pIdle),
     by decide +kernel⟩,
   ⟨w0.setFld F.DEV_MODE_MODE mTrain, by decide +kernel⟩,
   ⟨(((w0.setBit (R.xx_FLT_INJ P.PART) X.PART_CTX_ECC false).setFld (F.PART_P_STAT_STATE (0 : Fin 64)) pService).setFlag
     (F.PART_P_STAT_SVC_BUSY (0 : Fin 64)) false), by decide +kernel⟩,
   ⟨((w0.setBit (R.xx_FLT_INJ P.PART) X.PART_CTX_ECC false).setFlag (F.PART_P_STAT_SVC_BUSY (0 : Fin 64)) true),
     by decide +kernel⟩,
   ⟨((w0.setBit (R.xx_FLT_INJ P.PART) X.PART_CTX_ECC false).setFld (F.PART_P_STAT_STATE (0 : Fin 64)) pRunning),
     by decide +kernel⟩,
   ⟨(((w0.setBit (R.xx_FLT_INJ P.PART) X.PART_CTX_ECC false).setFld (F.PART_P_STAT_STATE 63) pFaulted).setFlag
     (F.PART_P_STAT_ISOLATED 63) true), by decide +kernel⟩,
   ⟨((w0.setBit (R.xx_FLT_INJ P.PART) X.PART_CTX_ECC false).setFld (F.PART_P_STAT_STATE (0 : Fin 64)) ((pFaulted) + 1)),
     by decide +kernel⟩,
   ⟨{ w0 with dev.shadow.iso := true }, by decide +kernel⟩,
   ⟨({ w0 with dev.shadow.iso := true } : State).setReg R.PART_SHARED_OWNER 0, by decide +kernel⟩⟩

theorem wit_PartitionContexts :
    (∃ ss : State, ss.admits Agent.mgmt .part P.PART = true ∧ ss.bit (R.xx_FLT_INJ P.PART) X.PART_CTX_ECC = false ∧
      ss.defined (63 : Fin 64) = false ∧ ss.pstate (63 : Fin 64) = pIdle ∧ ss.definedParts.all (fun j => j == (63 : Fin
      64).val || !ss.partsOverlap (63 : Fin 64) j) = true ∧ ss.namesRetired (63 : Fin 64) = false ∧ ss.quadsLegal (63 : Fin
      64) = true) ∧
    (∃ ss : State, ss.admits Agent.mgmt .part P.PART = true ∧ ss.bit (R.xx_FLT_INJ P.PART) X.PART_CTX_ECC = false ∧
      ss.defined (0 : Fin 64) = false ∧ ss.pstate (0 : Fin 64) ≠ pIdle) ∧
    (∃ ss : State, ss.admits Agent.mgmt .part P.PART = true ∧ ss.defined (0 : Fin 64) = true ∧ ss.pstate (0 : Fin 64) =
      pIdle) ∧
    (∃ ss : State, ss.admits .mgmt .part P.PART = true ∧ ((∀ b, b < 32 → ss.retInUse 5 b = false))) ∧
    (∃ ss : State, ss.admits Agent.host .part P.PART = true ∧ Agent.host ≠ .mgmt) ∧
    (∃ ss : State, ss.bit (retReg 6) 23 = true) :=
  ⟨⟨((((w0.setBit (R.xx_FLT_INJ P.PART) X.PART_CTX_ECC false).setFlag (F.PART_P_CFG_DEFINED (63 : Fin 64)) false).setFld
    (F.PART_P_STAT_STATE (63 : Fin 64)) pIdle).setReg64 (R.PART_P_QUAD_LO 63) (R.PART_P_QUAD_HI 63) 1), by decide +kernel⟩,
   ⟨(((w0.setBit (R.xx_FLT_INJ P.PART) X.PART_CTX_ECC false).setFlag (F.PART_P_CFG_DEFINED (0 : Fin 64)) false).setFld
     (F.PART_P_STAT_STATE (0 : Fin 64)) ((pIdle) + 1)), by decide +kernel⟩,
   ⟨((w0.setFlag (F.PART_P_CFG_DEFINED (0 : Fin 64)) true).setFld (F.PART_P_STAT_STATE (0 : Fin 64)) pIdle),
     by decide +kernel⟩,
   ⟨w0, by decide +kernel⟩,
   ⟨w0, by decide +kernel⟩,
   ⟨w0.setBit (retReg 6) 23 true, by decide +kernel⟩⟩

theorem wit_InterruptController :
    (∃ ss : State, ss.admits Agent.mgmt .hic P.HIC = true) ∧
    (∃ ss : State, ss.responds (.hart (7 : Fin 8)) = true ∧ ss.bestSource (7 : Fin 8) = some (511) ∧ ss.bit (R.xx_FLT_INJ
      P.HIC) X.HIC_CFG_ECC = false ∧ ss.deliverable (7 : Fin 8) (511) = true) ∧
    (∃ ss : State, ss.responds Agent.mgmt = true ∧ (claims Agent.mgmt (0 : Fin 10) = false ∨ ss.bestSource (0 : Fin 10) =
      none)) ∧
    (∃ ss : State, ss.bestSource (9) = some (511) ∧ (511) < 512 ∧ ss.deliverable (9) (511) = true) ∧
    (∃ ss : State, ss.msixReady (255 : BitVec 8).toNat = true) ∧
    (∃ ss : State, ss.msixReady (0 : BitVec 8).toNat = false) :=
  ⟨⟨w0, by decide +kernel⟩,
   ⟨(((({ w0 with hic.cfg := [(511, 0x701)] } : State).setBit (R.HIC_EN (511 / 32)) (511 % 32) true).setBit (R.HIC_PEND (511
     / 32)) (511 % 32) true).setFlag (F.xx_CTRL_ENABLE (P.HART 7)) true), by decide +kernel⟩,
   ⟨w0, by decide +kernel⟩,
   ⟨((({ w0 with hic.cfg := [(511, 0x90F)] } : State).setBit (R.HIC_EN (511 / 32)) (511 % 32) true).setBit (R.HIC_PEND (511
     / 32)) (511 % 32) true), by decide +kernel⟩,
   ⟨(({ ((({ w0 with hic.cfg := [(511, 0xFF00090F)] } : State).setBit (R.HIC_EN (511 / 32)) (511 % 32) true).setBit
     (R.HIC_PEND (511 / 32)) (511 % 32) true) with hic.msix := [(255, ⟨0, 0, false⟩)] } : State).setFlag F.HOST_STAT_MSIX_EN
     true), by decide +kernel⟩,
   ⟨w0, by decide +kernel⟩⟩

theorem wit_CompletionPopsTheStack :
    (∃ ss : State, ss.admits Agent.mgmt .hic P.HIC = true ∧ claims Agent.mgmt (8 : Fin 10) = true ∧ ss.nest (8 : Fin 10) =
      ((511 : BitVec 9).toNat, (15)) :: ([(3, 4)])) ∧
    (∃ ss : State, ss.admits .mgmt .hic P.HIC = true ∧ claims .mgmt 8 = true ∧ (ss.nest 8).head?.map Prod.fst ≠ some 511) ∧
    (∃ ss : State, ss.admits Agent.mgmt .hic P.HIC = true ∧ claims Agent.mgmt (0 : Fin 10) = false ∧ (0 : Fin 10) ≠ 9) ∧
    (∃ ss : State, wDone (exec (.hicComplete .mgmt 8 511) ss) = true) :=
  ⟨⟨w0.setNest 8 [(511, 15), (3, 4)], by decide +kernel⟩,
   ⟨w0.setNest 8 [(510, 15)], by decide +kernel⟩,
   ⟨w0, by decide +kernel⟩,
   ⟨w0, by decide +kernel⟩⟩

theorem wit_FaultRecorder :
    (∃ ss : State, ss.mode ≠ mCold ∧ ss.monel.waiting = []) ∧
    (∃ ss : State, ss.mode = mCold) ∧
    (∃ ss : State, ss.mode ≠ mCold ∧ ss.monel.waiting = [(⟨0, 0, false, 0⟩ : FaultRec)] ∧ (({ ss
      with monel := { ss.monel with waiting := [] } } : State).takeFault (⟨0, 0, false, 0⟩ : FaultRec)).1 ≠ 3) ∧
    (∃ ss : State, ss.mode ≠ mCold ∧ ss.monel.waiting = [(⟨srcXbarCe, 0, false, 3⟩ : FaultRec)] ∧ (({ ss
      with monel := { ss.monel with waiting := [] } } : State).takeFault (⟨srcXbarCe, 0, false, 3⟩ : FaultRec)).1 = 3) ∧
    (∃ ss : State, pageOfOrdinal (0 : Fin 115).val = some (0) ∧ ss.flag (F.xx_STAT_IN_RESET (0)) = false) ∧
    (∃ ss : State, pageOfOrdinal (0 : Fin 115).val = some (0) ∧ ss.flag (F.xx_STAT_IN_RESET (0)) = true) ∧
    (∃ ss : State, ss.admits .mgmt .flt P.FLT = true ∧ ss.flag F.FLT_ALIVE_STAT_STOPPED = false) ∧
    (∃ ss : State, ss.admits .mgmt .flt P.FLT = true ∧ (0 : BitVec 16) ≠ 0xA11E) ∧
    (∃ ss : State, ss.admits Agent.host .flt P.FLT = true ∧ Agent.host ≠ .mgmt) ∧
    (∃ ss : State, ss.clocked = true) ∧
    (∃ ss : State, ss.clocked = false) ∧
    (∃ ss : State, ss.flag F.FLT_ALIVE_STAT_RUN = true) ∧
    (∃ ss : State, ss.flag F.FLT_ALIVE_STAT_RUN = false) ∧
    (∃ ss : State, ss.admits Agent.mgmt .flt P.FLT = true ∧ ss.mode ≠ mQuarantine) ∧
    (∃ ss : State, ss.admits Agent.mgmt .flt P.FLT = true ∧ ss.mode = mQuarantine) ∧
    (∃ ss : State, ss.admits .mgmt .flt P.FLT = true ∧ 230 ≤ (243 : BitVec 8).toNat ∧ (243 : BitVec 8).toNat ≤ 243) ∧
    (∃ ss : State, ss.admits Agent.mgmt .flt P.FLT = true ∧ (ss.reg R.FLT_LOG_WR - (0 : Word)).toNat ≤ 128) ∧
    (∃ ss : State, ss.admits Agent.host .flt P.FLT = true ∧ 128 < (ss.reg R.FLT_LOG_WR - (1 : BitVec 32)).toNat) :=
  ⟨⟨({ (w0.setFld F.DEV_MODE_MODE ((mCold) + 1)) with monel.waiting := [] } : State), by decide +kernel⟩,
   ⟨(w0.setFld F.DEV_MODE_MODE mCold), by decide +kernel⟩,
   ⟨({ (w0.setFld F.DEV_MODE_MODE ((mCold) + 1)) with monel.waiting := [(⟨0, 0, false, 0⟩ : FaultRec)] } : State),
     by decide +kernel⟩,
   ⟨({ (w0.setFld F.DEV_MODE_MODE ((mCold) + 1)) with monel.waiting := [(⟨srcXbarCe, 0, false, 3⟩ : FaultRec)] } : State),
     by decide +kernel⟩,
   ⟨(w0.setFlag (F.xx_STAT_IN_RESET (0)) false), by decide +kernel⟩,
   ⟨(w0.setFlag (F.xx_STAT_IN_RESET (0)) true), by decide +kernel⟩,
   ⟨(w0.setFlag F.FLT_ALIVE_STAT_STOPPED false), by decide +kernel⟩,
   ⟨w0, by decide +kernel⟩,
   ⟨w0, by decide +kernel⟩,
   ⟨w0, by decide +kernel⟩,
   ⟨w0.setFld F.DEV_MODE_MODE mDoze, by decide +kernel⟩,
   ⟨(w0.setFlag F.FLT_ALIVE_STAT_RUN true), by decide +kernel⟩,
   ⟨(w0.setFlag F.FLT_ALIVE_STAT_RUN false), by decide +kernel⟩,
   ⟨(w0.setFld F.DEV_MODE_MODE ((mQuarantine) + 1)), by decide +kernel⟩,
   ⟨(w0.setFld F.DEV_MODE_MODE mQuarantine), by decide +kernel⟩,
   ⟨w0, by decide +kernel⟩,
   ⟨w0, by decide +kernel⟩,
   ⟨w0, by decide +kernel⟩⟩

theorem wit_SchedulerCommands :
    (∃ ss : State, ss.admits Agent.mgmt .sched P.SCHED = true ∧ (0 : Fin 1024).val ≤ 255 ∧ (ss.task (0 : Fin 1024)).st =
      .idle ∧ ss.fld F.SCHED_ARG_CFG_AFFINITY ≠ 0) ∧
    (∃ ss : State, ss.admits Agent.mgmt .sched P.SCHED = true ∧ (ss.task (1024 + (0 : Fin 1024).val)).st = .idle ∧
      ss.redGraph + 65536 ≤ ss.installed) ∧
    (∃ ss : State, ss.admits Agent.mgmt .sched P.SCHED = true ∧ (255 : Fin 1024).val ≤ 255 ∧ (ss.task (255 : Fin 1024)).st ≠
      .idle) ∧
    (∃ ss : State, ss.admits Agent.mgmt .sched P.SCHED = true ∧ (0 : Fin 1024).val ≤ 255 ∧ (ss.task (0 : Fin 1024)).st =
      .running) ∧
    (∃ ss : State, ss.admits Agent.mgmt .sched P.SCHED = true ∧ (ss.task (1024 + (0 : Fin 1024).val)).st = .running) ∧
    (∃ ss : State, ss.admits Agent.mgmt .sched P.SCHED = true ∧ (255 : Fin 1024).val ≤ 255 ∧ (ss.task (255 : Fin 1024)).st ≠
      .running ∧ ss.flag F.SCHED_CFG_PREEMPT_EN = false) ∧
    (∃ ss : State, ss.admits Agent.mgmt .sched P.SCHED = true ∧ (TaskKind.node = .node ∨ (1023 : Fin 1024).val ≤ 255) ∧
      (ss.task (taskKey TaskKind.node (1023 : Fin 1024))).st ≠ .running) ∧
    (∃ ss : State, ss.admits Agent.host .sched P.SCHED = true ∧ 255 < (256 : Fin 1024).val) ∧
    (∃ ss : State, (ss.task (255 : Fin 256)).st = .waiting ∧ (ss.task (255 : Fin 256)).deadline.isSome = true) ∧
    (∃ ss : State, ((ss.task (255 : Fin 256)).st ≠ .waiting ∨ (ss.task (255 : Fin 256)).deadline = none)) :=
  ⟨⟨(((w0).setTask (0 : Fin 1024) { (w0).task (0 : Fin 1024) with st := .idle }).setFld F.SCHED_ARG_CFG_AFFINITY 1),
    by decide +kernel⟩,
   ⟨((w0).setTask (1024 + (0 : Fin 1024).val) { (w0).task (1024 + (0 : Fin 1024).val) with st := .idle }),
     by decide +kernel⟩,
   ⟨w0.setTask 255 { Task.init with st := .ready }, by decide +kernel⟩,
   ⟨((w0).setTask (0 : Fin 1024) { (w0).task (0 : Fin 1024) with st := .running }), by decide +kernel⟩,
   ⟨((w0).setTask (1024 + (0 : Fin 1024).val) { (w0).task (1024 + (0 : Fin 1024).val) with st := .running }),
     by decide +kernel⟩,
   ⟨w0.setFlag F.SCHED_CFG_PREEMPT_EN false, by decide +kernel⟩,
   ⟨w0, by decide +kernel⟩,
   ⟨w0, by decide +kernel⟩,
   ⟨w0.setTask 255 { Task.init with st := .waiting, deadline := some 5 }, by decide +kernel⟩,
   ⟨w0.setTask 255 { Task.init with st := .waiting }, by decide +kernel⟩⟩

theorem wit_HartSchedulerPorts :
    (∃ ss : State, ss.admits (.hart (7 : Fin 8)) .hart (P.HART (7 : Fin 8)) = true ∧ ss.hartFree (7 : Fin 8) = false) ∧
    (∃ ss : State, ss.admits (.hart (0 : Fin 8)) .hart (P.HART (0 : Fin 8)) = true ∧ ss.hartFree (0 : Fin 8) = true) ∧
    (∃ ss : State, ss.readyThreads.find? (fun k => ss.eligible (ss.task k).aff 7) = some 255) ∧
    (∃ ss : State, ss.admits Agent.mgmt .hart (P.HART (0 : Fin 8)) = true ∧ Agent.mgmt ≠ .hart (0 : Fin 8) ∧ ss.flag
      (F.xx_CTRL_ENABLE (P.HART (0 : Fin 8))) = false) ∧
    (∃ ss : State, ss.admits Agent.mgmt .trace P.TRACE = true ∧ (ss.traceSwitch false true).flag F.TRACE_CTRL_S_EN = true) ∧
    (∃ ss : State, ss.admits Agent.mgmt .trace P.TRACE = true ∧ ss.flag F.TRACE_CTRL_S_EN = false ∧ (ss.traceSwitch false
      true).flag F.TRACE_CTRL_S_EN = false) :=
  ⟨⟨(w0.setFlag (F.xx_CTRL_ENABLE (P.HART 7)) true).setFlag (F.HART_SCHED_CUR_VALID 7) true, by decide +kernel⟩,
   ⟨w0, by decide +kernel⟩,
   ⟨({ w0.setTask 255 { Task.init with st := .ready, aff := 0xFF } with sched.ready := [255] } : State).setFlag
     (F.xx_CTRL_ENABLE (P.HART 7)) true, by decide +kernel⟩,
   ⟨(w0.setFlag (F.xx_CTRL_ENABLE (P.HART (0 : Fin 8))) false), by decide +kernel⟩,
   ⟨w0.setReg R.TRACE_S_FRAMES 0, by decide +kernel⟩,
   ⟨(w0.setFlag F.TRACE_CTRL_S_EN false), by decide +kernel⟩⟩

theorem wit_NodesOfTheGraph :
    (∃ ss : State, (ss.mode = mQuarantine ∨ ss.dev.sleep.target ≠ 0 ∨ ss.flag (F.xx_CTRL_QUIESCE P.RED) = true)) ∧
    (∃ ss : State, ((ss.nextNode = none ∨ ∀ u, u < 8 → ss.flag (F.RED_EU_BUSY u) = true))) ∧
    (∃ ss : State, ss.mode ≠ mQuarantine ∧ ss.dev.sleep.target = 0 ∧ ss.flag (F.xx_CTRL_QUIESCE P.RED) = false ∧ ss.nextNode
      = some (2047) ∧ ss.flag (F.RED_EU_BUSY 7) = false ∧ ((∀ u, u < 7 → ss.flag (F.RED_EU_BUSY u) = true))) ∧
    (∃ ss : State, ss.nextNode = some (2047) ∧ (2047) ∈ ss.sched.ready ∧ 1024 ≤ (2047) ∧ (ss.task (2047)).readyAt < ss.dclk
      ∧ (ss.task (2047)).prio < 32) ∧
    (∃ ss : State, ss.flag (F.RED_EU_BUSY (0 : Fin 8)) = true ∧ ss.nodeWaits (0 : Fin 8) = false ∧ ss.mode ≠ mQuarantine) ∧
    (∃ ss : State, (ss.flag (F.RED_EU_BUSY (0 : Fin 8)) = false ∨ ss.nodeWaits (0 : Fin 8) = true)) :=
  ⟨⟨(w0.setFld F.DEV_MODE_MODE mQuarantine), by decide +kernel⟩,
   ⟨w0, by decide +kernel⟩,
   ⟨(List.range 7).foldl (fun s u => s.setFlag (F.RED_EU_BUSY u) true) ({ w0.setTask 2047 { Task.init with st := .ready }
     with dclk := 5, sched.ready := [2047] } : State), by decide +kernel⟩,
   ⟨({ w0.setTask 2047 { Task.init with st := .ready, prio := 31 } with dclk := 5, sched.ready := [2047] } : State),
     by decide +kernel⟩,
   ⟨((w0.setFlag (F.RED_EU_BUSY (0 : Fin 8)) true).setFld F.DEV_MODE_MODE ((mQuarantine) + 1)), by decide +kernel⟩,
   ⟨(w0.setFlag (F.RED_EU_BUSY (0 : Fin 8)) false), by decide +kernel⟩⟩

theorem wit_TraceSizesAreFixedWhileEnabled :
    (∃ ss : State, ss.admits Agent.mgmt .trace P.TRACE = true ∧ ss.flag ((if true then F.TRACE_CTRL_P_EN else
      F.TRACE_CTRL_S_EN)) = false ∧ (0xFFFF : Word).toNat % 65536 ≠ 0) ∧
    (∃ ss : State, ss.admits Agent.mgmt .trace P.TRACE = true ∧ ss.flag ((if true then F.TRACE_CTRL_P_EN else
      F.TRACE_CTRL_S_EN)) = true) ∧
    (∃ ss : State, ss.admits Agent.mgmt .trace P.TRACE = true ∧ ss.flag ((if true then F.TRACE_CTRL_P_EN else
      F.TRACE_CTRL_S_EN)) = false ∧ (0 : Word).toNat % 65536 = 0) :=
  ⟨⟨(w0.setFlag (if true then F.TRACE_CTRL_P_EN else F.TRACE_CTRL_S_EN) false), by decide +kernel⟩,
   ⟨(w0.setFlag (if true then F.TRACE_CTRL_P_EN else F.TRACE_CTRL_S_EN) true), by decide +kernel⟩,
   ⟨(w0.setFlag (if true then F.TRACE_CTRL_P_EN else F.TRACE_CTRL_S_EN) false), by decide +kernel⟩⟩

theorem wit_GraphAddressIsFixedWhileNodesLive :
    (∃ ss : State, ss.admits Agent.mgmt .red P.RED = true ∧ ((∀ x ∈ ss.sched.tasks, 1024 ≤ x.1 → x.2.st = .idle))) ∧
    (∃ ss : State, ss.admits Agent.mgmt .red P.RED = true ∧ (ss.task (1024 + (1023 : Fin 1024).val)).st ≠ .idle) :=
  ⟨⟨w0, by decide +kernel⟩,
   ⟨w0.setTask 2047 { Task.init with st := .waiting }, by decide +kernel⟩⟩

theorem wit_BootRegistersAreMgmtOnly :
    (∃ ss : State, ss.admits .mgmt .dev P.DEV = true ∧ (0 : Word).toNat % 4 ≠ 3) ∧
    (∃ ss : State, ss.admits .mgmt .dev P.DEV = true ∧ ss.mode = mBoot) ∧
    (∃ ss : State, ss.admits .mgmt .dev P.DEV = true ∧ ss.mode = mTrain ∧ ss.flag F.ALLOC_MAP_VALID = true ∧ ss.portsSettled
      = true) ∧
    (∃ ss : State, ss.admits Agent.host .dev P.DEV = true ∧ Agent.host ≠ .mgmt) :=
  ⟨⟨w0, by decide +kernel⟩,
   ⟨(w0.setFld F.DEV_MODE_MODE mBoot), by decide +kernel⟩,
   ⟨((w0.setFld F.DEV_MODE_MODE mTrain).setFlag F.ALLOC_MAP_VALID true), by decide +kernel⟩,
   ⟨w0, by decide +kernel⟩⟩

theorem wit_WakeRegistersAreFixedWhileBusy :
    (∃ ss : State, ss.admits Agent.mgmt .pwr P.PWR = true ∧ ss.flag F.DEV_MODE_BUSY = false ∧ (0xFFFF : Word).toNat % 65536
      ≠ 0) ∧
    (∃ ss : State, ss.admits Agent.mgmt .pwr P.PWR = true ∧ ss.flag F.DEV_MODE_BUSY = true) :=
  ⟨⟨(w0.setFlag F.DEV_MODE_BUSY false), by decide +kernel⟩,
   ⟨(w0.setFlag F.DEV_MODE_BUSY true), by decide +kernel⟩⟩

theorem wit_DramReadsAndWrites :
    (∃ ss : State, (0 : BitVec 40).toNat < ss.installed ∧ ss.chState (ss.dramPlace (0 : BitVec 40).toNat).1 = chReady ∧
      ss.bit (R.xx_FLT_INJ (P.DRAM (ss.dramPlace (0 : BitVec 40).toNat).1)) X.DRAM_ECC_UC = false ∧ ss.bit (R.xx_FLT_INJ
      (P.DRAM (ss.dramPlace (0 : BitVec 40).toNat).1)) X.DRAM_ECC_RETRY = false ∧ ss.bit (R.xx_FLT_INJ (P.DRAM (ss.dramPlace
      (0 : BitVec 40).toNat).1)) X.DRAM_ECC_CE = false) ∧
    (∃ ss : State, ss.installed ≤ (0x8000000 : BitVec 40).toNat) ∧
    (∃ ss : State, (0x7FFFFC0 : BitVec 40).toNat < ss.installed ∧ ss.chState (ss.dramPlace (0x7FFFFC0 : BitVec 40).toNat).1
      = chReady ∧ (List.replicate 64 (1 : Byte)).length ≤ 64 - (0x7FFFFC0 : BitVec 40).toNat % 64 ∧ (63) < (List.replicate
      64 (1 : Byte)).length) ∧
    (∃ ss : State, (0 : BitVec 40).toNat < ss.installed ∧ ss.chState (ss.dramPlace (0 : BitVec 40).toNat).1 = chFaulted) ∧
    (∃ ss : State, (ss.fld (F.DRAM_SCRUB_HOURS (0 : Fin 8)) = 0 ∨ ss.chState (0 : Fin 8) ≠ chReady)) ∧
    (∃ ss : State, ss.fld (F.DRAM_SCRUB_HOURS (0 : Fin 8)) ≠ 0 ∧ ss.chState (0 : Fin 8) = chReady) :=
  ⟨⟨((((w0.setFld (F.DRAM_STAT_STATE ((w0.dramPlace (0 : BitVec 40).toNat).1)) chReady).setBit (R.xx_FLT_INJ (P.DRAM
    (w0.dramPlace (0 : BitVec 40).toNat).1)) X.DRAM_ECC_UC false).setBit (R.xx_FLT_INJ (P.DRAM (w0.dramPlace (0 : BitVec
    40).toNat).1)) X.DRAM_ECC_RETRY false).setBit (R.xx_FLT_INJ (P.DRAM (w0.dramPlace (0 : BitVec 40).toNat).1))
    X.DRAM_ECC_CE false), by decide +kernel⟩,
   ⟨w0, by decide +kernel⟩,
   ⟨(List.range 8).foldl (fun s n => s.setFld (F.DRAM_STAT_STATE n) chReady) w0, by decide +kernel⟩,
   ⟨(w0.setFld (F.DRAM_STAT_STATE ((w0.dramPlace (0 : BitVec 40).toNat).1)) chFaulted), by decide +kernel⟩,
   ⟨(w0.setFld (F.DRAM_SCRUB_HOURS (0 : Fin 8)) 0), by decide +kernel⟩,
   ⟨((w0.setFld (F.DRAM_SCRUB_HOURS (0 : Fin 8)) 1).setFld (F.DRAM_STAT_STATE (0 : Fin 8)) chReady), by decide +kernel⟩⟩

theorem wit_DramChannelEvents :
    (∃ ss : State, (ss.chState (0 : Fin 8) = chReady ∨ ss.chState (0 : Fin 8) = chReplay ∨ ss.chState (0 : Fin 8) =
      chSelfRefresh)) ∧
    (∃ ss : State, (ss.chState (0 : Fin 8) = chOff ∨ ss.chState (0 : Fin 8) = chTraining ∨ ss.chState (0 : Fin 8) =
      chFaulted)) ∧
    (∃ ss : State, ss.chState (0 : Fin 8) = chReplay) ∧
    (∃ ss : State, ss.chState (0 : Fin 8) ≠ chReplay) ∧
    (∃ ss : State, ss.chState (0 : Fin 8) = chReady ∧ ss.fld (F.DRAM_SR_IDLE_US (0 : Fin 8)) ≠ 0 ∧ ss.seqBusy = false ∧
      ss.captureArmed = false) ∧
    (∃ ss : State, (ss.chState (0 : Fin 8) ≠ chReady ∨ ss.fld (F.DRAM_SR_IDLE_US (0 : Fin 8)) = 0 ∨ ss.seqBusy = true ∨
      ss.captureArmed = true)) :=
  ⟨⟨(w0.setFld (F.DRAM_STAT_STATE (0 : Fin 8)) chReady), by decide +kernel⟩,
   ⟨(w0.setFld (F.DRAM_STAT_STATE (0 : Fin 8)) chOff), by decide +kernel⟩,
   ⟨(w0.setFld (F.DRAM_STAT_STATE (0 : Fin 8)) chReplay), by decide +kernel⟩,
   ⟨(w0.setFld (F.DRAM_STAT_STATE (0 : Fin 8)) ((chReplay) + 1)), by decide +kernel⟩,
   ⟨((w0.setFld (F.DRAM_STAT_STATE (0 : Fin 8)) chReady).setFld (F.DRAM_SR_IDLE_US (0 : Fin 8)) 1), by decide +kernel⟩,
   ⟨(w0.setFld (F.DRAM_STAT_STATE (0 : Fin 8)) ((chReady) + 1)), by decide +kernel⟩⟩

theorem wit_DramTraining :
    (∃ ss : State, ss.admits Agent.mgmt .dram (P.DRAM (0 : Fin 8)) = true ∧ ss.flag (F.xx_CTRL_ENABLE (P.DRAM (0 : Fin 8)))
      = false ∧ ss.flag (F.xx_CTRL_BLOCK_RESET (P.DRAM (0 : Fin 8))) = false ∧ ss.flag (F.DRAM_GEOM_PRESENT (0 : Fin 8)) =
      true) ∧
    (∃ ss : State, ss.admits .mgmt .dram (P.DRAM (7 : Fin 8)) = true ∧ ss.trainable (7 : Fin 8) = true) ∧
    (∃ ss : State, ss.admits Agent.host .dram (P.DRAM (0 : Fin 8)) = true ∧ Agent.host ≠ .mgmt) ∧
    (∃ ss : State, ss.admits .mgmt .dram (P.DRAM (0 : Fin 8)) = true ∧ ss.trainable (0 : Fin 8) = false) ∧
    (∃ ss : State, ss.flag (F.DRAM_TRN_CMD_BUSY (0 : Fin 8)) = false) ∧
    (∃ ss : State, ss.flag (F.DRAM_TRN_CMD_BUSY (0 : Fin 8)) = true) ∧
    (∃ ss : State, sget 0 ss.dram.trnOp (7 : Fin 8) % 16 = 9) ∧
    (∃ ss : State, sget 0 ss.dram.trnOp (7 : Fin 8) % 16 = 8) :=
  ⟨⟨(((w0.setFlag (F.xx_CTRL_ENABLE (P.DRAM (0 : Fin 8))) false).setFlag (F.xx_CTRL_BLOCK_RESET (P.DRAM (0 : Fin 8)))
    false).setFlag (F.DRAM_GEOM_PRESENT (0 : Fin 8)) true), by decide +kernel⟩,
   ⟨w0.setFld F.DEV_MODE_MODE mTrain, by decide +kernel⟩,
   ⟨w0, by decide +kernel⟩,
   ⟨w0, by decide +kernel⟩,
   ⟨(w0.setFlag (F.DRAM_TRN_CMD_BUSY (0 : Fin 8)) false), by decide +kernel⟩,
   ⟨(w0.setFlag (F.DRAM_TRN_CMD_BUSY (0 : Fin 8)) true), by decide +kernel⟩,
   ⟨{ w0 with dram.trnOp := [(7, 9)] }, by decide +kernel⟩,
   ⟨{ w0 with dram.trnOp := [(7, 8)] }, by decide +kernel⟩⟩

theorem wit_FrameAllocator :
    (∃ ss : State, ss.admits .mgmt .alloc P.ALLOC = true ∧ ss.mode = mTrain ∧ ss.flag F.ALLOC_MAP_VALID = false ∧
      (groupsPresent (0 : BitVec 2).toNat (0 : BitVec 8).toNat).length * 2 ^ (0 : BitVec 2).toNat = (channelsOf (0 : BitVec
      8).toNat).length ∧ (∀ n ∈ channelsOf (0 : BitVec 8).toNat, ss.chState n = chReady ∧ ss.reg (R.DRAM_GEOM n) = ss.reg
      (R.DRAM_GEOM ((channelsOf (0 : BitVec 8).toNat).headD 0)))) ∧
    (∃ ss : State, ss.admits .mgmt .alloc P.ALLOC = true ∧ (ss.mode ≠ mTrain ∨ ss.flag F.ALLOC_MAP_VALID = true)) ∧
    (∃ ss : State, ss.admits Agent.host .alloc P.ALLOC = true ∧ Agent.host ≠ .mgmt) ∧
    (∃ ss : State, ss.admits Agent.mgmt .alloc P.ALLOC = true ∧ ss.flag F.ALLOC_RES_BUSY = false ∧ ((BitVec.ofNat 3
      poolDma).toNat = poolHart ∨ (BitVec.ofNat 3 poolDma).toNat = poolDma)) ∧
    (∃ ss : State, ss.admits Agent.mgmt .alloc P.ALLOC = true ∧ ss.flag F.ALLOC_RES_BUSY = true) ∧
    (∃ ss : State, ss.dram.cmd = none) ∧
    (∃ ss : State, ss.dram.cmd = some (0 : Word)) ∧
    (∃ ss : State, ((List.range (bitsOf (0x20000001 : Word).toNat 17 0)).map (fun i => ss.fld F.ALLOC_ARG_FRAME + i)).find?
      (fun f => !ss.allocatedTo (bitsOf (0x20000001 : Word).toNat 26 24) f) = some 0 ∧ ss.bit (R.xx_FLT_INJ P.ALLOC)
      X.ALLOC_FT_ECC = false) :=
  ⟨⟨((w0.setFld F.DEV_MODE_MODE mTrain).setFlag F.ALLOC_MAP_VALID false), by decide +kernel⟩,
   ⟨(w0.setFld F.DEV_MODE_MODE ((mTrain) + 1)), by decide +kernel⟩,
   ⟨w0, by decide +kernel⟩,
   ⟨(w0.setFlag F.ALLOC_RES_BUSY false), by decide +kernel⟩,
   ⟨(w0.setFlag F.ALLOC_RES_BUSY true), by decide +kernel⟩,
   ⟨({ w0 with dram.cmd := none } : State), by decide +kernel⟩,
   ⟨({ w0 with dram.cmd := some (0 : Word) } : State), by decide +kernel⟩,
   ⟨w0, by decide +kernel⟩⟩

theorem wit_InvarTime :
    (∃ ss : State, ss.admits Agent.mgmt .time P.TIME = true ∧ (ss.sstate = ssFree ∨ ss.sstate = ssRoot) ∧ ss.spanHold =
      false) ∧
    (∃ ss : State, ss.admits Agent.mgmt .time P.TIME = true ∧ (ss.spanHold = true ∨ (ss.sstate ≠ ssFree ∧ ss.sstate ≠
      ssRoot))) ∧
    (∃ ss : State, ss.linkUp (0 : Fin 6) = true) ∧
    (∃ ss : State, ss.linkUp (0 : Fin 6) = false) ∧
    (∃ ss : State, sget none ss.time.exch (0 : Fin 6).val = none) ∧
    (∃ ss : State, sget none ss.time.exch (5 : Fin 6).val ≠ none) ∧
    (∃ ss : State, ss.fld F.TIME_STAT_SRC_PORT ≠ 7 ∧ (ss.sstate = ssAcquire ∨ ss.sstate = ssTrack ∨ ss.sstate = ssLocked)) ∧
    (∃ ss : State, ss.fld F.TIME_STAT_SRC_PORT = 7) ∧
    (∃ ss : State, (ss.astate = asHold ∨ ss.astate = asFail)) ∧
    (∃ ss : State, ss.astate ≠ asHold ∧ ss.astate ≠ asFail) ∧
    (∃ ss : State, ss.responds Agent.mgmt = true ∧ ss.time.queue = (⟨0, 0, 1⟩ : EsEntry) :: ([] : List EsEntry)) ∧
    (∃ ss : State, ss.responds Agent.mgmt = true ∧ ss.time.queue = []) ∧
    (∃ ss : State, ss.admits Agent.mgmt .time P.TIME = true ∧ ss.flag (F.PG_CFG_EN (0 : Fin 4)) = false ∧ ss.fld
      (F.PG_CFG_MODE (0 : Fin 4)) = 0 ∧ ss.fld (F.PG_CFG_WIDTH (0 : Fin 4)) ≠ 0) ∧
    (∃ ss : State, ss.admits Agent.mgmt .time P.TIME = true ∧ ss.flag (F.PG_CFG_EN (0 : Fin 4)) = true) ∧
    (∃ ss : State, ss.flag (F.PG_STAT_ARMED (0 : Fin 4)) = true ∧ ss.pgDueCount (0 : Fin 4) ss.now ≠ 0) ∧
    (∃ ss : State, (ss.flag (F.PG_STAT_ARMED (0 : Fin 4)) = false ∨ ss.pgDueCount (0 : Fin 4) ss.now = 0)) :=
  ⟨⟨(w0.setFld F.TIME_STAT_SSTATE ssFree), by decide +kernel⟩,
   ⟨w0, by decide +kernel⟩,
   ⟨(w0.setFld (F.FP_STAT_STATE (0 : Fin 6)) fpActive), by decide +kernel⟩,
   ⟨(w0.setFld (F.FP_STAT_STATE (0 : Fin 6)) 0), by decide +kernel⟩,
   ⟨w0, by decide +kernel⟩,
   ⟨{ w0 with time.exch := [(5, some ⟨0, 0, none⟩)] }, by decide +kernel⟩,
   ⟨((w0.setFld F.TIME_STAT_SRC_PORT 8).setFld F.TIME_STAT_SSTATE ssAcquire), by decide +kernel⟩,
   ⟨(w0.setFld F.TIME_STAT_SRC_PORT 7), by decide +kernel⟩,
   ⟨(w0.setFld F.TIME_STAT_ASTATE asHold), by decide +kernel⟩,
   ⟨((w0.setFld F.TIME_STAT_ASTATE ((asHold) + 1)).setFld F.TIME_STAT_ASTATE ((asFail) + 1)), by decide +kernel⟩,
   ⟨({ w0 with time.queue := (⟨0, 0, 1⟩ : EsEntry) :: ([] : List EsEntry) } : State), by decide +kernel⟩,
   ⟨({ w0 with time.queue := [] } : State), by decide +kernel⟩,
   ⟨(((w0.setFlag (F.PG_CFG_EN (0 : Fin 4)) false).setFld (F.PG_CFG_MODE (0 : Fin 4)) 0).setFld (F.PG_CFG_WIDTH (0 : Fin 4))
     1), by decide +kernel⟩,
   ⟨(w0.setFlag (F.PG_CFG_EN (0 : Fin 4)) true), by decide +kernel⟩,
   ⟨(w0.setFlag (F.PG_STAT_ARMED (0 : Fin 4)) true), by decide +kernel⟩,
   ⟨(w0.setFlag (F.PG_STAT_ARMED (0 : Fin 4)) false), by decide +kernel⟩⟩

theorem wit_DmaTransfers :
    (∃ ss : State, ss.admits Agent.mgmt .dma (P.DMA ((0 : Fin 32).val / 8)) = true ∧ ss.dmaActive (0 : Fin 32) = false ∧
      ss.mode ≠ mQuarantine ∧ ss.dev.sleep.target = 0) ∧
    (∃ ss : State, ss.admits Agent.mgmt .dma (P.DMA ((0 : Fin 32).val / 8)) = true ∧ (ss.dmaActive (0 : Fin 32) = true ∨
      ss.mode = mQuarantine)) ∧
    (∃ ss : State, ss.dmaLen (0 : Fin 32) = 0 ∧ ss.dmaCrcWr (0 : Fin 32) = false) ∧
    (∃ ss : State, ss.dmaLen (31 : Fin 32) ≠ 0 ∧ (ss.dmaSrc (31 : Fin 32)).space = spQueue ∧ ss.queueCons ((ss.dmaSrc (31 :
      Fin 32)).addr.toNat % 32) (0x40 + (31 : Fin 32).val) = false) ∧
    (∃ ss : State, ss.admits Agent.mgmt .dma (P.DMA ((31 : Fin 32).val / 8)) = true ∧ ss.dmaActive (31 : Fin 32) = true ∧
      (ss.dmaMoved (31 : Fin 32) < ss.dmaLen (31 : Fin 32) ∨ ss.dmaWaiting (31 : Fin 32) = true)) ∧
    (∃ ss : State, ss.admits Agent.mgmt .dma (P.DMA ((0 : Fin 32).val / 8)) = true ∧ ss.dmaActive (0 : Fin 32) = true ∧
      ss.dmaLen (0 : Fin 32) ≤ ss.dmaMoved (0 : Fin 32) ∧ ss.dmaWaiting (0 : Fin 32) = false) ∧
    (∃ ss : State, ss.dmaActive (31 : Fin 32) = true ∧ ss.dmaWaiting (31 : Fin 32) = false ∧ ss.dmaMoved (31 : Fin 32) <
      ss.dmaLen (31 : Fin 32)) ∧
    (∃ ss : State, ss.dmaActive (0 : Fin 32) = true ∧ ss.dmaWaiting (0 : Fin 32) = true ∧ ss.dmaBlocked (0 : Fin 32) =
      false) ∧
    (∃ ss : State, (ss.dmaActive (0 : Fin 32) = false ∨ ss.dmaWaiting (0 : Fin 32) = false ∨ ss.dmaBlocked (0 : Fin 32) =
      true)) ∧
    (∃ ss : State, ss.dmaActive (0 : Fin 32) = true ∧ ss.dmaWaiting (0 : Fin 32) = true ∧ ss.fld (F.DMA_CH_TMO_US ((0 : Fin
      32).val / 8) ((0 : Fin 32).val % 8)) ≠ 0) ∧
    (∃ ss : State, (ss.dmaActive (0 : Fin 32) = false ∨ ss.dmaWaiting (0 : Fin 32) = false)) :=
  ⟨⟨({ (w0.setFld F.DEV_MODE_MODE ((mQuarantine) + 1)) with dev.sleep.target := 0 } : State), by decide +kernel⟩,
   ⟨(w0.setFld (F.DMA_CH_STAT_STATE ((0 : Fin 32) / 8) ((0 : Fin 32) % 8)) 1), by decide +kernel⟩,
   ⟨(w0.setFlag (F.DMA_CH_CTRL_CRC_WR ((0 : Fin 32) / 8) ((0 : Fin 32) % 8)) false), by decide +kernel⟩,
   ⟨(((((w0.setReg (R.DMA_CH_ACNT 3 7) 64).setReg (R.DMA_CH_BCCNT 3 7) 0x10001).setFld (F.DMA_CH_STAT_STATE 3 7) 0))).setReg
     (R.DMA_CH_SPACE 3 7) 2, by decide +kernel⟩,
   ⟨(((((w0.setReg (R.DMA_CH_ACNT 3 7) 64).setReg (R.DMA_CH_BCCNT 3 7) 0x10001).setFld (F.DMA_CH_STAT_STATE 3 7) 1))),
     by decide +kernel⟩,
   ⟨((w0.setFld (F.DMA_CH_STAT_STATE ((0 : Fin 32) / 8) ((0 : Fin 32) % 8)) 1).setFlag (F.DMA_CH_STAT_WAITING ((0 : Fin 32)
     / 8) ((0 : Fin 32) % 8)) false), by decide +kernel⟩,
   ⟨(((((w0.setReg (R.DMA_CH_ACNT 3 7) 64).setReg (R.DMA_CH_BCCNT 3 7) 0x10001).setFld (F.DMA_CH_STAT_STATE 3 7) 1))),
     by decide +kernel⟩,
   ⟨((w0.setFld (F.DMA_CH_STAT_STATE ((0 : Fin 32) / 8) ((0 : Fin 32) % 8)) 1).setFlag (F.DMA_CH_STAT_WAITING ((0 : Fin 32)
     / 8) ((0 : Fin 32) % 8)) true), by decide +kernel⟩,
   ⟨w0, by decide +kernel⟩,
   ⟨(((w0.setFld (F.DMA_CH_STAT_STATE ((0 : Fin 32) / 8) ((0 : Fin 32) % 8)) 1).setFlag (F.DMA_CH_STAT_WAITING ((0 : Fin 32)
     / 8) ((0 : Fin 32) % 8)) true).setFld (F.DMA_CH_TMO_US ((0 : Fin 32).val / 8) ((0 : Fin 32).val % 8)) 1),
     by decide +kernel⟩,
   ⟨w0, by decide +kernel⟩⟩

theorem wit_DmaBeatMovesBytes : (∃ ss : State, ss.dmaPlace 31 = (0, 0, 0) ∧ ss.dmaBeatLen 31 = 64 ∧ (ss.dmaSrc 31).space =
  spDram ∧ (ss.dmaDst 31).space = spDram ∧ ss.rangeDown (((ss.dmaSrc 31).row 0 0 + 0) % 2 ^ 40) 64 = false ∧ ss.rangeDown
  (((ss.dmaDst 31).row 0 0 + 0) % 2 ^ 40) 64 = false ∧ ss.bit (R.xx_FLT_INJ (P.DMA 3)) X.DMA_BUF_UC = false) :=
  ⟨(((((w0.setReg (R.DMA_CH_ACNT 3 7) 64).setReg (R.DMA_CH_BCCNT 3 7) 0x10001).setFld (F.DMA_CH_STAT_STATE 3 7) 1))),
    by decide +kernel⟩

theorem wit_HardwareQueues :
    (∃ ss : State, ss.admits Agent.mgmt .fq P.FQ = true ∧ ss.flag (F.FQ_Q_CFG_EN (31 : Fin 32)) = false ∧ (0x81000000 :
      Word).getLsbD 31 = true ∧ bitsOf (0x81000000 : Word).toNat 15 8 ≤ 2 ∧ bitsOf (0x81000000 : Word).toNat 7 0 ≤ 1 ∧
      bitsOf (0x81000000 : Word).toNat 24 16 ≠ 0 ∧ bitsOf (0x81000000 : Word).toNat 24 16 ≤ 256 ∧ bitsOf (0x81000000 :
      Word).toNat 24 16 ≤ ss.fld F.FQ_POOL_FREE) ∧
    (∃ ss : State, ss.admits Agent.mgmt .fq P.FQ = true ∧ ss.flag (F.FQ_Q_CFG_EN (31 : Fin 32)) = false ∧ (0x81000000 :
      Word).getLsbD 31 = true ∧ ss.fld F.FQ_POOL_FREE < bitsOf (0x81000000 : Word).toNat 24 16) ∧
    (∃ ss : State, ss.admits Agent.mgmt .fq P.FQ = true ∧ ss.queueProd (31 : Fin 32) 1 = true ∧ (ss.queue (31 : Fin 32)).lo
      = some (Agent.mgmt.ident, (0 : Word)) ∧ (ss.queue (31 : Fin 32)).openLen = none ∧ ss.queueAdmits (31 : Fin 32) (bitsOf
      (0 : Word).toNat 11 0) = true) ∧
    (∃ ss : State, ss.admits Agent.mgmt .fq P.FQ = true ∧ ss.queueProd (31 : Fin 32) 1 = true ∧ (ss.queue (31 : Fin 32)).lo
      = some (Agent.mgmt.ident, (0 : Word)) ∧ (ss.queue (31 : Fin 32)).openLen = some (3) ∧ (ss.queue (31 : Fin 32)).opener
      = Agent.mgmt.ident) ∧
    (∃ ss : State, ss.admits Agent.mgmt .fq P.FQ = true ∧ ss.queueProd (0 : Fin 32) 1 = false) ∧
    ((0) ≠ (1 : Fin 32).val) ∧
    (∃ ss : State, ss.responds Agent.mgmt = true ∧ ss.fld (F.FQ_Q_CFG_CONS (0 : Fin 32)) = 1 ∧ (ss.queue (0 : Fin 32)).words
      = ((0 : BitVec 64), true) :: ([] : List (BitVec 64 × Bool)) ∧ ss.bit (R.xx_FLT_INJ P.FQ) X.FQ_WORD_UC = false) ∧
    (∃ ss : State, ss.responds Agent.mgmt = true ∧ ss.fld (F.FQ_Q_CFG_CONS (0 : Fin 32)) = 1 ∧ (ss.queue (0 : Fin 32)).words
      = []) :=
  ⟨⟨((w0.setFlag (F.FQ_Q_CFG_EN (31 : Fin 32)) false).setFld F.FQ_POOL_FREE 256), by decide +kernel⟩,
   ⟨w0.setFld F.FQ_POOL_FREE 255, by decide +kernel⟩,
   ⟨((w0.setReg (R.FQ_Q_CFG 31) 0x81000100).setQueue 31 { Queue.init with lo := some (0, 0) }), by decide +kernel⟩,
   ⟨((w0.setReg (R.FQ_Q_CFG 31) 0x81000100).setQueue 31 { Queue.init with lo := some (0, 0), openLen := some 3 }),
     by decide +kernel⟩,
   ⟨w0, by decide +kernel⟩,
   by decide +kernel,
   ⟨((((w0.setFld (F.FQ_Q_CFG_CONS (0 : Fin 32)) 1)).setQueue (0 : Fin 32) { ((w0.setFld (F.FQ_Q_CFG_CONS (0 : Fin 32))
     1)).queue (0 : Fin 32) with words := ((0 : BitVec 64), true) :: ([] : List (BitVec 64 × Bool)) }).setBit (R.xx_FLT_INJ
     P.FQ) X.FQ_WORD_UC false), by decide +kernel⟩,
   ⟨(((w0.setFld (F.FQ_Q_CFG_CONS (0 : Fin 32)) 1)).setQueue (0 : Fin 32) { ((w0.setFld (F.FQ_Q_CFG_CONS (0 : Fin 32))
     1)).queue (0 : Fin 32) with words := [] }), by decide +kernel⟩⟩

theorem wit_PlainInstructions :
    (∃ ss : State, ss.emits (0 : Fin 16) wHead (256) = true ∧ (0xFFFFFFFF : Word) ≠ 0) ∧
    (∃ ss : State, ss.canDispatch (0 : Fin 16) = false) ∧
    (∃ ss : State, ss.canDispatch (0 : Fin 16) = true ∧ headLegal ({ wHead with len := 31 }) false = false) ∧
    (∃ ss : State, ss.canDispatch (0 : Fin 16) = true ∧ headLegal ({ wHead with vaddr := 0x7FFF }) false = true ∧
      ss.sizeKnown (0 : Fin 16) (blockBase ({ wHead with vaddr := 0x7FFF })) = true ∧ ss.recordSize (0 : Fin 16) ({ wHead
      with vaddr := 0x7FFF }) = none) :=
  ⟨⟨(wRun (w0) (0 : Fin 16)), by decide +kernel⟩,
   ⟨w0, by decide +kernel⟩,
   ⟨(wRun (w0) (0 : Fin 16)), by decide +kernel⟩,
   ⟨wLines w0 [⟨0, []⟩, ⟨511, []⟩], by decide +kernel⟩⟩

theorem wit_ControlInstructions :
    (∃ ss : State, ss.emits (0 : Fin 16) wHead (256) = true ∧ 2 ≤ (2 : BitVec 24).toNat ∧ (0xFFFFFFFF : Word) ≠ 0 ∧ (ss.seq
      (0 : Fin 16)).iterate = false ∧ (ss.seq (0 : Fin 16)).loops.length < 8) ∧
    (∃ ss : State, ss.emits (0 : Fin 16) wHead (256) = true ∧ 2 ≤ (0xFFFFFF : BitVec 24).toNat ∧ (ss.seq (0 : Fin
      16)).iterate = true) ∧
    (∃ ss : State, ss.emits (0 : Fin 16) wHead (256) = true ∧ (ss.seq (0 : Fin 16)).loops = ((0), (2), (0)) :: ([]) ∧ 1 <
      (2)) ∧
    (∃ ss : State, ss.emits (0 : Fin 16) wHead (256) = true ∧ (ss.seq (0 : Fin 16)).loops = ((0), (1), (0)) :: ([]) ∧ (1) ≤
      1) ∧
    (∃ ss : State, ss.emits (0 : Fin 16) wHead (256) = true ∧ (ss.seq (0 : Fin 16)).calls.length < 16) ∧
    (∃ ss : State, ss.emits (0 : Fin 16) wHead (256) = true ∧ (ss.seq (0 : Fin 16)).calls = (0) :: ([]) ∧ (∀ l ∈ (ss.seq (0
      : Fin 16)).loops, l.2.2 ≠ (ss.seq (0 : Fin 16)).calls.length)) ∧
    (∃ ss : State, ss.emits (0 : Fin 16) wHead (256) = true ∧ (0xFFFFFFFF : Word) ≠ 0 ∧ ss.openParts (0 : Fin 16) ≠ []) ∧
    (∃ ss : State, ss.emits (0 : Fin 16) wHead (256) = true ∧ condLegal (0 : Byte) = true ∧ waitCondLegal (0 : Byte) = true
      ∧ (0xFFFFFFFF : Word) ≠ 0) ∧
    (∃ ss : State, ss.canDispatch (0 : Fin 16) = true ∧ headLegal wHead false = true ∧ 2 ≤ (2 : BitVec 24).toNat ∧ (ss.seq
      (0 : Fin 16)).iterate = false ∧ (1 : Word) ≠ 0 ∧ 8 ≤ (ss.seq (0 : Fin 16)).loops.length) ∧
    (∃ ss : State, ss.canDispatch (0 : Fin 16) = true ∧ headLegal wHead false = true ∧ (0 : BitVec 24).toNat < 2) ∧
    (∃ ss : State, ss.canDispatch (0 : Fin 16) = true ∧ headLegal wHead false = true ∧ (ss.seq (0 : Fin 16)).loops = []) ∧
    (∃ ss : State, ss.canDispatch (0 : Fin 16) = true ∧ headLegal wHead false = true ∧ 16 ≤ (ss.seq (0 : Fin
      16)).calls.length) ∧
    (∃ ss : State, ss.canDispatch (0 : Fin 16) = true ∧ headLegal wHead false = true ∧ (ss.seq (0 : Fin 16)).calls = []) ∧
    (∃ ss : State, ss.canDispatch (0 : Fin 16) = true ∧ headLegal wHead false = true ∧ condLegal (17 : BitVec 8) = false) ∧
    (∃ ss : State, ss.canDispatch (0 : Fin 16) = true ∧ headLegal wHead false = true ∧ condLegal (0 : Byte) = true ∧
      waitCondLegal (0 : Byte) = true) ∧
    (∃ ss : State, ss.canDispatch (0 : Fin 16) = true ∧ ({ wHead with len := 0 } : BlockHead).enc ≠ 3 ∧ ({ wHead
      with len := 0 } : BlockHead).len = 0) :=
  ⟨⟨(wRun w0 0).setSeq 0 { (wRun w0 0).seq 0 with loops := List.replicate 7 (0, 2, 0) }, by decide +kernel⟩,
   ⟨(wRun w0 0).setSeq 0 { (wRun w0 0).seq 0 with iterate := true }, by decide +kernel⟩,
   ⟨(wRun w0 0).setSeq 0 { (wRun w0 0).seq 0 with loops := [(0, 2, 0)] }, by decide +kernel⟩,
   ⟨(wRun w0 0).setSeq 0 { (wRun w0 0).seq 0 with loops := [(0, 1, 0)] }, by decide +kernel⟩,
   ⟨(wRun w0 0).setSeq 0 { (wRun w0 0).seq 0 with calls := List.replicate 15 0 }, by decide +kernel⟩,
   ⟨(wRun w0 0).setSeq 0 { (wRun w0 0).seq 0 with calls := [0] }, by decide +kernel⟩,
   ⟨((((wRun w0 0).setReg64 (R.PART_P_QUAD_LO 0) (R.PART_P_QUAD_HI 0) 1).setFlag (F.PART_P_CFG_DEFINED 0) true).setFld
     (F.PART_P_STAT_STATE 0) pRunning), by decide +kernel⟩,
   ⟨(wRun (w0) (0 : Fin 16)), by decide +kernel⟩,
   ⟨(wRun w0 0).setSeq 0 { (wRun w0 0).seq 0 with loops := List.replicate 8 (0, 2, 0) }, by decide +kernel⟩,
   ⟨(wRun (w0) (0 : Fin 16)), by decide +kernel⟩,
   ⟨(((wRun (w0) (0 : Fin 16))).setSeq (0 : Fin 16) { ((wRun (w0) (0 : Fin 16))).seq (0 : Fin 16) with loops := [] }),
     by decide +kernel⟩,
   ⟨(wRun w0 0).setSeq 0 { (wRun w0 0).seq 0 with calls := List.replicate 16 0 }, by decide +kernel⟩,
   ⟨(((wRun (w0) (0 : Fin 16))).setSeq (0 : Fin 16) { ((wRun (w0) (0 : Fin 16))).seq (0 : Fin 16) with calls := [] }),
     by decide +kernel⟩,
   ⟨(wRun (w0) (0 : Fin 16)), by decide +kernel⟩,
   ⟨(wRun (w0) (0 : Fin 16)), by decide +kernel⟩,
   ⟨(wRun (w0) (0 : Fin 16)), by decide +kernel⟩⟩

theorem wit_GeneratorInstructions :
    (∃ ss : State, ss.generates (0 : Fin 16) wHead = true ∧ 1 ≤ (4 : BitVec 4).toNat ∧ (4 : BitVec 4).toNat ≤ 4 ∧
      (ss.genHead (0 : Fin 16) (blockBase wHead)).tapPins (ss.gangG (0 : Fin 16)) = true ∧ ss.tapState (0 : Fin 16) = (4 :
      BitVec 4).toNat) ∧
    (∃ ss : State, ss.generates (0 : Fin 16) wHead = true ∧ ((5 : BitVec 4).toNat = 0 ∨ 4 < (5 : BitVec 4).toNat)) ∧
    (∃ ss : State, ss.generates (0 : Fin 16) wHead = true ∧ 1 ≤ (1 : BitVec 4).toNat ∧ (1 : BitVec 4).toNat ≤ 4 ∧
      (ss.genHead (0 : Fin 16) (blockBase wHead)).tapPins (ss.gangG (0 : Fin 16)) = true ∧ ss.tapState (0 : Fin 16) = 0) ∧
    (∃ ss : State, ss.generates (0 : Fin 16) wHead = true ∧ (ss.genHead (0 : Fin 16) (blockBase wHead)).tapPins (ss.gangG (0
      : Fin 16)) = true ∧ ss.tapState (0 : Fin 16) ≠ 0 ∧ 0 < (512 : BitVec 25).toNat ∧ (512 : BitVec 25).toNat ≤ 16777216 ∧
      (ss.genHead (0 : Fin 16) (blockBase wHead)).stream (ss.gangG (0 : Fin 16)) (ss.genHead (0 : Fin 16) (blockBase
      wHead)).ofs1 (((512 : BitVec 25).toNat + 7) / 8) = true) ∧
    (∃ ss : State, ss.generates (0 : Fin 16) wHead = true ∧ bitsOf (0x06000000040000 : BitVec 56).toNat 55 54 ≤ 1 ∧ 1 ≤
      bitsOf (0x06000000040000 : BitVec 56).toNat 51 48 ∧ bitsOf (0x06000000040000 : BitVec 56).toNat 51 48 ≤ 6 ∧ 4 ≤ bitsOf
      (0x06000000040000 : BitVec 56).toNat 19 16 ∧ pauseLegal ((0x06000000040000 : BitVec 56).toNat.testBit 53)
      ((0x06000000040000 : BitVec 56).toNat.testBit 52) (bitsOf (0x06000000040000 : BitVec 56).toNat 47 36) (bitsOf
      (0x06000000040000 : BitVec 56).toNat 51 48) = true ∧ (ss.genHead (0 : Fin 16) (blockBase wHead)).sentPins (ss.gangG (0
      : Fin 16)) = true ∧ 1 ≤ (ss.genHead (0 : Fin 16) (blockBase wHead)).tick ∧ (ss.genHead (0 : Fin 16) (blockBase
      wHead)).tick ≤ 65535 ∧ (0x06000000040000 : BitVec 56).toNat.testBit 15 = false ∧ bitsOf (0x06000000040000 : BitVec
      56).toNat 35 20 = 0) ∧
    (∃ ss : State, ss.generates (0 : Fin 16) wHead = true ∧ bitsOf (0x06000000140000 : BitVec 56).toNat 55 54 ≤ 1 ∧ 1 ≤
      bitsOf (0x06000000140000 : BitVec 56).toNat 51 48 ∧ bitsOf (0x06000000140000 : BitVec 56).toNat 51 48 ≤ 6 ∧ 4 ≤ bitsOf
      (0x06000000140000 : BitVec 56).toNat 19 16 ∧ pauseLegal ((0x06000000140000 : BitVec 56).toNat.testBit 53)
      ((0x06000000140000 : BitVec 56).toNat.testBit 52) (bitsOf (0x06000000140000 : BitVec 56).toNat 47 36) (bitsOf
      (0x06000000140000 : BitVec 56).toNat 51 48) = true ∧ (ss.genHead (0 : Fin 16) (blockBase wHead)).sentPins (ss.gangG (0
      : Fin 16)) = true ∧ 1 ≤ (ss.genHead (0 : Fin 16) (blockBase wHead)).tick ∧ (ss.genHead (0 : Fin 16) (blockBase
      wHead)).tick ≤ 65535 ∧ (0x06000000140000 : BitVec 56).toNat.testBit 15 = false ∧ bitsOf (0x06000000140000 : BitVec
      56).toNat 35 20 = 1 ∧ (ss.genHead (0 : Fin 16) (blockBase wHead)).stream (ss.gangG (0 : Fin 16)) (ss.genHead (0 : Fin
      16) (blockBase wHead)).ofs1 4 = true) ∧
    (∃ ss : State, ss.generates 0 wHead = true ∧ (ss.genHead 0 0).sentPins (ss.gangG 0) = true ∧ (ss.genHead 0 0).tick = 8 ∧
      (ss.genHead 0 0).ofs1 = 0 ∧ ss.fld (F.CAP_SRC_SEQ 0) = 0 ∧ (ss.genHead 0 0).pins.take 4 = [0, 255, 255, 255] ∧
      (ss.pinPart 0).any (fun k => ss.capArmed 0 k) = true ∧ (ss.genHead 0 0).timeout ≠ 0 ∧ bitsOf (0x06000000100000 :
      BitVec 56).toNat 51 48 = 6 ∧ bitsOf (0x06000000100000 : BitVec 56).toNat 35 20 = 1) ∧
    (∃ ss : State, ss.canDispatch (0 : Fin 16) = true ∧ ((0 : Byte).toNat < 0xC0 ∨ (ss.dispatchWord (0 : Fin 16) (0 :
      Byte).toNat 0).getLsbD 31 = false)) ∧
    (∃ ss : State, ss.emits (0 : Fin 16) wHead (256) = true ∧ 0xC0 ≤ (0xFF : Byte).toNat ∧ (ss.dispatchWord (0 : Fin 16)
      (0xFF : Byte).toNat 0).getLsbD 31 = true ∧ (ss.dispatchWord (0 : Fin 16) (0xFF : Byte).toNat 0).getLsbD 29 = false) :=
  ⟨⟨(wLines w0 [wLine [0, 1, 2, 3] 128 192 8 8]).setFld (F.MC_SQ_TAP_TAPST 0) 4, by decide +kernel⟩,
   ⟨wLines w0 [wLine [0, 1, 2, 3] 128 192 8 8], by decide +kernel⟩,
   ⟨(wLines w0 [wLine [0, 1, 2, 3] 128 192 8 8]).setFld (F.MC_SQ_TAP_TAPST 0) 0, by decide +kernel⟩,
   ⟨(wLines w0 [wLine [0, 1, 2, 3] 128 192 8 8]).setFld (F.MC_SQ_TAP_TAPST 0) 1, by decide +kernel⟩,
   ⟨wLines w0 [wLine [0, 255] 128 192 1 8], by decide +kernel⟩,
   ⟨wLines w0 [wLine [0, 255] 128 192 1 8], by decide +kernel⟩,
   ⟨((((wLines w0 [wLine [0, 255] 0 128 8 8]).setReg64 (R.PART_P_QUAD_LO 0) (R.PART_P_QUAD_HI 0) 1).setFlag
     (F.PART_P_CFG_DEFINED 0) true).setFlag (F.CAP_P_STAT_ARMED 0 0) true), by decide +kernel⟩,
   ⟨(wRun (w0) (0 : Fin 16)), by decide +kernel⟩,
   ⟨(wRun w0 0).setSeq 0 { (wRun w0 0).seq 0 with store.dispatch := [(510, 0x80000000)] }, by decide +kernel⟩⟩

theorem wit_MicroOperations :
    (∃ ss : State, ss.uopRuns (0 : Fin 16) 1 = true ∧ (1 : BitVec 14).toNat % 32 ≠ 0) ∧
    (∃ ss : State, ss.uopRuns (0 : Fin 16) 1 = true ∧ (0 : BitVec 14).toNat % 32 = 0) ∧
    (∃ ss : State, ss.uopRuns (0 : Fin 16) 1 = true ∧ ss.special (0 : Fin 16) (0 : BitVec 6).toNat = some (0) ∧ (0 : BitVec
      6).toNat < 0x10) ∧
    (∃ ss : State, ss.uopRuns (0 : Fin 16) 1 = true) ∧
    (∃ ss : State, ss.uopRuns (0 : Fin 16) 1 = true) ∧
    (∃ ss : State, ss.uopRuns (0 : Fin 16) 1 = true ∧ (0 : BitVec 6).toNat < 8) ∧
    (∃ ss : State, ss.uopRuns (0 : Fin 16) 1 = true ∧ 0x20 ≤ (32 : BitVec 6).toNat) ∧
    (∃ ss : State, ss.uopRuns (0 : Fin 16) 2 = true ∧ (ss.micro (0 : Fin 16)).ldpOffset (0 : Fin 16) (0 : BitVec 14) + 4 ≤
      (ss.micro (0 : Fin 16)).size ∧ ss.linesPresent (0 : Fin 16) ((ss.micro (0 : Fin 16)).base + (ss.micro (0 : Fin
      16)).ldpOffset (0 : Fin 16) (0 : BitVec 14)) 4 = true) ∧
    (∃ ss : State, ss.uopRuns (0 : Fin 16) 2 = true ∧ (ss.micro (0 : Fin 16)).ldpOffset (0 : Fin 16) (0 : BitVec 14) + 4 ≤
      (ss.micro (0 : Fin 16)).size ∧ ss.linesPresent (0 : Fin 16) ((ss.micro (0 : Fin 16)).base + (ss.micro (0 : Fin
      16)).ldpOffset (0 : Fin 16) (0 : BitVec 14)) 4 = false) ∧
    (∃ ss : State, ss.uopRuns (0 : Fin 16) 2 = true ∧ (ss.micro (0 : Fin 16)).size < (ss.micro (0 : Fin 16)).ldpOffset (0 :
      Fin 16) (0 : BitVec 14) + 4) ∧
    (∃ ss : State, (ss.micro (0 : Fin 16)).isOpen = false ∧ (0 : BitVec 4).toNat ≤ 8 ∧ (ss.micro (0 : Fin 16)).bcond (0 :
      BitVec 4).toNat ((ss.micro (0 : Fin 16)).reg (0 : Fin 16)) = true ∧ ss.uopRuns (0 : Fin 16) 2 = true) ∧
    (∃ ss : State, (ss.micro (0 : Fin 16)).isOpen = false ∧ (1 : BitVec 4).toNat ≤ 8 ∧ (ss.micro (0 : Fin 16)).bcond (1 :
      BitVec 4).toNat ((ss.micro (0 : Fin 16)).reg (0 : Fin 16)) = false ∧ ss.uopRuns (0 : Fin 16) 1 = true) ∧
    (∃ ss : State, ss.uopRuns (0 : Fin 16) 1 = true ∧ 8 < (9 : BitVec 4).toNat) ∧
    (∃ ss : State, ss.uopRuns (0 : Fin 16) 2 = true ∧ (ss.micro (0 : Fin 16)).isOpen = false ∧ (ss.micro (0 : Fin
      16)).stack.length < 4) ∧
    (∃ ss : State, ss.uopRuns (0 : Fin 16) 2 = true ∧ (ss.micro (0 : Fin 16)).isOpen = false ∧ 4 ≤ (ss.micro (0 : Fin
      16)).stack.length) ∧
    (∃ ss : State, ss.uopRuns (0 : Fin 16) 2 = true ∧ (ss.micro (0 : Fin 16)).isOpen = false ∧ (ss.micro (0 : Fin 16)).stack
      = (0) :: ([])) ∧
    (∃ ss : State, ss.uopRuns (0 : Fin 16) 2 = true ∧ (ss.micro (0 : Fin 16)).isOpen = false ∧ (ss.micro (0 : Fin 16)).stack
      = []) ∧
    (∃ ss : State, ss.uopRuns (0 : Fin 16) 2 = true ∧ (ss.micro (0 : Fin 16)).isOpen = true ∧ ((0 : BitVec 15).toNat <
      0x6000 ∨ 0x7000 ≤ (0 : BitVec 15).toNat) ∧ (ss.micro (0 : Fin 16)).stack.length < 4) ∧
    (∃ ss : State, ss.uopRuns (0 : Fin 16) 1 = true ∧ (ss.seq (0 : Fin 16)).streaming.isSome = true ∧ (ss.seq (0 : Fin
      16)).dp = true ∧ condLegal (((ss.micro (0 : Fin 16)).operands >>> 48).setWidth 8) = true) ∧
    (∃ ss : State, ss.uopRuns (0 : Fin 16) 1 = true ∧ ((ss.seq (0 : Fin 16)).streaming = none ∨ (ss.seq (0 : Fin 16)).dp =
      false)) :=
  ⟨⟨((w0).setMicro (0 : Fin 16) { (w0).micro (0 : Fin 16) with active := true }), by decide +kernel⟩,
   ⟨((w0).setMicro (0 : Fin 16) { (w0).micro (0 : Fin 16) with active := true }), by decide +kernel⟩,
   ⟨((w0).setMicro (0 : Fin 16) { (w0).micro (0 : Fin 16) with active := true }), by decide +kernel⟩,
   ⟨((w0).setMicro (0 : Fin 16) { (w0).micro (0 : Fin 16) with active := true }), by decide +kernel⟩,
   ⟨((w0).setMicro (0 : Fin 16) { (w0).micro (0 : Fin 16) with active := true }), by decide +kernel⟩,
   ⟨((w0).setMicro (0 : Fin 16) { (w0).micro (0 : Fin 16) with active := true }), by decide +kernel⟩,
   ⟨((w0).setMicro (0 : Fin 16) { (w0).micro (0 : Fin 16) with active := true }), by decide +kernel⟩,
   ⟨(wRun w0 0).setMicro 0 { Micro.init with active := true, size := 4 }, by decide +kernel⟩,
   ⟨(w0).setMicro 0 { Micro.init with active := true, size := 4 }, by decide +kernel⟩,
   ⟨((w0).setMicro (0 : Fin 16) { (w0).micro (0 : Fin 16) with active := true }), by decide +kernel⟩,
   ⟨((w0).setMicro (0 : Fin 16) { (w0).micro (0 : Fin 16) with active := true }), by decide +kernel⟩,
   ⟨((w0).setMicro (0 : Fin 16) { (w0).micro (0 : Fin 16) with active := true }), by decide +kernel⟩,
   ⟨((w0).setMicro (0 : Fin 16) { (w0).micro (0 : Fin 16) with active := true }), by decide +kernel⟩,
   ⟨((w0).setMicro (0 : Fin 16) { (w0).micro (0 : Fin 16) with active := true }), by decide +kernel⟩,
   ⟨(w0).setMicro 0 { Micro.init with active := true, stack := [1, 2, 3, 4] }, by decide +kernel⟩,
   ⟨((((w0).setMicro (0 : Fin 16) { (w0).micro (0 : Fin 16) with active := true })).setMicro (0 : Fin 16) { (((w0).setMicro
     (0 : Fin 16) { (w0).micro (0 : Fin 16) with active := true })).micro (0 : Fin 16) with stack := (0) :: ([]) }),
     by decide +kernel⟩,
   ⟨((((w0).setMicro (0 : Fin 16) { (w0).micro (0 : Fin 16) with active := true })).setMicro (0 : Fin 16) { (((w0).setMicro
     (0 : Fin 16) { (w0).micro (0 : Fin 16) with active := true })).micro (0 : Fin 16) with stack := [] }),
     by decide +kernel⟩,
   ⟨((((w0).setMicro (0 : Fin 16) { (w0).micro (0 : Fin 16) with active := true })).setMicro (0 : Fin 16) { (((w0).setMicro
     (0 : Fin 16) { (w0).micro (0 : Fin 16) with active := true })).micro (0 : Fin 16) with upc := 0x6000 }),
     by decide +kernel⟩,
   ⟨({ w0.setSeq 0 { w0.seq 0 with dp := true, streaming := some wDesc, micro := { Micro.init with active := true } }
     with free := 0 } : State), by decide +kernel⟩,
   ⟨((((w0).setMicro (0 : Fin 16) { (w0).micro (0 : Fin 16) with active := true })).setSeq (0 : Fin 16) { (((w0).setMicro (0
     : Fin 16) { (w0).micro (0 : Fin 16) with active := true })).seq (0 : Fin 16) with streaming := none }),
     by decide +kernel⟩⟩

theorem wit_MicroEffects :
    (∃ ss : State, ss.uopRuns (0 : Fin 16) 1 = true ∧ (0 : BitVec 14).toNat % 16 < 5) ∧
    (∃ ss : State, ss.uopRuns (0 : Fin 16) 1 = true ∧ 5 ≤ (5 : BitVec 14).toNat % 16) ∧
    (∃ ss : State, ss.uopRuns (0 : Fin 16) 1 = true ∧ (0 : BitVec 4).toNat ≤ 5) ∧
    (∃ ss : State, ss.uopRuns (0 : Fin 16) 1 = true ∧ 5 < (6 : BitVec 4).toNat) ∧
    (∃ ss : State, ss.uopRuns (0 : Fin 16) 1 = true ∧ (ss.seq (0 : Fin 16)).streaming = none ∧ (ss.seq (0 : Fin 16)).queued
      = none ∧ ((ss.micro (0 : Fin 16)).slot ((0 : BitVec 14).toNat % 16)).queue.length < 64) ∧
    (∃ ss : State, ss.uopRuns (0 : Fin 16) 1 = true ∧ 64 ≤ ((ss.seq (0 : Fin 16)).liveSlot ((ss.micro (0 : Fin 16)).slot
      ((15 : BitVec 14).toNat % 16))).queue.length) ∧
    (∃ ss : State, ss.uopRuns (0 : Fin 16) 2 = true ∧ (ss.seq (0 : Fin 16)).queued.isSome = true) ∧
    (∃ ss : State, ss.uopRuns (0 : Fin 16) 2 = true ∧ (ss.seq (0 : Fin 16)).queued = none ∧ ((ss.micro (0 : Fin
      16)).descLen.toNat < 32 ∨ 1048575 < (ss.micro (0 : Fin 16)).descLen.toNat)) ∧
    (∃ ss : State, ss.uopRuns (0 : Fin 16) 2 = true ∧ (ss.seq (0 : Fin 16)).queued = none ∧ 32 ≤ (ss.micro (0 : Fin
      16)).descLen.toNat ∧ (ss.micro (0 : Fin 16)).descLen.toNat ≤ 1048575 ∧ ss.descKnown (0 : Fin 16) = true ∧ (ss.passed
      (0 : Fin 16) 2).descSize (0 : Fin 16) = some (256)) ∧
    (∃ ss : State, ss.uopRuns (0 : Fin 16) 2 = true ∧ (ss.seq (0 : Fin 16)).queued = none ∧ 32 ≤ (ss.micro (0 : Fin
      16)).descLen.toNat ∧ (ss.micro (0 : Fin 16)).descLen.toNat ≤ 1048575 ∧ ss.descKnown (0 : Fin 16) = true ∧ (ss.passed
      (0 : Fin 16) 2).descSize (0 : Fin 16) = none) ∧
    (∃ ss : State, ss.uopRuns (0 : Fin 16) 1 = true ∧ (ss.seq (0 : Fin 16)).fault = none) ∧
    (∃ ss : State, ss.uopRuns (0 : Fin 16) 1 = true ∧ (ss.seq (0 : Fin 16)).fault = some (0)) ∧
    (∃ ss : State, ss.uopRuns (0 : Fin 16) 1 = true ∧ (ss.micro (0 : Fin 16)).isOpen = false) ∧
    (∃ ss : State, ss.uopRuns (0 : Fin 16) 1 = true ∧ (ss.micro (0 : Fin 16)).isOpen = true ∧ (0 : BitVec 4) ≠ 1 ∧ (0 :
      BitVec 4) ≠ 6) ∧
    (∃ ss : State, ss.uopRuns (0 : Fin 16) 2 = true ∧ (ss.micro (0 : Fin 16)).isOpen = false) ∧
    (∃ ss : State, ss.uopRuns (0 : Fin 16) 2 = true ∧ (ss.micro (0 : Fin 16)).isOpen = true) ∧
    (∃ ss : State, (ss.micro (0 : Fin 16)).active = false) ∧
    (∃ ss : State, (ss.micro (0 : Fin 16)).active = true ∧ 4096 ≤ (ss.micro (0 : Fin 16)).count) ∧
    (∃ ss : State, (ss.micro (0 : Fin 16)).active = true ∧ (ss.micro (0 : Fin 16)).count < 4096 ∧ 0x7000 ≤ (ss.micro (0 :
      Fin 16)).upc) :=
  ⟨⟨((w0).setMicro (0 : Fin 16) { (w0).micro (0 : Fin 16) with active := true }), by decide +kernel⟩,
   ⟨((w0).setMicro (0 : Fin 16) { (w0).micro (0 : Fin 16) with active := true }), by decide +kernel⟩,
   ⟨((w0).setMicro (0 : Fin 16) { (w0).micro (0 : Fin 16) with active := true }), by decide +kernel⟩,
   ⟨((w0).setMicro (0 : Fin 16) { (w0).micro (0 : Fin 16) with active := true }), by decide +kernel⟩,
   ⟨((((((w0).setMicro (0 : Fin 16) { (w0).micro (0 : Fin 16) with active := true })).setSeq (0 : Fin 16) { (((w0).setMicro
     (0 : Fin 16) { (w0).micro (0 : Fin 16) with active := true })).seq (0 : Fin 16) with streaming := none })).setSeq (0 :
     Fin 16) { (((((w0).setMicro (0 : Fin 16) { (w0).micro (0 : Fin 16) with active := true })).setSeq (0 : Fin 16) {
     (((w0).setMicro (0 : Fin 16) { (w0).micro (0 : Fin 16) with active := true })).seq (0 : Fin 16)
     with streaming := none })).seq (0 : Fin 16) with queued := none }), by decide +kernel⟩,
   ⟨(w0).setMicro 0 { Micro.init
     with active := true, slots := List.replicate 16 { Slot.off with queue := List.replicate 64 0 } }, by decide +kernel⟩,
   ⟨w0.setSeq 0 { w0.seq 0 with queued := some wDesc, micro := { Micro.init with active := true } }, by decide +kernel⟩,
   ⟨((((w0).setMicro (0 : Fin 16) { (w0).micro (0 : Fin 16) with active := true })).setSeq (0 : Fin 16) { (((w0).setMicro (0
     : Fin 16) { (w0).micro (0 : Fin 16) with active := true })).seq (0 : Fin 16) with queued := none }),
     by decide +kernel⟩,
   ⟨(wRun w0 0).setMicro 0 { Micro.init with active := true, descLen := 32 }, by decide +kernel⟩,
   ⟨(wLines w0 [⟨0, []⟩, ⟨511, []⟩]).setMicro 0 { Micro.init with active := true, descLen := 32, descLo := 0x1FFFC0 },
     by decide +kernel⟩,
   ⟨((((w0).setMicro (0 : Fin 16) { (w0).micro (0 : Fin 16) with active := true })).setSeq (0 : Fin 16) { (((w0).setMicro (0
     : Fin 16) { (w0).micro (0 : Fin 16) with active := true })).seq (0 : Fin 16) with fault := none }), by decide +kernel⟩,
   ⟨((((w0).setMicro (0 : Fin 16) { (w0).micro (0 : Fin 16) with active := true })).setSeq (0 : Fin 16) { (((w0).setMicro (0
     : Fin 16) { (w0).micro (0 : Fin 16) with active := true })).seq (0 : Fin 16) with fault := some (0) }),
     by decide +kernel⟩,
   ⟨((w0).setMicro (0 : Fin 16) { (w0).micro (0 : Fin 16) with active := true }), by decide +kernel⟩,
   ⟨((((w0).setMicro (0 : Fin 16) { (w0).micro (0 : Fin 16) with active := true })).setMicro (0 : Fin 16) { (((w0).setMicro
     (0 : Fin 16) { (w0).micro (0 : Fin 16) with active := true })).micro (0 : Fin 16) with upc := 0x6000 }),
     by decide +kernel⟩,
   ⟨((w0).setMicro (0 : Fin 16) { (w0).micro (0 : Fin 16) with active := true }), by decide +kernel⟩,
   ⟨((((w0).setMicro (0 : Fin 16) { (w0).micro (0 : Fin 16) with active := true })).setMicro (0 : Fin 16) { (((w0).setMicro
     (0 : Fin 16) { (w0).micro (0 : Fin 16) with active := true })).micro (0 : Fin 16) with upc := 0x6000 }),
     by decide +kernel⟩,
   ⟨((w0).setMicro (0 : Fin 16) { (w0).micro (0 : Fin 16) with active := false }), by decide +kernel⟩,
   ⟨(w0).setMicro 0 { Micro.init with active := true, count := 4096 }, by decide +kernel⟩,
   ⟨(w0).setMicro 0 { Micro.init with active := true, upc := 0x7000 }, by decide +kernel⟩⟩

theorem wit_SequencerBoundaries :
    (∃ ss : State, ((ss.seq (0 : Fin 16)).streaming = none ∨ ss.runState (0 : Fin 16) ≠ rsRunning ∨ (ss.seq (0 : Fin 16)).dp
      = true)) ∧
    (∃ ss : State, (ss.seq (0 : Fin 16)).streaming = some wDesc ∧ ss.runState (0 : Fin 16) = rsRunning ∧ (ss.seq (0 : Fin
      16)).dp = false ∧ wDesc.exit = .fixed) ∧
    (∃ ss : State, (ss.seq (0 : Fin 16)).streaming = some ({ wDesc with exit := .halts } : Desc) ∧ ss.runState (0 : Fin 16)
      = rsRunning ∧ (ss.seq (0 : Fin 16)).dp = false ∧ ({ wDesc with exit := .halts } : Desc).exit = .halts) ∧
    (∃ ss : State, (ss.seq (0 : Fin 16)).streaming = some ({ wDesc with exit := .jumpc 0 (2 ^ 42 - 16) } : Desc) ∧
      ss.runState (0 : Fin 16) = rsRunning ∧ (ss.seq (0 : Fin 16)).dp = false ∧ ({ wDesc
      with exit := .jumpc 0 (2 ^ 42 - 16) } : Desc).exit = .jumpc (0 : Byte) (2 ^ 42 - 16)) ∧
    (∃ ss : State, (ss.seq (0 : Fin 16)).streaming = some ({ wDesc with exit := .matches 7 } : Desc) ∧ ss.runState (0 : Fin
      16) = rsRunning ∧ (ss.seq (0 : Fin 16)).dp = false ∧ ({ wDesc with exit := .matches 7 } : Desc).exit = .matches (7)) ∧
    (∃ ss : State, (ss.seq (0 : Fin 16)).streaming = some ({ wDesc with exit := .waits 1 true 7 } : Desc) ∧ ss.runState (0 :
      Fin 16) = rsRunning ∧ (ss.seq (0 : Fin 16)).dp = false ∧ ({ wDesc with exit := .waits 1 true 7 } : Desc).exit = .waits
      (1 : Byte) true (7) ∧ ((ss.setSeq (0 : Fin 16) { ss.seq (0 : Fin 16) with dp := true }).sampleRequests (0 : Fin
      16)).cond (0 : Fin 16) (1 : Byte) = false ∧ (true = true ∨ (((ss.setSeq (0 : Fin 16) { ss.seq (0 : Fin 16)
      with dp := true }).sampleRequests (0 : Fin 16)).seq (0 : Fin 16)).rep ≠ (7))) ∧
    (∃ ss : State, (ss.seq (0 : Fin 16)).streaming = some ({ wDesc with exit := .waits 0 false 7 } : Desc) ∧ ss.runState (0
      : Fin 16) = rsRunning ∧ (ss.seq (0 : Fin 16)).dp = false ∧ ({ wDesc with exit := .waits 0 false 7 } : Desc).exit =
      .waits (0 : Byte) false (7) ∧ ((ss.setSeq (0 : Fin 16) { ss.seq (0 : Fin 16) with dp := true }).sampleRequests (0 :
      Fin 16)).cond (0 : Fin 16) (0 : Byte) = true ∧ bitsOf (0 : Byte).toNat 6 4 ≠ 2) ∧
    (∃ ss : State, ss.gangRuns (0 : Fin 16) = false) ∧
    (∃ ss : State, ss.gangRuns (0 : Fin 16) = true ∧ (ss.seq (0 : Fin 16)).fault = some (0) ∧ (ss.seq (0 : Fin
      16)).streaming = none) ∧
    (∃ ss : State, ss.runState (0 : Fin 16) = rsRunning ∧ (ss.seq (0 : Fin 16)).fault = none ∧ (ss.seq (0 : Fin
      16)).streaming = some wDesc ∧ (ss.seq (0 : Fin 16)).dp = true ∧ wDesc.len ≤ (ss.seq (0 : Fin 16)).vec ∧ ((ss.endBlock
      (0 : Fin 16) wDesc).seq (0 : Fin 16)).late = some (4)) ∧
    (∃ ss : State, ss.runState (0 : Fin 16) = rsRunning ∧ (ss.seq (0 : Fin 16)).fault = none ∧ (ss.seq (0 : Fin
      16)).streaming = some ({ wDesc with slots := [{ Slot.off with kind := 1, under := true }] } : Desc) ∧ (ss.seq (0 : Fin
      16)).dp = true ∧ ({ wDesc with slots := [{ Slot.off with kind := 1, under := true }] } : Desc).len ≤ (ss.seq (0 : Fin
      16)).vec ∧ ((ss.endBlock (0 : Fin 16) ({ wDesc with slots := [{ Slot.off with kind := 1, under := true }] } :
      Desc)).seq (0 : Fin 16)).late = none ∧ ((((ss.endBlock (0 : Fin 16) ({ wDesc
      with slots := [{ Slot.off with kind := 1, under := true }] } : Desc)).seq (0 : Fin 16)).streaming.map Desc.slots).getD
      ({ wDesc with slots := [{ Slot.off with kind := 1, under := true }] } : Desc).slots).any Slot.under = true) ∧
    (∃ ss : State, ss.runState (0 : Fin 16) = rsRunning ∧ (ss.seq (0 : Fin 16)).fault = none ∧ (ss.seq (0 : Fin
      16)).streaming = some ({ wDesc with exit := .halts } : Desc) ∧ (ss.seq (0 : Fin 16)).dp = true ∧ ({ wDesc
      with exit := .halts } : Desc).len ≤ (ss.seq (0 : Fin 16)).vec ∧ ((ss.endBlock (0 : Fin 16) ({ wDesc
      with exit := .halts } : Desc)).seq (0 : Fin 16)).late = none ∧ ((((ss.endBlock (0 : Fin 16) ({ wDesc
      with exit := .halts } : Desc)).seq (0 : Fin 16)).streaming.map Desc.slots).getD ({ wDesc with exit := .halts } :
      Desc).slots).any Slot.under = false ∧ ({ wDesc with exit := .halts } : Desc).exit = .halts) ∧
    (∃ ss : State, ss.runState 0 = rsRunning ∧ (ss.seq 0).fault = none ∧ (ss.seq 0).streaming = some wDesc ∧ (ss.seq 0).dp =
      true ∧ ((ss.endBlock 0 wDesc).afterBlock 0 wDesc).isSome = true) ∧
    (∃ ss : State, (ss.runState (0 : Fin 16) = rsPaused ∨ ss.runState (0 : Fin 16) = rsHold) ∧ (ss.seq (0 : Fin 16)).fault =
      none ∧ ((ss.seq (0 : Fin 16)).udp = false ∨ (ss.seq (0 : Fin 16)).unit < 32)) ∧
    (∃ ss : State, ss.runState (0 : Fin 16) = rsPaused ∧ (ss.seq (0 : Fin 16)).udp = false) ∧
    (∃ ss : State, ss.runState (0 : Fin 16) ≠ rsPaused) ∧
    (∃ ss : State, ss.runState (0 : Fin 16) = rsHold ∧ (ss.seq (0 : Fin 16)).udp = false) ∧
    (∃ ss : State, ss.runState (0 : Fin 16) ≠ rsHold) ∧
    (∃ ss : State, ((ss.boundaryStalls 0).any (fun x => (x.1.line 0 0).isSome)) = true) ∧
    (∃ ss : State, ((ss.boundaryStalls 0).any (fun x => (x.1.line 0 1).isNone && !((x.1.missLine 0 1).count (R.PGR_SQ_STALLS
      0)).holds 0 x.2 1 && (((x.1.missLine 0 1).count (R.PGR_SQ_STALLS 0)).spanOf 0).isNone)) = true) ∧
    (∃ ss : State, ((ss.boundaryStalls 0).any (fun x => (x.1.line 0 1).isNone && ((x.1.missLine 0 1).count (R.PGR_SQ_STALLS
      0)).holds 0 x.2 1)) = true) ∧
    (∃ ss : State, ((ss.boundaryStalls 0).any (fun x => (x.1.line 0 ((x.1.seq 0).next / 4096)).isSome && !(x.1.count
      (R.PGR_SQ_STALLS 0)).holds 0 x.2 ((x.1.seq 0).next / 4096) && ((x.1.count (R.PGR_SQ_STALLS 0)).spanOf 0).isNone)) =
      true) ∧
    (∃ ss : State, ((ss.boundaryStalls 0).any (fun x => (x.1.line 0 ((x.1.seq 0).next / 4096)).isNone)) = true) ∧
    (∃ ss : State, ss.boundaryStalls (0 : Fin 16) = none) ∧
    (∃ ss : State, (ss.seq (0 : Fin 16)).streaming = some ({ wDesc with size := 532480 } : Desc) ∧ ss.runState (0 : Fin 16)
      = rsRunning ∧ (ss.seq (0 : Fin 16)).fault = none ∧ (ss.seq (0 : Fin 16)).vec < ({ wDesc with size := 532480 } :
      Desc).len ∧ ss.line (0 : Fin 16) (129 : BitVec 30).toNat = none ∧ (({ wDesc with size := 532480 } : Desc).base +
      524288) / 4096 ≤ (129 : BitVec 30).toNat ∧ (129 : BitVec 30).toNat * 4096 < ({ wDesc with size := 532480 } :
      Desc).base + ({ wDesc with size := 532480 } : Desc).size) ∧
    (∃ ss : State, ((ss.seq (0 : Fin 16)).streaming = none ∨ ss.runState (0 : Fin 16) ≠ rsRunning)) ∧
    (∃ ss : State, ss.runState (0 : Fin 16) = rsHold ∧ (ss.seq (0 : Fin 16)).udp = true ∧ 32 ≤ (ss.seq (0 : Fin 16)).unit ∧
      (ss.seq (0 : Fin 16)).present = false ∧ ss.fld (F.PGR_SQ_HOLD_LIMIT_UNITS (0 : Fin 16)) ≤ (ss.seq (0 : Fin 16)).hold +
      1) ∧
    (∃ ss : State, ss.runState (0 : Fin 16) = rsHold ∧ (ss.seq (0 : Fin 16)).udp = true ∧ 32 ≤ (ss.seq (0 : Fin 16)).unit ∧
      (ss.seq (0 : Fin 16)).present = false ∧ (ss.seq (0 : Fin 16)).hold + 1 < ss.fld (F.PGR_SQ_HOLD_LIMIT_UNITS (0 : Fin
      16))) ∧
    (∃ ss : State, (ss.seq (0 : Fin 16)).flight = []) ∧
    (∃ ss : State, firstFlight (ss.seq (0 : Fin 16)).flight = some (⟨3, 0, 5, 0, 1, 100, some (true, none), false⟩ : Flight)
      ∧ (⟨3, 0, 5, 0, 1, 100, some (true, none), false⟩ : Flight).remote = false ∧ (⟨3, 0, 5, 0, 1, 100, some (true, none),
      false⟩ : Flight).res = some (true, (none : Option (Bool × Bool)))) ∧
    (∃ ss : State, firstFlight (ss.seq (0 : Fin 16)).flight = some (⟨3, 0, 5, 0, 1, 100, none, false⟩ : Flight) ∧ (⟨3, 0, 5,
      0, 1, 100, none, false⟩ : Flight).remote = false ∧ ((⟨3, 0, 5, 0, 1, 100, none, false⟩ : Flight).res = none ∨ true =
      false) ∧ ((ss.setSeq (0 : Fin 16) { ss.seq (0 : Fin 16)
      with flight := (ss.seq (0 : Fin 16)).flight.erase (⟨3, 0, 5, 0, 1, 100, none, false⟩ : Flight) }).capDeliver (0 : Fin
      16) (⟨3, 0, 5, 0, 1, 100, none, false⟩ : Flight).cycle none).gangRuns (0 : Fin 16) = false) ∧
    (∃ ss : State, firstFlight (ss.seq (0 : Fin 16)).flight = some (⟨3, 0, 5, 0, 1, 100, none, false⟩ : Flight) ∧ (⟨3, 0, 5,
      0, 1, 100, none, false⟩ : Flight).remote = false ∧ ((⟨3, 0, 5, 0, 1, 100, none, false⟩ : Flight).res = none ∨ true =
      false) ∧ ((ss.setSeq (0 : Fin 16) { ss.seq (0 : Fin 16)
      with flight := (ss.seq (0 : Fin 16)).flight.erase (⟨3, 0, 5, 0, 1, 100, none, false⟩ : Flight) }).capDeliver (0 : Fin
      16) (⟨3, 0, 5, 0, 1, 100, none, false⟩ : Flight).cycle none).gangRuns (0 : Fin 16) = true ∧ (((ss.setSeq (0 : Fin 16)
      { ss.seq (0 : Fin 16)
      with flight := (ss.seq (0 : Fin 16)).flight.erase (⟨3, 0, 5, 0, 1, 100, none, false⟩ : Flight) }).capDeliver (0 : Fin
      16) (⟨3, 0, 5, 0, 1, 100, none, false⟩ : Flight).cycle none).seq (0 : Fin 16)).late = none) :=
  ⟨⟨((w0).setSeq (0 : Fin 16) { (w0).seq (0 : Fin 16) with streaming := none }), by decide +kernel⟩,
   ⟨(((((w0).setSeq (0 : Fin 16) { (w0).seq (0 : Fin 16) with streaming := some wDesc }).setFld (F.SEQ_STATE_STATE (0 : Fin
     16)) rsRunning)).setSeq (0 : Fin 16) { ((((w0).setSeq (0 : Fin 16) { (w0).seq (0 : Fin 16)
     with streaming := some wDesc }).setFld (F.SEQ_STATE_STATE (0 : Fin 16)) rsRunning)).seq (0 : Fin 16)
     with dp := false }), by decide +kernel⟩,
   ⟨(((((w0).setSeq (0 : Fin 16) { (w0).seq (0 : Fin 16)
     with streaming := some ({ wDesc with exit := .halts } : Desc) }).setFld (F.SEQ_STATE_STATE (0 : Fin 16))
     rsRunning)).setSeq (0 : Fin 16) { ((((w0).setSeq (0 : Fin 16) { (w0).seq (0 : Fin 16)
     with streaming := some ({ wDesc with exit := .halts } : Desc) }).setFld (F.SEQ_STATE_STATE (0 : Fin 16))
     rsRunning)).seq (0 : Fin 16) with dp := false }), by decide +kernel⟩,
   ⟨(((((w0).setSeq (0 : Fin 16) { (w0).seq (0 : Fin 16)
     with streaming := some ({ wDesc with exit := .jumpc 0 (2 ^ 42 - 16) } : Desc) }).setFld (F.SEQ_STATE_STATE (0 : Fin
     16)) rsRunning)).setSeq (0 : Fin 16) { ((((w0).setSeq (0 : Fin 16) { (w0).seq (0 : Fin 16)
     with streaming := some ({ wDesc with exit := .jumpc 0 (2 ^ 42 - 16) } : Desc) }).setFld (F.SEQ_STATE_STATE (0 : Fin
     16)) rsRunning)).seq (0 : Fin 16) with dp := false }), by decide +kernel⟩,
   ⟨(((((w0).setSeq (0 : Fin 16) { (w0).seq (0 : Fin 16)
     with streaming := some ({ wDesc with exit := .matches 7 } : Desc) }).setFld (F.SEQ_STATE_STATE (0 : Fin 16))
     rsRunning)).setSeq (0 : Fin 16) { ((((w0).setSeq (0 : Fin 16) { (w0).seq (0 : Fin 16)
     with streaming := some ({ wDesc with exit := .matches 7 } : Desc) }).setFld (F.SEQ_STATE_STATE (0 : Fin 16))
     rsRunning)).seq (0 : Fin 16) with dp := false }), by decide +kernel⟩,
   ⟨(((((w0).setSeq (0 : Fin 16) { (w0).seq (0 : Fin 16)
     with streaming := some ({ wDesc with exit := .waits 1 true 7 } : Desc) }).setFld (F.SEQ_STATE_STATE (0 : Fin 16))
     rsRunning)).setSeq (0 : Fin 16) { ((((w0).setSeq (0 : Fin 16) { (w0).seq (0 : Fin 16)
     with streaming := some ({ wDesc with exit := .waits 1 true 7 } : Desc) }).setFld (F.SEQ_STATE_STATE (0 : Fin 16))
     rsRunning)).seq (0 : Fin 16) with dp := false }), by decide +kernel⟩,
   ⟨((((((w0).setSeq (0 : Fin 16) { (w0).seq (0 : Fin 16)
     with streaming := some ({ wDesc with exit := .waits 0 false 7 } : Desc) }).setFld (F.SEQ_STATE_STATE (0 : Fin 16))
     rsRunning)).setSeq (0 : Fin 16) { ((((w0).setSeq (0 : Fin 16) { (w0).seq (0 : Fin 16)
     with streaming := some ({ wDesc with exit := .waits 0 false 7 } : Desc) }).setFld (F.SEQ_STATE_STATE (0 : Fin 16))
     rsRunning)).seq (0 : Fin 16) with dp := false }).setFld (F.SEQ_FLAG_SET_F 0) 1), by decide +kernel⟩,
   ⟨w0, by decide +kernel⟩,
   ⟨(((((w0.setFld (F.SEQ_STATE_STATE (0 : Fin 16)) rsRunning)).setSeq (0 : Fin 16) { ((w0.setFld (F.SEQ_STATE_STATE (0 :
     Fin 16)) rsRunning)).seq (0 : Fin 16) with fault := some (0) })).setSeq (0 : Fin 16) { ((((w0.setFld (F.SEQ_STATE_STATE
     (0 : Fin 16)) rsRunning)).setSeq (0 : Fin 16) { ((w0.setFld (F.SEQ_STATE_STATE (0 : Fin 16)) rsRunning)).seq (0 : Fin
     16) with fault := some (0) })).seq (0 : Fin 16) with streaming := none }), by decide +kernel⟩,
   ⟨((w0.setFld (F.SEQ_STATE_STATE 0) rsRunning)).setSeq 0 { ((w0.setFld (F.SEQ_STATE_STATE 0) rsRunning)).seq 0
     with streaming := some wDesc, dp := true, vec := 32, late := some 4 }, by decide +kernel⟩,
   ⟨((w0.setFld (F.SEQ_STATE_STATE 0) rsRunning)).setSeq 0 { ((w0.setFld (F.SEQ_STATE_STATE 0) rsRunning)).seq 0
     with streaming := some ({ wDesc with slots := [{ Slot.off with kind := 1, under := true }] } : Desc), dp := true, vec := 32, late := none },
     by decide +kernel⟩,
   ⟨((w0.setFld (F.SEQ_STATE_STATE 0) rsRunning)).setSeq 0 { ((w0.setFld (F.SEQ_STATE_STATE 0) rsRunning)).seq 0
     with streaming := some ({ wDesc with exit := .halts } : Desc), dp := true, vec := 32, late := none },
     by decide +kernel⟩,
   ⟨((w0.setFld (F.SEQ_STATE_STATE 0) rsRunning)).setSeq 0 { ((w0.setFld (F.SEQ_STATE_STATE 0) rsRunning)).seq 0
     with streaming := some wDesc, dp := true, vec := 32, late := none }, by decide +kernel⟩,
   ⟨(((((w0.setFld (F.SEQ_STATE_STATE (0 : Fin 16)) rsPaused)).setSeq (0 : Fin 16) { ((w0.setFld (F.SEQ_STATE_STATE (0 : Fin
     16)) rsPaused)).seq (0 : Fin 16) with fault := none })).setSeq (0 : Fin 16) { ((((w0.setFld (F.SEQ_STATE_STATE (0 : Fin
     16)) rsPaused)).setSeq (0 : Fin 16) { ((w0.setFld (F.SEQ_STATE_STATE (0 : Fin 16)) rsPaused)).seq (0 : Fin 16)
     with fault := none })).seq (0 : Fin 16) with udp := false }), by decide +kernel⟩,
   ⟨(((w0.setFld (F.SEQ_STATE_STATE (0 : Fin 16)) rsPaused)).setSeq (0 : Fin 16) { ((w0.setFld (F.SEQ_STATE_STATE (0 : Fin
     16)) rsPaused)).seq (0 : Fin 16) with udp := false }), by decide +kernel⟩,
   ⟨(w0.setFld (F.SEQ_STATE_STATE (0 : Fin 16)) ((rsPaused) + 1)), by decide +kernel⟩,
   ⟨(((w0.setFld (F.SEQ_STATE_STATE (0 : Fin 16)) rsHold)).setSeq (0 : Fin 16) { ((w0.setFld (F.SEQ_STATE_STATE (0 : Fin
     16)) rsHold)).seq (0 : Fin 16) with udp := false }), by decide +kernel⟩,
   ⟨(w0.setFld (F.SEQ_STATE_STATE (0 : Fin 16)) ((rsHold) + 1)), by decide +kernel⟩,
   ⟨wRun w0 0, by decide +kernel⟩,
   ⟨wRun w0 0, by decide +kernel⟩,
   ⟨((((({ (wLines (wPg 0 0 (3 * 2 ^ 61)) [⟨0, []⟩]) with act := [(R.SEQ_STALL 0, 1)] } : State).setFlag
     (F.PART_P_CFG_DEFINED 0) true).setReg64 (R.PART_P_QUAD_LO 0) (R.PART_P_QUAD_HI 0) 1).setFld (F.PART_P_STAT_STATE 0)
     pRunning)).setSeq 0 { ((((({ (wLines (wPg 0 0 (3 * 2 ^ 61)) [⟨0, []⟩]) with act := [(R.SEQ_STALL 0, 1)] } :
     State).setFlag (F.PART_P_CFG_DEFINED 0) true).setReg64 (R.PART_P_QUAD_LO 0) (R.PART_P_QUAD_HI 0) 1).setFld
     (F.PART_P_STAT_STATE 0) pRunning)).seq 0 with streaming := some wDesc, dp := true, vec := 32, rep := 1 },
     by decide +kernel⟩,
   ⟨wRun w0 0, by decide +kernel⟩,
   ⟨wLines w0 [], by decide +kernel⟩,
   ⟨w0, by decide +kernel⟩,
   ⟨((w0.setFld (F.SEQ_STATE_STATE 0) rsRunning)).setSeq 0 { ((w0.setFld (F.SEQ_STATE_STATE 0) rsRunning)).seq 0
     with streaming := some ({ wDesc with size := 532480 } : Desc), dp := true, vec := 31 }, by decide +kernel⟩,
   ⟨((w0).setSeq (0 : Fin 16) { (w0).seq (0 : Fin 16) with streaming := none }), by decide +kernel⟩,
   ⟨(((w0.setFld (F.SEQ_STATE_STATE 0) rsHold).setFld (F.PGR_SQ_HOLD_LIMIT_UNITS 0) 8)).setSeq 0 { (((w0.setFld
     (F.SEQ_STATE_STATE 0) rsHold).setFld (F.PGR_SQ_HOLD_LIMIT_UNITS 0) 8)).seq 0 with udp := true, unit := 32, hold := 7 },
     by decide +kernel⟩,
   ⟨(((w0.setFld (F.SEQ_STATE_STATE 0) rsHold).setFld (F.PGR_SQ_HOLD_LIMIT_UNITS 0) 9)).setSeq 0 { (((w0.setFld
     (F.SEQ_STATE_STATE 0) rsHold).setFld (F.PGR_SQ_HOLD_LIMIT_UNITS 0) 9)).seq 0 with udp := true, unit := 32, hold := 7 },
     by decide +kernel⟩,
   ⟨((w0).setSeq (0 : Fin 16) { (w0).seq (0 : Fin 16) with flight := [] }), by decide +kernel⟩,
   ⟨(w0).setSeq 0 { (w0).seq 0 with flight := [(⟨3, 0, 5, 0, 1, 100, some (true, none), false⟩ : Flight)] },
     by decide +kernel⟩,
   ⟨(w0).setSeq 0 { (w0).seq 0 with flight := [(⟨3, 0, 5, 0, 1, 100, none, false⟩ : Flight)] }, by decide +kernel⟩,
   ⟨((w0.setFld (F.SEQ_STATE_STATE 0) rsRunning)).setSeq 0 { ((w0.setFld (F.SEQ_STATE_STATE 0) rsRunning)).seq 0
     with flight := [(⟨3, 0, 5, 0, 1, 100, none, false⟩ : Flight)] }, by decide +kernel⟩⟩

theorem wit_SequencerRequests :
    (∃ ss : State, ss.admits Agent.mgmt .seq (P.SEQ (0 : Fin 16)) = true ∧ ss.bound (0 : Fin 16) = true ∧ ((0 : BitVec
      2).toNat = ss.fld (F.SEQ_RUN_START_SRC (0 : Fin 16)) ∨ ss.gangRuns (0 : Fin 16) = false) ∧ ss.startable (0 : Fin 16) =
      true ∧ (0 : BitVec 2) = 0) ∧
    (∃ ss : State, ss.admits Agent.mgmt .seq (P.SEQ (0 : Fin 16)) = true ∧ ss.bound (0 : Fin 16) = true ∧ ((1 : BitVec
      2).toNat = ss.fld (F.SEQ_RUN_START_SRC (0 : Fin 16)) ∨ ss.gangRuns (0 : Fin 16) = false) ∧ ss.startable (0 : Fin 16) =
      true ∧ (1 : BitVec 2) = 1) ∧
    (∃ ss : State, ss.admits Agent.mgmt .seq (P.SEQ (0 : Fin 16)) = true ∧ ss.bound (0 : Fin 16) = true ∧ ((2 : BitVec
      2).toNat = ss.fld (F.SEQ_RUN_START_SRC (0 : Fin 16)) ∨ ss.gangRuns (0 : Fin 16) = false) ∧ ss.startable (0 : Fin 16) =
      true ∧ (2 : BitVec 2) = 2) ∧
    (∃ ss : State, ss.admits Agent.mgmt .seq (P.SEQ (0 : Fin 16)) = true ∧ ss.bound (0 : Fin 16) = true ∧ ((3 : BitVec
      2).toNat = ss.fld (F.SEQ_RUN_START_SRC (0 : Fin 16)) ∨ ss.gangRuns (0 : Fin 16) = false) ∧ ss.startable (0 : Fin 16) =
      true ∧ (3 : BitVec 2) = 3) ∧
    (∃ ss : State, ss.admits Agent.mgmt .seq (P.SEQ (0 : Fin 16)) = true ∧ ss.bound (0 : Fin 16) = true ∧ ((0 : BitVec
      2).toNat = ss.fld (F.SEQ_RUN_START_SRC (0 : Fin 16)) ∨ ss.gangRuns (0 : Fin 16) = false) ∧ ss.startable (0 : Fin 16) =
      false) ∧
    (∃ ss : State, ss.flag (F.SEQ_RUN_START (0 : Fin 16)) = true ∧ ss.fld (F.SEQ_RUN_START_SRC (0 : Fin 16)) = 1 ∧
      ss.trigPend (0 : Fin 16) (ss.fld (F.SEQ_RUN_START_TRIG (0 : Fin 16))) = true ∧ ss.startable (0 : Fin 16) = true) ∧
    (∃ ss : State, (ss.flag (F.SEQ_RUN_START (0 : Fin 16)) = false ∨ ss.startable (0 : Fin 16) = false)) ∧
    (∃ ss : State, ss.admits Agent.mgmt .seq (P.SEQ (0 : Fin 16)) = true ∧ ss.bound (0 : Fin 16) = true ∧ ss.fld
      (F.SEQ_RUN_START_SRC (0 : Fin 16)) ≠ 3 ∧ ss.spanOf (0 : Fin 16) = none) ∧
    (∃ ss : State, ss.admits Agent.mgmt .seq (P.SEQ (1 : Fin 16)) = true ∧ ss.bound (1 : Fin 16) = false) ∧
    (∃ ss : State, ss.admits Agent.mgmt .seq (P.SEQ (0 : Fin 16)) = true ∧ (seqGangRule (0 : Fin 16) ((0 : BitVec
      4).setWidth 32) ss).stateOk = true ∧ (0 : Fin 16).val ≤ (0 : BitVec 4).toNat) ∧
    (∃ ss : State, ss.admits Agent.mgmt .seq (P.SEQ (1 : Fin 16)) = true ∧ (seqGangRule (1 : Fin 16) ((0 : BitVec
      4).setWidth 32) ss).stateOk = true ∧ (0 : BitVec 4).toNat < (1 : Fin 16).val) :=
  ⟨⟨((((w0.setReg64 (R.PART_P_QUAD_LO 0) (R.PART_P_QUAD_HI 0) 1).setFlag (F.PART_P_CFG_DEFINED 0) true).setFld
    (F.PART_P_STAT_STATE 0) pArmed).setFld (F.VC_SQ_CFG_SLICES 0) 1), by decide +kernel⟩,
   ⟨((((w0.setReg64 (R.PART_P_QUAD_LO 0) (R.PART_P_QUAD_HI 0) 1).setFlag (F.PART_P_CFG_DEFINED 0) true).setFld
     (F.PART_P_STAT_STATE 0) pArmed).setFld (F.VC_SQ_CFG_SLICES 0) 1), by decide +kernel⟩,
   ⟨((((w0.setReg64 (R.PART_P_QUAD_LO 0) (R.PART_P_QUAD_HI 0) 1).setFlag (F.PART_P_CFG_DEFINED 0) true).setFld
     (F.PART_P_STAT_STATE 0) pArmed).setFld (F.VC_SQ_CFG_SLICES 0) 1), by decide +kernel⟩,
   ⟨((((w0.setReg64 (R.PART_P_QUAD_LO 0) (R.PART_P_QUAD_HI 0) 1).setFlag (F.PART_P_CFG_DEFINED 0) true).setFld
     (F.PART_P_STAT_STATE 0) pArmed).setFld (F.VC_SQ_CFG_SLICES 0) 1), by decide +kernel⟩,
   ⟨w0, by decide +kernel⟩,
   ⟨((((((((w0.setReg64 (R.PART_P_QUAD_LO 0) (R.PART_P_QUAD_HI 0) 1).setFlag (F.PART_P_CFG_DEFINED 0) true).setFld
     (F.PART_P_STAT_STATE 0) pArmed).setFld (F.VC_SQ_CFG_SLICES 0) 1)).setFlag (F.SEQ_RUN_START 0) true).setFld
     (F.SEQ_RUN_START_SRC 0) 1).setFld (F.SEQ_RUN_START_TRIG 0) 15).setBit (R.SEQ_TRIG_PEND 0) 15 true, by decide +kernel⟩,
   ⟨(w0.setFlag (F.SEQ_RUN_START (0 : Fin 16)) false), by decide +kernel⟩,
   ⟨(w0.setFld (F.SEQ_RUN_START_SRC (0 : Fin 16)) 4), by decide +kernel⟩,
   ⟨w0.setFld (F.SEQ_GANG_LAST 0) 1, by decide +kernel⟩,
   ⟨w0, by decide +kernel⟩,
   ⟨w0, by decide +kernel⟩⟩

theorem wit_ControlStores :
    (∃ ss : State, ss.admits Agent.mgmt .mc P.MC = true ∧ (∀ i < 16, ss.drained i = (ss.fld F.MC_DRAIN_REQ).testBit i) ∧
      ss.drained (0 : Fin 16) = false ∧ (ss.seqState (0 : Fin 16) = 0 ∨ ss.seqState (0 : Fin 16) = rsIdle)) ∧
    (∃ ss : State, ss.admits Agent.mgmt .mc P.MC = true ∧ (∀ i < 16, ss.drained i = (ss.fld F.MC_DRAIN_REQ).testBit i) ∧
      ss.drained (0 : Fin 16) = false ∧ ss.seqState (0 : Fin 16) ≠ 0 ∧ ss.seqState (0 : Fin 16) ≠ rsIdle) ∧
    (∃ ss : State, ss.admits Agent.mgmt .mc P.MC = true ∧ (∀ i < 16, ss.drained i = (ss.fld F.MC_DRAIN_REQ).testBit i) ∧
      ss.drained (15 : Fin 16) = true ∧ (ss.seq (15 : Fin 16)).store.bad = false) ∧
    (∃ ss : State, ss.admits Agent.mgmt .mc P.MC = true ∧ (∀ i < 16, ss.drained i = (ss.fld F.MC_DRAIN_REQ).testBit i) ∧
      ss.drained (15 : Fin 16) = true ∧ (ss.seq (15 : Fin 16)).store.bad = true) ∧
    (∃ ss : State, ss.admits Agent.mgmt .mc P.MC = true ∧ ss.drained (0 : Fin 16) = true ∧ ss.fld F.MC_PATCH_STAT_PSTATE =
      1) ∧
    (∃ ss : State, ss.admits Agent.mgmt .mc P.MC = true ∧ (ss.drained (0 : Fin 16) = false ∨ ss.fld F.MC_PATCH_STAT_PSTATE ≠
      1)) ∧
    (∃ ss : State, ss.bit R.MC_RELOAD (0 : Fin 16) = false) ∧
    (∃ ss : State, ss.bit R.MC_RELOAD 15 = true ∧ ss.bit (R.xx_FLT_INJ P.MC) X.MC_MASTER_ECC = false) ∧
    (∃ ss : State, ss.bit R.MC_RELOAD (0 : Fin 16) = true ∧ ss.bit (R.xx_FLT_INJ P.MC) X.MC_MASTER_ECC = false) ∧
    (∃ ss : State, ss.admits .mgmt .mc P.MC = true ∧ ss.mode = mBoot ∧ bitsOf (0 : Word).toNat 15 12 = 0) ∧
    (∃ ss : State, ss.admits .mgmt .mc P.MC = true ∧ ss.mode = mBoot ∧ bitsOf (BitVec.ofNat 32 (0x10FF + 256 * w0.fld
      F.MC_ABI_ROM_MAJ)).toNat 15 12 = 1 ∧ bitsOf (BitVec.ofNat 32 (0x10FF + 256 * w0.fld F.MC_ABI_ROM_MAJ)).toNat 11 8 =
      ss.fld F.MC_ABI_ROM_MAJ ∧ ss.fld F.MC_ABI_ROM_MIN ≤ (BitVec.ofNat 32 (0x10FF + 256 * w0.fld F.MC_ABI_ROM_MAJ)).toNat %
      256) ∧
    (∃ ss : State, ss.admits .mgmt .mc P.MC = true ∧ ss.mode = mBoot ∧ 2 ≤ bitsOf (8192 : BitVec 32).toNat 15 12 ∧ bitsOf
      (8192 : BitVec 32).toNat 15 12 ≤ 5) ∧
    (∃ ss : State, ss.admits .mgmt .mc P.MC = true ∧ ss.mode = mBoot ∧ bitsOf (4096 : BitVec 32).toNat 15 12 = 1 ∧ bitsOf
      (4096 : BitVec 32).toNat 11 8 ≠ ss.fld F.MC_ABI_ROM_MAJ) ∧
    (∃ ss : State, ss.admits .mgmt .mc P.MC = true ∧ ss.mode ≠ mBoot) ∧
    (∃ ss : State, ss.admits Agent.host .mc P.MC = true ∧ Agent.host ≠ .mgmt) :=
  ⟨⟨(w0.setBit R.MC_DRAINED (0 : Fin 16) false), by decide +kernel⟩,
   ⟨w0.setFld (F.SEQ_STATE_STATE 0) rsRunning, by decide +kernel⟩,
   ⟨((w0.setBit R.MC_DRAINED 15 true).setFld F.MC_DRAIN_REQ 0x8000), by decide +kernel⟩,
   ⟨(((w0.setBit R.MC_DRAINED 15 true).setFld F.MC_DRAIN_REQ 0x8000)).setSeq 15 { (((w0.setBit R.MC_DRAINED 15 true).setFld
     F.MC_DRAIN_REQ 0x8000)).seq 15 with store.bad := true }, by decide +kernel⟩,
   ⟨((w0.setBit R.MC_DRAINED (0 : Fin 16) true).setFld F.MC_PATCH_STAT_PSTATE 1), by decide +kernel⟩,
   ⟨(w0.setBit R.MC_DRAINED (0 : Fin 16) false), by decide +kernel⟩,
   ⟨(w0.setBit R.MC_RELOAD (0 : Fin 16) false), by decide +kernel⟩,
   ⟨w0.setBit R.MC_RELOAD 15 true, by decide +kernel⟩,
   ⟨((w0.setBit R.MC_RELOAD (0 : Fin 16) true).setBit (R.xx_FLT_INJ P.MC) X.MC_MASTER_ECC false), by decide +kernel⟩,
   ⟨(w0.setFld F.DEV_MODE_MODE mBoot), by decide +kernel⟩,
   ⟨(w0.setFld F.DEV_MODE_MODE mBoot), by decide +kernel⟩,
   ⟨(w0.setFld F.DEV_MODE_MODE mBoot), by decide +kernel⟩,
   ⟨(w0.setFld F.DEV_MODE_MODE mBoot), by decide +kernel⟩,
   ⟨(w0.setFld F.DEV_MODE_MODE ((mBoot) + 1)), by decide +kernel⟩,
   ⟨w0, by decide +kernel⟩⟩

theorem wit_CyclesAndPins :
    (∃ ss : State, ss.runState (0 : Fin 16) = rsPaused ∧ (ss.seq (0 : Fin 16)).unit < 32) ∧
    (∃ ss : State, ss.runState (0 : Fin 16) = rsHold ∧ (ss.seq (0 : Fin 16)).unit < 32) ∧
    (∃ ss : State, ss.runState (0 : Fin 16) = rsRunning ∧ (ss.seq (0 : Fin 16)).streaming = some wDesc ∧ (ss.seq (0 : Fin
      16)).vec < wDesc.len) ∧
    (∃ ss : State, ss.gangRuns (0 : Fin 16) = false) ∧
    (∃ ss : State, (ss.pin (0 : Fin 256)).drvQ = []) ∧
    (∃ ss : State, firstEdge (ss.pin 255).drvQ = some ⟨1000, 0, 0, true⟩ ∧ (ss.pin 255).drvLast = some 500 ∧ ss.minSpacing ≤
      4 * (1000 - 500)) ∧
    (∃ ss : State, firstEdge (ss.pin (255 : Fin 256)).drvQ = some (⟨1000, 0, 0, true⟩ : Edge) ∧ (ss.pin (255 : Fin
      256)).drvLast = some (999) ∧ 4 * ((⟨1000, 0, 0, true⟩ : Edge).time - (999)) < ss.minSpacing) ∧
    (∃ ss : State, firstEdge (ss.pin 255).denQ = some ⟨1000, 0, 0, true⟩ ∧ (ss.pin 255).denLast = none) ∧
    (∃ ss : State, (ss.pin (0 : Fin 256)).strobes = []) ∧
    (∃ ss : State, firstStrobe (ss.pin (255 : Fin 256)).strobes = some (⟨0, 0, 1000, 1100, false, 1⟩ : Strobe) ∧ (ss.pin
      (255 : Fin 256)).taken = []) ∧
    (∃ ss : State, firstStrobe (ss.pin (255 : Fin 256)).strobes = some (⟨0, 0, 1000, 1100, false, 1⟩ : Strobe) ∧ (ss.pin
      (255 : Fin 256)).taken = [((876, 900) : Nat × Nat)] ∧ (⟨0, 0, 1000, 1100, false, 1⟩ : Strobe).t0 < ((876, 900) : Nat ×
      Nat).1 + 125) ∧
    (∃ ss : State, ss.admits Agent.mgmt .tg (P.TG (0 : Fin 16)) = true ∧ (ss.tg (0 : Fin 16)).frame = none) ∧
    (∃ ss : State, ss.admits Agent.mgmt .tg (P.TG (0 : Fin 16)) = true ∧ (ss.tg (0 : Fin 16)).frame = some (⟨false, false,
      0, 0, 0, false⟩ : SbFrame)) ∧
    (∃ ss : State, (ss.tg (0 : Fin 16)).frame = some (⟨false, false, 0, 0, 0, false⟩ : SbFrame) ∧ (⟨false, false, 0, 0, 0,
      false⟩ : SbFrame).cal = false ∧ (ss.tg (0 : Fin 16)).inverts = 0 ∧ ss.bit (R.xx_FLT_INJ (P.TG (0 : Fin 16)))
      X.TG_SB_FAIL = false ∧ (⟨false, false, 0, 0, 0, false⟩ : SbFrame).judge false (0 : BitVec 16) ≠ sbOk ∧ (⟨false, false,
      0, 0, 0, false⟩ : SbFrame).again = false) ∧
    (∃ ss : State, (ss.tg (0 : Fin 16)).frame = some (⟨false, false, 0, 0, 0, false⟩ : SbFrame) ∧ (⟨false, false, 0, 0, 0,
      false⟩ : SbFrame).cal = false ∧ (ss.tg (0 : Fin 16)).inverts = 0 ∧ ss.bit (R.xx_FLT_INJ (P.TG (0 : Fin 16)))
      X.TG_SB_FAIL = false ∧ (⟨false, false, 0, 0, 0, false⟩ : SbFrame).judge true (0 : BitVec 16) = sbOk ∧ (⟨false, false,
      0, 0, 0, false⟩ : SbFrame).again = false) ∧
    (∃ ss : State, ss.admits Agent.mgmt .tg (P.TG (0 : Fin 16)) = true ∧ ss.mode = mDiagnose ∧ ss.flag (F.PE_DIAG_STAT_BUSY
      (0 : Fin 16)) = false) ∧
    (∃ ss : State, ss.admits Agent.mgmt .tg (P.TG (0 : Fin 16)) = true ∧ (ss.mode ≠ mDiagnose ∨ ss.flag (F.PE_DIAG_STAT_BUSY
      (0 : Fin 16)) = true)) ∧
    (∃ ss : State, ss.admits Agent.mgmt .tg (P.TG (0 : Fin 16)) = true ∧ ss.flag (F.PE_DIAG_STAT_BUSY (0 : Fin 16)) = true)
      ∧
    (∃ ss : State, ss.flag (F.PE_DIAG_STAT_BUSY (0 : Fin 16)) = true) :=
  ⟨⟨(w0.setFld (F.SEQ_STATE_STATE (0 : Fin 16)) rsPaused), by decide +kernel⟩,
   ⟨(w0.setFld (F.SEQ_STATE_STATE (0 : Fin 16)) rsHold), by decide +kernel⟩,
   ⟨((w0.setFld (F.SEQ_STATE_STATE 0) rsRunning)).setSeq 0 { ((w0.setFld (F.SEQ_STATE_STATE 0) rsRunning)).seq 0
     with streaming := some wDesc, vec := 31 }, by decide +kernel⟩,
   ⟨w0, by decide +kernel⟩,
   ⟨((w0).setPin (0 : Fin 256) { (w0).pin (0 : Fin 256) with drvQ := [] }), by decide +kernel⟩,
   ⟨w0.setPin 255 { w0.pin 255 with drvQ := [⟨1000, 0, 0, true⟩], drvLast := some 500 }, by decide +kernel⟩,
   ⟨w0.setPin 255 { w0.pin 255 with drvQ := [⟨1000, 0, 0, true⟩], drvLast := some 999 }, by decide +kernel⟩,
   ⟨w0.setPin 255 { w0.pin 255 with denQ := [⟨1000, 0, 0, true⟩], denLast := none }, by decide +kernel⟩,
   ⟨((w0).setPin (0 : Fin 256) { (w0).pin (0 : Fin 256) with strobes := [] }), by decide +kernel⟩,
   ⟨w0.setPin 255 { w0.pin 255 with strobes := [⟨0, 0, 1000, 1100, false, 1⟩] }, by decide +kernel⟩,
   ⟨w0.setPin 255 { w0.pin 255 with strobes := [⟨0, 0, 1000, 1100, false, 1⟩], taken := [(876, 900)] }, by decide +kernel⟩,
   ⟨((w0).setTg (0 : Fin 16) { (w0).tg (0 : Fin 16) with frame := none }), by decide +kernel⟩,
   ⟨((w0).setTg (0 : Fin 16) { (w0).tg (0 : Fin 16) with frame := some (⟨false, false, 0, 0, 0, false⟩ : SbFrame) }),
     by decide +kernel⟩,
   ⟨(((((w0).setTg (0 : Fin 16) { (w0).tg (0 : Fin 16)
     with frame := some (⟨false, false, 0, 0, 0, false⟩ : SbFrame) })).setTg (0 : Fin 16) { (((w0).setTg (0 : Fin 16) {
     (w0).tg (0 : Fin 16) with frame := some (⟨false, false, 0, 0, 0, false⟩ : SbFrame) })).tg (0 : Fin 16)
     with inverts := 0 }).setBit (R.xx_FLT_INJ (P.TG (0 : Fin 16))) X.TG_SB_FAIL false), by decide +kernel⟩,
   ⟨(((((w0).setTg (0 : Fin 16) { (w0).tg (0 : Fin 16)
     with frame := some (⟨false, false, 0, 0, 0, false⟩ : SbFrame) })).setTg (0 : Fin 16) { (((w0).setTg (0 : Fin 16) {
     (w0).tg (0 : Fin 16) with frame := some (⟨false, false, 0, 0, 0, false⟩ : SbFrame) })).tg (0 : Fin 16)
     with inverts := 0 }).setBit (R.xx_FLT_INJ (P.TG (0 : Fin 16))) X.TG_SB_FAIL false), by decide +kernel⟩,
   ⟨((w0.setFld F.DEV_MODE_MODE mDiagnose).setFlag (F.PE_DIAG_STAT_BUSY (0 : Fin 16)) false), by decide +kernel⟩,
   ⟨(w0.setFld F.DEV_MODE_MODE ((mDiagnose) + 1)), by decide +kernel⟩,
   ⟨(w0.setFlag (F.PE_DIAG_STAT_BUSY (0 : Fin 16)) true), by decide +kernel⟩,
   ⟨(w0.setFlag (F.PE_DIAG_STAT_BUSY (0 : Fin 16)) true), by decide +kernel⟩⟩

theorem wit_PatternPages :
    (∃ ss : State, ss.admits Agent.mgmt .pgr P.PGR = true ∧ ss.flag (F.xx_CTRL_ENABLE P.PGR) = false ∧ ss.flag
      (F.xx_COMMIT_STAT_PENDING P.PGR) = false ∧ ss.pager.tables ≠ []) ∧
    (∃ ss : State, ss.admits Agent.mgmt .pgr P.PGR = true ∧ ss.flag (F.xx_CTRL_ENABLE P.PGR) = false ∧ ss.flag
      (F.xx_COMMIT_STAT_PENDING P.PGR) = false ∧ ss.pgrEnableOk = true) ∧
    (∃ ss : State, ss.admits Agent.mgmt .pgr P.PGR = true ∧ ss.flag (F.xx_CTRL_ENABLE P.PGR) = false ∧ ss.flag
      (F.xx_COMMIT_STAT_PENDING P.PGR) = false ∧ ss.pgrEnableOk = false) ∧
    (∃ ss : State, ss.admits Agent.mgmt .pgr P.PGR = true ∧ ss.flag F.PGR_MAP_STAT_BUSY = false ∧ ss.flag (F.xx_CTRL_ENABLE
      P.PGR) = true ∧ ss.fld F.PGR_MAP_PAGE_PAGE + (1 : BitVec 16).toNat ≤ 2097152 ∧ (1 : BitVec 16) ≠ 0 ∧ (true = false ∨
      (1 : BitVec 16) = 1)) ∧
    (∃ ss : State, ss.admits Agent.mgmt .pgr P.PGR = true ∧ ss.flag F.PGR_MAP_STAT_BUSY = false ∧ ss.flag (F.xx_CTRL_ENABLE
      P.PGR) = true ∧ ss.fld F.PGR_MAP_PAGE_PAGE + (2 : BitVec 16).toNat ≤ 2097152 ∧ (2 : BitVec 16) ≠ 0 ∧ 1 < (2 : BitVec
      16).toNat) ∧
    (∃ ss : State, ss.admits Agent.mgmt .pgr P.PGR = true ∧ (ss.flag F.PGR_MAP_STAT_BUSY = true ∨ ss.flag (F.xx_CTRL_ENABLE
      P.PGR) = false)) ∧
    (∃ ss : State, ss.pager.op = none) ∧
    (∃ ss : State, ss.pager.op = some (⟨3, false, false, 0, 1⟩ : MapOp) ∧ ((ss.mapPages (⟨3, false, false, 0, 1⟩ : MapOp) 1
      0).2.2.mapEnd (ss.mapPages (⟨3, false, false, 0, 1⟩ : MapOp) 1 0).1 (ss.mapPages (⟨3, false, false, 0, 1⟩ : MapOp) 1
      0).2.1).heldPending = true) ∧
    (∃ ss : State, ss.pager.op = some (⟨3, false, false, 0, 1⟩ : MapOp) ∧ ((ss.mapPages (⟨3, false, false, 0, 1⟩ : MapOp) 1
      0).2.2.mapEnd (ss.mapPages (⟨3, false, false, 0, 1⟩ : MapOp) 1 0).1 (ss.mapPages (⟨3, false, false, 0, 1⟩ : MapOp) 1
      0).2.1).heldPending = false) ∧
    (∃ ss : State, ss.pager.op = some (⟨4, false, false, 0, 1⟩ : MapOp) ∧ ss.heldPending = false) ∧
    (∃ ss : State, ss.admits Agent.mgmt .pgr P.PGR = true ∧ ss.gangRuns (0 : Fin 16) = false) ∧
    (∃ ss : State, ss.admits Agent.mgmt .pgr P.PGR = true ∧ ss.gangRuns (0 : Fin 16) = true) ∧
    (∃ ss : State, ss.admits Agent.mgmt .vc P.VC = true ∧ ss.seqIdle (0 : Fin 16) = true ∧ ss.bound (0 : Fin 16) = true ∧ (0
      : BitVec 5).toNat ≤ 24 ∧ (0 : BitVec 14).toNat ≤ (0 : BitVec 5).toNat * 512 - 256 ∧ (((List.range 16).map (fun i => if
      i = (0 : Fin 16).val then (0 : BitVec 5).toNat else ss.fld (F.VC_SQ_CFG_SLICES i))).sum) ≤ 48) ∧
    (∃ ss : State, ss.admits Agent.mgmt .vc P.VC = true ∧ ss.seqIdle (0 : Fin 16) = true ∧ ss.bound (0 : Fin 16) = true ∧
      (24 < (0 : BitVec 5).toNat ∨ (0 : BitVec 5).toNat * 512 - 256 < (1 : BitVec 14).toNat ∨ 48 < (((List.range 16).map
      (fun i => if i = (0 : Fin 16).val then (0 : BitVec 5).toNat else ss.fld (F.VC_SQ_CFG_SLICES i))).sum))) ∧
    (∃ ss : State, ss.admits Agent.mgmt .vc P.VC = true ∧ ss.seqIdle (0 : Fin 16) = false) :=
  ⟨⟨{ w0 with pager.tables := [0] }, by decide +kernel⟩,
   ⟨w0.setFlag F.ALLOC_MAP_VALID true, by decide +kernel⟩,
   ⟨((w0.setFlag (F.xx_CTRL_ENABLE P.PGR) false).setFlag (F.xx_COMMIT_STAT_PENDING P.PGR) false), by decide +kernel⟩,
   ⟨((w0.setFlag F.PGR_MAP_STAT_BUSY false).setFlag (F.xx_CTRL_ENABLE P.PGR) true), by decide +kernel⟩,
   ⟨((w0.setFlag F.PGR_MAP_STAT_BUSY false).setFlag (F.xx_CTRL_ENABLE P.PGR) true), by decide +kernel⟩,
   ⟨(w0.setFlag F.PGR_MAP_STAT_BUSY true), by decide +kernel⟩,
   ⟨({ w0 with pager.op := none } : State), by decide +kernel⟩,
   ⟨{ (wPg 0 0 (2 ^ 61)) with pager.op := some (⟨3, false, false, 0, 1⟩ : MapOp) }, by decide +kernel⟩,
   ⟨{ (wPg 0 0 (3 * 2 ^ 61)) with pager.op := some (⟨3, false, false, 0, 1⟩ : MapOp) }, by decide +kernel⟩,
   ⟨{ (wPg 0 0 (3 * 2 ^ 61)) with pager.op := some (⟨4, false, false, 0, 1⟩ : MapOp) }, by decide +kernel⟩,
   ⟨w0, by decide +kernel⟩,
   ⟨(w0.setFld (F.SEQ_STATE_STATE (0 : Fin 16)) rsRunning), by decide +kernel⟩,
   ⟨w0, by decide +kernel⟩,
   ⟨w0, by decide +kernel⟩,
   ⟨(((w0.setReg64 (R.PART_P_QUAD_LO 0) (R.PART_P_QUAD_HI 0) 1).setFlag (F.PART_P_CFG_DEFINED 0) true).setFld
     (F.PART_P_STAT_STATE 0) pRunning), by decide +kernel⟩⟩

theorem wit_PagesAndLines :
    (∃ ss : State, (ss.dev.sleep.target ≠ 0 ∨ ss.mode = mQuarantine ∨ ss.fetchOf (0 : BitVec 21).toNat = none)) ∧
    (∃ ss : State, ss.dev.sleep.target = 0 ∧ ss.mode ≠ mQuarantine ∧ ss.fetchOf 0 = some (none, false) ∧ (ss.fetchFrame
      (ss.pager.resident.length + 1)).1.isSome = true ∧ (ss.fetchFrame (ss.pager.resident.length + 1)).2.sourceOpen 0 =
      true) ∧
    (∃ ss : State, ss.dev.sleep.target = 0 ∧ ss.mode ≠ mQuarantine ∧ ss.fetchOf 0 = some (none, false) ∧ (ss.fetchFrame
      (ss.pager.resident.length + 1)).1.isSome = true ∧ (ss.fetchFrame (ss.pager.resident.length + 1)).2.sourceOpen 0 =
      false) ∧
    (∃ ss : State, (ss.fetchOf (0 : BitVec 21).toNat = none ∨ ∃ j, ss.fetchOf (0 : BitVec 21).toNat = some (none, j))) ∧
    (∃ ss : State, ss.fetchOf 0 = some (some 5, false) ∧ (ss.pageWords 0).2.testBit 59 = true ∧ ss.bit (R.xx_FLT_INJ P.PGR)
      X.PGR_FETCH_RETRY = false ∧ (ss.pageWords 0).2 % 2 ^ 32 = 0) ∧
    (∃ ss : State, ss.fetchOf (0 : BitVec 21).toNat = some (some (5), false) ∧ ss.bit (R.xx_FLT_INJ P.PGR) X.PGR_FETCH_RETRY
      = false ∧ (((ss.pageWords (0 : BitVec 21).toNat).2).testBit 59 = false ∨ crcStandard (pageData ([])) = ((ss.pageWords
      (0 : BitVec 21).toNat).2) % 2 ^ 32) ∧ ((ss.pageWords (0 : BitVec 21).toNat).2).testBit 58 = false ∧ ((ss.pageWords (0
      : BitVec 21).toNat).2).testBit 60 = false) ∧
    (∃ ss : State, (ss.pageWords (1023)).2.testBit 58 = true ∧ ((((((ss.setPageBits (1023) 63 61 pgFailed).freeFrame
      (5)).setDramUsed (ss.fld F.PGR_DRAM_USED_FRAMES - 1)).fetchGone (1023)).fault P.PGR X.PGR_PAGE_FAIL).event P.PGR
      E.PGR_PAGE_FAILED).pageHeld (1023) = false) ∧
    (∃ ss : State, ss.pageFrom (0 : BitVec 21).toNat (0 : BitVec 10).toNat (0 : BitVec 21).toNat = false) ∧
    (∃ ss : State, ss.pageFrom (0 : BitVec 21).toNat (1023 : BitVec 10).toNat (3 : BitVec 21).toNat = true ∧ ss.pageState (0
      : BitVec 21).toNat = pgFetching ∧ ss.fetchOf (0 : BitVec 21).toNat = some (some (5), false)) ∧
    (∃ ss : State, (ss.line (0 : Fin 16) (0 : BitVec 30).toNat) = none ∧ ss.patAddr ((0 : BitVec 30).toNat * 4096) = none) ∧
    (∃ ss : State, ss.line (0 : Fin 16) (0 : BitVec 30).toNat = none ∧ ss.patAddr ((0 : BitVec 30).toNat * 4096) = some (5 *
      2 ^ 21) ∧ ss.rangeDown (5 * 2 ^ 21) 4096 = true) ∧
    (∃ ss : State, ss.line (0 : Fin 16) (0 : BitVec 30).toNat = none ∧ ss.patAddr ((0 : BitVec 30).toNat * 4096) = some (5 *
      2 ^ 21) ∧ ss.rangeDown (5 * 2 ^ 21) 4096 = false ∧ (ss.walker (0 : Fin 16)).lines.length < ss.fld (F.VC_SQ_CFG_SLICES
      (0 : Fin 16)) * 512 ∧ (ss.walker (0 : Fin 16)).retry = [] ∧ ss.bit (R.xx_FLT_INJ P.VC) X.VC_LINE_RETRY = false) ∧
    (∃ ss : State, (ss.line (0 : Fin 16) (511 : BitVec 30).toNat).isSome = true ∧ ss.bit (R.xx_FLT_INJ P.VC) X.VC_LINE_RETRY
      = false) ∧
    (∃ ss : State, (ss.flag (F.xx_CTRL_ENABLE P.PGR) = false ∨ ss.bound (0 : Fin 16) = false ∨ ss.fld (F.VC_SQ_CFG_SLICES (0
      : Fin 16)) = 0 ∨ ss.reach (0 : Fin 16) = 0)) ∧
    (∃ ss : State, ss.flag (F.xx_CTRL_ENABLE P.PGR) = true ∧ ss.bound (0 : Fin 16) = true ∧ ss.fld (F.VC_SQ_CFG_SLICES (0 :
      Fin 16)) ≠ 0 ∧ (ss.walker (0 : Fin 16)).on = true ∧ (ss.walker (0 : Fin 16)).halted = true) ∧
    (∃ ss : State, ss.flag (F.xx_CTRL_ENABLE P.PGR) = true ∧ ss.bound (0 : Fin 16) = true ∧ ss.fld (F.VC_SQ_CFG_SLICES (0 :
      Fin 16)) ≠ 0 ∧ (ss.walker (0 : Fin 16)).on = true ∧ ss.reach (0 : Fin 16) ≤ (ss.walker (0 : Fin 16)).ord - (ss.seq (0
      : Fin 16)).ord) ∧
    (∃ ss : State, ss.flag (F.xx_CTRL_ENABLE P.PGR) = true ∧ ss.bound (0 : Fin 16) = true ∧ ss.fld (F.VC_SQ_CFG_SLICES (0 :
      Fin 16)) ≠ 0 ∧ (ss.walker (0 : Fin 16)).on = true ∧ (ss.walker (0 : Fin 16)).halted = false ∧ (ss.walker (0 : Fin
      16)).ord - (ss.seq (0 : Fin 16)).ord < ss.reach (0 : Fin 16) ∧ ss.patAddr (ss.walker (0 : Fin 16)).addr = none) ∧
    (∃ ss : State, ss.flag (F.xx_CTRL_ENABLE P.PGR) = true ∧ ss.bound (0 : Fin 16) = true ∧ ss.fld (F.VC_SQ_CFG_SLICES (0 :
      Fin 16)) ≠ 0 ∧ (ss.walker (0 : Fin 16)).on = true ∧ (ss.walker (0 : Fin 16)).halted = false ∧ (ss.walker (0 : Fin
      16)).ord - (ss.seq (0 : Fin 16)).ord < ss.reach (0 : Fin 16) ∧ ss.patAddr (ss.walker (0 : Fin 16)).addr = some (5 * 2
      ^ 21) ∧ ss.chanDown (5 * 2 ^ 21) = true) ∧
    (∃ ss : State, ss.flag (F.xx_CTRL_ENABLE P.PGR) = true ∧ ss.bound (0 : Fin 16) = true ∧ ss.fld (F.VC_SQ_CFG_SLICES (0 :
      Fin 16)) ≠ 0 ∧ (ss.walker (0 : Fin 16)).on = true ∧ (ss.walker (0 : Fin 16)).halted = false ∧ (ss.walker (0 : Fin
      16)).ord - (ss.seq (0 : Fin 16)).ord < ss.reach (0 : Fin 16) ∧ ss.patAddr (ss.walker (0 : Fin 16)).addr = some (5 * 2
      ^ 21) ∧ ss.chanDown (5 * 2 ^ 21) = false) :=
  ⟨⟨({ w0 with dev.sleep.target := 1 } : State), by decide +kernel⟩,
   ⟨(({ (wPg 0 (0) (2 ^ 62)) with pager.fetches := [(0, none, false)] } : State).setFld F.PGR_DRAM_LIMIT_FRAMES 8),
     by decide +kernel⟩,
   ⟨(({ (wPg 0 (3 * 2 ^ 62) (2 ^ 62)) with pager.fetches := [(0, none, false)] } : State).setFld F.PGR_DRAM_LIMIT_FRAMES 8),
     by decide +kernel⟩,
   ⟨w0, by decide +kernel⟩,
   ⟨{ (wPg 0 (0) (2 ^ 62 + 2 ^ 59 + 5 * 2 ^ 32)) with pager.fetches := [(0, some 5, false)] }, by decide +kernel⟩,
   ⟨{ (wPg 0 (0) (2 ^ 62 + 5 * 2 ^ 32)) with pager.fetches := [(0, some 5, false)] }, by decide +kernel⟩,
   ⟨wPg 1023 0 (2 ^ 62 + 2 ^ 58), by decide +kernel⟩,
   ⟨w0, by decide +kernel⟩,
   ⟨{ (wPg 0 (2 ^ 63 + 1023 * 2 ^ 32 + 3) (2 ^ 62)) with pager.fetches := [(0, some 5, false)] }, by decide +kernel⟩,
   ⟨w0, by decide +kernel⟩,
   ⟨(wPg 0 0 (3 * 2 ^ 61 + 5 * 2 ^ 32)).setFld (F.DRAM_STAT_STATE ((wPg 0 0 (3 * 2 ^ 61 + 5 * 2 ^ 32)).dramPlace (5 * 2 ^
     21)).1) chFaulted, by decide +kernel⟩,
   ⟨(wPg 0 0 (3 * 2 ^ 61 + 5 * 2 ^ 32)).setFld (F.VC_SQ_CFG_SLICES 0) 1, by decide +kernel⟩,
   ⟨wLines w0 [⟨511, []⟩], by decide +kernel⟩,
   ⟨(w0.setFlag (F.xx_CTRL_ENABLE P.PGR) false), by decide +kernel⟩,
   ⟨((((((w0.setFlag (F.xx_CTRL_ENABLE P.PGR) true).setFld (F.VC_SQ_CFG_SLICES (0 : Fin 16)) 1)).setWalker (0 : Fin 16) {
     (((w0.setFlag (F.xx_CTRL_ENABLE P.PGR) true).setFld (F.VC_SQ_CFG_SLICES (0 : Fin 16)) 1)).walker (0 : Fin 16)
     with on := true })).setWalker (0 : Fin 16) { (((((w0.setFlag (F.xx_CTRL_ENABLE P.PGR) true).setFld (F.VC_SQ_CFG_SLICES
     (0 : Fin 16)) 1)).setWalker (0 : Fin 16) { (((w0.setFlag (F.xx_CTRL_ENABLE P.PGR) true).setFld (F.VC_SQ_CFG_SLICES (0 :
     Fin 16)) 1)).walker (0 : Fin 16) with on := true })).walker (0 : Fin 16) with halted := true }), by decide +kernel⟩,
   ⟨(((wPg 0 0 (3 * 2 ^ 61 + 5 * 2 ^ 32)).setFld (F.VC_SQ_CFG_SLICES 0) 1).setFld (F.PGR_SQ_WALK_REACH_MIB 0) 0).setWalker 0
     { Walker.init with on := true }, by decide +kernel⟩,
   ⟨((((((w0.setFlag (F.xx_CTRL_ENABLE P.PGR) true).setFld (F.VC_SQ_CFG_SLICES (0 : Fin 16)) 1)).setWalker (0 : Fin 16) {
     (((w0.setFlag (F.xx_CTRL_ENABLE P.PGR) true).setFld (F.VC_SQ_CFG_SLICES (0 : Fin 16)) 1)).walker (0 : Fin 16)
     with on := true })).setWalker (0 : Fin 16) { (((((w0.setFlag (F.xx_CTRL_ENABLE P.PGR) true).setFld (F.VC_SQ_CFG_SLICES
     (0 : Fin 16)) 1)).setWalker (0 : Fin 16) { (((w0.setFlag (F.xx_CTRL_ENABLE P.PGR) true).setFld (F.VC_SQ_CFG_SLICES (0 :
     Fin 16)) 1)).walker (0 : Fin 16) with on := true })).walker (0 : Fin 16) with halted := false }), by decide +kernel⟩,
   ⟨(List.range 8).foldl (fun s n => s.setFld (F.DRAM_STAT_STATE n) chFaulted) ((((wPg 0 0 (3 * 2 ^ 61 + 5 * 2 ^ 32)).setFld
     (F.VC_SQ_CFG_SLICES 0) 1).setFld (F.PGR_SQ_WALK_REACH_MIB 0) 1).setWalker 0 { Walker.init with on := true }),
     by decide +kernel⟩,
   ⟨(List.range 8).foldl (fun s n => s.setFld (F.DRAM_STAT_STATE n) chReady) ((((wPg 0 0 (3 * 2 ^ 61 + 5 * 2 ^ 32)).setFld
     (F.VC_SQ_CFG_SLICES 0) 1).setFld (F.PGR_SQ_WALK_REACH_MIB 0) 1).setWalker 0 { Walker.init with on := true }),
     by decide +kernel⟩⟩

theorem wit_CaptureCommands :
    (∃ ss : State, (ss.cu (0 : Fin 8)).queue = []) ∧
    (∃ ss : State, (ss.cu (7 : Fin 8)).queue = (⟨0, 0, 0, 0, false, false, [], [], [], [], 3, []⟩ : CycleRec) :: ([] : List
      CycleRec) ∧ (⟨0, 0, 0, 0, false, false, [], [], [], [], 3, []⟩ : CycleRec).left ≠ 0) ∧
    (∃ ss : State, (ss.cu (7 : Fin 8)).queue = (⟨0, 0, 0, 0, false, false, [], [], [], [], 0, []⟩ : CycleRec) :: ([] : List
      CycleRec) ∧ (⟨0, 0, 0, 0, false, false, [], [], [], [], 0, []⟩ : CycleRec).left = 0) ∧
    (∃ ss : State, ss.fld (F.TRG_CFG_MODE (0 : Fin 8)) = 2 ∧ ss.phase (0 : Fin 8) = phPre) ∧
    (∃ ss : State, (ss.fld (F.TRG_CFG_MODE (0 : Fin 8)) ≠ 2 ∨ ss.phase (0 : Fin 8) ≠ phPre)) ∧
    (∃ ss : State, ss.phase (0 : Fin 8) = phRearm) ∧
    (∃ ss : State, ss.phase (0 : Fin 8) ≠ phRearm) ∧
    (∃ ss : State, (ss.timer (7 : Fin 8) (3 : Fin 4)).1 = true ∧ (ss.timer (7 : Fin 8) (3 : Fin 4)).2 < (ss.reg
      (R.TRG_TM_LIM (7 : Fin 8) (3 : Fin 4))).toNat) ∧
    (∃ ss : State, ((ss.timer (0 : Fin 8) (0 : Fin 4)).1 = false ∨ ss.timerExpired (0 : Fin 8) (0 : Fin 4) = true)) ∧
    (∃ ss : State, ss.admits Agent.mgmt .cu (P.CU (0 : Fin 8)) = true ∧ ss.pstate (0 : Fin 64) = pIdle) ∧
    (∃ ss : State, ss.admits Agent.mgmt .cu (P.CU (0 : Fin 8)) = true ∧ ss.pstate (0 : Fin 64) ≠ pIdle) ∧
    (∃ ss : State, ss.admits Agent.mgmt .cu (P.CU (7 : Fin 8)) = true ∧ (ss.flogCap (7 : Fin 8) (63 : Fin 64)) ≠ 0 ∧ (0 :
      Word).toNat < (ss.flogCap (7 : Fin 8) (63 : Fin 64)) ∧ ringLevel (0 : Word).toNat (ss.reg (R.CAP_P_FLOG_RD (7 : Fin 8)
      (63 : Fin 64))).toNat (ss.flogCap (7 : Fin 8) (63 : Fin 64)) ≤ ss.flogLevel (7 : Fin 8) (63 : Fin 64)) ∧
    (∃ ss : State, ss.admits Agent.mgmt .cu (P.CU (7 : Fin 8)) = true ∧ (ss.flogCap (7 : Fin 8) (63 : Fin 64)) ≠ 0 ∧
      (ss.flogCap (7 : Fin 8) (63 : Fin 64)) ≤ (65536 : Word).toNat) ∧
    (∃ ss : State, ss.admits Agent.mgmt .cu (P.CU (0 : Fin 8)) = true ∧ (1 : BitVec 32) ≠ 0) :=
  ⟨⟨((w0).setCu (0 : Fin 8) { (w0).cu (0 : Fin 8) with queue := [] }), by decide +kernel⟩,
   ⟨w0.setCu 7 { w0.cu 7 with queue := [(⟨0, 0, 0, 0, false, false, [], [], [], [], 3, []⟩ : CycleRec)] },
     by decide +kernel⟩,
   ⟨w0.setCu 7 { w0.cu 7 with queue := [(⟨0, 0, 0, 0, false, false, [], [], [], [], 0, []⟩ : CycleRec)] },
     by decide +kernel⟩,
   ⟨((w0.setFld (F.TRG_CFG_MODE (0 : Fin 8)) 2).setFld (F.TRG_STATE_PHASE (0 : Fin 8)) phPre), by decide +kernel⟩,
   ⟨(w0.setFld (F.TRG_CFG_MODE (0 : Fin 8)) 3), by decide +kernel⟩,
   ⟨(w0.setFld (F.TRG_STATE_PHASE (0 : Fin 8)) phRearm), by decide +kernel⟩,
   ⟨(w0.setFld (F.TRG_STATE_PHASE (0 : Fin 8)) ((phRearm) + 1)), by decide +kernel⟩,
   ⟨(w0.setReg (R.TRG_TM_LIM 7 3) 9).setCu 7 { w0.cu 7 with timers := [(3, (true, 8))] }, by decide +kernel⟩,
   ⟨w0, by decide +kernel⟩,
   ⟨(w0.setFld (F.PART_P_STAT_STATE (0 : Fin 64)) pIdle), by decide +kernel⟩,
   ⟨(w0.setFld (F.PART_P_STAT_STATE (0 : Fin 64)) ((pIdle) + 1)), by decide +kernel⟩,
   ⟨w0.setCuPart 7 63 { CuPart.init with flog := 1 }, by decide +kernel⟩,
   ⟨w0.setCuPart 7 63 { CuPart.init with flog := 1 }, by decide +kernel⟩,
   ⟨w0, by decide +kernel⟩⟩

theorem wit_IntervalUnits :
    (∃ ss : State, ss.admits Agent.mgmt .tia (P.TIA ((0 : Fin 64).val / 8)) = true ∧ ss.noMeasure = false ∧ ss.tuFlag (0 :
      Fin 64) F.TU_CTRL_EN = true ∧ (ss.tuState (0 : Fin 64) = tuIdle ∨ ss.tuState (0 : Fin 64) = tuDone)) ∧
    (∃ ss : State, ss.admits Agent.mgmt .tia (P.TIA ((0 : Fin 64).val / 8)) = true ∧ ss.noMeasure = false ∧ ss.tuState (0 :
      Fin 64) = tuArmed) ∧
    (∃ ss : State, ss.admits Agent.mgmt .tia (P.TIA ((0 : Fin 64).val / 8)) = true ∧ ss.noMeasure = true ∧ ss.tuFlag (0 :
      Fin 64) F.TU_CTRL_EN = false) ∧
    (∃ ss : State, ss.admits Agent.mgmt .tia (P.TIA ((0 : Fin 64).val / 8)) = true ∧ ss.tuState (0 : Fin 64) = tuArmed) ∧
    (∃ ss : State, ss.admits Agent.mgmt .tia (P.TIA ((0 : Fin 64).val / 8)) = true ∧ ss.tuState (0 : Fin 64) ≠ tuArmed) ∧
    (∃ ss : State, ss.admits Agent.mgmt .tia (P.TIA ((0 : Fin 64).val / 8)) = true ∧ ss.tuFlag (0 : Fin 64) F.TU_CTRL_EN =
      true) ∧
    (∃ ss : State, ss.admits Agent.mgmt .tia (P.TIA ((0 : Fin 64).val / 8)) = true ∧ ss.tuFlag (0 : Fin 64) F.TU_CTRL_EN =
      false ∧ ss.noMeasure = false ∧ ss.tuState (0 : Fin 64) ≠ tuCal ∧ ss.tuRetired (0 : Fin 64) = false) ∧
    (∃ ss : State, ss.tuState (0 : Fin 64) = tuArmed ∧ ss.tuFlag (0 : Fin 64) F.TU_CTRL_TMO_EN = true) ∧
    (∃ ss : State, (ss.tuState (0 : Fin 64) ≠ tuArmed ∨ ss.tuFlag (0 : Fin 64) F.TU_CTRL_TMO_EN = false)) ∧
    (0x30A < (1022 : BitVec 10).toNat) ∧
    ((0 : BitVec 10).toNat ≤ 0x30A) ∧
    (∃ ss : State, ss.tuFlag (0 : Fin 64) F.TU_STAT_START_TAKEN = true ∧ ss.tuFlag (0 : Fin 64) F.TU_STAT_STOP_TAKEN = false
      ∧ ss.tuState (0 : Fin 64) = tuArmed) :=
  ⟨⟨((w0.setTuFlag (0 : Fin 64) F.TU_CTRL_EN true).setFld (F.TU_STAT_STATE ((0 : Fin 64) / 8) ((0 : Fin 64) % 8)) tuIdle),
    by decide +kernel⟩,
   ⟨(w0.setFld (F.TU_STAT_STATE ((0 : Fin 64) / 8) ((0 : Fin 64) % 8)) tuArmed), by decide +kernel⟩,
   ⟨(w0.setFld F.DEV_MODE_MODE mService), by decide +kernel⟩,
   ⟨(w0.setFld (F.TU_STAT_STATE ((0 : Fin 64) / 8) ((0 : Fin 64) % 8)) tuArmed), by decide +kernel⟩,
   ⟨(w0.setFld (F.TU_STAT_STATE ((0 : Fin 64) / 8) ((0 : Fin 64) % 8)) ((tuArmed) + 1)), by decide +kernel⟩,
   ⟨(w0.setTuFlag (0 : Fin 64) F.TU_CTRL_EN true), by decide +kernel⟩,
   ⟨(w0.setFld (F.TU_STAT_STATE ((0 : Fin 64) / 8) ((0 : Fin 64) % 8)) ((tuCal) + 1)), by decide +kernel⟩,
   ⟨((w0.setFld (F.TU_STAT_STATE ((0 : Fin 64) / 8) ((0 : Fin 64) % 8)) tuArmed).setTuFlag (0 : Fin 64) F.TU_CTRL_TMO_EN
     true), by decide +kernel⟩,
   ⟨(w0.setFld (F.TU_STAT_STATE ((0 : Fin 64) / 8) ((0 : Fin 64) % 8)) ((tuArmed) + 1)), by decide +kernel⟩,
   by decide +kernel,
   by decide +kernel,
   ⟨((w0.setTuFlag (0 : Fin 64) F.TU_STAT_START_TAKEN true).setFld (F.TU_STAT_STATE ((0 : Fin 64) / 8) ((0 : Fin 64) % 8))
     tuArmed), by decide +kernel⟩⟩

theorem wit_DecimationChannels :
    (∃ ss : State, ss.decForms (0 : Fin 32) = true ∧ ss.bit (R.xx_FLT_INJ (P.DEC ((0 : Fin 32).val / 8))) X.DEC_COEF_ECC =
      false) ∧
    (∃ ss : State, ss.decState (0 : Fin 32) = dcSettling ∧ ss.fld (F.DEC_CH_STAT_SETTLE_LEFT ((0 : Fin 32).val / 8) ((0 :
      Fin 32).val % 8)) = (0) + 1) ∧
    (∃ ss : State, ss.admits Agent.mgmt .dec (P.DEC ((0 : Fin 32).val / 8)) = true ∧ ss.decOn (0 : Fin 32) = true) ∧
    (∃ ss : State, ss.admits Agent.mgmt .dec (P.DEC ((0 : Fin 32).val / 8)) = true ∧ ss.decOn (0 : Fin 32) = false ∧
      ss.noMeasure = false ∧ ss.bit R.PART_RET_DX (0 : Fin 32) = false) ∧
    (∃ ss : State, ss.admits Agent.mgmt .dec (P.DEC ((0 : Fin 32).val / 8)) = true ∧ ss.decOn (0 : Fin 32) = false ∧
      ss.noMeasure = true) ∧
    (∃ ss : State, ss.admits Agent.mgmt .dec (P.DEC ((0 : Fin 32).val / 8)) = true ∧ ss.decForms (0 : Fin 32) = true) ∧
    (∃ ss : State, ss.admits Agent.mgmt .dec (P.DEC ((0 : Fin 32).val / 8)) = true ∧ ss.decForms (0 : Fin 32) = false) ∧
    (∃ ss : State, ss.admits Agent.mgmt .dec (P.DEC ((31 : Fin 32).val / 8)) = true ∧ ss.flag (F.DEC_CH_SWAP_STAT_FADING
      ((31 : Fin 32).val / 8) ((31 : Fin 32).val % 8)) = false ∧ (((ss.setDec (31 : Fin 32) { ss.dec (31 : Fin 32)
      with pendFade := (0 : BitVec 12).toNat }).setFlag (F.DEC_CH_SWAP_STAT_PENDING ((31 : Fin 32).val / 8) ((31 : Fin
      32).val % 8)) true).setFlag (F.DEC_CH_SWAP_STAT_PEND_TARGET ((31 : Fin 32).val / 8) ((31 : Fin 32).val % 8))
      true).decForms (31 : Fin 32) = true) ∧
    (∃ ss : State, ss.admits Agent.mgmt .dec (P.DEC ((0 : Fin 32).val / 8)) = true ∧ ss.flag (F.DEC_CH_SWAP_STAT_FADING ((0
      : Fin 32).val / 8) ((0 : Fin 32).val % 8)) = false ∧ (((ss.setDec (0 : Fin 32) { ss.dec (0 : Fin 32)
      with pendFade := (0 : BitVec 12).toNat }).setFlag (F.DEC_CH_SWAP_STAT_PENDING ((0 : Fin 32).val / 8) ((0 : Fin 32).val
      % 8)) true).setFlag (F.DEC_CH_SWAP_STAT_PEND_TARGET ((0 : Fin 32).val / 8) ((0 : Fin 32).val % 8)) true).decForms (0 :
      Fin 32) = false) ∧
    (∃ ss : State, ss.responds Agent.mgmt = true ∧ ss.permits Agent.mgmt (tableGroup .coef) = true ∧ ss.ownerPermits
      Agent.mgmt (P.DEC ((31 : Fin 32).val / 8)) = true ∧ ss.flag (F.xx_STAT_IN_RESET (P.DEC ((31 : Fin 32).val / 8))) =
      false ∧ ss.bankInUse (31 : Fin 32) false = true) ∧
    (∃ ss : State, ss.responds Agent.mgmt = true ∧ ss.permits Agent.mgmt (tableGroup .coef) = true ∧ ss.ownerPermits
      Agent.mgmt (P.DEC ((31 : Fin 32).val / 8)) = true ∧ ss.flag (F.xx_STAT_IN_RESET (P.DEC ((31 : Fin 32).val / 8))) =
      false ∧ ss.bankInUse (31 : Fin 32) true = false ∧ (1023 : Fin 1024).val ≠ 0) ∧
    (∃ ss : State, ss.responds Agent.mgmt = true ∧ ss.permits Agent.mgmt (tableGroup .coef) = true ∧ ss.ownerPermits
      Agent.mgmt (P.DEC ((0 : Fin 32).val / 8)) = true ∧ ss.flag (F.xx_STAT_IN_RESET (P.DEC ((0 : Fin 32).val / 8))) = false
      ∧ ss.bankInUse (0 : Fin 32) true = false ∧ (0 : Fin 1024).val = 0 ∧ (0 : Word).toNat % 2048 ≤ 1023) ∧
    (∃ ss : State, ss.responds Agent.mgmt = true ∧ ss.permits Agent.mgmt (tableGroup .coef) = true ∧ ss.ownerPermits
      Agent.mgmt (P.DEC ((31 : Fin 32).val / 8)) = true ∧ ss.flag (F.xx_STAT_IN_RESET (P.DEC ((31 : Fin 32).val / 8))) =
      false ∧ ss.bankInUse (31 : Fin 32) true = false ∧ (0 : Fin 1024).val = 0 ∧ 1023 < (1024 : Word).toNat % 2048) ∧
    (∃ ss : State, (ss.flag (F.DEC_CLK_STAT_NO_CLOCK (0 : Fin 4)) = true ∨ ∀ k < 8, ss.decOn (8 * (0 : Fin 4).val + k) =
      false)) ∧
    (∃ ss : State, ss.flag (F.DEC_CLK_STAT_NO_CLOCK (0 : Fin 4)) = true) ∧
    (∃ ss : State, (0) < 8 ∧ ss.flag (F.DEC_CLK_STAT_NO_CLOCK (0 : Fin 4)) = false ∧ ss.decOn (8 * (0 : Fin 4).val + (0)) =
      true) ∧
    (∃ ss : State, (0 : BitVec 12).toNat * 625 / 16 ≤ 41000 ∧ ss.flag (F.DEC_CLK_STAT_OVERCLOCK (0 : Fin 4)) = false ∧
      ss.flag (F.DEC_CLK_STAT_NO_CLOCK (0 : Fin 4)) = false) ∧
    (41000 < (1056 : BitVec 12).toNat * 625 / 16) :=
  ⟨⟨((w0.setFld (F.DEC_CH_STAT_STATE ((0 : Fin 32) / 8) ((0 : Fin 32) % 8)) dcSettling).setBit (R.xx_FLT_INJ (P.DEC ((0 :
    Fin 32).val / 8))) X.DEC_COEF_ECC false), by decide +kernel⟩,
   ⟨((w0.setFld (F.DEC_CH_STAT_STATE 0 0) dcSettling).setFld (F.DEC_CH_STAT_SETTLE_LEFT 0 0) 1), by decide +kernel⟩,
   ⟨(w0.setFlag (F.DEC_CH_CTRL_EN ((0 : Fin 32) / 8) ((0 : Fin 32) % 8)) true), by decide +kernel⟩,
   ⟨((w0.setFlag (F.DEC_CH_CTRL_EN ((0 : Fin 32) / 8) ((0 : Fin 32) % 8)) false).setBit R.PART_RET_DX (0 : Fin 32) false),
     by decide +kernel⟩,
   ⟨((w0.setFlag (F.DEC_CH_CTRL_EN ((0 : Fin 32) / 8) ((0 : Fin 32) % 8)) false).setFld F.DEV_MODE_MODE mService),
     by decide +kernel⟩,
   ⟨(w0.setFld (F.DEC_CH_STAT_STATE ((0 : Fin 32) / 8) ((0 : Fin 32) % 8)) dcSettling), by decide +kernel⟩,
   ⟨w0, by decide +kernel⟩,
   ⟨w0.setFld (F.DEC_CH_STAT_STATE 3 7) dcRun, by decide +kernel⟩,
   ⟨(w0.setFlag (F.DEC_CH_SWAP_STAT_FADING ((0 : Fin 32).val / 8) ((0 : Fin 32).val % 8)) false), by decide +kernel⟩,
   ⟨(w0.setFlag (F.xx_STAT_IN_RESET (P.DEC ((31 : Fin 32).val / 8))) false), by decide +kernel⟩,
   ⟨(w0.setFlag (F.xx_STAT_IN_RESET (P.DEC ((31 : Fin 32).val / 8))) false), by decide +kernel⟩,
   ⟨(w0.setFlag (F.xx_STAT_IN_RESET (P.DEC ((0 : Fin 32).val / 8))) false), by decide +kernel⟩,
   ⟨(w0.setFlag (F.xx_STAT_IN_RESET (P.DEC ((31 : Fin 32).val / 8))) false), by decide +kernel⟩,
   ⟨(w0.setFlag (F.DEC_CLK_STAT_NO_CLOCK (0 : Fin 4)) true), by decide +kernel⟩,
   ⟨(w0.setFlag (F.DEC_CLK_STAT_NO_CLOCK (0 : Fin 4)) true), by decide +kernel⟩,
   ⟨((w0.setFlag (F.DEC_CLK_STAT_NO_CLOCK (0 : Fin 4)) false).setFlag (F.DEC_CH_CTRL_EN ((8 * (0 : Fin 4).val + (0)) / 8)
     ((8 * (0 : Fin 4).val + (0)) % 8)) true), by decide +kernel⟩,
   ⟨((w0.setFlag (F.DEC_CLK_STAT_OVERCLOCK (0 : Fin 4)) false).setFlag (F.DEC_CLK_STAT_NO_CLOCK (0 : Fin 4)) false),
     by decide +kernel⟩,
   by decide +kernel⟩

theorem wit_SynthesisChannels :
    (∃ ss : State, ss.admits Agent.mgmt .syn (P.SYN (0 : Fin 16)) = true ∧ ss.flag (F.SYN_CTRL_EN (0 : Fin 16)) = true ∧
      (ss.synState (0 : Fin 16) = syIdle ∨ ss.synState (0 : Fin 16) = syDone ∨ ss.synState (0 : Fin 16) = syFault)) ∧
    (∃ ss : State, ss.admits Agent.mgmt .syn (P.SYN (0 : Fin 16)) = true ∧ ss.flag (F.SYN_CTRL_EN (0 : Fin 16)) = true ∧
      (ss.synState (0 : Fin 16) = syRun ∨ ss.synState (0 : Fin 16) = syArmed)) ∧
    (∃ ss : State, ss.admits Agent.mgmt .syn (P.SYN (0 : Fin 16)) = true ∧ ss.flag (F.SYN_CTRL_EN (0 : Fin 16)) = true ∧
      ss.synState (0 : Fin 16) = syRun) ∧
    (∃ ss : State, ss.admits Agent.mgmt .syn (P.SYN (0 : Fin 16)) = true ∧ ss.flag (F.SYN_CTRL_EN (0 : Fin 16)) = true ∧
      ss.synState (0 : Fin 16) ≠ syRun) ∧
    (∃ ss : State, ss.admits Agent.mgmt .syn (P.SYN (0 : Fin 16)) = true ∧ ss.flag (F.SYN_CTRL_EN (0 : Fin 16)) = false) ∧
    (∃ ss : State, ss.admits Agent.mgmt .syn (P.SYN (0 : Fin 16)) = true ∧ ss.synState (0 : Fin 16) ≠ syRun) ∧
    (∃ ss : State, ss.admits Agent.mgmt .syn (P.SYN (0 : Fin 16)) = true ∧ ss.synState (0 : Fin 16) = syRun ∧ ss.flag
      (F.SYN_JUMP_STAT_PENDING (0 : Fin 16)) = false) ∧
    (∃ ss : State, ss.admits Agent.mgmt .syn (P.SYN (0 : Fin 16)) = true ∧ ss.synState (0 : Fin 16) = syRun ∧ ss.flag
      (F.SYN_JUMP_STAT_PENDING (0 : Fin 16)) = true) ∧
    (∃ ss : State, ss.synState (0 : Fin 16) ≠ syRun ∧ ss.synState (0 : Fin 16) ≠ syStopping) ∧
    (∃ ss : State, ((ss.synFlush (0 : Fin 16)).synState (0 : Fin 16) = syRun ∨ (ss.synFlush (0 : Fin 16)).synState (0 : Fin
      16) = syStopping)) ∧
    (∃ ss : State, ss.synState (0 : Fin 16) = syRun ∧ ss.synCrossings (0 : Fin 16) ≤ (ss.syn (0 : Fin 16)).crossed) ∧
    (∃ ss : State, ss.synState (0 : Fin 16) = syRun ∧ (ss.syn (0 : Fin 16)).crossed < ss.synCrossings (0 : Fin 16)) ∧
    (∃ ss : State, (ss.synState (0 : Fin 16) ≠ syArmed ∨ ss.synStartAt (0 : Fin 16) = none)) ∧
    (∃ ss : State, ss.synState (0 : Fin 16) = syArmed ∧ ss.synStartAt (0 : Fin 16) = some (4000) ∧ (State.enterChain 256
      (((((((ss.setSyn (0 : Fin 16) { Syn.init with time := (4000) }).setReg64 (R.SYN_ACC_LO (0 : Fin 16)) (R.SYN_ACC_HI (0
      : Fin 16)) 0).setReg64 (R.SYN_SAMPLES_LO (0 : Fin 16)) (R.SYN_SAMPLES_HI (0 : Fin 16)) 0).synCommit (0 : Fin
      16)).setSynState (0 : Fin 16) syRun).setFlag (F.SYN_JUMP_STAT_PENDING (0 : Fin 16)) false).event (P.SYN (0 : Fin 16))
      E.SYN_STARTED) (0 : Fin 16) ((((((((ss.setSyn (0 : Fin 16) { Syn.init with time := (4000) }).setReg64 (R.SYN_ACC_LO (0
      : Fin 16)) (R.SYN_ACC_HI (0 : Fin 16)) 0).setReg64 (R.SYN_SAMPLES_LO (0 : Fin 16)) (R.SYN_SAMPLES_HI (0 : Fin 16))
      0).synCommit (0 : Fin 16)).setSynState (0 : Fin 16) syRun).setFlag (F.SYN_JUMP_STAT_PENDING (0 : Fin 16)) false).event
      (P.SYN (0 : Fin 16)) E.SYN_STARTED).fld (F.SYN_CFG_FIRST_SEG (0 : Fin 16)))).synState (0 : Fin 16) = syRun) ∧
    (∃ ss : State, ss.synState (0 : Fin 16) = syArmed ∧ ss.synStartAt (0 : Fin 16) = some (4000) ∧ (State.enterChain 256
      (((((((ss.setSyn (0 : Fin 16) { Syn.init with time := (4000) }).setReg64 (R.SYN_ACC_LO (0 : Fin 16)) (R.SYN_ACC_HI (0
      : Fin 16)) 0).setReg64 (R.SYN_SAMPLES_LO (0 : Fin 16)) (R.SYN_SAMPLES_HI (0 : Fin 16)) 0).synCommit (0 : Fin
      16)).setSynState (0 : Fin 16) syRun).setFlag (F.SYN_JUMP_STAT_PENDING (0 : Fin 16)) false).event (P.SYN (0 : Fin 16))
      E.SYN_STARTED) (0 : Fin 16) ((((((((ss.setSyn (0 : Fin 16) { Syn.init with time := (4000) }).setReg64 (R.SYN_ACC_LO (0
      : Fin 16)) (R.SYN_ACC_HI (0 : Fin 16)) 0).setReg64 (R.SYN_SAMPLES_LO (0 : Fin 16)) (R.SYN_SAMPLES_HI (0 : Fin 16))
      0).synCommit (0 : Fin 16)).setSynState (0 : Fin 16) syRun).setFlag (F.SYN_JUMP_STAT_PENDING (0 : Fin 16)) false).event
      (P.SYN (0 : Fin 16)) E.SYN_STARTED).fld (F.SYN_CFG_FIRST_SEG (0 : Fin 16)))).synState (0 : Fin 16) ≠ syRun) :=
  ⟨⟨((w0.setFlag (F.SYN_CTRL_EN (0 : Fin 16)) true).setFld (F.SYN_STAT_STATE (0 : Fin 16)) syIdle), by decide +kernel⟩,
   ⟨((w0.setFlag (F.SYN_CTRL_EN (0 : Fin 16)) true).setFld (F.SYN_STAT_STATE (0 : Fin 16)) syRun), by decide +kernel⟩,
   ⟨((w0.setFlag (F.SYN_CTRL_EN (0 : Fin 16)) true).setFld (F.SYN_STAT_STATE (0 : Fin 16)) syRun), by decide +kernel⟩,
   ⟨((w0.setFlag (F.SYN_CTRL_EN (0 : Fin 16)) true).setFld (F.SYN_STAT_STATE (0 : Fin 16)) ((syRun) + 1)),
     by decide +kernel⟩,
   ⟨(w0.setFlag (F.SYN_CTRL_EN (0 : Fin 16)) false), by decide +kernel⟩,
   ⟨(w0.setFld (F.SYN_STAT_STATE (0 : Fin 16)) ((syRun) + 1)), by decide +kernel⟩,
   ⟨((w0.setFld (F.SYN_STAT_STATE (0 : Fin 16)) syRun).setFlag (F.SYN_JUMP_STAT_PENDING (0 : Fin 16)) false),
     by decide +kernel⟩,
   ⟨((w0.setFld (F.SYN_STAT_STATE (0 : Fin 16)) syRun).setFlag (F.SYN_JUMP_STAT_PENDING (0 : Fin 16)) true),
     by decide +kernel⟩,
   ⟨((w0.setFld (F.SYN_STAT_STATE (0 : Fin 16)) ((syRun) + 1)).setFld (F.SYN_STAT_STATE (0 : Fin 16)) ((syStopping) + 1)),
     by decide +kernel⟩,
   ⟨w0.setFld (F.SYN_STAT_STATE 0) syRun, by decide +kernel⟩,
   ⟨(w0.setFld (F.SYN_STAT_STATE (0 : Fin 16)) syRun), by decide +kernel⟩,
   ⟨(((w0.setFld (F.SYN_STAT_STATE 0) syRun).setFld (F.SYN_CFG_OUT 0) 1).setFlag (F.SYN_PIN_EN_A 0) true).setSyn 0 {
     Syn.init with acc := 2 ^ 47 - 1, ftw := 1 }, by decide +kernel⟩,
   ⟨(w0.setFld (F.SYN_STAT_STATE (0 : Fin 16)) ((syArmed) + 1)), by decide +kernel⟩,
   ⟨({ (w0.setFld (F.SYN_STAT_STATE 0) syArmed).setSyn 0 { Syn.init with go := some 4000 } with tabAct := [(0x1918008, 5)] }
     : State), by decide +kernel⟩,
   ⟨((w0.setFld (F.SYN_STAT_STATE 0) syArmed).setSyn 0 { Syn.init with go := some 4000 }), by decide +kernel⟩⟩

theorem wit_HartExecution :
    (∃ ss : State, (ss.runs (0 : Fin 8) = false ∨ ((ss.hart (0 : Fin 8)).wfi = true ∧ ss.wakes (0 : Fin 8) = false))) ∧
    (∃ ss : State, ss.runs 7 = true ∧ ((ss.hart 7).wfi = false ∨ ss.wakes 7 = true) ∧ wEnv.victims = [] ∧ wEnv.chk = .clean
      ∧ ((ss.setHart 7 { ss.hart 7 with wfi := false }).hartFetch 7 false .clean).1 = none) ∧
    (∃ ss : State, ss.runs 7 = true ∧ ((ss.hart 7).wfi = false ∨ ss.wakes 7 = true) ∧ wEnv.victims = [] ∧ wEnv.chk = .clean
      ∧ ((ss.setHart 7 { ss.hart 7 with wfi := false }).hartFetch 7 false .clean).1.any (fun v => (decodeRv false v).isSome)
      = true) ∧
    (∃ ss : State, ss.runs 7 = true ∧ ((ss.hart 7).wfi = false ∨ ss.wakes 7 = true) ∧ wEnv.victims = [] ∧ wEnv.chk = .clean
      ∧ ((ss.setHart 7 { ss.hart 7 with wfi := false }).hartFetch 7 false .clean).1.any (fun v => (decodeRv false v).isNone)
      = true) ∧
    (∃ ss : State, (31 : Fin 32) ≠ 0 ∧ ss.standing 7 = true) ∧
    (∃ ss : State, branchTaken 0 (ss.xr 7 31) (ss.xr 7 31) = true ∧ ss.standing 7 = true) ∧
    (∃ ss : State, (ss.hart (0 : Fin 8)).machine = false) ∧
    (∃ ss : State, ((ss.hartLoad 7 .clean 3 (ss.dataAddr 7 0 0)).1.toOption).isNone = true) ∧
    (∃ ss : State, ss.runs 7 = true ∧ ((ss.hart 7).wfi = false ∨ ss.wakes 7 = true) ∧ (((ss.setHart 7 { ss.hart 7
      with wfi := false }).hartLoad 7 .clean 3 (0x40000000 + 0)).1.toOption).isSome = true) ∧
    (∃ ss : State, ss.runs 7 = true ∧ ((ss.hart 7).wfi = false ∨ ss.wakes 7 = true) ∧ (((ss.setHart 7 { ss.hart 7
      with wfi := false }).hartLoad 7 .clean 3 (0x40000000 + 0x3FFFFFF)).1.toOption).isNone = true) ∧
    (∃ ss : State, ss.runs 7 = true ∧ ((ss.hart 7).wfi = false ∨ ss.wakes 7 = true) ∧ ((ss.setHart 7 { ss.hart 7
      with wfi := false }).hartStore 7 .clean 3 0x40000000 0).1 = none) ∧
    (∃ ss : State, ss.runs 7 = true ∧ ((ss.hart 7).wfi = false ∨ ss.wakes 7 = true) ∧ ((ss.setHart 7 { ss.hart 7
      with wfi := false }).hartStore 7 .clean 3 0x43FFFFFF 0).1.isSome = true) ∧
    (∃ ss : State, ss.runs (0 : Fin 8) = true ∧ ((ss.hart (0 : Fin 8)).wfi = false ∨ ss.wakes (0 : Fin 8) = true) ∧
      (ss.setHart (0 : Fin 8) { ss.hart (0 : Fin 8) with wfi := false }).standing (0 : Fin 8) = true) ∧
    (∃ ss : State, ss.runs 7 = true ∧ ((ss.hart 7).wfi = false ∨ ss.wakes 7 = true) ∧ ((ss.setHart 7 { ss.hart 7
      with wfi := false }).hart 7).machine = true ∧ ((ss.setHart 7 { ss.hart 7 with wfi := false }).hartCbo 7 .clean
      ((ss.setHart 7 { ss.hart 7 with wfi := false }).xr 7 31).toNat).1 = none) ∧
    (∃ ss : State, ss.runs 7 = true ∧ ((ss.hart 7).wfi = false ∨ ss.wakes 7 = true) ∧ ((ss.setHart 7 { ss.hart 7
      with wfi := false }).hart 7).machine = true ∧ ((ss.setHart 7 { ss.hart 7 with wfi := false }).hartCbo 7 .flush
      ((ss.setHart 7 { ss.hart 7 with wfi := false }).xr 7 31).toNat).1 = none) ∧
    (∃ ss : State, ss.runs 7 = true ∧ ((ss.hart 7).wfi = false ∨ ss.wakes 7 = true) ∧ ((ss.setHart 7 { ss.hart 7
      with wfi := false }).hart 7).machine = true ∧ (((ss.setHart 7 { ss.hart 7 with wfi := false }).hartCbo 7 .clean
      ((ss.setHart 7 { ss.hart 7 with wfi := false }).xr 7 31).toNat).1).isSome = true) ∧
    (∃ ss : State, ss.runs 7 = true ∧ ((ss.hart 7).wfi = false ∨ ss.wakes 7 = true) ∧ ((ss.setHart 7 { ss.hart 7
      with wfi := false }).hart 7).machine = true ∧ ((ss.setHart 7 { ss.hart 7 with wfi := false }).hartCbo 7 .inval
      ((ss.setHart 7 { ss.hart 7 with wfi := false }).xr 7 31).toNat).1 = none) ∧
    (∃ ss : State, ss.runs 7 = true ∧ ((ss.hart 7).wfi = false ∨ ss.wakes 7 = true) ∧ ((ss.setHart 7 { ss.hart 7
      with wfi := false }).hart 7).machine = false ∧ ((ss.setHart 7 { ss.hart 7 with wfi := false }).hart 7).menvcfg = 0) ∧
    (∃ ss : State, ss.runs (0 : Fin 8) = true ∧ (ss.hart (0 : Fin 8)).nmi = true) ∧
    (∃ ss : State, ss.runs (0 : Fin 8) = true ∧ (ss.hart (0 : Fin 8)).nmi = false) ∧
    (∃ ss : State, ss.runs 7 = true ∧ (ss.nextInterrupt 7).isSome = true ∧ bitsOf (ss.hart 7).mtvec.toNat 1 0 = 0) ∧
    (∃ ss : State, ss.runs (0 : Fin 8) = true ∧ ss.nextInterrupt (0 : Fin 8) = none) ∧
    (∃ ss : State, ss.runs (0 : Fin 8) = false) ∧
    (∃ ss : State, ss.runs 8 = false) ∧
    (∃ ss : State, ss.runs 8 = true ∧ (ss.hart 8).wfi = false ∧ ((ss.setHart 8 { ss.hart 8 with wfi := false }).mgmtFetch
      .clean).1 = none) ∧
    (∃ ss : State, ss.runs 8 = true ∧ (ss.hart 8).wfi = false ∧ ((ss.setHart 8 { ss.hart 8 with wfi := false }).mgmtFetch
      .clean).1.isSome = true) ∧
    (∃ ss : State, ss.runs 8 = true ∧ (ss.hart 8).nmi = false ∧ ss.nextInterrupt 8 = none) ∧
    (∃ ss : State, ss.runs 8 = true ∧ (ss.hart 8).nmi = false ∧ (ss.nextInterrupt 8).isSome = true) :=
  ⟨⟨w0, by decide +kernel⟩,
   ⟨(w0.setFlag (F.xx_CTRL_ENABLE (P.HART 7)) true), by decide +kernel⟩,
   ⟨(((w0.setFlag (F.xx_CTRL_ENABLE (P.HART 7)) true)).setHart 7 { ((w0.setFlag (F.xx_CTRL_ENABLE (P.HART 7)) true)).hart 7
     with pc := 0x8000000000 }).setMemNat 0 4 0x00000013, by decide +kernel⟩,
   ⟨(((w0.setFlag (F.xx_CTRL_ENABLE (P.HART 7)) true)).setHart 7 { ((w0.setFlag (F.xx_CTRL_ENABLE (P.HART 7)) true)).hart 7
     with pc := 0x8000000000 }).setMemNat 0 4 0, by decide +kernel⟩,
   ⟨(w0.setFlag (F.xx_CTRL_ENABLE (P.HART 7)) true), by decide +kernel⟩,
   ⟨(w0.setFlag (F.xx_CTRL_ENABLE (P.HART 7)) true), by decide +kernel⟩,
   ⟨((w0).setHart (0 : Fin 8) { (w0).hart (0 : Fin 8) with machine := false }), by decide +kernel⟩,
   ⟨(w0.setFlag (F.xx_CTRL_ENABLE (P.HART 7)) true), by decide +kernel⟩,
   ⟨(w0.setFlag (F.xx_CTRL_ENABLE (P.HART 7)) true), by decide +kernel⟩,
   ⟨(w0.setFlag (F.xx_CTRL_ENABLE (P.HART 7)) true), by decide +kernel⟩,
   ⟨(w0.setFlag (F.xx_CTRL_ENABLE (P.HART 7)) true), by decide +kernel⟩,
   ⟨(w0.setFlag (F.xx_CTRL_ENABLE (P.HART 7)) true), by decide +kernel⟩,
   ⟨(((w0.setFlag (F.xx_CTRL_ENABLE (P.HART (0 : Fin 8))) true)).setHart (0 : Fin 8) { ((w0.setFlag (F.xx_CTRL_ENABLE
     (P.HART (0 : Fin 8))) true)).hart (0 : Fin 8) with wfi := false }), by decide +kernel⟩,
   ⟨((w0.setFlag (F.xx_CTRL_ENABLE (P.HART 7)) true)).setHart 7 { ((w0.setFlag (F.xx_CTRL_ENABLE (P.HART 7)) true)).hart 7
     with x := [(31, 0x8000000000)] }, by decide +kernel⟩,
   ⟨((w0.setFlag (F.xx_CTRL_ENABLE (P.HART 7)) true)).setHart 7 { ((w0.setFlag (F.xx_CTRL_ENABLE (P.HART 7)) true)).hart 7
     with x := [(31, 0x8000000000)] }, by decide +kernel⟩,
   ⟨(w0.setFlag (F.xx_CTRL_ENABLE (P.HART 7)) true), by decide +kernel⟩,
   ⟨((w0.setFlag (F.xx_CTRL_ENABLE (P.HART 7)) true)).setHart 7 { ((w0.setFlag (F.xx_CTRL_ENABLE (P.HART 7)) true)).hart 7
     with x := [(31, 0x8000000000)] }, by decide +kernel⟩,
   ⟨((w0.setFlag (F.xx_CTRL_ENABLE (P.HART 7)) true)).setHart 7 { ((w0.setFlag (F.xx_CTRL_ENABLE (P.HART 7)) true)).hart 7
     with machine := false }, by decide +kernel⟩,
   ⟨(((w0.setFlag (F.xx_CTRL_ENABLE (P.HART (0 : Fin 8))) true)).setHart (0 : Fin 8) { ((w0.setFlag (F.xx_CTRL_ENABLE
     (P.HART (0 : Fin 8))) true)).hart (0 : Fin 8) with nmi := true }), by decide +kernel⟩,
   ⟨(((w0.setFlag (F.xx_CTRL_ENABLE (P.HART (0 : Fin 8))) true)).setHart (0 : Fin 8) { ((w0.setFlag (F.xx_CTRL_ENABLE
     (P.HART (0 : Fin 8))) true)).hart (0 : Fin 8) with nmi := false }), by decide +kernel⟩,
   ⟨(((w0.setFlag (F.xx_CTRL_ENABLE (P.HART 7)) true)).setHart 7 { ((w0.setFlag (F.xx_CTRL_ENABLE (P.HART 7)) true)).hart 7
     with mie := 8, mstatus := 8 }).setFlag (F.HART_MSIP_MSIP 7) true, by decide +kernel⟩,
   ⟨(w0.setFlag (F.xx_CTRL_ENABLE (P.HART (0 : Fin 8))) true), by decide +kernel⟩,
   ⟨w0, by decide +kernel⟩,
   ⟨w0, by decide +kernel⟩,
   ⟨(({ w0 with dev.booted := true } : State)).setHart 8 { (({ w0 with dev.booted := true } : State)).hart 8
     with pc := 0xFFFFFFFE }, by decide +kernel⟩,
   ⟨(({ w0 with dev.booted := true } : State)).setHart 8 { (({ w0 with dev.booted := true } : State)).hart 8
     with pc := 0x10000000 }, by decide +kernel⟩,
   ⟨((({ w0 with dev.booted := true } : State)).setHart 8 { (({ w0 with dev.booted := true } : State)).hart 8
     with nmi := false }), by decide +kernel⟩,
   ⟨(({ (({ w0 with dev.booted := true } : State)).setHart 8 { (({ w0 with dev.booted := true } : State)).hart 8
     with mie := 0x800, mstatus := 8 } with hic.cfg := [(511, 0x80F)] } : State).setBit (R.HIC_EN 15) 31 true).setBit
     (R.HIC_PEND 15) 31 true, by decide +kernel⟩⟩

theorem wit_FabricTraining :
    (∃ ss : State, ss.lanesLive (0 : Fin 6) = false) ∧
    (∃ ss : State, ss.lanesLive (5 : Fin 6) = true ∧ ss.fpState (5 : Fin 6) = fpDown) ∧
    (∃ ss : State, ss.lanesLive (5 : Fin 6) = true ∧ ss.fpState (5 : Fin 6) ≠ fpDown) ∧
    (∃ ss : State, ss.lanesLive (5 : Fin 6) = true ∧ ss.fpState (5 : Fin 6) ≠ fpAlign) ∧
    (∃ ss : State, ss.lanesLive (5 : Fin 6) = true ∧ ss.fpState (5 : Fin 6) = fpAlign) ∧
    (∃ ss : State, ss.lanesLive (5 : Fin 6) = true ∧ ss.fpState (5 : Fin 6) = fpAlign ∧ (usedLanes ((ss.alignSeen (5 : Fin
      6) (3 : Fin 4) (3 : Fin 4)).fld (F.FP_CFG_LANES_EN (5 : Fin 6)) &&& ((ss.alignSeen (5 : Fin 6) (3 : Fin 4) (3 : Fin
      4)).fport (5 : Fin 6)).locked &&& (0xF : BitVec 4).toNat &&& (15 - ((ss.alignSeen (5 : Fin 6) (3 : Fin 4) (3 : Fin
      4)).fport (5 : Fin 6)).avoid))) ≠ 0) ∧
    (∃ ss : State, ss.lanesLive (5 : Fin 6) = true ∧ ss.fpState (5 : Fin 6) = fpEq ∧ (ss.fport (5 : Fin 6)).eqRx.testBit (3
      : Fin 4) = true) ∧
    (∃ ss : State, ss.lanesLive (5 : Fin 6) = true ∧ ss.fpState (5 : Fin 6) = fpEq ∧ (ss.fport (5 : Fin 6)).eqRx.testBit (3
      : Fin 4) = false ∧ ss.flag (F.FP_EQ_CFG_FIXED (5 : Fin 6)) = false ∧ sget 0 (ss.fport (5 : Fin 6)).eqSent (3 : Fin 4)
      < 64) ∧
    (∃ ss : State, ss.linkUp (0 : Fin 6) = false) ∧
    (∃ ss : State, ss.linkUp (0 : Fin 6) = true ∧ (ss.fport (0 : Fin 6)).rxIdle = true) ∧
    (∃ ss : State, ss.wordsFlow (0 : Fin 6) = false) ∧
    (∃ ss : State, ss.wordsFlow (0 : Fin 6) = true ∧ sget none ss.time.exch (0 : Fin 6) = none) ∧
    (∃ ss : State, ss.wordsFlow 5 = true ∧ sget none ss.time.exch 5 = some ⟨0, 7, none⟩ ∧ (ss.fport 5).tsx = (3 :
      Byte).toNat) ∧
    (∃ ss : State, (ss.fpState (0 : Fin 6) = fpAlign ∨ ss.fpState (0 : Fin 6) = fpEq ∨ ss.fpState (0 : Fin 6) = fpConfig)) ∧
    (∃ ss : State, (ss.fport (0 : Fin 6)).failed = true) ∧
    (∃ ss : State, ss.admits Agent.mgmt .fp (P.FP (0 : Fin 6)) = true ∧ (ss.fpState (0 : Fin 6) = fpDisabled ∨ ss.fpState (0
      : Fin 6) = fpLoopback)) ∧
    (∃ ss : State, ss.admits Agent.mgmt .fp (P.FP (0 : Fin 6)) = true ∧ ss.fpState (0 : Fin 6) ≠ fpDisabled ∧ ss.fpState (0
      : Fin 6) ≠ fpLoopback) ∧
    (∃ ss : State, (ss.fpState (5 : Fin 6) = fpActive ∨ ss.fpState (5 : Fin 6) = fpConfig) ∧ ss.lanesLive (5 : Fin 6) =
      true) ∧
    (∃ ss : State, ss.fpState (0 : Fin 6) ≠ fpActive) ∧
    (∃ ss : State, ss.fpState (0 : Fin 6) = fpActive ∧ ss.fld (F.FP_CFG_IDLE_US (0 : Fin 6)) ≠ 0 ∧ (ss.fport (0 : Fin
      6)).queue = [] ∧ (ss.fport (0 : Fin 6)).detq = [] ∧ ss.fab.groups = []) ∧
    (∃ ss : State, (ss.linkUp (0 : Fin 6) = false ∨ (ss.fport (0 : Fin 6)).exiting = false)) ∧
    (∃ ss : State, ss.linkUp (0 : Fin 6) = true ∧ (ss.fport (0 : Fin 6)).exiting = true) ∧
    (∃ ss : State, ss.admits Agent.mgmt .fp (P.FP (0 : Fin 6)) = true ∧ (1 : BitVec 32).toNat % 4 ≠ 0 ∧ ss.flag
      (F.FP_CFG_OFFLINE (0 : Fin 6)) = false) ∧
    (∃ ss : State, ss.admits Agent.mgmt .fp (P.FP (0 : Fin 6)) = true ∧ ((1 : BitVec 32).toNat % 4 = 1 ∨ (1 : BitVec
      32).toNat % 4 = 2) ∧ ss.flag (F.FP_CFG_OFFLINE (0 : Fin 6)) = true) ∧
    (∃ ss : State, (ss.fport (0 : Fin 6)).lbk = true) ∧
    (∃ ss : State, (ss.fport (0 : Fin 6)).lbk = false ∧ ss.linkUp (0 : Fin 6) = true ∧ ss.flag (F.FP_CFG_FE_LB_OK (0 : Fin
      6)) = true) :=
  ⟨⟨w0, by decide +kernel⟩,
   ⟨((w0.setFlag F.CLK_REF_SREF_OK true).setFld (F.FP_STAT_STATE 5) fpDown), by decide +kernel⟩,
   ⟨((w0.setFlag F.CLK_REF_SREF_OK true).setFld (F.FP_STAT_STATE 5) fpAlign), by decide +kernel⟩,
   ⟨((w0.setFlag F.CLK_REF_SREF_OK true).setFld (F.FP_STAT_STATE 5) fpDown), by decide +kernel⟩,
   ⟨((w0.setFlag F.CLK_REF_SREF_OK true).setFld (F.FP_STAT_STATE 5) fpAlign), by decide +kernel⟩,
   ⟨((((w0.setFlag F.CLK_REF_SREF_OK true).setFld (F.FP_STAT_STATE 5) fpAlign)).setFport 5 { (((w0.setFlag F.CLK_REF_SREF_OK
     true).setFld (F.FP_STAT_STATE 5) fpAlign)).fport 5
     with locks := [(0, 64), (1, 64), (2, 64), (3, 63)], map := [(0, 0), (1, 1), (2, 2), (3, 3)] }).setFld
     (F.FP_CFG_LANES_EN 5) 15, by decide +kernel⟩,
   ⟨(((w0.setFlag F.CLK_REF_SREF_OK true).setFld (F.FP_STAT_STATE 5) fpEq)).setFport 5 { (((w0.setFlag F.CLK_REF_SREF_OK
     true).setFld (F.FP_STAT_STATE 5) fpEq)).fport 5 with eqRx := 8 }, by decide +kernel⟩,
   ⟨((((w0.setFlag F.CLK_REF_SREF_OK true).setFld (F.FP_STAT_STATE 5) fpEq)).setFport 5 { (((w0.setFlag F.CLK_REF_SREF_OK
     true).setFld (F.FP_STAT_STATE 5) fpEq)).fport 5 with eqSent := [(3, 63)] }).setFlag (F.FP_EQ_CFG_FIXED 5) false,
     by decide +kernel⟩,
   ⟨(w0.setFld (F.FP_STAT_STATE (0 : Fin 6)) 0), by decide +kernel⟩,
   ⟨(((w0.setFld (F.FP_STAT_STATE (0 : Fin 6)) fpActive)).setFport (0 : Fin 6) { ((w0.setFld (F.FP_STAT_STATE (0 : Fin 6))
     fpActive)).fport (0 : Fin 6) with rxIdle := true }), by decide +kernel⟩,
   ⟨(w0.setFld (F.FP_STAT_STATE (0 : Fin 6)) 0), by decide +kernel⟩,
   ⟨(w0.setFld (F.FP_STAT_STATE (0 : Fin 6)) fpActive), by decide +kernel⟩,
   ⟨({ ((((w0.setFlag F.CLK_REF_SREF_OK true).setFld (F.FP_STAT_STATE 5) fpConfig)).setFport 5 { (((w0.setFlag
     F.CLK_REF_SREF_OK true).setFld (F.FP_STAT_STATE 5) fpConfig)).fport 5 with tsx := 3 })
     with time.exch := [(5, some ⟨0, 7, none⟩)] } : State), by decide +kernel⟩,
   ⟨(w0.setFld (F.FP_STAT_STATE (0 : Fin 6)) fpAlign), by decide +kernel⟩,
   ⟨((w0).setFport (0 : Fin 6) { (w0).fport (0 : Fin 6) with failed := true }), by decide +kernel⟩,
   ⟨(w0.setFld (F.FP_STAT_STATE (0 : Fin 6)) fpDisabled), by decide +kernel⟩,
   ⟨((w0.setFld (F.FP_STAT_STATE (0 : Fin 6)) ((fpDisabled) + 1)).setFld (F.FP_STAT_STATE (0 : Fin 6)) ((fpLoopback) + 1)),
     by decide +kernel⟩,
   ⟨((w0.setFlag F.CLK_REF_SREF_OK true).setFld (F.FP_STAT_STATE 5) fpConfig), by decide +kernel⟩,
   ⟨(w0.setFld (F.FP_STAT_STATE (0 : Fin 6)) ((fpActive) + 1)), by decide +kernel⟩,
   ⟨({ ((((((w0.setFld (F.FP_STAT_STATE (0 : Fin 6)) fpActive).setFld (F.FP_CFG_IDLE_US (0 : Fin 6)) 1)).setFport (0 : Fin
     6) { (((w0.setFld (F.FP_STAT_STATE (0 : Fin 6)) fpActive).setFld (F.FP_CFG_IDLE_US (0 : Fin 6)) 1)).fport (0 : Fin 6)
     with queue := [] })).setFport (0 : Fin 6) { (((((w0.setFld (F.FP_STAT_STATE (0 : Fin 6)) fpActive).setFld
     (F.FP_CFG_IDLE_US (0 : Fin 6)) 1)).setFport (0 : Fin 6) { (((w0.setFld (F.FP_STAT_STATE (0 : Fin 6)) fpActive).setFld
     (F.FP_CFG_IDLE_US (0 : Fin 6)) 1)).fport (0 : Fin 6) with queue := [] })).fport (0 : Fin 6) with detq := [] })
     with fab.groups := [] } : State), by decide +kernel⟩,
   ⟨(w0.setFld (F.FP_STAT_STATE (0 : Fin 6)) 0), by decide +kernel⟩,
   ⟨(((w0.setFld (F.FP_STAT_STATE (0 : Fin 6)) fpActive)).setFport (0 : Fin 6) { ((w0.setFld (F.FP_STAT_STATE (0 : Fin 6))
     fpActive)).fport (0 : Fin 6) with exiting := true }), by decide +kernel⟩,
   ⟨(w0.setFlag (F.FP_CFG_OFFLINE (0 : Fin 6)) false), by decide +kernel⟩,
   ⟨(w0.setFlag (F.FP_CFG_OFFLINE (0 : Fin 6)) true), by decide +kernel⟩,
   ⟨((w0).setFport (0 : Fin 6) { (w0).fport (0 : Fin 6) with lbk := true }), by decide +kernel⟩,
   ⟨((((w0).setFport (0 : Fin 6) { (w0).fport (0 : Fin 6) with lbk := false }).setFld (F.FP_STAT_STATE (0 : Fin 6))
     fpActive).setFlag (F.FP_CFG_FE_LB_OK (0 : Fin 6)) true), by decide +kernel⟩⟩

theorem wit_FabricLinkLayer :
    (∃ ss : State, ss.wordsFlow (0 : Fin 6) = false) ∧
    (∃ ss : State, ss.wordsFlow (0 : Fin 6) = true ∧ ((∀ x ∈ (ss.fport (0 : Fin 6)).replay, x.1 = (0 : BitVec 12).toNat →
      x.2.1 = false))) ∧
    (∃ ss : State, ss.wordsFlow (5 : Fin 6) = true ∧ (∃ x ∈ (ss.fport (5 : Fin 6)).replay, x.1 = (4095 : BitVec 12).toNat ∧
      x.2.1 = true)) ∧
    (∃ ss : State, ss.wordsFlow (0 : Fin 6) = true ∧ (ss.fport (0 : Fin 6)).replay = []) ∧
    (∃ ss : State, ss.wordsFlow 5 = true ∧ ((ss.fport 5).replay.head?.any (fun x => x.2.1)) = true) ∧
    (∃ ss : State, ss.wordsFlow (0 : Fin 6) = true ∧ (ss.fport (0 : Fin 6)).off = false ∧ (ss.fport (0 : Fin 6)).naked =
      true ∧ (1 : BitVec 12).toNat ≠ (ss.fport (0 : Fin 6)).expect) ∧
    (∃ ss : State, ss.wordsFlow (0 : Fin 6) = true ∧ (ss.fport (0 : Fin 6)).off = false ∧ (ss.fport (0 : Fin 6)).tries = 0 ∧
      (0 : BitVec 12).toNat = (ss.fport (0 : Fin 6)).expect) ∧
    (∃ ss : State, ss.wordsFlow (0 : Fin 6) = true ∧ (ss.fport (0 : Fin 6)).off = false ∧ (ss.fport (0 : Fin 6)).tries ≠ 0 ∧
      (0 : BitVec 12).toNat = (ss.fport (0 : Fin 6)).expect) ∧
    (∃ ss : State, (ss.fld (F.FP_STAT_REV (0 : Fin 6)) = 0 ∨ ss.width (0 : Fin 6) ≤ 1 ∨ (0) ≠ (0))) :=
  ⟨⟨(w0.setFld (F.FP_STAT_STATE (0 : Fin 6)) 0), by decide +kernel⟩,
   ⟨(w0.setFld (F.FP_STAT_STATE (0 : Fin 6)) fpActive), by decide +kernel⟩,
   ⟨(((w0.setFlag F.CLK_REF_SREF_OK true).setFld (F.FP_STAT_STATE 5) fpActive)).setFport 5 { (((w0.setFlag F.CLK_REF_SREF_OK
     true).setFld (F.FP_STAT_STATE 5) fpActive)).fport 5 with replay := [(4095, true, ⟨wPkt, .tsync 0 0⟩)] },
     by decide +kernel⟩,
   ⟨(((w0.setFld (F.FP_STAT_STATE (0 : Fin 6)) fpActive)).setFport (0 : Fin 6) { ((w0.setFld (F.FP_STAT_STATE (0 : Fin 6))
     fpActive)).fport (0 : Fin 6) with replay := [] }), by decide +kernel⟩,
   ⟨(((w0.setFlag F.CLK_REF_SREF_OK true).setFld (F.FP_STAT_STATE 5) fpActive)).setFport 5 { (((w0.setFlag F.CLK_REF_SREF_OK
     true).setFld (F.FP_STAT_STATE 5) fpActive)).fport 5 with replay := [(4095, true, ⟨wPkt, .tsync 0 0⟩)] },
     by decide +kernel⟩,
   ⟨(((((w0.setFld (F.FP_STAT_STATE (0 : Fin 6)) fpActive)).setFport (0 : Fin 6) { ((w0.setFld (F.FP_STAT_STATE (0 : Fin 6))
     fpActive)).fport (0 : Fin 6) with off := false })).setFport (0 : Fin 6) { ((((w0.setFld (F.FP_STAT_STATE (0 : Fin 6))
     fpActive)).setFport (0 : Fin 6) { ((w0.setFld (F.FP_STAT_STATE (0 : Fin 6)) fpActive)).fport (0 : Fin 6)
     with off := false })).fport (0 : Fin 6) with naked := true }), by decide +kernel⟩,
   ⟨(((((w0.setFld (F.FP_STAT_STATE (0 : Fin 6)) fpActive)).setFport (0 : Fin 6) { ((w0.setFld (F.FP_STAT_STATE (0 : Fin 6))
     fpActive)).fport (0 : Fin 6) with off := false })).setFport (0 : Fin 6) { ((((w0.setFld (F.FP_STAT_STATE (0 : Fin 6))
     fpActive)).setFport (0 : Fin 6) { ((w0.setFld (F.FP_STAT_STATE (0 : Fin 6)) fpActive)).fport (0 : Fin 6)
     with off := false })).fport (0 : Fin 6) with tries := 0 }), by decide +kernel⟩,
   ⟨(((((w0.setFld (F.FP_STAT_STATE (0 : Fin 6)) fpActive)).setFport (0 : Fin 6) { ((w0.setFld (F.FP_STAT_STATE (0 : Fin 6))
     fpActive)).fport (0 : Fin 6) with off := false })).setFport (0 : Fin 6) { ((((w0.setFld (F.FP_STAT_STATE (0 : Fin 6))
     fpActive)).setFport (0 : Fin 6) { ((w0.setFld (F.FP_STAT_STATE (0 : Fin 6)) fpActive)).fport (0 : Fin 6)
     with off := false })).fport (0 : Fin 6) with tries := 1 }), by decide +kernel⟩,
   ⟨(w0.setFld (F.FP_STAT_REV (0 : Fin 6)) 0), by decide +kernel⟩⟩

theorem wit_FabricPackets :
    (∃ ss : State, ss.receives 5 4095 = true ∧ (((ss.accepted 5 4095 false).setFport 5 { (ss.accepted 5 4095 false).fport 5
      with vec := [], declRoot := false, declTree := false }).fabUpdate).treeLink 5 = (ss.accepted 5 4095 false).treeLink 5)
      ∧
    (∃ ss : State, ss.receives 5 4095 = true ∧ (((ss.accepted 5 4095 false).setFport 5 { (ss.accepted 5 4095 false).fport 5
      with vec := [], declRoot := true, declTree := true }).fabUpdate).treeLink 5 ≠ (ss.accepted 5 4095 false).treeLink 5) ∧
    (∃ ss : State, ss.receives 5 4095 = true ∧ sget none (ss.accepted 5 4095 false).time.exch 5 = none) ∧
    (∃ ss : State, ss.receives 5 4095 = true ∧ sget none (ss.accepted 5 4095 false).time.exch 5 = some ⟨0, 7, some 9⟩) ∧
    (∃ ss : State, ss.receives 5 4095 = true ∧ (ss.accepted 5 4095 false).fab.rootPort = some 0) ∧
    (∃ ss : State, ss.receives 5 4095 = true ∧ (⟨false, 1023, 31, 7⟩ : PktHead).mc = false ∧ (ss.accepted 5 4095
      false).hasAddr = true ∧ (⟨false, 1023, 31, 7⟩ : PktHead).dst.toNat = (ss.accepted 5 4095 false).fabAddr) ∧
    (∃ ss : State, ss.receives 5 4095 = true ∧ (⟨false, 1023, 31, 7⟩ : PktHead).mc = false ∧ (ss.accepted 5 4095
      false).hasAddr = true ∧ (⟨false, 1023, 31, 7⟩ : PktHead).dst.toNat = (ss.accepted 5 4095 false).fabAddr ∧ (ss.accepted
      5 4095 false).fab.rm = none) ∧
    (∃ ss : State, ss.receives 5 4095 = true ∧ (⟨false, 1023, 31, 7⟩ : PktHead).mc = false ∧ (ss.accepted 5 4095
      false).hasAddr = true ∧ (⟨false, 1023, 31, 7⟩ : PktHead).dst.toNat = (ss.accepted 5 4095 false).fabAddr ∧ (ss.accepted
      5 4095 false).fab.rm.any (fun o => o.tag == (255 : Byte).toNat && o.dst == (⟨false, 1023, 31, 7⟩ : PktHead).src.toNat
      && o.write) = true) ∧
    (∃ ss : State, ss.receives 5 4095 = true ∧ (⟨false, 1023, 31, 7⟩ : PktHead).mc = false ∧ (ss.accepted 5 4095
      false).hasAddr = true ∧ (⟨false, 1023, 31, 7⟩ : PktHead).dst.toNat = (ss.accepted 5 4095 false).fabAddr ∧ (ss.accepted
      5 4095 false).fab.rm.any (fun o => o.dst == (7 : BitVec 10).toNat) = true) ∧
    (∃ ss : State, ss.receives 5 4095 = true ∧ (⟨false, 1023, 31, 7⟩ : PktHead).mc = false ∧ (ss.accepted 5 4095
      false).hasAddr = true ∧ wPkt.dst.toNat ≠ (ss.accepted 5 4095 false).fabAddr) ∧
    (∃ ss : State, ss.receives (0 : Fin 6) (0 : BitVec 12).toNat = true ∧ wPkt.mc = false ∧ (ss.accepted (0 : Fin 6) (0 :
      BitVec 12).toNat false).hasAddr = false) ∧
    (∃ ss : State, ss.receives 5 4095 = true ∧ (⟨false, 1023, 31, 7⟩ : PktHead).mc = false ∧ (ss.accepted 5 4095
      true).hasAddr = true ∧ (⟨false, 1023, 31, 7⟩ : PktHead).dst.toNat = (ss.accepted 5 4095 true).fabAddr ∧ (ss.accepted 5
      4095 true).pager.fetches = []) ∧
    (∃ ss : State, ss.receives 5 4095 = true ∧ (⟨false, 1023, 31, 7⟩ : PktHead).mc = false ∧ (ss.accepted 5 4095
      true).hasAddr = true ∧ (⟨false, 1023, 31, 7⟩ : PktHead).dst.toNat = (ss.accepted 5 4095 true).fabAddr ∧ (ss.accepted 5
      4095 true).pager.fetches = [(0, some 5, false)] ∧ (ss.accepted 5 4095 true).pageFrom 0 7 3 = true) ∧
    (∃ ss : State, ss.wordsFlow (0 : Fin 6) = true ∧ (ss.fport (0 : Fin 6)).off = false ∧ ss.bit (R.xx_FLT_INJ (P.FP (0 :
      Fin 6))) X.FP_LINK_FAIL = false ∧ ss.bit (R.xx_FLT_INJ (P.FP (0 : Fin 6))) X.FP_LINK_RETRY = false ∧ 2048 ≤ ((2048 :
      BitVec 12).toNat + 4096 - (ss.fport (0 : Fin 6)).expect) % 4096) ∧
    (∃ ss : State, ss.wordsFlow (0 : Fin 6) = false) ∧
    (∃ ss : State, ss.fab.active = []) ∧
    (∃ ss : State, ss.fab.active = (⟨0, false, 0, 0⟩ : Delivery) :: ([] : List Delivery) ∧ ss.pageState (⟨0, false, 0, 0⟩ :
      Delivery).spage ≠ pgHome) ∧
    (∃ ss : State, ss.fab.active = [⟨0, false, 7, 4094⟩] ∧ ss.pageState 0 = pgHome ∧ (ss.patAddr (0 * 2 ^ 21 + 4094 *
      512)).isSome = true ∧ 4094 < 4095) ∧
    (∃ ss : State, ss.fld F.FAB_STAT_NSTATE ≠ nsElect) ∧
    (∃ ss : State, ss.fld F.FAB_STAT_NSTATE = nsElect ∧ ss.fab.rootPort = none) ∧
    (∃ ss : State, ss.fab.collecting = false) ∧
    (∃ ss : State, ss.fab.collecting = true) :=
  ⟨⟨(((w0.setFlag F.CLK_REF_SREF_OK true).setFld (F.FP_STAT_STATE 5) fpActive)).setFport 5 { (((w0.setFlag F.CLK_REF_SREF_OK
    true).setFld (F.FP_STAT_STATE 5) fpActive)).fport 5 with expect := 4095 }, by decide +kernel⟩,
   ⟨(((w0.setFlag F.CLK_REF_SREF_OK true).setFld (F.FP_STAT_STATE 5) fpActive)).setFport 5 { (((w0.setFlag F.CLK_REF_SREF_OK
     true).setFld (F.FP_STAT_STATE 5) fpActive)).fport 5 with expect := 4095 }, by decide +kernel⟩,
   ⟨(((w0.setFlag F.CLK_REF_SREF_OK true).setFld (F.FP_STAT_STATE 5) fpActive)).setFport 5 { (((w0.setFlag F.CLK_REF_SREF_OK
     true).setFld (F.FP_STAT_STATE 5) fpActive)).fport 5 with expect := 4095 }, by decide +kernel⟩,
   ⟨({ ((((w0.setFlag F.CLK_REF_SREF_OK true).setFld (F.FP_STAT_STATE 5) fpActive)).setFport 5 { (((w0.setFlag
     F.CLK_REF_SREF_OK true).setFld (F.FP_STAT_STATE 5) fpActive)).fport 5 with expect := 4095 })
     with time.exch := [(5, some ⟨0, 7, some 9⟩)] } : State), by decide +kernel⟩,
   ⟨({ ((((w0.setFlag F.CLK_REF_SREF_OK true).setFld (F.FP_STAT_STATE 5) fpActive)).setFport 5 { (((w0.setFlag
     F.CLK_REF_SREF_OK true).setFld (F.FP_STAT_STATE 5) fpActive)).fport 5 with expect := 4095 })
     with fab.rootPort := some 0 } : State), by decide +kernel⟩,
   ⟨((((((w0.setFlag F.CLK_REF_SREF_OK true).setFld (F.FP_STAT_STATE 5) fpActive)).setFport 5 { (((w0.setFlag
     F.CLK_REF_SREF_OK true).setFld (F.FP_STAT_STATE 5) fpActive)).fport 5 with expect := 4095 }).setFlag F.FAB_ADDR_VALID
     true).setFld F.FAB_ADDR_ADDR 1023), by decide +kernel⟩,
   ⟨((((((w0.setFlag F.CLK_REF_SREF_OK true).setFld (F.FP_STAT_STATE 5) fpActive)).setFport 5 { (((w0.setFlag
     F.CLK_REF_SREF_OK true).setFld (F.FP_STAT_STATE 5) fpActive)).fport 5 with expect := 4095 }).setFlag F.FAB_ADDR_VALID
     true).setFld F.FAB_ADDR_ADDR 1023), by decide +kernel⟩,
   ⟨({ ((((((w0.setFlag F.CLK_REF_SREF_OK true).setFld (F.FP_STAT_STATE 5) fpActive)).setFport 5 { (((w0.setFlag
     F.CLK_REF_SREF_OK true).setFld (F.FP_STAT_STATE 5) fpActive)).fport 5 with expect := 4095 }).setFlag F.FAB_ADDR_VALID
     true).setFld F.FAB_ADDR_ADDR 1023) with fab.rm := some ⟨7, 255, 1, true⟩ } : State), by decide +kernel⟩,
   ⟨({ ((((((w0.setFlag F.CLK_REF_SREF_OK true).setFld (F.FP_STAT_STATE 5) fpActive)).setFport 5 { (((w0.setFlag
     F.CLK_REF_SREF_OK true).setFld (F.FP_STAT_STATE 5) fpActive)).fport 5 with expect := 4095 }).setFlag F.FAB_ADDR_VALID
     true).setFld F.FAB_ADDR_ADDR 1023) with fab.rm := some ⟨7, 255, 1, true⟩ } : State), by decide +kernel⟩,
   ⟨((((((w0.setFlag F.CLK_REF_SREF_OK true).setFld (F.FP_STAT_STATE 5) fpActive)).setFport 5 { (((w0.setFlag
     F.CLK_REF_SREF_OK true).setFld (F.FP_STAT_STATE 5) fpActive)).fport 5 with expect := 4095 }).setFlag F.FAB_ADDR_VALID
     true).setFld F.FAB_ADDR_ADDR 1023), by decide +kernel⟩,
   ⟨(w0.setFld (F.FP_STAT_STATE (0 : Fin 6)) fpActive), by decide +kernel⟩,
   ⟨((((((w0.setFlag F.CLK_REF_SREF_OK true).setFld (F.FP_STAT_STATE 5) fpActive)).setFport 5 { (((w0.setFlag
     F.CLK_REF_SREF_OK true).setFld (F.FP_STAT_STATE 5) fpActive)).fport 5 with expect := 4095 }).setFlag F.FAB_ADDR_VALID
     true).setFld F.FAB_ADDR_ADDR 1023), by decide +kernel⟩,
   ⟨(((((({ (wPg 0 (2 ^ 63 + 7 * 2 ^ 32 + 3) (2 ^ 62)) with pager.fetches := [(0, some 5, false)] } : State).setFlag
     F.CLK_REF_SREF_OK true).setFld (F.FP_STAT_STATE 5) fpActive).setFport 5 { FPort.init with expect := 4095 }).setFlag
     F.FAB_ADDR_VALID true).setFld F.FAB_ADDR_ADDR 1023), by decide +kernel⟩,
   ⟨(((((w0.setFld (F.FP_STAT_STATE (0 : Fin 6)) fpActive)).setFport (0 : Fin 6) { ((w0.setFld (F.FP_STAT_STATE (0 : Fin 6))
     fpActive)).fport (0 : Fin 6) with off := false }).setBit (R.xx_FLT_INJ (P.FP (0 : Fin 6))) X.FP_LINK_FAIL false).setBit
     (R.xx_FLT_INJ (P.FP (0 : Fin 6))) X.FP_LINK_RETRY false), by decide +kernel⟩,
   ⟨(w0.setFld (F.FP_STAT_STATE (0 : Fin 6)) 0), by decide +kernel⟩,
   ⟨({ w0 with fab.active := [] } : State), by decide +kernel⟩,
   ⟨({ w0 with fab.active := (⟨0, false, 0, 0⟩ : Delivery) :: ([] : List Delivery) } : State), by decide +kernel⟩,
   ⟨({ wPg 0 0 (2 ^ 63 + 5 * 2 ^ 32) with fab.active := [⟨0, false, 7, 4094⟩] } : State), by decide +kernel⟩,
   ⟨(w0.setFld F.FAB_STAT_NSTATE ((nsElect) + 1)), by decide +kernel⟩,
   ⟨({ (w0.setFld F.FAB_STAT_NSTATE nsElect) with fab.rootPort := none } : State), by decide +kernel⟩,
   ⟨({ w0 with fab.collecting := false } : State), by decide +kernel⟩,
   ⟨({ w0 with fab.collecting := true } : State), by decide +kernel⟩⟩

theorem wit_FabricMessages :
    (∃ ss : State, ss.admits Agent.mgmt .fab P.FAB = true ∧ ss.flag F.FAB_RM_STAT_BUSY = true) ∧
    (∃ ss : State, ss.admits Agent.mgmt .fab P.FAB = true ∧ ss.flag F.FAB_RM_STAT_BUSY = false ∧ (0 : BitVec 5).toNat ≤ 16)
      ∧
    (∃ ss : State, ss.admits Agent.mgmt .fab P.FAB = true ∧ ss.flag F.FAB_RM_STAT_BUSY = false ∧ 16 < (17 : BitVec 5).toNat)
      ∧
    (∃ ss : State, 0 < (1) ∧ ss.hasAddr = false) ∧
    (∃ ss : State, ss.fab.rm = none) ∧
    (∃ ss : State, ss.fab.rm.isSome = true) ∧
    (∃ ss : State, ss.admits Agent.mgmt .fab P.FAB = true ∧ ss.flag (F.FAB_SPAN_CFG_EN (0 : Fin 16)) = false ∧ ss.spanOk (0
      : Fin 16) ((0 : Word) ||| 0x80000000) = false) ∧
    (∃ ss : State, ss.admits Agent.mgmt .fab P.FAB = true ∧ ss.flag (F.FAB_SPAN_CFG_EN (15 : Fin 16)) = false ∧ ss.spanOk
      (15 : Fin 16) ((0x0002FF00 : Word) ||| 0x80000000) = true) ∧
    (∃ ss : State, ss.admits Agent.mgmt .fab P.FAB = true ∧ (ss.flag (F.FAB_SPAN_CFG_LEADER (0 : Fin 16)) = false ∨ ss.flag
      (F.FAB_SPAN_CFG_EN (0 : Fin 16)) = false ∨ ss.spanHasArmed (0 : Fin 16) = false)) ∧
    (∃ ss : State, ss.admits Agent.mgmt .fab P.FAB = true ∧ ss.flag (F.FAB_SPAN_CFG_EN (15 : Fin 16)) = true ∧ ss.flag
      (F.FAB_SPAN_CFG_LEADER (15 : Fin 16)) = true ∧ ss.fld (F.FAB_SPAN_STAT_STATE (15 : Fin 16)) = spWait ∧ ss.spanHasArmed
      (15 : Fin 16) = true ∧ 40 * (ss.group (ss.fld (F.FAB_SPAN_CFG_GRP (15 : Fin 16)))).diam + 1000 ≤ ss.fld
      (F.FAB_SPAN_SYNC_SYNC_LEAD_NS (15 : Fin 16))) ∧
    (∃ ss : State, (ss.span (0 : Fin 16)).sync = false) ∧
    (∃ ss : State, (ss.span (0 : Fin 16)).sync = true ∧ ss.flag (F.FAB_SPAN_CFG_EN (0 : Fin 16)) = true ∧ timeReached ss.now
      (ss.reg64 (R.FAB_SPAN_T_LO (0 : Fin 16)) (R.FAB_SPAN_T_HI (0 : Fin 16))) = true ∧ (ss.span (0 : Fin 16)).late = true)
      ∧
    (∃ ss : State, (ss.span (0 : Fin 16)).sync = true ∧ ss.flag (F.FAB_SPAN_CFG_EN (0 : Fin 16)) = true ∧ timeReached ss.now
      (ss.reg64 (R.FAB_SPAN_T_LO (0 : Fin 16)) (R.FAB_SPAN_T_HI (0 : Fin 16))) = true ∧ (ss.span (0 : Fin 16)).late = false
      ∧ (ss.setSpan (0 : Fin 16) { ss.span (0 : Fin 16) with sync := false }).startable (ss.fld (F.FAB_SPAN_CFG_SEQ (0 : Fin
      16))) = false) ∧
    (∃ ss : State, (ss.span (15 : Fin 16)).sync = true ∧ ss.flag (F.FAB_SPAN_CFG_EN (15 : Fin 16)) = true ∧ timeReached
      ss.now (ss.reg64 (R.FAB_SPAN_T_LO (15 : Fin 16)) (R.FAB_SPAN_T_HI (15 : Fin 16))) = true ∧ (ss.span (15 : Fin
      16)).late = false ∧ (ss.setSpan (15 : Fin 16) { ss.span (15 : Fin 16) with sync := false }).fld (F.FAB_SPAN_STAT_STATE
      (15 : Fin 16)) = spWait ∧ (ss.setSpan (15 : Fin 16) { ss.span (15 : Fin 16) with sync := false }).spanHasArmed (15 :
      Fin 16) = true ∧ (ss.setSpan (15 : Fin 16) { ss.span (15 : Fin 16) with sync := false }).startable (ss.fld
      (F.FAB_SPAN_CFG_SEQ (15 : Fin 16))) = true) ∧
    (∃ ss : State, ss.fld (F.FAB_SPAN_STAT_STATE (0 : Fin 16)) ≠ spRunning) ∧
    (∃ ss : State, ss.fld (F.FAB_SPAN_STAT_STATE (0 : Fin 16)) = spRunning ∧ (ss.seq (ss.fld (F.FAB_SPAN_CFG_SEQ (0 : Fin
      16)))).sends = []) ∧
    (∃ ss : State, ss.fld (F.FAB_SPAN_STAT_STATE 15) = spRunning ∧ ((ss.seq (ss.fld (F.FAB_SPAN_CFG_SEQ
      15))).sends.head?.any (fun y => y.2.2.1 == 0)) = true) ∧
    (∃ ss : State, ss.fld (F.FAB_SPAN_STAT_STATE (0 : Fin 16)) = spRunning ∧ (ss.span (0 : Fin 16)).notices = []) ∧
    (∃ ss : State, ss.fld (F.FAB_SPAN_STAT_STATE (15 : Fin 16)) = spRunning ∧ (ss.span (15 : Fin 16)).notice = some dtFault)
      ∧
    (∃ ss : State, ss.fld (F.FAB_SPAN_STAT_STATE (15 : Fin 16)) = spRunning ∧ (ss.span (15 : Fin 16)).notice = some dtPause)
      ∧
    (∃ ss : State, ss.fld (F.FAB_SPAN_STAT_STATE (15 : Fin 16)) = spRunning ∧ (ss.span (15 : Fin 16)).notice = some dtStall)
      ∧
    (∃ ss : State, ss.linkUp (0 : Fin 6) = false) ∧
    (∃ ss : State, ss.hears 5 = true ∧ (ss.group 255).member = true ∧ ss.hasAddr = true ∧ timeReached ((ss.wordSeen
      5).detForward (some 5) ⟨255, 7, dtTrig, (0x100 : BitVec 64), 7⟩).now (0x100 : BitVec 64) = false) ∧
    (∃ ss : State, ss.hears 5 = true ∧ (ss.group 255).member = true ∧ ss.hasAddr = true ∧ timeReached ((ss.wordSeen
      5).detForward (some 5) ⟨255, 7, dtTrig, (0 : BitVec 64), 7⟩).now (0 : BitVec 64) = true ∧ ((ss.wordSeen 5).detForward
      (some 5) ⟨255, 7, dtTrig, (0 : BitVec 64), 7⟩).now ≠ (0 : BitVec 64)) ∧
    (∃ ss : State, ss.linkUp (0 : Fin 6) = true) ∧
    (∃ ss : State, ss.fab.trigs = []) ∧
    (∃ ss : State, ss.fab.trigs = [((0 : Fin 8).val, (0 : BitVec 64))] ∧ timeReached ss.now (0 : BitVec 64) = true) ∧
    (∃ ss : State, ss.fab.trigs = [((0 : Fin 8).val, (1 : BitVec 64))] ∧ timeReached ss.now (1 : BitVec 64) = false) :=
  ⟨⟨(w0.setFlag F.FAB_RM_STAT_BUSY true), by decide +kernel⟩,
   ⟨(w0.setFlag F.FAB_RM_STAT_BUSY false), by decide +kernel⟩,
   ⟨(w0.setFlag F.FAB_RM_STAT_BUSY false), by decide +kernel⟩,
   ⟨w0, by decide +kernel⟩,
   ⟨({ w0 with fab.rm := none } : State), by decide +kernel⟩,
   ⟨{ w0 with fab.rm := some ⟨7, 255, 1, true⟩ }, by decide +kernel⟩,
   ⟨(w0.setFlag (F.FAB_SPAN_CFG_EN (0 : Fin 16)) false), by decide +kernel⟩,
   ⟨((((((((((({ w0 with fab.groups := [(255, ⟨true, 0, 2, 0, true⟩)] } : State)).setReg64 (R.PART_P_QUAD_LO 63)
     (R.PART_P_QUAD_HI 63) 1).setFlag (F.PART_P_CFG_DEFINED 63) true).setFld (F.PART_P_STAT_STATE 63) pIdle)).setReg64
     (R.FAB_SPAN_PMASK_LO 15) (R.FAB_SPAN_PMASK_HI 15) (2 ^ 63)).setFld (F.VC_SQ_CFG_SLICES 0) 1).setReg64 (R.SEQ_PMASK_LO
     0) (R.SEQ_PMASK_HI 0) (2 ^ 63))).setFld (F.SEQ_RUN_START_SRC 0) 2), by decide +kernel⟩,
   ⟨(w0.setFlag (F.FAB_SPAN_CFG_LEADER (0 : Fin 16)) false), by decide +kernel⟩,
   ⟨((((((((((((w0).setReg64 (R.PART_P_QUAD_LO 63) (R.PART_P_QUAD_HI 63) 1).setFlag (F.PART_P_CFG_DEFINED 63) true).setFld
     (F.PART_P_STAT_STATE 63) pArmed)).setReg64 (R.FAB_SPAN_PMASK_LO 15) (R.FAB_SPAN_PMASK_HI 15) (2 ^ 63)).setFld
     (F.VC_SQ_CFG_SLICES 0) 1).setReg64 (R.SEQ_PMASK_LO 0) (R.SEQ_PMASK_HI 0) (2 ^ 63))).setFlag (F.FAB_SPAN_CFG_EN 15)
     true).setFlag (F.FAB_SPAN_CFG_LEADER 15) true).setFld (F.FAB_SPAN_STAT_STATE 15) spWait).setFld
     (F.FAB_SPAN_SYNC_SYNC_LEAD_NS 15) 1000, by decide +kernel⟩,
   ⟨((w0).setSpan (0 : Fin 16) { (w0).span (0 : Fin 16) with sync := false }), by decide +kernel⟩,
   ⟨(((((w0).setSpan (0 : Fin 16) { (w0).span (0 : Fin 16) with sync := true }).setFlag (F.FAB_SPAN_CFG_EN (0 : Fin 16))
     true)).setSpan (0 : Fin 16) { ((((w0).setSpan (0 : Fin 16) { (w0).span (0 : Fin 16) with sync := true }).setFlag
     (F.FAB_SPAN_CFG_EN (0 : Fin 16)) true)).span (0 : Fin 16) with late := true }), by decide +kernel⟩,
   ⟨(((((w0).setSpan (0 : Fin 16) { (w0).span (0 : Fin 16) with sync := true }).setFlag (F.FAB_SPAN_CFG_EN (0 : Fin 16))
     true)).setSpan (0 : Fin 16) { ((((w0).setSpan (0 : Fin 16) { (w0).span (0 : Fin 16) with sync := true }).setFlag
     (F.FAB_SPAN_CFG_EN (0 : Fin 16)) true)).span (0 : Fin 16) with late := false }), by decide +kernel⟩,
   ⟨(((((((((((w0).setReg64 (R.PART_P_QUAD_LO 63) (R.PART_P_QUAD_HI 63) 1).setFlag (F.PART_P_CFG_DEFINED 63) true).setFld
     (F.PART_P_STAT_STATE 63) pArmed)).setReg64 (R.FAB_SPAN_PMASK_LO 15) (R.FAB_SPAN_PMASK_HI 15) (2 ^ 63)).setFld
     (F.VC_SQ_CFG_SLICES 0) 1).setReg64 (R.SEQ_PMASK_LO 0) (R.SEQ_PMASK_HI 0) (2 ^ 63))).setFlag (F.FAB_SPAN_CFG_EN 15)
     true).setFld (F.FAB_SPAN_STAT_STATE 15) spWait).setSpan 15 { Span.init with sync := true }, by decide +kernel⟩,
   ⟨(w0.setFld (F.FAB_SPAN_STAT_STATE (0 : Fin 16)) ((spRunning) + 1)), by decide +kernel⟩,
   ⟨(w0.setFld (F.FAB_SPAN_STAT_STATE (0 : Fin 16)) spRunning), by decide +kernel⟩,
   ⟨({ (w0.setFld (F.FAB_SPAN_STAT_STATE 15) spRunning).setSeq 0 { (w0.setFld (F.FAB_SPAN_STAT_STATE 15) spRunning).seq 0
     with sends := [(3, 7, 0, [])] } with dclk := 1 } : State), by decide +kernel⟩,
   ⟨(((w0.setFld (F.FAB_SPAN_STAT_STATE (0 : Fin 16)) spRunning)).setSpan (0 : Fin 16) { ((w0.setFld (F.FAB_SPAN_STAT_STATE
     (0 : Fin 16)) spRunning)).span (0 : Fin 16) with notices := [] }), by decide +kernel⟩,
   ⟨(w0.setFld (F.FAB_SPAN_STAT_STATE 15) spRunning).setSpan 15 { Span.init with notices := [(dtFault, 0)] },
     by decide +kernel⟩,
   ⟨(w0.setFld (F.FAB_SPAN_STAT_STATE 15) spRunning).setSpan 15 { Span.init with notices := [(dtPause, 0)] },
     by decide +kernel⟩,
   ⟨(w0.setFld (F.FAB_SPAN_STAT_STATE 15) spRunning).setSpan 15 { Span.init with notices := [(dtStall, 0)] },
     by decide +kernel⟩,
   ⟨(w0.setFld (F.FP_STAT_STATE (0 : Fin 6)) 0), by decide +kernel⟩,
   ⟨({ (((w0.setFlag F.CLK_REF_SREF_OK true).setFld (F.FP_STAT_STATE 5) fpActive).setFlag F.FAB_ADDR_VALID true)
     with fab.groups := [(255, ⟨true, 0, 2, 0, true⟩)], time.ctr := 2 ^ 40 * 0 } : State), by decide +kernel⟩,
   ⟨({ (((w0.setFlag F.CLK_REF_SREF_OK true).setFld (F.FP_STAT_STATE 5) fpActive).setFlag F.FAB_ADDR_VALID true)
     with fab.groups := [(255, ⟨true, 0, 2, 0, true⟩)], time.ctr := 2 ^ 40 * 1 } : State), by decide +kernel⟩,
   ⟨(w0.setFld (F.FP_STAT_STATE (0 : Fin 6)) fpActive), by decide +kernel⟩,
   ⟨({ w0 with fab.trigs := [] } : State), by decide +kernel⟩,
   ⟨({ w0 with fab.trigs := [((0 : Fin 8).val, (0 : BitVec 64))] } : State), by decide +kernel⟩,
   ⟨({ w0 with fab.trigs := [((0 : Fin 8).val, (1 : BitVec 64))] } : State), by decide +kernel⟩⟩

theorem wit_HostLink :
    (∃ ss : State, ss.mode = mCold) ∧
    (∃ ss : State, ss.flag F.HOST_STAT_DL_UP = true) ∧
    (∃ ss : State, ss.responds .host = true ∧ ss.mode ≠ mBoot ∧ ss.flag F.HOST_STAT_DL_UP = false ∧ 0 < (8 : BitVec 4).toNat
      ∧ (8 : BitVec 4).toNat ≤ (if ss.flag F.HOST_CFG_MODE then 4 else 8) ∧ 0 < (5 : BitVec 3).toNat ∧ (5 : BitVec 3).toNat
      ≤ 5) ∧
    (∃ ss : State, ss.mode ≠ mCold ∧ ss.mode ≠ mDoze ∧ ss.mode ≠ mHibernate ∧ ss.flag F.HOST_STAT_CFG_READY = false) ∧
    (∃ ss : State, ss.mode ≠ mCold ∧ ss.mode ≠ mDoze ∧ ss.mode ≠ mHibernate ∧ ss.flag F.HOST_STAT_CFG_READY = true) ∧
    (∃ ss : State, ss.hostTakes = false) ∧
    (∃ ss : State, ss.hostTakes = true ∧ ss.fld F.HOST_STAT_DSTATE ≠ 0) ∧
    (∃ ss : State, ss.hostTakes = true ∧ ss.fld F.HOST_STAT_DSTATE = 0 ∧ (0 : BitVec 36).toNat % 2 ^ 32 + (0 : Fin 4097).val
      ≤ 2 ^ 32 ∧ ss.bar2Addr (0 : BitVec 36).toNat (0 : Fin 4097).val = none) ∧
    (∃ ss : State, ss.hostTakes = true ∧ ss.fld F.HOST_STAT_DSTATE = 0 ∧ (0 : BitVec 36).toNat % 2 ^ 32 + ([] : List
      Byte).length ≤ 2 ^ 32 ∧ ss.bar2Addr (0 : BitVec 36).toNat ([] : List Byte).length = none) ∧
    (∃ ss : State, ss.hostTakes = true ∧ ss.fld F.HOST_STAT_DSTATE = 0 ∧ ss.bar2Addr 0xF001FFFFF 1 = some 0x7FFFFFF ∧
      ((ss.count (R.xx_BLK_COUNT P.HOST)).srExit (ss.dramPlace 0x7FFFFFF).1).writeFails 0x7FFFFFF 1 = false) ∧
    (∃ ss : State, ss.hostTakes = true ∧ ss.fld F.HOST_STAT_DSTATE = 0 ∧ ss.bar2Addr 0xF001FFFFF 1 = some 0x7FFFFFF ∧
      ((ss.count (R.xx_BLK_COUNT P.HOST)).srExit (ss.dramPlace 0x7FFFFFF).1).writeFails 0x7FFFFFF 1 = true) ∧
    (∃ ss : State, ss.hostTakes = true ∧ ss.fld F.HOST_STAT_DSTATE = 0 ∧ (ss.msixEntry ((0xFFC : BitVec 12).toNat /
      16)).masked = false) ∧
    (∃ ss : State, ss.hostTakes = true ∧ ss.fld F.HOST_STAT_DSTATE = 0 ∧ (ss.msixEntry ((0 : BitVec 12).toNat / 16)).masked
      = true ∧ ({ ss
      with hic := { ss.hic with msix := sset MsixEntry.init ss.hic.msix ((0 : BitVec 12).toNat / 16) ((ss.msixEntry ((0 : BitVec 12).toNat / 16)).write ((0 : BitVec 12).toNat / 4 % 4) (0 : Word)) } }).msixReady
      ((0 : BitVec 12).toNat / 16) = false) ∧
    (∃ ss : State, ss.hostTakes = true ∧ ss.fld F.HOST_STAT_DSTATE = 0 ∧ (ss.msixEntry ((0xFFC : BitVec 12).toNat /
      16)).masked = true ∧ ({ ss
      with hic := { ss.hic with msix := sset MsixEntry.init ss.hic.msix ((0xFFC : BitVec 12).toNat / 16) ((ss.msixEntry ((0xFFC : BitVec 12).toNat / 16)).write ((0xFFC : BitVec 12).toNat / 4 % 4) (0 : Word)) } }).msixReady
      ((0xFFC : BitVec 12).toNat / 16) = true) ∧
    (∃ ss : State, ss.admits Agent.mgmt .hostp P.HOST = true ∧ ss.hqAnyEnabled = true) ∧
    (∃ ss : State, ss.admits Agent.mgmt .hostp P.HOST = true ∧ ss.hqAnyEnabled = false ∧ (1 : BitVec 32).toNat / 65536 < (1
      : BitVec 32).toNat % 65536) ∧
    (∃ ss : State, ss.admits .mgmt .hostp P.HOST = true ∧ ss.hqAnyEnabled = false ∧ (0x02000200 : Word).toNat % 65536 ≤
      (0x02000200 : Word).toNat / 65536 ∧ (hifAgree ((0x02000200 : Word).toNat % 65536) ((0x02000200 : Word).toNat /
      65536)).isSome = true) ∧
    (∃ ss : State, ss.admits Agent.mgmt .hostp P.HOST = true ∧ ss.hqAnyEnabled = false ∧ (0 : Word).toNat % 65536 ≤ (0 :
      Word).toNat / 65536 ∧ hifAgree ((0 : Word).toNat % 65536) ((0 : Word).toNat / 65536) = none) ∧
    (∃ ss : State, ss.dmaActive (31 : Fin 32) = true ∧ (ss.dmaSrc (31 : Fin 32)).space = spHost) ∧
    (∃ ss : State, ss.dmaActive (0 : Fin 32) = false) ∧
    (∃ ss : State, ss.admits Agent.host .hostp P.HOST = true ∧ drivesRp Agent.host = false) ∧
    (∃ ss : State, ss.admits Agent.mgmt .hostp P.HOST = true ∧ drivesRp Agent.mgmt = true ∧ ss.flag F.HOST_CFG_MODE = false)
      ∧
    (∃ ss : State, ss.admits Agent.mgmt .hostp P.HOST = true ∧ drivesRp Agent.mgmt = true ∧ ss.flag F.HOST_RP_RES_BUSY =
      true) ∧
    (∃ ss : State, ss.admits Agent.mgmt .hostp P.HOST = true ∧ drivesRp Agent.mgmt = true ∧ ss.flag F.HOST_CFG_MODE = true ∧
      ss.flag F.HOST_RP_RES_BUSY = false) ∧
    (∃ ss : State, ss.host.rp = none) ∧
    (∃ ss : State, ss.host.rp = some (1) ∧ ((1) = 1 ∨ (1) = 3)) ∧
    (∃ ss : State, ss.host.rp = some (0) ∧ (0) ≠ 1 ∧ (0) ≠ 3) ∧
    (∃ ss : State, ss.rpUp = false) ∧
    (∃ ss : State, ss.rpUp = true ∧ ss.installed < (268435456 : BitVec 64).toNat + (0 : Fin 4097).val) ∧
    (∃ ss : State, ss.rpUp = true ∧ (0 : BitVec 64).toNat + (0 : Fin 4097).val ≤ ss.installed) ∧
    (∃ ss : State, ss.rpUp = true ∧ (0 : BitVec 64).toNat + ([] : List Byte).length ≤ ss.installed ∧ (ss.srExit
      (ss.dramPlace (0 : BitVec 64).toNat).1).writeFails (0 : BitVec 64).toNat ([] : List Byte).length = false) ∧
    (∃ ss : State, ss.rpUp = true ∧ ss.installed < (268435456 : BitVec 64).toNat + ([] : List Byte).length ∧ (268435456 :
      BitVec 64) ≠ ss.reg64 R.HOST_RP_MSI_ADDR_LO R.HOST_RP_MSI_ADDR_HI) ∧
    (∃ ss : State, ss.rpUp = true ∧ ss.installed < (ss.reg64 R.HOST_RP_MSI_ADDR_LO R.HOST_RP_MSI_ADDR_HI).toNat + ([1] :
      List Byte).length) :=
  ⟨⟨(w0.setFld F.DEV_MODE_MODE mCold), by decide +kernel⟩,
   ⟨(w0.setFlag F.HOST_STAT_DL_UP true), by decide +kernel⟩,
   ⟨((w0.setFld F.DEV_MODE_MODE ((mBoot) + 1)).setFlag F.HOST_STAT_DL_UP false), by decide +kernel⟩,
   ⟨((((w0.setFld F.DEV_MODE_MODE ((mCold) + 1)).setFld F.DEV_MODE_MODE ((mDoze) + 1)).setFld F.DEV_MODE_MODE ((mHibernate)
     + 1)).setFlag F.HOST_STAT_CFG_READY false), by decide +kernel⟩,
   ⟨((((w0.setFld F.DEV_MODE_MODE ((mCold) + 1)).setFld F.DEV_MODE_MODE ((mDoze) + 1)).setFld F.DEV_MODE_MODE ((mHibernate)
     + 1)).setFlag F.HOST_STAT_CFG_READY true), by decide +kernel⟩,
   ⟨w0, by decide +kernel⟩,
   ⟨((w0.setFlag F.HOST_STAT_DL_UP true).setFld F.HOST_STAT_DSTATE 1), by decide +kernel⟩,
   ⟨((w0.setFlag F.HOST_STAT_DL_UP true).setFld F.HOST_STAT_DSTATE 0), by decide +kernel⟩,
   ⟨((w0.setFlag F.HOST_STAT_DL_UP true).setFld F.HOST_STAT_DSTATE 0), by decide +kernel⟩,
   ⟨(((w0.setFlag F.HOST_STAT_DL_UP true).setFlag (F.HOST_SEG_EN 15) true).setFld (F.HOST_SEG_FRAME 15) 63),
     by decide +kernel⟩,
   ⟨((List.range 8).foldl (fun s n => s.setFld (F.DRAM_STAT_STATE n) chFaulted) (((w0.setFlag F.HOST_STAT_DL_UP
     true).setFlag (F.HOST_SEG_EN 15) true).setFld (F.HOST_SEG_FRAME 15) 63)), by decide +kernel⟩,
   ⟨({ ((w0.setFlag F.HOST_STAT_DL_UP true).setFlag F.HOST_STAT_MSIX_EN true) with hic.msix := [(255, ⟨0, 0, false⟩)] } :
     State), by decide +kernel⟩,
   ⟨((w0.setFlag F.HOST_STAT_DL_UP true).setFld F.HOST_STAT_DSTATE 0), by decide +kernel⟩,
   ⟨((((({ ((w0.setFlag F.HOST_STAT_DL_UP true).setFlag F.HOST_STAT_MSIX_EN true)
     with hic.msix := [(255, ⟨0, 0, true⟩)], hic.cfg := [(511, 0xFF00090F)] } : State).setBit (R.HIC_EN 15) 31 true).setBit
     (R.HIC_PEND 15) 31 true))), by decide +kernel⟩,
   ⟨w0.setFlag (F.HQ_Q_CFG_EN 15) true, by decide +kernel⟩,
   ⟨w0, by decide +kernel⟩,
   ⟨w0, by decide +kernel⟩,
   ⟨w0, by decide +kernel⟩,
   ⟨((w0.setFld (F.DMA_CH_STAT_STATE 3 7) 1).setFld (F.DMA_CH_SPACE_SRC_SP 3 7) 1), by decide +kernel⟩,
   ⟨w0, by decide +kernel⟩,
   ⟨w0, by decide +kernel⟩,
   ⟨(w0.setFlag F.HOST_CFG_MODE false), by decide +kernel⟩,
   ⟨(w0.setFlag F.HOST_RP_RES_BUSY true), by decide +kernel⟩,
   ⟨((w0.setFlag F.HOST_CFG_MODE true).setFlag F.HOST_RP_RES_BUSY false), by decide +kernel⟩,
   ⟨({ w0 with host.rp := none } : State), by decide +kernel⟩,
   ⟨({ w0 with host.rp := some (1) } : State), by decide +kernel⟩,
   ⟨({ w0 with host.rp := some (0) } : State), by decide +kernel⟩,
   ⟨w0, by decide +kernel⟩,
   ⟨((w0.setFlag F.HOST_CFG_MODE true).setFlag F.HOST_RP_STAT_DL_UP true), by decide +kernel⟩,
   ⟨((w0.setFlag F.HOST_CFG_MODE true).setFlag F.HOST_RP_STAT_DL_UP true), by decide +kernel⟩,
   ⟨((w0.setFlag F.HOST_CFG_MODE true).setFlag F.HOST_RP_STAT_DL_UP true), by decide +kernel⟩,
   ⟨((w0.setFlag F.HOST_CFG_MODE true).setFlag F.HOST_RP_STAT_DL_UP true), by decide +kernel⟩,
   ⟨((w0.setFlag F.HOST_CFG_MODE true).setFlag F.HOST_RP_STAT_DL_UP true).setReg64 R.HOST_RP_MSI_ADDR_LO
     R.HOST_RP_MSI_ADDR_HI 0x8000000, by decide +kernel⟩⟩

theorem wit_HostQueues :
    (∃ ss : State, ss.admits Agent.mgmt .hq P.HQ = true ∧ ss.hqState (15 : Fin 16) = hqRun ∧ (4095 : Word).toNat % 4096 <
      ss.fld (F.HQ_Q_SIZE_SQ_SIZE (15 : Fin 16))) ∧
    (∃ ss : State, ss.admits Agent.mgmt .hq P.HQ = true ∧ ss.hqState (0 : Fin 16) = hqRun ∧ ss.fld (F.HQ_Q_SIZE_SQ_SIZE (0 :
      Fin 16)) ≤ (0 : Word).toNat % 4096) ∧
    (∃ ss : State, ss.admits Agent.mgmt .hq P.HQ = true ∧ ss.hqState (15 : Fin 16) = hqRun ∧ (4095 : Word).toNat % 4096 <
      ss.fld (F.HQ_Q_SIZE_CQ_SIZE (15 : Fin 16))) ∧
    (∃ ss : State, ss.admits Agent.mgmt .hq P.HQ = true ∧ ss.hqState (0 : Fin 16) = hqRun ∧ ss.fld (F.HQ_Q_SIZE_CQ_SIZE (0 :
      Fin 16)) ≤ (0 : Word).toNat % 4096) ∧
    (∃ ss : State, ss.fld (F.HQ_Q_STAT_SQ_HEAD (15 : Fin 16)) = ss.fld (F.HQ_SQ_TAIL_TAIL (15 : Fin 16))) ∧
    (∃ ss : State, ss.cqFree (0 : Fin 16) = 0) ∧
    (∃ ss : State, (ss.hq (15 : Fin 16)).cmd.isSome = true) ∧
    (∃ ss : State, ss.hqState (15 : Fin 16) = hqRun ∧ (ss.hq (15 : Fin 16)).cmd = none ∧ (ss.fld (F.HQ_Q_STAT_SQ_HEAD (15 :
      Fin 16))) ≠ ss.fld (F.HQ_SQ_TAIL_TAIL (15 : Fin 16)) ∧ ss.cqFree (15 : Fin 16) ≠ 0 ∧ ss.busMaster = true ∧
      ss.dev.sleep.target = 0 ∧ ss.bit (R.xx_FLT_INJ P.HQ) X.HQ_FETCH_ERR = false ∧ ss.hostReach (ss.sqAddr (15 : Fin 16) +
      63) = true) ∧
    (∃ ss : State, ss.hqState (0 : Fin 16) ≠ hqRun ∧ ss.hqState (0 : Fin 16) ≠ hqStopping) ∧
    (∃ ss : State, (ss.hq (0 : Fin 16)).out = []) ∧
    (∃ ss : State, (ss.hqState (0 : Fin 16) = hqRun ∨ ss.hqState (0 : Fin 16) = hqStopping) ∧ ss.busMaster = true ∧ (ss.hq
      (0 : Fin 16)).out = ((0), (0), (1)) :: ([])) ∧
    (∃ ss : State, ss.hqState (0 : Fin 16) = hqRun ∧ (ss.hq (0 : Fin 16)).cmd = some (524288 : BitVec 512) ∧ ss.hqAction (0
      : Fin 16) (524288 : BitVec 512) = .badOpcode) ∧
    (∃ ss : State, ss.hqState (0 : Fin 16) = hqRun ∧ (ss.hq (0 : Fin 16)).cmd = some (0 : BitVec 512) ∧ ss.hqAction (0 : Fin
      16) (0 : BitVec 512) ≠ .badOpcode) ∧
    (∃ ss : State, ss.hqState (15 : Fin 16) = hqRun ∧ (ss.hq (15 : Fin 16)).cmd = some (0x1000000 : BitVec 512) ∧
      ss.hqAction (15 : Fin 16) (0x1000000 : BitVec 512) = .wait) ∧
    (∃ ss : State, ss.hqState (0 : Fin 16) = hqRun ∧ (ss.hq (0 : Fin 16)).cmd = some (16777216 : BitVec 512) ∧ ss.hqAction
      (0 : Fin 16) (16777216 : BitVec 512) = .badField ∧ cmdNat (16777216 : BitVec 512) 2 1 = 0) ∧
    (∃ ss : State, ss.hqState (0 : Fin 16) = hqRun ∧ (ss.hq (0 : Fin 16)).cmd = some (0 : BitVec 512) ∧ ss.hqAction (0 : Fin
      16) (0 : BitVec 512) = .run ∧ cmdNat (0 : BitVec 512) 2 1 = 0) ∧
    (∃ ss : State, ss.hqState (15 : Fin 16) = hqRun ∧ (ss.hq (15 : Fin 16)).cmd = some (0x70000000000010000 : BitVec 512) ∧
      ss.hqAction (15 : Fin 16) (0x70000000000010000 : BitVec 512) = .run ∧ cmdNat (0x70000000000010000 : BitVec 512) 2 1 =
      1 ∧ 6 < cmdNat (0x70000000000010000 : BitVec 512) 8 1) ∧
    (∃ ss : State, ss.hqState (0 : Fin 16) = hqRun ∧ (ss.hq (0 : Fin 16)).cmd = some (65536 : BitVec 512) ∧ ss.hqAction (0 :
      Fin 16) (65536 : BitVec 512) = .run ∧ cmdNat (65536 : BitVec 512) 2 1 = 1 ∧ cmdNat (65536 : BitVec 512) 8 1 = 0) ∧
    (∃ ss : State, ss.hqState (0 : Fin 16) = hqRun ∧ (ss.hq (0 : Fin 16)).cmd = some (131072 : BitVec 512) ∧ ss.hqAction (0
      : Fin 16) (131072 : BitVec 512) = .run ∧ cmdNat (131072 : BitVec 512) 2 1 = 2 ∧ cmdNat (131072 : BitVec 512) 8 1 = 0 ∧
      cmdOffsetOk (cmdNat (131072 : BitVec 512) 12 4) = true ∧ cmdNat (131072 : BitVec 512) 16 8 % 4 = 0) ∧
    (∃ ss : State, ss.hqState (15 : Fin 16) = hqRun ∧ (ss.hq (15 : Fin 16)).cmd = some (0x110000000000020000 : BitVec 512) ∧
      ss.hqAction (15 : Fin 16) (0x110000000000020000 : BitVec 512) = .run ∧ cmdNat (0x110000000000020000 : BitVec 512) 2 1
      = 2 ∧ 16 < cmdNat (0x110000000000020000 : BitVec 512) 8 1) ∧
    (∃ ss : State, ss.hqState (15 : Fin 16) = hqRun ∧ (ss.hq (15 : Fin 16)).cmd = some (0x200000000000000010000000000020000
      : BitVec 512) ∧ ss.hqAction (15 : Fin 16) (0x200000000000000010000000000020000 : BitVec 512) = .run ∧ cmdNat
      (0x200000000000000010000000000020000 : BitVec 512) 2 1 = 2 ∧ cmdNat (0x200000000000000010000000000020000 : BitVec 512)
      16 8 % 4 ≠ 0) ∧
    (∃ ss : State, ss.hqState (15 : Fin 16) = hqRun ∧ (ss.hq (15 : Fin 16)).cmd = some
      (0x3fffffc00000000000000010000000000010000 : BitVec 512) ∧ ss.hqAction (15 : Fin 16)
      (0x3fffffc00000000000000010000000000010000 : BitVec 512) = .run ∧ cmdNat (0x3fffffc00000000000000010000000000010000 :
      BitVec 512) 2 1 = 1 ∧ cmdNat (0x3fffffc00000000000000010000000000010000 : BitVec 512) 8 1 = 1 ∧ cmdOffsetOk (cmdNat
      (0x3fffffc00000000000000010000000000010000 : BitVec 512) 16 4) = true ∧ ss.windowReason (.hostQueue (15 : Fin 16))
      (cmdNat (0x3fffffc00000000000000010000000000010000 : BitVec 512) 16 4) true false ((BitVec.ofNat 32 (cmdNat
      (0x3fffffc00000000000000010000000000010000 : BitVec 512) 20 4)).setWidth 64) = none) ∧
    (∃ ss : State, ss.hqState 15 = hqRun ∧ (ss.hq 15).cmd = some ((BitVec.ofNat 512 (0x10000 + 2 ^ 64 + R.DEV_BOOT_PREF * 2
      ^ 128))) ∧ ss.hqAction 15 (BitVec.ofNat 512 (0x10000 + 2 ^ 64 + R.DEV_BOOT_PREF * 2 ^ 128)) = .run ∧ cmdNat
      (BitVec.ofNat 512 (0x10000 + 2 ^ 64 + R.DEV_BOOT_PREF * 2 ^ 128)) 2 1 = 1 ∧ cmdNat (BitVec.ofNat 512 (0x10000 + 2 ^ 64
      + R.DEV_BOOT_PREF * 2 ^ 128)) 8 1 = 1 ∧ cmdOffsetOk (cmdNat (BitVec.ofNat 512 (0x10000 + 2 ^ 64 + R.DEV_BOOT_PREF * 2
      ^ 128)) 16 4) = true ∧ (ss.windowReason (.hostQueue 15) (cmdNat (BitVec.ofNat 512 (0x10000 + 2 ^ 64 + R.DEV_BOOT_PREF
      * 2 ^ 128)) 16 4) true false ((BitVec.ofNat 32 (cmdNat (BitVec.ofNat 512 (0x10000 + 2 ^ 64 + R.DEV_BOOT_PREF * 2 ^
      128)) 20 4)).setWidth 64)).isSome = true) ∧
    (∃ ss : State, ss.hqState (15 : Fin 16) = hqRun ∧ (ss.hq (15 : Fin 16)).cmd = some (0x3ffffc0000000100000000000020000 :
      BitVec 512) ∧ ss.hqAction (15 : Fin 16) (0x3ffffc0000000100000000000020000 : BitVec 512) = .run ∧ cmdNat
      (0x3ffffc0000000100000000000020000 : BitVec 512) 2 1 = 2 ∧ 0 < (cmdNat (0x3ffffc0000000100000000000020000 : BitVec
      512) 8 1) ∧ (cmdNat (0x3ffffc0000000100000000000020000 : BitVec 512) 8 1) ≤ 16 ∧ (cmdNat
      (0x3ffffc0000000100000000000020000 : BitVec 512) 16 8) % 4 = 0 ∧ (cmdNat (0x3ffffc0000000100000000000020000 : BitVec
      512) 12 4) % 4 = 0 ∧ (cmdNat (0x3ffffc0000000100000000000020000 : BitVec 512) 12 4) + 4 * (cmdNat
      (0x3ffffc0000000100000000000020000 : BitVec 512) 8 1) ≤ 0x4000000 ∧ ss.busMaster = false) ∧
    (∃ ss : State, ss.hqState (15 : Fin 16) = hqRun ∧ (ss.hq (15 : Fin 16)).cmd = some (0x3ffffc0000000100000000000020000 :
      BitVec 512) ∧ ss.hqAction (15 : Fin 16) (0x3ffffc0000000100000000000020000 : BitVec 512) = .run ∧ cmdNat
      (0x3ffffc0000000100000000000020000 : BitVec 512) 2 1 = 2 ∧ 0 < (cmdNat (0x3ffffc0000000100000000000020000 : BitVec
      512) 8 1) ∧ (cmdNat (0x3ffffc0000000100000000000020000 : BitVec 512) 8 1) ≤ 16 ∧ (cmdNat
      (0x3ffffc0000000100000000000020000 : BitVec 512) 16 8) % 4 = 0 ∧ (cmdNat (0x3ffffc0000000100000000000020000 : BitVec
      512) 12 4) % 4 = 0 ∧ (cmdNat (0x3ffffc0000000100000000000020000 : BitVec 512) 12 4) + 4 * (cmdNat
      (0x3ffffc0000000100000000000020000 : BitVec 512) 8 1) ≤ 0x4000000 ∧ ss.busMaster = true ∧ ((State.readRun (.hostQueue
      (15 : Fin 16)) (cmdNat (0x3ffffc0000000100000000000020000 : BitVec 512) 12 4) (cmdNat
      (0x3ffffc0000000100000000000020000 : BitVec 512) 8 1) ss).2.hqWrite (15 : Fin 16) (cmdNat
      (0x3ffffc0000000100000000000020000 : BitVec 512) 16 8) ((State.readRun (.hostQueue (15 : Fin 16)) (cmdNat
      (0x3ffffc0000000100000000000020000 : BitVec 512) 12 4) (cmdNat (0x3ffffc0000000100000000000020000 : BitVec 512) 8 1)
      ss).1.flatMap (fun v => leBytes 4 v.toNat))).1 = true) ∧
    (∃ ss : State, ss.hqState (15 : Fin 16) = hqRun ∧ (ss.hq (15 : Fin 16)).cmd = some (0x30000 : BitVec 512) ∧ ss.hqAction
      (15 : Fin 16) (0x30000 : BitVec 512) = .run ∧ cmdNat (0x30000 : BitVec 512) 2 1 = 3 ∧ (ss.hq (15 : Fin 16)).started =
      true ∧ ss.dmaActive (ss.fld (F.HQ_Q_CFG_DMA_CH (15 : Fin 16))) = true) ∧
    (∃ ss : State, ss.hqState (15 : Fin 16) = hqRun ∧ (ss.hq (15 : Fin 16)).cmd = some (0x30000 : BitVec 512) ∧ ss.hqAction
      (15 : Fin 16) (0x30000 : BitVec 512) = .run ∧ cmdNat (0x30000 : BitVec 512) 2 1 = 3 ∧ (ss.hq (15 : Fin 16)).started =
      true ∧ ss.dmaActive (ss.fld (F.HQ_Q_CFG_DMA_CH (15 : Fin 16))) = false) ∧
    (∃ ss : State, ss.hqState (15 : Fin 16) = hqRun ∧ (ss.hq (15 : Fin 16)).cmd = some (0x30000 : BitVec 512) ∧ ss.hqAction
      (15 : Fin 16) (0x30000 : BitVec 512) = .run ∧ cmdNat (0x30000 : BitVec 512) 2 1 = 3 ∧ (ss.hq (15 : Fin 16)).started =
      false ∧ ss.flag (F.HQ_Q_CFG_DMA_EN (15 : Fin 16)) = false) ∧
    (∃ ss : State, ss.hqState (15 : Fin 16) = hqRun ∧ (ss.hq (15 : Fin 16)).cmd = some
      (0x10000000000000000000000000000000000000000000000000000000000030000 : BitVec 512) ∧ ss.hqAction (15 : Fin 16)
      (0x10000000000000000000000000000000000000000000000000000000000030000 : BitVec 512) = .run ∧ cmdNat
      (0x10000000000000000000000000000000000000000000000000000000000030000 : BitVec 512) 2 1 = 3 ∧ (ss.hq (15 : Fin
      16)).started = false ∧ ss.flag (F.HQ_Q_CFG_DMA_EN (15 : Fin 16)) = true ∧ cmdNat
      (0x10000000000000000000000000000000000000000000000000000000000030000 : BitVec 512) 32 4 ≠ 0 ∧ ss.dmaActive (ss.fld
      (F.HQ_Q_CFG_DMA_CH (15 : Fin 16))) = true) ∧
    (∃ ss : State, ss.hqState 15 = hqRun ∧ (ss.hq 15).cmd = some
      (0x10000000000000000000000000000000000000000000000000000000000030000) ∧ ss.hqAction 15
      0x10000000000000000000000000000000000000000000000000000000000030000 = .run ∧ cmdNat
      0x10000000000000000000000000000000000000000000000000000000000030000 2 1 = 3 ∧ (ss.hq 15).started = false ∧ ss.flag
      (F.HQ_Q_CFG_DMA_EN 15) = true ∧ cmdNat 0x10000000000000000000000000000000000000000000000000000000000030000 32 4 ≠ 0 ∧
      ss.dmaActive (ss.fld (F.HQ_Q_CFG_DMA_CH 15)) = false ∧ (State.writeRun (.hostQueue 15) (ss.xferWrites (ss.fld
      (F.HQ_Q_CFG_DMA_CH 15)) 0x10000000000000000000000000000000000000000000000000000000000030000) 0 ss).2.1 = none) ∧
    (∃ ss : State, ss.hqState (0 : Fin 16) = hqRun ∧ (ss.hq (0 : Fin 16)).cmd = some (262144 : BitVec 512) ∧ ss.hqAction (0
      : Fin 16) (262144 : BitVec 512) = .run ∧ cmdNat (262144 : BitVec 512) 2 1 = 4 ∧ ss.flag F.HQ_FW_RING_EN = false) ∧
    (∃ ss : State, ss.hqState (15 : Fin 16) = hqRun ∧ (ss.hq (15 : Fin 16)).cmd = some (0x40000 : BitVec 512) ∧ ss.hqAction
      (15 : Fin 16) (0x40000 : BitVec 512) = .run ∧ cmdNat (0x40000 : BitVec 512) 2 1 = 4 ∧ ss.flag F.HQ_FW_RING_EN = true ∧
      32767 ≤ ss.fwLevel) ∧
    (∃ ss : State, ss.hqState (0 : Fin 16) = hqRun ∧ (ss.hq (0 : Fin 16)).cmd = some (262144 : BitVec 512) ∧ ss.hqAction (0
      : Fin 16) (262144 : BitVec 512) = .run ∧ cmdNat (262144 : BitVec 512) 2 1 = 4 ∧ ss.flag F.HQ_FW_RING_EN = true ∧
      ss.fwLevel < 32767 ∧ ss.writeFails (ss.fld F.HQ_FW_RING_FRAME * 2 ^ 21 + (ss.reg R.HQ_FW_WR).toNat % 32768 * 64) 64 =
      false) ∧
    (∃ ss : State, ss.admits Agent.mgmt .hq P.HQ = true ∧ ss.host.cplLo = some (Agent.mgmt.ident, (0 : Word)) ∧ ss.hqState
      ((0xF000FFFF : Word).toNat / 2 ^ 28) = hqRun ∧ ((0xF000FFFF : Word).toNat % 2 ^ 16) ∈ (ss.hq ((0xF000FFFF :
      Word).toNat / 2 ^ 28)).fw ∧ ss.busMaster = true) ∧
    (∃ ss : State, ss.admits Agent.mgmt .hq P.HQ = true ∧ ss.host.cplLo = some (Agent.mgmt.ident, (0 : Word)) ∧ ss.hqState
      ((0xF0FFFFFF : Word).toNat / 2 ^ 28) = hqRun ∧ ((0xF0FFFFFF : Word).toNat % 2 ^ 16) ∈ (ss.hq ((0xF0FFFFFF :
      Word).toNat / 2 ^ 28)).fw ∧ ss.busMaster = false) ∧
    (∃ ss : State, ss.admits Agent.mgmt .hq P.HQ = true ∧ ss.hqState ((0 : Word).toNat / 2 ^ 28) ≠ hqRun) ∧
    (∃ ss : State, ss.admits Agent.mgmt .hq P.HQ = true ∧ ss.host.cplLo = none ∧ ss.hqState ((0xF000FFFF : Word).toNat / 2 ^
      28) = hqRun ∧ ((0xF000FFFF : Word).toNat % 2 ^ 16) ∈ (ss.hq ((0xF000FFFF : Word).toNat / 2 ^ 28)).fw) ∧
    (∃ ss : State, ss.admits Agent.mgmt .hq P.HQ = true ∧ ss.hqEnabled (0 : Fin 16) = true) ∧
    (∃ ss : State, ss.admits Agent.mgmt .hq P.HQ = true ∧ ss.hqMayEnable (0 : Fin 16) ((0 : Word) ||| 0x80000000) = false) ∧
    (∃ ss : State, ss.admits Agent.mgmt .hq P.HQ = true ∧ ss.hqEnabled (15 : Fin 16) = false ∧ ss.hqMayEnable (15 : Fin 16)
      ((0 : Word) ||| 0x80000000) = true) :=
  ⟨⟨(w0.setFld (F.HQ_Q_STAT_STATE 15) hqRun).setReg (R.HQ_Q_SIZE 15) 0x10001000, by decide +kernel⟩,
   ⟨(w0.setFld (F.HQ_Q_STAT_STATE (0 : Fin 16)) hqRun), by decide +kernel⟩,
   ⟨(w0.setFld (F.HQ_Q_STAT_STATE 15) hqRun).setReg (R.HQ_Q_SIZE 15) 0x10001000, by decide +kernel⟩,
   ⟨(w0.setFld (F.HQ_Q_STAT_STATE (0 : Fin 16)) hqRun), by decide +kernel⟩,
   ⟨w0, by decide +kernel⟩,
   ⟨w0, by decide +kernel⟩,
   ⟨((w0.setFld (F.HQ_Q_STAT_STATE 15) hqRun)).setHq 15 { w0.hq 15 with cmd := some 0 }, by decide +kernel⟩,
   ⟨(((w0.setFld (F.HQ_Q_STAT_STATE 15) hqRun).setReg (R.HQ_Q_SIZE 15) 0x00020002).setFlag F.HOST_STAT_BME true).setFld
     (F.HQ_SQ_TAIL_TAIL 15) 1, by decide +kernel⟩,
   ⟨((w0.setFld (F.HQ_Q_STAT_STATE (0 : Fin 16)) ((hqRun) + 1)).setFld (F.HQ_Q_STAT_STATE (0 : Fin 16)) ((hqStopping) + 1)),
     by decide +kernel⟩,
   ⟨((w0).setHq (0 : Fin 16) { (w0).hq (0 : Fin 16) with out := [] }), by decide +kernel⟩,
   ⟨((((w0.setFld (F.HQ_Q_STAT_STATE (0 : Fin 16)) hqRun).setFlag F.HOST_STAT_BME true)).setHq (0 : Fin 16) { (((w0.setFld
     (F.HQ_Q_STAT_STATE (0 : Fin 16)) hqRun).setFlag F.HOST_STAT_BME true)).hq (0 : Fin 16)
     with out := ((0), (0), (1)) :: ([]) }), by decide +kernel⟩,
   ⟨(((w0.setFld (F.HQ_Q_STAT_STATE (0 : Fin 16)) hqRun)).setHq (0 : Fin 16) { ((w0.setFld (F.HQ_Q_STAT_STATE (0 : Fin 16))
     hqRun)).hq (0 : Fin 16) with cmd := some (524288 : BitVec 512) }), by decide +kernel⟩,
   ⟨(((w0.setFld (F.HQ_Q_STAT_STATE (0 : Fin 16)) hqRun)).setHq (0 : Fin 16) { ((w0.setFld (F.HQ_Q_STAT_STATE (0 : Fin 16))
     hqRun)).hq (0 : Fin 16) with cmd := some (0 : BitVec 512) }), by decide +kernel⟩,
   ⟨((w0.setFld (F.HQ_Q_STAT_STATE 15) hqRun).setFld F.HOST_HIF_AGREED_VERSION 0x200).setHq 15 { w0.hq 15
     with cmd := some (0x1000000), fw := [7] }, by decide +kernel⟩,
   ⟨(((w0.setFld (F.HQ_Q_STAT_STATE (0 : Fin 16)) hqRun)).setHq (0 : Fin 16) { ((w0.setFld (F.HQ_Q_STAT_STATE (0 : Fin 16))
     hqRun)).hq (0 : Fin 16) with cmd := some (16777216 : BitVec 512) }), by decide +kernel⟩,
   ⟨(((w0.setFld (F.HQ_Q_STAT_STATE (0 : Fin 16)) hqRun)).setHq (0 : Fin 16) { ((w0.setFld (F.HQ_Q_STAT_STATE (0 : Fin 16))
     hqRun)).hq (0 : Fin 16) with cmd := some (0 : BitVec 512) }), by decide +kernel⟩,
   ⟨((w0.setFld (F.HQ_Q_STAT_STATE 15) hqRun)).setHq 15 { w0.hq 15 with cmd := some (0x70000000000010000) },
     by decide +kernel⟩,
   ⟨(((w0.setFld (F.HQ_Q_STAT_STATE (0 : Fin 16)) hqRun)).setHq (0 : Fin 16) { ((w0.setFld (F.HQ_Q_STAT_STATE (0 : Fin 16))
     hqRun)).hq (0 : Fin 16) with cmd := some (65536 : BitVec 512) }), by decide +kernel⟩,
   ⟨(((w0.setFld (F.HQ_Q_STAT_STATE (0 : Fin 16)) hqRun)).setHq (0 : Fin 16) { ((w0.setFld (F.HQ_Q_STAT_STATE (0 : Fin 16))
     hqRun)).hq (0 : Fin 16) with cmd := some (131072 : BitVec 512) }), by decide +kernel⟩,
   ⟨((w0.setFld (F.HQ_Q_STAT_STATE 15) hqRun)).setHq 15 { w0.hq 15 with cmd := some (0x110000000000020000) },
     by decide +kernel⟩,
   ⟨((w0.setFld (F.HQ_Q_STAT_STATE 15) hqRun)).setHq 15 { w0.hq 15 with cmd := some (0x200000000000000010000000000020000) },
     by decide +kernel⟩,
   ⟨((w0.setFld (F.HQ_Q_STAT_STATE 15) hqRun)).setHq 15 { w0.hq 15
     with cmd := some (0x3fffffc00000000000000010000000000010000) }, by decide +kernel⟩,
   ⟨(w0.setFld (F.HQ_Q_STAT_STATE 15) hqRun).setHq 15 { w0.hq 15
     with cmd := some ((BitVec.ofNat 512 (0x10000 + 2 ^ 64 + R.DEV_BOOT_PREF * 2 ^ 128))) }, by decide +kernel⟩,
   ⟨((w0.setFld (F.HQ_Q_STAT_STATE 15) hqRun)).setHq 15 { w0.hq 15 with cmd := some (0x3ffffc0000000100000000000020000) },
     by decide +kernel⟩,
   ⟨((w0.setFld (F.HQ_Q_STAT_STATE 15) hqRun).setFlag F.HOST_STAT_BME true).setHq 15 { w0.hq 15
     with cmd := some (0x3ffffc0000000100000000000020000) }, by decide +kernel⟩,
   ⟨((((w0.setFld (F.HQ_Q_STAT_STATE 15) hqRun).setFld F.HOST_HIF_AGREED_VERSION 0x101).setFld (F.HQ_Q_CFG_DMA_CH 15)
     31).setFld (F.DMA_CH_STAT_STATE 3 7) 1).setHq 15 { w0.hq 15 with cmd := some (0x30000), started := true },
     by decide +kernel⟩,
   ⟨(((w0.setFld (F.HQ_Q_STAT_STATE 15) hqRun).setFld F.HOST_HIF_AGREED_VERSION 0x101).setFld (F.HQ_Q_CFG_DMA_CH 15)
     31).setHq 15 { w0.hq 15 with cmd := some (0x30000), started := true }, by decide +kernel⟩,
   ⟨(((w0.setFld (F.HQ_Q_STAT_STATE 15) hqRun).setFld F.HOST_HIF_AGREED_VERSION 0x101).setFld (F.HQ_Q_CFG_DMA_CH 15)
     31).setHq 15 { w0.hq 15 with cmd := some (0x30000) }, by decide +kernel⟩,
   ⟨(((((w0.setFld (F.HQ_Q_STAT_STATE 15) hqRun).setFld F.HOST_HIF_AGREED_VERSION 0x101).setFld (F.HQ_Q_CFG_DMA_CH 15)
     31).setFlag (F.HQ_Q_CFG_DMA_EN 15) true).setFld (F.DMA_CH_STAT_STATE 3 7) 1).setHq 15 { w0.hq 15
     with cmd := some (0x10000000000000000000000000000000000000000000000000000000000030000) }, by decide +kernel⟩,
   ⟨((((w0.setFld (F.HQ_Q_STAT_STATE 15) hqRun).setFld F.HOST_HIF_AGREED_VERSION 0x101).setFld (F.HQ_Q_CFG_DMA_CH 15)
     31).setFlag (F.HQ_Q_CFG_DMA_EN 15) true).setHq 15 { w0.hq 15
     with cmd := some (0x10000000000000000000000000000000000000000000000000000000000030000) }, by decide +kernel⟩,
   ⟨((((w0.setFld (F.HQ_Q_STAT_STATE (0 : Fin 16)) hqRun)).setHq (0 : Fin 16) { ((w0.setFld (F.HQ_Q_STAT_STATE (0 : Fin 16))
     hqRun)).hq (0 : Fin 16) with cmd := some (262144 : BitVec 512) }).setFlag F.HQ_FW_RING_EN false), by decide +kernel⟩,
   ⟨(((w0.setFld (F.HQ_Q_STAT_STATE 15) hqRun).setFlag F.HQ_FW_RING_EN true).setReg R.HQ_FW_WR 32767).setHq 15 { w0.hq 15
     with cmd := some (0x40000) }, by decide +kernel⟩,
   ⟨((((w0.setFld (F.HQ_Q_STAT_STATE (0 : Fin 16)) hqRun)).setHq (0 : Fin 16) { ((w0.setFld (F.HQ_Q_STAT_STATE (0 : Fin 16))
     hqRun)).hq (0 : Fin 16) with cmd := some (262144 : BitVec 512) }).setFlag F.HQ_FW_RING_EN true), by decide +kernel⟩,
   ⟨({ (((w0.setFld (F.HQ_Q_STAT_STATE 15) hqRun).setFlag F.HOST_STAT_BME true).setHq 15 { w0.hq 15 with fw := [65535] })
     with host.cplLo := some (Agent.mgmt.ident, 0) } : State), by decide +kernel⟩,
   ⟨({ (((w0.setFld (F.HQ_Q_STAT_STATE 15) hqRun)).setHq 15 { w0.hq 15 with fw := [65535] })
     with host.cplLo := some (Agent.mgmt.ident, 0) } : State), by decide +kernel⟩,
   ⟨(w0.setFld (F.HQ_Q_STAT_STATE ((0 : Word).toNat / 2 ^ 28)) ((hqRun) + 1)), by decide +kernel⟩,
   ⟨({ (((w0.setFld (F.HQ_Q_STAT_STATE 15) hqRun)).setHq 15 { w0.hq 15 with fw := [65535] }) with host.cplLo := none } :
     State), by decide +kernel⟩,
   ⟨(w0.setFlag (F.HQ_Q_CFG_EN (0 : Fin 16)) true), by decide +kernel⟩,
   ⟨w0, by decide +kernel⟩,
   ⟨((w0.setFlag F.HOST_HIF_AGREED_VALID true).setFld F.HOST_HIF_AGREED_VERSION 0x200), by decide +kernel⟩⟩

theorem wit_Calibration :
    (∃ ss : State, ss.admits Agent.mgmt .cal P.CAL = true ∧ ss.calCanStart = true) ∧
    (∃ ss : State, ss.admits Agent.mgmt .cal P.CAL = true ∧ ss.calCanStart = false) ∧
    (∃ ss : State, ss.admits Agent.mgmt .cal P.CAL = true ∧ ss.flag F.CAL_DEC_WAIT_WAITING = false) ∧
    (∃ ss : State, ss.admits Agent.mgmt .cal P.CAL = true ∧ ss.flag F.CAL_DEC_WAIT_WAITING = true) ∧
    (∃ ss : State, ss.calState ≠ csMeasure) ∧
    (∃ ss : State, ss.calState = csMeasure ∧ ss.fld F.CAL_STAT_STAGE = 1) ∧
    (∃ ss : State, ss.calState = csMeasure ∧ ss.fld F.CAL_STAT_STAGE = 2) ∧
    (∃ ss : State, ss.calState = csMeasure ∧ ss.fld F.CAL_STAT_STAGE = 3 ∧ ((∀ t, t < 16 → ss.bit (R.xx_FLT_INJ (P.TG t))
      X.TG_SB_FAIL = false))) ∧
    (∃ ss : State, ss.calState = csMeasure ∧ ss.fld F.CAL_STAT_STAGE = 4 ∧ ss.flag F.CAL_RUN_CFG_IN_MODE = false) ∧
    (∃ ss : State, ss.calState = csMeasure ∧ ss.fld F.CAL_STAT_STAGE = 5 ∧ ss.cal.go = false) ∧
    (∃ ss : State, ss.calState = csMeasure ∧ ss.fld F.CAL_STAT_STAGE = 5 ∧ ss.cal.go = true ∧ ({ (ss.calChans.foldl (fun s c
      => s.calDec [] (ss.fld F.CAL_DEC_WAIT_DEC_RANGE) c) ss)
      with cal := { (ss.calChans.foldl (fun s c => s.calDec [] (ss.fld F.CAL_DEC_WAIT_DEC_RANGE) c) ss).cal with go := false } }
      : State).calRangesFrom (ss.fld F.CAL_DEC_WAIT_DEC_RANGE + 1) = []) ∧
    (∃ ss : State, ss.calState = csMeasure ∧ ss.fld F.CAL_STAT_STAGE = 5 ∧ ss.cal.go = true ∧ ({ (ss.calChans.foldl (fun s c
      => s.calDec [] (ss.fld F.CAL_DEC_WAIT_DEC_RANGE) c) ss)
      with cal := { (ss.calChans.foldl (fun s c => s.calDec [] (ss.fld F.CAL_DEC_WAIT_DEC_RANGE) c) ss).cal with go := false } }
      : State).calRangesFrom (ss.fld F.CAL_DEC_WAIT_DEC_RANGE + 1) ≠ []) ∧
    (∃ ss : State, ss.calState ≠ csRestoring) ∧
    (∃ ss : State, ss.cal.frames ≠ []) ∧
    (∃ ss : State, ss.calState = csRestoring ∧ ss.cal.frames = [] ∧ ((∀ t, t < 16 → (ss.tg t).frame = none))) ∧
    (∃ ss : State, ss.admits Agent.mgmt .cal P.CAL = true ∧ (0 : Byte) ≠ 0x10 ∧ (0 : Byte) ≠ 0x11) ∧
    (∃ ss : State, ss.admits Agent.mgmt .cal P.CAL = true ∧ ((16 : BitVec 8) = 0x10 ∨ (16 : BitVec 8) = 0x11)) ∧
    (∃ ss : State, ss.responds Agent.mgmt = true ∧ ss.cal.exp = []) ∧
    (∃ ss : State, ss.responds Agent.mgmt = true ∧ ss.cal.exp = (0) :: (0) :: ([]) ∧ ss.bit (R.xx_FLT_INJ P.CAL)
      X.CAL_IMG_ECC = false) ∧
    (∃ ss : State, ss.responds Agent.mgmt = true ∧ ss.cal.exp = [(0)] ∧ ss.bit (R.xx_FLT_INJ P.CAL) X.CAL_IMG_ECC = false) ∧
    (∃ ss : State, ss.responds Agent.mgmt = true ∧ ss.cal.exp = (0) :: ([]) ∧ ss.bit (R.xx_FLT_INJ P.CAL) X.CAL_IMG_ECC =
      false) ∧
    (∃ ss : State, ss.responds Agent.mgmt = false) ∧
    (∃ ss : State, ss.admits Agent.mgmt .cal P.CAL = true ∧ ss.cal.importing = true) ∧
    (∃ ss : State, ss.admits Agent.mgmt .cal P.CAL = true ∧ ss.cal.importing = false) ∧
    (∃ ss : State, ss.admits Agent.mgmt .cal P.CAL = true ∧ ss.cal.importing = false ∧ ss.fld F.CAL_IMP_STAT_STATE = 1) ∧
    (∃ ss : State, ss.admits Agent.mgmt .cal P.CAL = true ∧ ss.cal.importing = false ∧ ss.fld F.CAL_IMP_STAT_STATE ≠ 1) ∧
    (∃ ss : State, ss.admits Agent.mgmt .cal P.CAL = true ∧ ss.cal.importing = false ∧ ss.fld F.CAL_IMP_STAT_STATE = 1 ∧
      ss.cal.imp.length = 8192) ∧
    (∃ ss : State, ss.admits Agent.mgmt .cal P.CAL = true ∧ ss.cal.importing = false ∧ ss.fld F.CAL_IMP_STAT_STATE = 1 ∧
      ss.cal.imp.length ≠ 8192) ∧
    (∃ ss : State, ss.admits Agent.mgmt .cal P.CAL = true ∧ ss.cal.importing = false ∧ ss.fld F.CAL_IMP_STAT_STATE = 1 ∧
      ss.calState ≠ csIdle) ∧
    (∃ ss : State, ss.admits Agent.mgmt .cal P.CAL = true ∧ ss.cal.importing = false ∧ ss.fld F.CAL_IMP_STAT_STATE = 1 ∧
      ss.calState = csIdle ∧ (ss.mode = mBoot ∨ ss.mode = mTrain ∨ ss.mode = mReady ∨ ss.mode = mCalibrate)) ∧
    (∃ ss : State, ss.cal.frames = [] ∧ ((∀ w0, w0 < 16 → (ss.tg w0).frame = none)) ∧ ss.cal.importing = false) ∧
    (∃ ss : State, ss.cal.frames = [] ∧ ((∀ t, t < 16 → (ss.tg t).frame = none)) ∧ ss.cal.importing = true ∧ ss.cal.sbFail ≠
      []) ∧
    (∃ ss : State, ss.cal.frames = [] ∧ ((∀ t, t < 16 → (ss.tg t).frame = none)) ∧ ss.cal.importing = true ∧ ss.cal.sbFail =
      []) :=
  ⟨⟨((w0.setFld F.DEV_MODE_MODE mCalibrate).setFld F.CAL_CYC_PERIOD_PS 2501), by decide +kernel⟩,
   ⟨w0, by decide +kernel⟩,
   ⟨(w0.setFlag F.CAL_DEC_WAIT_WAITING false), by decide +kernel⟩,
   ⟨(w0.setFlag F.CAL_DEC_WAIT_WAITING true), by decide +kernel⟩,
   ⟨(w0.setFld F.CAL_STAT_STATE ((csMeasure) + 1)), by decide +kernel⟩,
   ⟨((w0.setFld F.CAL_STAT_STATE csMeasure).setFld F.CAL_STAT_STAGE 1), by decide +kernel⟩,
   ⟨((w0.setFld F.CAL_STAT_STATE csMeasure).setFld F.CAL_STAT_STAGE 2), by decide +kernel⟩,
   ⟨((w0.setFld F.CAL_STAT_STATE csMeasure).setFld F.CAL_STAT_STAGE 3), by decide +kernel⟩,
   ⟨(((w0.setFld F.CAL_STAT_STATE csMeasure).setFld F.CAL_STAT_STAGE 4).setFlag F.CAL_RUN_CFG_IN_MODE false),
     by decide +kernel⟩,
   ⟨({ ((w0.setFld F.CAL_STAT_STATE csMeasure).setFld F.CAL_STAT_STAGE 5) with cal.go := false } : State),
     by decide +kernel⟩,
   ⟨(({ ((w0.setFld (F.CAL_STAT_STATE) csMeasure).setFld F.CAL_STAT_STAGE 5) with cal.go := true } : State).setFld
     F.CAL_DEC_CFG_RANGES 1), by decide +kernel⟩,
   ⟨(({ ((w0.setFld (F.CAL_STAT_STATE) csMeasure).setFld F.CAL_STAT_STAGE 5) with cal.go := true } : State).setFld
     F.CAL_DEC_CFG_RANGES 3), by decide +kernel⟩,
   ⟨(w0.setFld F.CAL_STAT_STATE ((csRestoring) + 1)), by decide +kernel⟩,
   ⟨{ w0 with cal.frames := [(1023, (⟨false, false, 0, 0, 0, false⟩ : SbFrame))] }, by decide +kernel⟩,
   ⟨({ (w0.setFld F.CAL_STAT_STATE csRestoring) with cal.frames := [] } : State), by decide +kernel⟩,
   ⟨w0, by decide +kernel⟩,
   ⟨w0, by decide +kernel⟩,
   ⟨({ w0 with cal.exp := [] } : State), by decide +kernel⟩,
   ⟨(({ w0 with cal.exp := (0) :: (0) :: ([]) } : State).setBit (R.xx_FLT_INJ P.CAL) X.CAL_IMG_ECC false),
     by decide +kernel⟩,
   ⟨(({ w0 with cal.exp := [(0)] } : State).setBit (R.xx_FLT_INJ P.CAL) X.CAL_IMG_ECC false), by decide +kernel⟩,
   ⟨(({ w0 with cal.exp := (0) :: ([]) } : State).setBit (R.xx_FLT_INJ P.CAL) X.CAL_IMG_ECC false), by decide +kernel⟩,
   ⟨w0.setFld F.DEV_MODE_MODE mDoze, by decide +kernel⟩,
   ⟨({ w0 with cal.importing := true } : State), by decide +kernel⟩,
   ⟨({ w0 with cal.importing := false } : State), by decide +kernel⟩,
   ⟨(({ w0 with cal.importing := false } : State).setFld F.CAL_IMP_STAT_STATE 1), by decide +kernel⟩,
   ⟨(({ w0 with cal.importing := false } : State).setFld F.CAL_IMP_STAT_STATE 2), by decide +kernel⟩,
   ⟨{ (w0.setFld F.CAL_IMP_STAT_STATE 1) with cal.imp := List.replicate 8192 0 }, by decide +kernel⟩,
   ⟨{ (w0.setFld F.CAL_IMP_STAT_STATE 1) with cal.imp := List.replicate 8191 0 }, by decide +kernel⟩,
   ⟨((({ w0 with cal.importing := false } : State).setFld F.CAL_IMP_STAT_STATE 1).setFld F.CAL_STAT_STATE ((csIdle) + 1)),
     by decide +kernel⟩,
   ⟨(((({ w0 with cal.importing := false } : State).setFld F.CAL_IMP_STAT_STATE 1).setFld F.CAL_STAT_STATE csIdle).setFld
     F.DEV_MODE_MODE mBoot), by decide +kernel⟩,
   ⟨({ ({ w0 with cal.frames := [] } : State) with cal.importing := false } : State), by decide +kernel⟩,
   ⟨{ w0 with cal.importing := true, cal.sbFail := [15] }, by decide +kernel⟩,
   ⟨{ w0 with cal.importing := true }, by decide +kernel⟩⟩

theorem wit_EveryStepKeepsCanonicalForm : (∃ ss : State, ss.canonical = true ∧ wDone (step ss) = true) :=
  ⟨w0, by decide +kernel⟩

end Sys2Proof.Tests
end

section
/-! PROOFS. What a report changes: an event, a fault, a trace record, a task's flag and a preemption request write the registers
that report, the tasks, the trace rings and the faults on their way to Monel, and nothing else. -/

namespace Sys2Proof.Machine

open Sys2Proof

/-- The registers that reports write: xx_EVT and xx_FLT of every page, the TRACE page, HIC_PEND, HART_SCHED_CUR and
HART_CNT_DEPTH_MAX of the harts, FLT_FENCE_SUPPRESSED. -/
def reportReg (o : Nat) : Bool :=
  o % 0x1000 == 0x10 || o % 0x1000 == 0x18 || o / 0x1000 == 0x82
    || (decide (R.HIC_PEND 0 ≤ o) && decide (o < R.HIC_PEND 16))
    || (decide (P.HART 0 ≤ o) && decide (o < P.HART 8) && (o % 0x1000 == 0x6C || o % 0x1000 == 0x78))
    || o == R.FLT_FENCE_SUPPRESSED

/-- The state `t` with everything that a report may change as it is in `s`, registers included. -/
def State.unreport (s t : State) : State :=
  { t with
    regs := s.regs
    monel.waiting := s.monel.waiting
    sched.tasks := s.sched.tasks, sched.ready := s.sched.ready, sched.lostS := s.sched.lostS, sched.lostP := s.sched.lostP
    dram.mem := s.dram.mem }

/-- The step from `s` to `t` changes nothing beyond what reports write. -/
structure State.ReportsOnly (s t : State) : Prop where
  reg : ∀ o, reportReg o = false → t.reg o = s.reg o
  rest : s.unreport t = s

namespace State.ReportsOnly

theorem refl (s : State) : s.ReportsOnly s := ⟨fun _ _ => rfl, rfl⟩

theorem trans {s t u : State} (h : s.ReportsOnly t) (h' : t.ReportsOnly u) : s.ReportsOnly u where
  reg o ho := (h'.reg o ho).trans (h.reg o ho)
  rest := calc
    s.unreport u = s.unreport (t.unreport u) := rfl
    _ = s.unreport t := by rw [h'.rest]
    _ = s := h.rest

theorem foldl {α : Type} {f : State → α → State} (l : List α)
    (hf : ∀ s : State, ∀ x ∈ l, s.ReportsOnly (f s x)) (s : State) : s.ReportsOnly (l.foldl f s) :=
  List.foldlRecOn l f (refl s) fun t h x hx => h.trans (hf t x hx)

theorem dev {s t : State} (h : s.ReportsOnly t) : t.dev = s.dev :=
  show (s.unreport t).dev = s.dev by rw [h.rest]

theorem ite {s t u : State} {c : Prop} [Decidable c] (ht : s.ReportsOnly t) (hu : s.ReportsOnly u) :
    s.ReportsOnly (if c then t else u) := by
  split
  · exact ht
  · exact hu

/-! ### Registers -/

theorem setReg (s : State) {o : Nat} (v : Word) (ho : reportReg o = true) : s.ReportsOnly (s.setReg o v) where
  reg p hp := s.reg_setReg_other v (by rintro rfl; simp [ho] at hp)
  rest := rfl

theorem setFlag (s : State) {f : Fld} (b : Bool) (ho : reportReg f.off = true) : s.ReportsOnly (s.setFlag f b) :=
  setReg s _ ho

theorem count (s : State) {o : Nat} (ho : reportReg o = true) : s.ReportsOnly (s.count o) := setReg s _ ho

theorem setBit (s : State) {o : Nat} (i : Nat) (b : Bool) (ho : reportReg o = true) : s.ReportsOnly (s.setBit o i b) :=
  ite (setReg s _ ho) (setReg s _ ho)

theorem raiseTo (s : State) {o : Nat} (v : Nat) (ho : reportReg o = true) : s.ReportsOnly (s.raiseTo o v) :=
  ite (setReg s _ ho) (refl s)

theorem reportReg_evt {p : Nat} (hp : p % 0x1000 = 0) : reportReg (R.xx_EVT p) = true := by
  simp [reportReg, Nat.add_mod, hp]

theorem reportReg_flt {p : Nat} (hp : p % 0x1000 = 0) : reportReg (R.xx_FLT p) = true := by
  simp [reportReg, Nat.add_mod, hp]

theorem reportReg_hicPend {i : Nat} (hi : i < 16) : reportReg (R.HIC_PEND i) = true := by
  have h : R.HIC_PEND i < R.HIC_PEND 16 := by simp only [R.HIC_PEND]; omega
  simp [reportReg, h]

theorem reportReg_schedCur : ∀ {h : Nat}, h < 8 → reportReg (R.HART_SCHED_CUR h) = true := by decide

theorem reportReg_depthMax : ∀ {h : Nat}, h < 8 → reportReg (R.HART_CNT_DEPTH_MAX h) = true := by decide

/-! ### Faults, memory, trace -/

theorem faultInj (s : State) {p : Nat} (b : Nat) (inj : Bool) (hp : p % 0x1000 = 0) : s.ReportsOnly (s.faultInj p b inj) :=
  trans (setBit s b true (reportReg_flt hp))
    (ite (count _ (o := R.FLT_FENCE_SUPPRESSED) (by decide)) ⟨fun _ _ => rfl, rfl⟩)

theorem devFault (s : State) (src : Nat) (inj : Bool) : s.ReportsOnly (s.devFault src inj) := ⟨fun _ _ => rfl, rfl⟩

theorem setMem (s : State) (a : Nat) (d : List Byte) : s.ReportsOnly (s.setMem a d) := by
  induction d generalizing s a with
  | nil => exact refl s
  | cons b t ih => exact trans (t := s.setMemByte a b) ⟨fun _ _ => rfl, rfl⟩ (ih _ _)

theorem setTraceLost (s : State) (pat : Bool) (n : Nat) : s.ReportsOnly (s.setTraceLost pat n) := by
  cases pat <;> exact ⟨fun _ _ => rfl, rfl⟩

/-- The registers of a trace stream lie on the TRACE page. -/
theorem reportReg_trace : ∀ pat : Bool, reportReg (trReg pat R.TRACE_S_WR R.TRACE_P_WR) = true ∧
    reportReg (trReg pat R.TRACE_S_MAX R.TRACE_P_MAX) = true ∧ reportReg (trReg pat R.TRACE_S_LOST R.TRACE_P_LOST) = true ∧
    reportReg (if pat then F.TRACE_CTRL_P_EN else F.TRACE_CTRL_S_EN).off = true := by decide

theorem traceStore (s : State) (pat : Bool) (w0 w1 w2 : Nat) : s.ReportsOnly (s.traceStore pat w0 w1 w2) := by
  obtain ⟨hwr, hmax, -, hen⟩ := reportReg_trace pat
  unfold State.traceStore
  refine ite (trans (faultInj s (p := P.TRACE) _ _ (by decide)) (setFlag _ _ hen)) ?_
  exact trans (trans (trans (setMem s _ _) (setReg _ _ hwr)) (raiseTo _ _ hmax))
    (count _ (o := R.xx_BLK_COUNT P.TRACE) (by decide))

/-! ### Tasks, pulses, events -/

theorem setTask (s : State) (k : Nat) (t : Task) : s.ReportsOnly (s.setTask k t) := ⟨fun _ _ => rfl, rfl⟩

theorem makeReady (s : State) (k : Nat) (front timedOut : Bool) : s.ReportsOnly (s.makeReady k front timedOut) :=
  ⟨fun _ _ => rfl, rfl⟩

theorem testReady (s : State) (k : Nat) : s.ReportsOnly (s.testReady k).2 := by
  unfold State.testReady
  dsimp only
  split
  · exact makeReady s k false false
  · exact refl s

theorem setFlagQuiet (s : State) (k f : Nat) : s.ReportsOnly (s.setFlagQuiet k f) :=
  (setTask s k _).trans (testReady _ k)

section
variable {setf : State → Nat → Nat → State} (hf : ∀ (s : State) (k f : Nat), s.ReportsOnly (setf s k f))
include hf

theorem pulseWith (s : State) {i : Nat} (hi : i < 512) : s.ReportsOnly (State.pulseWith setf s i) :=
  trans (setBit s (i % 32) true (reportReg_hicPend (by omega))) (ite (hf _ _ _) (refl _))

theorem eventWith (s : State) {p : Nat} (b : Nat) (hp : p % 0x1000 = 0) : s.ReportsOnly (State.eventWith setf s p b) := by
  refine trans (setBit s b true (reportReg_evt hp)) (ite (foldl _ (fun t i hi => pulseWith hf t ?_) _) (refl _))
  exact List.mem_range.mp (List.mem_filter.mp hi).1

end

theorem traceRecord (s : State) (pat : Bool) (w0 w1 w2 : Nat) : s.ReportsOnly (s.traceRecord pat w0 w1 w2) := by
  obtain ⟨-, -, hlost, -⟩ := reportReg_trace pat
  unfold State.traceRecord
  refine ite (refl s) ?_
  extract_lets t first u
  have ht : s.ReportsOnly t := ite (trans (traceStore s ..) (setTraceLost _ pat 0)) (refl s)
  have hu : t.ReportsOnly u := trans (setTraceLost t pat _) (count _ hlost)
  exact trans ht (ite (traceStore t ..) (trans hu (ite (eventWith setFlagQuiet u (p := P.TRACE) _ (by decide)) (refl u))))

theorem traceSched (s : State) (ty k unit : Nat) (race : Bool) (w2 : Nat) :
    s.ReportsOnly (s.traceSched ty k unit race w2) := ite (traceRecord s ..) (refl s)

theorem setFlagTraced (src : Nat) (s : State) (k f : Nat) : s.ReportsOnly (State.setFlagTraced src s k f) := by
  unfold State.setFlagTraced
  extract_lets t u v
  have hv : s.ReportsOnly v := trans (setTask s k _) (traceSched u ..)
  have htest := testReady v k
  refine trans hv ?_
  split
  · next w hw =>
    rw [hw] at htest
    exact trans htest (traceSched w ..)
  · next w hw => rwa [hw] at htest

/-! ### Preemption (R292) -/

/-- A hart that a thread preempts is one of the eight. -/
theorem victim_lt {s : State} {k h : Nat} {taken : List Nat} (hv : s.victim k taken = some h) : h < 8 := by
  unfold State.victim at hv
  extract_lets t c at hv
  split at hv
  · cases hv
  · have hc : ∀ g ∈ c, g < 8 := fun g hg => List.mem_range.mp (List.mem_filter.mp hg).1
    refine List.foldlRecOn (motive := fun b : Option Nat => ∀ g, b = some g → g < 8) c _ (by simp) ?_ h hv
    intro b hb g hg x hx
    split at hx
    · cases hx
      exact hc g hg
    · split at hx
      · cases hx
        exact hc g hg
      · exact hb x hx

theorem victims_lt {s : State} {x : Nat × Nat} (hx : x ∈ s.victims) : x.1 < 8 := by
  have h : ∀ y ∈ s.victims, y.1 < 8 := by
    refine List.foldlRecOn (motive := fun l : List (Nat × Nat) => ∀ y ∈ l, y.1 < 8) _ _ (by simp) fun l hl k _ => ?_
    split
    · next h hv =>
      intro y hy
      rcases List.mem_append.mp hy with hy | hy
      · exact hl y hy
      · rw [List.mem_singleton.mp hy]
        exact victim_lt hv
    · exact hl
  exact h x hx

theorem preempt (n : Nat) (s : State) : s.ReportsOnly (s.preempt n) := by
  induction n generalizing s with
  | zero => exact refl s
  | succ n ih =>
    unfold State.preempt
    extract_lets t
    have ht : s.ReportsOnly t := foldl _ (fun u h hh =>
      ite (setFlag u (f := F.HART_SCHED_CUR_PREEMPT_REQ h) false (reportReg_schedCur (List.mem_range.mp hh))) (refl u)) s
    refine trans ht (ite (refl t) ?_)
    split
    · exact refl t
    · next h k hfind =>
      have hh : h < 8 := victims_lt (List.mem_of_find?_eq_some hfind)
      have hreq := setFlag t (f := F.HART_SCHED_CUR_PREEMPT_REQ h) true (reportReg_schedCur hh)
      have hpage : P.HART h % 0x1000 = 0 := by simp only [P.HART]; omega
      exact trans (trans (trans hreq (traceSched _ ..)) (eventWith (setFlagTraced 1) _ _ hpage)) (ih _)

theorem settle (s : State) : s.ReportsOnly s.settle := by
  unfold State.settle
  exact trans (preempt 9 s) (foldl _ (fun u h hh => raiseTo u _ (reportReg_depthMax (List.mem_range.mp hh))) _)

theorem setTaskFlag (src : Nat) (s : State) (k f : Nat) : s.ReportsOnly (State.setTaskFlag src s k f) :=
  trans (setFlagTraced src s k f) (settle _)

theorem event (s : State) {p : Nat} (b : Nat) (hp : p % 0x1000 = 0) : s.ReportsOnly (s.event p b) :=
  eventWith (setTaskFlag 1) s b hp

theorem pulse (s : State) {i : Nat} (hi : i < 512) : s.ReportsOnly (s.pulse i) := pulseWith (setTaskFlag 1) s hi

end State.ReportsOnly

end Sys2Proof.Machine
end

section
/-! PROOFS. Reset, the checked write of the window, a rejection's report. -/

namespace Sys2Proof.Machine

open Sys2Proof

/-! ### The state after reset -/

@[simp] theorem State.reg_reset (o : Nat) : State.reset.reg o = regReset o := rfl

theorem State.mode_reset : State.reset.mode = mBoot := by decide +kernel

theorem State.pstate_reset : ∀ {k : Nat}, k < 64 → State.reset.pstate k = pIdle := by decide +kernel

/-- No hart is enabled after reset (R279). -/
theorem State.hartStat_reset : ∀ {h : Nat}, h < 8 → State.reset.hartStat h = 0 := by decide +kernel

@[simp] theorem State.memByte_reset (a : Nat) : State.reset.memByte a = 0 := rfl

/-- Settles O3: every part of the state is sparse data with nothing listed, so each register, task, frame, byte and hart reads as
its reset value; the mode, the partitions and the harts' ENABLE are read off the register table. -/
theorem resetState : Obligations.ResetState := by
  unfold Obligations.ResetState
  refine ⟨State.mode_reset, State.reg_reset, fun _ => ⟨rfl, rfl, rfl⟩, fun _ => State.pstate_reset, rfl, fun _ => rfl,
    fun _ => State.hartStat_reset, State.memByte_reset, fun _ => rfl, rfl⟩

/-- Settles O60: neither DRAM nor the register window lists anything after reset. -/
theorem resetIsCanonical : Obligations.ResetIsCanonical := by
  unfold Obligations.ResetIsCanonical
  have hregs : swf regReset State.reset.regs = true := rfl
  refine ⟨?_, rfl, State.memByte_reset⟩
  rw [State.canonical, memWf_reset, hregs, Bool.and_self]

/-! ### Power and reset pins (R24, R330, R483) -/

theorem State.tryBoot_cold {s : State} (hm : s.mode = mCold) (hp : s.dev.pwrgd = true) (hr : s.dev.rstn = true)
    (hc : s.dev.chipReset = false) : s.tryBoot = s.enterBoot := by
  simp [State.tryBoot, hm, hp, hr, hc]

/-- The window for the first kick begins at the entry to BOOT (R330). -/
@[simp] theorem State.kickAt_enterBoot (s : State) : s.enterBoot.monel.kickAt = s.dclk := rfl

/-- PWRGD that takes the part out of COLD moves Monel's `kickAt` to the present DCLK. -/
theorem kickAt_pwrgdAssert {s t : State} (hm : s.mode = mCold) (hr : s.dev.rstn = true) (hc : s.dev.chipReset = false)
    (h : exec .pwrgdAssert s = .next t) : t.monel.kickAt = s.dclk := by
  have hboot : exec .pwrgdAssert s = .next { s with dev := { s.dev with pwrgd := true } }.enterBoot :=
    congrArg done (State.tryBoot_cold (s := { s with dev := { s.dev with pwrgd := true } }) hm rfl hr hc)
  rw [hboot] at h
  cases h
  rfl

/-- A part in COLD one DCLK after its timebase started. -/
def coldPart : State := { State.reset with dclk := 1 }.setFld F.DEV_MODE_MODE mCold

theorem coldPart_mode : coldPart.mode = mCold := by decide +kernel

/-- Refutes O4: at the entry to BOOT the window for the first kick begins again (R330), so PWRGD moves Monel's `kickAt` to the
present DCLK, where the first clause says that PWRGD changes nothing of Monel. In `coldPart` the two differ. -/
theorem not_powerAndResetPins : ¬ Obligations.PowerAndResetPins := by
  unfold Obligations.PowerAndResetPins
  rintro ⟨hpwrgd, -⟩
  have hkick := kickAt_pwrgdAssert coldPart_mode rfl rfl (hpwrgd coldPart coldPart_mode rfl rfl)
  have hold : coldPart.monel.kickAt = 0 := rfl
  have hdclk : coldPart.dclk = 1 := rfl
  rw [State.setFld_monel, hdclk, hold] at hkick
  exact absurd hkick (by decide)

/-! ### Checked writes of the window (R40, R44) -/

theorem State.writeWindow_ok {s : State} {a : Agent} {off : Nat} {full wide : Bool} {v : BitVec 64} {x : Access}
    (hr : s.responds a = true) (hx : s.access a off full wide v = some x)
    (h : s.writeReason a x.group x.page x.align x.rule = none) : s.writeWindow a off full wide v = x.rule.eff s := by
  simp [State.writeWindow, State.windowWrite, State.checkedWrite, hr, hx, h]

theorem State.writeWindow_refused {s : State} {a : Agent} {off : Nat} {full wide : Bool} {v : BitVec 64} {x : Access}
    {e : Reason} (hr : s.responds a = true) (hx : s.access a off full wide v = some x)
    (h : s.writeReason a x.group x.page x.align x.rule = some e) :
    s.writeWindow a off full wide v = x.rule.refused e (s.reject x.page off e) := by
  simp [State.writeWindow, State.windowWrite, State.checkedWrite, hr, hx, h]

theorem State.writeWindow_silent {s : State} {a : Agent} (off : Nat) (full wide : Bool) (v : BitVec 64)
    (hr : s.responds a = false) : s.writeWindow a off full wide v = s := by
  simp [State.writeWindow, hr]

/-- No register and no table lies at a reserved offset (R35). -/
theorem State.access_reserved (s : State) (a : Agent) {off : Nat} (full wide : Bool) (v : BitVec 64)
    (h : reservedOffset off = true) : s.access a off full wide v = none := by
  simp only [reservedOffset, Bool.and_eq_true, Option.isNone_iff_eq_none] at h
  obtain ⟨hp, ht⟩ := h
  simp only [State.access, hp, ht]

theorem State.writeWindow_reserved {s : State} {a : Agent} {off : Nat} (full wide : Bool) (v : BitVec 64)
    (hr : s.responds a = true) (h : reservedOffset off = true) :
    s.writeWindow a off full wide v = s.devFault srcXbarCe false := by
  simp [State.writeWindow, State.windowWrite, hr, s.access_reserved a full wide v h, h]

/-- A 32-bit write is aligned only with all byte enables and at a multiple of 4 (R36). -/
theorem State.access_align {s : State} {a : Agent} {off : Nat} {full : Bool} {v : BitVec 64} {x : Access}
    (hx : s.access a off full false v = some x) (h : full = false ∨ off % 4 ≠ 0) : x.align = false := by
  have hf : (full && off % 4 == 0) = false := by
    rcases h with h | h <;> simp [h]
  unfold State.access at hx
  split at hx
  · next row n o _ =>
    simp only at hx
    split at hx
    · cases hx
    · cases hx
      simpa using hf
  · split at hx
    · cases hx
      simpa [tableAccess, Bool.and_comm] using hf
    · cases hx

theorem State.writeReason_align (s : State) (a : Agent) (g p : Nat) (r : WRule) :
    s.writeReason a g p false r = some .align := rfl

/-! ### A rejection's report (R41, R42) -/

@[simp] theorem State.reg_devFault (s : State) (src : Nat) (inj : Bool) (o : Nat) : (s.devFault src inj).reg o = s.reg o := rfl

/-- The words that a rejection writes on its page. -/
def State.rejectReport (s : State) (p off : Nat) (r : Reason) : State :=
  (((s.setFlag (F.xx_STAT_CONFIG_REJECT p) true).setFld (F.xx_STAT_REJECT_FIELD p)
    (if p ≤ off ∧ off < p + 0x400 then bitsOf off 9 2 else 0xFF)).setReg (R.xx_REJECT_ADDR p)
      (BitVec.ofNat 32 (r.code * 2 ^ 28 + off % 2 ^ 26))).count (R.xx_REJECT_COUNT p)

/-- A rejection is its report, and the crossbar's fault for AGENT and OWNER. -/
theorem State.reject_eq (s : State) (p off : Nat) (r : Reason) : s.reject p off r =
    if r = .agent ∨ r = .owner then (s.rejectReport p off r).devFault srcXbarCe false else s.rejectReport p off r := by
  cases r <;> rfl

theorem State.reg_reject (s : State) (p off : Nat) (r : Reason) (o : Nat) :
    (s.reject p off r).reg o = (s.rejectReport p off r).reg o := by
  rw [State.reject_eq]
  split
  · exact State.reg_devFault _ _ _ o
  · rfl

theorem State.flag_reject_configReject (s : State) (p off : Nat) (r : Reason) :
    (s.reject p off r).flag (F.xx_STAT_CONFIG_REJECT p) = true := by
  have hstat : (s.reject p off r).reg (R.xx_STAT p) = ((s.setFlag (F.xx_STAT_CONFIG_REJECT p) true).setFld
      (F.xx_STAT_REJECT_FIELD p) (if p ≤ off ∧ off < p + 0x400 then bitsOf off 9 2 else 0xFF)).reg (R.xx_STAT p) := by
    rw [State.reg_reject, State.rejectReport, State.reg_count_other _ (by simp), State.reg_setReg_other _ _ (by simp)]
  rw [State.flag, State.fld, hstat]
  have h := (s.setFlag (F.xx_STAT_CONFIG_REJECT p) true).fld_setFld_other (f := F.xx_STAT_REJECT_FIELD p)
    (g := F.xx_STAT_CONFIG_REJECT p) (if p ≤ off ∧ off < p + 0x400 then bitsOf off 9 2 else 0xFF) (by simp) (by simp)
  rw [State.fld] at h
  rw [h]
  exact s.flag_setFlag_self (F.xx_STAT_CONFIG_REJECT p) true rfl (by simp)

theorem State.reg_reject_addr (s : State) (p : Nat) {off : Nat} (r : Reason) (h : off < 2 ^ 26) :
    (s.reject p off r).reg (R.xx_REJECT_ADDR p) = BitVec.ofNat 32 (r.code * 2 ^ 28 + off) := by
  rw [State.reg_reject, State.rejectReport, State.reg_count_other _ (by simp), State.reg_setReg_self, Nat.mod_eq_of_lt h]

theorem State.reg_reject_count (s : State) (p off : Nat) (r : Reason) :
    (s.reject p off r).reg (R.xx_REJECT_COUNT p) = BitVec.ofNat 32 (satInc (s.reg (R.xx_REJECT_COUNT p)).toNat) := by
  rw [State.reg_reject, State.rejectReport, State.count, State.reg_setReg_self, State.reg_setReg_other _ _ (by simp),
    State.reg_setFld_other _ _ (by simp), State.reg_setFlag_other _ _ (by simp)]

theorem State.waiting_devFault (s : State) (src : Nat) (inj : Bool) :
    (s.devFault src inj).monel.waiting = s.monel.waiting ++ [⟨src, 0, inj, nativeOf src⟩] := rfl

theorem State.monel_rejectReport (s : State) (p off : Nat) (r : Reason) : (s.rejectReport p off r).monel = s.monel := by
  rw [State.rejectReport, State.count_monel, State.setReg_monel, State.setFld_monel, State.setFlag_monel]

theorem State.waiting_reject (s : State) (p off : Nat) (r : Reason) : (s.reject p off r).monel.waiting =
    if r = .agent ∨ r = .owner then s.monel.waiting ++ [⟨srcXbarCe, 0, false, nativeOf srcXbarCe⟩] else s.monel.waiting := by
  rw [State.reject_eq]
  split
  · rw [State.waiting_devFault, State.monel_rejectReport]
  · rw [State.monel_rejectReport]

/-- Settles O11: each write command is one write of the window, which its access and the checks of R44 decide; a rejection's
report is read off the words that it writes. -/
theorem registerWritesAreCheckedWhole : Obligations.RegisterWritesAreCheckedWhole := by
  unfold Obligations.RegisterWritesAreCheckedWhole
  refine ⟨?_, ?_, ?_, ?_, ?_, ?_, ?_, ?_⟩
  · intro s a off be v x hr hx h
    rw [exec_registerWrite, execRegisterWrite, State.writeWindow_ok hr hx h]
  · intro s a off be v x e hr hx h
    rw [exec_registerWrite, execRegisterWrite, State.writeWindow_refused hr hx h]
  · intro s a off be v w b hr
    rw [exec_registerWrite, execRegisterWrite, exec_tableWrite, execTableWrite, exec_shadowWrite, execShadowWrite,
      exec_reservedWrite, execReservedWrite, State.writeReg, State.writeWindow_silent _ _ _ _ hr,
      State.writeWindow_silent _ _ _ _ hr, State.writeWindow_silent _ _ _ _ hr]
    exact ⟨rfl, rfl, rfl, rfl⟩
  · intro s a off v hr h
    rw [exec_reservedWrite, execReservedWrite, State.writeReg, State.writeWindow_reserved _ _ _ hr h]
  · intro s a off v x hr hx h
    rw [exec_shadowWrite, execShadowWrite, State.writeReg, State.writeWindow_ok hr hx h]
  · intro s a off w b x hr hx h
    rw [exec_tableWrite, execTableWrite, State.writeWindow_ok hr hx h]
  · intro s a off be v x hx h
    rw [State.access_align hx (by simpa using h), State.writeReason_align]
  · intro s row n off r _ _ hoff
    exact ⟨s.flag_reject_configReject _ off r, s.reg_reject_addr _ r hoff, s.reg_reject_count _ off r,
      s.waiting_reject _ off r⟩

end Sys2Proof.Machine
end

section
/-! PROOFS. The boot ROM and the mode requests (R23 to R25, R489, R490). -/

namespace Sys2Proof.Machine

open Sys2Proof

/-! ### What the steps of the boot ROM leave alone -/

theorem State.event_dev (s : State) {p : Nat} (b : Nat) (hp : p % 0x1000 = 0) : (s.event p b).dev = s.dev :=
  (ReportsOnly.event s b hp).dev

/-- What the choice of an image reads of the state: the device behind the registers, and DEV_BOOT_PREF. -/
structure State.SameBootInputs (s t : State) : Prop where
  dev : t.dev = s.dev
  pref : t.reg R.DEV_BOOT_PREF = s.reg R.DEV_BOOT_PREF

namespace State.SameBootInputs

theorem refl (s : State) : s.SameBootInputs s := ⟨rfl, rfl⟩

theorem trans {s t u : State} (h : s.SameBootInputs t) (h' : t.SameBootInputs u) : s.SameBootInputs u :=
  ⟨h'.dev.trans h.dev, h'.pref.trans h.pref⟩

theorem ite {s t u : State} {c : Prop} [Decidable c] (ht : s.SameBootInputs t) (hu : s.SameBootInputs u) :
    s.SameBootInputs (if c then t else u) := by
  split
  · exact ht
  · exact hu

theorem ofReports {s t : State} (h : s.ReportsOnly t) : s.SameBootInputs t := ⟨h.dev, h.reg _ (by decide)⟩

theorem setReg (s : State) {o : Nat} (v : Word) (ho : R.DEV_BOOT_PREF ≠ o) : s.SameBootInputs (s.setReg o v) :=
  ⟨rfl, s.reg_setReg_other v ho⟩

theorem setFld (s : State) {f : Fld} (v : Nat) (ho : R.DEV_BOOT_PREF ≠ f.off) : s.SameBootInputs (s.setFld f v) := setReg s _ ho

theorem setTime (s : State) (t : Time) : s.SameBootInputs (s.setTime t) := ⟨rfl, rfl⟩

theorem event (s : State) {p : Nat} (b : Nat) (hp : p % 0x1000 = 0) : s.SameBootInputs (s.event p b) :=
  ofReports (.event s b hp)

theorem devFault (s : State) (src : Nat) (inj : Bool) : s.SameBootInputs (s.devFault src inj) := ofReports (.devFault s src inj)

theorem setSstate (s : State) (x : Nat) : s.SameBootInputs (s.setSstate x) := by
  unfold State.setSstate
  extract_lets old t u v
  have ht : s.SameBootInputs t := trans (setFld s (f := F.TIME_STAT_SSTATE) x (by decide))
    (setFld _ (f := F.TIME_STAT_LOCKED) _ (by decide))
  have hu : t.SameBootInputs u := ite (event t (p := P.TIME) _ (by decide)) (refl t)
  refine ite (refl s) (trans (trans ht hu) (ite (event u (p := P.TIME) _ (by decide)) (ite ?_ (refl u))))
  exact trans (setTime u _) (event _ (p := P.TIME) _ (by decide))

theorem tpllLock (s : State) (us : Nat) : s.SameBootInputs (s.tpllLock us) := by
  unfold State.tpllLock
  extract_lets src t u v
  have hu : s.SameBootInputs u := trans (setTime s _) (setReg t (o := R.CLK_TPLL) _ (by decide))
  have hv : u.SameBootInputs v := trans (setReg u (o := R.xx_BLK_COUNT P.CLK) _ (by decide))
    (event _ (p := P.CLK) _ (by decide))
  exact trans (trans hu hv) (ite (setSstate v _) (refl v))

theorem startClocks (s : State) (b : BootInputs) : s.SameBootInputs (s.startClocks b) := by
  unfold State.startClocks
  extract_lets t u
  have ht : s.SameBootInputs t := setFld s (f := F.CLK_REF_XTAL_OK) _ (by decide)
  have hu : t.SameBootInputs u := ite (trans (trans (setReg t (o := R.CLK_SPLL) _ (by decide))
    (setFld _ (f := F.CLK_MCLK_SRC) _ (by decide))) (setFld _ (f := F.CLK_REF_TREF_OK) _ (by decide))) (devFault t _ _)
  exact trans (trans ht hu) (ite (trans (tpllLock u _) (setFld _ (f := F.CLK_REF_TREF_OK) _ (by decide))) (devFault u _ _))

end State.SameBootInputs

/-! ### The patch leaves the device behind the registers alone -/

theorem State.setStore_dev (s : State) (n : Nat) (x : Store) : (s.setStore n x).dev = s.dev := rfl

theorem State.fault_dev (s : State) {p : Nat} (b : Nat) (hp : p % 0x1000 = 0) : (s.fault p b).dev = s.dev :=
  (ReportsOnly.faultInj s b false hp).dev

theorem State.ploadWord_dev (s : State) (v : Word) : (s.ploadWord v).dev = s.dev := by
  unfold State.ploadWord
  extract_lets key t
  have ht : t.dev = s.dev := by
    refine List.foldlRecOn (motive := fun u : State => u.dev = s.dev) (List.range 16) _ rfl fun u hu n _ => ?_
    split
    · rw [State.setStore_dev, hu]
    · exact hu
  rw [State.setFld_dev]
  exact ht

theorem State.ploadFin_dev (s : State) (x maj minor : Nat) : (s.ploadFin x maj minor).dev = s.dev := by
  unfold State.ploadFin
  dsimp only
  split
  · rw [State.event_dev _ _ (by decide), State.setFld_dev, State.setFld_dev, State.setFld_dev, State.setFld_dev]
  · rw [State.fault_dev _ _ (by decide), State.setFld_dev, State.setFld_dev, State.setFld_dev, State.setFld_dev]

theorem State.ploadAt_dev (s : State) (x : Nat × Word) : (s.ploadAt x).dev = s.dev := by
  rw [State.ploadAt, State.ploadWord_dev, State.setFld_dev, State.setFld_dev]

theorem State.loadPatch_dev (s : State) (p : Option PatchImage) : (s.loadPatch p).dev = s.dev := by
  unfold State.loadPatch
  extract_lets t
  have ht : t.dev = s.dev := State.setFld_dev s _ _
  cases p with
  | none => exact (State.ploadFin_dev t 2 0 0).trans ht
  | some p =>
    dsimp only
    split
    · rw [State.ploadFin_dev, State.setReg_dev]
      exact List.foldlRecOn (motive := fun u : State => u.dev = s.dev) _ State.ploadAt ht
        fun u hu x _ => (State.ploadAt_dev u x).trans hu
    · exact (State.ploadFin_dev t _ 0 0).trans ht

/-! ### The image that runs (R489) -/

theorem State.loadMgmt_dev (s : State) (img : BootImage) : (s.loadMgmt img).dev = s.dev := rfl

theorem State.loadMgmt_pc (s : State) (img : BootImage) :
    ((s.loadMgmt img).hart 8).pc = BitVec.ofNat 64 (0x10000000 + img.entry.toNat) := by
  unfold State.loadMgmt
  rw [State.hart_setHart_self]

/-- The image that runs locks the key engine, ends the ROM's run, and starts MGMT at its entry. -/
theorem State.runImage_spec (s : State) (b : BootInputs) (img : BootImage) (code : Nat) (fallback : Bool) :
    (s.runImage b img code fallback).dev.keyLocked = true ∧ (s.runImage b img code fallback).dev.booted = true ∧
    (s.runImage b img code fallback).dev.shadow = s.dev.shadow ∧
    ((s.runImage b img code fallback).hart 8).pc = BitVec.ofNat 64 (0x10000000 + img.entry.toNat) := by
  unfold State.runImage
  extract_lets t u src v w
  have ht : t.dev = s.dev := by
    unfold t
    split <;> rfl
  have hw : w.dev = { u.dev with keyLocked := true, booted := true } := by
    unfold w
    rw [State.setFlag_dev, State.setFld_dev]
  have hu : u.dev = s.dev := (State.loadPatch_dev t b.patch).trans ht
  rw [State.loadMgmt_pc, State.loadMgmt_dev, State.setReg_dev, hw, hu]
  exact ⟨rfl, rfl, rfl, rfl⟩

/-- With FIRST = 1 and a valid image A, A runs. -/
theorem State.chooseImage_first {s : State} {b : BootInputs} (hf : s.fld F.DEV_BOOT_PREF_FIRST = 1)
    (ha : imageValid b.imageA s.dev.shadow = true) :
    s.chooseImage b = (s.setFld F.DEV_BOOT_PREF_FIRST 0).runImage b b.imageA 1 false := by
  have hA : s.firstIsA b.imageA b.imageB = true := by simp [State.firstIsA, hf]
  simp [State.chooseImage, hA, ha]

/-- With FIRST = 1, image A not valid and image B valid, B runs as the fallback. -/
theorem State.chooseImage_other {s : State} {b : BootInputs} (hf : s.fld F.DEV_BOOT_PREF_FIRST = 1)
    (ha : imageValid b.imageA s.dev.shadow = false) (hb : imageValid b.imageB s.dev.shadow = true) :
    s.chooseImage b = (s.setFld F.DEV_BOOT_PREF_FIRST 0).runImage b b.imageB 2 true := by
  have hA : s.firstIsA b.imageA b.imageB = true := by simp [State.firstIsA, hf]
  simp [State.chooseImage, hA, ha, hb]

/-- In lifecycle PROVISIONED or FIELD the ROM's run comes to the choice of an image, with the fuses in the shadow and FIRST as it
was. -/
theorem bootRomSequence_chooses {s : State} {b : BootInputs} (hm : s.mode = mBoot) (hn : s.dev.booted = false)
    (hd : b.fuseDouble = false) (hlc : s.dev.fuses.lcCode = 1 ∨ s.dev.fuses.lcCode = 2) :
    ∃ t : State, exec (.bootRomSequence b) s = .next (t.chooseImage b) ∧ t.dev.shadow = s.dev.fuses ∧
      t.fld F.DEV_BOOT_PREF_FIRST = s.fld F.DEV_BOOT_PREF_FIRST := by
  rw [exec_bootRomSequence, execBootRomSequence]
  extract_lets src u v lc
  have hv : u.SameBootInputs v := .ite (.trans (.setReg u (o := R.xx_CE_COUNT P.FUSE) _ (by decide)) (.devFault _ _ _)) (.refl u)
  have hclk : u.SameBootInputs (v.startClocks b) := hv.trans (.startClocks v b)
  have hcode : lc = s.dev.fuses.lcCode := by
    unfold lc
    rw [hv.dev]
  have hlive : (lc == 0 || lc == 3) = false := by
    rw [hcode]
    rcases hlc with h | h <;> rw [h] <;> rfl
  have hrun : (s.mode != mBoot || s.dev.booted) = false := by
    rw [hm, hn]
    rfl
  refine ⟨v.startClocks b, ?_, ?_, ?_⟩
  · rw [hrun, hd, hlive]
    rfl
  · rw [hclk.dev]
  · rw [State.fld, State.fld, hclk.pref]
    rfl

/-! ### Writes of DEV_BOOT (R490) -/

/-- DEV_BOOT is a register of MGMT alone. -/
theorem devBoot_agent {s : State} {a : Agent} (v : Word) (hr : s.responds a = true) (ha : a ≠ .mgmt) :
    s.writeBy a .dev P.DEV R.DEV_BOOT (devBootRule a v s) = s.reject P.DEV R.DEV_BOOT .agent := by
  have hrule : (devBootRule a v s).agentOk = false := by simpa [devBootRule] using ha
  have hreason : s.writeReason a (pageGroup .dev) P.DEV true (devBootRule a v s) = some .agent := by
    simp [State.writeReason, hrule, firstReason]
  rw [State.writeBy, if_pos hr, State.checkedWrite, hreason]
  rfl

theorem devBootDone_agent {s : State} {a : Agent} (hr : s.responds a = true) (ha : a ≠ .mgmt) :
    exec (.devBootDone a) s = .next (s.reject P.DEV R.DEV_BOOT .agent) := by
  rw [exec_devBootDone, execDevBootDone, devBoot_agent _ hr ha]

theorem devBootTrained_agent {s : State} {a : Agent} (hr : s.responds a = true) (ha : a ≠ .mgmt) :
    exec (.devBootTrained a) s = .next (s.reject P.DEV R.DEV_BOOT .agent) := by
  rw [exec_devBootTrained, execDevBootTrained, devBoot_agent _ hr ha]

/-- DONE moves the device to TRAIN. -/
theorem devBootRule_done (a : Agent) (s t : State) : (devBootRule a 0x80000000 s).eff t = t.setMode mTrain := by
  simp [devBootRule]

/-- TRAINED moves the device to READY. -/
theorem devBootRule_trained (a : Agent) (s t : State) : (devBootRule a 0x40000000 s).eff t = t.setMode mReady := by
  simp [devBootRule]

/-- DONE in BOOT begins TRAIN. -/
theorem devBootDone_ok {s : State} (h : s.admits .mgmt .dev P.DEV = true) (hm : s.mode = mBoot) :
    exec (.devBootDone .mgmt) s = .next (s.setMode mTrain) := by
  have hstate : (devBootRule .mgmt 0x80000000 s).stateOk = true := by simp [devBootRule, hm]
  rw [exec_devBootDone, execDevBootDone, State.writeBy_ok _ _ h rfl rfl hstate rfl rfl, devBootRule_done]

/-- DONE in another mode is rejected. -/
theorem devBootDone_state {s : State} (h : s.admits .mgmt .dev P.DEV = true) (hm : s.mode ≠ mBoot) :
    exec (.devBootDone .mgmt) s = .next (s.reject P.DEV R.DEV_BOOT .state) := by
  have hstate : (devBootRule .mgmt 0x80000000 s).stateOk = false := by simp [devBootRule, hm]
  rw [exec_devBootDone, execDevBootDone, State.writeBy_refused _ _ .state h (by rw [hstate]; rfl)]
  rfl

/-- TRAINED in TRAIN makes the device READY once the map is valid and the ports have settled. -/
theorem devBootTrained_ok {s : State} (h : s.admits .mgmt .dev P.DEV = true) (hm : s.mode = mTrain)
    (hmap : s.flag F.ALLOC_MAP_VALID = true) (hports : s.portsSettled = true) :
    exec (.devBootTrained .mgmt) s = .next (s.setMode mReady) := by
  have hstate : (devBootRule .mgmt 0x40000000 s).stateOk = true := by simp [devBootRule, hm, hmap, hports]
  rw [exec_devBootTrained, execDevBootTrained, State.writeBy_ok _ _ h rfl rfl hstate rfl rfl, devBootRule_trained]

/-! ### Requests of DEV_MODE (R23, R24) -/

/-- REQ of the word that requests mode `r`. -/
theorem req_word : ∀ {r : Nat}, r < 16 → bitsOf (BitVec.ofNat 32 (r * 4096)).toNat 15 12 = r := by decide

/-- A request that R24 lists, made under its precondition while BUSY is 0, takes effect. -/
theorem State.requestMode_ok {s : State} {a : Agent} {r : Nat} (h : s.admits a .dev P.DEV = true)
    (hb : s.flag F.DEV_MODE_BUSY = false) (hr : r < 16) (hacc : reqAccepted r = true) (hal : s.reqAllowed r = true) :
    s.requestMode a r = s.modeRequest r := by
  have hreq := req_word hr
  rw [State.requestMode, State.writeBy_ok _ _ h rfl rfl _ rfl _]
  · simp only [devModeRule, hreq]
  · simp only [devModeRule, hreq, hb, hal, Bool.or_true, Bool.and_true, Bool.not_false]
  · simp only [devModeRule, hreq, hacc]

/-- A request made while BUSY is 1 is rejected with STATE, and is an event of the page. -/
theorem State.requestMode_busy {s : State} {a : Agent} (r : Nat) (h : s.admits a .dev P.DEV = true)
    (hb : s.flag F.DEV_MODE_BUSY = true) :
    s.requestMode a r = (s.reject P.DEV R.DEV_MODE .state).event P.DEV E.DEV_REJECT := by
  rw [State.requestMode, State.writeBy_refused _ _ .state h _]
  · rfl
  · simp [devModeRule, hb, firstReason]

/-- CALIBRATE and SERVICE are reached from READY and MEASURE while every partition is IDLE (R24). -/
theorem devModeReq_maintenance {s : State} {a : Agent} (h : s.admits a .dev P.DEV = true)
    (hb : s.flag F.DEV_MODE_BUSY = false) (hm : s.mode = mReady ∨ s.mode = mMeasure) (hi : s.allIdle = true) :
    exec (.devModeReqCalibrate a) s = .next (s.stopMeasurement.setMode mCalibrate) ∧
    exec (.devModeReqService a) s = .next (s.stopMeasurement.setMode mService) := by
  have hne : (3 == s.mode) = false ∧ (8 == s.mode) = false := by
    rcases hm with hm | hm <;> simp [hm]
  have hal : s.reqAllowed 3 = true ∧ s.reqAllowed 8 = true := by
    rcases hm with hm | hm <;> simp [State.reqAllowed, hm, hi]
  rw [exec_devModeReqCalibrate, execDevModeReqCalibrate, exec_devModeReqService, execDevModeReqService,
    State.requestMode_ok h hb (by decide) (by decide) hal.1, State.requestMode_ok h hb (by decide) (by decide) hal.2]
  simp [State.modeRequest, hne]

/-- DIAGNOSE is reached from READY while every partition is IDLE (R24). -/
theorem devModeReqDiagnose_ok {s : State} {a : Agent} (h : s.admits a .dev P.DEV = true)
    (hb : s.flag F.DEV_MODE_BUSY = false) (hm : s.mode = mReady) (hi : s.allIdle = true) :
    exec (.devModeReqDiagnose a) s = .next (s.setMode mDiagnose) := by
  rw [exec_devModeReqDiagnose, execDevModeReqDiagnose,
    State.requestMode_ok h hb (by decide) (by decide) (by simp [State.reqAllowed, hm, hi])]
  simp [State.modeRequest, hm]

/-- READY is allowed in READY, CALIBRATE, DIAGNOSE and SERVICE, and its effect goes by the mode that is left (R24, R25). -/
theorem devModeReqReady_ok {s : State} {a : Agent} (h : s.admits a .dev P.DEV = true)
    (hb : s.flag F.DEV_MODE_BUSY = false)
    (hm : s.mode = mReady ∨ s.mode = mCalibrate ∨ s.mode = mDiagnose ∨ s.mode = mService) :
    exec (.devModeReqReady a) s = .next (if s.mode = mReady then s else if s.mode = mCalibrate then s.calAbandon
      else s.diagEnd.disableMeasurement.setMode mReady) := by
  have hal : s.reqAllowed 4 = true := by
    rcases hm with hm | hm | hm | hm <;> simp [State.reqAllowed, hm]
  rw [exec_devModeReqReady, execDevModeReqReady, State.requestMode_ok h hb (by decide) (by decide) hal]
  rcases hm with hm | hm | hm | hm <;> simp [State.modeRequest, State.leaveMaintenance, hm]

theorem devModeReqReady_busy {s : State} {a : Agent} (h : s.admits a .dev P.DEV = true)
    (hb : s.flag F.DEV_MODE_BUSY = true) :
    exec (.devModeReqReady a) s = .next ((s.reject P.DEV R.DEV_MODE .state).event P.DEV E.DEV_REJECT) := by
  rw [exec_devModeReqReady, execDevModeReqReady, State.requestMode_busy _ h hb]

/-- A request of DOZE or HIBERNATE in READY with no wake latch set begins the sleep entry (R494). -/
theorem devModeReq_sleep {s : State} {a : Agent} (h : s.admits a .dev P.DEV = true) (hb : s.flag F.DEV_MODE_BUSY = false)
    (hm : s.mode = mReady) (hw : s.reg R.PWR_WAKE_STAT = 0) :
    exec (.devModeReqDoze a) s = .next (s.sleepRequest mDoze) ∧
    exec (.devModeReqHibernate a) s = .next (s.sleepRequest mHibernate) := by
  have hal : s.reqAllowed 9 = true ∧ s.reqAllowed 10 = true := by simp [State.reqAllowed, hm, hw]
  rw [exec_devModeReqDoze, execDevModeReqDoze, exec_devModeReqHibernate, execDevModeReqHibernate,
    State.requestMode_ok h hb (by decide) (by decide) hal.1, State.requestMode_ok h hb (by decide) (by decide) hal.2]
  simp [State.modeRequest, hm]

/-- Settles O5: the ROM's clock steps leave the fuse shadow and FIRST alone, so it chooses the image that R489 names; each write of
DEV_BOOT and DEV_MODE goes through the checks of its rule. -/
theorem bootAndModes : Obligations.BootAndModes := by
  unfold Obligations.BootAndModes
  refine ⟨?_, ?_, fun _ => devBootDone_ok, fun _ => devBootDone_state,
    fun _ _ hr ha => ⟨devBootDone_agent hr ha, devBootTrained_agent hr ha⟩, fun _ => devBootTrained_ok,
    fun _ _ => devModeReq_maintenance, fun _ _ => devModeReqDiagnose_ok, ?_, ?_, ?_, fun _ _ => devModeReqReady_busy,
    fun _ _ => devModeReq_sleep⟩
  · intro s b hm hn hd hlc hf ha
    obtain ⟨t, ht, hshadow, hpref⟩ := bootRomSequence_chooses hm hn hd hlc
    rw [State.chooseImage_first (hpref.trans hf) (by rw [hshadow, ha])] at ht
    obtain ⟨hlocked, hbooted, hsh, hpc⟩ := (t.setFld F.DEV_BOOT_PREF_FIRST 0).runImage_spec b b.imageA 1 false
    exact ⟨_, ht, hlocked, hbooted, hsh.trans hshadow, hpc⟩
  · intro s b hm hn hd hlc hf ha hb
    obtain ⟨t, ht, hshadow, hpref⟩ := bootRomSequence_chooses hm hn hd hlc
    rw [State.chooseImage_other (hpref.trans hf) (by rw [hshadow, ha]) (by rw [hshadow, hb])] at ht
    obtain ⟨hlocked, hbooted, -, hpc⟩ := (t.setFld F.DEV_BOOT_PREF_FIRST 0).runImage_spec b b.imageB 2 true
    exact ⟨_, ht, hlocked, hbooted, hpc⟩
  · intro s a h hb hm
    rw [devModeReqReady_ok h hb (.inr (.inr hm))]
    rcases hm with hm | hm <;> simp [hm]
  · intro s a h hb hm
    rw [devModeReqReady_ok h hb (.inr (.inl hm))]
    simp [hm]
  · intro s a h hb hm
    rw [devModeReqReady_ok h hb (.inl hm), if_pos hm]

end Sys2Proof.Machine
end

section
/-! PROOFS. What a rejection leaves alone (R40, R41). -/

namespace Sys2Proof.Machine

open Sys2Proof

/-- The report of a rejection writes registers, and nothing else. -/
theorem State.rejectReport_frame (s : State) (p off : Nat) (r : Reason) :
    ∃ regs, s.rejectReport p off r = { s with regs := regs } := by
  simp only [State.rejectReport, State.setFlag, State.setFld, State.count, State.setReg]
  exact ⟨_, rfl⟩

/-- A rejection writes registers and what waits for Monel, and nothing else. -/
theorem State.reject_frame (s : State) (p off : Nat) (r : Reason) :
    ∃ regs monel, s.reject p off r = { s with regs := regs, monel := monel } := by
  obtain ⟨regs, hregs⟩ := s.rejectReport_frame p off r
  rw [State.reject_eq, hregs]
  split
  · exact ⟨_, _, rfl⟩
  · exact ⟨_, _, rfl⟩

/-- Of the registers a rejection writes the three words of its report. -/
theorem State.regsButFor_reject (s : State) (p off : Nat) (r : Reason) :
    s.regsButFor (s.reject p off r) [R.xx_STAT p, R.xx_REJECT_ADDR p, R.xx_REJECT_COUNT p] := by
  intro o ho
  simp only [List.mem_cons, List.not_mem_nil, or_false, not_or] at ho
  obtain ⟨hstat, haddr, hcount⟩ := ho
  rw [State.reg_reject, State.rejectReport, State.reg_count_other _ hcount, State.reg_setReg_other _ _ haddr,
    State.reg_setFld_other _ _ hstat, State.reg_setFlag_other _ _ hstat]

/-- Settles O12: the write is the rejection alone, and a rejection writes its report and what waits for Monel. -/
theorem rejectedWriteChangesNothingElse : Obligations.RejectedWriteChangesNothingElse := by
  unfold Obligations.RejectedWriteChangesNothingElse
  rintro s t a off be v x hr hx ⟨e, he, hrefused⟩ hexec
  have ht : t = s.reject x.page off.toNat e := by
    rw [exec_registerWrite, execRegisterWrite, State.writeWindow_refused hr hx he, hrefused] at hexec
    cases hexec
    rfl
  have hregs := s.regsButFor_reject x.page off.toNat e
  obtain ⟨regs, monel, hframe⟩ := s.reject_frame x.page off.toNat e
  rw [← ht] at hregs hframe
  refine ⟨hregs, ?_⟩
  rw [hframe]
  exact ⟨rfl, rfl, rfl, rfl, rfl, rfl, rfl⟩

end Sys2Proof.Machine
end

section
/-! PROOFS. The pages of the window, the rows of the common header, block reset (R33, R34, R38 to R58, R476, R484). -/

namespace Sys2Proof.Machine

open Sys2Proof

/-! ### The pages of the window (R33, R34) -/

/-- The pages lie one after another, none over another. -/
theorem pageRows_disjoint : pageRows.Pairwise (fun r q => r.base + 0x1000 * r.count ≤ q.base) := by decide

/-- An offset within page `n` of a row is on that page. -/
theorem pageAt_row {row : PageRow} {n o : Nat} (hrow : row ∈ pageRows) (hn : n < row.count) (ho : o < 0x1000) :
    pageAt (row.base + 0x1000 * n + o) = some (row, n, o) := by
  obtain ⟨before, after, hrows⟩ := List.append_of_mem hrow
  have hbefore : ∀ q ∈ before, q.base + 0x1000 * q.count ≤ row.base := fun q hq =>
    (List.pairwise_append.mp (hrows ▸ pageRows_disjoint)).2.2 q hq row (by simp)
  have hfind : pageRows.find? (fun r => r.base ≤ row.base + 0x1000 * n + o && row.base + 0x1000 * n + o <
      r.base + 0x1000 * r.count) = some row := by
    refine List.find?_eq_some_iff_append.mpr ⟨?_, before, after, hrows, fun q hq => ?_⟩
    · simp only [Bool.and_eq_true, decide_eq_true_eq]
      omega
    · have hq := hbefore q hq
      simp only [Bool.not_eq_true', Bool.and_eq_false_iff, decide_eq_false_iff_not]
      omega
  have hpage : (row.base + 0x1000 * n + o - row.base) / 0x1000 = n := by omega
  have hoff : (row.base + 0x1000 * n + o - row.base) % 0x1000 = o := by omega
  rw [pageAt, hfind]
  simp only [hpage, hoff]

theorem pageAt_base {row : PageRow} {n : Nat} (hrow : row ∈ pageRows) (hn : n < row.count) :
    pageAt (row.base + 0x1000 * n) = some (row, n, 0) := pageAt_row (o := 0) hrow hn (by decide)

/-- The page of an ordinal is a page of a row. -/
theorem row_of_pageOfOrdinal {i p : Nat} (h : pageOfOrdinal i = some p) :
    ∃ row ∈ pageRows, ∃ n, n < row.count ∧ p = row.base + 0x1000 * n := by
  obtain ⟨row, hrow, rfl⟩ := Option.map_eq_some_iff.mp h
  have hi := List.find?_some hrow
  simp only [Bool.and_eq_true, decide_eq_true_eq] at hi
  exact ⟨row, List.mem_of_find?_eq_some hrow, i - row.ordinal, by omega, rfl⟩

theorem pageNo_base {row : PageRow} {n : Nat} (hrow : row ∈ pageRows) (hn : n < row.count) :
    pageNo (row.base + 0x1000 * n) = n := by
  rw [pageNo, pageAt_base hrow hn]
  rfl

theorem pageKind_base {row : PageRow} {n : Nat} (hrow : row ∈ pageRows) (hn : n < row.count) :
    pageKind? (row.base + 0x1000 * n) = some row.kind := by
  rw [pageKind?, pageAt_base hrow hn]
  rfl

/-- The page of an ordinal with its kind: the row it is of, and every offset of it. -/
theorem page_spec {i p : Nat} {k : PageKind} (hp : pageOfOrdinal i = some p) (hk : pageKind? p = some k) :
    ∃ row ∈ pageRows, row.kind = k ∧ pageNo p < row.count ∧ p = row.base + 0x1000 * pageNo p ∧
      ∀ o, o < 0x1000 → pageAt (p + o) = some (row, pageNo p, o) := by
  obtain ⟨row, hrow, n, hn, rfl⟩ := row_of_pageOfOrdinal hp
  rw [pageKind_base hrow hn] at hk
  cases hk
  rw [pageNo_base hrow hn]
  exact ⟨row, hrow, rfl, hn, rfl, fun o ho => pageAt_row hrow hn ho⟩

/-- The page of an ordinal has a kind. -/
theorem pageKind_of_pageOfOrdinal {i p : Nat} (hp : pageOfOrdinal i = some p) : ∃ k, pageKind? p = some k := by
  obtain ⟨row, hrow, n, hn, rfl⟩ := row_of_pageOfOrdinal hp
  exact ⟨row.kind, pageKind_base hrow hn⟩

theorem pageRows_aligned : ∀ row ∈ pageRows, row.base % 0x1000 = 0 := by decide

theorem page_aligned {i p : Nat} (hp : pageOfOrdinal i = some p) : p % 0x1000 = 0 := by
  obtain ⟨row, hrow, n, -, rfl⟩ := row_of_pageOfOrdinal hp
  have hbase := pageRows_aligned row hrow
  omega

/-! ### Writes of the common header (R38) -/

/-- Every page has the rows of the common header first. -/
theorem regRows_header (k : PageKind) : ∃ l, regRows k = headerRows ++ l := by
  cases k <;> exact ⟨_, rfl⟩

theorem headerRows_cover : ∀ o, o < 0x40 → o % 4 = 0 → (headerRows.find? (fun r => r.covers o)).isSome = true := by decide

theorem findRow_header (k : PageKind) {o : Nat} (ho : o < 0x40) (h4 : o % 4 = 0) : (findRow k o).isSome = true := by
  obtain ⟨l, hl⟩ := regRows_header k
  rw [findRow, hl, List.find?_append, Option.isSome_or, headerRows_cover o ho h4, Bool.true_or]

/-- A write of a register of the common header is a checked write under the register's rule. -/
theorem State.writeReg_header {i p o : Nat} {k : PageKind} (s : State) (a : Agent) (v : Word) (hp : pageOfOrdinal i = some p)
    (hk : pageKind? p = some k) (ho : o < 0x40) (h4 : o % 4 = 0) :
    s.writeReg a (p + o) v = s.writeBy a k p (p + o) (registerRule a k (pageNo p) p (p + o) v s) := by
  obtain ⟨row, -, hkind, -, hbase, hat⟩ := page_spec hp hk
  have hrow : (findRow row.kind (o / 4 * 4)).isSome = true := findRow_header _ (by omega) (by omega)
  have haligned := page_aligned hp
  rw [State.writeReg_page v (hat o (by omega)) hrow (by omega), hkind, ← hbase]

section
variable (a : Agent) (k : PageKind) (n p : Nat) (v : Word) (s : State)

theorem registerRule_ctrl : registerRule a k n p (R.xx_CTRL p) v s = pageCtrlRule a k n p v s := by
  simp [registerRule]

theorem registerRule_fltInj : registerRule a k n p (R.xx_FLT_INJ p) v s = pageInjRule k p v := by
  simp [registerRule]

theorem registerRule_commit : registerRule a k n p (R.xx_COMMIT p) v s = commitRule k p v s := by
  simp [registerRule, headerRule]

theorem registerRule_owner : registerRule a k n p (R.xx_OWNER p) v s = ownerRule a p v := by
  simp [registerRule, headerRule]

end

/-! ### The rows of the common header (R39, R46, R52, R58) -/

/-- A write of xx_FLT_INJ sets bits on every page but HOST. -/
theorem faultInject_ok {s : State} {a : Agent} {page : Fin 115} {p : Nat} {k : PageKind} (bits : Word)
    (hp : pageOfOrdinal page.val = some p) (hk : pageKind? p = some k) (hne : k ≠ .hostp) (h : s.admits a k p = true) :
    exec (.faultInject a page bits) s = .next (s.orReg (R.xx_FLT_INJ p) (bits &&& injBits k)) := by
  have hrule : pageInjRule k p bits = injRule k p bits := by simp [pageInjRule, hne]
  rw [exec_faultInject, execFaultInject, hp]
  dsimp only
  rw [s.writeReg_header a bits hp hk (by decide) (by decide), registerRule_fltInj, hrule,
    State.writeBy_ok _ _ h rfl rfl rfl rfl rfl]
  rfl

/-- A write of xx_OWNER is a checked write under the owner's rule. -/
theorem ownerWrite_eq {page : Fin 115} {p : Nat} {k : PageKind} (a : Agent) (v : Word) (s : State)
    (hp : pageOfOrdinal page.val = some p) (hk : pageKind? p = some k) :
    exec (.ownerWrite a page v) s = .next (s.writeBy a k p (R.xx_OWNER p) (ownerRule a p v)) := by
  rw [exec_ownerWrite, execOwnerWrite, hp]
  dsimp only
  rw [s.writeReg_header a v hp hk (by decide) (by decide), registerRule_owner]

theorem bitsOf_and (v m hi lo : Nat) : bitsOf (v &&& m) hi lo = bitsOf v hi lo &&& bitsOf m hi lo := by
  simp only [bitsOf, Nat.shiftRight_and_distrib, Nat.and_mod_two_pow]

/-- A mask that holds every bit of a field keeps the field. -/
theorem bitsOf_and_full {v m hi lo : Nat} (h : bitsOf m hi lo = 2 ^ (hi + 1 - lo) - 1) :
    bitsOf (v &&& m) hi lo = bitsOf v hi lo := by
  rw [bitsOf_and, h, Nat.and_two_pow_sub_one_eq_mod, Nat.mod_eq_of_lt (bitsOf_lt v hi lo)]

/-- An owner word whose KIND is not 0 keeps KIND and ID. -/
theorem ownerWord_fields {v : Word} (h : bitsOf v.toNat 31 30 ≠ 0) :
    bitsOf (ownerWord v).toNat 31 30 = bitsOf v.toNat 31 30 ∧ bitsOf (ownerWord v).toNat 11 0 = bitsOf v.toNat 11 0 := by
  rw [ownerWord, if_neg h, BitVec.toNat_and]
  exact ⟨bitsOf_and_full rfl, bitsOf_and_full rfl⟩

/-- MGMT gives a page to a partition. -/
theorem ownerWrite_partition {s : State} {page : Fin 115} {p : Nat} {k : PageKind} {v : Word}
    (hp : pageOfOrdinal page.val = some p) (hk : pageKind? p = some k) (h : s.admits .mgmt k p = true)
    (hkind : bitsOf v.toNat 31 30 = 1) (hid : bitsOf v.toNat 11 0 ≤ 63) :
    exec (.ownerWrite .mgmt page v) s =
      .next ((s.setFld (F.xx_OWNER_KIND p) 1).setFld (F.xx_OWNER_ID p) (bitsOf v.toNat 11 0)) := by
  have hrange : ownerRange v = true := by simp [ownerRange, hkind, hid]
  obtain ⟨hword, hword'⟩ := ownerWord_fields (v := v) (by omega)
  rw [ownerWrite_eq _ v s hp hk, State.writeBy_ok _ _ h rfl rfl rfl rfl hrange]
  simp only [ownerRule, hword, hword', hkind]

/-- xx_OWNER is MGMT's alone. -/
theorem ownerWrite_agent {s : State} {a : Agent} {page : Fin 115} {p : Nat} (v : Word)
    (hp : pageOfOrdinal page.val = some p) (ha : a ≠ .mgmt) (hr : s.responds a = true) :
    exec (.ownerWrite a page v) s = .next (s.reject p (R.xx_OWNER p) .agent) := by
  obtain ⟨k, hk⟩ := pageKind_of_pageOfOrdinal hp
  have hreason : s.writeReason a (pageGroup k) p true (ownerRule a p v) = some .agent := by
    simp [State.writeReason, ownerRule, ha, firstReason]
  rw [ownerWrite_eq a v s hp hk, State.writeBy, if_pos hr, State.checkedWrite, hreason]
  rfl

/-- The pages that share a commit are the TG pages. -/
theorem pageRows_apart_from_tg : ∀ row ∈ pageRows, row.kind ≠ .tg →
    row.base + 0x1000 * row.count ≤ 0x20000 ∨ 0x30000 ≤ row.base := by decide

/-- A page that is no TG page commits by itself. -/
theorem State.commitPage_self {i p : Nat} {k : PageKind} (s : State) (hp : pageOfOrdinal i = some p)
    (hk : pageKind? p = some k) (hne : k ≠ .tg) : s.commitPage p = p := by
  obtain ⟨row, hrow, hkind, hn, hbase, -⟩ := page_spec hp hk
  have hapart := pageRows_apart_from_tg row hrow (by rwa [hkind])
  rw [State.commitPage, if_neg (by omega)]

/-- On a page other than a TG page xx_COMMIT asks for a commit where the page has a shadow (R46). -/
theorem commitRequest_eq {s : State} {a : Agent} {page : Fin 115} {p : Nat} {k : PageKind} (e : Word)
    (hp : pageOfOrdinal page.val = some p) (hk : pageKind? p = some k) (hne : k ≠ .tg) (h : s.admits a k p = true) :
    exec (.commitRequest a page e) s = .next (if shadowedKind k then s.commitRequest p e else s) := by
  have hstate : (commitRule k p e s).stateOk = true := by simp [commitRule, s.commitPage_self hp hk hne]
  rw [exec_commitRequest, execCommitRequest, hp]
  dsimp only
  rw [s.writeReg_header a e hp hk (by decide) (by decide), registerRule_commit, State.writeBy_ok _ _ h rfl rfl hstate rfl rfl]
  rfl

/-! ### Block reset (R52, R476, R484) -/

theorem State.flag_eq_of_reg {s t : State} {f : Fld} (h : t.reg f.off = s.reg f.off) : t.flag f = s.flag f := by
  rw [State.flag, State.flag, State.fld, State.fld, h]

theorem State.reg_withMonel (s : State) (m : Monel) (o : Nat) : ({ s with monel := m } : State).reg o = s.reg o := rfl

/-- A reset leaves IN_RESET at 1. -/
theorem State.flag_blockReset_inReset {s : State} {p : Nat} {k : PageKind} (hk : pageKind? p = some k) (hp : p % 0x1000 = 0) :
    (s.blockReset p).flag (F.xx_STAT_IN_RESET p) = true := by
  unfold State.blockReset
  split
  · next hnone => rw [hk] at hnone; cases hnone
  · extract_lets dirty t t' u v w x
    have hapart : R.xx_STAT p ≠ R.xx_BLK_COUNT P.RST := by
      show p + 0xC ≠ 0x303C
      omega
    have hreg : x.reg (R.xx_STAT p) = v.reg (R.xx_STAT p) := v.reg_withMonel _ _
    rw [State.flag_eq_of_reg (f := F.xx_STAT_IN_RESET p) ((x.reg_count_other hapart).trans hreg),
      State.flag_setFlag_other _ _ (by simp) (by simp), State.flag_setFlag_other _ _ (by simp) (by simp)]
    exact State.flag_setFlag_self _ _ _ rfl (by simp)

/-- A reset raises the page's fence. -/
theorem State.mem_fences_blockReset {s : State} {p : Nat} {k : PageKind} (hk : pageKind? p = some k) :
    p ∈ (s.blockReset p).monel.fences := by
  unfold State.blockReset
  split
  · next hnone => rw [hk] at hnone; cases hnone
  · extract_lets dirty t t' u v w
    rw [State.count_monel]
    exact List.mem_append_right _ (List.mem_singleton_self p)

/-- A write of BLOCK_RESET, on a page other than HART and PGR, needs the state in which R476 allows the reset. -/
theorem pageCtrlRule_reset {a : Agent} {k : PageKind} {n p : Nat} {v : Word} {s : State} (hh : k ≠ .hart) (hg : k ≠ .pgr)
    (hv : v.getLsbD 2 = true) : pageCtrlRule a k n p v s =
      { ctrlRule p v (enableEffect k n) (fun t => t.blockReset p) with stateOk := s.resetAllowed p } := by
  cases k with
  | hart => exact absurd rfl hh
  | pgr => exact absurd rfl hg
  | _ => simp [pageCtrlRule, hv, ctrlRule]

theorem ctrlRule_eff_reset {p : Nat} {v : Word} (enable : Bool → State → State) (reset : State → State) (s : State)
    (hv : v.getLsbD 2 = true) : ∃ t, (ctrlRule p v enable reset).eff s = reset t := by
  simp only [ctrlRule, hv, if_true]
  exact ⟨_, rfl⟩

/-- BLOCK_RESET is a checked write of xx_CTRL with BLOCK_RESET at 1. -/
theorem blockReset_eq {page : Fin 115} {p : Nat} {k : PageKind} (a : Agent) (s : State)
    (hp : pageOfOrdinal page.val = some p) (hk : pageKind? p = some k) (hh : k ≠ .hart) (hg : k ≠ .pgr) :
    ∃ v : Word, v.getLsbD 2 = true ∧ exec (.blockReset a page) s = .next (s.writeBy a k p (R.xx_CTRL p)
      { ctrlRule p v (enableEffect k (pageNo p)) (fun t => t.blockReset p) with stateOk := s.resetAllowed p }) := by
  have hv : ((s.reg (R.xx_CTRL p) &&& 0xB) ||| 4).getLsbD 2 = true := by simp
  refine ⟨_, hv, ?_⟩
  rw [exec_blockReset, execBlockReset, hp]
  dsimp only
  rw [s.writeReg_header a _ hp hk (by decide) (by decide), registerRule_ctrl, pageCtrlRule_reset hh hg hv]

theorem blockReset_ok {s : State} {a : Agent} {page : Fin 115} {p : Nat} {k : PageKind}
    (hp : pageOfOrdinal page.val = some p) (hk : pageKind? p = some k) (h : s.admits a k p = true) (hh : k ≠ .hart)
    (hg : k ≠ .pgr) (hr : s.resetAllowed p = true) :
    ∃ t, exec (.blockReset a page) s = .next t ∧ t.flag (F.xx_STAT_IN_RESET p) = true ∧ p ∈ t.monel.fences := by
  obtain ⟨v, hv, hexec⟩ := blockReset_eq a s hp hk hh hg
  obtain ⟨t, ht⟩ := ctrlRule_eff_reset (p := p) (enableEffect k (pageNo p)) (fun t => t.blockReset p) s hv
  rw [State.writeBy_ok _ _ h rfl rfl hr rfl rfl, ht] at hexec
  exact ⟨_, hexec, State.flag_blockReset_inReset hk (page_aligned hp), State.mem_fences_blockReset hk⟩

theorem blockReset_state {s : State} {a : Agent} {page : Fin 115} {p : Nat} {k : PageKind}
    (hp : pageOfOrdinal page.val = some p) (hk : pageKind? p = some k) (h : s.admits a k p = true) (hh : k ≠ .hart)
    (hg : k ≠ .pgr) (hr : s.resetAllowed p = false) :
    exec (.blockReset a page) s = .next (s.reject p (R.xx_CTRL p) .state) := by
  obtain ⟨v, -, hexec⟩ := blockReset_eq a s hp hk hh hg
  rw [hexec, State.writeBy_refused _ _ .state h (by rw [hr]; rfl)]
  rfl

/-- IN_RESET falls at the end of a reset, and only there. -/
theorem blockResetEnd_eq {page : Fin 115} {p : Nat} (s : State) (hp : pageOfOrdinal page.val = some p) :
    exec (.blockResetEnd page) s = .next (if s.flag (F.xx_STAT_IN_RESET p) then s.resetEnd p else s) := by
  rw [exec_blockResetEnd, execBlockResetEnd, hp]

/-- Settles O13: each command is one write of a register of the common header, which its rule decides. -/
theorem headerCommands : Obligations.HeaderCommands := by
  unfold Obligations.HeaderCommands
  refine ⟨fun s a page p k bits => faultInject_ok bits, fun s page p k v => ownerWrite_partition,
    fun s a page p v => ownerWrite_agent v, ?_, ?_, ?_, ?_, fun s a page p k => blockReset_ok,
    fun s a page p k => blockReset_state, ?_, ?_⟩
  · intro s a page p k e hp hk h hshadow
    rw [commitRequest_eq e hp hk (by rintro rfl; cases hshadow) h, hshadow]
    rfl
  · intro s a page p e hp hk h
    exact commitRequest_eq e hp hk (by decide) h
  · rintro s p _ rfl hfreeze
    simp [State.commitRequest, hfreeze]
  · intro s p e he
    simp [State.commitRequest, he]
  · intro s page p hp hreset
    rw [blockResetEnd_eq s hp, hreset, if_pos rfl]
  · intro s page p hp hreset
    rw [blockResetEnd_eq s hp, hreset]
    rfl

end Sys2Proof.Machine
end

section
/-! PROOFS. The transfer of a shadow (R45, R48, R51, R101, R267). -/

namespace Sys2Proof.Machine

open Sys2Proof

/-- The bookkeeping of a transfer, field by field. -/
theorem State.transferred_fields (s : State) (p : Nat) :
    (s.transferred p).fld (F.xx_SHADOW_GEN_XFER p) = (s.fld (F.xx_SHADOW_GEN_XFER p) + 1) % 256 ∧
    (s.transferred p).fld (F.xx_SHADOW_GEN_WCOUNT p) = 0 ∧ (s.transferred p).fld (F.xx_COMMIT_STAT_STATE p) = 3 ∧
    (s.transferred p).flag (F.xx_COMMIT_STAT_PENDING p) = false := by
  simp [State.transferred, State.setFlag, State.flag, State.fld_setFld_self, State.fld_setFld_other]

/-- Where the pages with a shadow lie. -/
theorem pageRows_shadowed : ∀ row ∈ pageRows, (row.kind = .seq → row.base = 0x10000) ∧
    (row.kind = .tg → row.base = 0x20000 ∧ row.count = 16) ∧ (row.kind = .dec → row.base = 0x60000) ∧
    (row.kind = .syn → row.base = 0x70000) := by decide

theorem pageKind_seq {n : Nat} (hn : n < 16) : pageKind? (P.SEQ n) = some .seq :=
  pageKind_base (row := ⟨.seq, 0x10000, 16, 0x10, 5⟩) (by decide) hn

theorem pageNo_seq {n : Nat} (hn : n < 16) : pageNo (P.SEQ n) = n :=
  pageNo_base (row := ⟨.seq, 0x10000, 16, 0x10, 5⟩) (by decide) hn

theorem pageKind_syn {n : Nat} (hn : n < 16) : pageKind? (P.SYN n) = some .syn :=
  pageKind_base (row := ⟨.syn, 0x70000, 16, 0x17, 59⟩) (by decide) hn

theorem pageNo_syn {n : Nat} (hn : n < 16) : pageNo (P.SYN n) = n :=
  pageNo_base (row := ⟨.syn, 0x70000, 16, 0x17, 59⟩) (by decide) hn

/-- A TG page commits with the first page of its gang (R51). -/
theorem State.commitPage_tg {i p : Nat} (s : State) (hp : pageOfOrdinal i = some p) (hk : pageKind? p = some .tg) :
    s.commitPage p = P.TG (s.gangOf (pageNo p)) := by
  obtain ⟨row, hrow, hkind, hn, hbase, -⟩ := page_spec hp hk
  obtain ⟨-, htg, -⟩ := pageRows_shadowed row hrow
  obtain ⟨hrowbase, hcount⟩ := htg hkind
  have hno : (p - 0x20000) / 0x1000 = pageNo p := by omega
  have hin : 0x20000 ≤ p ∧ p < 0x30000 := by omega
  rw [State.commitPage, if_pos hin, hno]

/-- Where no commit is armed, or it is frozen, nothing happens at the commit point. -/
theorem shadowTransfer_unready {s : State} {page : Fin 115} {p : Nat} {k : PageKind} (ch : BitVec 8)
    (hp : pageOfOrdinal page.val = some p) (hk : pageKind? p = some k) (h : s.commitReady (s.commitPage p) = false) :
    exec (.shadowTransfer page ch) s = .next s := by
  obtain ⟨row, hrow, hkind, -, hbase, -⟩ := page_spec hp hk
  obtain ⟨hseq, -, hdec, hsyn⟩ := pageRows_shadowed row hrow
  rw [exec_shadowTransfer, execShadowTransfer, hp]
  dsimp only
  rw [hk]
  cases k with
  | seq =>
    have hpage : P.SEQ (pageNo p) = p := by rw [hseq hkind] at hbase; exact hbase.symm
    rw [s.commitPage_self hp hk (by decide)] at h
    simp [State.seqTransfer, hpage, h]
  | tg =>
    rw [s.commitPage_tg hp hk] at h
    simp [State.tgTransfer, h]
  | dec =>
    have hpage : P.DEC (pageNo p) = p := by rw [hdec hkind] at hbase; exact hbase.symm
    rw [s.commitPage_self hp hk (by decide)] at h
    simp [State.decMove, hpage, h]
  | syn =>
    have hpage : P.SYN (pageNo p) = p := by rw [hsyn hkind] at hbase; exact hbase.symm
    rw [s.commitPage_self hp hk (by decide)] at h
    simp [State.synCommit, hpage, h]
  | _ => rfl

/-- The transfer of a SEQ page moves the shadow and the period table (R101). -/
theorem shadowTransfer_seq {s : State} {page : Fin 115} {n : Nat} (ch : BitVec 8) (hn : n < 16)
    (hp : pageOfOrdinal page.val = some (P.SEQ n)) (h : s.commitReady (P.SEQ n) = true) :
    exec (.shadowTransfer page ch) s = .next ((((s.copyShadow (P.SEQ n) (inTable .period n)).transferred (P.SEQ n)).setFlag
      (F.xx_STAT_SHADOW_DIRTY (P.SEQ n)) false).startMoved n) := by
  rw [exec_shadowTransfer, execShadowTransfer, hp]
  dsimp only
  rw [pageKind_seq hn, pageNo_seq hn]
  dsimp only
  rw [State.seqTransfer, if_pos h]

@[simp] theorem State.reg_copyShadow (s : State) (p o : Nat) (tables : Nat → Bool) :
    (s.copyShadow p tables).reg o = s.reg o := rfl

/-- A transfer writes xx_SHADOW_GEN and xx_COMMIT_STAT. -/
theorem State.reg_transferred_other (s : State) {p o : Nat} (hgen : o ≠ R.xx_SHADOW_GEN p) (hstat : o ≠ R.xx_COMMIT_STAT p) :
    (s.transferred p).reg o = s.reg o := by
  simp [State.transferred, State.setFlag, State.reg_setFld_other, hgen, hstat]

/-- The lists of synthesis channel `n` and its segments (R53). -/
def inSynTables (n o : Nat) : Bool := decide (0x1900000 + n * 0x20000 ≤ o) && decide (o < 0x1900000 + n * 0x20000 + 0x20000)

/-- The shadow of SYn and of its tables moved to the active copy (R267). -/
def State.synMoved (s : State) (n : Nat) : State :=
  ((s.copyShadow (P.SYN n) (inSynTables n)).transferred (P.SYN n)).setFlag (F.xx_STAT_SHADOW_DIRTY (P.SYN n)) false

theorem synStat_apart_from_header (n : Nat) {o : Nat} (ho : o < 0x40) : R.SYN_STAT n ≠ P.SYN n + o := by
  show 0x70068 + 0x1000 * n ≠ 0x70000 + 0x1000 * n + o
  omega

/-- The transfer leaves the channel's state alone. -/
theorem State.synState_synMoved (s : State) (n : Nat) : (s.synMoved n).synState n = s.synState n := by
  have hreg : (s.synMoved n).reg (R.SYN_STAT n) = s.reg (R.SYN_STAT n) := by
    rw [State.synMoved, State.reg_setFlag_other _ _ (synStat_apart_from_header n (by decide)),
      State.reg_transferred_other _ (synStat_apart_from_header n (by decide)) (synStat_apart_from_header n (by decide)),
      State.reg_copyShadow]
  rw [State.synState, State.synState, State.fld, State.fld, hreg]

/-- A channel that is not in RUN is left with its shadow moved. -/
theorem State.synCommit_eq {s : State} {n : Nat} (h : s.commitReady (P.SYN n) = true) (hrun : s.synState n ≠ syRun) :
    s.synCommit n = s.synMoved n := by
  have hstate : ((s.synMoved n).synState n != syRun) = true := by simpa [s.synState_synMoved n] using hrun
  rw [State.synCommit, h, if_neg (by decide)]
  exact if_pos hstate

/-- The transfer of a SYN page outside RUN clears WCOUNT and SHADOW_DIRTY. -/
theorem shadowTransfer_syn {s : State} {page : Fin 115} {n : Nat} (ch : BitVec 8) (hn : n < 16)
    (hp : pageOfOrdinal page.val = some (P.SYN n)) (h : s.commitReady (P.SYN n) = true) (hrun : s.synState n ≠ syRun) :
    ∃ t, exec (.shadowTransfer page ch) s = .next t ∧ t.fld (F.xx_SHADOW_GEN_WCOUNT (P.SYN n)) = 0 ∧
      t.flag (F.xx_STAT_SHADOW_DIRTY (P.SYN n)) = false := by
  refine ⟨s.synMoved n, ?_, ?_, ?_⟩
  · rw [exec_shadowTransfer, execShadowTransfer, hp]
    dsimp only
    rw [pageKind_syn hn, pageNo_syn hn]
    dsimp only
    rw [State.synCommit_eq h hrun]
  · obtain ⟨-, hwcount, -, -⟩ := (s.copyShadow (P.SYN n) (inSynTables n)).transferred_fields (P.SYN n)
    rw [State.synMoved, State.setFlag, State.fld_setFld_other _ _ (by simp) (by simp), hwcount]
  · exact State.flag_setFlag_self _ _ _ rfl (by simp)

/-- Settles O14: the kind of the page decides what its commit point does. -/
theorem shadowTransfers : Obligations.ShadowTransfers := by
  unfold Obligations.ShadowTransfers
  refine ⟨fun s page n ch => shadowTransfer_seq ch n.isLt, fun s page p k ch => shadowTransfer_unready ch,
    fun s page n ch => shadowTransfer_syn ch (by omega), fun s row n _ _ => s.transferred_fields _⟩

end Sys2Proof.Machine
end

section
/-! PROOFS. Reads of the window (R37, R43, R103, R535). -/

namespace Sys2Proof.Machine

open Sys2Proof

/-- A read of the register takes no item: the rows TIME_ES_HEAD_READ, FQ_POP, HIC_CLAIM and CAL_EXP_DATA_READ are others. -/
def readsPlain (o : Nat) : Prop :=
  o ≠ R.TIME_ES_HEAD_LO ∧ (o < R.FQ_Q_POP_LO 0 ∨ P.FQ + 0xC00 ≤ o) ∧ (o < R.HIC_T_CLAIM 0 ∨ R.HIC_T_CLAIM 9 < o) ∧
    o ≠ R.CAL_EXP_DATA

section
variable {s : State} {a : Agent} {o : Nat} (ho : readsPlain o)
include ho

/-- A latched half is answered and dropped. -/
theorem State.readWord_latched {v : Word} (h : s.latched a o = some v) :
    s.readWord a o = (v, { s with loLatch := serase s.loLatch (latchKey a o) }) := by
  obtain ⟨hes, hfq, hhic, hcal⟩ := ho
  rw [State.readWord, if_neg hes, if_neg (by omega), if_neg (by omega), if_neg hcal, h]

/-- Where no half is latched the register is shown, the other half latched, and what the read clears is cleared. -/
theorem State.readWord_shown (h : s.latched a o = none) :
    s.readWord a o = (s.peek a o, ((s.latchPair a o).readClear o).binCheck o) := by
  obtain ⟨hes, hfq, hhic, hcal⟩ := ho
  rw [State.readWord, if_neg hes, if_neg (by omega), if_neg (by omega), if_neg hcal, h]

end

theorem State.readBy_responds {s : State} {a : Agent} (o : Nat) (h : s.responds a = true) :
    s.readBy a o = (s.readWord a o).2.answer ((s.readWord a o).1.setWidth 64) := by
  rw [State.readBy, if_pos h]

theorem State.readBy_silent {s : State} {a : Agent} (o : Nat) (h : s.responds a = false) : s.readBy a o = s := by
  rw [State.readBy, h]
  rfl

/-- The fields of type RC restart from the level present, or from their reset value; the other bits stay (R535). -/
theorem State.reg_readClear_self {s : State} {o : Nat} {x : PageRow × Nat × Nat} {r : RegRow} (hx : pageAt o = some x)
    (hr : findRow x.1.kind x.2.2 = some r) (hrc : r.rc ≠ 0) (ho : o ≠ R.FLT_SRC_COUNT) : (s.readClear o).reg o =
      (s.reg o &&& ~~~(BitVec.ofNat 32 r.rc)) ||| ((s.present o).getD (regReset o) &&& BitVec.ofNat 32 r.rc) := by
  simp only [State.readClear, hx, Option.bind_some, hr, if_neg hrc, if_neg ho, State.reg_setReg_self]

/-- An offset that no register and no table holds reads 0 (R35). -/
theorem State.peek_reserved (s : State) (a : Agent) {o : Nat} (ht : tableAt o = none) (hp : pageAt o = none) :
    s.peek a o = 0 := by
  simp [State.peek, hp, ht]

/-- Settles O15: both commands are one read of the window, of a register whose read takes no item. -/
theorem readsOfTheWindow : Obligations.ReadsOfTheWindow := by
  unfold Obligations.ReadsOfTheWindow
  refine ⟨?_, ?_, ?_, fun s o x r => State.reg_readClear_self, fun s a o => s.peek_reserved a⟩
  · rintro s a off o rfl hr hes hfq hhic hcal hl
    rw [exec_rcRead, execRcRead, exec_coherentLoRead, execCoherentLoRead, State.readBy_responds _ hr,
      State.readWord_shown ⟨hes, hfq, hhic, hcal⟩ hl]
    exact ⟨rfl, rfl⟩
  · rintro s a off o v rfl hr hes hfq hhic hcal hl
    rw [exec_coherentLoRead, execCoherentLoRead, State.readBy_responds _ hr,
      State.readWord_latched ⟨hes, hfq, hhic, hcal⟩ hl]
  · intro s a off hr
    rw [exec_rcRead, execRcRead, exec_coherentLoRead, execCoherentLoRead, State.readBy_silent _ hr]
    exact ⟨rfl, rfl⟩

end Sys2Proof.Machine
end

section
/-! PROOFS. The entry and the emission of WSQ instructions (03, R68, R70, R74), and the instructions that go on at the next record
(R75, R76, R83, R93 to R95). -/

namespace Sys2Proof.Machine

open Sys2Proof

/-! ### The entry of an instruction (R70) -/

/-- An instruction that the micro-engine cannot take yet waits. -/
theorem State.entry_waits {s : State} {n : Nat} (r : BlockHead) (halt legal : Bool) (go : State → State)
    (hd : s.canDispatch n = false) : s.entry n r halt legal go = s := by
  simp [State.entry, hd]

/-- An instruction whose record and operands are legal goes on with its meaning. -/
theorem State.entry_legal {s : State} {n : Nat} {r : BlockHead} {halt legal : Bool} (go : State → State)
    (hd : s.canDispatch n = true) (hr : headLegal r halt = true) (hl : legal = true) : s.entry n r halt legal go = go s := by
  simp [State.entry, hd, hr, hl]

/-- An instruction whose record or operands are illegal stops with ILLEGAL. -/
theorem State.entry_illegal {s : State} {n : Nat} {r : BlockHead} {halt legal : Bool} (go : State → State)
    (hd : s.canDispatch n = true) (hl : (headLegal r halt && legal) = false) :
    s.entry n r halt legal go = s.dispatchStop n 6 := by
  simp [State.entry, hd, hl]

/-- A record that is legal for the other instructions has a block, and is legal for HALT. -/
theorem headLegal_spec {r : BlockHead} (h : headLegal r false = true) (halt : Bool) :
    headLegal r halt = true ∧ r.len ≠ 0 := by
  simp only [headLegal, Bool.false_and, Bool.or_false, Bool.and_eq_true, decide_eq_true_eq] at h
  obtain ⟨henc, hlen⟩ := h
  refine ⟨by simpa [headLegal, hlen] using henc, ?_⟩
  rintro h0
  rw [h0] at hlen
  exact absurd hlen (by decide)

/-! ### The emission of a block (R68, R74, R181) -/

section
variable {s : State} {n : Nat} {r : BlockHead} {z : Nat}

theorem State.emits_spec (h : s.emits n r z = true) : s.canDispatch n = true ∧ headLegal r false = true ∧
    s.sizeKnown n (blockBase r) = true ∧ s.recordSize n r = some z ∧
    s.admitted n (s.seq n).next (blockBase r) z = true := by
  simpa only [State.emits, Bool.and_eq_true, beq_iff_eq, and_assoc] using h

/-- An instruction whose block can be emitted comes to its meaning. -/
theorem State.entry_emits (h : s.emits n r z = true) (halt : Bool) {legal : Bool} (hl : legal = true) (go : State → State) :
    s.entry n r halt legal go = go s := by
  obtain ⟨hd, hr, -⟩ := State.emits_spec h
  exact State.entry_legal go hd (headLegal_spec hr halt).1 hl

/-- A block of known size, well formed and admitted, is transferred. -/
theorem State.emit_emits (h : s.emits n r z = true) (f : Desc → Desc) (upd : Seq → Seq) :
    s.emit n r f upd = s.enqueue n (f ((s.seq n).block r z)) (upd (s.seq n).entered) := by
  obtain ⟨-, -, hknown, hsize, hadm⟩ := State.emits_spec h
  simp only [State.emit, hknown, hsize, hadm, Bool.not_true, Bool.and_false, Bool.false_eq_true, if_false, if_true]
  rfl

/-- A block of known size that is malformed stops the gang (R68). -/
theorem State.emit_malformed (f : Desc → Desc) (upd : Seq → Seq) (hknown : s.sizeKnown n (blockBase r) = true)
    (hsize : s.recordSize n r = none) : s.emit n r f upd = s.dispatchStop n 8 := by
  simp only [State.emit, hknown, hsize, Bool.not_true, Bool.and_false, Bool.false_eq_true, if_false]

/-- An instruction that only emits its block. -/
theorem State.entry_emit (h : s.emits n r z = true) (halt : Bool) {legal : Bool} (hl : legal = true) (f : Desc → Desc)
    (upd : Seq → Seq) : s.entry n r halt legal (fun s => s.emit n r f upd) =
      s.enqueue n (f ((s.seq n).block r z)) (upd (s.seq n).entered) := by
  rw [State.entry_emits h halt hl, State.emit_emits h]

/-- A block with an effect at its first cycle (R74). -/
theorem State.emitEffect_emits (h : s.emits n r z = true) (e : SeqEffect) : s.emitEffect n r e =
    s.enqueue n { (s.seq n).block r z with effects := [e] } (s.seq n).entered.onward := State.entry_emit h false rfl _ _

end

/-! ### EMIT, REPEAT, FLAG, SIGNAL, CAPON, CAPOFF and MARK (R75, R76, R83, R93 to R95) -/

theorem wsqEmit_emits {s : State} {n : Fin 16} {r : BlockHead} {z : Nat} (h : s.emits n r z = true) :
    exec (.wsqEmit n r) s = .next (s.enqueue n ((s.seq n).block r z) (s.seq n).entered.onward) :=
  congrArg done (State.entry_emit h false rfl id Seq.onward)

theorem wsqRepeat_emits {s : State} {n : Fin 16} {r : BlockHead} {z : Nat} {c : Word} (h : s.emits n r z = true) (hc : c ≠ 0) :
    exec (.wsqRepeat n r c) s =
      .next (s.enqueue n { (s.seq n).block r z with reps := c.toNat } (s.seq n).entered.onward) := by
  rw [exec_wsqRepeat, execWsqRepeat, State.entry_emits h false rfl, if_neg hc, State.emit_emits h]

/-- REPEAT 0 emits nothing (R76). -/
theorem wsqRepeat_zero {s : State} {n : Fin 16} {r : BlockHead} (hd : s.canDispatch n = true) (hr : headLegal r false = true) :
    exec (.wsqRepeat n r 0) s = .next (s.skip n [] ((s.seq n).next + 16)) := by
  rw [exec_wsqRepeat, execWsqRepeat, State.entry_legal _ hd hr rfl, if_pos rfl]

theorem wsqSignal_emits {s : State} {n : Fin 16} {r : BlockHead} {z : Nat} (h : s.emits n r z = true) (t : BitVec 8)
    (f : BitVec 5) : exec (.wsqSignal n r t f) s =
      .next (s.enqueue n { (s.seq n).block r z with signals := [(t.toNat, f.toNat)] } (s.seq n).entered.onward) :=
  congrArg done (State.entry_emit h false rfl (fun d => { d with signals := [(t.toNat, f.toNat)] }) Seq.onward)

/-- Settles O36: an instruction that can be emitted comes to its meaning and transfers its block; its entry alone decides the wait
and the stop with ILLEGAL. -/
theorem plainInstructions : Obligations.PlainInstructions := by
  unfold Obligations.PlainInstructions
  refine ⟨fun s n r z h => ?_, fun _ _ _ => wsqRepeat_zero, fun s n r c hd => ?_, fun s n r c hd hr => ?_,
    fun s n r hd hr hknown hsize => ?_⟩
  · have effect (e : SeqEffect) := congrArg done (State.emitEffect_emits h e)
    exact ⟨wsqEmit_emits h, fun _ => wsqRepeat_emits h, fun _ => ⟨effect _, effect _, effect _, effect _⟩, effect _,
      wsqSignal_emits h, fun _ _ => ⟨effect _, effect _⟩, fun _ => effect _⟩
  · have waits (go : State → State) := congrArg done (State.entry_waits r false true go hd)
    exact ⟨waits _, waits _, waits _⟩
  · have stops (go : State → State) := congrArg done (State.entry_illegal (legal := true) go hd (by rw [hr, Bool.false_and]))
    exact ⟨stops _, stops _, stops _⟩
  · rw [exec_wsqEmit, execWsqEmit, State.entry_legal _ hd hr rfl, State.emit_malformed _ _ hknown hsize]

end Sys2Proof.Machine
end

section
/-! PROOFS. The WSQ instructions that steer the flow: LOOP, ENDLOOP, CALL, RET, JUMP, JUMPC, MATCH, WAIT and HALT (R77 to R92). -/

namespace Sys2Proof.Machine

open Sys2Proof

/-! ### Instructions whose block can be emitted -/

section
variable {s : State} {n : Fin 16} {r : BlockHead} {z : Nat}

/-- A LOOP that is entered from above pushes its count (R77). -/
theorem wsqLoop_pushes {x : BitVec 24} {c : Word} (h : s.emits n r z = true) (hx : 2 ≤ x.toNat) (hc : c ≠ 0)
    (hi : (s.seq n).iterate = false) (hroom : (s.seq n).loops.length < 8) :
    exec (.wsqLoop n r x c) s = .next (s.enqueue n { (s.seq n).block r z with
      depth0 := ((s.seq n).loops.length + 1, (s.seq n).calls.length)
      depth1 := ((s.seq n).loops.length + 1, (s.seq n).calls.length) }
      { (s.seq n).entered.onward with
        loops := ((s.seq n).next, c.toNat, (s.seq n).calls.length) :: (s.seq n).loops }) := by
  rw [exec_wsqLoop, execWsqLoop, State.entry_emits h false (decide_eq_true hx)]
  dsimp only
  rw [hi, if_neg Bool.false_ne_true, if_neg hc, if_neg (Nat.not_le.mpr hroom), State.emit_emits h]
  rfl

/-- A LOOP that its ENDLOOP comes back to pushes nothing (R77). -/
theorem wsqLoop_iterates {x : BitVec 24} (c : Word) (h : s.emits n r z = true) (hx : 2 ≤ x.toNat)
    (hi : (s.seq n).iterate = true) :
    exec (.wsqLoop n r x c) s = .next (s.enqueue n ((s.seq n).block r z) (s.seq n).entered.onward) := by
  rw [exec_wsqLoop, execWsqLoop, State.entry_emits h false (decide_eq_true hx)]
  dsimp only
  rw [if_pos hi, State.emit_emits h, id]

/-- ENDLOOP goes back while iterations are left (R78). -/
theorem wsqEndloop_returns {a m d : Nat} {t : List (Nat × Nat × Nat)} (h : s.emits n r z = true)
    (hl : (s.seq n).loops = (a, m, d) :: t) (hm : 1 < m) : exec (.wsqEndloop n r) s =
      .next (s.enqueue n ((s.seq n).block r z) { s.seq n with next := a, iterate := true, loops := (a, m - 1, d) :: t }) := by
  rw [exec_wsqEndloop, execWsqEndloop, State.entry_emits h false rfl, hl]
  dsimp only
  rw [if_pos hm, State.emit_emits h]
  rfl

/-- ENDLOOP pops the loop at its last iteration (R78). -/
theorem wsqEndloop_pops {a m d : Nat} {t : List (Nat × Nat × Nat)} (h : s.emits n r z = true)
    (hl : (s.seq n).loops = (a, m, d) :: t) (hm : m ≤ 1) : exec (.wsqEndloop n r) s =
      .next (s.enqueue n { (s.seq n).block r z with depth1 := (t.length, (s.seq n).calls.length), pops := [a] }
        { (s.seq n).entered.onward with loops := t }) := by
  rw [exec_wsqEndloop, execWsqEndloop, State.entry_emits h false rfl, hl]
  dsimp only
  rw [if_neg (Nat.not_lt.mpr hm), State.emit_emits h]
  rfl

theorem wsqCall_pushes (x : BitVec 38) (h : s.emits n r z = true) (hroom : (s.seq n).calls.length < 16) :
    exec (.wsqCall n r x) s =
      .next (s.enqueue n { (s.seq n).block r z with depth1 := ((s.seq n).loops.length, (s.seq n).calls.length + 1) }
        { (s.seq n).entered with calls := wrapAddr ((s.seq n).next + 16) :: (s.seq n).calls, next := x.toNat * 16 }) := by
  rw [exec_wsqCall, execWsqCall, State.entry_emits h false rfl, if_neg (Nat.not_le.mpr hroom), State.emit_emits h]
  rfl

/-- RET from a subroutine that left no loop open keeps the loops (R79). -/
theorem wsqRet_pops {a : Nat} {t : List Nat} (h : s.emits n r z = true) (hc : (s.seq n).calls = a :: t)
    (hl : ∀ l ∈ (s.seq n).loops, l.2.2 ≠ (s.seq n).calls.length) :
    exec (.wsqRet n r) s = .next (s.enqueue n { (s.seq n).block r z with
      depth1 := ((s.seq n).loops.length, t.length), pops := [] } { (s.seq n).entered with calls := t, next := a }) := by
  have keep : (s.seq n).loops.filter (fun l => l.2.2 != (s.seq n).calls.length) = (s.seq n).loops :=
    List.filter_eq_self.mpr fun l hm => bne_iff_ne.mpr (hl l hm)
  have gone : (s.seq n).loops.filter (fun l => l.2.2 == (s.seq n).calls.length) = [] :=
    List.filter_eq_nil_iff.mpr fun l hm => by simpa using hl l hm
  rw [exec_wsqRet, execWsqRet, State.entry_emits h false rfl]
  dsimp only
  rw [keep, gone, hc]
  dsimp only
  rw [State.emit_emits h]
  rfl

/-- A MATCH with an unmasked partition and a timeout opens a conditional exit (R88). -/
theorem wsqMatch_opens {m : Word} (h : s.emits n r z = true) (hm : m ≠ 0) (ho : s.openParts n ≠ []) :
    exec (.wsqMatch n r m) s = .next (s.enqueue n { (s.seq n).block r z with
      exit := .matches m.toNat, effects := [.matchEntry] } (s.seq n).entered.opened) := by
  have hgo : ¬ (m = 0 ∨ (s.openParts n).isEmpty = true) := not_or.mpr ⟨hm, by simpa using ho⟩
  rw [exec_wsqMatch, execWsqMatch, State.entry_emits h false rfl]
  dsimp only
  rw [if_neg hgo, State.emit_emits h]

/-- A WAIT with a timeout opens a conditional exit (R92). -/
theorem wsqWait_opens {c : Byte} {m : Word} (h : s.emits n r z = true) (hc : condLegal c = true) (hw : waitCondLegal c = true)
    (hm : m ≠ 0) : exec (.wsqWait n r c false m) s = .next (s.enqueue n { (s.seq n).block r z with
      exit := .waits c false m.toNat, effects := [.waitEntry] } (s.seq n).entered.opened) := by
  have hgo : ¬ (m = 0 ∧ (!false) = true) := fun hz => hm hz.1
  rw [exec_wsqWait, execWsqWait, State.entry_emits h false (by rw [hc, hw, Bool.and_self]), if_neg hgo, State.emit_emits h]

/-- HALT with a block ends the gang at the block's end (R81). -/
theorem wsqHalt_emits (h : s.emits n r z = true) : exec (.wsqHalt n r) s =
    .next (s.enqueue n { (s.seq n).block r z with exit := .halts } (s.seq n).entered.opened) := by
  obtain ⟨-, hr, -⟩ := State.emits_spec h
  rw [exec_wsqHalt, execWsqHalt, State.entry_emits h true rfl, if_neg (headLegal_spec hr true).2, State.emit_emits h]

end

/-! ### Instructions that stop, or emit nothing -/

section
variable {s : State} {n : Fin 16} {r : BlockHead}

/-- A LOOP with EXIT_OFS below 2 is illegal (R77). -/
theorem wsqLoop_illegal {x : BitVec 24} (c : Word) (hd : s.canDispatch n = true) (hx : x.toNat < 2) :
    exec (.wsqLoop n r x c) s = .next (s.dispatchStop n 6) := by
  rw [exec_wsqLoop, execWsqLoop, State.entry_illegal _ hd]
  rw [decide_eq_false (Nat.not_le.mpr hx), Bool.and_false]

/-- A JUMPC whose COND is illegal stops (R82). -/
theorem wsqJumpc_illegal {c : Byte} (x : BitVec 38) (hd : s.canDispatch n = true) (hc : condLegal c = false) :
    exec (.wsqJumpc n r c x) s = .next (s.dispatchStop n 6) := by
  rw [exec_wsqJumpc, execWsqJumpc, State.entry_illegal _ hd]
  rw [hc, Bool.and_false]

end

section
variable {s : State} {n : Fin 16} {r : BlockHead} (hd : s.canDispatch n = true) (hr : headLegal r false = true)
include hd hr

/-- A LOOP with count 0 skips its body (R77). -/
theorem wsqLoop_zero {x : BitVec 24} (hx : 2 ≤ x.toNat) (hi : (s.seq n).iterate = false) :
    exec (.wsqLoop n r x 0) s = .next (s.skip n [] ((s.seq n).next + 16 * x.toNat)) := by
  rw [exec_wsqLoop, execWsqLoop, State.entry_legal _ hd hr (decide_eq_true hx)]
  dsimp only
  rw [hi, if_neg Bool.false_ne_true, if_pos rfl]

theorem wsqLoop_full {x : BitVec 24} {c : Word} (hx : 2 ≤ x.toNat) (hi : (s.seq n).iterate = false) (hc : c ≠ 0)
    (hfull : 8 ≤ (s.seq n).loops.length) : exec (.wsqLoop n r x c) s = .next (s.dispatchStop n 7) := by
  rw [exec_wsqLoop, execWsqLoop, State.entry_legal _ hd hr (decide_eq_true hx)]
  dsimp only
  rw [hi, if_neg Bool.false_ne_true, if_neg hc, if_pos hfull]

theorem wsqEndloop_empty (hl : (s.seq n).loops = []) : exec (.wsqEndloop n r) s = .next (s.dispatchStop n 7) := by
  rw [exec_wsqEndloop, execWsqEndloop, State.entry_legal _ hd hr rfl, hl]

theorem wsqCall_full (x : BitVec 38) (hfull : 16 ≤ (s.seq n).calls.length) :
    exec (.wsqCall n r x) s = .next (s.dispatchStop n 7) := by
  rw [exec_wsqCall, execWsqCall, State.entry_legal _ hd hr rfl, if_pos hfull]

theorem wsqRet_empty (hc : (s.seq n).calls = []) : exec (.wsqRet n r) s = .next (s.dispatchStop n 7) := by
  rw [exec_wsqRet, execWsqRet, State.entry_legal _ hd hr rfl]
  dsimp only
  rw [hc]

/-- A MATCH with timeout 0 leaves its effect to the next block (R90). -/
theorem wsqMatch_zero :
    exec (.wsqMatch n r 0) s = .next (s.skip n [.matchZero (s.seq n).next] ((s.seq n).next + 16)) := by
  rw [exec_wsqMatch, execWsqMatch, State.entry_legal _ hd hr rfl]
  dsimp only
  rw [if_pos (Or.inl rfl)]

/-- A WAIT with timeout 0 leaves its effect to the next block (R92). -/
theorem wsqWait_zero {c : Byte} (hc : condLegal c = true) (hw : waitCondLegal c = true) :
    exec (.wsqWait n r c false 0) s = .next (s.skip n [.waitZero] ((s.seq n).next + 16)) := by
  rw [exec_wsqWait, execWsqWait, State.entry_legal _ hd hr (by rw [hc, hw, Bool.and_self]), if_pos ⟨rfl, rfl⟩]

end

/-- HALT without a block stops the gang at the end of the block that streams (R81). -/
theorem wsqHalt_empty {s : State} {n : Fin 16} {r : BlockHead} (hd : s.canDispatch n = true) (he : r.enc ≠ 3) (hl : r.len = 0) :
    exec (.wsqHalt n r) s = .next (s.dispatchStop n 1) := by
  have hr : headLegal r true = true := by simpa [headLegal, hl] using he
  rw [exec_wsqHalt, execWsqHalt, State.entry_legal _ hd hr rfl, if_pos hl]

/-- Settles O37: each instruction that can be emitted transfers its block with its own exit and next address; the depths of the
stacks and the legality of the operands decide the stops, a count or timeout of 0 the skips. -/
theorem controlInstructions : Obligations.ControlInstructions := by
  unfold Obligations.ControlInstructions
  refine ⟨fun s n r z h => ?_, fun s n r x c hd hr => ?_, fun _ _ _ => wsqHalt_empty⟩
  · exact ⟨fun _ _ => wsqLoop_pushes h, fun _ c => wsqLoop_iterates c h, fun _ _ _ _ => wsqEndloop_returns h,
      fun _ _ _ _ => wsqEndloop_pops h, fun x => wsqCall_pushes x h, fun _ _ => wsqRet_pops h,
      fun x => congrArg done (State.entry_emit h false rfl id (fun q => { q with next := x.toNat * 16 })),
      fun c x hc => congrArg done
        (State.entry_emit h false hc (fun d => { d with exit := .jumpc c (x.toNat * 16) }) Seq.opened),
      fun _ => wsqMatch_opens h, fun _ _ => wsqWait_opens h, wsqHalt_emits h⟩
  · exact ⟨wsqLoop_zero hd hr, wsqLoop_full hd hr, wsqLoop_illegal c hd, wsqEndloop_empty hd hr,
      fun hfull y => wsqCall_full hd hr y hfull, wsqRet_empty hd hr, fun _ y => wsqJumpc_illegal y hd,
      wsqMatch_zero hd hr, fun _ => wsqWait_zero hd hr⟩

end Sys2Proof.Machine
end

section
/-! PROOFS. Requests to a sequencer: SEQ_RUN, SEQ_GANG, the flags and the pending triggers (R83, R84, R99, R100, R102). -/

namespace Sys2Proof.Machine

open Sys2Proof

/-! ### The word written to SEQ_RUN -/

/-- The word of SEQ_RUN with a start's trigger and source, and with request bit `op` set: START (0), PAUSE (1), RESUME (2) or
ABORT (3). -/
def runWord (trig src op : Nat) : Word := BitVec.ofNat 32 (trig * 65536 + src * 256 + 2 ^ op)

section
variable {trig src op : Nat} (ht : trig < 16) (hs : src < 4) (hop : op < 4)
include ht hs hop

/-- The word does not overflow, and its request bits stay below START_SRC. -/
theorem runWord_spec : (runWord trig src op).toNat = trig * 65536 + src * 256 + 2 ^ op ∧ 2 ^ op < 16 := by
  have hb : 2 ^ op < 2 ^ 4 := Nat.pow_lt_pow_right (by decide) hop
  refine ⟨?_, hb⟩
  rw [runWord, BitVec.toNat_ofNat, Nat.mod_eq_of_lt (by omega)]

theorem trig_runWord : bitsOf (runWord trig src op).toNat 19 16 = trig := by
  obtain ⟨hw, hb⟩ := runWord_spec ht hs hop
  rw [hw, bitsOf, Nat.shiftRight_eq_div_pow]
  generalize 2 ^ op = b at hb ⊢
  omega

theorem src_runWord : bitsOf (runWord trig src op).toNat 9 8 = src := by
  obtain ⟨hw, hb⟩ := runWord_spec ht hs hop
  rw [hw, bitsOf, Nat.shiftRight_eq_div_pow]
  generalize 2 ^ op = b at hb ⊢
  omega

theorem request_runWord (i : Nat) (hi : i < 4) : (runWord trig src op).getLsbD i = decide (op = i) := by
  obtain ⟨hw, hb⟩ := runWord_spec ht hs hop
  have hlow : (trig * 65536 + src * 256 + 2 ^ op) % 2 ^ 4 = 2 ^ op % 2 ^ 4 := by omega
  have h := congrArg (Nat.testBit · i) hlow
  rw [Nat.testBit_mod_two_pow, Nat.testBit_mod_two_pow, decide_eq_true hi, Bool.true_and, Bool.true_and,
    Nat.testBit_two_pow] at h
  rw [BitVec.getLsbD, hw, h]

end

/-! ### Starts (R99) -/

/-- The state after a write of SEQ_RUN has set the source of the start. -/
def State.setStart (s : State) (n trig src : Nat) : State :=
  (s.setFld (F.SEQ_RUN_START_TRIG n) trig).setFld (F.SEQ_RUN_START_SRC n) src

/-- The rule of a write of SEQ_RUN that requests a start. -/
theorem seqRunRule_start {trig src : Nat} (n : Nat) (s : State) (ht : trig < 16) (hs : src < 4) :
    seqRunRule n (runWord trig src 0) s = {
      stateOk := s.bound n && (src == s.fld (F.SEQ_RUN_START_SRC n) || !s.gangRuns n) && s.startable n
      rangeOk := src != 3
      eff := fun u =>
        if src = 0 then (u.setStart n trig src).startGang n (u.setStart n trig src).nextEdge
        else if src = 1 then (u.setStart n trig src).setFlag (F.SEQ_RUN_START n) true else u.setStart n trig src } := by
  have hop : 0 < 4 := by decide
  have hreq := request_runWord ht hs hop
  simp only [seqRunRule, State.setStart, trig_runWord ht hs hop, src_runWord ht hs hop, hreq 0 (by decide), hreq 1 (by decide),
    hreq 2 (by decide), hreq 3 (by decide)]
  rfl

section
variable {s : State} {a : Agent} {n : Fin 16} {src : BitVec 2} {trig : BitVec 4} (h : s.admits a .seq (P.SEQ n) = true)
include h

/-- A start of a gang that is not startable is rejected. -/
theorem seqStart_state (hst : s.startable n = false) :
    exec (.seqStart a n src trig) s = .next (s.reject (P.SEQ n) (R.SEQ_RUN n) .state) := by
  refine congrArg done ((congrArg _ (seqRunRule_start n s trig.isLt src.isLt)).trans ?_)
  rw [State.writeBy_refused _ _ .state h]
  simp only [hst, Bool.and_false]
  rfl

section
variable (hb : s.bound n = true) (hsrc : src.toNat = s.fld (F.SEQ_RUN_START_SRC n) ∨ s.gangRuns n = false)
  (hst : s.startable n = true)
include hb hsrc hst

/-- START_SRC 3 is out of range. -/
theorem seqStart_range (h3 : src = 3) :
    exec (.seqStart a n src trig) s = .next (s.reject (P.SEQ n) (R.SEQ_RUN n) .range) := by
  refine congrArg done ((congrArg _ (seqRunRule_start n s trig.isLt src.isLt)).trans ?_)
  subst h3
  rw [State.writeBy_refused _ _ .range h]
  have hstate : (((3 : BitVec 2).toNat == s.fld (F.SEQ_RUN_START_SRC n)) || !s.gangRuns n) = true := by simpa using hsrc
  simp only [hb, hst, hstate, Bool.and_self]
  rfl

/-- The start of a startable gang goes by its source. -/
theorem seqStart_ok (h3 : src ≠ 3) : exec (.seqStart a n src trig) s = .next
    (if src.toNat = 0 then
      (s.setStart n trig.toNat src.toNat).startGang n (s.setStart n trig.toNat src.toNat).nextEdge
    else if src.toNat = 1 then (s.setStart n trig.toNat src.toNat).setFlag (F.SEQ_RUN_START n) true
    else s.setStart n trig.toNat src.toNat) := by
  refine congrArg done ((congrArg _ (seqRunRule_start n s trig.isLt src.isLt)).trans ?_)
  have hstate : (src.toNat == s.fld (F.SEQ_RUN_START_SRC n) || !s.gangRuns n) = true := by simpa using hsrc
  refine State.writeBy_ok _ _ h rfl rfl ?_ rfl ?_
  · simp only [hb, hst, hstate, Bool.and_self]
  · exact bne_iff_ne.mpr fun he => h3 (BitVec.eq_of_toNat_eq he)

end
end

/-- An armed trigger start consumes its pending trigger (R99). -/
theorem seqTriggerStart_starts {s : State} {n : Fin 16} (hs : s.flag (F.SEQ_RUN_START n) = true)
    (hsrc : s.fld (F.SEQ_RUN_START_SRC n) = 1) (hp : s.trigPend n (s.fld (F.SEQ_RUN_START_TRIG n)) = true)
    (hst : s.startable n = true) : exec (.seqTriggerStart n) s =
      .next ((s.setBit (R.SEQ_TRIG_PEND n) (s.fld (F.SEQ_RUN_START_TRIG n)) false).startGang n s.nextEdge) := by
  have hgo : (s.flag (F.SEQ_RUN_START n) && s.fld (F.SEQ_RUN_START_SRC n) == 1 &&
      s.trigPend n (s.fld (F.SEQ_RUN_START_TRIG n)) && s.startable n) = true := by
    rw [hs, hsrc, hp, hst]
    rfl
  rw [exec_seqTriggerStart, execSeqTriggerStart]
  rw [if_pos hgo]

theorem seqTriggerStart_idle {s : State} {n : Fin 16} (h : s.flag (F.SEQ_RUN_START n) = false ∨ s.startable n = false) :
    exec (.seqTriggerStart n) s = .next s := by
  rw [exec_seqTriggerStart, execSeqTriggerStart]
  rcases h with h | h <;> simp [h]

/-! ### Pause, resume, abort (R100) -/

/-- The run states in which a request to pause (1), resume (2) or abort (3) acts. -/
def State.requestActs (s : State) (n op : Nat) : Bool :=
  if op = 1 then s.runState n == rsRunning || s.runState n == rsHold
  else if op = 2 then s.runState n == rsPaused else s.gangRuns n

/-- The request bit of SEQ_RUN for a pause (1), resume (2) or abort (3). -/
def requestFlag (n op : Nat) : Fld :=
  if op = 1 then F.SEQ_RUN_PAUSE n else if op = 2 then F.SEQ_RUN_RESUME n else F.SEQ_RUN_ABORT n

/-- A request bit is one bit of SEQ_RUN, below START_SRC and START_TRIG. -/
theorem requestFlag_spec (n op : Nat) : (requestFlag n op).off = R.SEQ_RUN n ∧
    (requestFlag n op).hi = (requestFlag n op).lo ∧ (requestFlag n op).lo < 4 := by
  unfold requestFlag
  split
  · exact ⟨rfl, rfl, by simp⟩
  · split
    · exact ⟨rfl, rfl, by simp⟩
    · exact ⟨rfl, rfl, by simp⟩

/-- The run states are read from the registers. -/
theorem State.requestActs_congr {s t : State} (h : ∀ o, t.reg o = s.reg o) (n op : Nat) :
    t.requestActs n op = s.requestActs n op := by
  simp only [State.requestActs, State.gangRuns, State.runState, State.fld, h]

/-- The running span of a sequencer is read from the FAB page. -/
theorem State.spanOf_congr {s t : State} (hcfg : ∀ k, t.reg (R.FAB_SPAN_CFG k) = s.reg (R.FAB_SPAN_CFG k))
    (hstat : ∀ k, t.reg (R.FAB_SPAN_STAT k) = s.reg (R.FAB_SPAN_STAT k)) (n : Nat) : t.spanOf n = s.spanOf n := by
  simp only [State.spanOf, State.spanSlot, State.flag, State.fld, hcfg, hstat]

/-- A request to a gang outside spans sets its bit in the run states in which it acts. -/
theorem State.runRequest_alone {s : State} {n : Nat} (op : Nat) (hn : n < 16) (hspan : s.spanOf n = none) :
    s.runRequest n op = if s.requestActs n op then s.setFlag (requestFlag n op) true else s := by
  have hoff := (requestFlag_spec n op).1
  have hspan' : (s.setFlag (requestFlag n op) true).spanOf n = none := by
    rw [← hspan]
    refine State.spanOf_congr (fun k => ?_) (fun k => ?_) n
    · exact s.reg_setFlag_other _ (by rw [hoff]; simp only [R.SEQ_RUN, R.FAB_SPAN_CFG]; omega)
    · exact s.reg_setFlag_other _ (by rw [hoff]; simp only [R.SEQ_RUN, R.FAB_SPAN_STAT]; omega)
  unfold State.runRequest
  extract_lets acts t
  have hacts : s.requestActs n op = acts := rfl
  have ht : s.setFlag (requestFlag n op) true = t := rfl
  rw [ht] at hspan'
  rw [hacts, ht, hspan']
  cases acts <;> rfl

/-- A word whose field is written with the value that it holds is the same word. -/
theorem putBits_bitsOf (v hi lo : Nat) : putBits v hi lo (bitsOf v hi lo) = v := by
  apply Nat.eq_of_testBit_eq
  intro i
  rw [testBit_putBits, testBit_bitsOf]
  split
  · next h => rw [decide_eq_true (by omega), Bool.true_and, Nat.add_sub_cancel' h.1]
  · rfl

/-- A write of a field with the value that it holds changes no register. -/
theorem State.reg_setFld_same (s : State) (f : Fld) (o : Nat) : (s.setFld f (s.fld f)).reg o = s.reg o := by
  rw [State.setFld, State.fld, putBits_bitsOf, BitVec.ofNat_toNat, BitVec.setWidth_eq, State.reg_setReg]
  split
  · next h => rw [h]
  · rfl

/-- A write of SEQ_RUN that keeps the source of the start changes no register but by its requests. -/
theorem State.reg_setStart_same (s : State) (n o : Nat) :
    (s.setStart n (s.fld (F.SEQ_RUN_START_TRIG n)) (s.fld (F.SEQ_RUN_START_SRC n))).reg o = s.reg o := by
  have htrig := s.reg_setFld_same (F.SEQ_RUN_START_TRIG n)
  have hsrc : (s.setFld (F.SEQ_RUN_START_TRIG n) (s.fld (F.SEQ_RUN_START_TRIG n))).fld (F.SEQ_RUN_START_SRC n) =
      s.fld (F.SEQ_RUN_START_SRC n) := by
    rw [State.fld, htrig, State.fld]
  rw [State.setStart, ← hsrc, State.reg_setFld_same, htrig]

/-- The rule of a write of SEQ_RUN that requests a pause, resume or abort. -/
theorem seqRunRule_request {trig src op : Nat} (n : Nat) (s : State) (ht : trig < 16) (hs : src < 4)
    (hop : op = 1 ∨ op = 2 ∨ op = 3) : seqRunRule n (runWord trig src op) s = {
      stateOk := s.bound n && (src == s.fld (F.SEQ_RUN_START_SRC n) || !s.gangRuns n)
      rangeOk := src != 3
      eff := fun u => (u.setStart n trig src).runRequest n op } := by
  have hop4 : op < 4 := by omega
  have hreq := request_runWord ht hs hop4
  simp only [seqRunRule, State.setStart, trig_runWord ht hs hop4, src_runWord ht hs hop4, hreq 0 (by decide),
    hreq 1 (by decide), hreq 2 (by decide), hreq 3 (by decide)]
  rcases hop with rfl | rfl | rfl <;> simp

/-- What a request that passes the checks does: its bit is set where it acts, and SEQ_RUN keeps the source of the start. -/
theorem State.seqRequest_spec {s : State} {a : Agent} {n : Nat} (op : Nat) (h : s.admits a .seq (P.SEQ n) = true) (hn : n < 16)
    (hb : s.bound n = true) (h3 : s.fld (F.SEQ_RUN_START_SRC n) ≠ 3) (hspan : s.spanOf n = none)
    (hop : op = 1 ∨ op = 2 ∨ op = 3) :
    s.regsButFor (s.seqRequest a n (2 ^ op)) [R.SEQ_RUN n] ∧
    (s.seqRequest a n (2 ^ op)).flag (requestFlag n op) = (s.flag (requestFlag n op) || s.requestActs n op) ∧
    (s.seqRequest a n (2 ^ op)).fld (F.SEQ_RUN_START_SRC n) = s.fld (F.SEQ_RUN_START_SRC n) ∧
    (s.seqRequest a n (2 ^ op)).fld (F.SEQ_RUN_START_TRIG n) = s.fld (F.SEQ_RUN_START_TRIG n) := by
  set u := s.setStart n (s.fld (F.SEQ_RUN_START_TRIG n)) (s.fld (F.SEQ_RUN_START_SRC n)) with hudef
  have hu (o : Nat) : u.reg o = s.reg o := s.reg_setStart_same n o
  have hfld (f : Fld) : u.fld f = s.fld f := by rw [State.fld, State.fld, hu]
  have hwrite : s.seqRequest a n (2 ^ op) = if s.requestActs n op then u.setFlag (requestFlag n op) true else u := by
    rw [← State.requestActs_congr hu,
      ← State.runRequest_alone op hn ((State.spanOf_congr (fun _ => hu _) (fun _ => hu _) n).trans hspan)]
    refine (congrArg _ (seqRunRule_request n s (bitsOf_lt _ 19 16) (bitsOf_lt _ 9 8) hop)).trans ?_
    refine State.writeBy_ok _ _ h rfl rfl ?_ rfl (bne_iff_ne.mpr h3)
    simp [hb, State.fld]
  obtain ⟨hoff, hbit, hlow⟩ := requestFlag_spec n op
  rw [hwrite]
  cases s.requestActs n op
  · exact ⟨fun o _ => hu o, by simp [State.flag, hfld], hfld _, hfld _⟩
  · refine ⟨fun o ho => ?_, ?_, ?_, ?_⟩
    · rw [if_pos rfl, u.reg_setFlag_other _ (by simpa [hoff] using ho), hu]
    · rw [if_pos rfl, u.flag_setFlag_self _ _ hbit (by omega), Bool.or_true]
    · rw [if_pos rfl, State.setFlag, u.fld_setFld_other _ (by omega) (.inr (.inr (by show _ < 8; omega))), hfld]
    · rw [if_pos rfl, State.setFlag, u.fld_setFld_other _ (by omega) (.inr (.inr (by show _ < 16; omega))), hfld]

/-- A request to a sequencer that is not bound is rejected. -/
theorem State.seqRequest_unbound {s : State} {a : Agent} {n : Nat} (bits : Nat) (h : s.admits a .seq (P.SEQ n) = true)
    (hb : s.bound n = false) : s.seqRequest a n bits = s.reject (P.SEQ n) (R.SEQ_RUN n) .state := by
  refine State.writeBy_refused _ _ .state h ?_
  simp only [seqRunRule, hb, Bool.false_and]
  rfl

/-! ### Gangs, flags, pending triggers (R83, R84, R102) -/

/-- The rule of SEQ_FLAG_SET. -/
theorem seqRule_flagSet (n : Nat) (v : Word) (s : State) : seqRule n (R.SEQ_FLAG_SET n) v s =
    { stateOk := s.bound n, eff := fun s => s.setFlags n (s.flags n ||| v.toNat % 65536) } := by
  have ho : R.SEQ_FLAG_SET n - P.SEQ n = 0x70 := by simp only [R.SEQ_FLAG_SET, P.SEQ]; omega
  simp [seqRule, ho]

/-- The rule of SEQ_FLAG_CLR. -/
theorem seqRule_flagClr (n : Nat) (v : Word) (s : State) : seqRule n (R.SEQ_FLAG_CLR n) v s =
    { stateOk := s.bound n, eff := fun s => s.setFlags n (s.flags n &&& (0xFFFF ^^^ v.toNat % 65536)) } := by
  have ho : R.SEQ_FLAG_CLR n - P.SEQ n = 0x74 := by simp only [R.SEQ_FLAG_CLR, P.SEQ]; omega
  simp [seqRule, ho]

/-- The rule of SEQ_TRIG_PEND. -/
theorem seqRule_trigPend (n : Nat) (v : Word) (s : State) : seqRule n (R.SEQ_TRIG_PEND n) v s =
    { stateOk := s.bound n, eff := fun s => s.clrReg (R.SEQ_TRIG_PEND n) (v &&& 0xFFFF) } := by
  have ho : R.SEQ_TRIG_PEND n - P.SEQ n = 0x78 := by simp only [R.SEQ_TRIG_PEND, P.SEQ]; omega
  simp [seqRule, ho]

/-- A mask of 16 bits, as the word that carries it. -/
theorem mask16_word (m : BitVec 16) :
    (m.setWidth 32).toNat % 65536 = m.toNat ∧ (m.setWidth 32 &&& 0xFFFF : Word) = m.setWidth 32 := by
  have hm := m.isLt
  refine ⟨by rw [BitVec.toNat_setWidth]; omega, BitVec.eq_of_toNat_eq ?_⟩
  have hand := Nat.and_two_pow_sub_one_eq_mod m.toNat 16
  rw [BitVec.toNat_and, BitVec.toNat_setWidth, Nat.mod_eq_of_lt (by omega)]
  exact hand.trans (Nat.mod_eq_of_lt hm)

section
variable {s : State} {a : Agent} {n : Fin 16} (h : s.admits a .seq (P.SEQ n) = true)
include h

theorem seqGang_regroups {l : BitVec 4} (hst : (seqGangRule n (l.setWidth 32) s).stateOk = true) (hl : n.val ≤ l.toNat) :
    exec (.seqGang a n l) s = .next (s.regroup n l.toNat) := by
  have hlast : (l.setWidth 32 : Word).toNat % 16 = l.toNat := by rw [BitVec.toNat_setWidth]; omega
  rw [exec_seqGang, execSeqGang, State.writeBy_ok _ _ h rfl rfl hst rfl _]
  · simp only [seqGangRule, hlast]
  · simp only [seqGangRule, hlast, decide_eq_true hl]

/-- LAST below the sequencer's own number is out of range (R102). -/
theorem seqGang_range {l : BitVec 4} (hst : (seqGangRule n (l.setWidth 32) s).stateOk = true) (hl : l.toNat < n.val) :
    exec (.seqGang a n l) s = .next (s.reject (P.SEQ n) (R.SEQ_GANG n) .range) := by
  have hlast : (l.setWidth 32 : Word).toNat % 16 = l.toNat := by rw [BitVec.toNat_setWidth]; omega
  have hrange : (seqGangRule n (l.setWidth 32) s).rangeOk = false := by
    simp only [seqGangRule, hlast, decide_eq_false (Nat.not_le.mpr hl)]
  rw [exec_seqGang, execSeqGang, State.writeBy_refused _ _ .range h (by rw [hst, hrange]; rfl)]
  rfl

theorem seqGang_unbound (l : BitVec 4) (hb : s.bound n = false) :
    exec (.seqGang a n l) s = .next (s.reject (P.SEQ n) (R.SEQ_GANG n) .state) := by
  have hst : (seqGangRule n (l.setWidth 32) s).stateOk = false := by simp only [seqGangRule, hb, Bool.false_and]
  rw [exec_seqGang, execSeqGang, State.writeBy_refused _ _ .state h (by rw [hst]; rfl)]
  rfl

theorem seqFlagSet_unbound (m : BitVec 16) (hb : s.bound n = false) :
    exec (.seqFlagSet a n m) s = .next (s.reject (P.SEQ n) (R.SEQ_FLAG_SET n) .state) := by
  rw [exec_seqFlagSet, execSeqFlagSet, seqRule_flagSet, State.writeBy_refused _ _ .state h (by rw [hb]; rfl)]

theorem seqFlagSet_bound (m : BitVec 16) (hb : s.bound n = true) :
    exec (.seqFlagSet a n m) s = .next (s.setFlags n (s.flags n ||| m.toNat)) := by
  rw [exec_seqFlagSet, execSeqFlagSet, seqRule_flagSet, State.writeBy_ok _ _ h rfl rfl hb rfl rfl, (mask16_word m).1]

theorem seqFlagClr_bound (m : BitVec 16) (hb : s.bound n = true) :
    exec (.seqFlagClr a n m) s = .next (s.setFlags n (s.flags n &&& (0xFFFF ^^^ m.toNat))) := by
  rw [exec_seqFlagClr, execSeqFlagClr, seqRule_flagClr, State.writeBy_ok _ _ h rfl rfl hb rfl rfl, (mask16_word m).1]

theorem seqTrigPendClear_bound (m : BitVec 16) (hb : s.bound n = true) :
    exec (.seqTrigPendClear a n m) s = .next (s.clrReg (R.SEQ_TRIG_PEND n) (m.setWidth 32)) := by
  rw [exec_seqTrigPendClear, execSeqTrigPendClear, seqRule_trigPend, State.writeBy_ok _ _ h rfl rfl hb rfl rfl,
    (mask16_word m).2]

end

/-- Settles O42: each request is one write of a register of the SEQ page, which its rule decides; a pause, resume or abort writes
back the source of the start that SEQ_RUN holds. That a start by cycle arms nothing yet is the model's choice (assumption 62). -/
theorem sequencerRequests : Obligations.SequencerRequests := by
  unfold Obligations.SequencerRequests
  refine ⟨?_, fun _ _ => seqTriggerStart_starts, fun _ _ => seqTriggerStart_idle, ?_, ?_,
    fun s a n l h hst => ⟨seqGang_regroups h hst, seqGang_range h hst⟩,
    fun s a n m h hb => ⟨seqFlagSet_bound h m hb, seqFlagClr_bound h m hb, seqTrigPendClear_bound h m hb⟩⟩
  · rintro s t a n src trig h rfl hb hsrc
    refine ⟨?_, ?_, ?_, seqStart_range h hb hsrc, seqStart_state h⟩
    · rintro hst rfl
      rw [seqStart_ok h hb hsrc hst (by decide), if_pos (by decide)]
      rfl
    · rintro hst rfl
      rw [seqStart_ok h hb hsrc hst (by decide), if_neg (by decide), if_pos (by decide)]
      rfl
    · rintro hst rfl
      rw [seqStart_ok h hb hsrc hst (by decide), if_neg (by decide), if_neg (by decide)]
      rfl
  · intro s a n h hb h3 hspan
    obtain ⟨hpregs, hpflag, hpsrc, hptrig⟩ := State.seqRequest_spec 1 h n.isLt hb h3 hspan (by decide)
    obtain ⟨hrregs, hrflag, -, -⟩ := State.seqRequest_spec 2 h n.isLt hb h3 hspan (by decide)
    obtain ⟨hbregs, hbflag, -, -⟩ := State.seqRequest_spec 3 h n.isLt hb h3 hspan (by decide)
    exact ⟨_, _, _, rfl, rfl, rfl, hpregs, hrregs, hbregs, hpflag.trans (Bool.or_assoc ..).symm, hrflag, hbflag, hpsrc,
      hptrig⟩
  · intro s a n m h hb
    exact ⟨congrArg done (State.seqRequest_unbound 2 h hb), seqGang_unbound h 0 hb, seqFlagSet_unbound h m hb⟩

end Sys2Proof.Machine
end

section
/-! PROOFS. The micro-engine after it is written, and the passage of a micro-operation: when it waits, expires, faults or goes on
(04, R104, R105, R108 to R110, R117). -/

namespace Sys2Proof.Machine

open Sys2Proof

/-! ### A sequencer that is written twice -/

theorem serase_of_unlisted {α : Type} {l : List (Nat × α)} {i : Nat} (h : ∀ e ∈ l, e.1 ≠ i) : serase l i = l := by
  induction l with
  | nil => rfl
  | cons e t ih =>
    obtain ⟨k, w⟩ := e
    have hk : i ≠ k := (h (k, w) List.mem_cons_self).symm
    rw [serase, if_neg hk, ih fun e he => h e (List.mem_cons_of_mem _ he)]

theorem serase_sinsert {α : Type} {l : List (Nat × α)} {i : Nat} (v : α) (h : ∀ e ∈ l, e.1 ≠ i) :
    serase (sinsert l i v) i = l := by
  induction l with
  | nil => simp [sinsert, serase]
  | cons e t ih =>
    obtain ⟨k, w⟩ := e
    have hk : i ≠ k := (h (k, w) List.mem_cons_self).symm
    rw [sinsert]
    split
    · rw [serase, if_pos rfl, serase_of_unlisted h]
    · rw [serase, if_neg hk, ih fun e he => h e (List.mem_cons_of_mem _ he)]

/-- The second of two writes at one key stands. -/
theorem sset_sset {α : Type} [DecidableEq α] (d : α) (l : List (Nat × α)) (i : Nat) (v w : α) :
    sset d (sset d l i v) i w = sset d l i w := by
  have herase : serase (sset d l i v) i = serase l i := by
    unfold sset
    split
    · exact serase_of_unlisted (serase_key l i)
    · exact serase_sinsert v (serase_key l i)
  show (if w = d then serase (sset d l i v) i else sinsert (serase (sset d l i v) i) i w) = _
  rw [herase]
  rfl

@[simp] theorem State.seq_setSeq_self (s : State) (n : Nat) (q : Seq) : (s.setSeq n q).seq n = q := sget_sset_self _ _ n q

@[simp] theorem State.setSeq_setSeq (s : State) (n : Nat) (q r : Seq) : (s.setSeq n q).setSeq n r = s.setSeq n r := by
  simp only [State.setSeq, sset_sset]

@[simp] theorem State.seq_setMicro_self (s : State) (n : Nat) (m : Micro) :
    (s.setMicro n m).seq n = { s.seq n with micro := m } := s.seq_setSeq_self n _

@[simp] theorem State.micro_setMicro_self (s : State) (n : Nat) (m : Micro) : (s.setMicro n m).micro n = m :=
  congrArg Seq.micro (s.seq_setMicro_self n m)

@[simp] theorem State.setMicro_setMicro (s : State) (n : Nat) (m p : Micro) :
    (s.setMicro n m).setMicro n p = s.setMicro n p := by
  rw [State.setMicro, State.seq_setMicro_self, State.setMicro, State.setSeq_setSeq]
  rfl

/-! ### The state past a micro-operation (R109) -/

@[simp] theorem State.seq_passed (s : State) (n k : Nat) :
    (s.passed n k).seq n = { s.seq n with micro := (s.micro n).passed k } := s.seq_setMicro_self n _

@[simp] theorem State.micro_passed (s : State) (n k : Nat) : (s.passed n k).micro n = (s.micro n).passed k :=
  s.micro_setMicro_self n _

@[simp] theorem State.setSeq_passed (s : State) (n k : Nat) (q : Seq) : (s.passed n k).setSeq n q = s.setSeq n q :=
  s.setSeq_setSeq n _ q

@[simp] theorem State.setMicro_passed (s : State) (n k : Nat) (m : Micro) :
    (s.passed n k).setMicro n m = s.setMicro n m := s.setMicro_setMicro n _ m

@[simp] theorem Micro.reg_passed (m : Micro) (k i : Nat) : (m.passed k).reg i = m.reg i := rfl

@[simp] theorem State.seqNat_passed (s : State) (n k a w : Nat) : (s.passed n k).seqNat n a w = s.seqNat n a w := rfl

/-- A special of the routine holds what it held before the operation. -/
@[simp] theorem State.special_passed (s : State) (n k sel : Nat) : (s.passed n k).special n sel = s.special n sel := by
  have hgang : (s.passed n k).gangG n = s.gangG n := rfl
  have htap : (s.passed n k).fld (F.MC_SQ_TAP_TAPST n) = s.fld (F.MC_SQ_TAP_TAPST n) := rfl
  simp only [State.special, State.seq_passed, hgang, htap]
  rfl

/-! ### The fetch of a microword (R105) -/

/-- What a micro-operation of `k` micro-cycles needs to be fetched: a routine, room for the operation before the watchdog, a
micro-address within the store, and no injected error. -/
theorem State.uopRuns_spec {s : State} {n k : Nat} (h : s.uopRuns n k = true) :
    (s.micro n).active = true ∧ (s.micro n).count + k ≤ 4096 ∧ (s.micro n).upc < 0x7000 ∧
    s.bit (R.xx_FLT_INJ P.MC) (regionFault (s.micro n).upc) = false ∧
    s.bit (R.xx_FLT_INJ (P.SEQ n)) X.SEQ_CSTORE_ECC = false := by
  simpa only [State.uopRuns, Bool.and_eq_true, decide_eq_true_eq, Bool.not_eq_true', and_assoc] using h

theorem State.takeInj_clear {s : State} {p b : Nat} (h : s.bit (R.xx_FLT_INJ p) b = false) : s.takeInj p b = (false, s) := by
  rw [State.takeInj, h]
  rfl

section
variable {s : State} {n k : Nat} (h : s.uopRuns n k = true)
include h

theorem State.fetchCheck_clean : s.fetchCheck n .clean = (true, s) := by
  obtain ⟨-, -, -, hmc, hseq⟩ := State.uopRuns_spec h
  simp only [State.fetchCheck, State.takeInj_clear hmc, State.takeInj_clear hseq]

theorem State.fetchCheck_corrected :
    s.fetchCheck n .corrected = (true, (s.count (R.MC_SQ_CE n)).count (R.xx_CE_COUNT P.MC)) := by
  obtain ⟨-, -, -, hmc, hseq⟩ := State.uopRuns_spec h
  simp only [State.fetchCheck, State.takeInj_clear hmc, State.takeInj_clear hseq]

theorem State.fetchCheck_double : s.fetchCheck n .double = (false, s.fetchError n false) := by
  obtain ⟨-, -, -, hmc, hseq⟩ := State.uopRuns_spec h
  simp only [State.fetchCheck, State.takeInj_clear hmc, State.takeInj_clear hseq]

end

/-! ### A micro-operation that does not come to its meaning -/

section
variable {s : State} {n : Nat} (chk : EccCheck) (k : Nat) (f : State → State)

theorem State.uop_idle (ready legal : Bool) (h : (s.micro n).active = false) : s.uop n chk k ready legal f = s := by
  simp [State.uop, h]

theorem State.uop_waits {ready : Bool} (legal : Bool) (h : ready = false) : s.uop n chk k ready legal f = s := by
  simp [State.uop, h]

theorem State.uop_expires {ready : Bool} (legal : Bool) (ha : (s.micro n).active = true) (hr : ready = true)
    (hc : 4096 < (s.micro n).count + k) : s.uop n chk k ready legal f = s.watchdog n := by
  simp [State.uop, ha, hr, hc]

theorem State.uop_beyond {ready : Bool} (legal : Bool) (ha : (s.micro n).active = true) (hr : ready = true)
    (hc : (s.micro n).count + k ≤ 4096) (hu : 0x7000 ≤ (s.micro n).upc) :
    s.uop n chk k ready legal f = s.microFault n X.MC_UBOUNDS := by
  simp [State.uop, ha, hr, hu, Nat.not_lt.mpr hc]

end

/-! ### A micro-operation whose word is fetched -/

section
variable {s : State} {n k : Nat} (h : s.uopRuns n k = true)
include h

/-- An operation whose fetch fails leaves what the check of the fetch leaves. -/
theorem State.uop_unfetched {t : State} {chk : EccCheck} {ready : Bool} (legal : Bool) (f : State → State) (hr : ready = true)
    (ht : s.fetchCheck n chk = (false, t)) : s.uop n chk k ready legal f = t := by
  obtain ⟨ha, hc, hu, -, -⟩ := State.uopRuns_spec h
  simp [State.uop, ha, hr, ht, Nat.not_lt.mpr hc, Nat.not_le.mpr hu]

/-- An operation that is fetched faults where it is not legal, and goes on with its meaning where it is. -/
theorem State.uop_fetched {t : State} {chk : EccCheck} {ready : Bool} (legal : Bool) (f : State → State) (hr : ready = true)
    (ht : s.fetchCheck n chk = (true, t)) (hm : t.micro n = s.micro n) :
    s.uop n chk k ready legal f = if legal then f (t.passed n k) else t.microFault n X.MC_UOP_ILLEGAL := by
  obtain ⟨ha, hc, hu, -, -⟩ := State.uopRuns_spec h
  cases legal <;> simp [State.uop, ha, hr, ht, hm, Nat.not_lt.mpr hc, Nat.not_le.mpr hu, State.passed, Micro.passed]

theorem State.uop_runs {ready legal : Bool} (f : State → State) (hr : ready = true) (hl : legal = true) :
    s.uop n .clean k ready legal f = f (s.passed n k) := by
  rw [State.uop_fetched h _ _ hr (State.fetchCheck_clean h) rfl, if_pos hl]

theorem State.uop_illegal {ready legal : Bool} (f : State → State) (hr : ready = true) (hl : legal = false) :
    s.uop n .clean k ready legal f = s.microFault n X.MC_UOP_ILLEGAL := by
  rw [State.uop_fetched h _ _ hr (State.fetchCheck_clean h) rfl, hl]
  rfl

theorem State.uop_double {ready : Bool} (legal : Bool) (f : State → State) (hr : ready = true) :
    s.uop n .double k ready legal f = s.fetchError n false :=
  State.uop_unfetched h legal f hr (State.fetchCheck_double h)

theorem State.uop_corrected {ready legal : Bool} (f : State → State) (hr : ready = true) (hl : legal = true) :
    s.uop n .corrected k ready legal f =
      f (((s.count (R.MC_SQ_CE n)).count (R.xx_CE_COUNT P.MC)).passed n k) := by
  rw [State.uop_fetched h _ _ hr (State.fetchCheck_corrected h) rfl, if_pos hl]

/-- A micro-operation that only changes the micro-engine. -/
theorem State.uopM_runs (f : Micro → Micro) : s.uopM n .clean k f = s.setMicro n (f ((s.micro n).passed k)) := by
  rw [State.uopM, State.uop_runs h _ rfl rfl, State.micro_passed, State.setMicro_passed]

end

end Sys2Proof.Machine
end

section
/-! PROOFS. Micro-operations that compute, move specials, load block data and steer the routine (04, R106 to R110). -/

namespace Sys2Proof.Machine

open Sys2Proof

/-! ### Arithmetic (R108) -/

section
variable {s : State} {n rd ra : Fin 16} (h : s.uopRuns n 1 = true)
include h

/-- A shift by at least 1 sets C to the last bit shifted out. -/
theorem State.uopShift_pos {k : Nat} (v : Word → Word) (outBit : Nat) (hk : k ≠ 0) :
    s.uopShift n rd ra .clean k v outBit = s.setMicro n (((s.micro n).passed 1).alu rd (v ((s.micro n).reg ra))
      (((s.micro n).reg ra).getLsbD outBit)) := by
  rw [State.uopShift, State.uop_runs h _ rfl rfl, if_neg hk, State.micro_passed, State.setMicro_passed, Micro.reg_passed]

/-- A shift by 0 moves RA to RD; the free value is C (assumption 51). -/
theorem State.uopShift_zero (v : Word → Word) (outBit : Nat) : ∃ c, (s.uopShift n rd ra .clean 0 v outBit).micro n =
    ((s.micro n).passed 1).alu rd (v ((s.micro n).reg ra)) c := by
  rw [State.uopShift, State.uop_runs h _ rfl rfl, if_pos rfl]
  refine ⟨Config.freeValue s.free 1 == 1#1, (State.micro_setMicro_self ..).trans ?_⟩
  rw [State.micro_passed, Micro.reg_passed]
  exact congrArg (fun m : Micro => m.alu rd (v ((s.micro n).reg ra)) _) (s.micro_passed n 1)

theorem uopShl_pos {imm : BitVec 14} (hk : imm.toNat % 32 ≠ 0) : exec (.uopShl n rd ra imm .clean) s =
    .next (s.setMicro n (((s.micro n).passed 1).alu rd ((s.micro n).reg ra <<< (imm.toNat % 32))
      (((s.micro n).reg ra).getLsbD (32 - imm.toNat % 32)))) :=
  congrArg done (State.uopShift_pos h (fun x => x <<< (imm.toNat % 32)) _ hk)

theorem uopShr_pos {imm : BitVec 14} (hk : imm.toNat % 32 ≠ 0) : exec (.uopShr n rd ra imm .clean) s =
    .next (s.setMicro n (((s.micro n).passed 1).alu rd ((s.micro n).reg ra >>> (imm.toNat % 32))
      (((s.micro n).reg ra).getLsbD (imm.toNat % 32 - 1)))) :=
  congrArg done (State.uopShift_pos h (fun x => x >>> (imm.toNat % 32)) _ hk)

theorem uopShl_zero {imm : BitVec 14} (hk : imm.toNat % 32 = 0) : ∃ t c, exec (.uopShl n rd ra imm .clean) s = .next t ∧
    t.micro n = ((s.micro n).passed 1).alu rd ((s.micro n).reg ra) c := by
  obtain ⟨c, hc⟩ := State.uopShift_zero (rd := rd) (ra := ra) h (fun x => x <<< 0) 32
  rw [BitVec.shiftLeft_zero] at hc
  refine ⟨_, c, ?_, hc⟩
  rw [exec_uopShl, execUopShl, hk]

theorem uopShr_zero {imm : BitVec 14} (hk : imm.toNat % 32 = 0) : ∃ t c, exec (.uopShr n rd ra imm .clean) s = .next t ∧
    t.micro n = ((s.micro n).passed 1).alu rd ((s.micro n).reg ra) c := by
  obtain ⟨c, hc⟩ := State.uopShift_zero (rd := rd) (ra := ra) h (fun x => x >>> 0) (0 - 1)
  rw [BitVec.ushiftRight_zero] at hc
  refine ⟨_, c, ?_, hc⟩
  rw [exec_uopShr, execUopShr, hk]

end

/-! ### Specials (R106) -/

/-- A reserved special is illegal wherever the routine runs (assumption 52). -/
theorem Micro.specialLegal_reserved (m : Micro) {sel : Nat} (hsel : 0x20 ≤ sel) : m.specialLegal sel = false := by
  have h10 : ¬ sel < 0x10 := by omega
  simp [Micro.specialLegal, Nat.not_lt.mpr hsel, h10]

theorem Micro.specialLegal_of_lt (m : Micro) {sel : Nat} (hsel : sel < 0x10) : m.specialLegal sel = true := by
  simp [Micro.specialLegal, hsel]

/-- The specials below the DESC specials are read-only (R106). -/
theorem State.setSpecial_readOnly (s : State) (n : Nat) {sel : Nat} (v : Word) (hsel : sel < 8) : s.setSpecial n sel v = s := by
  interval_cases sel <;> rfl

theorem State.setSpecial_descLen (s : State) (n : Nat) (v : Word) :
    s.setSpecial n 0x08 v = s.setMicro n { s.micro n with descLen := v } := rfl

theorem State.setSpecial_descEnc (s : State) (n : Nat) (v : Word) :
    s.setSpecial n 0x0B v = s.setMicro n { s.micro n with descEnc := v &&& 0xF } := rfl

section
variable {s : State} {n rd ra : Fin 16} {sel : BitVec 6} (h : s.uopRuns n 1 = true)
include h

theorem uopMovs_listed {v : Word} (hv : s.special n sel.toNat = some v) (hsel : sel.toNat < 0x10) :
    exec (.uopMovs n rd sel .clean) s = .next (s.setMicro n (((s.micro n).passed 1).setU rd v)) := by
  rw [exec_uopMovs, execUopMovs, State.uop_runs h _ rfl (Micro.specialLegal_of_lt _ hsel), State.special_passed, hv]
  dsimp only
  rw [State.micro_passed, State.setMicro_passed]

theorem uopMovd_eq (hsel : sel.toNat < 0x10) : exec (.uopMovd n ra sel .clean) s =
    .next ((s.passed n 1).setSpecial n sel.toNat ((s.micro n).reg ra)) := by
  rw [exec_uopMovd, execUopMovd, State.uop_runs h _ rfl (Micro.specialLegal_of_lt _ hsel), State.micro_passed,
    Micro.reg_passed]

/-- MOVD into DESC_LEN (R106). -/
theorem uopMovd_descLen : exec (.uopMovd n ra 0x08 .clean) s =
    .next (s.setMicro n { (s.micro n).passed 1 with descLen := (s.micro n).reg ra }) := by
  refine (uopMovd_eq h (by decide)).trans (congrArg done ((State.setSpecial_descLen ..).trans ?_))
  rw [State.micro_passed, State.setMicro_passed]

/-- MOVD into DESC_ENC (R106). -/
theorem uopMovd_descEnc : exec (.uopMovd n ra 0x0B .clean) s =
    .next (s.setMicro n { (s.micro n).passed 1 with descEnc := (s.micro n).reg ra &&& 0xF }) := by
  refine (uopMovd_eq h (by decide)).trans (congrArg done ((State.setSpecial_descEnc ..).trans ?_))
  rw [State.micro_passed, State.setMicro_passed]

theorem uopMovd_readOnly (hsel : sel.toNat < 8) :
    exec (.uopMovd n ra sel .clean) s = .next (s.setMicro n ((s.micro n).passed 1)) := by
  rw [uopMovd_eq h (by omega), State.setSpecial_readOnly _ _ _ hsel, State.passed]

theorem uopMov_reserved (hsel : 0x20 ≤ sel.toNat) :
    exec (.uopMovs n rd sel .clean) s = .next (s.microFault n X.MC_UOP_ILLEGAL) ∧
    exec (.uopMovd n ra sel .clean) s = .next (s.microFault n X.MC_UOP_ILLEGAL) := by
  have hlegal := (s.micro n).specialLegal_reserved hsel
  exact ⟨congrArg done (State.uop_illegal h _ rfl hlegal), congrArg done (State.uop_illegal h _ rfl hlegal)⟩

end

/-! ### Block data (R108) -/

section
variable {s : State} {n rd ra : Fin 16} {imm : BitVec 14}

theorem uopLdp_reads (h : s.uopRuns n 2 = true) (hin : (s.micro n).ldpOffset ra imm + 4 ≤ (s.micro n).size)
    (hl : s.linesPresent n ((s.micro n).base + (s.micro n).ldpOffset ra imm) 4 = true) :
    exec (.uopLdp n rd ra imm .clean) s = .next (s.setMicro n (((s.micro n).passed 2).setU rd
      (BitVec.ofNat 32 (s.seqNat n ((s.micro n).base + (s.micro n).ldpOffset ra imm) 4)))) := by
  rw [exec_uopLdp, execUopLdp]
  dsimp only
  rw [State.uop_runs h _ (by rw [hl, Bool.or_true]) rfl, decide_eq_true hin, if_pos rfl, State.micro_passed,
    State.setMicro_passed, State.seqNat_passed]

theorem uopLdp_waits (hin : (s.micro n).ldpOffset ra imm + 4 ≤ (s.micro n).size)
    (hl : s.linesPresent n ((s.micro n).base + (s.micro n).ldpOffset ra imm) 4 = false) :
    exec (.uopLdp n rd ra imm .clean) s = .next s :=
  congrArg done (State.uop_waits _ _ _ _ (by rw [hl, decide_eq_true hin]; rfl))

/-- LDP beyond the block data faults at its own micro-address (R108). -/
theorem uopLdp_outside (h : s.uopRuns n 2 = true) (hout : (s.micro n).size < (s.micro n).ldpOffset ra imm + 4) :
    exec (.uopLdp n rd ra imm .clean) s =
      .next ((s.setMicro n { s.micro n with count := (s.micro n).count + 2 }).microFault n X.MC_UBOUNDS) := by
  rw [exec_uopLdp, execUopLdp]
  dsimp only
  rw [decide_eq_false (Nat.not_le.mpr hout), Bool.not_false, Bool.true_or, State.uop_runs h _ rfl rfl,
    if_neg Bool.false_ne_true, State.micro_passed, State.setMicro_passed]
  rfl

end

/-! ### Control flow (R108 to R110) -/

/-- A routine outside the open region may go anywhere. -/
theorem State.uopGoto_free (s : State) (n at0 target : Nat) :
    s.uopGoto n at0 target false = s.setMicro n { s.micro n with upc := target } := rfl

/-- A routine of the open region that leaves it faults at the micro-address it was at (R110). -/
theorem State.uopGoto_leaves (s : State) (n at0 : Nat) {target : Nat} (ht : target < 0x6000 ∨ 0x7000 ≤ target) :
    s.uopGoto n at0 target true = (s.setMicro n { s.micro n with upc := at0 }).microFault n X.MC_UBOUNDS := by
  have hout : (decide (0x6000 ≤ target) && decide (target < 0x7000)) = false := by
    simp only [Bool.and_eq_false_iff, decide_eq_false_iff_not]
    omega
  rw [State.uopGoto, hout]
  rfl

section
variable {s : State} {n ra : Fin 16} {c : BitVec 4} (t : BitVec 15)

theorem uopBr_taken (hopen : (s.micro n).isOpen = false) (hc : c.toNat ≤ 8)
    (hb : (s.micro n).bcond c.toNat ((s.micro n).reg ra) = true) (h : s.uopRuns n 2 = true) :
    exec (.uopBr n c ra t .clean) s =
      .next (s.setMicro n { s.micro n with count := (s.micro n).count + 2, upc := t.toNat }) := by
  rw [exec_uopBr, execUopBr]
  dsimp only
  rw [hb, decide_eq_true hc, Bool.and_self, if_pos rfl, State.uop_runs h _ rfl rfl, if_pos rfl, hopen, State.uopGoto_free,
    State.micro_passed, State.setMicro_passed]
  rfl

theorem uopBr_passes (hc : c.toNat ≤ 8) (hb : (s.micro n).bcond c.toNat ((s.micro n).reg ra) = false)
    (h : s.uopRuns n 1 = true) : exec (.uopBr n c ra t .clean) s = .next (s.passed n 1) := by
  rw [exec_uopBr, execUopBr, hb, decide_eq_true hc, Bool.false_and, if_neg Bool.false_ne_true, State.uop_runs h _ rfl rfl,
    if_neg Bool.false_ne_true]

/-- BCOND 9 to 15 is illegal (R108). -/
theorem uopBr_illegal (h : s.uopRuns n 1 = true) (hc : 8 < c.toNat) :
    exec (.uopBr n c ra t .clean) s = .next (s.microFault n X.MC_UOP_ILLEGAL) := by
  rw [exec_uopBr, execUopBr, decide_eq_false (Nat.not_le.mpr hc), Bool.and_false, if_neg Bool.false_ne_true,
    State.uop_illegal h _ rfl rfl]

end

section
variable {s : State} {n : Fin 16} (t : BitVec 15) (h : s.uopRuns n 2 = true)
include h

theorem uopCallu_pushes (hopen : (s.micro n).isOpen = false) (hroom : (s.micro n).stack.length < 4) :
    exec (.uopCallu n t .clean) s = .next (s.setMicro n { s.micro n with
      count := (s.micro n).count + 2, upc := t.toNat, stack := ((s.micro n).upc + 1) :: (s.micro n).stack }) := by
  rw [exec_uopCallu, execUopCallu, State.uop_runs h _ rfl (decide_eq_true hroom), hopen, State.uopGoto_free,
    State.micro_setMicro_self, State.setMicro_setMicro, State.micro_passed, State.setMicro_passed]
  rfl

theorem uopCallu_full (hfull : 4 ≤ (s.micro n).stack.length) :
    exec (.uopCallu n t .clean) s = .next (s.microFault n X.MC_UOP_ILLEGAL) :=
  congrArg done (State.uop_illegal h _ rfl (decide_eq_false (Nat.not_lt.mpr hfull)))

/-- A call that leaves the open region has pushed its return address when it faults (R110). -/
theorem uopCallu_leaves (hopen : (s.micro n).isOpen = true) (ht : t.toNat < 0x6000 ∨ 0x7000 ≤ t.toNat)
    (hroom : (s.micro n).stack.length < 4) : exec (.uopCallu n t .clean) s = .next ((s.setMicro n { s.micro n with
      count := (s.micro n).count + 2, stack := ((s.micro n).upc + 1) :: (s.micro n).stack }).microFault n X.MC_UBOUNDS) := by
  rw [exec_uopCallu, execUopCallu, State.uop_runs h _ rfl (decide_eq_true hroom), hopen, State.uopGoto_leaves _ _ _ ht,
    State.micro_setMicro_self, State.setMicro_setMicro, State.micro_passed, State.setMicro_passed]
  rfl

theorem uopRetu_pops {a : Nat} {l : List Nat} (hopen : (s.micro n).isOpen = false) (hst : (s.micro n).stack = a :: l) :
    exec (.uopRetu n .clean) s =
      .next (s.setMicro n { s.micro n with count := (s.micro n).count + 2, upc := a, stack := l }) := by
  rw [exec_uopRetu, execUopRetu, State.uop_runs h _ rfl (by rw [hst]; rfl), hst, hopen, State.uopGoto_free,
    State.micro_setMicro_self, State.setMicro_setMicro, State.micro_passed, State.setMicro_passed]
  rfl

theorem uopRetu_empty (hst : (s.micro n).stack = []) :
    exec (.uopRetu n .clean) s = .next (s.microFault n X.MC_UOP_ILLEGAL) :=
  congrArg done (State.uop_illegal h _ rfl (by rw [hst]; rfl))

end

section
variable {s : State} {n : Fin 16}

theorem uopTstc_tests (h : s.uopRuns n 1 = true) (hstr : (s.seq n).streaming.isSome = true) (hdp : (s.seq n).dp = true)
    (hc : condLegal (((s.micro n).operands >>> 48).setWidth 8) = true) : exec (.uopTstc n .clean) s =
      .next (s.setMicro n { (s.micro n).passed 1 with
        z := !(s.passed n 1).cond n (((s.micro n).operands >>> 48).setWidth 8) }) := by
  rw [exec_uopTstc, execUopTstc]
  dsimp only
  rw [State.uop_runs h _ (by rw [hstr, hdp, Bool.and_self]) rfl, State.micro_passed, State.setMicro_passed]
  exact congrArg done (if_pos hc)

theorem uopTstc_waits (hw : (s.seq n).streaming = none ∨ (s.seq n).dp = false) : exec (.uopTstc n .clean) s = .next s := by
  refine congrArg done (State.uop_waits _ _ _ _ ?_)
  rcases hw with hw | hw <;> simp [hw]

end

/-- Settles O39: an operation whose fetch is clean comes to its meaning in the state past it, where registers, specials and block
data read as before. That LUI and the CRC steps set Z and N and clear C as ALU operations do, that MOVS, MOVD and LDP leave the flags,
that MOVD ignores a read-only special, that LDP's immediate is unsigned and that a reserved special is UOP_ILLEGAL (assumption 52),
that C is free after a shift by 0 (51), and that a CRC shifts its message in before the zero bits (53), are the model's choices. -/
theorem microOperations : Obligations.MicroOperations := by
  unfold Obligations.MicroOperations
  refine ⟨?_, ?_, ?_, ?_, fun s n ra c t => uopBr_illegal t, ?_, ?_, fun s n => uopTstc_tests, fun s n _ => uopTstc_waits⟩
  · rintro s n rd ra rb _ _ rfl rfl h
    have computes (f : Micro → Micro) := congrArg done (State.uopM_runs h f)
    exact ⟨computes id, computes _, computes _, computes _, computes _, computes _,
      fun imm hk => ⟨uopShl_pos h hk, uopShr_pos h hk⟩, fun imm hk => ⟨uopShl_zero h hk, uopShr_zero h hk⟩,
      fun imm => ⟨computes _, computes _⟩, fun imm => computes _, computes _, computes _⟩
  · rintro s n rd ra sel _ _ rfl rfl h
    refine ⟨fun v => uopMovs_listed h, ?_, ?_, uopMovd_readOnly h, uopMov_reserved h⟩
    · rintro rfl
      exact uopMovd_descLen h
    · rintro rfl
      exact uopMovd_descEnc h
  · rintro s n rd ra imm _ _ rfl rfl h
    exact ⟨uopLdp_reads h, uopLdp_waits, uopLdp_outside h⟩
  · rintro s n ra c t _ rfl hopen hc
    exact ⟨uopBr_taken t hopen hc, uopBr_passes t hc⟩
  · rintro s n t _ rfl h hopen
    exact ⟨uopCallu_pushes t h hopen, uopCallu_full t h, fun a l => uopRetu_pops h hopen, uopRetu_empty h⟩
  · rintro s n t _ rfl h hopen
    exact uopCallu_leaves t h hopen

end Sys2Proof.Machine
end

section
/-! PROOFS. Micro-operations that join an emission, feed the overlay, transfer a descriptor or end the routine (04, R104, R105,
R113 to R119). -/

namespace Sys2Proof.Machine

open Sys2Proof

/-! ### Effects (R74, R83, R93 to R95) -/

/-- With no block on its way a slot's queue is the configured one. -/
theorem Seq.liveSlot_idle {q : Seq} (x : Slot) (hstr : q.streaming = none) : q.liveSlot x = x := by
  rw [Seq.liveSlot, hstr]
  rfl

section
variable {s : State} {n ra : Fin 16} (h : s.uopRuns n 1 = true)
include h

theorem uopSeqop_joins {imm : BitVec 14} (hop : imm.toNat % 16 < 5) : exec (.uopSeqop n ra imm .clean) s =
    .next (s.setMicro n (((s.micro n).passed 1).effect
      (.flags (imm.toNat % 16) (((s.micro n).reg ra).setWidth 16)))) := by
  rw [exec_uopSeqop, execUopSeqop, State.uop_runs h _ rfl rfl, if_neg (Nat.not_le.mpr hop), State.micro_passed,
    State.setMicro_passed, Micro.reg_passed]

/-- A flag operation from 5 on stops with ILLEGAL (R83). -/
theorem uopSeqop_illegal {imm : BitVec 14} (hop : 5 ≤ imm.toNat % 16) :
    exec (.uopSeqop n ra imm .clean) s = .next ((s.passed n 1).microStop n 6) := by
  rw [exec_uopSeqop, execUopSeqop, State.uop_runs h _ rfl rfl, if_pos hop]

/-! ### The overlay (R118, R119) -/

theorem uopOvl_configures {sl : Fin 16} {k : BitVec 4} (c0 c1 cx : BitVec 4) (hk : k.toNat ≤ 5) :
    exec (.uopOvl n sl ra k c0 c1 cx .clean) s = .next (s.setMicro n
      ({ (s.micro n).passed 1 with ovls := (s.micro n).ovls + 1 }.setSlot sl {
        kind := k.toNat, pin := ((s.micro n).slot sl).pin, code0 := c0.toNat, code1 := c1.toNat, codex := cx.toNat
        addr := (s.micro n).base + ((s.micro n).reg ra).toNat, stop := (s.micro n).base + (s.micro n).size
        tag := (s.micro n).ovls + 1, queue := [], used := 0, under := false })) := by
  rw [exec_uopOvl, execUopOvl, State.uop_runs h _ rfl (decide_eq_true hk), State.micro_passed, State.setMicro_passed]
  rfl

/-- Kinds from 6 on are illegal (R118). -/
theorem uopOvl_illegal {sl : Fin 16} {k : BitVec 4} (c0 c1 cx : BitVec 4) (hk : 5 < k.toNat) :
    exec (.uopOvl n sl ra k c0 c1 cx .clean) s = .next (s.microFault n X.MC_UOP_ILLEGAL) :=
  congrArg done (State.uop_illegal h _ rfl (decide_eq_false (Nat.not_le.mpr hk)))

theorem uopOpush_feeds {imm : BitVec 14} (hstr : (s.seq n).streaming = none) (hq : (s.seq n).queued = none)
    (hroom : ((s.micro n).slot (imm.toNat % 16)).queue.length < 64) :
    exec (.uopOpush n ra imm .clean) s = .next (s.setMicro n (((s.micro n).passed 1).setSlot (imm.toNat % 16)
      { (s.micro n).slot (imm.toNat % 16) with
        queue := ((s.micro n).slot (imm.toNat % 16)).queue ++ [(s.micro n).reg ra] })) := by
  have hlive := Seq.liveSlot_idle ((s.micro n).slot (imm.toNat % 16)) hstr
  have hready : decide (((s.seq n).liveSlot ((s.micro n).slot (imm.toNat % 16))).queue.length < 64) = true := by
    rw [hlive, decide_eq_true hroom]
  refine congrArg done ((State.uop_runs h _ hready rfl).trans ?_)
  simp only [State.seq_passed, State.setSeq_passed, State.setMicro, hstr, hq, Option.map_none, Micro.reg_passed]
  rfl

end

/-- A push into a full queue waits (R119). -/
theorem uopOpush_waits {s : State} {n : Fin 16} (ra : Fin 16) {imm : BitVec 14}
    (hfull : 64 ≤ ((s.seq n).liveSlot ((s.micro n).slot (imm.toNat % 16))).queue.length) :
    exec (.uopOpush n ra imm .clean) s = .next s :=
  congrArg done (State.uop_waits _ _ _ _ (decide_eq_false (Nat.not_lt.mpr hfull)))

/-! ### Descriptors (R106, R113, R114) -/

section
variable {s : State} {n : Fin 16}

theorem uopEmitd_waits (hq : (s.seq n).queued.isSome = true) : exec (.uopEmitd n .clean) s = .next s := by
  refine congrArg done (State.uop_waits _ _ _ _ ?_)
  rw [← Option.not_isSome, hq]
  rfl

/-- DESC_LEN is in range (R106). -/
def Micro.descLenOk (m : Micro) : Bool := decide (32 ≤ m.descLen.toNat) && decide (m.descLen.toNat ≤ 1048575)

theorem Micro.descLenOk_iff (m : Micro) : m.descLenOk = true ↔ 32 ≤ m.descLen.toNat ∧ m.descLen.toNat ≤ 1048575 := by
  simp [Micro.descLenOk]

variable (hq : (s.seq n).queued = none)
include hq

/-- With no descriptor waiting, EMITD waits only for admission of a block of legal length (R114, R181). -/
theorem State.emitd_ready (hk : (s.micro n).descLenOk = false ∨ s.descKnown n = true) :
    ((s.seq n).queued.isNone && (!(s.micro n).descLenOk || s.descKnown n)) = true := by
  rcases hk with hk | hk <;> simp [hq, hk]

variable (h : s.uopRuns n 2 = true)
include h

/-- A DESC_LEN out of range is ILLEGAL (R106). -/
theorem uopEmitd_illegal (hlen : (s.micro n).descLen.toNat < 32 ∨ 1048575 < (s.micro n).descLen.toNat) :
    exec (.uopEmitd n .clean) s = .next ((s.passed n 2).microStop n 6) := by
  have hbad : (s.micro n).descLenOk = false := by
    rw [← Bool.not_eq_true, Micro.descLenOk_iff]
    omega
  exact congrArg done ((State.uop_runs h _ (State.emitd_ready hq (.inl hbad)) rfl).trans (if_pos (congrArg not hbad)))

section
variable (hlo : 32 ≤ (s.micro n).descLen.toNat) (hhi : (s.micro n).descLen.toNat ≤ 1048575) (hknown : s.descKnown n = true)
include hlo hhi hknown

theorem uopEmitd_transfers {z : Nat} (hz : (s.passed n 2).descSize n = some z) : exec (.uopEmitd n .clean) s =
    .next ((s.passed n 2).enqueue n ((s.passed n 2).microDesc n z) { (s.passed n 2).seq n with
      micro := { (s.passed n 2).micro n with iter := (s.micro n).iter + 1, effects := [], signals := [] } }) := by
  have hlen : ¬ (!(s.micro n).descLenOk) = true := by simpa using (Micro.descLenOk_iff _).mpr ⟨hlo, hhi⟩
  refine congrArg done ((State.uop_runs h _ (State.emitd_ready hq (.inr hknown)) rfl).trans ((if_neg hlen).trans ?_))
  rw [hz]
  simp only [State.seq_passed, State.micro_passed]
  rfl

/-- A malformed block stops the routine (R68). -/
theorem uopEmitd_malformed (hz : (s.passed n 2).descSize n = none) :
    exec (.uopEmitd n .clean) s = .next ((s.passed n 2).microStop n 8) := by
  have hlen : ¬ (!(s.micro n).descLenOk) = true := by simpa using (Micro.descLenOk_iff _).mpr ⟨hlo, hhi⟩
  refine congrArg done ((State.uop_runs h _ (State.emitd_ready hq (.inr hknown)) rfl).trans ((if_neg hlen).trans ?_))
  rw [hz]

end

end

/-! ### Boundaries and stops (R115 to R117) -/

theorem State.seq_umax (s : State) (n m k : Nat) : (s.umax n k).seq m = s.seq m := by
  rw [State.seq, State.umax, State.raiseTo_seqs, State.seq]

theorem State.micro_umax (s : State) (n m k : Nat) : (s.umax n k).micro m = s.micro m :=
  congrArg Seq.micro (s.seq_umax n m k)

/-- A boundary takes a contained fault that has been reported. -/
theorem State.boundary_eq (s : State) (n : Nat) : s.boundary n = (s.seq n).fault.map (s.gangStop n) := by
  rw [State.boundary]
  cases (s.seq n).fault <;> rfl

section
variable {s : State} {n : Fin 16} (h : s.uopRuns n 1 = true)
include h

/-- The longest pass is noted before the boundary is tested (R115, R117). -/
theorem uopBoundAgain_eq : exec (.uopBoundAgain n .clean) s =
    .next ((((s.passed n 1).umax n ((s.micro n).count + 1)).boundary n).getD
      (((s.passed n 1).umax n ((s.micro n).count + 1)).setMicro n
        { (s.micro n).passed 1 with count := 0, upc := (s.micro n).again })) := by
  refine congrArg done ((State.uop_runs h _ rfl rfl).trans ?_)
  simp only [State.micro_umax, State.micro_passed]
  rfl

theorem uopBoundAgain_repeats (hf : (s.seq n).fault = none) : exec (.uopBoundAgain n .clean) s =
    .next (((s.passed n 1).umax n ((s.micro n).count + 1)).setMicro n
      { (s.micro n).passed 1 with count := 0, upc := (s.micro n).again }) := by
  simp [uopBoundAgain_eq h, State.boundary_eq, State.seq_umax, hf]

theorem uopBoundAgain_faults {c : Nat} (hf : (s.seq n).fault = some c) : exec (.uopBoundAgain n .clean) s =
    .next (((s.passed n 1).umax n ((s.micro n).count + 1)).gangStop n c) := by
  simp [uopBoundAgain_eq h, State.boundary_eq, State.seq_umax, hf]

theorem uopStop_stops (c : BitVec 4) (hopen : (s.micro n).isOpen = false) :
    exec (.uopStop n c .clean) s = .next ((s.passed n 1).microStop n c.toNat) :=
  congrArg done (State.uop_runs h _ rfl (by rw [hopen]; rfl))

/-- The open region stops with HALT and ILLEGAL only (R108). -/
theorem uopStop_illegal {c : BitVec 4} (hopen : (s.micro n).isOpen = true) (h1 : c ≠ 1) (h6 : c ≠ 6) :
    exec (.uopStop n c .clean) s = .next (s.microFault n X.MC_UOP_ILLEGAL) :=
  congrArg done (State.uop_illegal h _ rfl (by rw [hopen, beq_false_of_ne h1, beq_false_of_ne h6]; rfl))

theorem uopNop_double : exec (.uopNop n .double) s = .next (s.fetchError n false) :=
  congrArg done (State.uop_double h true _ rfl)

/-- A corrected error of the fetch is counted, and the operation goes on (R105). -/
theorem uopNop_corrected : exec (.uopNop n .corrected) s =
    .next (((s.count (R.MC_SQ_CE n)).count (R.xx_CE_COUNT P.MC)).passed n 1) := by
  refine congrArg done ((State.uop_corrected h _ rfl rfl).trans ?_)
  rw [State.micro_passed, State.setMicro_passed]
  rfl

end

section
variable {s : State} {n : Fin 16} (h : s.uopRuns n 2 = true)
include h

/-- STK into a U register gives a free value (assumption 5). -/
theorem uopStk_moves (r : Fin 16) (x : BitVec 6) (i : BitVec 16) (hopen : (s.micro n).isOpen = false) :
    ∃ t v, exec (.uopStk n r x i .clean) s = .next t ∧ t.micro n = ((s.micro n).passed 2).setU r v := by
  refine ⟨_, Config.freeValue s.free 32, congrArg done (State.uop_runs h _ rfl (by rw [hopen]; rfl)), ?_⟩
  refine (State.micro_setMicro_self ..).trans ?_
  exact congrArg (fun m : Micro => m.setU r _) (s.micro_passed n 2)

/-- STK is the vendor's: the open region may not use it (R108). -/
theorem uopStk_illegal (r : Fin 16) (x : BitVec 6) (i : BitVec 16) (hopen : (s.micro n).isOpen = true) :
    exec (.uopStk n r x i .clean) s = .next (s.microFault n X.MC_UOP_ILLEGAL) :=
  congrArg done (State.uop_illegal h _ rfl (by rw [hopen]; rfl))

end

/-! ### The micro-watchdog (R117) -/

theorem uwdogExpire_idle {s : State} {n : Fin 16} (ha : (s.micro n).active = false) : exec (.uwdogExpire n) s = .next s := by
  rw [exec_uwdogExpire, execUwdogExpire, ha]
  rfl

theorem uwdogExpire_expires {s : State} {n : Fin 16} (ha : (s.micro n).active = true) (hc : 4095 ≤ (s.micro n).count) :
    exec (.uwdogExpire n) s = .next (s.watchdog n) := by
  rw [exec_uwdogExpire, execUwdogExpire, ha, decide_eq_true hc, Bool.and_self, if_pos rfl]

/-- Settles O40: an operation whose fetch is clean comes to its meaning in the state past it; a routine at rest, an operation that
is not ready, the watchdog, the bounds and an error of the fetch are decided before. That SEQOP of 5 and above stops with ILLEGAL
(assumption 52), that RA of OVL is an offset into the block's data and that OVL empties the slot's queue (59), and that the word
that STK moves is a free value (5), are the model's choices. -/
theorem microEffects : Obligations.MicroEffects := by
  unfold Obligations.MicroEffects
  refine ⟨?_, ?_, ?_, ?_, fun s n h => ?_, fun s n r x i h => ⟨uopStk_moves h r x i, uopStk_illegal h r x i⟩,
    fun s n r ra rb i k ha => ?_, fun s n k ha hc => ?_, fun s n k ha hc hu => ?_,
    fun s n h => ⟨uopNop_double h, uopNop_corrected h⟩⟩
  · rintro s n ra imm _ _ rfl rfl h
    have joins (f : Micro → Micro) := congrArg done (State.uopM_runs h f)
    exact ⟨uopSeqop_joins h, uopSeqop_illegal h, joins _, joins _, joins _, joins _⟩
  · rintro s n sl ra k c0 c1 cx _ _ rfl rfl h
    exact ⟨uopOvl_configures h c0 c1 cx, uopOvl_illegal h c0 c1 cx⟩
  · rintro s n ra imm _ _ rfl rfl h
    exact ⟨uopOpush_feeds h, uopOpush_waits ra⟩
  · rintro s n _ _ rfl rfl h
    exact ⟨uopEmitd_waits, fun hq => uopEmitd_illegal hq h, fun hq hlo hhi hk =>
      ⟨fun z => uopEmitd_transfers hq h hlo hhi hk, uopEmitd_malformed hq h hlo hhi hk⟩⟩
  · exact ⟨congrArg done (State.uop_runs h _ rfl rfl), uopBoundAgain_repeats h, fun c => uopBoundAgain_faults h,
      uopStop_stops h, fun c => uopStop_illegal h⟩
  · have rests (cycles : Nat) (ready legal : Bool) (f : State → State) :=
      congrArg done (State.uop_idle k cycles f ready legal ha)
    exact ⟨rests _ _ _ _, rests _ _ _ _, rests _ _ _ _, rests _ _ _ _, rests _ _ _ _, uwdogExpire_idle ha⟩
  · exact ⟨congrArg done (State.uop_expires _ _ _ _ ha rfl (by omega)), uwdogExpire_expires ha (by omega)⟩
  · exact congrArg done (State.uop_beyond _ _ _ _ ha rfl (by omega) hu)

end Sys2Proof.Machine
end

section
/-! PROOFS. The MC page: drain and release of a sequencer, reload of its control store, the loading of the patch (04, R111, R121,
R123 to R125). -/

namespace Sys2Proof.Machine

open Sys2Proof

/-! ### Drain and release (R123) -/

/-- The word written to MC_DRAIN that changes bit `n` to the low bit of `x`. -/
def State.drainWord (s : State) (n x : Nat) : Word := BitVec.ofNat 32 (putBits (s.fld F.MC_DRAIN_REQ) n n x)

section
variable (s : State) {n : Nat} (x : Nat) (hn : n < 16)
include hn

theorem State.drainReq_lt : putBits (s.fld F.MC_DRAIN_REQ) n n x < 2 ^ 16 :=
  putBits_lt _ n n x 16 (bitsOf_lt _ 15 0) hn

theorem State.toNat_drainWord : (s.drainWord n x).toNat = putBits (s.fld F.MC_DRAIN_REQ) n n x := by
  have hlt := s.drainReq_lt x hn
  rw [State.drainWord, BitVec.toNat_ofNat, Nat.mod_eq_of_lt (by omega)]

theorem State.drainWord_requests : (s.drainWord n x).toNat % 65536 = putBits (s.fld F.MC_DRAIN_REQ) n n x :=
  (congrArg (· % 65536) (s.toNat_drainWord x hn)).trans (Nat.mod_eq_of_lt (s.drainReq_lt x hn))

theorem State.getLsbD_drainWord (i : Nat) :
    (s.drainWord n x).getLsbD i = if i = n then x.testBit 0 else (s.fld F.MC_DRAIN_REQ).testBit i := by
  have hi : (n ≤ i ∧ i < n + (n + 1 - n)) ↔ i = n := by omega
  rw [BitVec.getLsbD, s.toNat_drainWord x hn, testBit_putBits]
  simp only [hi]
  split
  · next h => rw [h, Nat.sub_self]
  · rfl

end

theorem range_filter_eq_singleton {n : Nat} (hn : n < 16) {p : Nat → Bool} (hp : ∀ i < 16, p i = (i == n)) :
    (List.range 16).filter p = [n] := by
  rw [List.filter_congr fun i hi => hp i (List.mem_range.mp hi)]
  interval_cases n <;> rfl

theorem range_filter_eq_nil {p : Nat → Bool} (hp : ∀ i < 16, p i = false) : (List.range 16).filter p = [] :=
  List.filter_eq_nil_iff.mpr fun i hi => Bool.not_eq_true _ ▸ hp i (List.mem_range.mp hi)

section
variable {s : State} {n : Nat} (hn : n < 16) (hreq : ∀ i < 16, s.drained i = (s.fld F.MC_DRAIN_REQ).testBit i)
include hn hreq

/-- Where DRAINED follows the requests, a bit that is set drains its sequencer alone and releases none. -/
theorem State.drainWord_drains (hd : s.drained n = false) :
    (List.range 16).filter (fun i => (s.drainWord n 1).getLsbD i && !s.drained i) = [n] ∧
    (List.range 16).filter (fun i => !(s.drainWord n 1).getLsbD i && s.drained i) = [] := by
  refine ⟨range_filter_eq_singleton hn fun i hi => ?_, range_filter_eq_nil fun i hi => ?_⟩ <;>
    rw [s.getLsbD_drainWord 1 hn, ← hreq i hi] <;> by_cases h : i = n <;> simp [h, hd]

/-- Where DRAINED follows the requests, a bit that is cleared releases its sequencer alone and drains none. -/
theorem State.drainWord_releases (hd : s.drained n = true) :
    (List.range 16).filter (fun i => (s.drainWord n 0).getLsbD i && !s.drained i) = [] ∧
    (List.range 16).filter (fun i => !(s.drainWord n 0).getLsbD i && s.drained i) = [n] := by
  refine ⟨range_filter_eq_nil fun i hi => ?_, range_filter_eq_singleton hn fun i hi => ?_⟩ <;>
    rw [s.getLsbD_drainWord 0 hn, ← hreq i hi] <;> by_cases h : i = n <;> simp [h, hd]

/-- The rule of a write of MC_DRAIN that drains `n`. -/
theorem mcDrainRule_drains (hd : s.drained n = false) (k : EccCheck) : mcDrainRule (s.drainWord n 1) k s = {
    stateOk := s.seqState n == 0 || s.seqState n == rsIdle
    eff := fun t => ((t.setFld F.MC_DRAIN_REQ (putBits (s.fld F.MC_DRAIN_REQ) n n 1)).setBit R.MC_DRAINED n true).event P.MC
      E.MC_DRAINED } := by
  obtain ⟨hnew, hrel⟩ := State.drainWord_drains hn hreq hd
  simp [mcDrainRule, hnew, hrel, s.drainWord_requests 1 hn]

/-- The rule of a write of MC_DRAIN that releases `n`. -/
theorem mcDrainRule_releases (hd : s.drained n = true) (k : EccCheck) : mcDrainRule (s.drainWord n 0) k s = {
    stateOk := !(s.seq n).store.bad
    eff := fun t => (t.setFld F.MC_DRAIN_REQ (putBits (s.fld F.MC_DRAIN_REQ) n n 0)).release n k } := by
  obtain ⟨hnew, hrel⟩ := State.drainWord_releases hn hreq hd
  simp [mcDrainRule, hnew, hrel, s.drainWord_requests 0 hn]

end

theorem mcDrain_eq (s : State) (a : Agent) (n : Fin 16) : exec (.mcDrain a n) s =
    .next (s.writeBy a .mc P.MC R.MC_DRAIN (mcDrainRule (s.drainWord n 1) .clean s)) := rfl

theorem mcRelease_eq (s : State) (a : Agent) (n : Fin 16) (k : EccCheck) : exec (.mcRelease a n k) s =
    .next (s.writeBy a .mc P.MC R.MC_DRAIN (mcDrainRule (s.drainWord n 0) k s)) := rfl

section
variable {s : State} {a : Agent} {n : Fin 16} (h : s.admits a .mc P.MC = true)
  (hreq : ∀ i < 16, s.drained i = (s.fld F.MC_DRAIN_REQ).testBit i)
include h hreq

theorem mcDrain_idle (hd : s.drained n = false) (hs : s.seqState n = 0 ∨ s.seqState n = rsIdle) : exec (.mcDrain a n) s =
    .next (((s.setFld F.MC_DRAIN_REQ (putBits (s.fld F.MC_DRAIN_REQ) n n 1)).setBit R.MC_DRAINED n true).event P.MC
      E.MC_DRAINED) := by
  have hstate : (s.seqState n == 0 || s.seqState n == rsIdle) = true := by simpa using hs
  rw [mcDrain_eq, mcDrainRule_drains n.isLt hreq hd, State.writeBy_ok _ _ h rfl rfl hstate rfl rfl]

theorem mcDrain_busy (hd : s.drained n = false) (h0 : s.seqState n ≠ 0) (h1 : s.seqState n ≠ rsIdle) :
    exec (.mcDrain a n) s = .next (s.reject P.MC R.MC_DRAIN .state) := by
  rw [mcDrain_eq, mcDrainRule_drains n.isLt hreq hd, State.writeBy_refused _ _ .state h]
  rw [beq_false_of_ne h0, beq_false_of_ne h1]
  rfl

theorem mcRelease_validates (k : EccCheck) (hd : s.drained n = true) (hb : (s.seq n).store.bad = false) :
    exec (.mcRelease a n k) s =
      .next ((s.setFld F.MC_DRAIN_REQ (putBits (s.fld F.MC_DRAIN_REQ) n n 0)).release n k) := by
  rw [mcRelease_eq, mcDrainRule_releases n.isLt hreq hd, State.writeBy_ok _ _ h rfl rfl (congrArg not hb) rfl rfl]

/-- A store whose reload failed is not released (R124). -/
theorem mcRelease_bad (k : EccCheck) (hd : s.drained n = true) (hb : (s.seq n).store.bad = true) :
    exec (.mcRelease a n k) s = .next (s.reject P.MC R.MC_DRAIN .state) := by
  rw [mcRelease_eq, mcDrainRule_releases n.isLt hreq hd, State.writeBy_refused _ _ .state h (by rw [hb]; rfl)]

end

/-! ### Reload (R124) -/

/-- The word of MC_RELOAD with bit `n` set. -/
theorem reloadWord_spec : ∀ n : Fin 16, (BitVec.ofNat 32 (2 ^ n.val)).toNat % 65536 ≠ 0 ∧
    (BitVec.ofNat 32 (2 ^ n.val) &&& 0xFFFF : Word) = BitVec.ofNat 32 (2 ^ n.val) ∧
    ∀ i : Fin 16, (BitVec.ofNat 32 (2 ^ n.val)).getLsbD i = decide (i = n) := by decide

/-- A request for one reload asks for its sequencer drained and for an authentic patch. -/
theorem mcReloadRule_one (n : Fin 16) (s : State) : mcReloadRule (BitVec.ofNat 32 (2 ^ n.val)) s = {
    stateOk := s.drained n && s.fld F.MC_PATCH_STAT_PSTATE == 1
    eff := fun t => t.orReg R.MC_RELOAD (BitVec.ofNat 32 (2 ^ n.val)) } := by
  obtain ⟨hne, hmask, hbit⟩ := reloadWord_spec n
  have hall : (List.range 16).all (fun i => !(BitVec.ofNat 32 (2 ^ n.val)).getLsbD i || s.drained i) = s.drained n := by
    rw [Bool.eq_iff_iff, List.all_eq_true]
    constructor
    · intro hd
      have hself := hd n (List.mem_range.mpr n.isLt)
      rwa [hbit n, decide_eq_true rfl] at hself
    · intro hd i hi
      have hi16 := List.mem_range.mp hi
      by_cases hin : i = n
      · rw [hin, hd, Bool.or_true]
      · have hclear := hbit ⟨i, hi16⟩
        rw [decide_eq_false (fun he => hin (congrArg Fin.val he))] at hclear
        rw [hclear]
        rfl
  rw [mcReloadRule, hall, beq_false_of_ne hne, Bool.false_or, hmask]

section
variable {s : State} {a : Agent} {n : Fin 16} (h : s.admits a .mc P.MC = true)
include h

theorem mcReload_requests (hd : s.drained n = true) (hp : s.fld F.MC_PATCH_STAT_PSTATE = 1) :
    exec (.mcReload a n) s = .next (s.orReg R.MC_RELOAD (BitVec.ofNat 32 (2 ^ n.val))) := by
  rw [exec_mcReload, execMcReload, mcReloadRule_one, State.writeBy_ok _ _ h rfl rfl (by rw [hd, hp]; rfl) rfl rfl]

theorem mcReload_state (hs : s.drained n = false ∨ s.fld F.MC_PATCH_STAT_PSTATE ≠ 1) :
    exec (.mcReload a n) s = .next (s.reject P.MC R.MC_RELOAD .state) := by
  have hstate : (s.drained n && s.fld F.MC_PATCH_STAT_PSTATE == 1) = false := by
    rcases hs with hs | hs <;> simp [hs]
  rw [exec_mcReload, execMcReload, mcReloadRule_one, State.writeBy_refused _ _ .state h (by rw [hstate]; rfl)]

end

section
variable {s : State} {n : Fin 16}

theorem mcReloadDone_idle (b : Bool) (hr : s.bit R.MC_RELOAD n = false) : exec (.mcReloadDone n b) s = .next s := by
  rw [exec_mcReloadDone, execMcReloadDone, hr]
  rfl

/-- The end of the copy leaves the injection of the master store as it is. -/
theorem State.takeInj_reloading (hi : s.bit (R.xx_FLT_INJ P.MC) X.MC_MASTER_ECC = false) :
    (s.setBit R.MC_RELOAD n false).takeInj P.MC X.MC_MASTER_ECC = (false, s.setBit R.MC_RELOAD n false) := by
  refine State.takeInj_clear ?_
  rw [State.bit, State.reg_setBit_other _ _ _ (by decide)]
  exact hi

theorem State.loaded_reloading : (s.setBit R.MC_RELOAD n false).fld F.MC_PATCH_STAT_LOADED = s.fld F.MC_PATCH_STAT_LOADED := by
  rw [State.fld, State.reg_setBit_other _ _ _ (by decide), State.fld]

variable (hr : s.bit R.MC_RELOAD n = true) (hi : s.bit (R.xx_FLT_INJ P.MC) X.MC_MASTER_ECC = false)
include hr hi

theorem mcReloadDone_whole : exec (.mcReloadDone n true) s = .next ((((s.setBit R.MC_RELOAD n false).setFld
    F.MC_PATCH_STAT_LOADED (putBits (s.fld F.MC_PATCH_STAT_LOADED) n n 1)).setStore n
      { s.master.foldl (fun x e => x.put e.1 e.2) (s.seq n).store.rom with bad := false }).event P.MC E.MC_RELOADED) := by
  rw [exec_mcReloadDone, execMcReloadDone, hr]
  dsimp only
  rw [State.takeInj_reloading hi]
  dsimp only
  rw [if_neg (by decide), if_neg (by decide), State.loaded_reloading]
  simp only [State.seq, State.setBit_seqs, State.setBit_master]

theorem mcReloadDone_failed : exec (.mcReloadDone n false) s = .next ((((s.setBit R.MC_RELOAD n false).setFld
    F.MC_PATCH_STAT_LOADED (putBits (s.fld F.MC_PATCH_STAT_LOADED) n n 0)).setStore n
      { (s.seq n).store.rom with bad := true }).faultInj P.MC X.MC_MASTER_ECC false) := by
  rw [exec_mcReloadDone, execMcReloadDone, hr]
  dsimp only
  rw [State.takeInj_reloading hi]
  dsimp only
  rw [if_neg (by decide), if_pos (by decide), State.loaded_reloading]
  simp only [State.seq, State.setBit_seqs, State.setFld_seqs]

end

/-! ### Loading the patch (R121) -/

section
variable {s : State} (v : Word) (h : s.admits .mgmt .mc P.MC = true)
include h

theorem mcPload_notBoot (hm : s.mode ≠ mBoot) :
    exec (.mcPloadData .mgmt v) s = .next (s.reject P.MC R.MC_PLOAD_DATA .state) ∧
    exec (.mcPloadFin .mgmt v) s = .next (s.reject P.MC R.MC_PLOAD_FIN .state) := by
  have hstate : (s.mode == mBoot) = false := beq_false_of_ne hm
  exact ⟨congrArg done (State.writeBy_refused _ (ploadDataRule .mgmt v s) .state h (by rw [ploadDataRule, hstate]; rfl)),
    congrArg done (State.writeBy_refused _ (ploadFinRule .mgmt v s) .state h (by rw [ploadFinRule, hstate]; rfl))⟩

variable (hm : s.mode = mBoot)
include hm

theorem mcPloadData_stores : exec (.mcPloadData .mgmt v) s = .next (s.ploadWord v) :=
  congrArg done (State.writeBy_ok _ (ploadDataRule .mgmt v s) h rfl rfl (beq_iff_eq.mpr hm) rfl rfl)

/-- A finish in range is taken: SEQMASK is stored, and PSTATE 0 does nothing more. -/
theorem mcPloadFin_taken (hr : (ploadFinRule .mgmt v s).rangeOk = true) : exec (.mcPloadFin .mgmt v) s =
    .next (if bitsOf v.toNat 15 12 = 0 then s.setFld F.MC_PLOAD_FIN_SEQMASK (bitsOf v.toNat 31 16)
      else (s.setFld F.MC_PLOAD_FIN_SEQMASK (bitsOf v.toNat 31 16)).ploadFin (bitsOf v.toNat 15 12) (bitsOf v.toNat 11 8)
        (v.toNat % 256)) :=
  congrArg done (State.writeBy_ok _ (ploadFinRule .mgmt v s) h rfl rfl (beq_iff_eq.mpr hm) rfl hr)

theorem mcPloadFin_keeps (hp : bitsOf v.toNat 15 12 = 0) : exec (.mcPloadFin .mgmt v) s =
    .next (s.setFld F.MC_PLOAD_FIN_SEQMASK (bitsOf v.toNat 31 16)) := by
  rw [mcPloadFin_taken v h hm (by simp [ploadFinRule, hp]), if_pos hp]

/-- An authentic patch is published under the ROM's major ABI number and no lower minor one. -/
theorem mcPloadFin_publishes (hp : bitsOf v.toNat 15 12 = 1) (hmaj : bitsOf v.toNat 11 8 = s.fld F.MC_ABI_ROM_MAJ)
    (hmin : s.fld F.MC_ABI_ROM_MIN ≤ v.toNat % 256) : exec (.mcPloadFin .mgmt v) s =
      .next ((s.setFld F.MC_PLOAD_FIN_SEQMASK (bitsOf v.toNat 31 16)).ploadFin 1 (bitsOf v.toNat 11 8) (v.toNat % 256)) := by
  rw [mcPloadFin_taken v h hm (by simp [ploadFinRule, hp, hmaj, hmin]), hp, if_neg (by decide)]

theorem mcPloadFin_raises (hlo : 2 ≤ bitsOf v.toNat 15 12) (hhi : bitsOf v.toNat 15 12 ≤ 5) : exec (.mcPloadFin .mgmt v) s =
    .next ((s.setFld F.MC_PLOAD_FIN_SEQMASK (bitsOf v.toNat 31 16)).ploadFin (bitsOf v.toNat 15 12) (bitsOf v.toNat 11 8)
      (v.toNat % 256)) := by
  have hne : bitsOf v.toNat 15 12 ≠ 1 := by omega
  rw [mcPloadFin_taken v h hm (by simp [ploadFinRule, hhi, hne]), if_neg (by omega)]

/-- Another major ABI number than the ROM's is out of range. -/
theorem mcPloadFin_range (hp : bitsOf v.toNat 15 12 = 1) (hmaj : bitsOf v.toNat 11 8 ≠ s.fld F.MC_ABI_ROM_MAJ) :
    exec (.mcPloadFin .mgmt v) s = .next (s.reject P.MC R.MC_PLOAD_FIN .range) := by
  have hstate : (s.mode == mBoot) = true := beq_iff_eq.mpr hm
  refine congrArg done (State.writeBy_refused _ (ploadFinRule .mgmt v s) .range h ?_)
  rw [ploadFinRule, hstate, hp, beq_false_of_ne hmaj]
  rfl

end

/-- The patch is loaded by MGMT alone. -/
theorem mcPload_agent {s : State} {a : Agent} (v : Word) (h : s.admits a .mc P.MC = true) (ha : a ≠ .mgmt) :
    exec (.mcPloadData a v) s = .next (s.reject P.MC R.MC_PLOAD_DATA .agent) ∧
    exec (.mcPloadFin a v) s = .next (s.reject P.MC R.MC_PLOAD_FIN .agent) := by
  have hagent : (a == .mgmt) = false := beq_false_of_ne ha
  exact ⟨congrArg done (State.writeBy_refused _ (ploadDataRule a v s) .agent h (by rw [ploadDataRule, hagent]; rfl)),
    congrArg done (State.writeBy_refused _ (ploadFinRule a v s) .agent h (by rw [ploadFinRule, hagent]; rfl))⟩

/-- Settles O43: each command but the end of a reload is one write of a register of the MC page, which its rule decides; where
DRAINED follows the requests of MC_DRAIN, a write that changes one bit drains or releases that sequencer alone. -/
theorem controlStores : Obligations.ControlStores := by
  unfold Obligations.ControlStores
  refine ⟨fun s a n k h hreq =>
      ⟨mcDrain_idle h hreq, mcDrain_busy h hreq, mcRelease_validates h hreq k, mcRelease_bad h hreq k⟩,
    fun s a n h => ⟨mcReload_requests h, mcReload_state h⟩, fun s n b => mcReloadDone_idle b, ?_,
    fun s v h hm => ⟨mcPloadData_stores v h hm, mcPloadFin_keeps v h hm, mcPloadFin_publishes v h hm, mcPloadFin_raises v h hm,
      mcPloadFin_range v h hm⟩,
    fun s v => mcPload_notBoot v, fun s a v => mcPload_agent v⟩
  intro s t n x hr hi
  refine ⟨?_, ?_⟩
  · rintro rfl rfl
    exact mcReloadDone_whole hr hi
  · rintro rfl
    exact mcReloadDone_failed hr hi

end Sys2Proof.Machine
end

section
/-! PROOFS. The enabling of the pager where no frame is left for the level-1 table (06, R173; 15, R401, R402). -/

namespace Sys2Proof.Machine

open Sys2Proof

/-- PGR_ENABLE that finds no frame for the level-1 table is rejected, and leaves what the allocation tried (R173, R402). -/
theorem pgrEnable_refused {s : State} {a : Agent} (h : s.admits a .pgr P.PGR = true) (hs : s.pgrEnableOk = false)
    (hr : (s.reject P.PGR (R.xx_CTRL P.PGR) .state).pgrEnableOk = false) :
    exec (.pgrEnable a) s = .next ((s.reject P.PGR (R.xx_CTRL P.PGR) .state).hwAlloc poolSystem 0 1 false).2 := by
  have hbit : ((s.reg (R.xx_CTRL P.PGR) &&& 0xB) ||| 1 : Word).getLsbD 0 = true := by simp
  rw [exec_pgrEnable, execPgrEnable, State.writeBy_refused _ _ .state h (by simp [pgrCtrlRule, ctrlRule, firstReason, hs])]
  simp only [pgrCtrlRule, hbit, hr, beq_self_eq_true, Bool.not_false, Bool.and_self, if_true]

theorem State.retired_reject (s : State) (p off : Nat) (r : Reason) : (s.reject p off r).dram.retired = s.dram.retired := by
  obtain ⟨regs, monel, hframe⟩ := s.reject_frame p off r
  rw [hframe]

theorem State.retired_event (s : State) {p : Nat} (b : Nat) (hp : p % 0x1000 = 0) :
    (s.event p b).dram.retired = s.dram.retired :=
  show (s.unreport (s.event p b)).dram.retired = s.dram.retired by rw [(ReportsOnly.event s b hp).rest]

/-- A part whose only frame is FREE, and whose next read of a frame's entry finds it bad (ALLOC_FLT_INJ.FT_ECC). -/
def lastFramePart : State :=
  (((State.reset.setFlag F.ALLOC_MAP_VALID true).setFld F.ALLOC_FRAMES_VALUE 1).setFld
    (F.ALLOC_POOL_MAX_MAX poolSystem) 1).setBit (R.xx_FLT_INJ P.ALLOC) X.ALLOC_FT_ECC true

/-- `lastFramePart` takes a write of PGR_CTRL, its pager is disabled with no commit armed, and no frame can be allocated. -/
theorem lastFramePart_spec : lastFramePart.admits .mgmt .pgr P.PGR = true ∧
    lastFramePart.flag (F.xx_CTRL_ENABLE P.PGR) = false ∧ lastFramePart.flag (F.xx_COMMIT_STAT_PENDING P.PGR) = false ∧
    lastFramePart.pgrEnableOk = false ∧ (lastFramePart.reject P.PGR (R.xx_CTRL P.PGR) .state).pgrEnableOk = false := by
  decide +kernel

/-- The allocation that PGR_ENABLE tries finds the entry bad and retires the frame (R404). -/
theorem lastFramePart_retires :
    ((lastFramePart.reject P.PGR (R.xx_CTRL P.PGR) .state).hwAlloc poolSystem 0 1 false).2.dram.retired = [0] := by
  decide +kernel

/-- Refutes O45: the allocation that a refused PGR_ENABLE tried may have read a bad frame entry, and then the frame stays retired
(15, ALLOC_FLT.FT_ECC), where the first clause says that nothing beside the rejection and ALLOC_EVT.REFUSED is left. In
`lastFramePart` frame 0 is lost so. -/
theorem not_patternPages : ¬ Obligations.PatternPages := by
  unfold Obligations.PatternPages
  rintro ⟨henable, -⟩
  obtain ⟨hadmits, hoff, hcommit, hnone, hnone'⟩ := lastFramePart_spec
  obtain ⟨-, -, hrefused⟩ := henable lastFramePart .mgmt hadmits hoff hcommit
  have h := hrefused hnone
  rw [pgrEnable_refused hadmits hnone hnone'] at h
  injection h with hstate
  have hretired := congrArg (·.dram.retired) hstate
  rw [lastFramePart_retires, State.retired_event _ _ (by decide), State.retired_reject] at hretired
  exact absurd hretired (by decide +kernel)

end Sys2Proof.Machine
end

section
/-! PROOFS. Fetches of pages, their deliveries and failures (06, R174 to R178, R332, R430, R494). -/

namespace Sys2Proof.Machine

open Sys2Proof

/-! ### The frame of a fetch (R176) -/

/-- A fetch that obtains a frame holds it from then on. -/
def State.fetchHolds (s : State) (v f : Nat) (inj : Bool) : State :=
  s.pagerUpd (fun p => { p with fetches := p.fetches.map (fun x => if x.1 = v then (v, some f, inj) else x) })

/-- During a sleep entry and in QUARANTINE no fetch obtains a frame (R332, R494). -/
theorem fetchFrameObtained_held {s : State} (v : BitVec 21) (h : s.dev.sleep.target ≠ 0 ∨ s.mode = mQuarantine) :
    exec (.fetchFrameObtained v) s = .next s := by
  rw [exec_fetchFrameObtained, execFetchFrameObtained, if_pos (by simpa using h)]

theorem fetchFrameObtained_noFetch {s : State} {v : BitVec 21} (h : s.fetchOf v.toNat = none) :
    exec (.fetchFrameObtained v) s = .next s := by
  rw [exec_fetchFrameObtained, execFetchFrameObtained, h]
  exact congrArg done (ite_self s)

/-- A fetch that obtains a frame is asked of its source; one that cannot be issued fails twice (R430, R432). -/
theorem fetchFrameObtained_obtains {s t : State} {v : BitVec 21} {f : Nat} {j : Bool} (hsleep : s.dev.sleep.target = 0)
    (hmode : s.mode ≠ mQuarantine) (hfetch : s.fetchOf v.toNat = some (none, j))
    (hframe : s.fetchFrame (s.pager.resident.length + 1) = (some f, t)) : exec (.fetchFrameObtained v) s =
      .next (if (t.fetchHolds v.toNat f j).sourceOpen v.toNat then (t.fetchHolds v.toNat f j).pageAsk v.toNat
        else ((t.fetchHolds v.toNat f j).fetchFail v.toNat f j).fetchFail v.toNat f j) := by
  rw [exec_fetchFrameObtained, execFetchFrameObtained, if_neg (by simp [hsleep, hmode]), hfetch]
  dsimp only
  rw [hframe]
  rfl

/-! ### Arrival, timeout, failure (R177) -/

/-- Data and a timeout reach only a fetch that holds a frame. -/
theorem fetch_unheld {s : State} {v : BitVec 21} (b : Bool) (d : List Byte)
    (h : s.fetchOf v.toNat = none ∨ ∃ j, s.fetchOf v.toNat = some (none, j)) :
    exec (.pageFetchArrival v b d) s = .next s ∧ exec (.fetchTimeout v) s = .next s := by
  rw [exec_pageFetchArrival, execPageFetchArrival, exec_fetchTimeout, execFetchTimeout]
  rcases h with h | ⟨j, h⟩ <;> rw [h] <;> exact ⟨rfl, rfl⟩

section
variable {s : State} {v : BitVec 21} {f : Nat} {j : Bool} (h : s.fetchOf v.toNat = some (some f, j))
include h

theorem fetchTimeout_fails : exec (.fetchTimeout v) s = .next (s.fetchFail v.toNat f j) := by
  rw [exec_fetchTimeout, execFetchTimeout, h]

theorem pageFetchArrival_arrives (b : Bool) (d : List Byte) :
    exec (.pageFetchArrival v b d) s = .next (s.fetchArrive v.toNat f b j d) := by
  rw [exec_pageFetchArrival, execPageFetchArrival, h]

end

theorem State.fetchArrive_refused (s : State) (v f : Nat) (j : Bool) (d : List Byte) :
    s.fetchArrive v f true j d = s.fetchFail v f j := by
  rw [State.fetchArrive, if_pos rfl]

section
variable {s : State} {v f : Nat} {j : Bool} {d : List Byte} (hi : s.bit (R.xx_FLT_INJ P.PGR) X.PGR_FETCH_RETRY = false)
include hi

/-- Data that fail the CRC of a page that is to be verified are a failed attempt. -/
theorem State.fetchArrive_damaged (hv : (s.pageWords v).2.testBit 59 = true)
    (hc : crcStandard (pageData d) ≠ (s.pageWords v).2 % 2 ^ 32) : s.fetchArrive v f false j d = s.fetchFail v f j := by
  have hbad : ((s.pageWords v).2.testBit 59 && crcStandard (pageData d) != (s.pageWords v).2 % 2 ^ 32) = true := by
    rw [hv, Bool.true_and, bne_iff_ne]
    exact hc
  simp only [State.fetchArrive, State.takeInj_clear hi, Bool.false_eq_true, if_false, hbad, if_true]

/-- The page of a first attempt whose data are good, and which is not HELD, is RESIDENT in its frame. -/
theorem State.fetchArrive_resident (hc : (s.pageWords v).2.testBit 59 = false ∨
      crcStandard (pageData d) = (s.pageWords v).2 % 2 ^ 32) (h58 : (s.pageWords v).2.testBit 58 = false)
    (h60 : (s.pageWords v).2.testBit 60 = false) : s.fetchArrive v f false j d =
      ((((((s.setMem (f * 2 ^ 21) (pageData d)).setPageBits v 63 61 pgResident).setPageBits v 58 58 0).setPageBits v 49 32
        f).fetchGone v).pagerUpd (fun p => { p with resident := p.resident ++ [v] })).count (R.xx_BLK_COUNT P.PGR) := by
  have hgood : ((s.pageWords v).2.testBit 59 && crcStandard (pageData d) != (s.pageWords v).2 % 2 ^ 32) = false := by
    rw [Bool.and_eq_false_iff, bne_eq_false_iff_eq]
    exact hc
  simp only [State.fetchArrive, State.takeInj_clear hi, Bool.false_eq_true, if_false, hgood, h58, h60]

end

/-- The second failure of a page that is not HELD leaves it FAILED. -/
theorem State.fetchFail_second {s : State} {v : Nat} (f : Nat) (j : Bool) (h : (s.pageWords v).2.testBit 58 = true)
    (hheld : ((((((s.setPageBits v 63 61 pgFailed).freeFrame f).setDramUsed (s.fld F.PGR_DRAM_USED_FRAMES - 1)).fetchGone
      v).fault P.PGR X.PGR_PAGE_FAIL).event P.PGR E.PGR_PAGE_FAILED).pageHeld v = false) :
    s.fetchFail v f j = (((((s.setPageBits v 63 61 pgFailed).freeFrame f).setDramUsed
      (s.fld F.PGR_DRAM_USED_FRAMES - 1)).fetchGone v).fault P.PGR X.PGR_PAGE_FAIL).event P.PGR E.PGR_PAGE_FAILED := by
  rw [State.fetchFail, h, if_neg (by decide)]
  dsimp only
  rw [hheld]
  rfl

/-! ### Multicast deliveries (R178) -/

/-- A page that is not mapped to the source takes nothing. -/
theorem State.pageDelivered_elsewhere {s : State} {n p v : Nat} (d : List Byte) (h : s.pageFrom v n p = false) :
    s.pageDelivered n p v d = s := by
  rw [State.pageDelivered, h]
  rfl

/-- A FETCHING page with a frame takes a delivery of its source as the arrival of its fetch. -/
theorem State.pageDelivered_fetching {s : State} {n p v f : Nat} {j : Bool} (d : List Byte) (h : s.pageFrom v n p = true)
    (hst : s.pageState v = pgFetching) (hfetch : s.fetchOf v = some (some f, j)) :
    s.pageDelivered n p v d = s.fetchArrive v f false j d := by
  rw [State.pageDelivered, h, hst, hfetch]
  rfl

end Sys2Proof.Machine
end

section
/-! PROOFS. The lines of the vector cache and the lookahead walker (06, R180, R184, R187, R190, R390). -/

namespace Sys2Proof.Machine

open Sys2Proof

/-! ### The lines of a sequencer -/

@[simp] theorem State.walker_setWalker_self (s : State) (n : Nat) (w : Walker) : (s.setWalker n w).walker n = w :=
  sget_sset_self _ _ n w

/-- The counts of the VC page follow the lines, which they leave alone. -/
@[simp] theorem State.walker_vcCount (s : State) (n m : Nat) : (s.vcCount n).walker m = s.walker m := by
  have hpager : (s.vcCount n).pager = s.pager := by
    rw [State.vcCount, State.raiseTo_pager, State.setFld_pager, State.setFld_pager]
  rw [State.walker, hpager, State.walker]

@[simp] theorem State.walker_setLines_self (s : State) (n : Nat) (l : List CacheLine) :
    (s.setLines n l).walker n = { s.walker n with lines := l } := by
  rw [State.setLines, State.walker_vcCount, State.walker_setWalker_self]

theorem State.reg_raiseTo_other (s : State) {o p : Nat} (v : Nat) (h : p ≠ o) : (s.raiseTo o v).reg p = s.reg p := by
  unfold State.raiseTo
  split
  · exact s.reg_setReg_other _ h
  · rfl

/-- Of the registers, lines stored in the slices of SQn change VC_SQ_USED and VC_SQ_MAX of SQn. -/
theorem State.reg_setLines_other (s : State) {n p : Nat} (l : List CacheLine) (hu : p ≠ R.VC_SQ_USED n)
    (hm : p ≠ R.VC_SQ_MAX n) : (s.setLines n l).reg p = s.reg p := by
  rw [State.setLines, State.vcCount, State.reg_raiseTo_other _ _ hm, State.reg_setFld_other _ _ hu,
    State.reg_setFld_other _ _ hu]
  rfl

/-! ### Checked reads and fills of a line (R180, R390) -/

section
variable {s : State} (n l : Nat) (h : s.bit (R.xx_FLT_INJ P.VC) X.VC_LINE_RETRY = false)
include h

theorem State.lineCheck_clean : s.lineCheck n l .clean = (true, s) := by
  rw [State.lineCheck, State.takeInj_clear h]

theorem State.lineCheck_corrected : s.lineCheck n l .corrected = (true, s.count (R.xx_CE_COUNT P.VC)) := by
  rw [State.lineCheck, State.takeInj_clear h]

theorem State.lineCheck_double : s.lineCheck n l .double = (false, s.lineDouble n l false) := by
  rw [State.lineCheck, State.takeInj_clear h]

end

/-- A fill counted and stored leaves the injection of the line's check as it is. -/
theorem State.lineInj_filled (s : State) (n : Nat) (l : List CacheLine) :
    ((s.count (R.VC_SQ_FILLS n)).setLines n l).bit (R.xx_FLT_INJ P.VC) X.VC_LINE_RETRY =
      s.bit (R.xx_FLT_INJ P.VC) X.VC_LINE_RETRY := by
  have hused : R.xx_FLT_INJ P.VC ≠ R.VC_SQ_USED n := by simp only [R.xx_FLT_INJ, P.VC, R.VC_SQ_USED]; omega
  have hmax : R.xx_FLT_INJ P.VC ≠ R.VC_SQ_MAX n := by simp only [R.xx_FLT_INJ, P.VC, R.VC_SQ_MAX]; omega
  have hfills : R.xx_FLT_INJ P.VC ≠ R.VC_SQ_FILLS n := by simp only [R.xx_FLT_INJ, P.VC, R.VC_SQ_FILLS]; omega
  rw [State.bit, State.reg_setLines_other _ _ hused hmax, State.reg_count_other _ hfills, State.bit]

/-- LINE_FILL of a line that is present is a read and its check. -/
theorem lineFill_present {s : State} {n : Fin 16} {l : BitVec 30} (k : EccCheck) (h : (s.line n l.toNat).isSome = true) :
    exec (.lineFill n l k) s = .next (s.lineCheck n l.toNat k).2 := congrArg done (if_pos h)

section
variable {s : State} {n : Fin 16} {l : BitVec 30} (h : s.line n l.toNat = none)
include h

/-- A line whose page is not in DRAM stays absent. -/
theorem lineFill_noPage (k : EccCheck) (ha : s.patAddr (l.toNat * 4096) = none) : exec (.lineFill n l k) s = .next s := by
  refine congrArg done ((if_neg (by rw [h]; decide)).trans ?_)
  rw [ha]

variable {a : Nat} (ha : s.patAddr (l.toNat * 4096) = some a)
include ha

/-- Poisoned data stop the gang (R390). -/
theorem lineFill_poisoned (k : EccCheck) (hd : s.rangeDown a 4096 = true) :
    exec (.lineFill n l k) s = .next ((s.fault P.VC X.VC_LINE_FAIL).gangFault n 0xA) := by
  refine congrArg done ((if_neg (by rw [h]; decide)).trans ?_)
  rw [ha]
  exact if_pos hd

/-- A line for which the slices have room, and whose first read is good, is counted and stored. -/
theorem lineFill_fills (hd : s.rangeDown a 4096 = false)
    (hroom : (s.walker n).lines.length < s.fld (F.VC_SQ_CFG_SLICES n) * 512) (hretry : (s.walker n).retry = [])
    (hi : s.bit (R.xx_FLT_INJ P.VC) X.VC_LINE_RETRY = false) : exec (.lineFill n l .clean) s =
      .next ((s.count (R.VC_SQ_FILLS n)).setLines n
        ((s.walker n).lines ++ [⟨l.toNat, (s.count (R.VC_SQ_FILLS n)).memBytes a 4096⟩])) := by
  have hroom' : s.lineRoom n l.toNat = some s := if_pos hroom
  refine congrArg done ((if_neg (by rw [h]; decide)).trans ?_)
  rw [ha]
  refine (if_neg (ne_true_of_eq_false hd)).trans ?_
  split
  case h_1 hnone => rw [hroom'] at hnone; cases hnone
  case h_2 v hsome =>
    obtain rfl : s = v := Option.some.inj (hroom'.symm.trans hsome)
    extract_lets t u
    have hwalker : t.walker n = s.walker n := by rw [State.walker, State.count_pager, State.walker]
    have hcheck : u.lineCheck n l.toNat .clean = (true, u) := State.lineCheck_clean _ _ ((s.lineInj_filled n _).trans hi)
    have hretry' : (u.walker n).retry = [] := by rw [State.walker_setLines_self, hwalker, hretry]
    split
    case h_1 v hv => rw [hcheck] at hv; cases hv
    case h_2 v hv =>
      obtain rfl : u = v := congrArg Prod.snd (hcheck.symm.trans hv)
      split
      case h_1 hfind => rw [hretry'] at hfind; cases hfind
      case h_2 => rw [← hwalker]

end

/-! ### The walker (R184, R390) -/

/-- The walker of SQn does nothing where the pager is disabled, the sequencer unbound, or it has no slices or no reach. -/
theorem walkerStep_off {s : State} {n : Fin 16} (h : s.flag (F.xx_CTRL_ENABLE P.PGR) = false ∨ s.bound n = false ∨
    s.fld (F.VC_SQ_CFG_SLICES n) = 0 ∨ s.reach n = 0) : exec (.walkerStep n) s = .next s := by
  rw [exec_walkerStep, execWalkerStep]
  dsimp only
  rw [if_pos]
  rcases h with h | h | h | h <;> simp [h]

section
variable {s : State} {n : Fin 16} (he : s.flag (F.xx_CTRL_ENABLE P.PGR) = true) (hb : s.bound n = true)
  (hk : s.fld (F.VC_SQ_CFG_SLICES n) ≠ 0) (hon : (s.walker n).on = true)
include he hb hk hon

/-- A walker that is halted, or as far ahead as its reach, stays. -/
theorem walkerStep_stays (h : (s.walker n).halted = true ∨ s.reach n ≤ (s.walker n).ord - (s.seq n).ord) :
    exec (.walkerStep n) s = .next s := by
  by_cases hr : s.reach n = 0
  · exact walkerStep_off (.inr (.inr (.inr hr)))
  · rw [exec_walkerStep, execWalkerStep]
    dsimp only
    rw [if_neg (by simp [he, hb, hk, hr]), hon, if_pos rfl, if_pos (by simpa using h)]

/-- A walker within its reach goes on by what its position holds: no page in DRAM, poisoned data, or a record. -/
theorem walkerStep_examines (hh : (s.walker n).halted = false) (ho : (s.walker n).ord - (s.seq n).ord < s.reach n) :
    exec (.walkerStep n) s = .next ((s.patAddr (s.walker n).addr).elim (s.fetchRequest ((s.walker n).addr / 2 ^ 21))
      fun d => if s.chanDown d then s.walkPoison ((s.walker n).addr / 2 ^ 21) else s.walkRecord n) := by
  have hr : s.reach n ≠ 0 := by omega
  rw [exec_walkerStep, execWalkerStep]
  dsimp only
  rw [if_neg (by simp [he, hb, hk, hr]), hon, if_pos rfl, if_neg (by simp [hh, ho])]
  cases s.patAddr (s.walker n).addr <;> rfl

end

/-- Settles O46: what a fetch, a delivery, a fill and the walker do is decided by whether the page is in flight with a frame,
whether the data pass their checks, whether the line is present, and what the walker's position holds; each case has its lemma. -/
theorem pagesAndLines : Obligations.PagesAndLines := by
  unfold Obligations.PagesAndLines
  refine ⟨fun s v h => ?_, ?_, fun s v b d => fetch_unheld b d, ?_, ?_, ?_, ?_, fun s n l k => ⟨?_, ?_, ?_, ?_⟩,
    fun s n => walkerStep_off, fun s n he hb hk hon => ⟨?_, ?_, fun hh ho => ⟨?_, ?_, ?_⟩⟩⟩
  · rcases h with h | h | h
    · exact fetchFrameObtained_held v (.inl h)
    · exact fetchFrameObtained_held v (.inr h)
    · exact fetchFrameObtained_noFetch h
  · rintro s t u v f j hsleep hmode hfetch hframe rfl
    rw [fetchFrameObtained_obtains hsleep hmode hfetch hframe]
    exact ⟨fun ho => congrArg done (if_pos ho), fun ho => congrArg done (if_neg (ne_true_of_eq_false ho))⟩
  · rintro s t v f w j d h rfl
    refine ⟨fetchTimeout_fails h, ?_, fun hi hv hc => ?_, ?_⟩
    · rw [pageFetchArrival_arrives h, State.fetchArrive_refused]
    · rw [pageFetchArrival_arrives h, State.fetchArrive_damaged hi hv hc]
    · rintro hi hc h58 h60 rfl
      rw [pageFetchArrival_arrives h, State.fetchArrive_resident hi hc h58 h60]
  · rintro s t u v f j h rfl rfl hheld
    exact State.fetchFail_second f j h hheld
  · intro s n p v d h
    rw [exec_multicastPageDelivery, execMulticastPageDelivery, State.pageDelivered_elsewhere d h]
  · intro s n p v f j d h hst hfetch
    rw [exec_multicastPageDelivery, execMulticastPageDelivery, State.pageDelivered_fetching d h hst hfetch]
  · exact fun h => lineFill_noPage h k
  · exact fun a h ha => lineFill_poisoned h ha k
  · rintro a t h ha hd hroom hretry hi rfl
    exact ⟨_, lineFill_fills h ha hd hroom hretry hi, rfl⟩
  · intro h hi
    rw [lineFill_present _ h, lineFill_present _ h, lineFill_present _ h, State.lineCheck_clean _ _ hi,
      State.lineCheck_corrected _ _ hi, State.lineCheck_double _ _ hi]
    exact ⟨rfl, rfl, rfl⟩
  · exact fun hh => walkerStep_stays he hb hk hon (.inl hh)
  · exact fun ho => walkerStep_stays he hb hk hon (.inr ho)
  · intro ha
    rw [walkerStep_examines he hb hk hon hh ho, ha]
    rfl
  · intro d ha hd
    rw [walkerStep_examines he hb hk hon hh ho, ha, Option.elim_some, if_pos hd]
  · intro d ha hd
    rw [walkerStep_examines he hb hk hon hh ho, ha, Option.elim_some, hd]
    rfl

end Sys2Proof.Machine
end

section
/-! PROOFS. The reception of packets: what is expected, what is late, and whom a unicast packet is for (13, R343, R344, R352). -/

namespace Sys2Proof.Machine

open Sys2Proof

/-! ### A port that is written (13) -/

@[simp] theorem State.fport_setFport_self (s : State) (f : Nat) (x : FPort) : (s.setFport f x).fport f = x :=
  sget_sset_self _ _ f x

@[simp] theorem State.setFport_setFport (s : State) (f : Nat) (x y : FPort) :
    (s.setFport f x).setFport f y = s.setFport f y := by
  simp only [State.setFport, sset_sset]

/-! ### Reception (R343, R344) -/

/-- What an accepted packet needs: words flow to a port that works, it is the packet expected, no attempt at it has failed, and no
injection waits. -/
theorem State.receives_spec {s : State} {f q : Nat} (h : s.receives f q = true) :
    s.wordsFlow f = true ∧ (s.fport f).off = false ∧ (s.fport f).expect = q ∧ (s.fport f).tries = 0 ∧
    s.bit (R.xx_FLT_INJ (P.FP f)) X.FP_LINK_FAIL = false ∧ s.bit (R.xx_FLT_INJ (P.FP f)) X.FP_LINK_RETRY = false := by
  simpa only [State.receives, Bool.and_eq_true, Bool.not_eq_true', beq_iff_eq, and_assoc] using h

/-- Without an injection the next packet received is not made to fail. -/
theorem State.rxInject_clear {s : State} {f : Nat} (hfail : s.bit (R.xx_FLT_INJ (P.FP f)) X.FP_LINK_FAIL = false)
    (hretry : s.bit (R.xx_FLT_INJ (P.FP f)) X.FP_LINK_RETRY = false) : s.rxInject f = (false, s) := by
  rw [State.rxInject, hfail, Bool.and_false, if_neg Bool.false_ne_true, if_neg Bool.false_ne_true,
    State.takeInj_clear hretry]

/-- A packet that is received as expected is accepted, and acts. -/
theorem State.rxPacket_accepted {s : State} {f : Nat} {q : BitVec 12} (page : Bool) (act : State → State)
    (h : s.receives f q.toNat = true) : s.rxPacket f q page act = act (s.accepted f q.toNat page) := by
  obtain ⟨hflow, hoff, hexpect, htries, hfail, hretry⟩ := State.receives_spec h
  have hinject : (s.wordSeen f).rxInject f = (false, s.wordSeen f) := State.rxInject_clear hfail hretry
  have hport : (s.wordSeen f).fport f = { s.fport f with rxIdle := false, exiting := false } := s.fport_setFport_self f _
  have hahead : (q.toNat + 4096 - q.toNat) % 4096 = 0 := by omega
  rw [State.rxPacket, hflow, hoff, if_neg (by decide)]
  dsimp only
  rw [hinject]
  dsimp only
  rw [hport]
  dsimp only
  rw [hexpect, htries, hahead, if_neg (by decide), if_pos rfl, if_neg (by decide), State.wordSeen, State.setFport_setFport,
    State.accepted, hexpect]

/-- A packet behind the expected is a stale copy: counted and dropped. -/
theorem State.rxPacket_stale {s : State} {f : Nat} {q : BitVec 12} (page : Bool) (act : State → State)
    (hflow : s.wordsFlow f = true) (hoff : (s.fport f).off = false)
    (hfail : s.bit (R.xx_FLT_INJ (P.FP f)) X.FP_LINK_FAIL = false)
    (hretry : s.bit (R.xx_FLT_INJ (P.FP f)) X.FP_LINK_RETRY = false)
    (h : 2048 ≤ (q.toNat + 4096 - (s.fport f).expect) % 4096) :
    s.rxPacket f q page act = (s.wordSeen f).count (R.FP_STALE f) := by
  have hinject : (s.wordSeen f).rxInject f = (false, s.wordSeen f) := State.rxInject_clear hfail hretry
  have hport : (s.wordSeen f).fport f = { s.fport f with rxIdle := false, exiting := false } := s.fport_setFport_self f _
  rw [State.rxPacket, hflow, hoff, if_neg (by decide)]
  dsimp only
  rw [hinject]
  dsimp only
  rw [hport]
  dsimp only
  rw [if_neg (by decide), if_neg (by omega), if_pos h]

/-- Where no link words flow nothing arrives. -/
theorem State.rxPacket_down {s : State} {f : Nat} (q : BitVec 12) (page : Bool) (act : State → State)
    (h : s.wordsFlow f = false) : s.rxPacket f q page act = s := by
  rw [State.rxPacket, h]
  rfl

/-! ### Unicast packets (R352, R353) -/

section
variable {s : State} {f : Nat} {q : BitVec 12} {k : Packet} (act : State → State) (h : s.receives f q.toNat = true)
include h

theorem State.rxUnicast_noAddr (ha : (s.accepted f q.toNat (pageClass k.body)).hasAddr = false) :
    s.rxUnicast f q k act = s.accepted f q.toNat (pageClass k.body) := by
  rw [State.rxUnicast, State.rxPacket_accepted _ _ h, ha]
  rfl

variable (ha : (s.accepted f q.toNat (pageClass k.body)).hasAddr = true)
include ha

theorem State.rxUnicast_here (hd : k.head.dst.toNat = (s.accepted f q.toNat (pageClass k.body)).fabAddr) :
    s.rxUnicast f q k act = act (s.accepted f q.toNat (pageClass k.body)) := by
  rw [State.rxUnicast, State.rxPacket_accepted _ _ h, ha, if_neg (by decide), if_pos hd]

theorem State.rxUnicast_onward (hd : k.head.dst.toNat ≠ (s.accepted f q.toNat (pageClass k.body)).fabAddr) :
    s.rxUnicast f q k act = (s.accepted f q.toNat (pageClass k.body)).forward k := by
  rw [State.rxUnicast, State.rxPacket_accepted _ _ h, ha, if_neg (by decide), if_neg hd]

/-- A packet of a delivery that is not multicast is unicast. -/
theorem State.rxEither_here (hmc : k.head.mc = false)
    (hd : k.head.dst.toNat = (s.accepted f q.toNat (pageClass k.body)).fabAddr) :
    s.rxEither f q k act = act (s.accepted f q.toNat (pageClass k.body)) := by
  rw [State.rxEither, hmc, if_neg (by decide), State.rxUnicast_here act h ha hd]

end

end Sys2Proof.Machine
end

section
/-! PROOFS. What packets do: discovery, routes and groups, addresses, time exchanges, register messages, page service (13, R349 to
R357, R364). -/

namespace Sys2Proof.Machine

open Sys2Proof

/-! ### Discovery, time exchanges, addresses (R349 to R353, R364) -/

section
variable {s t : State} {f : Fin 6} {q : BitVec 12} (h : s.receives f q.toNat = true) (ht : t = s.accepted f q.toNat false)
include h ht

theorem pktLinkinfo_learns (i : LinkInfo) : exec (.pktLinkinfo f q i) s = .next ((((((t.setFport f { t.fport f with
    info := some i }).setReg64 (R.FP_PEER_ID_LO f) (R.FP_PEER_ID_HI f) i.uid).setReg (R.FP_PEER_ADDR f) (match i.addr with
      | some a => BitVec.ofNat 32 (2 ^ 31 + a.toNat)
      | none => 0)).setFld (F.FP_STAT_PEER_PORT f) i.port.val).configCheck f).fabUpdate) := by
  subst ht
  exact congrArg done (State.rxPacket_accepted false _ h)

/-- A ROUTE is taken up, and answered with this part's own where the link becomes a tree link or ceases to be one. -/
theorem pktRoute_learns (r b : Bool) (v : List RouteEntry) {u : State}
    (hu : u = (t.setFport f { t.fport f with vec := v, declRoot := r, declTree := b }).fabUpdate) :
    exec (.pktRoute f q r b v) s = .next (if u.treeLink f == t.treeLink f then u else u.sendRoutes.sendJoins) := by
  rw [exec_pktRoute, execPktRoute, State.rxPacket_accepted _ _ h, ← ht, hu]

theorem pktJoin_learns (l : List JoinEntry) :
    exec (.pktJoin f q l) s = .next (t.setFport f { t.fport f with joins := l }).fabUpdate := by
  rw [exec_pktJoin, execPktJoin, State.rxPacket_accepted _ _ h, ← ht]

/-- A TSYNC that answers no exchange whose TSX has come back is only accepted. -/
theorem pktTsync_unasked (a b : BitVec 64) (hx : ∀ d c e, sget none t.time.exch f ≠ some ⟨d, c, some e⟩) :
    exec (.pktTsync f q a b) s = .next t := by
  rw [exec_pktTsync, execPktTsync, State.rxPacket_accepted _ _ h, ← ht]
  dsimp only
  split
  · next d c e hd => exact absurd hd (hx d c e)
  · rfl

theorem pktTsync_completes (a b : BitVec 64) {d e : BitVec 64} {c : Nat}
    (hx : sget none t.time.exch f = some ⟨d, c, some e⟩) {u : State} (hu : u = (t.setTime { t.time with
      exch := sset none t.time.exch f none }).setDelay f (exchangeDelay d a b e)) : exec (.pktTsync f q a b) s =
        .next (((u.setFport f { u.fport f with measured := true }).exchangeDone f d a b e c).configCheck f).fabUpdate := by
  rw [exec_pktTsync, execPktTsync, State.rxPacket_accepted _ _ h, ← ht]
  dsimp only
  rw [hx, hu]

theorem pktAssign_grants (u : BitVec 64) (a : Option (BitVec 10)) :
    exec (.pktAssign f q (.grant u a)) s = .next (t.passGrant u.toNat (a.map (·.toNat))) := by
  rw [exec_pktAssign, execPktAssign, State.rxPacket_accepted _ _ h, ← ht]

/-- A request for an address goes on toward the root, and the port that it came by is kept for the grant. -/
theorem pktAssign_toRoot (u : BitVec 64) (a b : Option (BitVec 10)) {r : Nat} {x : State} (hx : x = t.fabUpd (fun z => { z with
    asked := (u.toNat, f.val) :: z.asked.filter (fun x => x.1 != u.toNat) })) (hr : x.fab.rootPort = some r) :
    exec (.pktAssign f q (.request u a b)) s = .next (x.sendLocal r (.assign (.request u a b))) := by
  rw [exec_pktAssign, execPktAssign, State.rxPacket_accepted _ _ h, ← ht]
  dsimp only
  rw [← hx, hr]

end

/-! ### Register messages (R352, R354) -/

section
variable {s t : State} {f : Fin 6} {q : BitVec 12} {h : PktHead} (hrx : s.receives f q.toNat = true)
  (ht : t = s.accepted f q.toNat false)
include hrx ht

/-- A register request for another part goes on. -/
theorem pktRreq_onward (ha : t.hasAddr = true) (hd : h.dst.toNat ≠ t.fabAddr) (r : RegReq) :
    exec (.pktRreq f q h r) s = .next (t.forward ⟨h, .rreq r⟩) := by
  subst ht
  exact congrArg done (State.rxUnicast_onward _ hrx ha hd)

theorem pktRreq_noAddr (ha : t.hasAddr = false) (r : RegReq) : exec (.pktRreq f q h r) s = .next t := by
  subst ht
  exact congrArg done (State.rxUnicast_noAddr _ hrx ha)

variable (ha : t.hasAddr = true) (hd : h.dst.toNat = t.fabAddr)
include ha hd

theorem pktRreq_answers {r : RegReq} {x : RegRsp} {z : State} (hx : t.peerRequest h.src r = (x, z)) :
    exec (.pktRreq f q h r) s = .next (z.sendTo h.src.toNat (.rrsp x)) := by
  subst ht
  rw [exec_pktRreq, execPktRreq, State.rxUnicast_here (k := ⟨h, .rreq r⟩) _ hrx ha hd]
  dsimp only [pageClass]
  rw [hx]

/-- With no register message outstanding, answers and reports of lost packets do nothing. -/
theorem pktRrsp_unasked (r : RegRsp) (hrm : t.fab.rm = none) : exec (.pktRrsp f q h r) s = .next t := by
  subst ht
  rw [exec_pktRrsp, execPktRrsp, State.rxUnicast_here (k := ⟨h, .rrsp r⟩) _ hrx ha hd]
  dsimp only [pageClass]
  rw [hrm]

theorem pktUnreach_unasked (l : BitVec 10) (hrm : t.fab.rm = none) : exec (.pktUnreach f q h l) s = .next t := by
  subst ht
  rw [exec_pktUnreach, execPktUnreach, State.rxUnicast_here (k := ⟨h, .unreach l⟩) _ hrx ha hd]
  dsimp only [pageClass]
  rw [hrm]

variable {o : RmOp} (hrm : t.fab.rm = some o)
include hrm

/-- The answer to a register write ends it. -/
theorem pktRrsp_ends {r : RegRsp} (htag : o.tag = r.tag.toNat) (hdst : o.dst = h.src.toNat) (hw : o.write = true) :
    exec (.pktRrsp f q h r) s = .next (t.rmEnd r.result.toNat r.reason.toNat r.index.toNat) := by
  subst ht
  rw [exec_pktRrsp, execPktRrsp, State.rxUnicast_here (k := ⟨h, .rrsp r⟩) _ hrx ha hd]
  dsimp only [pageClass]
  rw [hrm]
  dsimp only
  rw [htag, hdst, hw, beq_self_eq_true, beq_self_eq_true, Bool.and_self, if_pos rfl, if_pos rfl]

theorem pktUnreach_ends {l : BitVec 10} (hdst : o.dst = l.toNat) :
    exec (.pktUnreach f q h l) s = .next (t.rmEnd rmUnreach 0 0) := by
  subst ht
  rw [exec_pktUnreach, execPktUnreach, State.rxUnicast_here (k := ⟨h, .unreach l⟩) _ hrx ha hd]
  dsimp only [pageClass]
  rw [hrm]
  dsimp only
  rw [hdst, beq_self_eq_true, if_pos rfl]

end

/-! ### Page service (R177, R355 to R357) -/

section
variable {s t : State} {f : Fin 6} {q : BitVec 12} {h : PktHead} (hrx : s.receives f q.toNat = true)
  (ht : t = s.accepted f q.toNat true) (ha : t.hasAddr = true) (hd : h.dst.toNat = t.fabAddr)
include hrx ht ha hd

theorem pktPreq_serves (p : BitVec 21) (g : Byte) (b : Bool) :
    exec (.pktPreq f q h p g b) s = .next (t.serve h.src.toNat p.toNat g.toNat b) := by
  subst ht
  exact congrArg done (State.rxUnicast_here (k := ⟨h, .preq p g b⟩) _ hrx ha hd)

/-- A request for a run of one page is a request for that page. -/
theorem pktPbreq_serves (p : BitVec 21) (g : Byte) (b : Bool) :
    exec (.pktPbreq f q h p g b 0) s = .next (t.serve h.src.toNat p.toNat g.toNat b) := by
  have hp : (p.toNat + 0) % 2 ^ 21 = p.toNat := Nat.mod_eq_of_lt p.isLt
  subst ht
  rw [exec_pktPbreq, execPktPbreq, State.rxUnicast_here (k := ⟨h, .pbreq p g b 0⟩) _ hrx ha hd,
    show List.range ((0 : Fin 16).val + 1) = [0] from rfl, List.foldl_cons, List.foldl_nil, hp]
  rfl

/-- A refusal that no fetch waits for does nothing. -/
theorem pktPnak_unasked (p : BitVec 21) (c : BitVec 4) (hf : t.pager.fetches = []) :
    exec (.pktPnak f q h p c) s = .next t := by
  subst ht
  rw [exec_pktPnak, execPktPnak, State.rxUnicast_here (k := ⟨h, .pnak p c⟩) _ hrx ha hd]
  dsimp only [pageClass]
  rw [hf, List.foldl_nil]

/-- The fetch of a page that is refused fails an attempt (R177). -/
theorem pktPnak_refuses {p : BitVec 21} (c : BitVec 4) {v r : Nat} {j : Bool} (hf : t.pager.fetches = [(v, some r, j)])
    (hfrom : t.pageFrom v h.src.toNat p.toNat = true) : exec (.pktPnak f q h p c) s = .next (t.fetchArrive v r true j []) := by
  subst ht
  rw [exec_pktPnak, execPktPnak, State.rxUnicast_here (k := ⟨h, .pnak p c⟩) _ hrx ha hd]
  dsimp only [pageClass]
  rw [hf, List.foldl_cons, List.foldl_nil]
  exact congrArg done (if_pos hfrom)

variable (hmc : h.mc = false)
include hmc

theorem pktPdata_collects (p : BitVec 21) (i : Fin 4096) (b : Bool) (d : List Byte) :
    exec (.pktPdata f q h p i b d) s = .next (t.pageData? h.src.toNat p.toNat i false d) := by
  subst ht
  rw [exec_pktPdata, execPktPdata, State.rxEither_here (k := ⟨h, .pdata p i b d⟩) _ hrx ha hmc hd, hmc]
  rfl

/-- A PREP is collected as the data that its word expands to. -/
theorem pktPrep_collects (p : BitVec 21) (i : Fin 4096) (b : Bool) (w : List Byte) :
    exec (.pktPrep f q h p i b w) s = .next (t.pageData? h.src.toNat p.toNat i false (expand w)) := by
  subst ht
  rw [exec_pktPrep, execPktPrep, State.rxEither_here (k := ⟨h, .prep p i b w⟩) _ hrx ha hmc hd, hmc]
  rfl

end

/-! ### Deliveries, election, collection (R350, R351, R355) -/

theorem pageDeliverySend_none {s : State} (h : s.fab.active = []) : exec .pageDeliverySend s = .next s := by
  rw [exec_pageDeliverySend, execPageDeliverySend, h]

section
variable {s : State} {d : Delivery} {l : List Delivery} (h : s.fab.active = d :: l)
include h

/-- A page that is no longer HOME ends its delivery. -/
theorem pageDeliverySend_drops (hst : s.pageState d.spage ≠ pgHome) :
    exec .pageDeliverySend s = .next (s.fabUpd (fun b => ({ b with active := l }).promote)) := by
  rw [exec_pageDeliverySend, execPageDeliverySend, h]
  dsimp only
  rw [beq_false_of_ne hst, if_neg (by decide)]

/-- A unicast delivery sends its next packet, and the other deliveries in progress have their turn before it. -/
theorem pageDeliverySend_sends {a : Nat} (hst : s.pageState d.spage = pgHome) (hmc : d.mc = false)
    (ha : s.patAddr (d.spage * 2 ^ 21 + d.index * 512) = some a) (hi : d.index < 4095) : exec .pageDeliverySend s =
      .next ((s.sendTo d.dst (.pdata (BitVec.ofNat 21 d.spage) ⟨d.index % 4096, Nat.mod_lt _ (by decide)⟩ false
        (s.memBytes a 512))).fabUpd (fun b => { b with active := l ++ [{ d with index := d.index + 1 }] })) := by
  have hlast : (d.index == 4095) = false := beq_false_of_ne (by omega)
  rw [exec_pageDeliverySend, execPageDeliverySend, h]
  dsimp only
  rw [beq_iff_eq.mpr hst, if_pos rfl, ha]
  dsimp only
  rw [hmc, hlast, if_neg Bool.false_ne_true, if_neg (Nat.ne_of_lt hi)]

end

theorem electionSettle_rests {s : State} (h : s.fld F.FAB_STAT_NSTATE ≠ nsElect) : exec .electionSettle s = .next s :=
  congrArg done (if_pos (bne_iff_ne.mpr h))

/-- The root begins to collect requests, its own among them. -/
theorem electionSettle_root {s t : State} (h : s.fld F.FAB_STAT_NSTATE = nsElect)
    (ht : t = s.setFld F.FAB_STAT_NSTATE nsAssign) (hr : s.fab.rootPort = none) : exec .electionSettle s =
      .next (t.fabUpd (fun b => { b with collecting := true, requests := insertRequest t.ownRequest b.requests })) := by
  have hroot : t.fab.rootPort = none := by rw [ht, State.setFld_fab, hr]
  rw [exec_electionSettle, execElectionSettle, if_neg (by rw [h]; decide), ← ht]
  dsimp only
  rw [hroot]

theorem assignCollectEnd_rests {s : State} (h : s.fab.collecting = false) : exec .assignCollectEnd s = .next s := by
  rw [exec_assignCollectEnd, execAssignCollectEnd, h]
  rfl

/-- The end of the collection grants the addresses in the order of the requests. -/
theorem assignCollectEnd_grants {s : State} (h : s.fab.collecting = true) : exec .assignCollectEnd s =
    .next (s.fab.requests.foldl (fun t r =>
      t.passGrant r.1 (((grantAddrs s.fab.requests).find? (fun x => x.1 == r.1)).map Prod.snd))
      (s.fabUpd (fun b => { b with collecting := false, requests := [], granted := grantAddrs s.fab.requests }))) := by
  rw [exec_assignCollectEnd, execAssignCollectEnd, h]
  rfl

/-- Settles O54: a packet that is received as expected acts on the accepted state, and a unicast one for this part does so where
the part has an address; what it does there is its own lemma. -/
theorem fabricPackets : Obligations.FabricPackets := by
  unfold Obligations.FabricPackets
  refine ⟨fun s t f q h ht => ⟨fun i => ⟨_, pktLinkinfo_learns h ht i, rfl⟩, fun r b v u hu => ⟨?_, ?_⟩,
      pktJoin_learns h ht, pktTsync_unasked h ht, fun a b d c e u hx hu => pktTsync_completes h ht a b hx hu,
      pktAssign_grants h ht, fun u a b r x hx hr => pktAssign_toRoot h ht u a b hx hr⟩,
    fun s t u f q h hrx hmc ht hu => ⟨fun ha hd => ⟨fun r x z => pktRreq_answers hrx ht ha hd, pktRrsp_unasked hrx ht ha hd,
        fun r o hrm => pktRrsp_ends hrx ht ha hd hrm, fun l o hrm => pktUnreach_ends hrx ht ha hd hrm,
        pktUnreach_unasked hrx ht ha hd⟩,
      pktRreq_onward hrx ht, pktRreq_noAddr hrx ht,
      fun ha hd => ⟨pktPreq_serves hrx hu ha hd, pktPbreq_serves hrx hu ha hd, pktPdata_collects hrx hu ha hd hmc,
        pktPrep_collects hrx hu ha hd hmc, pktPnak_unasked hrx hu ha hd,
        fun p c v r j => pktPnak_refuses hrx hu ha hd c⟩⟩,
    fun s f q l hflow hoff hfail hretry hlate =>
      congrArg done (State.rxPacket_stale false _ hflow hoff hfail hretry hlate),
    fun s f q l hflow => congrArg done (State.rxPacket_down q false _ hflow), fun s => pageDeliverySend_none,
    fun s d l a h => ⟨pageDeliverySend_drops h, pageDeliverySend_sends h⟩, fun s => electionSettle_rests,
    fun s t => electionSettle_root, fun s => assignCollectEnd_rests, ?_⟩
  · intro htree
    rw [pktRoute_learns h ht r b v hu, htree, beq_self_eq_true, if_pos rfl]
  · intro htree
    rw [pktRoute_learns h ht r b v hu, beq_false_of_ne htree, if_neg (by decide)]
  · rintro s g h rfl
    exact assignCollectEnd_grants h

end Sys2Proof.Machine
end

section
/-! PROOFS. Capture units: the oldest cycle, the times of the trigger sequencer, the release of regions, the read position of a fail
log (07, R201, R203, R209, R218, R220, R221). -/

namespace Sys2Proof.Machine

open Sys2Proof

/-! ### The state behind a unit -/

@[simp] theorem State.cu_setCu_self (s : State) (u : Nat) (x : Cu) : (s.setCu u x).cu u = x := sget_sset_self _ _ _ _

@[simp] theorem State.setCu_dclk (s : State) (u : Nat) (x : Cu) : (s.setCu u x).dclk = s.dclk := rfl

/-! ### The oldest cycle (R203) -/

section
variable {s : State} {u : Fin 8}

theorem captureCycleProcess_empty (h : (s.cu u).queue = []) : exec (.captureCycleProcess u) s = .next s := by
  rw [exec_captureCycleProcess, execCaptureCycleProcess, h]

variable {c : CycleRec} {l : List CycleRec} (h : (s.cu u).queue = c :: l)
include h

/-- A cycle waits until its last result has been released. -/
theorem captureCycleProcess_waits (hc : c.left ≠ 0) : exec (.captureCycleProcess u) s = .next s := by
  rw [exec_captureCycleProcess, execCaptureCycleProcess, h]
  exact congrArg done (if_pos (bne_iff_ne.mpr hc))

theorem captureCycleProcess_processes (hc : c.left = 0) : exec (.captureCycleProcess u) s =
    .next (((s.setCu u { s.cu u with queue := l }).capProcess u c).capSettle u) := by
  rw [exec_captureCycleProcess, execCaptureCycleProcess, h]
  dsimp only
  rw [hc, if_neg (by decide)]

end

/-! ### AUTO's timeout and the end of a re-arm (R220, R221) -/

section
variable {s : State} {u : Fin 8}

theorem autoTriggerTimeout_forces (hm : s.fld (F.TRG_CFG_MODE u) = 2) (hp : s.phase u = phPre) :
    exec (.autoTriggerTimeout u) s = .next (s.setCu u { s.cu u with force := true }) := by
  rw [exec_autoTriggerTimeout, execAutoTriggerTimeout, hm, hp, if_pos (by decide)]

/-- The timeout acts in mode AUTO and phase PRE alone. -/
theorem autoTriggerTimeout_rests (h : s.fld (F.TRG_CFG_MODE u) ≠ 2 ∨ s.phase u ≠ phPre) :
    exec (.autoTriggerTimeout u) s = .next s := by
  refine congrArg done (if_neg fun hboth => ?_)
  obtain ⟨hm, hp⟩ := Bool.and_eq_true_iff.mp hboth
  exact h.elim (· (beq_iff_eq.mp hm)) (· (beq_iff_eq.mp hp))

theorem rearmEnd_starts (h : s.phase u = phRearm) :
    exec (.rearmEnd u) s = .next (s.segStart u (s.fld (F.TRG_STATE_SEG u) + 1)) :=
  congrArg done (if_pos (beq_iff_eq.mpr h))

theorem rearmEnd_rests (h : s.phase u ≠ phRearm) : exec (.rearmEnd u) s = .next s :=
  congrArg done (if_neg (mt beq_iff_eq.mp h))

end

/-! ### Timers (R218) -/

/-- CUu with its timer `i` running, and at the value `v` at the present DCLK. -/
def State.startTimer (s : State) (u i v : Nat) : State :=
  s.setCu u { s.cu u with timers := sset (false, 0, 0) (s.cu u).timers i (true, v, s.dclk) }

theorem State.timer_startTimer (s : State) (u i v : Nat) : (s.startTimer u i v).timer u i = (true, v) := by
  simp [State.timer, State.startTimer]

/-- A timer is expired once it is at its limit. -/
theorem State.timerExpired_iff {s : State} {u i : Nat} :
    s.timerExpired u i = true ↔ (s.reg (R.TRG_TM_LIM u i)).toNat ≤ (s.timer u i).2 := decide_eq_true_iff

/-- A timer that is put at its limit is expired. -/
theorem State.timerExpired_startTimer (s : State) (u i : Nat) :
    (s.startTimer u i (s.reg (R.TRG_TM_LIM u i)).toNat).timerExpired u i = true := by
  have hlim : (s.startTimer u i (s.reg (R.TRG_TM_LIM u i)).toNat).reg (R.TRG_TM_LIM u i) = s.reg (R.TRG_TM_LIM u i) := rfl
  rw [State.timerExpired_iff, State.timer_startTimer, hlim]

section
variable {s : State} {u : Fin 8} {i : Fin 4}

theorem trgTimerExpire_limit (hrun : (s.timer u i).1 = true) (h : (s.timer u i).2 < (s.reg (R.TRG_TM_LIM u i)).toNat) :
    exec (.trgTimerExpire u i) s = .next (s.startTimer u i (s.reg (R.TRG_TM_LIM u i)).toNat) := by
  have hleft : s.timerExpired u i = false := Bool.eq_false_iff.mpr fun he => absurd (State.timerExpired_iff.mp he) (by omega)
  rw [exec_trgTimerExpire, execTrgTimerExpire, hrun, hleft, if_pos (by decide), State.startTimer]

/-- A timer that does not run, or is at its limit, stays as it is. -/
theorem trgTimerExpire_rests (h : (s.timer u i).1 = false ∨ s.timerExpired u i = true) :
    exec (.trgTimerExpire u i) s = .next s := by
  refine congrArg done (if_neg ?_)
  rcases h with h | h <;> simp [h]

end

/-! ### Releases and fail logs (R201, R209) -/

section
variable {s : State} {a : Agent} {u : Fin 8} {k : Fin 64} (h : s.admits a .cu (P.CU u) = true)
include h

theorem capPRelease_frees (hk : s.pstate k = pIdle) : exec (.capPRelease a u k) s = .next (s.capFree u k) := by
  have hstate : (capReleaseRule u k 0x80000000 s).stateOk = true := beq_iff_eq.mpr hk
  rw [exec_capPRelease, execCapPRelease, State.writeBy_ok _ _ h rfl rfl hstate rfl rfl]
  rfl

/-- The regions of a partition out of IDLE are not released. -/
theorem capPRelease_refused (hk : s.pstate k ≠ pIdle) :
    exec (.capPRelease a u k) s = .next (s.reject (P.CU u) (R.CAP_P_STAT u k) .state) := by
  have hstate : (capReleaseRule u k 0x80000000 s).stateOk = false := beq_false_of_ne hk
  rw [exec_capPRelease, execCapPRelease, State.writeBy_refused _ _ .state h (by rw [hstate]; rfl)]
  rfl

theorem capPFlogRd_moves {v : Word} (hr : (capRdRule u k v s).rangeOk = true) :
    exec (.capPFlogRd a u k v) s = .next (s.setReg (R.CAP_P_FLOG_RD u k) v) := by
  rw [exec_capPFlogRd, execCapPFlogRd, State.writeBy_ok _ _ h rfl rfl rfl rfl hr]
  rfl

theorem capPFlogRd_refused {v : Word} (hr : (capRdRule u k v s).rangeOk = false) :
    exec (.capPFlogRd a u k v) s = .next (s.reject (P.CU u) (R.CAP_P_FLOG_RD u k) .range) := by
  rw [exec_capPFlogRd, execCapPFlogRd, State.writeBy_refused _ _ .range h (by rw [hr]; rfl)]
  rfl

end

/-- Without a fail log only 0 is in range of CAP_P_FLOG_RD. -/
theorem capRdRule_rangeOk_noLog {s : State} {u k : Nat} (v : Word) (hc : s.flogCap u k = 0) :
    (capRdRule u k v s).rangeOk = (v == 0) := if_pos hc

/-- In a fail log a read position is in range that does not make the level negative. -/
theorem capRdRule_rangeOk_log {s : State} {u k : Nat} (v : Word) (hc : s.flogCap u k ≠ 0) :
    (capRdRule u k v s).rangeOk = (decide (v.toNat < s.flogCap u k) &&
      decide (ringLevel v.toNat (s.reg (R.CAP_P_FLOG_RD u k)).toNat (s.flogCap u k) ≤ s.flogLevel u k)) := if_neg hc

/-- Settles O47: what each command does is decided by one condition on the unit (its oldest cycle, its mode and phase, its timer), and
by the rule of the register that it writes where it is a write. That AUTO's timeout forces the segment as a trigger does is the
model's choice (assumption 56). -/
theorem captureCommands : Obligations.CaptureCommands := by
  unfold Obligations.CaptureCommands
  refine ⟨fun s u => ⟨captureCycleProcess_empty, fun c l => captureCycleProcess_waits, fun c l => captureCycleProcess_processes⟩,
    fun s u => ⟨autoTriggerTimeout_forces, autoTriggerTimeout_rests, rearmEnd_starts, rearmEnd_rests⟩,
    fun s u i => ⟨fun hrun hlim => ⟨_, trgTimerExpire_limit hrun hlim, s.timer_startTimer u i _, s.timerExpired_startTimer u i,
      rfl⟩, trgTimerExpire_rests⟩,
    fun s a u k h => ⟨capPRelease_frees h, capPRelease_refused h⟩, ?_⟩
  rintro s a u k v c h rfl
  refine ⟨fun hc hv hlevel => capPFlogRd_moves h ?_, fun hc hv => capPFlogRd_refused h ?_, fun hc hv => capPFlogRd_refused h ?_⟩
  · rw [capRdRule_rangeOk_log v hc, decide_eq_true hv, decide_eq_true hlevel, Bool.and_self]
  · rw [capRdRule_rangeOk_log v hc, decide_eq_false (by omega), Bool.false_and]
  · rw [capRdRule_rangeOk_noLog v hc, beq_false_of_ne hv]

end Sys2Proof.Machine
end

section
/-! PROOFS. The time-interval units: writes of TU_CTRL, arms, ends and edges (R223 to R236). -/

namespace Sys2Proof.Machine

open Sys2Proof

/-! ### The state behind a unit -/

@[simp] theorem State.reg_setTu (s : State) (u : Nat) (x : Tu) (o : Nat) : (s.setTu u x).reg o = s.reg o := rfl

@[simp] theorem State.tu_setTu_self (s : State) (u : Nat) (x : Tu) : (s.setTu u x).tu u = x := sget_sset_self _ _ _ _

@[simp] theorem State.fld_setTu (s : State) (u : Nat) (x : Tu) (f : Fld) : (s.setTu u x).fld f = s.fld f := rfl

/-! ### Arming a unit (R229) -/

theorem State.reg_foldl_setReg_zero (l : List Nat) (s : State) (o : Nat) :
    (l.foldl (fun t p => t.setReg p 0) s).reg o = if o ∈ l then 0 else s.reg o := by
  induction l generalizing s with
  | nil => rfl
  | cons p l ih =>
    rw [List.foldl_cons, ih, State.reg_setReg]
    by_cases hl : o ∈ l
    · simp [hl]
    · simp [hl]

/-- The registers of a unit that an arm clears, TU_STAT apart. -/
def tuStampRegs (n k : Nat) : List Nat :=
  [R.TU_START_C_LO n k, R.TU_START_C_HI n k, R.TU_START_IT_LO n k, R.TU_START_IT_HI n k, R.TU_STOP_C_LO n k, R.TU_STOP_C_HI n k,
    R.TU_STOP_IT_LO n k, R.TU_STOP_IT_HI n k, R.TU_EDGES n k, R.TU_GEN n k]

theorem tuStat_notMem (n k : Nat) : R.TU_STAT n k ∉ tuStampRegs n k := by simp [tuStampRegs]

/-- A stamp is read off two of these registers. -/
theorem stamp_spec (u : Nat) (stop : Bool) : ∃ hi ∈ tuStampRegs (u / 8) (u % 8), ∃ lo ∈ tuStampRegs (u / 8) (u % 8),
    ∀ t : State, t.stamp u stop = ((t.reg hi).toNat % 2 ^ 24 * 2 ^ 32 + (t.reg lo).toNat, (t.reg hi).toNat / 2 ^ 24) := by
  cases stop
  · exact ⟨R.TU_START_C_HI (u / 8) (u % 8), by simp [tuStampRegs], R.TU_START_C_LO (u / 8) (u % 8), by simp [tuStampRegs],
      fun _ => rfl⟩
  · exact ⟨R.TU_STOP_C_HI (u / 8) (u % 8), by simp [tuStampRegs], R.TU_STOP_C_LO (u / 8) (u % 8), by simp [tuStampRegs],
      fun _ => rfl⟩

/-- The state in which an arm has cleared the registers of a unit: of TU_STAT it keeps STALE. -/
def State.tuCleared (s : State) (u : Nat) : State :=
  (tuStampRegs (u / 8) (u % 8)).foldl (fun t p => t.setReg p 0)
    (s.setReg (R.TU_STAT (u / 8) (u % 8)) (BitVec.ofNat 32 (if s.flag (F.TU_STAT_STALE (u / 8) (u % 8)) then 4096 else 0)))

section
variable (s : State) (u : Nat)

theorem State.tuArm_eq : s.tuArm u = ((s.tuCleared u).setTuState u tuArmed).setTu u
    { (s.tuCleared u).tu u with armAt := (s.time.tcnt.toNat + 4) % 2 ^ 56, starts := 0, stops := 0 } := rfl

theorem State.reg_tuCleared_stat : (s.tuCleared u).reg (R.TU_STAT (u / 8) (u % 8)) =
    BitVec.ofNat 32 (if s.flag (F.TU_STAT_STALE (u / 8) (u % 8)) then 4096 else 0) := by
  rw [State.tuCleared, State.reg_foldl_setReg_zero, if_neg (tuStat_notMem _ _), State.reg_setReg_self]

theorem State.reg_tuCleared_stamp {o : Nat} (ho : o ∈ tuStampRegs (u / 8) (u % 8)) : (s.tuCleared u).reg o = 0 := by
  rw [State.tuCleared, State.reg_foldl_setReg_zero, if_pos ho]

theorem State.tuState_tuArm : (s.tuArm u).tuState u = tuArmed := by
  rw [State.tuArm_eq, State.tuState, State.fld_setTu]
  exact State.fld_setFld_self _ (F.TU_STAT_STATE (u / 8) (u % 8)) _ (by simp)

theorem State.armAt_tuArm : ((s.tuArm u).tu u).armAt = (s.time.tcnt.toNat + 4) % 2 ^ 56 := by
  rw [State.tuArm_eq, State.tu_setTu_self]

theorem tuStatCleared_bit : ∀ stale : Bool, ∀ i < 12, bitsOf (BitVec.ofNat 32 (if stale then 4096 else 0)).toNat i i = 0 := by
  decide

/-- The flags of TU_STAT below STALE are clear after an arm. -/
theorem State.tuFlag_tuArm {f : Nat → Nat → Fld} {i : Nat} (hf : f (u / 8) (u % 8) = ⟨R.TU_STAT (u / 8) (u % 8), i, i⟩)
    (hlo : 3 ≤ i) (hhi : i < 12) : (s.tuArm u).tuFlag u f = false := by
  have hclear : (s.tuCleared u).fld ⟨R.TU_STAT (u / 8) (u % 8), i, i⟩ = 0 := by
    rw [State.fld, State.reg_tuCleared_stat, tuStatCleared_bit _ i hhi]
  have hkept : ((s.tuCleared u).setTuState u tuArmed).fld ⟨R.TU_STAT (u / 8) (u % 8), i, i⟩ = 0 :=
    (State.fld_setFld_other _ _ (by simp) (Or.inr (Or.inr (by simp; omega)))).trans hclear
  rw [State.tuFlag, State.flag, hf, State.tuArm_eq, State.fld_setTu, hkept]
  rfl

theorem State.stamp_tuArm (stop : Bool) : (s.tuArm u).stamp u stop = (0, 0) := by
  have hreg : ∀ o ∈ tuStampRegs (u / 8) (u % 8), (s.tuArm u).reg o = 0 := by
    intro o ho
    have hstat := ne_of_mem_of_not_mem ho (tuStat_notMem _ _)
    rw [State.tuArm_eq, State.reg_setTu, State.setTuState, State.reg_setFld_other _ _ hstat, s.reg_tuCleared_stamp u ho]
  obtain ⟨hi, hhi, lo, hlo, hstamp⟩ := stamp_spec u stop
  rw [hstamp, hreg hi hhi, hreg lo hlo]
  rfl

end

/-! ### The end of a measurement (R229, R230) -/

/-- The registers of a unit's state and stamps lie apart from those that reports write, and from the count of stamps. -/
theorem tuRegs_apart : ∀ u : Fin 64, ∀ o ∈ R.TU_STAT (u / 8) (u % 8) :: tuStampRegs (u / 8) (u % 8),
    reportReg o = false ∧ o ≠ R.xx_BLK_COUNT (P.TIA (u / 8)) := by decide

/-- The flags that the end of a measurement writes: misses, comparison of the stamps, CANCEL. -/
def State.tuMarked (s : State) (u : Nat) (cancel : Bool) : State :=
  let a := s.tuFlag u F.TU_STAT_START_TAKEN
  let b := s.tuFlag u F.TU_STAT_STOP_TAKEN
  let cmp := s.compareStamps u
  ((((s.setTuFlag u F.TU_STAT_START_MISS (!a)).setTuFlag u F.TU_STAT_STOP_MISS (!b)).setTuFlag u F.TU_STAT_COINCIDENT
    (a && b && cmp.1)).setTuFlag u F.TU_STAT_ORDER (a && b && cmp.2)).setTuFlag u F.TU_STAT_CANCEL cancel

/-- An end marks the unit, takes a generation and a count of stamps, and reports DONE. -/
theorem State.tuEnd_eq (s : State) (u : Nat) (cancel : Bool) : ∃ gen k, s.tuEnd u cancel =
    ((((s.tuMarked u cancel).setFld (F.TU_STAT_GEN (u / 8) (u % 8)) gen).countBy (R.xx_BLK_COUNT (P.TIA (u / 8))) k).setTuState u
      tuDone).event (P.TIA (u / 8)) (E.TIA_DONE (u % 8)) := ⟨_, _, rfl⟩

section
variable (s : State) (u : Fin 64) (c : Bool)

theorem tiaPage_aligned : P.TIA (u / 8) % 0x1000 = 0 := by simp only [P.TIA]; omega

theorem State.fld_event_tuStat (b : Nat) {f : Fld} (hf : f.off = R.TU_STAT (u / 8) (u % 8)) :
    (s.event (P.TIA (u / 8)) b).fld f = s.fld f := by
  obtain ⟨hstat, -⟩ := tuRegs_apart u _ List.mem_cons_self
  rw [State.fld, (State.ReportsOnly.event s b (tiaPage_aligned u)).reg _ (hf ▸ hstat)]
  rfl

theorem State.tuState_tuEnd : (s.tuEnd u c).tuState u = tuDone := by
  obtain ⟨gen, k, he⟩ := s.tuEnd_eq u c
  rw [he, State.tuState, State.fld_event_tuStat _ _ _ rfl]
  exact State.fld_setFld_self _ (F.TU_STAT_STATE (u / 8) (u % 8)) _ (by simp)

/-- Of TU_STAT the end writes STATE, GEN and its marks. -/
theorem State.fld_tuEnd {f : Fld} (hf : f.off = R.TU_STAT (u / 8) (u % 8)) (hlo : 2 < f.lo) (hhi : f.hi < 24) :
    (s.tuEnd u c).fld f = (s.tuMarked u c).fld f := by
  obtain ⟨gen, k, he⟩ := s.tuEnd_eq u c
  obtain ⟨-, hcount⟩ := tuRegs_apart u _ List.mem_cons_self
  rw [he, State.fld_event_tuStat _ _ _ hf, State.setTuState, State.fld_setFld_other _ _ (by simp) (Or.inr (Or.inr hlo)),
    State.fld, State.countBy, State.reg_setReg_other _ _ (hf ▸ hcount), ← State.fld,
    State.fld_setFld_other _ _ (by simp) (Or.inr (Or.inl hhi))]

/-- The end keeps both stamps, with the times and counts of their edges. -/
theorem State.reg_tuEnd_stamp {o : Nat} (ho : o ∈ tuStampRegs (u / 8) (u % 8)) : (s.tuEnd u c).reg o = s.reg o := by
  obtain ⟨gen, k, he⟩ := s.tuEnd_eq u c
  obtain ⟨hreport, hcount⟩ := tuRegs_apart u o (List.mem_cons_of_mem _ ho)
  have hstat := ne_of_mem_of_not_mem ho (tuStat_notMem _ _)
  rw [he, (State.ReportsOnly.event _ _ (tiaPage_aligned u)).reg _ hreport, State.setTuState, State.reg_setFld_other _ _ hstat,
    State.countBy, State.reg_setReg_other _ _ hcount, State.reg_setFld_other _ _ hstat]
  simp (disch := exact hstat) only [State.tuMarked, State.setTuFlag, State.reg_setFlag_other]

theorem State.startMiss_tuEnd : (s.tuEnd u c).tuFlag u F.TU_STAT_START_MISS = !s.tuFlag u F.TU_STAT_START_TAKEN := by
  rw [State.tuFlag, State.flag, State.fld_tuEnd _ _ _ rfl (by simp) (by simp), ← State.flag]
  simp (disch := simp) only [State.tuMarked, State.setTuFlag, State.flag_setFlag_other, State.flag_setFlag_self]

theorem State.stopMiss_tuEnd : (s.tuEnd u c).tuFlag u F.TU_STAT_STOP_MISS = !s.tuFlag u F.TU_STAT_STOP_TAKEN := by
  rw [State.tuFlag, State.flag, State.fld_tuEnd _ _ _ rfl (by simp) (by simp), ← State.flag]
  simp (disch := simp) only [State.tuMarked, State.setTuFlag, State.flag_setFlag_other, State.flag_setFlag_self]

theorem State.cancel_tuEnd : (s.tuEnd u c).tuFlag u F.TU_STAT_CANCEL = c := by
  rw [State.tuFlag, State.flag, State.fld_tuEnd _ _ _ rfl (by simp) (by simp), ← State.flag]
  exact State.flag_setFlag_self _ _ _ rfl (by simp)

theorem State.stamp_tuEnd (stop : Bool) : (s.tuEnd u c).stamp u stop = s.stamp u stop := by
  obtain ⟨hi, hhi, lo, hlo, hstamp⟩ := stamp_spec u stop
  rw [hstamp, hstamp, s.reg_tuEnd_stamp u c hhi, s.reg_tuEnd_stamp u c hlo]

end

/-! ### Writes of TU_CTRL that keep TMO_EN (R236) -/

/-- The word of TU_CTRL with the bits given below TMO_EN, and TMO_EN as it is. -/
def State.tuWord (s : State) (u bits : Nat) : Word := BitVec.ofNat 32 (bits + (if s.tuFlag u F.TU_CTRL_TMO_EN then 8 else 0))

/-- The state after such a write has stored TMO_EN. -/
def State.tuKeepTmo (s : State) (u : Nat) : State := s.setTuFlag u F.TU_CTRL_TMO_EN (s.tuFlag u F.TU_CTRL_TMO_EN)

theorem tuWord_bits : ∀ bits < 8, ∀ tmo : Bool, ∀ w : Word, w = BitVec.ofNat 32 (bits + (if tmo then 8 else 0)) →
    w.getLsbD 0 = bits.testBit 0 ∧ w.getLsbD 1 = bits.testBit 1 ∧ w.getLsbD 2 = bits.testBit 2 ∧ w.getLsbD 3 = tmo := by
  rintro bits hb tmo _ rfl
  revert bits tmo
  decide

/-- Such a write sets EN, or arms, only outside CALIBRATE, SERVICE and QUARANTINE and outside CAL; it arms no ARMED unit. -/
theorem tuCtrlRule_keep (s : State) (u : Nat) {bits : Nat} (hb : bits < 8) : tuCtrlRule u (s.tuWord u bits) s = {
    stateOk := (!(bits.testBit 0 && !s.tuFlag u F.TU_CTRL_EN || bits.testBit 1) || (!s.noMeasure && s.tuState u != tuCal
        && !(bits.testBit 0 && !s.tuFlag u F.TU_CTRL_EN && s.tuRetired u)))
      && (!bits.testBit 1 || (s.tuState u != tuArmed && bits.testBit 0))
    eff := fun t =>
      let t := t.setTuFlag u F.TU_CTRL_TMO_EN (s.tuFlag u F.TU_CTRL_TMO_EN)
      let t := if bits.testBit 2 then t.tuDisarm u else t
      let t := if bits.testBit 0 != s.tuFlag u F.TU_CTRL_EN then t.tuEnable u (bits.testBit 0) else t
      if bits.testBit 1 then t.tuArm u else t } := by
  obtain ⟨h0, h1, h2, h3⟩ := tuWord_bits bits hb (s.tuFlag u F.TU_CTRL_TMO_EN) (s.tuWord u bits) rfl
  simp only [tuCtrlRule, h0, h1, h2, h3, beq_self_eq_true, Bool.true_or, Bool.true_and]

section
variable {s : State} {a : Agent} {u : Fin 64} (h : s.admits a .tia (P.TIA (u.val / 8)) = true)
include h

/-- A write of TU_CTRL whose checks pass takes effect. -/
theorem State.tuWrite_ok {bits : Nat} (hok : (tuCtrlRule u (s.tuWord u bits) s).stateOk = true) :
    s.tuWrite a u bits = (tuCtrlRule u (s.tuWord u bits) s).eff s := State.writeBy_ok _ _ h rfl rfl hok rfl rfl

theorem State.tuWrite_refused {bits : Nat} (hok : (tuCtrlRule u (s.tuWord u bits) s).stateOk = false) :
    s.tuWrite a u bits = s.reject (P.TIA (u.val / 8)) (R.TU_CTRL (u.val / 8) (u.val % 8)) .state :=
  State.writeBy_refused _ (tuCtrlRule u (s.tuWord u bits) s) .state h (by rw [hok]; rfl)

theorem tuArm_arms (hm : s.noMeasure = false) (hen : s.tuFlag u F.TU_CTRL_EN = true)
    (hs : s.tuState u = tuIdle ∨ s.tuState u = tuDone) : exec (.tuArm a u) s = .next ((s.tuKeepTmo u).tuArm u) := by
  have hrest : s.tuState u ≠ tuCal ∧ s.tuState u ≠ tuArmed := by rcases hs with hs | hs <;> rw [hs] <;> decide
  have hok : (tuCtrlRule u (s.tuWord u 3) s).stateOk = true := by
    rw [tuCtrlRule_keep s u (by decide)]
    simp [hm, hen, hrest, Nat.testBit]
  rw [exec_tuArm, execTuArm, State.tuWrite_ok h hok, tuCtrlRule_keep s u (by decide), hen]
  rfl

/-- No unit is armed outside the modes that measure, and an ARMED unit is not armed again. -/
theorem tuArm_refused (hs : s.noMeasure = true ∨ s.tuState u = tuArmed) : exec (.tuArm a u) s =
    .next (s.reject (P.TIA (u.val / 8)) (R.TU_CTRL (u.val / 8) (u.val % 8)) .state) := by
  have hok : (tuCtrlRule u (s.tuWord u 3) s).stateOk = false := by
    rw [tuCtrlRule_keep s u (by decide)]
    rcases hs with hs | hs <;> simp [hs, Nat.testBit]
  rw [exec_tuArm, execTuArm, State.tuWrite_refused h hok]

theorem tuDisarm_eq : exec (.tuDisarm a u) s = .next ((s.tuKeepTmo u).tuDisarm u) := by
  cases hen : s.tuFlag u F.TU_CTRL_EN
  · have hok : (tuCtrlRule u (s.tuWord u 4) s).stateOk = true := by
      rw [tuCtrlRule_keep s u (by decide)]
      rfl
    rw [exec_tuDisarm, execTuDisarm, hen, if_neg (by decide), State.tuWrite_ok h hok, tuCtrlRule_keep s u (by decide), hen]
    rfl
  · have hok : (tuCtrlRule u (s.tuWord u 5) s).stateOk = true := by
      rw [tuCtrlRule_keep s u (by decide), hen]
      rfl
    rw [exec_tuDisarm, execTuDisarm, hen, if_pos rfl, State.tuWrite_ok h hok, tuCtrlRule_keep s u (by decide), hen]
    rfl

theorem tuEnWrite_enables (hm : s.noMeasure = false) (hen : s.tuFlag u F.TU_CTRL_EN = false) (hc : s.tuState u ≠ tuCal)
    (hr : s.tuRetired u = false) : exec (.tuEnWrite a u true) s = .next ((s.tuKeepTmo u).tuEnable u true) := by
  have hok : (tuCtrlRule u (s.tuWord u 1) s).stateOk = true := by
    rw [tuCtrlRule_keep s u (by decide)]
    simp [hm, hen, hc, hr, Nat.testBit]
  rw [exec_tuEnWrite, execTuEnWrite, if_pos rfl, State.tuWrite_ok h hok, tuCtrlRule_keep s u (by decide), hen]
  simp [Nat.testBit, State.tuKeepTmo]

theorem tuEnWrite_refused (hm : s.noMeasure = true) (hen : s.tuFlag u F.TU_CTRL_EN = false) : exec (.tuEnWrite a u true) s =
    .next (s.reject (P.TIA (u.val / 8)) (R.TU_CTRL (u.val / 8) (u.val % 8)) .state) := by
  have hok : (tuCtrlRule u (s.tuWord u 1) s).stateOk = false := by
    rw [tuCtrlRule_keep s u (by decide)]
    simp [hm, hen, Nat.testBit]
  rw [exec_tuEnWrite, execTuEnWrite, if_pos rfl, State.tuWrite_refused h hok]

/-- EN written 0 disables a unit that it finds enabled. -/
theorem tuEnWrite_false : exec (.tuEnWrite a u false) s =
    .next (if s.tuFlag u F.TU_CTRL_EN then (s.tuKeepTmo u).tuEnable u false else s.tuKeepTmo u) := by
  have hok : (tuCtrlRule u (s.tuWord u 0) s).stateOk = true := by
    rw [tuCtrlRule_keep s u (by decide)]
    rfl
  rw [exec_tuEnWrite, execTuEnWrite, if_neg (by decide), State.tuWrite_ok h hok, tuCtrlRule_keep s u (by decide)]
  simp [Nat.testBit, State.tuKeepTmo]

end

theorem State.tuState_tuKeepTmo (s : State) (u : Nat) : (s.tuKeepTmo u).tuState u = s.tuState u :=
  State.fld_setFld_other _ _ (by simp) (Or.inl (by simp))

/-! ### Timeouts and edges (R223, R224, R230) -/

section
variable {s : State} {u : Fin 64}

theorem State.tuDisarm_armed {t : State} {u : Nat} (hs : t.tuState u = tuArmed) : t.tuDisarm u = t.tuEnd u true :=
  if_pos (beq_iff_eq.mpr hs)

theorem State.tuDisarm_rests {t : State} {u : Nat} (hs : t.tuState u ≠ tuArmed) : t.tuDisarm u = t :=
  if_neg (fun h => hs (beq_iff_eq.mp h))

theorem tuTimeout_ends (hs : s.tuState u = tuArmed) (ht : s.tuFlag u F.TU_CTRL_TMO_EN = true) :
    exec (.tuTimeout u) s = .next (s.tuEnd u false) := by
  rw [exec_tuTimeout, execTuTimeout, hs, ht, if_pos (by decide)]

theorem tuTimeout_rests (h : s.tuState u ≠ tuArmed ∨ s.tuFlag u F.TU_CTRL_TMO_EN = false) :
    exec (.tuTimeout u) s = .next s := by
  have hne : (s.tuState u == tuArmed && s.tuFlag u F.TU_CTRL_TMO_EN) = false := by
    rcases h with h | h <;> simp [h]
  rw [exec_tuTimeout, execTuTimeout, hne, if_neg (by decide)]

variable (p : Fin 8) (r : Bool) (b : Fin 4) (f : Fin 192) {c : BitVec 10}

/-- A source code that does not exist has no front end. -/
theorem frontEndEdge_none (hc : 0x30A < c.toNat) : exec (.frontEndEdge c p r b f []) s = .next s := by
  have hsrc : tuSource c.toNat = false := decide_eq_false (by omega)
  rw [exec_frontEndEdge, execFrontEndEdge, hsrc, if_pos (by decide)]

theorem frontEndEdge_passes (hc : c.toNat ≤ 0x30A) : exec (.frontEndEdge c p r b f []) s = .next (s.frontEdge {
    src := c.toNat, page := p, rise := r, coarse := (s.time.tcnt.toNat + b.val) % 2 ^ 56, fine := fun _ => f }) := by
  have hsrc : tuSource c.toNat = true := decide_eq_true hc
  rw [exec_frontEndEdge, execFrontEndEdge, hsrc, if_neg (by decide)]
  rfl

end

/-- Settles O48: an arm clears the unit's stamps and the flags of TU_STAT below STALE, an end marks the stamps that were not taken
and keeps both; each command but the edge and the timeout is one write of TU_CTRL that keeps TMO_EN, which its rule decides. That a
disarm acts at once, that ARM needs EN = 1 in the write and that TU_CTRL is checked on changes is the model's choice (assumption 67). -/
theorem intervalUnits : Obligations.IntervalUnits := by
  unfold Obligations.IntervalUnits
  refine ⟨fun s a u h hm => ⟨fun hen hs => ?_, fun hs => tuArm_refused h (Or.inr hs)⟩,
    fun s a u h hm => ⟨tuArm_refused h (Or.inl hm), tuEnWrite_refused h hm⟩, ?_,
    fun s u => ⟨tuTimeout_ends, tuTimeout_rests⟩,
    fun s c p r b f => ⟨frontEndEdge_none p r b f, frontEndEdge_passes p r b f⟩, ?_⟩
  · exact ⟨_, tuArm_arms h hm hen hs, State.tuState_tuArm _ _, State.armAt_tuArm _ _,
      State.tuFlag_tuArm _ _ rfl (by decide) (by decide), State.tuFlag_tuArm _ _ rfl (by decide) (by decide),
      State.stamp_tuArm _ _ _, State.stamp_tuArm _ _ _⟩
  · rintro s _ a u h rfl
    have hstate : (s.tuKeepTmo u).tuState u = s.tuState u := s.tuState_tuKeepTmo u
    refine ⟨fun hs => ?_, fun hs => ?_, fun hen => ?_, fun hen => ?_, fun hen hm => tuEnWrite_enables h hm hen⟩
    · rw [tuDisarm_eq h, State.tuDisarm_armed (hstate.trans hs), State.tuKeepTmo]
    · rw [tuDisarm_eq h, State.tuDisarm_rests (hstate ▸ hs), State.tuKeepTmo]
    · rw [tuEnWrite_false h, if_pos hen, State.tuKeepTmo]
    · rw [tuEnWrite_false h, hen, if_neg (by decide), State.tuKeepTmo]
  · rintro s _ u c hstart hstop - rfl
    refine ⟨s.tuState_tuEnd u c, ?_, ?_, s.cancel_tuEnd u c, s.stamp_tuEnd u c false⟩
    · rw [s.startMiss_tuEnd u c, hstart, Bool.not_true]
    · rw [s.stopMiss_tuEnd u c, hstop, Bool.not_false]

end Sys2Proof.Machine
end

section
/-! PROOFS. Constantan: runs and their items, the streams of its set out and in (R450 to R464). -/

namespace Sys2Proof.Machine

open Sys2Proof

/-! ### CAL_CMD (R450, R457) -/

section
variable {v : Word}

theorem calCmdRule_start (s : State) (h0 : v.getLsbD 0 = true) (h1 : v.getLsbD 1 = false) (h2 : v.getLsbD 2 = false) :
    (calCmdRule v s).eff s = s.calBegin := by
  simp only [calCmdRule, h0, h1, h2, Bool.false_and, Bool.false_eq_true, if_true, if_false]

theorem calCmdRule_go (s : State) (h0 : v.getLsbD 0 = false) (h1 : v.getLsbD 1 = false) (h2 : v.getLsbD 2 = true) :
    (calCmdRule v s).eff s = if s.flag F.CAL_DEC_WAIT_WAITING then
      { s.setFlag F.CAL_DEC_WAIT_WAITING false with cal := { s.cal with go := true } } else s := by
  simp only [calCmdRule, h0, h1, h2, Bool.true_and, Bool.false_eq_true, if_false]

end

section
variable {s : State} {a : Agent} (h : s.admits a .cal P.CAL = true)
include h

theorem calStart_begins (hc : s.calCanStart = true) : exec (.calStart a) s = .next s.calBegin := by
  rw [exec_calStart, execCalStart, State.calCommand, State.writeBy_ok _ _ h rfl rfl hc rfl rfl,
    calCmdRule_start s (by decide) (by decide) (by decide)]

theorem calStart_refused (hc : s.calCanStart = false) :
    exec (.calStart a) s = .next (s.reject P.CAL R.CAL_CMD .state) := by
  have hok : (calCmdRule 1 s).stateOk = false := hc
  rw [exec_calStart, execCalStart, State.calCommand, State.writeBy_refused _ _ .state h (by rw [hok]; rfl)]
  rfl

theorem calGo_eq : exec (.calGo a) s = .next (if s.flag F.CAL_DEC_WAIT_WAITING then
    { s.setFlag F.CAL_DEC_WAIT_WAITING false with cal := { s.cal with go := true } } else s) := by
  rw [exec_calGo, execCalGo, State.calCommand, State.writeBy_ok _ _ h rfl rfl rfl rfl rfl,
    calCmdRule_go s (by decide) (by decide) (by decide)]

theorem calGo_rests (hw : s.flag F.CAL_DEC_WAIT_WAITING = false) : exec (.calGo a) s = .next s := by
  rw [calGo_eq h, hw, if_neg (by decide)]

theorem calGo_goes {t : State} (ht : t = s.setFlag F.CAL_DEC_WAIT_WAITING false)
    (hw : s.flag F.CAL_DEC_WAIT_WAITING = true) :
    exec (.calGo a) s = .next { t with cal := { t.cal with go := true } } := by
  rw [calGo_eq h, if_pos hw, ht, State.setFlag_cal]

end

/-! ### Items in order (R452 to R457) -/

theorem State.calAt_measuring {s : State} {k : Nat} (h : s.calState = csMeasure) (hk : s.fld F.CAL_STAT_STAGE = k) :
    s.calAt k = true := by
  rw [State.calAt, h, hk, beq_self_eq_true, beq_self_eq_true, Bool.and_self]

theorem State.calAt_rests {s : State} (k : Nat) (h : s.calState ≠ csMeasure) : s.calAt k = false := by
  rw [State.calAt, beq_false_of_ne h, Bool.false_and]

section
variable {s : State} (h : s.calState ≠ csMeasure)
include h

theorem calTiaItem_rests (x : List TiaHits) : exec (.calTiaItem x) s = .next s := by
  rw [exec_calTiaItem, execCalTiaItem, State.calAt_rests 1 h]
  exact congrArg done (if_pos rfl)

theorem calOutItem_rests (x : List OutStamps) : exec (.calOutItem x) s = .next s := by
  rw [exec_calOutItem, execCalOutItem, State.calAt_rests 2 h]
  exact congrArg done (if_pos rfl)

theorem calThItem_rests (x : List ThReadings) (g : List (Fin 16)) : exec (.calThItem x g) s = .next s := by
  rw [exec_calThItem, execCalThItem, State.calAt_rests 3 h]
  exact congrArg done (if_pos rfl)

theorem calInItem_rests (x : List InSweep) : exec (.calInItem x) s = .next s := by
  rw [exec_calInItem, execCalInItem, State.calAt_rests 4 h]
  exact congrArg done (if_pos rfl)

theorem calDecItem_rests (x : List DecSums) : exec (.calDecItem x) s = .next s := by
  rw [exec_calDecItem, execCalDecItem, State.calAt_rests 5 h]
  exact congrArg done (if_pos rfl)

theorem calRunTimeout_rests : exec .calRunTimeout s = .next s := by
  rw [exec_calRunTimeout, execCalRunTimeout, if_neg (fun hs => h (beq_iff_eq.mp hs))]

end

/-- What the TH item does first with each timing group: it takes an injected failure, or one that its frames met. -/
def State.calThGroup (failed : List (Fin 16)) (s : State) (t : Nat) : State :=
  match s.takeInj (P.TG t) X.TG_SB_FAIL with
  | (true, s) => ({ s with cal := { s.cal with sbFail := t :: s.cal.sbFail } }).faultInj (P.TG t) X.TG_SB_FAIL true
  | (false, s) => if failed.any (fun x => x.val == t) then
      ({ s with cal := { s.cal with sbFail := t :: s.cal.sbFail } }).fault (P.TG t) X.TG_SB_FAIL else s

theorem State.calThGroup_clear {s : State} {t : Nat} (hi : s.bit (R.xx_FLT_INJ (P.TG t)) X.TG_SB_FAIL = false) :
    s.calThGroup [] t = s := by
  rw [State.calThGroup, State.takeInj_clear hi]
  rfl

/-- Every channel of the mask measured in the range that waited, and GO used up (R457). -/
def State.calDecMeasured (s : State) (d : List DecSums) : State :=
  let t := s.calChans.foldl (fun s' c => s'.calDec d (s.fld F.CAL_DEC_WAIT_DEC_RANGE) c) s
  { t with cal := { t.cal with go := false } }

theorem calDecItem_eq (s : State) (d : List DecSums) : exec (.calDecItem d) s =
    done (if !s.calAt 5 || !s.cal.go then s
      else match (s.calDecMeasured d).calRangesFrom (s.fld F.CAL_DEC_WAIT_DEC_RANGE + 1) with
        | [] => (s.calDecMeasured d).calNext 5
        | i :: _ => (s.calDecMeasured d).calRange i) := rfl

theorem calDecItem_waits {s : State} (d : List DecSums) (hg : s.cal.go = false) : exec (.calDecItem d) s = .next s := by
  rw [calDecItem_eq, hg, Bool.not_false, Bool.or_true, if_pos rfl]

section
variable {s : State} (h : s.calState = csMeasure)
include h

theorem calTiaItem_measures (x : List TiaHits) (hk : s.fld F.CAL_STAT_STAGE = 1) : exec (.calTiaItem x) s =
    .next ((((List.range 128).filter (fun i => s.calPages.contains (i / 16))).foldl (fun s i => s.calTable x i) s).calNext 1) := by
  rw [exec_calTiaItem, execCalTiaItem, State.calAt_measuring h hk]
  exact congrArg done (if_neg (by decide))

theorem calOutItem_measures (x : List OutStamps) (hk : s.fld F.CAL_STAT_STAGE = 2) : exec (.calOutItem x) s =
    .next ((s.calOutLines.foldl (fun s l => s.calOut x l) s).calNext 2) := by
  rw [exec_calOutItem, execCalOutItem, State.calAt_measuring h hk]
  exact congrArg done (if_neg (by decide))

theorem calThItem_measures (x : List ThReadings) (hk : s.fld F.CAL_STAT_STAGE = 3)
    (hi : ∀ t, t < 16 → s.bit (R.xx_FLT_INJ (P.TG t)) X.TG_SB_FAIL = false) : exec (.calThItem x []) s =
      .next ((s.calInLines.foldl (fun s l => s.calTh x l) s).calNext 3) := by
  have hgroups : s.calGroups.foldl (fun t g => t.calThGroup [] g) s = s :=
    List.foldlRecOn (motive := (· = s)) s.calGroups _ rfl fun t ht g hg =>
      (congrArg (State.calThGroup [] · g) ht).trans (State.calThGroup_clear (hi g (List.mem_range.mp (List.mem_filter.mp hg).1)))
  have hitem : exec (.calThItem x []) s = .next (((s.calGroups.foldl (fun t g => t.calThGroup [] g) s).calInLines.foldl
      (fun s l => s.calTh x l) (s.calGroups.foldl (fun t g => t.calThGroup [] g) s)).calNext 3) := by
    rw [exec_calThItem, execCalThItem, State.calAt_measuring h hk]
    exact congrArg done (if_neg (by decide))
  rw [hitem, hgroups]

theorem calInItem_measures (w : List InSweep) (hk : s.fld F.CAL_STAT_STAGE = 4) (hm : s.flag F.CAL_RUN_CFG_IN_MODE = false) :
    exec (.calInItem w) s = .next ((s.calInLines.foldl (fun t l => t.calIn l
      ((s.inFirst ((w.find? (fun y => y.line.val == l)).getD ⟨0, [], []⟩).first).map (fun q => q - 0))
      ((crossing 50 (2 ^ s.fld F.CAL_IN_CFG_N_LOG2) (s.fld F.CAL_IN_CFG_STEP_PS) (-(s.fld F.CAL_IN_CFG_SPAN_PS : Int))
        ((w.find? (fun y => y.line.val == l)).getD ⟨0, [], []⟩).second).map (fun q => q - 0))) s).calNext 4) := by
  rw [exec_calInItem, execCalInItem, State.calAt_measuring h hk, hm, if_neg (by decide)]
  simp only [Bool.false_eq_true, if_false, List.foldl_map]

section
variable {d : List DecSums} (hk : s.fld F.CAL_STAT_STAGE = 5) (hg : s.cal.go = true)
include hk hg

theorem calDecItem_ends (hr : (s.calDecMeasured d).calRangesFrom (s.fld F.CAL_DEC_WAIT_DEC_RANGE + 1) = []) :
    exec (.calDecItem d) s = .next ((s.calDecMeasured d).calNext 5) := by
  rw [calDecItem_eq, State.calAt_measuring h hk, hg, if_neg (by decide), hr]

theorem calDecItem_goesOn {i : Nat} {l : List Nat}
    (hr : (s.calDecMeasured d).calRangesFrom (s.fld F.CAL_DEC_WAIT_DEC_RANGE + 1) = i :: l) :
    exec (.calDecItem d) s = .next ((s.calDecMeasured d).calRange i) := by
  rw [calDecItem_eq, State.calAt_measuring h hk, hg, if_neg (by decide), hr]

end

theorem calRunTimeout_givesUp : exec .calRunTimeout s = .next ((s.fault P.CAL X.CAL_RUN_TMO).calGiveUp ceTimeout) := by
  rw [exec_calRunTimeout, execCalRunTimeout, if_pos (beq_iff_eq.mpr h)]

end

/-! ### The end of a restore (R460) -/

/-- No frame of Constantan waits for a bus or is on one. -/
def State.calFramesDone (s : State) : Bool :=
  s.cal.frames == [] && !(List.range 16).any (fun t => ((s.tg t).frame.map SbFrame.cal).getD false)

theorem State.calFramesDone_idle {s : State} (hf : s.cal.frames = []) (ht : ∀ t, t < 16 → (s.tg t).frame = none) :
    s.calFramesDone = true := by
  have hbus : (List.range 16).any (fun t => ((s.tg t).frame.map SbFrame.cal).getD false) = false :=
    List.any_eq_false.mpr fun t hm => by simp [ht t (List.mem_range.mp hm)]
  rw [State.calFramesDone, hf, hbus]
  rfl

theorem State.calFramesDone_waiting {s : State} (hf : s.cal.frames ≠ []) : s.calFramesDone = false := by
  rw [State.calFramesDone, beq_false_of_ne hf, Bool.false_and]

theorem calRestoreEnd_eq (s : State) : exec .calRestoreEnd s = .next (if s.calState == csRestoring && s.calFramesDone then
    ({ s with cal := { s.cal with touched := [] } }).calLeave else s) := by
  rw [exec_calRestoreEnd, execCalRestoreEnd, State.calFramesDone, Bool.and_assoc]

section
variable {s : State}

theorem calRestoreEnd_rests (hs : s.calState ≠ csRestoring) : exec .calRestoreEnd s = .next s := by
  rw [calRestoreEnd_eq, beq_false_of_ne hs, Bool.false_and, if_neg (by decide)]

theorem calRestoreEnd_waits (hf : s.cal.frames ≠ []) : exec .calRestoreEnd s = .next s := by
  rw [calRestoreEnd_eq, State.calFramesDone_waiting hf, Bool.and_false, if_neg (by decide)]

theorem calRestoreEnd_leaves (hs : s.calState = csRestoring) (hf : s.cal.frames = [])
    (ht : ∀ t, t < 16 → (s.tg t).frame = none) :
    exec .calRestoreEnd s = .next { s with cal := { s.cal with touched := [] } }.calLeave := by
  rw [calRestoreEnd_eq, State.calFramesDone_idle hf ht, Bool.and_true, if_pos (beq_iff_eq.mpr hs)]

end

/-- An import comes into force, or fails, once its frames are done. -/
theorem calImportApply_eq (s : State) : exec .calImportApply s = .next (if !s.cal.importing || !s.calFramesDone then s
    else if s.cal.sbFail != [] then ({ s.calDrop with cal := { s.calDrop.cal with touched := [] } }).importEnd 3 ciSb 0
    else
      let t := s.calApply (s.cal.th.map Prod.fst)
      ({ t with cal := { t.cal with factory := t.cal.factory && t.cal.source == 0 } }).importEnd 2 0 0) := by
  rw [exec_calImportApply, execCalImportApply, State.calFramesDone, Bool.not_and, Bool.not_not, Bool.or_assoc]
  rfl

section
variable {s : State}

theorem calImportApply_waits (hf : s.cal.frames ≠ []) : exec .calImportApply s = .next s := by
  rw [calImportApply_eq, State.calFramesDone_waiting hf, Bool.not_false, Bool.or_true, if_pos rfl]

/-- Without an import under way there is nothing to apply. -/
theorem calImportApply_rests (hi : s.cal.importing = false) : exec .calImportApply s = .next s := by
  rw [calImportApply_eq, hi, Bool.not_false, Bool.true_or, if_pos rfl]

variable (hf : s.cal.frames = []) (ht : ∀ t, t < 16 → (s.tg t).frame = none) (hi : s.cal.importing = true)
include hf ht hi

theorem calImportApply_fails (hb : s.cal.sbFail ≠ []) : exec .calImportApply s =
    .next ({ s.calDrop with cal := { s.calDrop.cal with touched := [] } }.importEnd 3 ciSb 0) := by
  rw [calImportApply_eq, State.calFramesDone_idle hf ht, hi, if_neg (by decide), if_pos (bne_iff_ne.mpr hb)]

theorem calImportApply_applies {t : State} (hb : s.cal.sbFail = []) (he : t = s.calApply (s.cal.th.map Prod.fst)) :
    exec .calImportApply s =
      .next ({ t with cal := { t.cal with factory := t.cal.factory && t.cal.source == 0 } }.importEnd 2 0 0) := by
  rw [calImportApply_eq, State.calFramesDone_idle hf ht, hi, if_neg (by decide), hb, if_neg (by decide), he]

end

/-! ### The stream out (R463) -/

theorem calRule_expCtrl (a : Agent) (v : Word) (s : State) : calRule a R.CAL_EXP_CTRL v s = {
    rangeOk := !v.getLsbD 0 || bitsOf v.toNat 15 8 == 0x10 || bitsOf v.toNat 15 8 == 0x11
    eff := fun t =>
      let t := t.setReg R.CAL_EXP_CTRL (v &&& 0xFF00)
      if v.getLsbD 0 then t.exportStart (bitsOf v.toNat 15 8 == 0x10) else t } := rfl

/-- The word of CAL_EXP_CTRL that starts a stream in a version. -/
theorem expWord_spec : ∀ ver : Byte, ∀ w : Word, w = BitVec.ofNat 32 (ver.toNat * 256 + 1) → w.getLsbD 0 = true ∧
    (bitsOf w.toNat 15 8 == 0x10) = (ver == 0x10) ∧ (bitsOf w.toNat 15 8 == 0x11) = (ver == 0x11) ∧
    w &&& 0xFF00 = BitVec.ofNat 32 (ver.toNat * 256) := by
  rintro ver _ rfl
  revert ver
  decide

section
variable {s : State} {a : Agent} {v : Byte} (h : s.admits a .cal P.CAL = true)
include h

theorem calExportStart_starts (hv : v = 0x10 ∨ v = 0x11) : exec (.calExportStart a v) s =
    .next ((s.setReg R.CAL_EXP_CTRL (BitVec.ofNat 32 (v.toNat * 256))).exportStart (v == 0x10)) := by
  obtain ⟨h0, h10, h11, hw⟩ := expWord_spec v _ rfl
  rw [exec_calExportStart, execCalExportStart, calRule_expCtrl, h0, h10, h11, hw]
  exact congrArg done (State.writeBy_ok _ _ h rfl rfl rfl rfl (by rcases hv with rfl | rfl <;> rfl))

theorem calExportStart_refused (h10 : v ≠ 0x10) (h11 : v ≠ 0x11) : exec (.calExportStart a v) s =
    .next (s.reject P.CAL R.CAL_EXP_CTRL .range) := by
  obtain ⟨h0, hv10, hv11, -⟩ := expWord_spec v _ rfl
  rw [exec_calExportStart, execCalExportStart, calRule_expCtrl, h0, hv10, hv11, beq_false_of_ne h10, beq_false_of_ne h11]
  exact congrArg done (State.writeBy_refused _ _ .range h rfl)

end

/-- A read of CAL_EXP_DATA by an agent that the window answers is the next word of the stream. -/
theorem calExpDataRead_reads {s : State} {a : Agent} (k : EccCheck) (h : s.responds a = true) :
    exec (.calExpDataRead a k) s = .next (s.exportRead k) := by
  rw [exec_calExpDataRead, execCalExpDataRead, if_pos h]

theorem calExpDataRead_silent {s : State} {a : Agent} (k : EccCheck) (h : s.responds a = false) :
    exec (.calExpDataRead a k) s = .next s := by
  rw [exec_calExpDataRead, execCalExpDataRead, h, if_neg (by decide)]

section
variable {s : State}

theorem State.exportRead_empty (k : EccCheck) (he : s.cal.exp = []) : s.exportRead k = s.answer 0 := by
  rw [State.exportRead, he]

variable {w : Word} {l : List Word} (he : s.cal.exp = w :: l) (hi : s.bit (R.xx_FLT_INJ P.CAL) X.CAL_IMG_ECC = false)
include he hi

/-- A clean word is answered; with the last one the stream ends. -/
theorem State.exportRead_clean {t : State}
    (ht : t = { s with cal := { s.cal with exp := l } }.setFld F.CAL_EXP_STAT_WORDS_LEFT l.length) :
    s.exportRead .clean = (if l = [] then t.exportEnd 0 else t).answer (w.setWidth 64) := by
  rw [ht, State.exportRead, he]
  dsimp only
  rw [State.takeInj_clear hi]
  rfl

theorem State.exportRead_double : s.exportRead .double = ((s.fault P.CAL X.CAL_IMG_ECC).exportEnd 2).answer 0 := by
  rw [State.exportRead, he]
  dsimp only
  rw [State.takeInj_clear hi]
  rfl

end

section
variable {s t : State} {w x : Word} {l : List Word} (hi : s.bit (R.xx_FLT_INJ P.CAL) X.CAL_IMG_ECC = false)
include hi

theorem State.exportRead_more (he : s.cal.exp = w :: x :: l)
    (ht : t = { s with cal := { s.cal with exp := x :: l } }.setFld F.CAL_EXP_STAT_WORDS_LEFT (l.length + 1)) :
    s.exportRead .clean = t.answer (w.setWidth 64) := by
  rw [State.exportRead_clean he hi ht, if_neg (List.cons_ne_nil x l)]

theorem State.exportRead_last (he : s.cal.exp = [w])
    (ht : t = { s with cal := { s.cal with exp := [] } }.setFld F.CAL_EXP_STAT_WORDS_LEFT 0) :
    s.exportRead .clean = (t.exportEnd 0).answer (w.setWidth 64) := by
  rw [State.exportRead_clean he hi ht, if_pos rfl]

end

/-! ### The stream in (R464) -/

/-- The staging buffer emptied, with a new status. -/
def State.importEmpty (s : State) (w : Word) : State :=
  { s.setReg R.CAL_IMP_STAT w with cal := { s.cal with imp := [] } }

theorem calRule_impData (a : Agent) (v : Word) (s : State) : calRule a R.CAL_IMP_DATA v s = {
    stateOk := s.importOpen, eff := fun t => t.importWord v } := rfl

theorem State.importOpen_eq_true {s : State} (hi : s.cal.importing = false) (ho : s.fld F.CAL_IMP_STAT_STATE = 1) :
    s.importOpen = true := by
  rw [State.importOpen, hi, ho]
  rfl

theorem State.importOpen_eq_false {s : State} (h : s.cal.importing = true ∨ s.fld F.CAL_IMP_STAT_STATE ≠ 1) :
    s.importOpen = false := by
  rcases h with h | h <;> simp [State.importOpen, h]

/-- While an import is being applied, no write of CAL_IMP_CTRL is taken. -/
theorem impCtrlRule_importing {s : State} (hi : s.cal.importing = true) (v : Word) : (impCtrlRule v s).stateOk = false := by
  rw [impCtrlRule, hi]
  rfl

section
variable {v : Word}

theorem impCtrlRule_begin (s : State) (h0 : v.getLsbD 0 = true) (h1 : v.getLsbD 1 = false) (h2 : v.getLsbD 2 = false) :
    (impCtrlRule v s).stateOk = !s.cal.importing ∧ (impCtrlRule v s).eff s = s.importEmpty 0x10000000 := by
  simp only [impCtrlRule, h0, h1, h2, Bool.false_and, Bool.false_eq_true, if_true, if_false, Bool.not_false, Bool.true_or,
    Bool.and_true, true_and]
  rfl

theorem impCtrlRule_cancel (s : State) (h0 : v.getLsbD 0 = false) (h1 : v.getLsbD 1 = false) (h2 : v.getLsbD 2 = true) :
    (impCtrlRule v s).stateOk = !s.cal.importing ∧
    (impCtrlRule v s).eff s = if s.importOpen then s.importEmpty 0 else s := by
  simp only [impCtrlRule, h0, h1, h2, Bool.true_and, Bool.false_and, Bool.false_eq_true, if_false, Bool.not_false, Bool.true_or,
    Bool.and_true, true_and]
  rfl

/-- A COMMIT is taken of an open stream, outside a run, in the modes that allow it. -/
theorem impCtrlRule_commit (s : State) (h0 : v.getLsbD 0 = false) (h1 : v.getLsbD 1 = true) (h2 : v.getLsbD 2 = false) :
    (impCtrlRule v s).stateOk = (s.importOpen && (s.calState == csIdle
      && (s.mode == mBoot || s.mode == mTrain || s.mode == mReady || s.mode == mCalibrate))) ∧
    (impCtrlRule v s).eff s = if s.importOpen then s.importCommit else s := by
  constructor
  · simp only [impCtrlRule, h0, h1, State.importOpen, Bool.not_true, Bool.false_or, Bool.or_false]
    cases s.cal.importing <;> simp [Bool.and_assoc]
  · simp only [impCtrlRule, h0, h1, h2, Bool.true_and, Bool.false_and, Bool.false_eq_true, if_false]

end

section
variable {s : State} {a : Agent} (h : s.admits a .cal P.CAL = true)
include h

theorem calImportBegin_opens (hi : s.cal.importing = false) :
    exec (.calImportBegin a) s = .next (s.importEmpty 0x10000000) := by
  obtain ⟨hok, heff⟩ := impCtrlRule_begin (v := 1) s (by decide) (by decide) (by decide)
  rw [exec_calImportBegin, execCalImportBegin, State.writeBy_ok _ _ h rfl rfl (by rw [hok, hi]; rfl) rfl rfl, heff]

theorem calImportCancel_eq (hi : s.cal.importing = false) :
    exec (.calImportCancel a) s = .next (if s.importOpen then s.importEmpty 0 else s) := by
  obtain ⟨hok, heff⟩ := impCtrlRule_cancel (v := 4) s (by decide) (by decide) (by decide)
  rw [exec_calImportCancel, execCalImportCancel, State.writeBy_ok _ _ h rfl rfl (by rw [hok, hi]; rfl) rfl rfl, heff]

theorem calImportCancel_empties (hi : s.cal.importing = false) (ho : s.fld F.CAL_IMP_STAT_STATE = 1) :
    exec (.calImportCancel a) s = .next (s.importEmpty 0) := by
  rw [calImportCancel_eq h hi, State.importOpen_eq_true hi ho, if_pos rfl]

theorem calImportCancel_rests (hi : s.cal.importing = false) (ho : s.fld F.CAL_IMP_STAT_STATE ≠ 1) :
    exec (.calImportCancel a) s = .next s := by
  rw [calImportCancel_eq h hi, State.importOpen_eq_false (Or.inr ho), if_neg (by decide)]

theorem impCtrl_refused {v : Word} (hok : (impCtrlRule v s).stateOk = false) :
    s.writeBy a .cal P.CAL R.CAL_IMP_CTRL (impCtrlRule v s) = s.reject P.CAL R.CAL_IMP_CTRL .state :=
  State.writeBy_refused _ (impCtrlRule v s) .state h (by rw [hok]; rfl)

theorem calImportBegin_refused (hi : s.cal.importing = true) :
    exec (.calImportBegin a) s = .next (s.reject P.CAL R.CAL_IMP_CTRL .state) := by
  rw [exec_calImportBegin, execCalImportBegin, impCtrl_refused h (impCtrlRule_importing hi _)]

theorem calImportCancel_refused (hi : s.cal.importing = true) :
    exec (.calImportCancel a) s = .next (s.reject P.CAL R.CAL_IMP_CTRL .state) := by
  rw [exec_calImportCancel, execCalImportCancel, impCtrl_refused h (impCtrlRule_importing hi _)]

/-- A COMMIT needs an open stream, and no run. -/
theorem calImportCommit_refused (hr : s.importOpen = false ∨ s.calState ≠ csIdle) :
    exec (.calImportCommit a) s = .next (s.reject P.CAL R.CAL_IMP_CTRL .state) := by
  obtain ⟨hok, -⟩ := impCtrlRule_commit (v := 2) s (by decide) (by decide) (by decide)
  rw [exec_calImportCommit, execCalImportCommit, impCtrl_refused h (hok.trans (by rcases hr with hr | hr <;> simp [hr]))]

theorem calImportCommit_commits (ho : s.importOpen = true) (hc : s.calState = csIdle)
    (hm : s.mode = mBoot ∨ s.mode = mTrain ∨ s.mode = mReady ∨ s.mode = mCalibrate) :
    exec (.calImportCommit a) s = .next s.importCommit := by
  obtain ⟨hok, heff⟩ := impCtrlRule_commit (v := 2) s (by decide) (by decide) (by decide)
  have hmode : (s.mode == mBoot || s.mode == mTrain || s.mode == mReady || s.mode == mCalibrate) = true := by
    simpa [or_assoc] using hm
  rw [exec_calImportCommit, execCalImportCommit,
    State.writeBy_ok _ _ h rfl rfl (by rw [hok, ho, hc, hmode]; rfl) rfl rfl, heff, ho, if_pos rfl]

theorem calImportData_refused (v : Word) (ho : s.importOpen = false) :
    exec (.calImportData a v) s = .next (s.reject P.CAL R.CAL_IMP_DATA .state) := by
  rw [exec_calImportData, execCalImportData, calRule_impData, ho, State.writeBy_refused _ _ .state h rfl]

theorem calImportData_takes (v : Word) (ho : s.importOpen = true) :
    exec (.calImportData a v) s = .next (s.importWord v) := by
  rw [exec_calImportData, execCalImportData, calRule_impData, State.writeBy_ok _ _ h rfl rfl ho rfl rfl]

end

theorem State.importWord_full {s : State} (v : Word) (hl : s.cal.imp.length = 8192) :
    s.importWord v = s.importEnd 3 ciOverflow 0 := if_pos hl

theorem State.importWord_stages {s : State} (v : Word) (hl : s.cal.imp.length ≠ 8192) : s.importWord v =
    { s with cal := { s.cal with imp := v :: s.cal.imp } }.setFld F.CAL_IMP_STAT_WORDS (s.cal.imp.length + 1) := if_neg hl

/-- Settles O58: START and GO, the start of a stream out and each command of an import are one write of a register of the CAL page,
which its rule decides; the stage of the run decides an item, and the frames of Constantan the end of a restore and of an import. The
corners of a run, its operands and the corners of the two streams are the model's choice (assumptions 72, 73 and 74). -/
theorem calibration : Obligations.Calibration := by
  unfold Obligations.Calibration
  refine ⟨fun s a h => ⟨calStart_begins h, calStart_refused h, calGo_rests h, fun t => calGo_goes h⟩,
    fun s x o r g w d h => ⟨calTiaItem_rests h x, calOutItem_rests h o, calThItem_rests h r g, calInItem_rests h w,
      calDecItem_rests h d, calRunTimeout_rests h⟩,
    fun s x h hk => calTiaItem_measures h x hk, fun s o h hk => calOutItem_measures h o hk,
    fun s r h hk hi => calThItem_measures h r hk hi, ?inItem, fun s t u d r h hk => ⟨calDecItem_waits d, ?decItem⟩,
    fun s h => calRunTimeout_givesUp h,
    fun s => ⟨calRestoreEnd_rests, fun hf => ⟨calRestoreEnd_waits hf, calImportApply_waits hf⟩, calRestoreEnd_leaves⟩,
    fun s t a v h => ⟨calExportStart_refused h, ?exportStart⟩, ?exportRead, fun s a h k => calExpDataRead_silent k h,
    fun s a v h => ⟨fun hi => ?applying, fun t ht hi => ht ▸ calImportBegin_opens h hi,
      fun t ht hi ho => ht ▸ calImportCancel_empties h hi ho, fun hi ho => ?closed, fun hi ho => ?isOpen⟩,
    fun s t hf ht => ⟨calImportApply_rests, calImportApply_fails hf ht, fun hi => calImportApply_applies hf ht hi⟩⟩
  case inItem =>
    rintro s w _ _ _ _ h hk hm rfl rfl rfl rfl
    exact calInItem_measures h w hk hm
  case decItem =>
    rintro hg rfl rfl rfl
    exact ⟨calDecItem_ends h hk hg, fun i l => calDecItem_goesOn h hk hg⟩
  case exportStart =>
    rintro hv rfl
    exact calExportStart_starts h hv
  case exportRead =>
    intro s a k h
    simp only [calExpDataRead_reads _ h]
    exact ⟨fun he => congrArg done (State.exportRead_empty k he),
      fun w x l t he hi ht => congrArg done (State.exportRead_more hi he ht),
      fun w t he hi ht => congrArg done (State.exportRead_last hi he ht),
      fun w l he hi => congrArg done (State.exportRead_double he hi)⟩
  case applying =>
    have ho : s.importOpen = false := State.importOpen_eq_false (Or.inl hi)
    exact ⟨calImportBegin_refused h hi, calImportCancel_refused h hi, calImportCommit_refused h (Or.inl ho),
      calImportData_refused h v ho⟩
  case closed =>
    have hclosed : s.importOpen = false := State.importOpen_eq_false (Or.inr ho)
    exact ⟨calImportCancel_rests h hi ho, calImportData_refused h v hclosed, calImportCommit_refused h (Or.inl hclosed)⟩
  case isOpen =>
    have hopen : s.importOpen = true := State.importOpen_eq_true hi ho
    exact ⟨fun hl => (calImportData_takes h v hopen).trans (congrArg done (State.importWord_full v hl)),
      fun hl => (calImportData_takes h v hopen).trans (congrArg done (State.importWord_stages v hl)),
      fun hc => calImportCommit_refused h (Or.inr hc), calImportCommit_commits h hopen⟩

end Sys2Proof.Machine
end

section
/-! PROOFS. The synthesis channels: writes of SYN_CTRL, jump requests, sample boundaries, edges and starts (R257 to R273). -/

namespace Sys2Proof.Machine

open Sys2Proof

/-! ### The state behind a channel -/

@[simp] theorem State.reg_setSyn (s : State) (n : Nat) (x : Syn) (o : Nat) : (s.setSyn n x).reg o = s.reg o := rfl

@[simp] theorem State.fld_setSyn (s : State) (n : Nat) (x : Syn) (f : Fld) : (s.setSyn n x).fld f = s.fld f := rfl

@[simp] theorem State.flag_setSyn (s : State) (n : Nat) (x : Syn) (f : Fld) : (s.setSyn n x).flag f = s.flag f := rfl

@[simp] theorem State.synState_setSyn (s : State) (n m : Nat) (x : Syn) : (s.setSyn n x).synState m = s.synState m := rfl

/-- EN lies in another register than STATE. -/
theorem State.synState_setEn (s : State) (n : Nat) (b : Bool) : (s.setFlag (F.SYN_CTRL_EN n) b).synState n = s.synState n :=
  State.fld_setFld_other _ _ (by simp) (Or.inl (by simp))

/-! ### The words written to SYN_CTRL (R268, R269) -/

section
variable {s : State} {n : Nat}

/-- START and EN: a channel that is enabled is armed from IDLE, DONE and FAULT. -/
theorem synCtrlRule_start (hen : s.flag (F.SYN_CTRL_EN n) = true) : synCtrlRule n 3 s = {
    stateOk := s.synState n == syIdle || s.synState n == syDone || s.synState n == syFault
    eff := fun t => (t.setFlag (F.SYN_CTRL_EN n) true).synArm n } := by
  simp only [synCtrlRule, hen]
  rfl

/-- START without EN arms nothing. -/
theorem synCtrlRule_startOff (s : State) (n : Nat) : (synCtrlRule n 2 s).stateOk = false := rfl

/-- STOP and EN: a running channel that is enabled is asked to stop. -/
theorem synCtrlRule_stop (hen : s.flag (F.SYN_CTRL_EN n) = true) : synCtrlRule n 5 s = {
    eff := fun t =>
      let t := t.setFlag (F.SYN_CTRL_EN n) true
      if t.synState n == syRun then t.setSyn n { t.syn n with stop := true } else t } := by
  simp only [synCtrlRule, hen]
  rfl

/-- EN cleared: an enabled channel is halted. -/
theorem synCtrlRule_clear (s : State) (n : Nat) : synCtrlRule n 0 s = {
    eff := fun t =>
      let t := t.setFlag (F.SYN_CTRL_EN n) false
      if s.flag (F.SYN_CTRL_EN n) then (t.synHalt n syOff).deriveMode else t } := by
  cases hen : s.flag (F.SYN_CTRL_EN n) <;> simp [synCtrlRule, hen]

end

section
variable {s : State} {a : Agent} {n : Fin 16} (h : s.admits a .syn (P.SYN n) = true)
include h

theorem synStart_arms (hen : s.flag (F.SYN_CTRL_EN n) = true)
    (hs : s.synState n = syIdle ∨ s.synState n = syDone ∨ s.synState n = syFault) :
    exec (.synStart a n) s = .next ((s.setFlag (F.SYN_CTRL_EN n) true).synArm n) := by
  have hok : (s.synState n == syIdle || s.synState n == syDone || s.synState n == syFault) = true := by
    simpa [or_assoc] using hs
  rw [exec_synStart, execSynStart, hen, if_pos rfl, synCtrlRule_start hen, State.writeBy_ok _ _ h rfl rfl hok rfl rfl]

/-- A channel that runs, or is armed, is not started again. -/
theorem synStart_busy (hen : s.flag (F.SYN_CTRL_EN n) = true) (hs : s.synState n = syRun ∨ s.synState n = syArmed) :
    exec (.synStart a n) s = .next (s.reject (P.SYN n) (R.SYN_CTRL n) .state) := by
  have hok : (s.synState n == syIdle || s.synState n == syDone || s.synState n == syFault) = false := by
    rcases hs with hs | hs <;> rw [hs] <;> decide
  rw [exec_synStart, execSynStart, hen, if_pos rfl, synCtrlRule_start hen,
    State.writeBy_refused _ _ .state h (by rw [hok]; rfl)]

theorem synStart_off (hen : s.flag (F.SYN_CTRL_EN n) = false) :
    exec (.synStart a n) s = .next (s.reject (P.SYN n) (R.SYN_CTRL n) .state) := by
  rw [exec_synStart, execSynStart, hen, if_neg (by decide),
    State.writeBy_refused _ _ .state h (by rw [synCtrlRule_startOff]; rfl)]
  rfl

/-- STOP asks a channel in RUN to stop at its next boundary, and no other channel. -/
theorem synStop_eq (hen : s.flag (F.SYN_CTRL_EN n) = true) {t : State} (ht : t = s.setFlag (F.SYN_CTRL_EN n) true) :
    exec (.synStop a n) s = .next (if s.synState n = syRun then t.setSyn n { t.syn n with stop := true } else t) := by
  rw [exec_synStop, execSynStop, hen, if_pos rfl, synCtrlRule_stop hen, State.writeBy_ok _ _ h rfl rfl rfl rfl rfl]
  simp only [ht, State.synState_setEn, beq_iff_eq]

theorem synEnClear_eq {t : State} (ht : t = s.setFlag (F.SYN_CTRL_EN n) false) : exec (.synEnClear a n) s =
    .next (if s.flag (F.SYN_CTRL_EN n) then (t.synHalt n syOff).deriveMode else t) := by
  rw [exec_synEnClear, execSynEnClear, synCtrlRule_clear, State.writeBy_ok _ _ h rfl rfl rfl rfl rfl, ht]

end

/-! ### Jump requests (R265) -/

/-- The word of SYN_JUMP with a target and a mode. -/
theorem synJumpWord_fields (x : Byte) (e : Bool) {w : Word} (hw : w = BitVec.ofNat 32 (x.toNat + if e then 65536 else 0)) :
    w.toNat % 256 = x.toNat ∧ w.getLsbD 16 = e ∧ bitsOf w.toNat 17 16 < 2 := by
  have hx : x.toNat < 256 := x.isLt
  have hnat : w.toNat = x.toNat + if e then 65536 else 0 := by
    rw [hw, BitVec.toNat_ofNat, Nat.mod_eq_of_lt]
    split <;> omega
  simp only [← BitVec.testBit_toNat, Nat.testBit_eq_decide_div_mod_eq, bitsOf, Nat.shiftRight_eq_div_pow, hnat]
  cases e <;> simp <;> omega

theorem synRule_jump (s : State) (n : Nat) (w : Word) : synRule n (R.SYN_JUMP n) w s = {
    rangeOk := decide (bitsOf w.toNat 17 16 < 2)
    eff := fun t => t.synRequest n (w.toNat % 256) (w.getLsbD 16) (some (t.dclk + 1)) } := by
  have ho : R.SYN_JUMP n - P.SYN n = 0x58 := by simp only [R.SYN_JUMP, P.SYN]; omega
  simp only [synRule, ho]
  rfl

/-- A write of SYN_JUMP is a request that reaches the channel at the next DCLK. -/
theorem synJump_requests {s : State} {a : Agent} {n : Fin 16} (h : s.admits a .syn (P.SYN n) = true) (x : Byte) (e : Bool) :
    exec (.synJump a n x e) s = .next (s.synRequest n x.toNat e (some (s.dclk + 1))) := by
  obtain ⟨htarget, hmode, hrange⟩ := synJumpWord_fields x e rfl
  rw [exec_synJump, execSynJump, synRule_jump, State.writeBy_ok _ _ h rfl rfl rfl rfl (decide_eq_true hrange), htarget, hmode]

/-- The request that SYN_JUMP_STAT shows as pending. -/
def State.synPend (s : State) (n target : Nat) (atEnd : Bool) : State :=
  ((s.setFlag (F.SYN_JUMP_STAT_PENDING n) true).setFlag (F.SYN_JUMP_STAT_PEND_MODE n) atEnd).setFld
    (F.SYN_JUMP_STAT_PEND_TARGET n) target

section
variable {s : State} {n : Nat} (target : Nat) (atEnd : Bool)

theorem State.synRequest_discarded (hs : s.synState n ≠ syRun) (reach : Option Nat) :
    s.synRequest n target atEnd reach = s := by
  rw [State.synRequest, if_pos (bne_iff_ne.mpr hs)]

/-- A register's request to a running channel becomes the pending one; one that it replaces is counted. -/
theorem State.synRequest_register {t : State} (hs : s.synState n = syRun) (d : Nat)
    (ht : t = (if s.flag (F.SYN_JUMP_STAT_PENDING n) then s.count (R.SYN_JUMP_REPL n) else s).synPend n target atEnd) :
    s.synRequest n target atEnd (some d) = t.setSyn n { t.syn n with jumpAt := some d } := by
  rw [State.synRequest, if_neg (by simp [hs]), if_neg (by simp), ht]
  rfl

variable (s n)

theorem State.pendTarget_synPend : (s.synPend n target atEnd).fld (F.SYN_JUMP_STAT_PEND_TARGET n) = target % 256 :=
  State.fld_setFld_self _ _ _ (by simp)

theorem State.pending_synPend : (s.synPend n target atEnd).flag (F.SYN_JUMP_STAT_PENDING n) = true := by
  have hkept : (s.synPend n target atEnd).flag (F.SYN_JUMP_STAT_PENDING n) =
      ((s.setFlag (F.SYN_JUMP_STAT_PENDING n) true).setFlag (F.SYN_JUMP_STAT_PEND_MODE n) atEnd).flag
        (F.SYN_JUMP_STAT_PENDING n) :=
    congrArg (· == 1) (State.fld_setFld_other _ _ (by simp) (Or.inr (Or.inr (by simp))))
  rw [hkept, State.flag_setFlag_other _ _ (by simp) (Or.inr (Or.inr (by simp))),
    State.flag_setFlag_self _ _ _ rfl (by simp)]

/-- A pending request is held in SYN_JUMP_STAT alone. -/
theorem State.reg_synPend_other {o : Nat} (ho : o ≠ R.SYN_JUMP_STAT n) : (s.synPend n target atEnd).reg o = s.reg o := by
  rw [State.synPend, State.reg_setFld_other _ _ ho, State.reg_setFlag_other _ _ ho, State.reg_setFlag_other _ _ ho]

end

/-! ### Sample boundaries and edges (R257, R258, R271) -/

theorem State.synForms_eq_false {s : State} {n : Nat} (hrun : s.synState n ≠ syRun) (hstop : s.synState n ≠ syStopping) :
    (s.synState n == syRun || s.synState n == syStopping) = false := by simp [hrun, hstop]

theorem State.synForms_eq_true {s : State} {n : Nat} (hs : s.synState n = syRun ∨ s.synState n = syStopping) :
    (s.synState n == syRun || s.synState n == syStopping) = true := by simpa using hs

theorem State.synCross_rests {s : State} {n : Nat} (hrun : s.synState n ≠ syRun) (hstop : s.synState n ≠ syStopping) :
    s.synCross n = s := by
  rw [State.synCross, if_pos (by rw [State.synForms_eq_false hrun hstop]; simp)]

/-- A channel that neither runs nor stops has no edge left to place. -/
theorem State.synFlush_rests {s : State} {n : Nat} (hrun : s.synState n ≠ syRun) (hstop : s.synState n ≠ syStopping) :
    s.synFlush n = s :=
  List.foldl_fixed' (f := fun t _ => State.synCross t n) (fun _ => State.synCross_rests hrun hstop) _

/-- No edge is placed while no change of θ[47] is left before the next boundary. -/
theorem State.synCross_none {s : State} {n : Nat} (hc : s.synCrossings n ≤ (s.syn n).crossed) : s.synCross n = s := by
  rw [State.synCross, if_pos (by simp [hc])]

/-- A running channel places the edge of the next change of θ[47]: a rising one where θ wraps. -/
theorem State.synCross_places {s t : State} {n b : Nat} (hs : s.synState n = syRun)
    (hc : (s.syn n).crossed < s.synCrossings n) (hb : b = s.synTheta n / 2 ^ 47 + 1 + (s.syn n).crossed)
    (ht : t = s.setSyn n { s.syn n with crossed := (s.syn n).crossed + 1 }) :
    s.synCross n = t.synEdge n ((s.syn n).time + (2 * 500 * (b * 2 ^ 47 - s.synTheta n) + (s.syn n).ftw) / (2 * (s.syn n).ftw))
      (b % 2 == 0) := by
  have hwaits : ¬ (!(s.synState n == syRun || s.synState n == syStopping) || decide (s.synCrossings n ≤ (s.syn n).crossed)) =
      true := by simp [hs, hc]
  rw [State.synCross, if_neg hwaits, if_pos (by rw [State.synState_setSyn, hs]; rfl), ht, hb]

section
variable {s : State} {n : Fin 16} (k : EccCheck)

theorem synSampleBoundary_rests (hrun : s.synState n ≠ syRun) (hstop : s.synState n ≠ syStopping) :
    exec (.synSampleBoundary n k) s = .next s := by
  simp only [exec_synSampleBoundary, execSynSampleBoundary, State.synFlush_rests hrun hstop,
    State.synForms_eq_false hrun hstop, Bool.not_false, if_true]

/-- A boundary: SDIV TCLK of the frequency word in force have gone into the accumulator. -/
theorem synSampleBoundary_forms {t u : State} {acc : Nat} (ht : t = s.synFlush n)
    (hs : t.synState n = syRun ∨ t.synState n = syStopping) (hacc : acc = (t.syn n).acc + t.synSdiv n * (t.syn n).ftw)
    (hu : u = (t.setSyn n { t.syn n with
        acc := acc % 2 ^ 48, wraps := (t.syn n).wraps + acc / 2 ^ 48, time := (t.syn n).time + 500 * t.synSdiv n
        crossed := 0 }).setReg64 (R.SYN_ACC_LO n) (R.SYN_ACC_HI n) (BitVec.ofNat 64 (acc % 2 ^ 48))) :
    exec (.synSampleBoundary n k) s = .next (u.synBoundary n k) := by
  simp only [exec_synSampleBoundary, execSynSampleBoundary, ← ht, State.synForms_eq_true hs, Bool.not_true, Bool.false_eq_true,
    if_false, hu, hacc]

/-! ### Starts (R268) -/

theorem synStartInstant_rests (hs : s.synState n ≠ syArmed ∨ s.synStartAt n = none) :
    exec (.synStartInstant n k) s = .next s := by
  rw [exec_synStartInstant, execSynStartInstant]
  by_cases harmed : s.synState n = syArmed
  · rw [if_neg (by simp [harmed]), hs.resolve_left (not_not_intro harmed)]
  · rw [if_pos (bne_iff_ne.mpr harmed)]

/-- The state of a channel at its start instant, its commit taken: it runs and has entered no segment yet. -/
def State.synStarted (s : State) (n time : Nat) : State :=
  let b := ((s.setSyn n { Syn.init with time := time }).setReg64 (R.SYN_ACC_LO n) (R.SYN_ACC_HI n) 0).setReg64
    (R.SYN_SAMPLES_LO n) (R.SYN_SAMPLES_HI n) 0
  (((b.synCommit n).setSynState n syRun).setFlag (F.SYN_JUMP_STAT_PENDING n) false).event (P.SYN n) E.SYN_STARTED

/-- A start enters FIRST_SEG and forms the first sample, unless that entry stops the channel. -/
theorem synStartInstant_starts {d e : State} {z : Nat} (hs : s.synState n = syArmed) (hz : s.synStartAt n = some z)
    (hd : d = s.synStarted n z) (he : e = State.enterChain 256 d n (d.fld (F.SYN_CFG_FIRST_SEG n))) :
    exec (.synStartInstant n k) s = .next (if e.synState n = syRun then e.synSample n k true else e) := by
  rw [exec_synStartInstant, execSynStartInstant, if_neg (by simp [hs]), hz]
  simp only [State.synStarted] at hd
  simp only [← hd, ← he, bne_iff_ne, ite_not]

end

/-- Settles O50: START, STOP and EN are writes of SYN_CTRL that its rule decides, a jump is a write of SYN_JUMP that hands its request
over; boundaries, edges and the start instant follow the state behind the channel. That STOP acts in RUN only, and that a jump outside
RUN is discarded when it is written, is the model's choice (assumption 70). -/
theorem synthesisChannels : Obligations.SynthesisChannels := by
  unfold Obligations.SynthesisChannels
  refine ⟨?_, fun s a n h hen => ⟨synStart_off h hen, ?_⟩, ?_,
    fun s n k hrun hstop => ⟨synSampleBoundary_rests k hrun hstop, ?_⟩,
    fun s t u n k acc ht hs hacc hu => synSampleBoundary_forms k ht hs hacc hu, fun s n _ hc => ?_,
    fun s t n b hs hc hb ht => ?_, fun s n k => synStartInstant_rests k, ?_⟩
  · rintro s t a n h ht hen
    refine ⟨fun hs => ?_, synStart_busy h hen, fun hs => ?_, fun hs => ?_, ?_⟩
    · rw [synStart_arms h hen hs, ht]
    · rw [synStop_eq h hen ht, if_pos hs]
    · rw [synStop_eq h hen ht, if_neg hs]
    · rw [synEnClear_eq h rfl, if_pos hen]
  · rw [synEnClear_eq h rfl, if_neg (by simp [hen])]
  · rintro s t a n x e h ht
    refine ⟨fun hs => ?_, fun hs hp => ?_, fun hs hp => ?_⟩
    · rw [synJump_requests h, State.synRequest_discarded _ _ hs]
    · have hpend : t = (if s.flag (F.SYN_JUMP_STAT_PENDING n) then s.count (R.SYN_JUMP_REPL n) else s).synPend n x.toNat e := by
        rw [hp, if_neg (by decide), ht, State.synPend]
      rw [synJump_requests h, State.synRequest_register _ _ hs _ hpend]
    · refine ⟨_, (synJump_requests h x e).trans (congrArg done (State.synRequest_register _ _ hs _ rfl)), ?_, ?_, ?_⟩
      · rw [State.fld_setSyn, State.pendTarget_synPend, Nat.mod_eq_of_lt x.isLt]
      · rw [State.flag_setSyn, State.pending_synPend]
      · rw [State.reg_setSyn, State.reg_synPend_other _ _ _ _ (by simp), if_pos hp]
  · rw [exec_synDrvEdge, execSynDrvEdge, State.synCross_rests hrun hstop]
  · rw [exec_synDrvEdge, execSynDrvEdge, State.synCross_none hc]
  · rw [exec_synDrvEdge, execSynDrvEdge, State.synCross_places hs hc hb ht]
  · rintro s b d e n k z hs hz rfl hd he
    have hstart := synStartInstant_starts k hs hz hd he
    exact ⟨fun hrun => by rw [hstart, if_pos hrun], fun hend => by rw [hstart, if_neg hend]⟩

end Sys2Proof.Machine
end

section
/-! PROOFS. Registers past the common header; when the sizes of the trace streams and the address of Solder's graph are writable
(R311, R312). -/

namespace Sys2Proof.Machine

open Sys2Proof

/-! ### Writes past the common header -/

theorem registerRule_page {p off : Nat} (ho : p + 0x40 ≤ off) (a : Agent) (k : PageKind) (n : Nat) (v : Word) (s : State) :
    registerRule a k n p off v s = pageRule a k n p off v s := by
  rw [registerRule, if_neg (by simp only [R.xx_CTRL]; omega), if_neg (by simp only [R.xx_FLT_INJ]; omega), if_neg (by omega)]

/-- The page of ordinal `i` is at `p`, of kind `k`, and has a register at offset `o`, past the common header. -/
abbrev PageRegister (i p : Nat) (k : PageKind) (o : Nat) : Prop :=
  pageOfOrdinal i = some p ∧ pageKind? p = some k ∧ 0x40 ≤ o ∧ o < 0x1000 ∧ o % 4 = 0 ∧ (findRow k o).isSome = true ∧
    p + o < 2 ^ 26

/-- A whole write of a register past the common header is a checked write under the rule of its page. -/
theorem registerWrite_page {i p o : Nat} {k : PageKind} (h : PageRegister i p k o) (s : State) (a : Agent) (v : Word) :
    exec (.registerWrite a (BitVec.ofNat 26 (p + o)) 0xF v) s =
      .next (s.writeBy a k p (p + o) (pageRule a k (pageNo p) p (p + o) v s)) := by
  obtain ⟨hp, hk, hpast, hwithin, h4, hr, hnarrow⟩ := h
  obtain ⟨row, -, hkind, -, hbase, hat⟩ := page_spec hp hk
  have hrow : (findRow row.kind (o / 4 * 4)).isSome = true := by
    rw [hkind, Nat.div_mul_cancel (Nat.dvd_of_mod_eq_zero h4), hr]
  have haligned := page_aligned hp
  have hwrite := State.writeReg_page (s := s) (a := a) v (hat o hwithin) hrow (by omega)
  rw [hkind, ← hbase, registerRule_page (Nat.add_le_add_left hpast p)] at hwrite
  rw [exec_registerWrite, execRegisterWrite, BitVec.toNat_ofNat, Nat.mod_eq_of_lt hnarrow, ← hwrite]
  rfl

/-! ### TRACE_S_FRAMES and TRACE_P_FRAMES (R312) -/

/-- The rule of the size register of a stream: `off` is the register and `en` the stream's enable. -/
def traceSizeRule (off : Nat) (en : Fld) (v : Word) (s : State) : WRule where
  stateOk := !s.flag en
  rangeOk := bitsOf v.toNat 15 0 != 0
  eff s := s.setReg off (v &&& 0xFFFF)

theorem traceSize_registers : PageRegister 77 P.TRACE .trace 0x48 ∧ PageRegister 77 P.TRACE .trace 0x68 := by
  decide

theorem traceSizeWrite_eq {off : Nat} {en : Fld} (pat : Bool) (hoff : off = if pat then R.TRACE_P_FRAMES else R.TRACE_S_FRAMES)
    (hen : en = if pat then F.TRACE_CTRL_P_EN else F.TRACE_CTRL_S_EN) (s : State) (a : Agent) (v : Word) :
    exec (.registerWrite a (BitVec.ofNat 26 off) 0xF v) s =
      .next (s.writeBy a .trace P.TRACE off (traceSizeRule off en v s)) := by
  obtain ⟨hsched, hpattern⟩ := traceSize_registers
  cases pat
  · rw [hoff, hen]
    exact registerWrite_page hsched s a v
  · rw [hoff, hen]
    exact registerWrite_page hpattern s a v

theorem bitsOf_low (v hi : Nat) : bitsOf v hi 0 = v % 2 ^ (hi + 1) := rfl

/-- Settles O24: the size register of a stream has one rule, which checks the stream's enable before the value. -/
theorem traceSizesAreFixedWhileEnabled : Obligations.TraceSizesAreFixedWhileEnabled := by
  unfold Obligations.TraceSizesAreFixedWhileEnabled
  intro s a pat off en v h hoff hen
  rw [traceSizeWrite_eq pat hoff hen]
  refine ⟨fun hs hv => ?_, fun hs => ?_, fun hs hv => ?_⟩
  · rw [State.writeBy_ok _ _ h rfl rfl (by simp [traceSizeRule, hs]) rfl (by simpa [traceSizeRule, bitsOf_low] using hv)]
    rfl
  · rw [State.writeBy_refused _ _ .state h (by simp [traceSizeRule, hs, firstReason])]
    rfl
  · rw [State.writeBy_refused _ _ .range h (by simp [traceSizeRule, hs, firstReason, bitsOf_low, hv])]
    rfl

/-! ### RED_GRAPH (R311) -/

/-- Sparse data that does not read as its default at a key lists it. -/
theorem mem_of_sget_ne {α : Type} {d : α} {l : List (Nat × α)} {i : Nat} (h : sget d l i ≠ d) : (i, sget d l i) ∈ l := by
  induction l with
  | nil => exact absurd rfl h
  | cons e t ih =>
    obtain ⟨k, v⟩ := e
    simp only [sget] at h ⊢
    split
    · next hk => simp [hk]
    · next hk => exact List.mem_cons_of_mem _ (ih (by simpa [hk] using h))

/-- Every node is IDLE. -/
def State.nodesIdle (s : State) : Bool := s.sched.tasks.all (fun x => decide (x.1 < 1024) || x.2.st == .idle)

theorem State.nodesIdle_eq_true {s : State} (h : ∀ x ∈ s.sched.tasks, 1024 ≤ x.1 → x.2.st = .idle) : s.nodesIdle = true := by
  refine List.all_eq_true.mpr fun x hx => ?_
  by_cases hn : x.1 < 1024
  · simp [hn]
  · simp [h x hx (by omega)]

theorem State.nodesIdle_eq_false {s : State} {n : Nat} (h : (s.task (1024 + n)).st ≠ .idle) : s.nodesIdle = false := by
  have hlisted : (1024 + n, s.task (1024 + n)) ∈ s.sched.tasks :=
    mem_of_sget_ne fun heq => h (by rw [State.task, heq]; rfl)
  refine List.all_eq_false.mpr ⟨_, hlisted, ?_⟩
  simp [h]

/-- The rule of a half of RED_GRAPH, with the bits that it keeps. -/
def redGraphRule (off : Nat) (mask v : Word) (s : State) : WRule where
  stateOk := s.nodesIdle
  eff s := s.setReg off (v &&& mask)

theorem redGraph_registers : PageRegister 78 P.RED .red 0x40 ∧ PageRegister 78 P.RED .red 0x44 := by
  decide

theorem redGraphLoWrite_eq (s : State) (a : Agent) (v : Word) :
    exec (.registerWrite a (BitVec.ofNat 26 R.RED_GRAPH_LO) 0xF v) s =
      .next (s.writeBy a .red P.RED R.RED_GRAPH_LO (redGraphRule R.RED_GRAPH_LO 0xFFFF0000 v s)) :=
  registerWrite_page redGraph_registers.1 s a v

theorem redGraphHiWrite_eq (s : State) (a : Agent) (v : Word) :
    exec (.registerWrite a (BitVec.ofNat 26 R.RED_GRAPH_HI) 0xF v) s =
      .next (s.writeBy a .red P.RED R.RED_GRAPH_HI (redGraphRule R.RED_GRAPH_HI 0xFF v s)) :=
  registerWrite_page redGraph_registers.2 s a v

section
variable {s : State} {a : Agent} (h : s.admits a .red P.RED = true) (off : Nat) (mask v : Word)
include h

theorem State.redGraphWrite_taken (hs : s.nodesIdle = true) :
    s.writeBy a .red P.RED off (redGraphRule off mask v s) = s.setReg off (v &&& mask) :=
  State.writeBy_ok _ _ h rfl rfl hs rfl rfl

theorem State.redGraphWrite_refused (hs : s.nodesIdle = false) :
    s.writeBy a .red P.RED off (redGraphRule off mask v s) = s.reject P.RED off .state :=
  State.writeBy_refused _ _ .state h (by rw [redGraphRule, hs]; rfl)

end

/-- Settles O25: both halves of RED_GRAPH have one rule, which asks that every node that the task list holds is IDLE. -/
theorem graphAddressIsFixedWhileNodesLive : Obligations.GraphAddressIsFixedWhileNodesLive := by
  unfold Obligations.GraphAddressIsFixedWhileNodesLive
  refine ⟨fun s a v h hidle => ?_, fun s a v n h hlive => ?_⟩
  · have hs := State.nodesIdle_eq_true hidle
    rw [redGraphLoWrite_eq, redGraphHiWrite_eq, State.redGraphWrite_taken h _ _ _ hs, State.redGraphWrite_taken h _ _ _ hs]
    exact ⟨rfl, rfl⟩
  · have hs := State.nodesIdle_eq_false hlive
    rw [redGraphLoWrite_eq, redGraphHiWrite_eq, State.redGraphWrite_refused h _ _ _ hs, State.redGraphWrite_refused h _ _ _ hs]
    exact ⟨rfl, rfl⟩

end Sys2Proof.Machine
end

section
/-! PROOFS. Commands of SCHED_CMD and the end of a wait (11, R286 to R294, R310). -/

namespace Sys2Proof.Machine

open Sys2Proof

/-! ### The word of SCHED_CMD (R310) -/

/-- The word that a command writes to SCHED_CMD. -/
def schedWord (op : Nat) (k : TaskKind) (id f : Nat) : Word :=
  BitVec.ofNat 32 (op * 2 ^ 28 + (if k = .node then 2 ^ 27 else 0) + id * 65536 + f)

section
variable {op id f : Nat} (k : TaskKind) (hop : op ≤ 4) (hid : id < 1024) (hf : f < 32)
include hop hid hf

theorem schedWord_toNat : (schedWord op k id f).toNat = op * 2 ^ 28 + (if k = .node then 2 ^ 27 else 0) + id * 65536 + f := by
  rw [schedWord, BitVec.toNat_ofNat]
  split <;> omega

theorem schedWord_fields : bitsOf (schedWord op k id f).toNat 31 28 = op ∧
    (schedWord op k id f).getLsbD 27 = decide (k = .node) ∧ bitsOf (schedWord op k id f).toNat 25 16 = id ∧
    bitsOf (schedWord op k id f).toNat 4 0 = f := by
  rw [← BitVec.testBit_toNat, schedWord_toNat k hop hid hf, Nat.testBit_eq_decide_div_mod_eq]
  simp only [bitsOf, Nat.shiftRight_eq_div_pow]
  cases k
  · simp only [reduceCtorEq, if_false, decide_false, decide_eq_false_iff_not]
    omega
  · simp only [if_true, decide_true, decide_eq_true_eq]
    omega

end

/-- The rule of a command word that names a task of the part. -/
def schedTaskRule (op : Nat) (k : TaskKind) (id f : Nat) (race : Option Nat) (s : State) : WRule where
  stateOk :=
    if op = 1 then (s.task (taskKey k id)).st == .idle &&
      (if k = .node then decide (s.redGraph + 65536 ≤ s.installed) else s.fld F.SCHED_ARG_CFG_AFFINITY != 0)
    else if op = 2 then (s.task (taskKey k id)).st != .running
    else true
  eff s :=
    if op = 1 then s.arm (taskKey k id)
    else if op = 2 then s.cancel (taskKey k id) race
    else if op = 3 then s.setTaskFlag 4 (taskKey k id) f
    else (s.setTask (taskKey k id) { s.task (taskKey k id) with
      f := (s.task (taskKey k id)).f &&& ~~~BitVec.ofNat 32 (2 ^ f) }).settle

section
variable (k : TaskKind) (id f : Nat) (race : Option Nat) (s : State)

theorem schedTaskRule_arm : (schedTaskRule 1 k id f race s).eff s = s.arm (taskKey k id) := by
  simp only [schedTaskRule, if_true]

theorem schedTaskRule_cancel : (schedTaskRule 2 k id f race s).eff s = s.cancel (taskKey k id) race := by
  simp only [schedTaskRule, OfNat.ofNat_ne_one, if_false, if_true]

theorem schedTaskRule_setflag : (schedTaskRule 3 k id f race s).eff s = s.setTaskFlag 4 (taskKey k id) f := by
  simp only [schedTaskRule, OfNat.ofNat_ne_one, Nat.reduceEqDiff, if_false, if_true]

theorem schedTaskRule_clrflag : (schedTaskRule 4 k id f race s).eff s = (s.setTask (taskKey k id) { s.task (taskKey k id) with
    f := (s.task (taskKey k id)).f &&& ~~~BitVec.ofNat 32 (2 ^ f) }).settle := by
  simp only [schedTaskRule, OfNat.ofNat_ne_one, Nat.reduceEqDiff, if_false]

end

section
variable {op id f : Nat} {k : TaskKind} (h4 : op ≤ 4) (hid : id < 1024) (hf : f < 32) (race : Option Nat) (s : State)
include h4 hid hf

theorem schedCmdRule_task (h1 : 1 ≤ op) (hk : k = .node ∨ id ≤ 255) : schedCmdRule (schedWord op k id f) race s =
    schedTaskRule op k id f race s := by
  obtain ⟨hop, hnode, hnum, hflag⟩ := schedWord_fields k h4 hid hf
  have hkey : cmdTask (schedWord op k id f) = taskKey k id := by
    rw [cmdTask, hnode, hnum]
    cases k
    · exact Nat.zero_add id
    · rfl
  have hknown : (decide (1 ≤ op) && decide (op ≤ 4) && (decide (k = .node) || decide (id ≤ 255))) = true := by
    simp [h1, h4, hk]
  simp only [schedCmdRule, hop, hnode, hnum, hflag, hkey, hknown, schedTaskRule, Bool.not_true, Bool.false_or, decide_eq_true_eq]

/-- A thread number above 255 is out of range, in whatever state its task is. -/
theorem schedCmdRule_noThread (hbig : 255 < id) : (schedCmdRule (schedWord op .thread id f) race s).stateOk = true ∧
    (schedCmdRule (schedWord op .thread id f) race s).rangeOk = false := by
  obtain ⟨hop, hnode, hnum, -⟩ := schedWord_fields .thread h4 hid hf
  have hknown : (decide (1 ≤ op) && decide (op ≤ 4) && (decide (TaskKind.thread = .node) || decide (id ≤ 255))) = false := by
    simp [hbig]
  simp only [schedCmdRule, hop, hnode, hnum, hknown, Bool.not_false, Bool.true_or, and_self]

end

/-! ### Commands that are taken, refused, out of range -/

section
variable {s : State} {a : Agent} (h : s.admits a .sched P.SCHED = true) {op id f : Nat} {k : TaskKind} (h4 : op ≤ 4)
  (hid : id < 1024) (hf : f < 32) {race : Option Nat}
include h h4 hid hf

theorem State.schedCmd_taken (h1 : 1 ≤ op) (hk : k = .node ∨ id ≤ 255)
    (hs : (schedTaskRule op k id f race s).stateOk = true) :
    s.schedCmd a op k id f race = (schedTaskRule op k id f race s).eff s := by
  rw [State.schedCmd, ← schedWord, schedCmdRule_task h4 hid hf race s h1 hk, State.writeBy_ok _ _ h rfl rfl hs rfl rfl]

theorem State.schedCmd_refused (h1 : 1 ≤ op) (hk : k = .node ∨ id ≤ 255)
    (hs : (schedTaskRule op k id f race s).stateOk = false) :
    s.schedCmd a op k id f race = s.reject P.SCHED R.SCHED_CMD .state := by
  rw [State.schedCmd, ← schedWord, schedCmdRule_task h4 hid hf race s h1 hk,
    State.writeBy_refused _ _ .state h (by rw [hs]; rfl)]
  rfl

theorem State.schedCmd_noThread (hbig : 255 < id) :
    s.schedCmd a op .thread id f race = s.reject P.SCHED R.SCHED_CMD .range := by
  obtain ⟨hs, hr⟩ := schedCmdRule_noThread h4 hid hf race s hbig
  rw [State.schedCmd, ← schedWord, State.writeBy_refused _ _ .range h (by rw [hs, hr]; rfl)]
  rfl

end

section
variable {s : State} {a : Agent} (h : s.admits a .sched P.SCHED = true) {k : TaskKind} {id : Fin 1024}
  (hk : k = .node ∨ id.val ≤ 255)
include h hk

theorem schedArm_taken (hs : (schedTaskRule 1 k id 0 none s).stateOk = true) :
    exec (.schedArm a k id) s = .next (s.arm (taskKey k id)) := by
  rw [exec_schedArm, execSchedArm, State.schedCmd_taken h (by decide) id.isLt (by decide) (by decide) hk hs, schedTaskRule_arm]

theorem schedArm_refused (hs : (s.task (taskKey k id)).st ≠ .idle) :
    exec (.schedArm a k id) s = .next (s.reject P.SCHED R.SCHED_CMD .state) := by
  have hok : (schedTaskRule 1 k id 0 none s).stateOk = false := by simp [schedTaskRule, hs]
  rw [exec_schedArm, execSchedArm, State.schedCmd_refused h (by decide) id.isLt (by decide) (by decide) hk hok]

theorem schedCancel_refused {race : Option (Fin 32)} (hs : (s.task (taskKey k id)).st = .running) :
    exec (.schedCancel a k id race) s = .next (s.reject P.SCHED R.SCHED_CMD .state) := by
  have hok : (schedTaskRule 2 k id 0 (race.map Fin.val) s).stateOk = false := by simp [schedTaskRule, hs]
  rw [exec_schedCancel, execSchedCancel, State.schedCmd_refused h (by decide) id.isLt (by decide) (by decide) hk hok]

theorem schedCancel_taken {race : Option (Fin 32)} (hs : (s.task (taskKey k id)).st ≠ .running) :
    exec (.schedCancel a k id race) s = .next (s.cancel (taskKey k id) (race.map Fin.val)) := by
  have hok : (schedTaskRule 2 k id 0 (race.map Fin.val) s).stateOk = true := by simp [schedTaskRule, hs]
  rw [exec_schedCancel, execSchedCancel, State.schedCmd_taken h (by decide) id.isLt (by decide) (by decide) hk hok,
    schedTaskRule_cancel]

theorem schedSetflag_taken (f : Fin 32) : exec (.schedSetflag a k id f) s = .next (s.setTaskFlag 4 (taskKey k id) f) := by
  rw [exec_schedSetflag, execSchedSetflag, State.schedCmd_taken h (by decide) id.isLt f.isLt (by decide) hk rfl,
    schedTaskRule_setflag]

theorem schedClrflag_taken (f : Fin 32) : exec (.schedClrflag a k id f) s = .next ((s.setTask (taskKey k id) {
    s.task (taskKey k id) with f := (s.task (taskKey k id)).f &&& ~~~BitVec.ofNat 32 (2 ^ f.val) }).settle) := by
  rw [exec_schedClrflag, execSchedClrflag, State.schedCmd_taken h (by decide) id.isLt f.isLt (by decide) hk rfl,
    schedTaskRule_clrflag]

end

/-! ### A cancelled task (R289) -/

@[simp] theorem State.task_setTask_self (s : State) (k : Nat) (t : Task) : (s.setTask k t).task k = t := sget_sset_self _ _ k t

theorem State.sched_raiseTo (s : State) (o v : Nat) : (s.raiseTo o v).sched = s.sched := by
  unfold State.raiseTo
  split <;> rfl

/-- PREEMPT_EN lies in a register that no report writes. -/
theorem State.ReportsOnly.preemptEn {s t : State} (h : s.ReportsOnly t) :
    t.flag F.SCHED_CFG_PREEMPT_EN = s.flag F.SCHED_CFG_PREEMPT_EN := State.flag_eq_of_reg (h.reg _ (by decide))

/-- With preemption off the scheduler only withdraws requests, and the tasks stay as they are. -/
theorem State.sched_preempt_off {s : State} (hoff : s.flag F.SCHED_CFG_PREEMPT_EN = false) (n : Nat) :
    (s.preempt (n + 1)).sched = s.sched := by
  unfold State.preempt
  extract_lets t
  have hstep : s.ReportsOnly t := ReportsOnly.foldl _ (fun u g hg => ReportsOnly.ite (ReportsOnly.setFlag u
    (f := F.HART_SCHED_CUR_PREEMPT_REQ g) false (ReportsOnly.reportReg_schedCur (List.mem_range.mp hg))) (ReportsOnly.refl u)) s
  have hsched : t.sched = s.sched := List.foldlRecOn (motive := fun u : State => u.sched = s.sched) _ _ rfl fun u hu g _ => by
    split
    · rw [State.setFlag_sched, hu]
    · exact hu
  rw [hstep.preemptEn, hoff, if_pos (by decide), hsched]

theorem State.sched_settle_off {s : State} (hoff : s.flag F.SCHED_CFG_PREEMPT_EN = false) : s.settle.sched = s.sched := by
  unfold State.settle
  extract_lets t
  refine List.foldlRecOn (motive := fun u : State => u.sched = s.sched) _ _ (State.sched_preempt_off hoff 8) fun u hu g _ => ?_
  rw [State.sched_raiseTo, hu]

/-- A checked task's state read leaves PREEMPT_EN, whatever the check finds. -/
theorem State.preemptEn_checkTask (s : State) (k : Nat) :
    (s.checkTask k).flag F.SCHED_CFG_PREEMPT_EN = s.flag F.SCHED_CFG_PREEMPT_EN := by
  cases hb : s.bit (R.xx_FLT_INJ P.SCHED) X.SCHED_STATE_ECC
  · rw [State.checkTask, State.takeInj_clear hb]
  · have htake : s.takeInj P.SCHED X.SCHED_STATE_ECC = (true, s.setBit (R.xx_FLT_INJ P.SCHED) X.SCHED_STATE_ECC false) := by
      rw [State.takeInj, if_pos hb]
    rw [State.checkTask, htake]
    dsimp only
    rw [(ReportsOnly.faultInj _ _ true (by decide)).preemptEn]
    exact State.flag_eq_of_reg (s.reg_setBit_other _ false (by decide))

/-- CANCEL without a race: after its trace record the task leaves the order of readiness, IDLE with F = 0, and the scheduler
settles. -/
theorem State.cancel_none (s : State) (k : Nat) : ∃ u, (s.checkTask k).ReportsOnly u ∧
    s.cancel k none = ((u.unready k).setTask k { (s.checkTask k).task k with f := 0, st := .idle, deadline := none, timedOut := false }).settle := by
  refine ⟨_, ReportsOnly.ite (c := (((s.checkTask k).task k).st == .idle) = true)
    (ReportsOnly.setTask _ k ((s.checkTask k).task k))
    (ReportsOnly.trans (ReportsOnly.setTask _ k ((s.checkTask k).task k)) (ReportsOnly.traceSched _ trCancel k 0 false 0)), ?_⟩
  simp only [State.cancel, Option.isSome_none, Bool.false_and, Bool.false_eq_true, if_false]

theorem State.cancel_spec (s : State) (k : Nat) (hoff : s.flag F.SCHED_CFG_PREEMPT_EN = false) :
    ((s.cancel k none).task k).f = 0 ∧ ((s.cancel k none).task k).st = .idle ∧ k ∉ (s.cancel k none).sched.ready := by
  obtain ⟨u, hu, hcancel⟩ := s.cancel_none k
  obtain ⟨t, ht⟩ : ∃ t, t = (u.unready k).setTask k
    { (s.checkTask k).task k with f := 0, st := .idle, deadline := none, timedOut := false } := ⟨_, rfl⟩
  have htoff : t.flag F.SCHED_CFG_PREEMPT_EN = false :=
    calc t.flag F.SCHED_CFG_PREEMPT_EN
      _ = u.flag F.SCHED_CFG_PREEMPT_EN := by rw [ht]; rfl
      _ = s.flag F.SCHED_CFG_PREEMPT_EN := by rw [hu.preemptEn, s.preemptEn_checkTask k]
      _ = false := hoff
  have hsched : (s.cancel k none).sched = t.sched := by rw [hcancel, ← ht, State.sched_settle_off htoff]
  have htask : (s.cancel k none).task k = t.task k := by rw [State.task, State.task, hsched]
  have hready : t.sched.ready = u.sched.ready.filter (fun x => x != k) := by rw [ht]; rfl
  rw [htask, hsched, hready, ht, State.task_setTask_self]
  exact ⟨rfl, rfl, by simp⟩

/-! ### The end of a wait (R294) -/

section
variable {s : State} {t : Fin 256}

theorem threadWaitTimeout_ends (hs : (s.task t).st = .waiting) (hd : (s.task t).deadline.isSome = true) :
    exec (.threadWaitTimeout t) s = .next ((((s.traceSched trTimeout t 0 false 0).makeReady t false true).traceSched
      trReady t 0 false 0).settle) := by
  simp only [exec_threadWaitTimeout, execThreadWaitTimeout, hs, hd, beq_self_eq_true, Bool.and_self, if_true]

theorem threadWaitTimeout_rests (hrest : (s.task t).st ≠ .waiting ∨ (s.task t).deadline = none) :
    exec (.threadWaitTimeout t) s = .next s := by
  have hends : ((s.task t).st == .waiting && (s.task t).deadline.isSome) = false := by
    rcases hrest with hs | hd
    · simp [hs]
    · simp [hd]
  simp only [exec_threadWaitTimeout, execThreadWaitTimeout, hends, Bool.false_eq_true, if_false]

end

/-- Settles O21: each command is a write of SCHED_CMD whose word names its operation and its task; the rule of that word and, for
CANCEL, the state that it leaves, decide the rest. -/
theorem schedulerCommands : Obligations.SchedulerCommands := by
  unfold Obligations.SchedulerCommands
  refine ⟨fun s a id h hid hs ha => schedArm_taken (k := .thread) h (.inr hid) ?_,
    fun s a id h hs hg => schedArm_taken (k := .node) h (.inl rfl) ?_,
    fun s a id h hid => schedArm_refused (k := .thread) h (.inr hid),
    fun s a id h hid => schedCancel_refused (k := .thread) h (.inr hid),
    fun s a id h => schedCancel_refused (k := .node) h (.inl rfl), fun s a id h hid hs hoff => ?_,
    fun s a k id f r h hk => ⟨schedSetflag_taken h hk f, schedClrflag_taken h hk f, schedCancel_taken h hk⟩,
    fun s a id f h hbig => ⟨?_, ?_⟩, fun s t hs hd => threadWaitTimeout_ends hs hd, fun s t => threadWaitTimeout_rests⟩
  · simp [schedTaskRule, taskKey, hs, ha]
  · simp [schedTaskRule, taskKey, hs, hg]
  · have htaken : exec (.schedCancel a .thread id none) s = .next (s.cancel id none) :=
      schedCancel_taken (k := .thread) (race := none) h (.inr hid) hs
    exact ⟨_, htaken, s.cancel_spec id hoff⟩
  · rw [exec_schedArm, execSchedArm, State.schedCmd_noThread h (by decide) id.isLt (by decide) hbig]
  · rw [exec_schedSetflag, execSchedSetflag, State.schedCmd_noThread h (by decide) id.isLt f.isLt hbig]

end Sys2Proof.Machine
end

section
/-! PROOFS. The enabling of a trace stream where the ring's frames are not found (11, R305; 15, R401, R402). -/

namespace Sys2Proof.Machine

open Sys2Proof

/-- `lastFramePart`, its one frame open to the rings of the trace streams. -/
def lastRingPart : State := lastFramePart.setFld (F.ALLOC_POOL_MAX_MAX poolTrace) 1

/-- `lastRingPart` takes a write of TRACE_CTRL, and its scheduling stream, disabled, finds no frame for its ring. -/
theorem lastRingPart_spec : lastRingPart.admits .mgmt .trace P.TRACE = true ∧
    lastRingPart.flag F.TRACE_CTRL_S_EN = false ∧ (lastRingPart.traceSwitch false true).flag F.TRACE_CTRL_S_EN = false := by
  decide +kernel

/-- The allocation that TRACE_ENABLE tries finds the frame's entry bad and retires the frame (R404). -/
theorem lastRingPart_retires : (lastRingPart.writeBy .mgmt .trace P.TRACE R.TRACE_CTRL
    (traceCtrlRule (lastRingPart.reg R.TRACE_CTRL ||| 1) lastRingPart)).dram.retired = [0] := by
  decide +kernel

/-- Refutes O22: the allocation that a refused TRACE_ENABLE tried may have read a bad frame entry, and then the frame stays retired
(15, ALLOC_FLT.FT_ECC), where the last clause says that nothing beside the rejection and ALLOC_EVT.REFUSED is left. In
`lastRingPart` frame 0 is lost so. -/
theorem not_hartSchedulerPorts : ¬ Obligations.HartSchedulerPorts := by
  unfold Obligations.HartSchedulerPorts
  rintro ⟨-, -, -, -, -, -, -, -, hrefused⟩
  obtain ⟨hadmits, hoff, hnone⟩ := lastRingPart_spec
  have h := hrefused lastRingPart .mgmt hadmits hoff hnone
  rw [exec_traceEnable, execTraceEnable] at h
  injection h with hstate
  have hretired : [0] = lastRingPart.dram.retired := calc
    [0] = _ := lastRingPart_retires.symm
    _ = _ := congrArg (·.dram.retired) hstate
    _ = _ := by rw [State.retired_event _ _ (by decide), State.retired_reject]
  exact absurd hretired (by decide +kernel)

end Sys2Proof.Machine
end

section
/-! PROOFS. The execution of the harts and of MGMT: traps, retirement, one instruction, the commands of a core (11, R274 to R284,
R317, R489). -/

namespace Sys2Proof.Machine

open Sys2Proof

/-! ### The state of a core (R277) -/

theorem addrOf_hart {k : Nat} (hk : k < 8) (v : BitVec 64) : addrOf k v = v := if_pos hk

theorem regOf_hart {k : Nat} (hk : k < 8) (v : BitVec 64) : regOf k v = v := if_pos hk

@[simp] theorem State.hart_countTrap (s : State) (k g : Nat) : (s.countTrap k).hart g = s.hart g := by
  unfold State.countTrap
  split <;> rfl

/-- Of the registers, a trap of a core changes the count of its page. -/
theorem State.reg_countTrap_other (s : State) {k o : Nat} (ho : o ≠ R.xx_BLK_COUNT (P.HART k)) :
    (s.countTrap k).reg o = s.reg o := by
  unfold State.countTrap
  split
  · exact s.reg_count_other ho
  · rfl

/-- A trap of a core: its new state, and the registers. -/
theorem State.trapped_spec {s t : State} {k : Nat} {x : Hart} (ht : t = (s.setHart k x).countTrap k) :
    t.hart k = x ∧ s.regsButFor t [R.xx_BLK_COUNT (P.HART k)] := by
  subst ht
  refine ⟨by rw [State.hart_countTrap, State.hart_setHart_self], fun o ho => ?_⟩
  rw [State.reg_countTrap_other _ (by simpa using ho), State.reg_setHart]

section
variable (s : State) {k : Nat} (hk : k < 8)
include hk

theorem State.hart_trap (code : Nat) (v : BitVec 64) : (s.trap k code v).hart k = { s.hart k with
    pc := (s.hart k).mtvec &&& ~~~3, machine := true, mstatus := (s.hart k).trapStatus, mepc := (s.hart k).pc
    mcause := BitVec.ofNat 64 code, mtval := v, wfi := false } := by
  rw [(State.trapped_spec (s := s) (t := s.trap k code v) rfl).1, addrOf_hart hk]

/-- An interrupt of a hart whose mtvec asks for no vectors. -/
theorem State.interrupt_spec (i : Nat) (hdirect : bitsOf (s.hart k).mtvec.toNat 1 0 = 0) :
    (s.interrupt k i).hart k = { s.hart k with
      pc := (s.hart k).mtvec &&& ~~~3, machine := true, mstatus := (s.hart k).trapStatus, mepc := (s.hart k).pc
      mcause := 0x8000000000000000 + BitVec.ofNat 64 i, mtval := 0, wfi := false } ∧
    s.regsButFor (s.interrupt k i) [R.xx_BLK_COUNT (P.HART k)] := by
  obtain ⟨hhart, hregs⟩ := State.trapped_spec (s := s) (t := s.interrupt k i) (k := k) rfl
  refine ⟨?_, hregs⟩
  rw [hhart, addrOf_hart hk, if_neg (by rw [hdirect]; decide), if_pos hk]

end

/-! ### Retirement -/

theorem State.standing_setHart (s : State) (k g : Nat) (x : Hart) : (s.setHart g x).standing k = s.standing k := rfl

theorem State.xr_setX_self (s : State) (k : Nat) {r : Nat} (v : BitVec 64) (hr : r ≠ 0) : (s.setX k r v).xr k r = regOf k v := by
  rw [State.setX, if_neg hr, State.xr, if_neg hr, State.hart_setHart_self, sget_sset_self]

theorem State.hart_retireTo {s : State} {k : Nat} (a : BitVec 64) (hs : s.standing k = true) :
    (s.retireTo k a).hart k = { s.hart k with
      pc := addrOf k a
      minstret := if (s.hart k).mcountinhibit.getLsbD 2 then (s.hart k).minstret else (s.hart k).minstret + 1 } := by
  rw [State.retireTo, if_pos hs, State.hart_setHart_self]

/-- Retirement leaves the integer registers. -/
theorem State.xr_retireTo (s : State) (k r : Nat) (a : BitVec 64) : (s.retireTo k a).xr k r = s.xr k r := by
  cases hs : s.standing k
  · rw [State.retireTo, if_neg (by simp [hs])]
  · rw [State.xr, State.hart_retireTo a hs, State.xr]

/-! ### A core that is awake -/

section
variable {s : State} {k : Nat}

theorem State.whenAwake_rests (h : s.runs k = false ∨ ((s.hart k).wfi = true ∧ s.wakes k = false)) (f : State → State) :
    s.whenAwake k f = s := by
  rw [State.whenAwake, if_pos]
  rcases h with h | ⟨hw, ha⟩
  · simp [h]
  · simp [hw, ha]

theorem State.whenAwake_acts {t : State} (hr : s.runs k = true) (ha : (s.hart k).wfi = false ∨ s.wakes k = true)
    (ht : t = s.setHart k { s.hart k with wfi := false }) (f : State → State) : s.whenAwake k f = f t := by
  rw [State.whenAwake, if_neg, ht]
  rcases ha with ha | ha <;> simp [hr, ha]

end

/-! ### One instruction (R274) -/

section
variable {t u : State} {h : Fin 8} {e : HartEnv} (hv : e.victims = []) (hc : e.chk = .clean)
include hv hc

theorem State.hartStep_fetchFails (hf : t.hartFetch h e.refetch .clean = (none, u)) :
    t.hartStep h e = u.trapFree h exFetch := by
  simp only [State.hartStep, hv, hc, List.foldl_nil, ite_self, hf]

theorem State.hartStep_fetches {v : Nat} (hf : t.hartFetch h e.refetch .clean = (some v, u)) :
    t.hartStep h e = u.runWord (.hart h e) v := by
  simp only [State.hartStep, hv, hc, List.foldl_nil, ite_self, hf]

end

section
variable (s : State) (c : CoreIn) {v : Nat}

theorem State.runWord_decodes {i : Rv} (hd : decodeRv c.rv32 v = some i) : s.runWord c v = s.runRv c (rvLen v) i := by
  simp only [State.runWord, hd]

theorem State.runWord_illegal (hd : decodeRv c.rv32 v = none) : s.runWord c v = s.trapFree c.ix exIllegal := by
  simp only [State.runWord, hd]

end

section
variable (s : State) (h : Fin 8) (e : HartEnv) (len : Nat)

/-- ECALL: the cause is the mode that calls. -/
theorem State.hart_ecall : (s.runRv (.hart h e) len .ecall).hart h = { s.hart h with
    pc := (s.hart h).mtvec &&& ~~~3, machine := true, mstatus := (s.hart h).trapStatus, mepc := (s.hart h).pc
    mcause := if (s.hart h).machine then 11 else 8, mtval := 0, wfi := false } := by
  have hcause : BitVec.ofNat 64 (if (s.hart h).machine then exEcallM else exEcallU) =
      if (s.hart h).machine then 11 else 8 := by cases (s.hart h).machine <;> rfl
  calc (s.runRv (.hart h e) len .ecall).hart h
      = (s.trap h (if (s.hart h).machine then exEcallM else exEcallU) 0).hart h := rfl
    _ = _ := by rw [State.hart_trap s h.isLt, hcause]

/-- x0 discards what LUI gives it. -/
theorem State.runRv_lui_zero (imm : BitVec 64) : s.runRv (.hart h e) len (.lui 0 imm) = s.retire h len := rfl

theorem State.xr_alui (op : Alu) {rd : Nat} (r1 : Nat) (imm : BitVec 64) (hrd : rd ≠ 0) :
    (s.runRv (.hart h e) len (.alui false op rd r1 imm)).xr h rd = aluRun false op (s.xr h r1) imm := by
  calc (s.runRv (.hart h e) len (.alui false op rd r1 imm)).xr h rd
      = ((s.setX h rd (aluRun false op (s.xr h r1) imm)).retire h len).xr h rd := rfl
    _ = _ := by rw [State.retire, State.xr_retireTo, State.xr_setX_self _ _ _ hrd, regOf_hart h.isLt]

theorem State.pc_branch {f r1 r2 : Nat} {off : BitVec 64} (ht : branchTaken f (s.xr h r1) (s.xr h r2) = true)
    (hs : s.standing h = true) : ((s.runRv (.hart h e) len (.branch f r1 r2 off)).hart h).pc = (s.hart h).pc + off := by
  have hrun : s.runRv (.hart h e) len (.branch f r1 r2 off) = s.retireTo h ((s.hart h).pc + off) := if_pos ht
  rw [hrun, State.hart_retireTo _ hs, addrOf_hart h.isLt]

/-- MRET of user mode is illegal. -/
theorem State.runRv_mret_user (hm : (s.hart h).machine = false) :
    s.runRv (.hart h e) len .mret = s.trapFree h exIllegal :=
  if_neg (c := (s.hart h).machine = true) (by simp [hm])

theorem State.runRv_load_fails {u : State} {c rd r1 : Nat} {off : BitVec 64} {z : Nat} {sg : Bool}
    (hl : s.hartLoad h e.chk z (s.dataAddr h r1 off) = (.error c, u)) :
    s.runRv (.hart h e) len (.load rd r1 off z sg) = u.trapFree h c := by
  have hcore : State.coreLoad (.hart h e) z (s.dataAddr h r1 off) s = (.error c, u) := hl
  simp only [State.runRv, State.runLoad, CoreIn.ix, hcore]

end

/-! ### Window accesses, FENCE.I, cache blocks (R276, R280, R282 to R284) -/

section
variable {s t u : State} {h : Fin 8} (hr : s.runs h = true) (ha : (s.hart h).wfi = false ∨ s.wakes h = true)
  (ht : t = s.setHart h { s.hart h with wfi := false })
include hr ha ht

theorem hartInstruction_acts (e : HartEnv) : exec (.hartInstruction h e) s = .next (t.hartStep h e) := by
  rw [exec_hartInstruction, execHartInstruction, State.whenAwake_acts hr ha ht]

section
variable {z : Fin 4} {o : BitVec 26}

theorem windowLoad_answers {w : BitVec 64} (v : BitVec 64)
    (hl : t.hartLoad h .clean z (0x40000000 + o.toNat) = (.ok w, u)) :
    exec (.hartWindowAccess h false z o v) s = .next (u.answer w) := by
  rw [exec_hartWindowAccess, execHartWindowAccess, State.whenAwake_acts hr ha ht]
  simp only [hl, Bool.false_eq_true, if_false]

theorem windowLoad_traps {c : Nat} (v : BitVec 64) (hl : t.hartLoad h .clean z (0x40000000 + o.toNat) = (.error c, u)) :
    exec (.hartWindowAccess h false z o v) s = .next (u.trapFree h c) := by
  rw [exec_hartWindowAccess, execHartWindowAccess, State.whenAwake_acts hr ha ht]
  simp only [hl, Bool.false_eq_true, if_false]

theorem windowStore_stores {v : BitVec 64} (hl : t.hartStore h .clean z (0x40000000 + o.toNat) v = (none, u)) :
    exec (.hartWindowAccess h true z o v) s = .next u := by
  rw [exec_hartWindowAccess, execHartWindowAccess, State.whenAwake_acts hr ha ht]
  simp only [hl, if_true]

theorem windowStore_traps {v : BitVec 64} {c : Nat} (hl : t.hartStore h .clean z (0x40000000 + o.toNat) v = (some c, u)) :
    exec (.hartWindowAccess h true z o v) s = .next (u.trapFree h c) := by
  rw [exec_hartWindowAccess, execHartWindowAccess, State.whenAwake_acts hr ha ht]
  simp only [hl, if_true]

end

/-- FENCE.I drops the fetched lines and goes on at the next instruction. -/
theorem fenceI_drops (hs : t.standing h = true) :
    ∃ u, exec (.fenceI h) s = .next u ∧ (u.hart h).l1i = [] ∧ (u.hart h).pc = (s.hart h).pc + 4 := by
  have hpc : (t.hart h).pc = (s.hart h).pc := by rw [ht, State.hart_setHart_self]
  refine ⟨t.runFenceI h 4, by rw [exec_fenceI, execFenceI, State.whenAwake_acts hr ha ht], ?_⟩
  rw [State.runFenceI, State.retire, State.hart_retireTo _ (by rw [State.standing_setHart, hs]), State.hart_setHart_self]
  exact ⟨rfl, by rw [addrOf_hart h.isLt, ← hpc]; rfl⟩

theorem cboClean_acts (r : Fin 32) : exec (.cboClean h r) s = .next (t.runCbo h 4 .clean r) := by
  rw [exec_cboClean, execCboClean, State.whenAwake_acts hr ha ht]

theorem cboFlush_acts (r : Fin 32) : exec (.cboFlush h r) s = .next (t.runCbo h 4 .flush r) := by
  rw [exec_cboFlush, execCboFlush, State.whenAwake_acts hr ha ht]

theorem cboInval_acts (r : Fin 32) : exec (.cboInval h r) s = .next (t.runCbo h 4 .inval r) := by
  rw [exec_cboInval, execCboInval, State.whenAwake_acts hr ha ht]

end

/-- What menvcfg says of a cache-block operation of user mode (R284). -/
def Hart.cboBit (x : Hart) : Cbo → Bool
  | .inval => bitsOf x.menvcfg.toNat 5 4 != 0
  | .clean => x.menvcfg.getLsbD 6
  | .flush => x.menvcfg.getLsbD 6

section
variable {t : State} {h : Nat} {op : Cbo} (len r : Nat)

/-- A mode that may not use a cache-block operation does not come to a cache. -/
theorem State.runCbo_shut (hm : (t.hart h).machine = false) (hb : (t.hart h).cboBit op = false) :
    t.runCbo h len op r = t.trapFree h exIllegal := by
  unfold State.runCbo
  extract_lets x opened
  have hopened : opened = false := by cases op <;> exact hb
  have hmode : x.machine = false := hm
  rw [hopened, hmode, if_pos (by decide)]

/-- In a mode that may use it, a cache-block instruction traps or retires as its operation answers. -/
theorem State.runCbo_open (ho : (t.hart h).machine = true ∨ (t.hart h).cboBit op = true) : t.runCbo h len op r =
    (t.hartCbo h op (t.xr h r).toNat).1.elim ((t.hartCbo h op (t.xr h r).toNat).2.retire h len)
      ((t.hartCbo h op (t.xr h r).toNat).2.trapFree h) := by
  unfold State.runCbo
  extract_lets x opened
  have hopen : (!x.machine && !opened) = false := by
    rcases ho with hm | hb
    · have hmode : x.machine = true := hm
      rw [hmode, Bool.not_true, Bool.false_and]
    · have hopened : opened = true := by cases op <;> exact hb
      rw [hopened, Bool.not_true, Bool.and_false]
  rw [hopen, if_neg (by decide)]
  generalize t.hartCbo h op (t.xr h r).toNat = answer
  obtain ⟨_ | c, u⟩ := answer <;> rfl

variable {u : State} (ho : (t.hart h).machine = true ∨ (t.hart h).cboBit op = true)
include ho

theorem State.runCbo_retires (hc : t.hartCbo h op (t.xr h r).toNat = (none, u)) : t.runCbo h len op r = u.retire h len := by
  rw [State.runCbo_open len r ho, hc, Option.elim_none]

theorem State.runCbo_traps {c : Nat} (hc : t.hartCbo h op (t.xr h r).toNat = (some c, u)) :
    t.runCbo h len op r = u.trapFree h c := by
  rw [State.runCbo_open len r ho, hc, Option.elim_some]

end

/-! ### NMIs and interrupts (R277, R317) -/

section
variable {s : State} {h : Fin 8}

theorem hartNmi_taken (hr : s.runs h = true) (hn : (s.hart h).nmi = true) :
    exec (.hartNmi h) s = .next (s.takeNmi h (s.hartNmi h)) := by
  rw [exec_hartNmi, execHartNmi, if_pos (by rw [hr, hn]; rfl)]

theorem hartNmi_rests (hrest : s.runs h = false ∨ (s.hart h).nmi = false) : exec (.hartNmi h) s = .next s := by
  rw [exec_hartNmi, execHartNmi, if_neg]
  rcases hrest with hr | hn
  · simp [hr]
  · simp [hn]

theorem hartInterrupt_taken {i : Nat} (hr : s.runs h = true) (hi : s.nextInterrupt h = some i) :
    exec (.hartInterrupt h) s = .next (s.interrupt h i) := by
  rw [exec_hartInterrupt, execHartInterrupt, if_pos hr, hi]

theorem hartInterrupt_rests (hrest : s.runs h = false ∨ s.nextInterrupt h = none) : exec (.hartInterrupt h) s = .next s := by
  rw [exec_hartInterrupt, execHartInterrupt]
  rcases hrest with hr | hi
  · rw [hr, if_neg (by decide)]
  · rw [hi, ite_self]

end

section
variable {s : State}

theorem mgmtInterrupt_stopped (hr : s.runs 8 = false) : exec .mgmtInterrupt s = .next s := by
  rw [exec_mgmtInterrupt, execMgmtInterrupt, hr, if_pos (by decide)]

variable (hr : s.runs 8 = true) (hn : (s.hart 8).nmi = false)
include hr hn

theorem mgmtInterrupt_taken {i : Nat} (hi : s.nextInterrupt 8 = some i) :
    exec .mgmtInterrupt s = .next (s.interrupt 8 i) := by
  rw [exec_mgmtInterrupt, execMgmtInterrupt, hr, hn, if_neg (by decide), if_neg (by decide), hi]

theorem mgmtInterrupt_rests (hi : s.nextInterrupt 8 = none) : exec .mgmtInterrupt s = .next s := by
  rw [exec_mgmtInterrupt, execMgmtInterrupt, hr, hn, if_neg (by decide), if_neg (by decide), hi]

end

/-- MGMT that runs and does not wait executes what it fetches (R489). -/
theorem mgmtInstruction_acts {s t : State} (hr : s.runs 8 = true) (hw : (s.hart 8).wfi = false)
    (ht : t = s.setHart 8 { s.hart 8 with wfi := false }) (f : BitVec 64) (k : EccCheck) :
    exec (.mgmtInstruction f k) s = .next (t.mgmtStep f k) := by
  rw [exec_mgmtInstruction, execMgmtInstruction, State.whenAwake_acts hr (Or.inl hw) ht]

/-- Settles O51: every command of a core is `whenAwake` of one step, whose parts (the fetch, the decoded instruction, retirement,
the trap) have a lemma each. Encodings and CSR rules, the order of interrupts, the free mtval of an exception, a window access that
leaves pc, and the NMI as a counted trap are the model's choices (assumptions 28, 29, 30, 35 and 36). -/
theorem hartExecution : Obligations.HartExecution := by
  unfold Obligations.HartExecution
  refine ⟨?_, ?_, ?_, ?_, ?_, ?_, fun s h hr => ⟨hartNmi_rests (Or.inl hr), hartInterrupt_rests (Or.inl hr)⟩, ?_, ?_,
    fun s hr hn => ⟨mgmtInterrupt_rests hr hn, fun i => mgmtInterrupt_taken hr hn⟩⟩
  · intro s h e b z o v r hrest
    simp only [exec_hartInstruction, execHartInstruction, exec_hartWindowAccess, execHartWindowAccess, exec_fenceI, execFenceI,
      exec_cboClean, execCboClean, exec_cboFlush, execCboFlush, exec_cboInval, execCboInval, State.whenAwake_rests hrest,
      and_self]
  · intro s t u h e hr ha ht hv hc
    rw [hartInstruction_acts hr ha ht]
    refine ⟨fun hf => ?_, fun v hf => ?_⟩
    · rw [State.hartStep_fetchFails hv hc hf]
    · rw [State.hartStep_fetches hv hc hf]
      exact ⟨fun i hd => congrArg done (State.runWord_decodes _ _ hd), fun hd => congrArg done (State.runWord_illegal _ _ hd)⟩
  · rintro s h e _ rfl
    exact ⟨s.hart_ecall h e 4, s.runRv_lui_zero h e 4, fun op rd r1 imm hrd _ => s.xr_alui h e 4 op r1 imm hrd,
      fun f r1 r2 off => s.pc_branch h e 4, s.runRv_mret_user h e 4, fun c u rd r1 off z sg => s.runRv_load_fails h e 4⟩
  · intro s t h z o v hr ha ht
    exact ⟨fun u w => windowLoad_answers hr ha ht v, fun u c => windowLoad_traps hr ha ht v,
      fun u => windowStore_stores hr ha ht, fun u c => windowStore_traps hr ha ht, fenceI_drops hr ha ht⟩
  · intro s t u h r hr ha ht
    rw [cboClean_acts hr ha ht, cboFlush_acts hr ha ht, cboInval_acts hr ha ht]
    refine ⟨fun hx => ⟨fun hc => ?_, fun hc => ?_, fun c hc => ?_⟩, fun hx hc => ?_, fun hx hm => ?_⟩
    · rw [State.runCbo_retires 4 r hx hc]
    · rw [State.runCbo_retires 4 r hx hc]
    · rw [State.runCbo_traps 4 r hx hc]
    · rw [State.runCbo_retires 4 r (Or.inl hx) hc]
    · have hshut : ∀ op, (t.hart h).cboBit op = false := by rintro ⟨⟩ <;> rw [Hart.cboBit, hm] <;> rfl
      rw [State.runCbo_shut 4 r hx (hshut _), State.runCbo_shut 4 r hx (hshut _), State.runCbo_shut 4 r hx (hshut _)]
      exact ⟨rfl, rfl, rfl⟩
  · rintro s h _ rfl hr
    exact ⟨fun hn => ⟨_, hartNmi_taken hr hn, State.trapped_spec rfl⟩, fun hn => hartNmi_rests (Or.inr hn),
      fun i hi hb => ⟨_, hartInterrupt_taken hr hi, s.interrupt_spec h.isLt i hb⟩, fun hi => hartInterrupt_rests (Or.inr hi)⟩
  · intro s f k hr
    exact ⟨by rw [exec_mgmtInstruction, execMgmtInstruction, State.whenAwake_rests (Or.inl hr)], mgmtInterrupt_stopped hr⟩
  · intro s t u f k hr hw ht
    rw [mgmtInstruction_acts hr hw ht]
    refine ⟨fun hf => ?_, fun v hf => ?_⟩
    · rw [State.mgmtStep, hf]
    · rw [State.mgmtStep, hf]

end Sys2Proof.Machine
end

section
/-! PROOFS. The interrupt controller: pending bits, the source that a claim takes, claims and completes, moderation, messages (12,
R313 to R322). -/

namespace Sys2Proof.Machine

open Sys2Proof

/-! ### Pending bits (R315) -/

/-- Clearing a bit of a register leaves its other bits. -/
theorem State.bit_setBit_false (s : State) (o i j : Nat) : (s.setBit o i false).bit o j = (s.bit o j && decide (j ≠ i)) := by
  by_cases hj : j < 32
  · simp only [State.bit, State.setBit, State.clrReg, Bool.false_eq_true, if_false, State.reg_setReg_self, BitVec.getLsbD_and,
      BitVec.getLsbD_not, BitVec.getLsbD_ofNat, Nat.testBit_two_pow, hj, decide_true, Bool.true_and, decide_not, eq_comm]
  · simp [State.bit, BitVec.getLsbD_of_ge _ j (Nat.le_of_not_lt hj)]

/-- A pending bit is one of a HIC_PEND register: a state that holds the same there has the same source pending. -/
theorem State.srcPending_of_reg {s t : State} {i : Nat} (h : t.reg (R.HIC_PEND (i / 32)) = s.reg (R.HIC_PEND (i / 32))) :
    t.srcPending i = s.srcPending i := by
  rw [State.srcPending, State.srcPending, State.bit, State.bit, h]

/-- The pending bit of a source is cleared: what a claim or a message does to it (R318, R322). -/
def State.clearPending (s : State) (i : Nat) : State := s.setBit (R.HIC_PEND (i / 32)) (i % 32) false

theorem State.srcPending_clearPending (s : State) (i j : Nat) :
    (s.clearPending i).srcPending j = (s.srcPending j && decide (j ≠ i)) := by
  by_cases hword : j / 32 = i / 32
  · have hbit : j % 32 ≠ i % 32 ↔ j ≠ i := by omega
    simp only [State.clearPending, State.srcPending, hword, State.bit_setBit_false, hbit]
  · have hreg : R.HIC_PEND (j / 32) ≠ R.HIC_PEND (i / 32) := by
      simp only [R.HIC_PEND]
      omega
    have hne : j ≠ i := by
      rintro rfl
      exact hword rfl
    rw [State.clearPending, State.srcPending_of_reg (s.reg_setBit_other _ _ hreg), decide_eq_true hne, Bool.and_true]

theorem State.srcPending_foldl_clearPending (l : List Nat) (s : State) (j : Nat) :
    (l.foldl State.clearPending s).srcPending j = (s.srcPending j && decide (j ∉ l)) := by
  induction l generalizing s with
  | nil => simp
  | cons i l ih =>
    rw [List.foldl_cons, ih, State.srcPending_clearPending, Bool.and_assoc]
    simp only [List.mem_cons, not_or, Bool.decide_and]

theorem State.hostOut_foldl_clearPending (l : List Nat) (s : State) : (l.foldl State.clearPending s).hostOut = s.hostOut :=
  List.foldlRecOn (motive := fun t : State => t.hostOut = s.hostOut) l _ rfl
    fun _ ht _ _ => (State.setBit_hostOut _ _ _ _).trans ht

/-! ### Software interrupts (R314) -/

/-- HIC_SWI that the page admits pulses the source of each bit that it writes as 1. -/
theorem hicSwi_ok {s : State} {a : Agent} (h : s.admits a .hic P.HIC = true) (bits : BitVec 16) :
    exec (.hicSwi a bits) s = .next (((List.range 16).filter (fun i => (bits.setWidth 32 : Word).getLsbD i)).foldl
      (fun s i => s.pulse (468 + i)) s) := by
  rw [exec_hicSwi, execHicSwi, State.writeBy_ok _ _ h rfl rfl rfl rfl rfl]
  rfl

/-- A word with one bit at 1 names that bit alone. -/
theorem swiBits_single : ∀ i : Fin 16, (List.range 16).filter
    (fun j => ((BitVec.ofNat 16 (2 ^ i.val)).setWidth 32 : Word).getLsbD j) = [i.val] := by decide

/-! ### The source of a claim (R318) -/

/-- The fold of the model is the library's: the first of the deliverable sources at which LEVEL is greatest. -/
theorem State.bestSource_eq_argmax (s : State) (t : Nat) :
    s.bestSource t = ((List.range 512).filter (s.deliverable t)).argmax s.srcLevel := by
  unfold State.bestSource List.argmax
  congr 1
  funext b i
  cases b <;> rfl

theorem State.mem_deliverableSources {s : State} {t j : Nat} :
    j ∈ (List.range 512).filter (s.deliverable t) ↔ j < 512 ∧ s.deliverable t j = true := by
  rw [List.mem_filter, List.mem_range]

/-- In a rising list the earlier element is the lower one. -/
theorem le_of_idxOf_le {l : List Nat} (hl : l.SortedLT) {i j : Nat} (hi : i ∈ l) (hj : j ∈ l) (h : l.idxOf i ≤ l.idxOf j) :
    i ≤ j := by
  rw [← hl.coe_getIso_symm_apply (x := ⟨i, hi⟩), ← hl.coe_getIso_symm_apply (x := ⟨j, hj⟩)] at h
  exact (hl.getIso l).symm.le_iff_le.mp h

theorem State.bestSource_spec {s : State} {t i : Nat} (h : s.bestSource t = some i) : s.deliverable t i = true ∧
    ∀ j, j < 512 → s.deliverable t j = true → s.srcLevel j < s.srcLevel i ∨ (s.srcLevel j = s.srcLevel i ∧ i ≤ j) := by
  rw [State.bestSource_eq_argmax] at h
  have hi := List.argmax_mem h
  refine ⟨(State.mem_deliverableSources.mp hi).2, fun j hj hd => ?_⟩
  have hjm := State.mem_deliverableSources.mpr ⟨hj, hd⟩
  refine (List.le_of_mem_argmax hjm h).lt_or_eq.imp_right fun heq => ⟨heq, ?_⟩
  exact le_of_idxOf_le (List.pairwise_lt_range.filter _).sortedLT hi hjm (List.index_of_argmax h hjm heq.ge)

theorem State.bestSource_eq_none {s : State} {t : Nat} :
    s.bestSource t = none ↔ ∀ j, j < 512 → s.deliverable t j = false := by
  rw [State.bestSource_eq_argmax, List.argmax_eq_none, List.filter_eq_nil_iff]
  simp only [List.mem_range, Bool.not_eq_true]

/-! ### Claims (R318) -/

/-- Without an injected error the configuration of a source passes its check. -/
theorem State.checkSource_clean {s : State} (i : Nat) (h : s.bit (R.xx_FLT_INJ P.HIC) X.HIC_CFG_ECC = false) :
    s.checkSource i = s := by
  rw [State.checkSource, State.takeInj, h, if_neg (by decide)]

/-- A claim by the target's agent takes the best source. -/
theorem State.hicClaim_takes {s : State} {a : Agent} {t i : Nat} (ha : claims a t = true) (hb : s.bestSource t = some i)
    (hinj : s.bit (R.xx_FLT_INJ P.HIC) X.HIC_CFG_ECC = false) : s.hicClaim a t =
      (BitVec.ofNat 32 (2 ^ 31 + s.srcLevel i * 512 + i),
        ((s.setBit (R.HIC_PEND (i / 32)) (i % 32) false).setNest t ((i, s.srcLevel i) :: s.nest t)).delivered t) := by
  have hd : s.deliverable t i = true := (State.bestSource_spec hb).1
  simp only [State.hicClaim, ha, hb, State.checkSource_clean i hinj, hd, Bool.not_true, Bool.false_eq_true, if_false]

/-- A claim by another agent, or with nothing to deliver, reads 0 and changes nothing. -/
theorem State.hicClaim_empty {s : State} {a : Agent} {t : Nat} (h : claims a t = false ∨ s.bestSource t = none) :
    s.hicClaim a t = (0, s) := by
  rcases h with ha | hb
  · rw [State.hicClaim, ha, if_pos (by decide)]
  · rw [State.hicClaim, hb]
    exact ite_self _

theorem hicClaim_answers {s u : State} {a : Agent} {t : Fin 10} {w : Word} (hr : s.responds a = true)
    (h : s.hicClaim a t = (w, u)) : exec (.hicClaim a t) s = .next (u.answer (w.setWidth 64)) := by
  rw [exec_hicClaim, execHicClaim, if_pos hr, h]

theorem claims_hart (h : Fin 8) : claims (.hart h) h.val = true := beq_self_eq_true _

/-! ### Hold-off and messages (R321, R322) -/

@[simp] theorem State.regs_setHeldOff (s : State) (t : Nat) (b : Bool) : (s.setHeldOff t b).regs = s.regs := rfl

@[simp] theorem State.heldOff_setHeldOff_self (s : State) (t : Nat) (b : Bool) : (s.setHeldOff t b).heldOff t = b :=
  sget_sset_self _ _ t b

theorem State.heldOff_setHeldOff_other (s : State) {t x : Nat} (b : Bool) (h : x ≠ t) :
    (s.setHeldOff t b).heldOff x = s.heldOff x := sget_sset_other _ _ _ b h

theorem State.srcPending_withHostOut (s : State) (o : List HostWrite) (i : Nat) :
    ({ s with hostOut := o } : State).srcPending i = s.srcPending i := rfl

/-- Of the registers, a delivery changes the two counts. -/
theorem State.reg_delivered_other (s : State) {t o : Nat} (ht : o ≠ R.HIC_T_DELIV t) (hb : o ≠ R.xx_BLK_COUNT P.HIC) :
    (s.delivered t).reg o = s.reg o := by
  have hcount : ((s.count (R.HIC_T_DELIV t)).count (R.xx_BLK_COUNT P.HIC)).reg o = s.reg o := by
    rw [State.reg_count_other _ hb, State.reg_count_other _ ht]
  unfold State.delivered
  dsimp only
  split
  · exact hcount
  · exact hcount

theorem State.srcPending_delivered (s : State) (t : Nat) {i : Nat} (hi : i < 512) :
    (s.delivered t).srcPending i = s.srcPending i := by
  refine State.srcPending_of_reg (s.reg_delivered_other ?_ ?_)
  · simp only [R.HIC_PEND, R.HIC_T_DELIV]
    omega
  · simp only [R.HIC_PEND, R.xx_BLK_COUNT, P.HIC]
    omega

theorem State.lt_of_mem_vectorSources {s : State} {v i : Nat} (h : i ∈ s.vectorSources v) : i < 512 :=
  List.mem_range.mp (List.mem_filter.mp h).1

/-- A message clears the pending bits of its vector's sources, counts as a delivery to the host, and is posted. -/
theorem State.msixIssue_eq (s : State) (v : Nat) : s.msixIssue v =
    { ((s.vectorSources v).foldl State.clearPending s).delivered 9 with
      hostOut := s.hostOut ++ [⟨(s.msixEntry v).addr, leBytes 4 (s.msixEntry v).data.toNat⟩] } := by
  conv_rhs => rw [← State.hostOut_foldl_clearPending (s.vectorSources v) s]
  rfl

theorem State.hostOut_msixIssue (s : State) (v : Nat) : (s.msixIssue v).hostOut =
    s.hostOut ++ [⟨(s.msixEntry v).addr, leBytes 4 (s.msixEntry v).data.toNat⟩] := by
  rw [State.msixIssue_eq]

/-- A message takes the sources of its vector. -/
theorem State.srcPending_msixIssue {s : State} {v i : Nat} (hi : i ∈ s.vectorSources v) :
    (s.msixIssue v).srcPending i = false := by
  rw [State.msixIssue_eq, State.srcPending_withHostOut, State.srcPending_delivered _ 9 (State.lt_of_mem_vectorSources hi),
    State.srcPending_foldl_clearPending, decide_eq_false (not_not_intro hi), Bool.and_false]

theorem msixIssue_ready {s : State} {v : BitVec 8} (h : s.msixReady v.toNat = true) :
    exec (.msixIssue v) s = .next (s.msixIssue v.toNat) := by
  rw [exec_msixIssue, execMsixIssue, if_pos h]

theorem msixIssue_unready {s : State} {v : BitVec 8} (h : s.msixReady v.toNat = false) : exec (.msixIssue v) s = .next s := by
  rw [exec_msixIssue, execMsixIssue, h, if_neg (by decide)]

/-- Settles O18: HIC_SWI and a claim are each one access of the page; the source of a claim is the first at which LEVEL is greatest
among the deliverable ones, which are listed in rising order; a message clears its sources one by one. -/
theorem interruptController : Obligations.InterruptController := by
  unfold Obligations.InterruptController
  refine ⟨?_, ?_, ?_, ?_, fun s t i => State.bestSource_spec, fun s t => State.bestSource_eq_none, ?_, ?_, ?_⟩
  · intro s a i h
    rw [hicSwi_ok h, swiBits_single]
    rfl
  · intro s a h
    exact hicSwi_ok h 0
  · intro s h i hr hb hinj _
    exact hicClaim_answers hr (State.hicClaim_takes (claims_hart h) hb hinj)
  · intro s a t hr hnone
    exact hicClaim_answers hr (State.hicClaim_empty hnone)
  · intro s v hv
    exact ⟨_, msixIssue_ready hv, s.hostOut_msixIssue v.toNat, fun i => State.srcPending_msixIssue⟩
  · intro s v hv
    exact msixIssue_unready hv
  · intro s t
    exact ⟨_, rfl, s.heldOff_setHeldOff_self t false, rfl, fun x => s.heldOff_setHeldOff_other false⟩

/-! ### Completes (R319, R322) -/

/-- Everything a checked write can do: nothing where the window does not respond, a rejection, or the rule's effect. -/
theorem State.writeBy_cases (s : State) (a : Agent) (k : PageKind) (p off : Nat) (r : WRule) :
    s.writeBy a k p off r = s ∨ (∃ e, s.writeBy a k p off r = r.refused e (s.reject p off e)) ∨
      s.writeBy a k p off r = r.eff s := by
  unfold State.writeBy State.checkedWrite
  split
  · split
    · exact .inr (.inl ⟨_, rfl⟩)
    · exact .inr (.inr rfl)
  · exact .inl rfl

/-- No agent claims or completes for the host (R322). -/
theorem ne_host_of_claims {a : Agent} {t : Nat} (h : claims a t = true) : t ≠ 9 := by
  cases a with
  | hart g =>
    have hg : g.val = t := eq_of_beq h
    omega
  | mgmt =>
    have ht : t = 8 := eq_of_beq h
    omega
  | host => cases h
  | hostQueue q => cases h
  | fabric n => cases h

/-- The source that a write of HIC_T_COMPLETE names. -/
theorem bitsOf_completeSrc (src : BitVec 9) : bitsOf (src.setWidth 32 : Word).toNat 8 0 = src.toNat := by
  simp only [bitsOf, BitVec.toNat_setWidth, Nat.shiftRight_zero]
  omega

section
variable {a : Agent} {t : Nat} (src : BitVec 9) (s : State)

theorem completeRule_agentOk (ht : t ≠ 9) : (completeRule a t (src.setWidth 32) s).agentOk = claims a t := by
  rw [completeRule, beq_false_of_ne ht, Bool.false_or]

theorem completeRule_stateOk (ht : t ≠ 9) : (completeRule a t (src.setWidth 32) s).stateOk = true ↔
    ∃ l r, s.nest t = (src.toNat, l) :: r := by
  simp only [completeRule, bitsOf_completeSrc, bne_iff_ne.mpr ht, Bool.true_and, beq_iff_eq]
  cases s.nest t with
  | nil => simp
  | cons x r => simp [Prod.ext_iff]

end

/-- A rejection leaves the nesting stacks. -/
theorem State.nest_reject (s : State) (p off : Nat) (r : Reason) (t : Nat) : (s.reject p off r).nest t = s.nest t := by
  obtain ⟨regs, monel, h⟩ := s.reject_frame p off r
  rw [h]
  rfl

/-- The report of a rejection is not in a HIC_PEND register. -/
theorem State.srcPending_reject (s : State) (off : Nat) (r : Reason) (i : Nat) :
    (s.reject P.HIC off r).srcPending i = s.srcPending i := by
  refine State.srcPending_of_reg (s.regsButFor_reject P.HIC off r _ ?_)
  simp only [List.mem_cons, List.not_mem_nil, or_false, not_or, R.HIC_PEND, R.xx_STAT, R.xx_REJECT_ADDR, R.xx_REJECT_COUNT,
    P.HIC]
  omega

section
variable {s : State} {a : Agent} {t : Fin 10} (src : BitVec 9)

theorem hicComplete_pops {l : Nat} {r : List (Nat × Nat)} (h : s.admits a .hic P.HIC = true) (ha : claims a t = true)
    (hn : s.nest t = (src.toNat, l) :: r) : exec (.hicComplete a t src) s = .next (s.setNest t r) := by
  have ht := ne_host_of_claims ha
  rw [exec_hicComplete, execHicComplete, State.writeBy_ok _ _ h ((completeRule_agentOk src s ht).trans ha) rfl
    ((completeRule_stateOk src s ht).mpr ⟨l, r, hn⟩) rfl rfl]
  simp only [completeRule, hn, List.tail_cons]

theorem hicComplete_wrongSource (h : s.admits a .hic P.HIC = true) (ha : claims a t = true)
    (hn : ∀ l r, s.nest t ≠ (src.toNat, l) :: r) :
    exec (.hicComplete a t src) s = .next (s.reject P.HIC (R.HIC_T_COMPLETE t) .state) := by
  have ht := ne_host_of_claims ha
  have hstate : (completeRule a t (src.setWidth 32) s).stateOk = false := by
    rw [← Bool.not_eq_true, completeRule_stateOk src s ht]
    rintro ⟨l, r, heq⟩
    exact hn l r heq
  rw [exec_hicComplete, execHicComplete, State.writeBy_refused _ _ .state h
    (by rw [completeRule_agentOk src s ht, ha, hstate]; rfl)]
  rfl

theorem hicComplete_wrongAgent (h : s.admits a .hic P.HIC = true) (ha : claims a t = false) (ht : t ≠ 9) :
    exec (.hicComplete a t src) s = .next (s.reject P.HIC (R.HIC_T_COMPLETE t) .agent) := by
  have htv : t.val ≠ 9 := fun h9 => ht (Fin.ext h9)
  rw [exec_hicComplete, execHicComplete, State.writeBy_refused _ _ .agent h
    (by rw [completeRule_agentOk src s htv, ha]; rfl)]
  rfl

theorem srcPending_hicComplete {u : State} (i : Nat) (h : exec (.hicComplete a t src) s = .next u) :
    u.srcPending i = s.srcPending i := by
  rw [exec_hicComplete, execHicComplete] at h
  cases h
  rcases s.writeBy_cases a .hic P.HIC (R.HIC_T_COMPLETE t) (completeRule a t (src.setWidth 32) s) with hw | ⟨e, hw⟩ | hw
  · rw [hw]
  · rw [hw]
    exact s.srcPending_reject _ e i
  · rw [hw]
    rfl

end

/-- Settles O19: a complete is one checked write of HIC_T_COMPLETE, whose rule asks for the target's agent and for the source at the
top of the stack; its effect is on the stack alone, and a rejection's report is not in a HIC_PEND register. -/
theorem completionPopsTheStack : Obligations.CompletionPopsTheStack := by
  unfold Obligations.CompletionPopsTheStack
  refine ⟨fun s a t src l r => hicComplete_pops src, ?_, fun s a t src => hicComplete_wrongAgent src,
    fun s u a t src i h _ => srcPending_hicComplete src i h⟩
  intro s a t src h ha hn
  exact ⟨hicComplete_wrongSource src h ha hn, s.nest_reject _ _ _ t⟩

end Sys2Proof.Machine
end

section
/-! PROOFS. Ordered sets: training, equalisation, time stamps, electrical idle, loopback, goodbyes (13, R335 to R340, R364). -/

namespace Sys2Proof.Machine

open Sys2Proof

/-! ### Lanes that do not work -/

section
variable {s : State} {f : Fin 6} (h : s.lanesLive f = false)
include h

theorem osTs1_lanesOff (l n : Fin 4) (a b : Bool) : exec (.osTs1 f l n a b) s = .next s :=
  congrArg done (if_pos (by rw [h]; rfl))

theorem osTs2_lanesOff (l n : Fin 4) (p : BitVec 4) : exec (.osTs2 f l n p) s = .next s :=
  congrArg done (if_pos (by rw [h]; rfl))

theorem osEqr_lanesOff (l : Fin 4) (x y : Byte) : exec (.osEqr f l x y) s = .next s :=
  congrArg done (if_neg (by rw [h]; exact Bool.false_ne_true))

theorem osEqa_lanesOff (l : Fin 4) (x y : Byte) (m : Option (Fin 9 × Fin 17)) : exec (.osEqa f l x y m) s = .next s :=
  congrArg done (if_pos (by rw [h]; rfl))

theorem osEqd_lanesOff (l : Fin 4) : exec (.osEqd f l) s = .next s :=
  congrArg done (if_neg (by rw [h]; exact Bool.false_ne_true))

theorem State.peerGone_lanesOff (cause ev : Nat) : s.peerGone f cause ev = s :=
  if_neg (by rw [h]; exact Bool.false_ne_true)

theorem ts1Beacon_lanesOff : exec (.ts1Beacon f) s = .next s :=
  congrArg done (if_neg (by rw [h]; exact Bool.false_ne_true))

end

/-! ### Training (R335, R338) -/

section
variable {s t : State} {f : Fin 6} (hlive : s.lanesLive f = true)
include hlive

/-- TS1 brings a port from DOWN to ALIGN; there a frequency beyond the limit fails the training. -/
theorem osTs1_begins {l n : Fin 4} (hst : s.fpState f = fpDown)
    (ht : t = ((s.setFpState f fpAlign).sendTs f 0x11 0).alignSeen f l n) (slock offFreq : Bool) :
    exec (.osTs1 f l n slock offFreq) s = .next (if offFreq then t.trainFails f dcFreq
      else if slock && (t.fport f).locked != 0 then t.sendTs f 0x12 (t.fport f).locked else t) := by
  subst ht
  rw [exec_osTs1, execOsTs1, hlive, hst, if_neg (by decide), if_pos (beq_self_eq_true fpDown)]

theorem ts1Beacon_down (hst : s.fpState f = fpDown) : exec (.ts1Beacon f) s = .next (s.sendTs f 0x11 0) :=
  congrArg done (if_pos (by rw [hlive, hst]; rfl))

theorem ts1Beacon_rests (hst : s.fpState f ≠ fpDown) : exec (.ts1Beacon f) s = .next s :=
  congrArg done (if_neg (by rw [hlive, beq_false_of_ne hst]; decide))

theorem osTs2_rests (l n : Fin 4) (p : BitVec 4) (hst : s.fpState f ≠ fpAlign) : exec (.osTs2 f l n p) s = .next s :=
  congrArg done (if_pos (by rw [hlive, bne_iff_ne.mpr hst]; rfl))

section
variable {l n : Fin 4} {p : BitVec 4} {u : Nat} (hst : s.fpState f = fpAlign) (ht : t = s.alignSeen f l n)
  (hu : u = usedLanes (t.fld (F.FP_CFG_LANES_EN f) &&& (t.fport f).locked &&& p.toNat &&& (15 - (t.fport f).avoid)))
include hst ht hu

/-- TS2 decides the width at once: the lanes locked in both directions, less those that a degrade excluded (assumption 83). -/
theorem osTs2_decides : exec (.osTs2 f l n p) s = .next (if u = 0 then t.trainFails f dcNoLane
    else ((List.range 4).filter (fun l => u.testBit l)).foldl (fun s l => s.eqFirst f l)
      (((t.setFld (F.FP_STAT_LANES f) u).setFpState f fpEq).setFport f
        { ((t.setFld (F.FP_STAT_LANES f) u).setFpState f fpEq).fport f with eqSent := [], eqRx := 0, eqTx := 0 })) := by
  subst ht hu
  rw [exec_osTs2, execOsTs2, hlive, hst, if_neg (by decide)]

end

end

/-! ### Equalisation (R337) -/

theorem osEqa_ended {s : State} {f : Fin 6} {l : Fin 4} (x y : Byte) (m : Option (Fin 9 × Fin 17))
    (hrx : (s.fport f).eqRx.testBit l = true) : exec (.osEqa f l x y m) s = .next s :=
  congrArg done (if_pos (by rw [hrx, Bool.or_true]))

section
variable {s : State} {f : Fin 6} (hlive : s.lanesLive f = true)
include hlive

section
variable (l : Fin 4) (hst : s.fpState f = fpEq)
include hst

/-- A transmitter answers a request with the nearest taps, which it applies. -/
theorem osEqr_applies (x y : Byte) : exec (.osEqr f l x y) s = .next (((s.setFld (F.FP_EQ_STAT_PRE f l)
    (min x.toNat 8)).setFld (F.FP_EQ_STAT_POST f l) (min y.toNat 16)).put f (.set l 0x14 (min x.toNat 8) (min y.toNat 16))) :=
  congrArg done (if_pos (by rw [hlive, hst]; rfl))

theorem osEqd_ends : exec (.osEqd f l) s = .next (((s.setFport f { s.fport f with
    eqTx := (s.fport f).eqTx ||| 2 ^ l.val }).setFlag (F.FP_EQ_STAT_DONE f l) true).eqCheck f) :=
  congrArg done (if_pos (by rw [hlive, hst]; rfl))

variable {l} (x y : Byte)

variable (hrx : (s.fport f).eqRx.testBit l = false)
include hrx

/-- A receiver that chooses no further taps ends its lane. -/
theorem osEqa_chooses : exec (.osEqa f l x y none) s = .next (((s.setFport f { s.fport f with
    eqRx := (s.fport f).eqRx ||| 2 ^ l.val }).put f (.set l 0x15 0 0)).eqCheck f) := by
  rw [exec_osEqa, execOsEqa, hlive, hst, hrx, if_neg (by decide), ite_self]

/-- A receiver whose taps are not fixed asks again below its 64 requests. -/
theorem osEqa_asksAgain (a : Fin 9) (b : Fin 17) (hfix : s.flag (F.FP_EQ_CFG_FIXED f) = false)
    (hn : sget 0 (s.fport f).eqSent l < 64) : exec (.osEqa f l x y (some (a, b))) s = .next ((s.setFport f { s.fport f with
      eqSent := sset 0 (s.fport f).eqSent l (sget 0 (s.fport f).eqSent l + 1) }).put f (.set l 0x13 a b)) := by
  rw [exec_osEqa, execOsEqa, hlive, hst, hrx, hfix, if_neg (by decide), decide_eq_false (Nat.not_le.mpr hn),
    if_neg (by decide)]

end

/-! ### QUAR and SLEEP (R335) -/

/-- The partner's goodbye takes a port that trains or works DOWN, without a fault. -/
theorem State.peerGone_leaves (cause ev : Nat) (hst : s.fpState f = fpActive ∨ s.fpState f = fpConfig) :
    s.peerGone f cause ev = (s.portLeave f fpDown cause).event (P.FP f) ev :=
  if_pos (by rcases hst with hst | hst <;> rw [hlive, hst] <;> rfl)

end

/-! ### Time stamps (R364) -/

theorem osTsx_down {s : State} {f : Fin 6} (n : Byte) (h : s.wordsFlow f = false) : exec (.osTsx f n) s = .next s :=
  congrArg done (if_pos (by rw [h]; rfl))

section
variable {s : State} {f : Fin 6} {n : Byte} (h : s.wordsFlow f = true)
include h

/-- The partner's TSX is stamped, and answered with both stamps. -/
theorem osTsx_answers (hx : sget none s.time.exch f = none) :
    exec (.osTsx f n) s = .next ((s.put f (.set 0 0x18 n.toNat 0)).sendLocal f (.tsync s.now s.now)) := by
  rw [exec_osTsx, execOsTsx]
  dsimp only
  rw [h, if_neg (by decide), hx]

/-- The answer to this end's exchange is stamped. -/
theorem osTsx_stamps {d : BitVec 64} {c : Nat} (hx : sget none s.time.exch f = some ⟨d, c, none⟩)
    (hn : (s.fport f).tsx = n.toNat) : exec (.osTsx f n) s =
      .next (s.setTime { s.time with exch := sset none s.time.exch f (some ⟨d, c, some s.now⟩) }) := by
  rw [exec_osTsx, execOsTsx]
  dsimp only
  rw [h, if_neg (by decide), hx]
  dsimp only
  rw [hn, beq_self_eq_true, if_pos (by decide)]

end

/-! ### Electrical idle (R339) -/

section
variable {s : State} {f : Fin 6}

theorem osEios_idles (h : s.linkUp f = true) :
    exec (.osEios f) s = .next (s.setFport f { s.fport f with rxIdle := true, exiting := false }) := congrArg done (if_pos h)

theorem osEios_down (h : s.linkUp f = false) : exec (.osEios f) s = .next s :=
  congrArg done (if_neg (Bool.eq_false_iff.mp h))

theorem osFts_down (h : s.linkUp f = false) : exec (.osFts f) s = .next s :=
  congrArg done (if_neg (by rw [h]; exact Bool.false_ne_true))

theorem osFts_exits (h : s.linkUp f = true) (hidle : (s.fport f).rxIdle = true) :
    exec (.osFts f) s = .next (s.setFport f { s.fport f with exiting := true }) :=
  congrArg done (if_pos (by rw [h, hidle]; rfl))

theorem electricalIdleEnter_rests (h : s.fpState f ≠ fpActive) : exec (.electricalIdleEnter f) s = .next s := by
  rw [exec_electricalIdleEnter, execElectricalIdleEnter, beq_false_of_ne h]
  rfl

theorem State.group_of_noGroups (h : s.fab.groups = []) (g : Nat) : s.group g = Group.init := by
  rw [State.group, h]
  rfl

/-- An ACTIVE port with nothing to send and no group of the deterministic class on it goes idle. -/
theorem electricalIdleEnter_idles (h : s.fpState f = fpActive) (hus : s.fld (F.FP_CFG_IDLE_US f) ≠ 0)
    (hq : (s.fport f).queue = []) (hdq : (s.fport f).detq = []) (hg : s.fab.groups = []) :
    exec (.electricalIdleEnter f) s = .next ((s.putSet f 0x16 0 0).setFpState f fpIdle) := by
  have hdet : (List.range 256).any (fun g => (s.group g).det && (s.group g).tree.testBit f) = false :=
    List.any_eq_false.mpr fun g _ => by rw [State.group_of_noGroups hg]; exact Bool.false_ne_true
  rw [exec_electricalIdleEnter, execElectricalIdleEnter, h, bne_iff_ne.mpr hus, hq, hdq, hdet, if_pos (by decide)]

theorem idleExitTimeout_rests (h : s.linkUp f = false ∨ (s.fport f).exiting = false) :
    exec (.idleExitTimeout f) s = .next s :=
  congrArg done (if_neg (by rcases h with h | h <;> simp [h]))

theorem idleExitTimeout_lasting (h : s.linkUp f = true) (hexit : (s.fport f).exiting = true) :
    exec (.idleExitTimeout f) s = .next (s.lasting f 0 0 false) :=
  congrArg done (if_pos (by rw [h, hexit]; rfl))

/-! ### The end of a training; retraining (R338) -/

theorem trainLimitExpire_fails (h : s.fpState f = fpAlign ∨ s.fpState f = fpEq ∨ s.fpState f = fpConfig) :
    exec (.trainLimitExpire f) s = .next (s.trainFails f dcTimeout) := by
  rw [exec_trainLimitExpire, execTrainLimitExpire]
  rcases h with h | h | h <;> rw [h] <;> rfl

theorem trainLimitExpire_active (h : s.fpState f = fpActive) : exec (.trainLimitExpire f) s = .next s := by
  rw [exec_trainLimitExpire, execTrainLimitExpire, h]
  rfl

/-- Of one DOWN period only the first failure is a fault. -/
theorem State.trainFails_again (cause : Nat) (h : (s.fport f).failed = true) :
    s.trainFails f cause = (s.count (R.FP_TRAIN_FAILS f)).portLeave f fpDown cause := by
  have hcount : ((s.count (R.FP_TRAIN_FAILS f)).fport f).failed = true := h
  rw [State.trainFails]
  dsimp only
  rw [hcount, if_pos rfl]

/-- FP_CMD.RETRAIN retrains the port. -/
theorem fpRetrain_ok {a : Agent} (h : s.admits a .fp (P.FP f) = true) : exec (.fpRetrain a f) s = .next (s.portRetrain f) := by
  have hrule : fpRule f (R.FP_CMD f) 1 s = { eff := fun s => s.portRetrain f } := by
    rw [fpRule, if_neg (by simp), if_neg (by simp), if_neg (by simp), if_neg (by simp), if_pos rfl]
    rfl
  rw [exec_fpRetrain, execFpRetrain, hrule, State.writeBy_ok _ _ h rfl rfl rfl rfl rfl]

theorem State.portRetrain_rests (h : s.fpState f = fpDisabled ∨ s.fpState f = fpLoopback) : s.portRetrain f = s :=
  if_pos (by rcases h with h | h <;> rw [h] <;> rfl)

theorem State.portRetrain_leaves (hd : s.fpState f ≠ fpDisabled) (hl : s.fpState f ≠ fpLoopback) :
    s.portRetrain f = s.portLeave f fpDown dcLocal :=
  if_neg (by rw [beq_false_of_ne hd, beq_false_of_ne hl]; exact Bool.false_ne_true)

/-! ### Loopback (R340) -/

section
variable {a : Agent} {v : Word} (h : s.admits a .fp (P.FP f) = true)
include h

/-- A loopback needs the port OFFLINE. -/
theorem fpLbWrite_online (hm : v.toNat % 4 ≠ 0) (hoff : s.flag (F.FP_CFG_OFFLINE f) = false) :
    exec (.fpLbWrite a f v) s = .next (s.reject (P.FP f) (R.FP_LB f) .state) := by
  have hstate : (fpLbRule f v s).stateOk = false := by rw [fpLbRule, beq_false_of_ne hm, hoff]; rfl
  rw [exec_fpLbWrite, execFpLbWrite, State.writeBy_refused _ _ .state h (by rw [hstate]; rfl)]
  rfl

/-- A near-end loopback is entered at once. -/
theorem fpLbWrite_enters (hm : v.toNat % 4 = 1 ∨ v.toNat % 4 = 2) (hoff : s.flag (F.FP_CFG_OFFLINE f) = true) :
    exec (.fpLbWrite a f v) s = .next (((s.setFlag (F.FP_LB_PRBS_EN f) (v.getLsbD 9)).setFld (F.FP_LB_MODE f)
      (v.toNat % 4)).setFpState f fpLoopback) := by
  have hstate : (fpLbRule f v s).stateOk = true := by rw [fpLbRule, hoff, Bool.or_true]
  have hmode : v.toNat % 4 ≠ 0 := by omega
  have hfarEnd : v.toNat % 4 ≠ 3 := by omega
  rw [exec_fpLbWrite, execFpLbWrite, State.writeBy_ok _ _ h rfl rfl hstate rfl rfl, fpLbRule]
  dsimp only
  rw [if_neg hmode, if_neg hfarEnd]

end

section
variable (h : (s.fport f).lbk = true)
include h

theorem osLbk_answered : exec (.osLbk f true) s = .next (s.setFport f { s.fport f with lbk := false }) :=
  congrArg done (if_pos h)

theorem osLbk_refusedLater : exec (.osLbk f false) s = .next s := congrArg done (if_pos h)

/-- A partner that does not answer refuses the far-end loopback. -/
theorem feLbTimeout_refuses : exec (.feLbTimeout f) s = .next (((s.setFport f { s.fport f with lbk := false }).setFlag
    (F.FP_LB_FE_REFUSED f) true).event (P.FP f) E.FP_FE_REFUSED) := congrArg done (if_pos h)

end

theorem feLbTimeout_unasked (h : (s.fport f).lbk = false) : exec (.feLbTimeout f) s = .next s :=
  congrArg done (if_neg (Bool.eq_false_iff.mp h))

/-- A port that allows it enters the far-end loopback that its partner asks for, and answers. -/
theorem osLbk_enters (h : (s.fport f).lbk = false) (hup : s.linkUp f = true) (hok : s.flag (F.FP_CFG_FE_LB_OK f) = true) :
    exec (.osLbk f true) s = .next ((s.portLeave f fpLoopback 0).putSet f 0x19 1 0) := by
  rw [exec_osLbk, execOsLbk, h, if_neg (by decide), if_pos rfl, hup, hok]
  rfl

end

/-- Settles O52: each ordered set is decided by the port's state and by one condition of its own, and each decision is its lemma;
the width that TS2 chooses is decided at once (assumption 83). -/
theorem fabricTraining : Obligations.FabricTraining := by
  unfold Obligations.FabricTraining
  refine ⟨fun s f l n a b p x y m h => ⟨osTs1_lanesOff h l n a b, osTs2_lanesOff h l n p, osEqr_lanesOff h l x y,
      osEqa_lanesOff h l x y m, osEqd_lanesOff h l, congrArg done (State.peerGone_lanesOff h _ _),
      congrArg done (State.peerGone_lanesOff h _ _), ts1Beacon_lanesOff h⟩,
    fun s t f l n b hl hs ht => ⟨osTs1_begins hl hs ht b true, osTs1_begins hl hs ht false false⟩,
    fun s f hl => ⟨ts1Beacon_down hl, ts1Beacon_rests hl⟩,
    fun s t f l n p u hl => ⟨osTs2_rests hl l n p, fun hs ht hu => ⟨?_, ?_⟩⟩,
    fun s f l x y hl hs => ⟨osEqr_applies hl l hs x y, osEqd_ends hl l hs, fun m => osEqa_ended x y m, osEqa_chooses hl hs x y,
      fun a b hrx => osEqa_asksAgain hl hs x y hrx a b⟩,
    fun s f n => ⟨osEios_idles, fun h => ⟨osEios_down h, osFts_down h⟩, osFts_exits, osTsx_down n, osTsx_answers,
      fun d c h => osTsx_stamps h⟩,
    fun s f => ⟨trainLimitExpire_fails, trainLimitExpire_active, State.trainFails_again dcTimeout⟩,
    fun s a f h => ⟨?_, ?_⟩,
    fun s f => ⟨fun hs hl => ⟨congrArg done (State.peerGone_leaves hl _ _ hs), congrArg done (State.peerGone_leaves hl _ _ hs)⟩,
      electricalIdleEnter_rests, electricalIdleEnter_idles, idleExitTimeout_rests, idleExitTimeout_lasting⟩,
    fun s a f v h => ⟨fpLbWrite_online h, fpLbWrite_enters h⟩,
    fun s f => ⟨fun h => ⟨osLbk_answered h, osLbk_refusedLater h, feLbTimeout_refuses h⟩, feLbTimeout_unasked, osLbk_enters⟩⟩
  · intro h0
    rw [osTs2_decides hl hs ht hu, if_pos h0]
  · rintro w h0 rfl
    rw [osTs2_decides hl hs ht hu, if_neg h0]
  · intro hs
    rw [fpRetrain_ok h, State.portRetrain_rests hs]
  · intro hd hl
    rw [fpRetrain_ok h, State.portRetrain_leaves hd hl]

end Sys2Proof.Machine
end

section
/-! PROOFS. What the deterministic class keeps of a part, and how a message reaches a member (13, R346, R353). -/

namespace Sys2Proof.Machine

open Sys2Proof

/-- The part is the member of groups and the holder of an address that it was. -/
structure State.KeepsStanding (s t : State) : Prop where
  groups : t.fab.groups = s.fab.groups
  address : t.hasAddr = s.hasAddr

namespace State.KeepsStanding

theorem refl (s : State) : s.KeepsStanding s := ⟨rfl, rfl⟩

theorem trans {s t u : State} (h : s.KeepsStanding t) (h' : t.KeepsStanding u) : s.KeepsStanding u :=
  ⟨h'.groups.trans h.groups, h'.address.trans h.address⟩

theorem foldl {α : Type} {f : State → α → State} (l : List α) (hf : ∀ s : State, ∀ x ∈ l, s.KeepsStanding (f s x))
    (s : State) : s.KeepsStanding (l.foldl f s) :=
  List.foldlRecOn l f (refl s) fun t h x hx => h.trans (hf t x hx)

theorem group {s t : State} (h : s.KeepsStanding t) (g : Nat) : t.group g = s.group g := by
  rw [State.group, State.group, h.groups]

/-- An address is what FAB_ADDR and FAB_STAT say. -/
theorem ofRegs {s t : State} (hgroups : t.fab.groups = s.fab.groups) (haddr : t.reg R.FAB_ADDR = s.reg R.FAB_ADDR)
    (hstat : t.reg R.FAB_STAT = s.reg R.FAB_STAT) : s.KeepsStanding t :=
  ⟨hgroups, by simp only [State.hasAddr, State.flag, State.fld, haddr, hstat]⟩

theorem ofSameRegs {s t : State} (hgroups : t.fab.groups = s.fab.groups) (hregs : t.regs = s.regs) : s.KeepsStanding t :=
  ofRegs hgroups (by rw [State.reg, State.reg, hregs]) (by rw [State.reg, State.reg, hregs])

theorem setReg (s : State) {o : Nat} (v : Word) (haddr : R.FAB_ADDR ≠ o) (hstat : R.FAB_STAT ≠ o) :
    s.KeepsStanding (s.setReg o v) :=
  ofRegs (congrArg Fab.groups (s.setReg_fab o v)) (s.reg_setReg_other v haddr) (s.reg_setReg_other v hstat)

theorem setFport (s : State) (f : Nat) (p : FPort) : s.KeepsStanding (s.setFport f p) := ofSameRegs rfl rfl

theorem wordSeen (s : State) (f : Nat) : s.KeepsStanding (s.wordSeen f) := setFport s f _

theorem put (s : State) (f : Nat) (x : Sent) : s.KeepsStanding (s.put f x) := ofSameRegs rfl rfl

/-- Reports change no register of the fabric's standing. -/
theorem ofReports {s t : State} (h : s.ReportsOnly t) : s.KeepsStanding t :=
  ofRegs (congrArg (·.fab.groups) h.rest) (h.reg _ (by decide)) (h.reg _ (by decide))

/-- STABLE is no part of NSTATE. -/
theorem unsettle (s : State) : s.KeepsStanding s.unsettle := by
  have hstable : (s.setFlag F.FAB_STAT_STABLE false).KeepsStanding s.unsettle := by
    refine ofSameRegs ?_ rfl
    rw [State.setFlag_fab, State.unsettle]
  have haddr : (s.setFlag F.FAB_STAT_STABLE false).hasAddr = s.hasAddr := by
    unfold State.hasAddr
    rw [s.flag_setFlag_other false (by decide) (.inl (by decide)), State.setFlag,
      s.fld_setFld_other _ (by decide) (.inr (.inr (by decide)))]
  exact ⟨hstable.groups.trans (congrArg Fab.groups (s.setFlag_fab _ _)), hstable.address.trans haddr⟩

theorem checkTables (s : State) : s.KeepsStanding s.checkTables := by
  unfold State.checkTables State.takeInj
  split
  · next t heq =>
    split at heq
    · cases heq
      exact ((setReg s _ (by decide) (by decide)).trans (unsettle _)).trans (ofReports (.faultInj _ _ _ (by decide)))
    · cases heq
  · next t heq =>
    split at heq
    · cases heq
    · cases heq
      exact refl s

theorem raiseTo (s : State) {o : Nat} (v : Nat) (haddr : R.FAB_ADDR ≠ o) (hstat : R.FAB_STAT ≠ o) :
    s.KeepsStanding (s.raiseTo o v) := ofRegs (by rw [State.raiseTo_fab]) (s.reg_raiseTo_other v haddr)
  (s.reg_raiseTo_other v hstat)

theorem linkWake (s : State) {f : Nat} (hf : f < 6) : s.KeepsStanding (s.linkWake f) := by
  unfold State.linkWake
  split
  · refine (put s f _).trans (setReg _ _ ?_ ?_)
    · simp only [R.FAB_ADDR, R.FP_STAT]
      omega
    · simp only [R.FAB_STAT, R.FP_STAT]
      omega
  · exact refl s

theorem detOn (s : State) (m : DetMsg) {f : Nat} (hf : f < 6) : s.KeepsStanding (s.detOn m f) := by
  unfold State.detOn
  dsimp only
  split
  · exact ofReports (.faultInj s _ _ (by simp only [P.FP]; omega))
  · refine ((setFport s f _).trans (raiseTo _ _ ?_ ?_)).trans (linkWake _ hf)
    · simp only [R.FAB_ADDR, R.FP_DETQ_MAX]
      omega
    · simp only [R.FAB_STAT, R.FP_DETQ_MAX]
      omega

/-- A message that goes on leaves the part's standing. -/
theorem detForward (s : State) (from? : Option Nat) (m : DetMsg) : s.KeepsStanding (s.detForward from? m) := by
  unfold State.detForward
  split
  · exact refl s
  · exact (checkTables s).trans (foldl _ (fun t f hf => detOn t m (List.mem_range.mp (List.mem_filter.mp hf).1)) _)

end State.KeepsStanding

/-! ### Reception (R346) -/

/-- Where the link does not carry traffic no message arrives. -/
theorem State.rxDet_down {s : State} {f : Nat} (d : DetHead) (k : Nat) (b : BitVec 64) (a : Nat) (act : State → State)
    (h : s.linkUp f = false) : s.rxDet f d k b a act = s := if_pos (by rw [h]; rfl)

/-- A message heard with its first copy good goes on along the tree, and acts on a member. -/
theorem State.rxDet_heard {s : State} {f : Nat} {d : DetHead} (k : Nat) (b : BitVec 64) (a : Nat) (act : State → State)
    (h : s.hears f = true) (hfirst : d.second = false) (hm : (s.group d.grp.toNat).member = true) (ha : s.hasAddr = true) :
    s.rxDet f d k b a act = act ((s.wordSeen f).detForward (some f) ⟨d.grp.toNat, d.src.toNat, k, b, a⟩) := by
  obtain ⟨⟨hup, hoff⟩, hinj⟩ : (s.linkUp f = true ∧ (s.fport f).off = false) ∧
      s.bit (R.xx_FLT_INJ (P.FP f)) X.FP_DET_RETRY = false := by
    simpa only [State.hears, Bool.and_eq_true, Bool.not_eq_true'] using h
  have hinject : (s.wordSeen f).takeInj (P.FP f) X.FP_DET_RETRY = (false, s.wordSeen f) := State.takeInj_clear hinj
  have hkeeps := State.KeepsStanding.trans (State.KeepsStanding.wordSeen s f)
    (State.KeepsStanding.detForward (s.wordSeen f) (some f) ⟨d.grp.toNat, d.src.toNat, k, b, a⟩)
  rw [State.rxDet, hup, hoff, if_neg (by decide)]
  dsimp only
  rw [hinject, hfirst]
  dsimp only
  rw [Bool.or_false, if_neg Bool.false_ne_true, hkeeps.group, hm, hkeeps.address, ha, if_pos (by decide)]

end Sys2Proof.Machine
end

section
/-! PROOFS. Register messages of this part, span slots, the deterministic class, fabric triggers (13, R346, R354, R358 to R363). -/

namespace Sys2Proof.Machine

open Sys2Proof

/-! ### Register messages of this part (R354, R367) -/

/-- FAB_RM_CMD's OP and COUNT in the word that a command writes. -/
theorem rmCmdWord {op c : Nat} (hop : op < 4) (hc : c < 32) :
    bitsOf (BitVec.ofNat 32 (op * 2 ^ 30 + c)).toNat 31 30 = op ∧ (BitVec.ofNat 32 (op * 2 ^ 30 + c)).toNat % 32 = c := by
  have hv : (BitVec.ofNat 32 (op * 2 ^ 30 + c)).toNat = op * 2 ^ 30 + c := by
    rw [BitVec.toNat_ofNat]
    exact Nat.mod_eq_of_lt (by omega)
  rw [hv, bitsOf, Nat.shiftRight_eq_div_pow]
  omega

section
variable {s : State} {a : Agent} (h : s.admits a .fab P.FAB = true)
include h

/-- A unit with a message outstanding takes no second one. -/
theorem State.rmCommand_busy (op c : Nat) (hb : s.flag F.FAB_RM_STAT_BUSY = true) :
    s.rmCommand a op c = s.reject P.FAB R.FAB_RM_CMD .state := by
  rw [State.rmCommand, State.writeBy_refused _ _ .state h (by rw [rmCmdRule, hb]; rfl)]
  rfl

section
variable {op c : Nat} (hop : op = 1 ∨ op = 2) (hc : c < 32) (hb : s.flag F.FAB_RM_STAT_BUSY = false)
include hop hc hb

theorem State.rmCommand_sends (hle : c ≤ 16) : s.rmCommand a op c = s.rmSend (op == 2) c := by
  obtain ⟨hwordOp, hwordCount⟩ := rmCmdWord (op := op) (by omega) hc
  have hknown : (op == 1 || op == 2) = true := by rcases hop with rfl | rfl <;> rfl
  rw [State.rmCommand, rmCmdRule, hwordOp, hwordCount, hb, hknown, decide_eq_true hle,
    State.writeBy_ok _ _ h rfl rfl rfl rfl rfl]

theorem State.rmCommand_tooMany (hgt : 16 < c) : s.rmCommand a op c = s.reject P.FAB R.FAB_RM_CMD .range := by
  obtain ⟨hwordOp, hwordCount⟩ := rmCmdWord (op := op) (by omega) hc
  rw [State.rmCommand, rmCmdRule, hwordOp, hwordCount, hb, decide_eq_false (Nat.not_le.mpr hgt), Bool.and_false,
    State.writeBy_refused _ _ .range h rfl]

end

end

/-- COUNT 0 is done at once (assumption 85). -/
theorem State.rmSend_zero (s : State) (wr : Bool) : s.rmSend wr 0 = s.rmEnd rmOk 0 0 := by
  rw [State.rmSend, if_pos rfl]

/-- A part without an address has no route, and the message ends UNREACH (assumption 85). -/
theorem State.rmSend_unreachable {s : State} (wr : Bool) {c : Nat} (hc : 0 < c) (ha : s.hasAddr = false) :
    s.rmSend wr c = (s.count R.FAB_UNREACH).rmEnd rmUnreach 0 0 := by
  rw [State.rmSend, if_neg hc.ne', ha]
  rfl

theorem fabRmTimeout_rests {s : State} (h : s.fab.rm = none) : exec .fabRmTimeout s = .next s :=
  congrArg done (if_neg (by rw [h]; decide))

theorem fabRmTimeout_ends {s : State} (h : s.fab.rm.isSome = true) :
    exec .fabRmTimeout s = .next (s.rmEnd rmTimeout 0 0) := congrArg done (if_pos h)

/-! ### Span slots: registers (R358, R359) -/

/-- FAB_SPAN_ENABLE writes EN as 1. -/
theorem getLsbD_withEn (v : Word) : (v ||| 0x80000000 : Word).getLsbD 31 = true := by
  rw [BitVec.getLsbD_or]
  exact Bool.or_true _

section
variable {s : State} {a : Agent} {k : Fin 16} (h : s.admits a .fab P.FAB = true)
include h

/-- An enabled slot, or one that misses a condition of R358, is not enabled. -/
theorem fabSpanEnable_refused {v : Word}
    (hno : s.flag (F.FAB_SPAN_CFG_EN k) = true ∨ s.spanOk k (v ||| 0x80000000) = false) :
    exec (.fabSpanEnable a k v) s = .next (s.reject P.FAB (R.FAB_SPAN_CFG k) .state) := by
  have hstate : (spanCfgRule k (v ||| 0x80000000) s).stateOk = false := by
    rw [spanCfgRule, getLsbD_withEn, if_pos rfl]
    rcases hno with hno | hno
    · rw [hno]
      rfl
    · rw [hno, Bool.and_false]
  rw [exec_fabSpanEnable, execFabSpanEnable, State.writeBy_refused _ _ .state h (by rw [hstate]; rfl)]
  rfl

theorem fabSpanEnable_enables {v : Word} {t : State} (hen : s.flag (F.FAB_SPAN_CFG_EN k) = false)
    (hok : s.spanOk k (v ||| 0x80000000) = true)
    (ht : t = s.setReg (R.FAB_SPAN_CFG k) ((v ||| 0x80000000) &&& 0xCF1FFF00)) : exec (.fabSpanEnable a k v) s =
      .next ((t.setReg (R.FAB_SPAN_STAT k) (BitVec.ofNat 32 (2 ^ 28))).setSpan k Span.init).fabUpdate := by
  have hstate : (spanCfgRule k (v ||| 0x80000000) s).stateOk = true := by
    rw [spanCfgRule, getLsbD_withEn, if_pos rfl, hen, hok]
    rfl
  subst ht
  rw [exec_fabSpanEnable, execFabSpanEnable, State.writeBy_ok _ _ h rfl rfl hstate rfl rfl, spanCfgRule]
  dsimp only
  rw [getLsbD_withEn, hen, if_neg (by decide), if_pos rfl]

/-- Only a leader with an enabled slot and an armed partition gives GO (assumption 86). -/
theorem fabSpanGo_refused (hno : s.flag (F.FAB_SPAN_CFG_LEADER k) = false ∨ s.flag (F.FAB_SPAN_CFG_EN k) = false ∨
    s.spanHasArmed k = false) : exec (.fabSpanGo a k) s = .next (s.reject P.FAB (R.FAB_SPAN_GO k) .state) := by
  have hstate : (spanGoRule k 1 s).stateOk = false := by
    rw [spanGoRule]
    rcases hno with hno | hno | hno <;>
      rw [hno] <;> simp only [Bool.and_false, Bool.false_and, Bool.or_false] <;> rfl
  rw [exec_fabSpanGo, execFabSpanGo, State.writeBy_refused _ _ .state h (by rw [hstate]; rfl)]
  rfl

/-- GO sends CSYNC with the lead, and the leader waits for the same time. -/
theorem fabSpanGo_sends {x : BitVec 64} {t : State} (hen : s.flag (F.FAB_SPAN_CFG_EN k) = true)
    (hlead : s.flag (F.FAB_SPAN_CFG_LEADER k) = true) (hst : s.fld (F.FAB_SPAN_STAT_STATE k) = spWait)
    (harm : s.spanHasArmed k = true)
    (hfar : 40 * (s.group (s.fld (F.FAB_SPAN_CFG_GRP k))).diam + 1000 ≤ s.fld (F.FAB_SPAN_SYNC_SYNC_LEAD_NS k))
    (hx : x = s.now + nsTime (s.fld (F.FAB_SPAN_SYNC_SYNC_LEAD_NS k))) (ht : t = s.detSend k dtCsync x 0) :
    exec (.fabSpanGo a k) s = .next ((t.setReg64 (R.FAB_SPAN_T_LO k) (R.FAB_SPAN_T_HI k) x).setSpan k
      { t.span k with sync := true, late := false }) := by
  have hstate : (spanGoRule k 1 s).stateOk = true := by
    rw [spanGoRule]
    dsimp only
    rw [hen, hlead, hst, harm, decide_eq_true hfar]
    rfl
  subst ht hx
  rw [exec_fabSpanGo, execFabSpanGo, State.writeBy_ok _ _ h rfl rfl hstate rfl rfl]
  rfl

end

/-! ### The start at T (R359) -/

theorem State.setSpan_dclk (s : State) (k : Nat) (x : Span) : (s.setSpan k x).dclk = s.dclk := rfl

section
variable {s t : State} {k : Fin 16}

theorem csyncStart_unasked (h : (s.span k).sync = false) : exec (.csyncStart k) s = .next s :=
  congrArg done (if_pos (by rw [h]; rfl))

/-- At T a late slot and one that cannot start miss it (assumption 86); the others start their gang. -/
theorem csyncStart_due (ht : t = s.setSpan k { s.span k with sync := false }) (hsync : (s.span k).sync = true)
    (hen : s.flag (F.FAB_SPAN_CFG_EN k) = true)
    (hdue : timeReached s.now (s.reg64 (R.FAB_SPAN_T_LO k) (R.FAB_SPAN_T_HI k)) = true) : exec (.csyncStart k) s =
      .next (if (s.span k).late then t.syncMissed k 6
        else if t.fld (F.FAB_SPAN_STAT_STATE k) != spWait || !t.spanHasArmed k || !t.startable (s.fld (F.FAB_SPAN_CFG_SEQ k))
        then t.syncMissed k 7
        else (((t.setFld (F.FAB_SPAN_STAT_STATE k) spRunning).setFld (F.FAB_SPAN_STAT_END k) 0).setSpan
          k Span.init).startGang (s.fld (F.FAB_SPAN_CFG_SEQ k)) (2000 * s.dclk)) := by
  subst ht
  rw [exec_csyncStart, execCsyncStart, hsync, hen, hdue, if_neg (by decide)]
  dsimp only
  rw [State.setFld_dclk, State.setFld_dclk, State.setSpan_dclk]

/-! ### COND and notices of a running slot (R360, R362) -/

theorem condSend_rests (h : s.fld (F.FAB_SPAN_STAT_STATE k) ≠ spRunning) : exec (.condSend k) s = .next s :=
  congrArg done (if_pos (bne_iff_ne.mpr h))

theorem spanNoticeApply_rests (h : s.fld (F.FAB_SPAN_STAT_STATE k) ≠ spRunning) : exec (.spanNoticeApply k) s = .next s :=
  congrArg done (if_pos (bne_iff_ne.mpr h))

section
variable {n : Nat} (hn : n = s.fld (F.FAB_SPAN_CFG_SEQ k)) (h : s.fld (F.FAB_SPAN_STAT_STATE k) = spRunning)
include hn h

theorem condSend_none (hsend : (s.seq n).sends = []) : exec (.condSend k) s = .next s := by
  subst hn
  rw [exec_condSend, execCondSend, h, if_neg (by decide), hsend]

theorem condSend_sends {c z : Nat} {x : List Nat} {l : List (Nat × Nat × Nat × List Nat)}
    (hsend : (s.seq n).sends = (c, z, 0, x) :: l) : exec (.condSend k) s =
      .next ((s.setSeq n { s.seq n with sends := l }).detSend k dtCond
        (BitVec.ofNat 64 ((s.passBits k n 0 x) * 2 ^ 32 + c % 2 ^ 32)) 0) := by
  subst hn
  rw [exec_condSend, execCondSend, h, if_neg (by decide), hsend]
  rfl

end

/-- What the notice that comes first in the priority order does. -/
theorem spanNoticeApply_first {n x : Nat} (hn : n = s.fld (F.FAB_SPAN_CFG_SEQ k))
    (ht : t = s.setSpan k { s.span k with notices := [] }) (h : s.fld (F.FAB_SPAN_STAT_STATE k) = spRunning)
    (hx : (s.span k).notice = some x) : exec (.spanNoticeApply k) s = .next (
      if x = dtFault then t.gangFault n 0xA
      else if x = dtAbort then t.setSeq n { t.seq n with sampled := ((t.seq n).sampled.1, (t.seq n).sampled.2.1, true) }
      else if x = dtStall then t.setSeq n { t.seq n with late := some ((t.seq n).late.getD 3) }
      else if x = dtPause then t.setSeq n { t.seq n with sampled := (true, (t.seq n).sampled.2) }
      else t.setSeq n { t.seq n with sampled := ((t.seq n).sampled.1, true, (t.seq n).sampled.2.2) }) := by
  subst hn ht
  rw [exec_spanNoticeApply, execSpanNoticeApply, h, if_neg (by decide), hx]

theorem Span.notice_empty {x : Span} (h : x.notices = []) : x.notice = none := by
  rw [Span.notice, h]
  rfl

theorem spanNoticeApply_none (h : s.fld (F.FAB_SPAN_STAT_STATE k) = spRunning) (hx : (s.span k).notices = []) :
    exec (.spanNoticeApply k) s = .next s := by
  rw [exec_spanNoticeApply, execSpanNoticeApply, h, if_neg (by decide), Span.notice_empty hx]

end

/-! ### Messages of the deterministic class (R346, R359 to R363) -/

theorem detMessageLost_down {s : State} {f : Fin 6} (a b : BitVec 4) (h : s.linkUp f = false) :
    exec (.detMessageLost f a b) s = .next s := congrArg done (if_neg (Bool.eq_false_iff.mp h))

/-- Both copies lost are lasting (R346). -/
theorem detMessageLost_lasting {s : State} {f : Fin 6} (a b : BitVec 4) (h : s.linkUp f = true) :
    exec (.detMessageLost f a b) s = .next
      ((((s.wordSeen f).countViolations f a.toNat).countViolations f b.toNat).lasting f a.toNat b.toNat false) :=
  congrArg done (if_pos h)

/-- A fabric trigger that arrives after its time is raised on arrival and counted; an earlier one waits. -/
theorem detTrig_heard {s t : State} {f : Fin 6} {d : DetHead} {k : Fin 8} {x : BitVec 64} (h : s.hears f = true)
    (hfirst : d.second = false) (hm : (s.group d.grp.toNat).member = true) (ha : s.hasAddr = true)
    (ht : t = (s.wordSeen f).detForward (some f.val) ⟨d.grp.toNat, d.src.toNat, dtTrig, x, k⟩) :
    exec (.detTrig f d k x) s = .next (if timeReached t.now x && t.now != x then (t.count R.FAB_TRIG_LATE).fabRaise k
      else t.fabUpd (fun b => { b with trigs := b.trigs ++ [(k.val, x)] })) := by
  subst ht
  exact congrArg done (State.rxDet_heard _ _ _ _ h hfirst hm ha)

/-! ### Fabric triggers (R363) -/

/-- FAB_TRIG_SEND sends the enabled triggers of SRC 0 that it names. -/
theorem fabTrigSend_sends {s : State} {a : Agent} (h : s.admits a .fab P.FAB = true) (b : Byte) : exec (.fabTrigSend a b) s =
    .next (((List.range 8).filter (fun k => b.getLsbD k && s.flag (F.FAB_TRIG_CFG_EN k)
      && s.fld (F.FAB_TRIG_CFG_SRC k) == 0)).foldl State.fabTrigger s) := by
  have hbits : ∀ k ∈ List.range 8, (b.setWidth 32 : Word).getLsbD k = b.getLsbD k := fun k hk => by
    rw [BitVec.getLsbD_setWidth, decide_eq_true ((List.mem_range.mp hk).trans (by decide)), Bool.true_and]
  rw [exec_fabTrigSend, execFabTrigSend, State.writeBy_ok _ _ h rfl rfl rfl rfl rfl, trigSendRule]
  dsimp only
  rw [List.filter_congr fun k hk => by rw [hbits k hk]]

section
variable {s : State} {k : Fin 8}

theorem fabricTrigRaise_none (h : s.fab.trigs = []) : exec (.fabricTrigRaise k) s = .next s := by
  rw [exec_fabricTrigRaise, execFabricTrigRaise, h]
  rfl

section
variable {t : BitVec 64} (h : s.fab.trigs = [(k.val, t)])
include h

theorem fabricTrigRaise_due (ht : timeReached s.now t = true) : exec (.fabricTrigRaise k) s =
    .next ((s.fabUpd (fun b => { b with trigs := [] })).fabRaise k) := by
  rw [exec_fabricTrigRaise, execFabricTrigRaise]
  simp [h, ht, removeFirst, State.fabUpd]

theorem fabricTrigRaise_early (ht : timeReached s.now t = false) : exec (.fabricTrigRaise k) s = .next s := by
  rw [exec_fabricTrigRaise, execFabricTrigRaise]
  simp [h, ht]

end

end

/-- Settles O55: a command of the window is one checked write, a message of the deterministic class that is heard acts on the state in
which it has gone on along the tree, and the part is the member there that it was; what else a clause says is its own lemma. -/
theorem fabricMessages : Obligations.FabricMessages := by
  unfold Obligations.FabricMessages
  refine ⟨fun s a c h => ⟨fun hb => ⟨congrArg done (State.rmCommand_busy h 1 c.toNat hb),
        congrArg done (State.rmCommand_busy h 2 c.toNat hb)⟩,
      fun hb hc => ⟨congrArg done (State.rmCommand_sends h (.inl rfl) c.isLt hb hc),
        congrArg done (State.rmCommand_sends h (.inr rfl) c.isLt hb hc)⟩,
      fun hb hc => congrArg done (State.rmCommand_tooMany h (.inl rfl) c.isLt hb hc)⟩,
    fun s b c => ⟨s.rmSend_zero b, State.rmSend_unreachable b⟩,
    fun s => ⟨fabRmTimeout_rests, fabRmTimeout_ends⟩,
    fun s t a k v h => ⟨fun hen => fabSpanEnable_refused h (.inl hen), fun _ hok => fabSpanEnable_refused h (.inr hok),
      fabSpanEnable_enables h⟩,
    fun s t a k x h => ⟨fabSpanGo_refused h, fabSpanGo_sends h⟩, ?_, ?_, ?_, ?_,
    fun s f => detMessageLost_lasting,
    fun s a b h => fabTrigSend_sends h b,
    fun s k t => ⟨fabricTrigRaise_none, fabricTrigRaise_due, fabricTrigRaise_early⟩⟩
  · rintro s t k n rfl ht
    refine ⟨csyncStart_unasked, fun hsync hen hdue => ?_⟩
    rw [csyncStart_due ht hsync hen hdue]
    refine ⟨fun hlate => ?_, fun hlate hno => ?_, fun hlate hst harm hok => ?_⟩
    · rw [if_pos hlate]
    · rw [hlate, hno, if_neg (by decide), if_pos (by simp)]
    · rw [hlate, hst, harm, hok, if_neg (by decide), if_neg (by decide)]
  · intro s k n hn
    refine ⟨fun h => ⟨condSend_rests h, spanNoticeApply_rests h⟩, condSend_none hn, fun c z x l h => condSend_sends hn h,
      spanNoticeApply_none, fun t ht h => ⟨fun hx => ?_, fun hx => ?_, fun hx => ?_⟩⟩ <;>
      exact spanNoticeApply_first hn ht h hx
  · intro s f d x c h
    have unheard (k : Nat) (b : BitVec 64) (n : Nat) (act : State → State) : done (s.rxDet f d k b n act) = .next s :=
      congrArg done (State.rxDet_down d k b n act h)
    exact ⟨unheard _ _ _ _, unheard _ _ _ _, unheard _ _ _ _, unheard _ _ _ _, unheard _ _ _ _, unheard _ _ _ _,
      unheard _ _ _ _, unheard _ _ _ _, unheard _ _ _ _, detMessageLost_down 0 0 h⟩
  · rintro s f d x c y h hfirst rfl hm ha
    have heard (k : Nat) (b : BitVec 64) (n : Nat) (act : State → State) : done (s.rxDet f d k b n act) =
        .next (act ((s.wordSeen f).detForward (some f.val) ⟨d.grp.toNat, d.src.toNat, k, b, n⟩)) :=
      congrArg done (State.rxDet_heard k b n act h hfirst hm ha)
    refine ⟨heard _ _ _ _, heard _ _ _ _, heard _ _ _ _, heard _ _ _ _, heard _ _ _ _, heard _ _ _ _, heard _ _ _ _,
      heard _ _ _ _, fun k hearly => ?_, fun k hreached hpast => ?_⟩
    · rw [detTrig_heard h hfirst hm ha rfl]
      exact congrArg done (if_neg (by rw [hearly]; exact Bool.false_ne_true))
    · rw [detTrig_heard h hfirst hm ha rfl]
      exact congrArg done (if_pos (by rw [hreached, bne_iff_ne.mpr hpast]; rfl))

end Sys2Proof.Machine
end

section
/-! PROOFS. The canonical form of the register window and of DRAM, and how a change of the state keeps it. -/

namespace Sys2Proof.Machine

open Sys2Proof

/-- The registers and the bytes of DRAM are listed in canonical form. -/
def State.Canon (s : State) : Prop := swf regReset s.regs = true ∧ Memory.wf s.dram.mem = true

theorem State.canonical_iff {s : State} : s.canonical = true ↔ s.Canon := by
  rw [State.canonical, State.Canon, Bool.and_eq_true, and_comm]

theorem swf_filter {α : Type} [DecidableEq α] {d : Nat → α} {l : List (Nat × α)} {p : Nat × α → Bool}
    (h : swf d l = true) : swf d (l.filter p) = true := by
  rw [swf_iff] at h ⊢
  exact ⟨h.1.sublist List.filter_sublist, fun e he => h.2 e (List.mem_of_mem_filter he)⟩

theorem swf_copyWords {d : Nat → Word} {p : Nat → Bool} {src dst : List (Nat × Word)} (h : swf d dst = true) :
    swf d (copyWords d p src dst) = true :=
  List.foldlRecOn (src.filter fun e : Nat × Word => p e.1) (fun l e => sset (d e.1) l e.1 e.2) (swf_sdrop d p dst h)
    fun l hl e _ => swf_sset d l e.1 e.2 hl

namespace State.Canon

variable {s t : State}

/-- A record with the registers and the bytes of DRAM of a state in canonical form is in canonical form. -/
theorem mk {pending : List Instr} {free dclk : Nat} {lastRead : BitVec 64} {act tabs tabAct : List (Nat × Word)} {tabLatch
    : List (Nat × (Nat × Word))} {loLatch : List (Nat × Word)} {dev : Dev} {monel : Monel} {hic : Hic} {sched : Sched}
    {cpu : Cpu} {dram : Dram} {time : Time} {part : Part} {seqs : List (Nat × Seq)} {master : List (Nat × Word)} {tgs :
    List (Nat × Tg)} {pins : List (Nat × Pin)} {pager : Pager} {cus : List (Nat × Cu)} {tus : List (Nat × Tu)} {fronts :
    List (Nat × (Nat × Nat))} {decs : List (Nat × DecCh)} {syns : List (Nat × Syn)} {cal : Cal} {fq : List (Nat × Queue)}
    {mover : Mover} {fab : Fab} {host : HostLink} {hostOut : List HostWrite}
    (h : s.Canon) (hmem : dram.mem = s.dram.mem := by rfl) : State.Canon ⟨pending, free, dclk, lastRead, s.regs, act,
    tabs, tabAct, tabLatch, loLatch, dev, monel, hic, sched, cpu, dram, time, part, seqs, master, tgs, pins, pager, cus,
    tus, fronts, decs, syns, cal, fq, mover, fab, host, hostOut⟩ := by
  rw [State.Canon, hmem]
  exact h

theorem ite {c : Prop} {_ : Decidable c} (ht : s.Canon) (he : t.Canon) : (if c then s else t).Canon := by
  split
  · exact ht
  · exact he

theorem ite_snd {α : Type} {c : Prop} {_ : Decidable c} {p q : α × State} (ht : p.2.Canon) (he : q.2.Canon) :
    (if c then p else q).2.Canon := by
  split
  · exact ht
  · exact he

theorem pair {α : Type} {x : α} (h : s.Canon) : ((x, s) : α × State).2.Canon := h

theorem snd {α : Type} {p : α × State} {x : α} (h : p.2.Canon) (heq : p = (x, t)) : t.Canon := by
  rw [heq] at h
  exact h

theorem snd2 {α β : Type} {p : α × β × State} {x : α} {y : β} (h : p.2.2.Canon) (heq : p = (x, y, t)) : t.Canon := by
  rw [heq] at h
  exact h

theorem snd3 {α β γ : Type} {p : α × β × γ × State} {x : α} {y : β} {z : γ} (h : p.2.2.2.Canon)
    (heq : p = (x, y, z, t)) : t.Canon := by
  rw [heq] at h
  exact h

theorem getD {o : Option State} (ho : ∀ t, o = some t → t.Canon) (h : s.Canon) : (o.getD s).Canon := by
  cases o with
  | none => exact h
  | some t => exact ho t rfl

theorem foldl {α : Type} {f : State → α → State} {l : List α} (hf : ∀ u x, u.Canon → (f u x).Canon) (h : s.Canon) :
    (l.foldl f s).Canon := List.foldlRecOn l f h fun u hu x _ => hf u x hu

theorem foldl_snd {α β : Type} {f : β × State → α → β × State} {l : List α} {p : β × State}
    (hf : ∀ (q : β × State) (x : α), q.2.Canon → (f q x).2.Canon) (h : p.2.Canon) : (l.foldl f p).2.Canon :=
  List.foldlRecOn l f h fun q hq x _ => hf q x hq

theorem setReg {o : Nat} {v : Word} (h : s.Canon) : (s.setReg o v).Canon := ⟨s.regsWf_setReg o v h.1, h.2⟩

theorem setMemByte {a : Nat} {b : Byte} (h : s.Canon) : (s.setMemByte a b).Canon := ⟨h.1, s.memWf_setMemByte a b h.2⟩

theorem setMem {a : Nat} {d : List Byte} (h : s.Canon) : (s.setMem a d).Canon := by
  induction d generalizing s a with
  | nil => exact h
  | cons b t ih => exact ih h.setMemByte

end State.Canon

/-- Where the outcome is a next state, that state is in canonical form. -/
def KeepsCanon (o : Host.Outcome State Fault Refusal) : Prop :=
  match o with
  | .next t => t.Canon
  | _ => True

/-- A rule of a register whose effect, and what a refusal does, keep the canonical form. -/
structure WRule.Canon (r : WRule) : Prop where
  eff : ∀ s : State, s.Canon → (r.eff s).Canon
  refused : ∀ (e : Reason) (s : State), s.Canon → (r.refused e s).Canon

namespace WRule.Canon

theorem ite {c : Prop} {_ : Decidable c} {r q : WRule} (hr : r.Canon) (hq : q.Canon) : (if c then r else q).Canon := by
  split
  · exact hr
  · exact hq

end WRule.Canon

section
variable {agentOk ownerOk stateOk orderOk rangeOk : Bool} {eff : State → State}

theorem State.Canon.of_eff (heff : ∀ s : State, s.Canon → (eff s).Canon) :
    WRule.Canon { agentOk, ownerOk, stateOk, orderOk, rangeOk, eff } := ⟨heff, fun _ _ h => h⟩

theorem State.Canon.of_refused {refused : Reason → State → State} (heff : ∀ s : State, s.Canon → (eff s).Canon)
    (href : ∀ (e : Reason) (s : State), s.Canon → (refused e s).Canon) :
    WRule.Canon { agentOk, ownerOk, stateOk, orderOk, rangeOk, eff, refused } := ⟨heff, href⟩

end

end Sys2Proof.Machine
end

section
/-! PROOFS. Each function of the model that makes a state keeps the canonical form of the register window and of DRAM, in the
order of the model. The proof of each names, in dots, the changes that the function makes one after the other; of a rule of a
register write it says that its effect does. -/

namespace Sys2Proof.Machine

open Sys2Proof

-- One theorem after the other: the threads of a thousand short theorems at once do not fit into the check's memory.
set_option Elab.async false

namespace State.Canon

variable {s : State} (h : s.Canon)
  {n k u off i f p b m q g r st cause ch len size src op cycle code status rd rs1 : Nat} {v : Word} {a : Agent}
  {chk : EccCheck} {c : CycleRec} {inj on : Bool} {d : Desc} {data : List Byte}

include h

/-! ### The functions of Machine/State.lean -/

omit h in
theorem reset : State.reset.Canon := ⟨by decide, memWf_reset⟩

/-! ### The functions of Machine/Ops.lean -/

theorem setFld {f : Fld} {v : Nat} : (s.setFld f v).Canon := h.setReg

theorem setFlag {f : Fld} {b : Bool} : (s.setFlag f b).Canon := h.setFld

theorem orReg {o : Nat} {m : Word} : (s.orReg o m).Canon := h.setReg

theorem clrReg {o : Nat} {m : Word} : (s.clrReg o m).Canon := h.setReg

theorem setBit {o : Nat} {b : Bool} : (s.setBit o i b).Canon := ite h.orReg h.clrReg

theorem count {o : Nat} : (s.count o).Canon := h.setReg

theorem raiseTo {o v : Nat} : (s.raiseTo o v).Canon := ite h.setReg h

theorem setReg64 {lo hi : Nat} {v : BitVec 64} : (s.setReg64 lo hi v).Canon := h.setReg.setReg

theorem answer {v : BitVec 64} : (s.answer v).Canon := h.mk

theorem fresh {w : Nat} : (s.fresh w).2.Canon := pair h.mk

theorem setHart {x : Hart} : (s.setHart i x).Canon := h.mk

theorem setTab {o : Nat} : (s.setTab o v).Canon := h.mk

theorem setMemNat {a v : Nat} : (s.setMemNat a n v).Canon := h.setMem

theorem setFrame {f : Frame} : (s.setFrame n f).Canon := h.mk

/-! ### The functions of Machine/Flags.lean -/

theorem faultInj : (s.faultInj p b inj).Canon := ite h.setBit.count h.setBit.mk

theorem fault : (s.fault p b).Canon := h.faultInj

theorem devFault : (s.devFault src inj).Canon := h.mk

theorem takeInj : (s.takeInj p b).2.Canon := ite_snd (pair h.setBit) h

theorem setTask {t : Task} : (s.setTask k t).Canon := h.mk

theorem makeReady {front timedOut : Bool} : (s.makeReady k front timedOut).Canon := h.setTask.mk

theorem testReady : (s.testReady k).2.Canon := ite_snd (pair h.makeReady) h

theorem pulseWith {setf : State → Nat → Nat → State} (hsetf : ∀ u x x1, u.Canon → (setf u x x1).Canon) :
    (State.pulseWith setf s i).Canon :=
  ite (hsetf _ _ _ h.setBit) h.setBit

theorem eventWith {setf : State → Nat → Nat → State} (hsetf : ∀ u x x1, u.Canon → (setf u x x1).Canon) :
    (State.eventWith setf s p b).Canon :=
  ite (foldl (fun _ _ h1 => h1.pulseWith hsetf) h.setBit) h.setBit

theorem traceStore {pat : Bool} {w0 w1 w2 : Nat} : (s.traceStore pat w0 w1 w2).Canon :=
  ite h.fault.setFlag h.setMem.setReg.raiseTo.count

theorem setTraceLost {pat : Bool} : (s.setTraceLost pat n).Canon := h.mk

theorem traceRecord {pat : Bool} {w0 w1 w2 : Nat} : (s.traceRecord pat w0 w1 w2).Canon := by
  unfold State.traceRecord
  refine ite h ?_
  dsimp only
  refine ite ((ite h.traceStore.setTraceLost h).traceStore) ?_
  refine ite ?_ ((ite h.traceStore.setTraceLost h).setTraceLost.count)
  exact (ite h.traceStore.setTraceLost h).setTraceLost.count.eventWith (fun _ _ _ h1 => h1.setTask.testReady)

theorem traceSched {ty unit : Nat} {race : Bool} {w2 : Nat} : (s.traceSched ty k unit race w2).Canon :=
  ite h.traceRecord h

theorem tracePattern {ty : Nat} {stamp : BitVec 64} {w2 : Nat} : (s.tracePattern ty n cycle stamp w2).Canon :=
  h.traceRecord

theorem setFlagTraced : (State.setFlagTraced src s k f).Canon := by
  unfold State.setFlagTraced
  dsimp only
  split
  · next heq =>
    exact (h.setTask.traceSched.testReady.snd heq).traceSched
  · next heq =>
    exact h.setTask.traceSched.testReady.snd heq

theorem preempt : (s.preempt n).Canon := by
  induction n generalizing s with
  | zero => exact h
  | succ n ih =>
    have hwithdrawn := foldl (l := List.range 8) (f := fun s h =>
      if s.flag (F.HART_SCHED_CUR_PREEMPT_REQ h) && !(s.readyThreads.any (fun k =>
          decide (s.fld (F.HART_SCHED_CUR_PRIO h) < (s.task k).prio)))
      then s.setFlag (F.HART_SCHED_CUR_PREEMPT_REQ h) false else s) (fun _ _ h => ite h.setFlag h) h
    refine ite hwithdrawn ?_
    split
    · exact hwithdrawn
    · exact ih (hwithdrawn.setFlag.traceSched.eventWith (fun _ _ _ h => h.setFlagTraced))

theorem settle : s.settle.Canon := foldl (fun _ _ h1 => h1.raiseTo) h.preempt

theorem setTaskFlag : (State.setTaskFlag src s k f).Canon := h.setFlagTraced.settle

theorem event : (s.event p b).Canon := h.eventWith (fun _ _ _ h1 => h1.setTaskFlag)

theorem pulse : (s.pulse i).Canon := h.pulseWith (fun _ _ _ h1 => h1.setTaskFlag)

theorem setMode : (s.setMode m).Canon := h.setFld.setFld.count.event

theorem deriveMode : s.deriveMode.Canon := ite (ite h h.setMode) h

theorem setPart : (s.setPart k st).Canon := ite h (ite h.setFld.event.event h.setFld.event).deriveMode

/-! ### The functions of Machine/Operands.lean -/

theorem reject {r : Reason} : (s.reject p off r).Canon :=
  ite h.setFlag.setFld.setReg.count.devFault h.setFlag.setFld.setReg.count

theorem checkedWrite {alignOk : Bool} {r : WRule} (hr : r.Canon) : (s.checkedWrite a g p off alignOk r).Canon := by
  unfold State.checkedWrite
  split
  · exact hr.refused _ _ h.reject
  · exact hr.eff _ h

theorem shadowWritten : (s.shadowWritten p).Canon := ite h.setFld.setFlag.setFld.setFlag.setFlag h.setFld.setFlag

theorem storeReg : (s.storeReg p off v).Canon := by
  unfold State.storeReg
  split
  · exact h
  · exact ite h.setReg.shadowWritten h.setReg

omit h in
theorem keeps_plainRule : (plainRule p off v).Canon := of_eff (fun _ h => h.storeReg)

theorem commitRequest {expect : Word} : (s.commitRequest p expect).Canon :=
  ite h.setFld.setFlag.setFlag h.setFld.setFlag

theorem transferred : (s.transferred p).Canon := h.setFld.setFld.setFld.setFld.setFlag.setFlag

theorem copyShadow {tables : Nat → Bool} : (s.copyShadow p tables).Canon := h.mk

theorem writeBy {k : PageKind} {r : WRule} (hr : r.Canon) : (s.writeBy a k p off r).Canon := ite (h.checkedWrite hr) h

omit h in
theorem keeps_ctrlRule {enable : Bool → State → State} {reset : State → State}
    (henable : ∀ x u, u.Canon → (enable x u).Canon) (hreset : ∀ u, u.Canon → (reset u).Canon) :
    (ctrlRule p v enable reset).Canon := by
  unfold ctrlRule
  exact of_eff (fun _ h => ite (hreset _ (ite (henable _ _ (ite h.setFlag.setFlag.setFlag.setFld
    h.setFlag.setFlag.setFlag)) (ite h.setFlag.setFlag.setFlag.setFld h.setFlag.setFlag.setFlag))) (ite (henable _ _
    (ite h.setFlag.setFlag.setFlag.setFld h.setFlag.setFlag.setFlag)) (ite h.setFlag.setFlag.setFlag.setFld
    h.setFlag.setFlag.setFlag)))

omit h in
theorem keeps_injRule {k : PageKind} : (injRule k p v).Canon := of_eff (fun _ h => h.orReg)

omit h in
theorem keeps_evtRule : (evtRule p v).Canon := of_eff (fun _ h => h.clrReg)

omit h in
theorem keeps_fltRule : (fltRule p v).Canon := of_eff (fun _ h => h.clrReg)

omit h in
theorem keeps_evtEnRule : (evtEnRule p v).Canon := of_eff (fun _ h => h.setReg)

omit h in
theorem keeps_commitRule {k : PageKind} : (commitRule k p v s).Canon := of_eff (fun _ h => ite h.commitRequest h)

omit h in
theorem keeps_ownerRule : (ownerRule a p v).Canon := of_eff (fun _ h => h.setFld.setFld)

omit h in
theorem keeps_ignored : ignored.Canon := of_eff (fun _ h => h)

omit h in
theorem keeps_headerRule {k : PageKind} {enable : Bool → State → State} {reset : State → State}
    (henable : ∀ x u, u.Canon → (enable x u).Canon) (hreset : ∀ u, u.Canon → (reset u).Canon) :
    (headerRule a k p off v s enable reset).Canon := by
  unfold headerRule
  refine WRule.Canon.ite (keeps_ctrlRule henable hreset) ?_
  refine WRule.Canon.ite (of_eff (fun _ h => ite h.setFlag h)) ?_
  refine WRule.Canon.ite keeps_evtRule ?_
  refine WRule.Canon.ite keeps_evtEnRule ?_
  exact WRule.Canon.ite keeps_fltRule (WRule.Canon.ite keeps_injRule (WRule.Canon.ite keeps_commitRule (WRule.Canon.ite
    keeps_ownerRule keeps_ignored)))

theorem latch : (s.latch a off v).Canon := h.mk

/-! ### The functions of Machine/Link.lean -/

theorem setFport {x : FPort} : (s.setFport f x).Canon := h.mk

theorem setFpState {x : Nat} : (s.setFpState f x).Canon := h.setFld

theorem put {x : Sent} : (s.put f x).Canon := h.mk

theorem putSet {b1 b2 b3 : Nat} : (s.putSet f b1 b2 b3).Canon := h.put

theorem linkWake : (s.linkWake f).Canon := ite h.putSet.setFpState h

theorem pump : (s.pump f n).Canon := by
  induction n generalizing s with
  | zero => exact h
  | succ n ih =>
    refine ite h ?_
    split
    · exact h
    · exact ih h.setFport.put

theorem sendOn {k : Packet} : (s.sendOn f k).Canon := ite h h.linkWake.setFport.pump

theorem sendLocal {b : PktBody} : (s.sendLocal f b).Canon := h.sendOn

theorem unsettle : s.unsettle.Canon := h.setFlag.mk

theorem checkTables : s.checkTables.Canon := by
  unfold State.checkTables
  split
  · next heq =>
    exact (h.takeInj.snd heq).unsettle.faultInj
  · next heq =>
    exact h.takeInj.snd heq

theorem sendRouted {k : Packet} : (s.sendRouted k).Canon := by
  unfold State.sendRouted
  dsimp only
  split
  · exact h.checkTables.sendOn
  · exact h.checkTables.count

theorem sendTo {dst : Nat} {b : PktBody} : (s.sendTo dst b).Canon := ite h.sendRouted h

theorem forward {k : Packet} : (s.forward k).Canon := by
  unfold State.forward
  refine ite h.count ?_
  dsimp only
  split
  · exact h.checkTables.sendOn
  · exact h.checkTables.count.sendTo

theorem multicast {from? : Option Nat} {k : Packet} : (s.multicast g from? k).Canon :=
  foldl (fun _ _ h1 => h1.sendOn) h.checkTables

theorem detOn {m : DetMsg} : (s.detOn m f).Canon := ite h.fault h.setFport.raiseTo.linkWake

theorem detForward {from? : Option Nat} {m : DetMsg} : (s.detForward from? m).Canon :=
  ite h (foldl (fun _ _ h1 => h1.detOn) h.checkTables)

theorem detTick : (s.detTick f).Canon := by
  unfold State.detTick
  dsimp only
  split
  · exact h
  · exact ite h (ite h.setFport h.setFport.put)

theorem fabTrigger : (s.fabTrigger k).Canon := ite h.detForward.mk h.detForward

theorem fabSource : (s.fabSource src i).Canon := foldl (fun _ _ h1 => h1.fabTrigger) h

/-! ### The functions of Machine/Dram.lean -/

theorem takeFrames {o : Word} : (s.takeFrames p o f n).Canon :=
  (foldl (fun _ _ h1 => h1.setFrame) h).setFld.raiseTo.setFld.setReg

theorem retireMark : (s.retireMark n).Canon := h.mk.setFld.event

theorem frameLost : (s.frameLost n).Canon := by
  unfold State.frameLost
  refine ite h ?_
  dsimp only
  split
  · exact h.setFrame.setFld.retireMark
  · exact h.setFrame.setFld.retireMark
  · exact h.setFrame.setFld
  · exact h

theorem ftRead : (s.ftRead n).2.Canon := by
  unfold State.ftRead
  split
  · next heq =>
    exact pair (h.takeInj.snd heq).frameLost.faultInj
  · next heq =>
    exact h.takeInj.snd heq

theorem allocFrames {o : Word} {run : Bool} : (s.allocFrames p o n run).2.Canon := by
  unfold State.allocFrames
  refine ite_snd h ?_
  split
  · exact h
  · split
    · next heq =>
      exact pair (h.ftRead.snd heq).takeFrames
    · next heq =>
      have h1 := h.ftRead.snd heq
      split
      · exact h1
      · exact pair h1.takeFrames

theorem hwAlloc {o : Word} {run : Bool} : (s.hwAlloc p o n run).2.Canon := by
  unfold State.hwAlloc
  split
  · next heq =>
    exact h.allocFrames.snd heq
  · next heq =>
    exact pair (h.allocFrames.snd heq).event

theorem freeFrame : (s.freeFrame n).Canon := by
  unfold State.freeFrame
  split
  · next heq =>
    exact h.ftRead.snd heq
  · next heq =>
    have h1 := h.ftRead.snd heq
    dsimp only
    split
    · exact h1.setFrame.setFld.setFld
    · exact h1.setFrame.setFld
    · exact h1

theorem releaseFrames : (s.releaseFrames f n).Canon := foldl (fun _ _ h1 => h1.freeFrame) h

theorem retireFrame : (s.retireFrame n).Canon := by
  unfold State.retireFrame
  refine ite h ?_
  split
  · next heq =>
    exact h.ftRead.snd heq
  · next heq =>
    have h1 := h.ftRead.snd heq
    dsimp only
    split
    · exact h1.setFrame.setFld.retireMark
    · exact h1.setFrame.retireMark
    · exact h1

theorem chanFail : (s.chanFail n).Canon := ite (foldl (fun _ _ h1 => h1.retireFrame) h.setFld.fault) h.setFld.fault

theorem allocServe : (s.allocServe v).Canon := by
  unfold State.allocServe
  dsimp only
  refine ite ?_ ?_
  · split
    · next heq =>
      exact (h.allocFrames.snd heq).setReg.event
    · next heq =>
      exact (h.allocFrames.snd heq).setReg.event
  · refine ite ?_ (ite h.retireFrame.setReg.event h.ftRead.setReg.setReg.event)
    split
    · exact h.ftRead.setReg.event
    · exact h.ftRead.releaseFrames.setReg.event

omit h in
theorem keeps_allocCmdRule : (allocCmdRule v s).Canon := of_eff (fun _ h => h.setFlag.mk)

omit h in
theorem keeps_allocMapRule : (allocMapRule a v s).Canon := of_eff (fun _ h => h.setReg.setFld.setFld)

omit h in
theorem keeps_allocRule : (allocRule a off v s).Canon := by
  unfold allocRule
  refine WRule.Canon.ite keeps_allocMapRule ?_
  refine WRule.Canon.ite keeps_allocCmdRule ?_
  refine WRule.Canon.ite (of_eff (fun _ h => h.setReg)) ?_
  refine WRule.Canon.ite (of_eff (fun _ h => h.setReg)) ?_
  refine WRule.Canon.ite (of_eff (fun _ h => h.setReg)) ?_
  exact WRule.Canon.ite (WRule.Canon.ite (of_eff (fun _ h => h.setReg)) (WRule.Canon.ite (of_eff (fun _ h => h.setReg))
    keeps_ignored)) keeps_ignored

theorem frameCmd {pool count : Nat} : (s.frameCmd a op pool count).Canon := h.writeBy keeps_allocCmdRule

theorem keeps_execAllocServe : KeepsCanon (execAllocServe s) := by
  unfold execAllocServe
  split
  · exact h
  · exact h.mk.allocServe

theorem activate {sub : Nat} {r : Requester} {x : Activate} : (s.activate n sub r x).Canon := by
  unfold State.activate
  dsimp only
  exact ite h.mk (ite h.mk.setFld h.mk.setFld.setFlag).count.event

theorem srExit : (s.srExit n).Canon := ite h.setFld.event h

theorem injectRead {c : ReadCheck} : (s.injectRead n c).2.2.Canon := by
  unfold State.injectRead
  split
  · next heq =>
    exact h.takeInj.snd heq
  · next heq =>
    have h1 := h.takeInj.snd heq
    split
    · next heq =>
      exact h1.takeInj.snd heq
    · next heq =>
      have h2 := h1.takeInj.snd heq
      split
      · next heq =>
        exact h2.takeInj.snd heq
      · next heq =>
        exact h2.takeInj.snd heq

theorem readCheck {a : Nat} {c : ReadCheck} : (s.readCheck n a c).Canon := by
  unfold State.readCheck
  split
  · next heq =>
    have h1 := h.injectRead.snd2 heq
    dsimp only
    split
    · exact h1
    · exact h1.count.setReg.setReg.faultInj
    · exact h1.count.faultInj
    · exact h1.setReg.setReg.faultInj.retireFrame

theorem activateOpt {sub : Nat} {r : Requester} {x : Option Activate} : (s.activateOpt n sub r x).Canon := by
  unfold State.activateOpt
  split
  · exact h.activate
  · exact h

theorem keeps_execDramRead {addr : BitVec 40} {r : Requester} {chk : ReadCheck} {act : Option Activate} :
    KeepsCanon (execDramRead addr r chk act s) := by
  unfold execDramRead
  dsimp only
  exact ite h (ite h.srExit.activateOpt (ite h.srExit.activateOpt.readCheck h.srExit.activateOpt.readCheck.answer))

theorem writeFail {r : Requester} : (s.writeFail r).Canon := by
  unfold State.writeFail
  split
  · exact h.fault
  · exact h.fault
  · exact h.fault
  · exact h

theorem keeps_execDramWrite {addr : BitVec 40} {r : Requester} {act : Option Activate} :
    KeepsCanon (execDramWrite addr r data act s) := by
  unfold execDramWrite
  dsimp only
  exact ite h (ite h.srExit.activateOpt.writeFail h.srExit.activateOpt.setMem)

theorem keeps_execCaParityAlert {n : Fin 8} {o : AlertOutcome} : KeepsCanon (execCaParityAlert n o s) := by
  unfold execCaParityAlert
  dsimp only
  refine ite ?_ h
  split
  · exact h.setFld.count.fault
  · exact h.chanFail
  · exact h.setFld

theorem dramSleep : s.dramSleep.Canon := foldl (fun _ _ h1 => ite h1.setFld.event h1) h

theorem dramWake : s.dramWake.Canon := foldl (fun _ _ h1 => h1.srExit) h

theorem dramRetain : s.dramRetain.Canon := foldl (fun _ _ h1 => ite h1.setFlag.mk h1) h

theorem coldDram {old : State} (hold : old.Canon) : (s.coldDram old).Canon :=
  foldl (fun _ _ h => ite h.setFlag.setFlag h) ⟨h.1, swf_filter hold.2⟩

theorem dramEnable : (State.dramEnable n on s).Canon := ite (ite h.setFld.setFld h) h.setFld

theorem trnStart : (s.trnStart n v).Canon := h.setReg.mk

omit h in
theorem keeps_trnRule : (trnRule a n v s).Canon := of_eff (fun _ h => h.trnStart)

omit h in
theorem keeps_dramRule : (dramRule a n off v s).Canon := by
  unfold dramRule
  refine WRule.Canon.ite (of_eff (fun _ h => h.setReg)) ?_
  refine WRule.Canon.ite (of_eff (fun _ h => h.setReg)) ?_
  refine WRule.Canon.ite (of_eff (fun _ h => h.setReg)) ?_
  refine WRule.Canon.ite (of_eff (fun _ h => h.setReg)) ?_
  refine WRule.Canon.ite (of_eff (fun _ h => h.setFlag)) ?_
  refine WRule.Canon.ite keeps_trnRule ?_
  refine WRule.Canon.ite (of_eff (fun _ h => h.setReg)) ?_
  refine WRule.Canon.ite (of_eff (fun _ h => h.setReg)) ?_
  exact WRule.Canon.ite (of_eff (fun _ h => h.setReg)) (WRule.Canon.ite (of_eff (fun _ h => h.setReg)) (WRule.Canon.ite
    (of_eff (fun _ h => h.mk)) keeps_ignored))

theorem train {rank sub : Bool} : (s.train a n op rank sub).Canon := h.writeBy keeps_trnRule

theorem trainFail : (s.trainFail n).Canon := h.fault.chanFail

theorem loseChannel : (s.loseChannel n).Canon := by
  refine ⟨h.1, ?_⟩
  unfold State.loseChannel
  dsimp only
  split
  · exact swf_filter h.2
  · exact h.2

theorem applyDelays : (s.applyDelays n).Canon := h.mk

theorem trnEnd {passed : Bool} : (s.trnEnd n passed).2.Canon := by
  unfold State.trnEnd
  dsimp only
  refine ite_snd (pair h.mk) ?_
  refine ite_snd (pair h.fresh.mk) ?_
  refine ite_snd (pair h.applyDelays) ?_
  refine ite_snd (ite_snd (pair h.loseChannel.setFld.event) (pair h.loseChannel.trainFail)) ?_
  exact ite_snd (ite_snd (pair h.setFlag.setFld.event.event) (pair h.loseChannel.setFlag)) (ite_snd h (ite_snd h (pair
    h.trainFail)))

theorem trnReport {w e : List (BitVec 7 × Word)} : (s.trnReport n w e).Canon := h.mk

theorem keeps_execDramTrnDone {n : Fin 8} {passed : Bool} {windows errs : List (BitVec 7 × Word)} :
    KeepsCanon (execDramTrnDone n passed windows errs s) := by
  unfold execDramTrnDone
  refine ite ?_ h
  dsimp only
  exact h.trnReport.trnEnd.setReg.event

theorem dramReset : (s.dramReset n).Canon := h.mk

/-! ### The functions of Machine/Fq.lean -/

theorem setQueue {q : Queue} : (s.setQueue k q).Canon := h.mk

theorem queueComplete {item : List (BitVec 64)} : (s.queueComplete k item).Canon := h.setQueue.setFlag.raiseTo

theorem queueOpen {producer opener : Nat} : (s.queueOpen k producer len opener).Canon :=
  ite h.count.queueComplete h.count.setQueue.setFlag

theorem queuePayload {w : BitVec 64} : (s.queuePayload k w).Canon :=
  ite (ite h.count.setFld.setQueue.setFlag h.count.setFld) (ite h.queueComplete h.setQueue)

theorem queueOffer {chan : Nat} {w0 w1 : BitVec 64} : (s.queueOffer k chan w0 w1).2.Canon :=
  ite_snd (pair h.queueOpen.queuePayload.queuePayload) (pair h.count)

theorem queueTake {w : BitVec 64} {hdr bad : Bool} {t : State} (heq : s.queueTake k chk = some (w, hdr, bad, t)) :
    t.Canon := by
  unfold State.queueTake at heq
  extract_lets q at heq
  split at heq
  · cases heq
  · extract_lets items at heq
    split at heq
    next hinj =>
      have h1 := h.setQueue.takeInj.snd hinj
      split at heq
      · cases heq
        exact h1.setFlag.faultInj
      · split at heq
        · cases heq
          exact h1.count.count
        · cases heq
          exact h1

omit h in
theorem keeps_queueCfgRule : (queueCfgRule k v s).Canon :=
  of_eff (fun _ h => ite h.setReg h.setReg.setQueue.setFlag.setFld.setFld)

omit h in
theorem keeps_queuePushRule {hi : Word} : (queuePushRule a k hi s).Canon := by
  refine of_eff fun s h => ?_
  dsimp only
  split
  · exact h.setQueue.queuePayload
  · exact h.setQueue.queueOpen

theorem queueFlush : (s.queueFlush k).Canon := by
  unfold State.queueFlush
  dsimp only
  split
  · exact h.setQueue
  · exact ite h.setQueue h.setQueue.setFld.setFlag.event

omit h in
theorem keeps_fqRule : (fqRule a off v s).Canon := by
  unfold fqRule
  refine WRule.Canon.ite ?_ keeps_ignored
  extract_lets
  refine WRule.Canon.ite keeps_queueCfgRule ?_
  refine WRule.Canon.ite (of_eff (fun _ h => h.clrReg)) ?_
  exact WRule.Canon.ite (of_eff (fun _ h => h.setQueue)) (WRule.Canon.ite keeps_queuePushRule (WRule.Canon.ite (of_eff
    (fun _ h => ite h.queueFlush h)) keeps_ignored))

theorem queuePop : (s.queuePop a k chk).2.Canon := by
  unfold State.queuePop
  refine ite_snd (pair h.latch.latch) ?_
  split
  · exact h.count.setFlag.latch.latch
  · next heq => exact (h.queueTake heq).latch.latch

theorem keeps_execFqPop {k : Fin 32} : KeepsCanon (execFqPop a k chk s) := by
  unfold execFqPop
  refine ite ?_ h
  split
  · next heq =>
    exact (h.queuePop.snd heq).answer

/-! ### The functions of Machine/Dma.lean -/

theorem dmaEnd : (s.dmaEnd ch st).Canon := by
  unfold State.dmaEnd
  extract_lets _ _ _ _ _ s1 s2
  have h1 : s1.Canon := ite h.setFld.setFlag.setFld.mk h.setFld.setFlag.setFld
  have h2 : s2.Canon := ite h1.fault h1
  exact ite h2.count.event h2.event

theorem dmaComplete : (s.dmaComplete ch).Canon := ite h.dmaEnd (ite h.dmaEnd (ite h.dmaEnd h.setMem.dmaEnd))

theorem dmaStart : (s.dmaStart ch).Canon := by
  unfold State.dmaStart
  dsimp only
  refine ite h.setFld.setFlag.setReg64.setReg.dmaComplete ?_
  refine ite h.setFld.setFlag.setReg64.setReg.dmaEnd ?_
  refine ite h.setFld.setFlag.setReg64.setReg.dmaEnd ?_
  exact ite h.setFld.setFlag.setReg64.setReg.dmaEnd (ite h.setFld.setFlag.setReg64.setReg.setFlag
    h.setFld.setFlag.setReg64.setReg)

theorem dmaTake : (State.dmaTake k n s).2.2.Canon := by
  induction n generalizing s with
  | zero => exact h
  | succ n ih =>
    unfold State.dmaTake
    split
    · exact h
    · next heq =>
      have h1 := h.queueTake heq
      split
      · exact h1
      · exact ih h1

theorem dmaWrite {addr : Nat} {at0 : Bool} {l : List Byte} {t : State} (heq : s.dmaWrite ch at0 addr l = .ok t) :
    t.Canon := by
  unfold State.dmaWrite at heq
  dsimp only at heq
  split at heq
  · split at heq
    · cases heq
    · cases heq
      exact h.setMem
  · split at heq
    · split at heq
      · cases heq
        exact h.mk
      · cases heq
    · cases heq
      exact foldl (fun _ _ h => h.queuePayload) (ite h.queueOpen h)

theorem dmaWrote {l : List Byte} : (s.dmaWrote ch l).Canon := h.setReg64.setReg

theorem dmaRead_ok {l : List Byte} {t : State} (heq : s.dmaRead ch len data = .ok (l, t)) : t.Canon := by
  unfold State.dmaRead at heq
  dsimp only at heq
  split at heq
  · split at heq
    · cases heq
    · cases heq
      exact h
  · split at heq
    · split at heq
      · cases heq
        exact h
      · cases heq
    · split at heq
      · cases heq
      · next htake =>
        cases heq
        exact h.dmaTake.snd2 htake

theorem dmaRead_error {t : State} (heq : s.dmaRead ch len data = .error (st, t)) : t.Canon := by
  unfold State.dmaRead at heq
  dsimp only at heq
  split at heq
  · split at heq
    · cases heq
      exact h
    · cases heq
  · split at heq
    · split at heq
      · cases heq
      · cases heq
        exact h
    · split at heq
      · next htake =>
        cases heq
        exact h.dmaTake.snd2 htake
      · cases heq

theorem dmaBeat : (s.dmaBeat ch data).Canon := by
  unfold State.dmaBeat
  dsimp only
  split
  · next heq => exact (h.dmaRead_error heq).dmaEnd
  · next hread =>
    have h1 := h.dmaRead_ok hread
    split
    · next heq => exact (h1.takeInj.snd heq).faultInj.dmaEnd
    · next heq =>
      have h2 := h1.takeInj.snd heq
      split
      · exact h2.dmaEnd
      · next hwrite =>
        have h3 := h2.dmaWrite hwrite
        exact ite h3.dmaWrote.setFlag h3.dmaWrote

theorem dmaFail {e : DmaError} : (s.dmaFail ch e).Canon := by
  unfold State.dmaFail
  refine dmaEnd ?_
  split
  · cases htake : s.queueTake ((s.dmaSrc ch).addr.toNat % 32) .double with
    | none => exact h
    | some x => exact h.queueTake htake
  · exact h.fault
  · exact h

theorem dmaRun {fail : Option (Nat × DmaError)} : (State.dmaRun ch n data fail s).Canon := by
  induction n generalizing s data fail with
  | zero => exact h
  | succ n ih =>
    refine ite h (ite h.dmaComplete ?_)
    split
    · exact h.dmaFail
    · exact ite h (ih h.dmaBeat)

theorem dmaTick : s.dmaTick.Canon := by
  unfold State.dmaTick
  dsimp only
  split
  · exact h.mk
  · exact h.mk.dmaBeat

theorem dmaEndAll {chans : List Nat} : (s.dmaEndAll chans st).Canon := foldl (fun _ _ h1 => ite h1.dmaEnd h1) h

omit h in
theorem keeps_dmaCtrlRule : (dmaCtrlRule ch v s).Canon :=
  of_eff (fun _ h => ite (ite h.dmaComplete h.dmaEnd) (ite h.setReg.dmaStart h.setReg))

omit h in
theorem keeps_dmaRule : (dmaRule a n off v s).Canon := by
  unfold dmaRule
  refine WRule.Canon.ite (of_eff (fun _ h => h.setReg)) ?_
  refine WRule.Canon.ite ?_ keeps_ignored
  extract_lets
  refine WRule.Canon.ite keeps_dmaCtrlRule ?_
  refine WRule.Canon.ite (of_eff (fun _ h => h.setReg)) ?_
  exact WRule.Canon.ite (of_eff (fun _ h => h.setReg)) (WRule.Canon.ite (of_eff (fun _ h => h.setReg)) (WRule.Canon.ite
    (of_eff (fun _ h => h.setReg)) keeps_ignored))

/-! ### The functions of Machine/Gang.lean -/

theorem setSeq {q : Seq} : (s.setSeq n q).Canon := h.mk

theorem setTg {x : Tg} : (s.setTg n x).Canon := h.mk

theorem setPin {x : Pin} : (s.setPin ch x).Canon := h.mk

theorem setSyn {x : Syn} : (s.setSyn n x).Canon := h.mk

theorem safePins {l : List Nat} : (s.safePins l).Canon := foldl (fun _ _ h1 => h1.setPin) h

theorem maskPart : (s.maskPart n k).Canon := h.setReg64

theorem setAddr {lo hi a : Nat} : (s.setAddr lo hi a).Canon := h.setReg.setReg

theorem gangFault : (s.gangFault n cause).Canon := ite h.setSeq.safePins h

theorem setPage {v loc : Nat} : (s.setPage v loc st).Canon := by
  unfold State.setPage
  split
  · exact h
  · exact h.setMemNat.setMemNat

theorem setWalker {w : Walker} : (s.setWalker n w).Canon := h.mk

/-! ### The functions of Machine/Hic.lean -/

theorem setNest {t : Nat} {l : List (Nat × Nat)} : (s.setNest t l).Canon := h.mk

theorem setHeldOff {t : Nat} {b : Bool} : (s.setHeldOff t b).Canon := h.mk

theorem delivered {t : Nat} : (s.delivered t).Canon := ite h.count.count.setHeldOff h.count.count

theorem checkSource : (s.checkSource i).Canon := by
  unfold State.checkSource
  split
  · next heq =>
    exact (h.takeInj.snd heq).mk.faultInj
  · next heq =>
    exact h.takeInj.snd heq

theorem hicClaim {t : Nat} : (s.hicClaim a t).2.Canon := by
  unfold State.hicClaim
  refine ite_snd h ?_
  split
  · exact h
  · exact ite_snd (pair h.checkSource) (pair h.checkSource.setBit.setNest.delivered)

omit h in
theorem keeps_completeRule {t : Nat} : (completeRule a t v s).Canon := of_eff (fun _ h => h.setNest)

omit h in
theorem keeps_swiRule : (swiRule v).Canon := of_eff (fun _ h => foldl (fun _ _ h1 => h1.pulse) h)

omit h in
theorem keeps_hicRule : (hicRule a off v s).Canon := by
  unfold hicRule
  extract_lets
  refine WRule.Canon.ite (of_eff (fun _ h => h.setReg)) ?_
  refine WRule.Canon.ite (of_eff (fun _ h => h.mk)) ?_
  refine WRule.Canon.ite (of_eff (fun _ h => h.mk)) ?_
  refine WRule.Canon.ite (of_eff (fun _ h => h.mk)) ?_
  refine WRule.Canon.ite keeps_swiRule ?_
  refine WRule.Canon.ite (of_eff (fun _ h => h.setReg)) ?_
  refine WRule.Canon.ite (of_eff (fun _ h => h.clrReg)) ?_
  refine WRule.Canon.ite ?_ keeps_ignored
  exact WRule.Canon.ite (of_eff (fun _ h => h.setReg)) (WRule.Canon.ite keeps_completeRule (WRule.Canon.ite (of_eff (fun
    _ h => h.setReg)) keeps_ignored))

theorem hicReset : s.hicReset.Canon := h.mk

theorem msixIssue {v : Nat} : (s.msixIssue v).Canon := (foldl (fun _ _ h1 => h1.setBit) h).delivered.mk

/-! ### The functions of Machine/Time.lean -/

theorem setTime {t : Time} : (s.setTime t).Canon := h.mk

theorem moveCounter {i : Int} : (s.moveCounter i).Canon := h.setTime

theorem timeTick : s.timeTick.Canon :=
  ite (ite (ite h h.moveCounter).setTime (ite h h.moveCounter)).setTime (ite (ite h h.moveCounter).setTime (ite h
    h.moveCounter))

theorem setSstate {x : Nat} : (s.setSstate x).Canon := by
  unfold State.setSstate
  extract_lets _ _ s1
  have h1 : s1.Canon := ite h.setFld.setFlag.event h.setFld.setFlag
  exact ite h (ite h1.event (ite h1.setTime.event h1))

theorem setAstate {x : Nat} : (s.setAstate x).Canon :=
  ite h (ite h.setFld.setTime.event (ite h.setFld.setTime.event h.setFld.setTime))

theorem tpllLock {us : Nat} : (s.tpllLock us).Canon :=
  ite h.setTime.setReg.count.event.setSstate h.setTime.setReg.count.event

theorem timeWake {ticks : Nat} : (s.timeWake ticks).Canon :=
  (ite h.moveCounter.setSstate.setAstate h.moveCounter.setSstate).setTime

theorem recordStep {ns : Int} : (s.recordStep ns).Canon := h.count.setFld.event

theorem stepBy {e : Int} : (s.stepBy e).Canon := h.moveCounter.recordStep

omit h in
theorem keeps_timeCmdRule : (timeCmdRule v s).Canon := of_eff (fun _ h => ite h.setTime.recordStep h)

theorem setY {y : Int} : (s.setY y).Canon := ite h.setTime h.setTime.fault

theorem lockState : s.lockState.Canon := ite h.setSstate (ite h.setSstate h)

theorem stepHeld : s.stepHeld.Canon := h.setFlag.event

theorem servo {e : Int} {d : Nat} : (s.servo e d).Canon := by
  unfold State.servo
  dsimp only
  refine ite h.stepBy.setSstate.setTime.setFlag ?_
  split
  · exact (ite (ite h.stepHeld h.setFlag) (ite h.stepHeld h.setFlag).setY).setTime.setSstate
  · exact ite (ite h.stepHeld h.setFlag).setY.setTime.setSstate (ite h.stepHeld h.setFlag).setY.setTime

theorem setTarget {t : Int} : (s.setTarget t).Canon := ite h.setTime h.setTime.setAstate.fault

theorem alignAverage {sum : Int} : (s.alignAverage sum).Canon :=
  ite h.setReg.setTime.setTarget.setAstate (ite h.setReg.setTime.setTarget.setAstate h.setReg.setTime.setTarget)

theorem align {e : Int} : (s.align e).Canon := by
  unfold State.align
  extract_lets _ _ _ _ _ s1 _ s2
  have h1 : s1.Canon := ite h.setTime.stepBy.setSstate.setFlag (ite h.setTime.stepHeld (ite h.setTime.setFlag.setSstate
    h.setTime.setFlag))
  have h2 : s2.Canon := ite h1.setAstate h1
  exact ite (ite h2.setAstate h2.setTarget) (ite h2.setTime h2.alignAverage)

theorem timeInject : s.timeInject.Canon := by
  unfold State.timeInject
  extract_lets s1
  have h1 : s1.Canon := by
    unfold s1
    split
    · next heq =>
      exact (h.takeInj.snd heq).faultInj
    · next heq =>
      exact h.takeInj.snd heq
  split
  · next heq =>
    exact (h1.takeInj.snd heq).faultInj
  · next heq =>
    exact h1.takeInj.snd heq

theorem exchangeAccepted {e : Int} {d : Nat} : (s.exchangeAccepted e d).Canon :=
  (ite h.setReg.count.timeInject.setTime.align h.setReg.count.timeInject.setTime.servo).lockState

theorem exchangeDone {cTx pRx pTx cRx : BitVec 64} {d : Nat} : (s.exchangeDone p cTx pRx pTx cRx d).Canon :=
  ite h.setTime.count (ite h.setTime.exchangeAccepted h.setTime)

theorem keeps_execExchangeTimeout {p : Fin 6} : KeepsCanon (execExchangeTimeout p s) := by
  unfold execExchangeTimeout
  split
  · exact h
  · exact ite h.setTime.count h.setTime

theorem timeRole {root : Bool} {src : Option Nat} : (s.timeRole root src).Canon := by
  unfold State.timeRole
  dsimp only
  refine ite h.setFld ?_
  refine ite (ite h.setFld.setSstate.setTime.setAstate h.setFld.setSstate) ?_
  split
  · exact ite h.setFld.setSstate h.setFld
  · exact ite (ite h.setFld.setAstate h.setFld).setSstate (ite (ite h.setFld.setAstate h.setFld) (ite h.setFld.setAstate
      h.setFld).setSstate)

theorem esPush : (s.esPush i).Canon := ite h.setTime.setTime.raiseTo h.setTime.count

theorem stampEvent : (s.stampEvent code).Canon := foldl (fun _ _ h1 => h1.esPush) h

theorem esPop : s.esPop.2.2.2.Canon := by
  unfold State.esPop
  split
  · exact h
  · exact pair h.setTime

theorem esHeadRead : (s.esHeadRead a).2.Canon := by
  unfold State.esHeadRead
  split
  · next heq =>
    exact pair (h.esPop.snd3 heq).latch.latch

theorem pgFire {late : Bool} : (s.pgFire k m late).Canon := by
  unfold State.pgFire
  dsimp only
  refine stampEvent ?_
  refine event ?_
  refine ite ?_ ?_
  · refine setFlag ?_
    refine setFlag ?_
    refine ite ?_ ?_
    · exact (ite (ite h.setTime.count.setFlag h.setTime.count).setFld.mk (ite h.setTime.count.setFlag
        h.setTime.count).setFld).mk
    · exact ite (ite h.setTime.count.setFlag h.setTime.count).setFld.mk (ite h.setTime.count.setFlag
        h.setTime.count).setFld
  · refine ite ?_ ?_
    · exact (ite (ite h.setTime.count.setFlag h.setTime.count).setFld.mk (ite h.setTime.count.setFlag
        h.setTime.count).setFld).mk
    · exact ite (ite h.setTime.count.setFlag h.setTime.count).setFld.mk (ite h.setTime.count.setFlag
        h.setTime.count).setFld

theorem pgArm : (s.pgArm k).Canon :=
  ite h.setTime.setFld.setReg.setFlag.setFlag (ite h.setTime.setFld.setReg.setFlag.setFlag
    h.setTime.setFld.setReg.setFlag.setFlag.pgFire)

omit h in
theorem keeps_pgCfgRule : (pgCfgRule k v s).Canon := of_eff (fun _ h => ite h.setReg.pgArm h.setReg.setFlag)

omit h in
theorem keeps_timeCfgRule : (timeCfgRule v s).Canon :=
  of_eff (fun _ h => (ite h.setReg (ite h.setReg.setTime.setAstate h.setReg.setAstate)).timeRole)

omit h in
theorem keeps_timeRule : (timeRule off v s).Canon := by
  unfold timeRule
  refine WRule.Canon.ite keeps_timeCfgRule ?_
  refine WRule.Canon.ite (of_eff (fun _ h => h.setReg)) ?_
  refine WRule.Canon.ite (of_eff (fun _ h => h.setReg)) ?_
  refine WRule.Canon.ite (of_eff (fun _ h => h.setReg)) ?_
  refine WRule.Canon.ite (of_eff (fun _ h => h.setReg)) ?_
  refine WRule.Canon.ite keeps_timeCmdRule ?_
  refine WRule.Canon.ite (of_eff (fun _ h => h.setReg)) ?_
  refine WRule.Canon.ite (of_eff (fun _ h => h.setReg)) ?_
  refine WRule.Canon.ite (of_eff (fun _ h => h.setReg)) ?_
  refine WRule.Canon.ite (of_eff (fun _ h => h.setReg)) ?_
  refine WRule.Canon.ite ?_ keeps_ignored
  dsimp only
  refine WRule.Canon.ite keeps_pgCfgRule ?_
  refine WRule.Canon.ite (of_eff (fun _ h => h.setReg)) ?_
  refine WRule.Canon.ite (of_eff (fun _ h => h.setReg)) ?_
  exact WRule.Canon.ite (of_eff (fun _ h => h.setReg)) (WRule.Canon.ite (of_eff (fun _ h => ite h.setFlag h))
    keeps_ignored)

theorem timeReset {port : Nat} : (s.timeReset st port).Canon := ite h.setTime h.setTime.setFld.setFlag.setFld.setFld

/-! ### The functions of Machine/Capture.lean -/

theorem setCu {x : Cu} : (s.setCu u x).Canon := h.mk

theorem setCuPart {x : CuPart} : (s.setCuPart u k x).Canon := h.setCu

theorem setPhase {ph : Nat} : (s.setPhase u ph).Canon := h.setFld

theorem capFree : (s.capFree u k).Canon := h.releaseFrames.releaseFrames.setReg.setReg.setFlag.setCuPart

theorem capAlloc : (s.capAlloc k n).2.Canon := ite_snd h h.hwAlloc

theorem clearMem {a : Nat} : (s.clearMem a n).Canon := ⟨h.1, swf_filter h.2⟩

theorem capClip {c : Nat} : (s.capClip u c).Canon := h.setReg.setReg.setFlag.setFlag

theorem capArmUnit_ok {t : State} (heq : s.capArmUnit u k = .ok t) : t.Canon := by
  unfold State.capArmUnit at heq
  extract_lets cfgF cfgR at heq
  split at heq
  · cases heq
  · split at heq
    · cases heq
    · next halloc =>
      have h1 := h.capAlloc.snd halloc
      split at heq
      · cases heq
      · next halloc' =>
        have h2 := h1.capAlloc.snd halloc'
        extract_lets c at heq
        split at heq
        · cases heq
        · cases heq
          refine ite (setPhase ?_) ?_
          all_goals
            refine setFld (capClip (ite ?_ (clearMem ?_)))
            all_goals exact h2.setCuPart.setFld.setFld.setReg.setReg.setFlag.setFld

theorem capArmUnit_error {e : Nat} {t : State} (heq : s.capArmUnit u k = .error (e, t)) : t.Canon := by
  unfold State.capArmUnit at heq
  extract_lets cfgF cfgR at heq
  split at heq
  · cases heq
    exact h
  · split at heq
    · next halloc =>
      cases heq
      exact h.capAlloc.snd halloc
    · next halloc =>
      have h1 := h.capAlloc.snd halloc
      split at heq
      · next halloc' =>
        cases heq
        exact (h1.capAlloc.snd halloc').releaseFrames
      · next halloc' =>
        extract_lets c at heq
        split at heq
        · cases heq
          exact (h1.capAlloc.snd halloc').releaseFrames.releaseFrames
        · cases heq

theorem capUnarm : (s.capUnarm u k).Canon := ite h.setFlag.setPhase h.setFlag

theorem capArmAll {l got : List Nat} : (State.capArmAll k l got s).2.Canon := by
  induction l generalizing s got with
  | nil => exact h
  | cons u t ih =>
    unfold State.capArmAll
    split
    · next heq => exact ih (h.capArmUnit_ok heq)
    · next heq => exact (foldl (fun _ _ h => h.capFree.capUnarm) (h.capArmUnit_error heq)).setFld

theorem capArm : (s.capArm k).2.Canon :=
  ite_snd (pair (foldl (fun _ _ h1 => h1.setFld) h)) (foldl (fun _ _ h1 => h1.capFree) h).capArmAll

theorem capDisarm : (s.capDisarm k).Canon := foldl (fun _ _ h1 => h1.capFree.capUnarm) h

theorem capWrite {a : Nat} {l : List Byte} : (s.capWrite u a l).2.Canon := by
  unfold State.capWrite
  split
  · next heq => exact pair (h.takeInj.snd heq).faultInj.setPhase
  · next heq =>
    have h1 := h.takeInj.snd heq
    exact ite_snd (pair h1.fault.setPhase) (pair h1)

theorem capWrite_some {a : Nat} {l : List Byte} {t v : State} (heq : s.capWrite u a l = (some t, v)) : t.Canon := by
  unfold State.capWrite at heq
  split at heq
  · cases heq
  · next hinj =>
    split at heq
    · cases heq
    · cases heq
      exact (h.takeInj.snd hinj).setMem

theorem capWriteIf_some {c : Prop} {_ : Decidable c} {a : Nat} {l : List Byte} {t v : State}
    (heq : (if c then s.capWrite u a l else (some s, s)) = (some t, v)) : t.Canon := by
  split at heq
  · exact h.capWrite_some heq
  · cases heq
    exact h

theorem flogPut {w0 w1 w2 w3 : Nat} : (s.flogPut u k w0 w1 w2 w3).Canon := by
  unfold State.flogPut
  dsimp only
  split
  · next heq =>
    exact h.capWrite.snd heq
  · next heq =>
    exact (h.capWrite_some heq).setReg.raiseTo

theorem flogLose : (s.flogLose u k).Canon := ite h.setCuPart.count.setFlag.event h.setCuPart.count.setFlag

theorem flogRecord {ty tg : Nat} {stamp : BitVec 64} {w2 w3 : Nat} : (s.flogRecord u k ty tg cycle stamp w2 w3).Canon :=
  ite h (ite (ite h.flogPut h.flogLose) (ite h.flogPut.setCuPart.flogPut h.flogLose))

theorem rawStorePart {seg j : Nat} : (s.rawStorePart u k seg j i c).Canon := by
  unfold State.rawStorePart
  dsimp only
  split
  · next heq => exact (ite_snd h.capWrite (pair h)).snd heq
  · next heq =>
    have h1 := h.capWriteIf_some heq
    split
    · next heq => exact h1.capWrite.snd heq
    · next heq =>
      have h2 := h1.capWrite_some heq
      exact ite h2.setMem h2.setMem.setMemByte

theorem rawStore : (s.rawStore u c).Canon := by
  unfold State.rawStore
  dsimp only
  split
  · exact h
  · exact foldl (fun _ _ h1 => h1.rawStorePart) h.setCu

theorem segEnd {stopped cut : Bool} : (s.segEnd u stopped cut).Canon := by
  unfold State.segEnd
  extract_lets _ _ _ _ s1
  have h1 : s1.Canon := by
    unfold s1
    refine foldl (fun _ _ h1 => ?_) h.setCu
    split
    · next heq =>
      exact h1.capWrite.snd heq
    · next heq =>
      exact h1.capWrite_some heq
  exact ite h1.setFlag.setFlag.event.setPhase (ite h1.setFlag.setFlag.event.setPhase (ite
    h1.setFlag.setFlag.event.setPhase h1.setFlag.setFlag.event.setPhase.event))

theorem segState : (s.segState u).Canon :=
  (foldl (fun _ _ h1 => h1.setFlag) (foldl (fun _ _ h1 => h1.setReg) h.setFld)).setCu

theorem segStart {seg : Nat} : (s.segStart u seg).Canon := h.segState.setFld.setPhase

theorem verdict : (s.verdict u k c).Canon :=
  ite h.setFld (ite h.setFld.setFlag h.setFld.setFlag.setFlag.setReg.setFld.setCuPart.event)

theorem siteCount : (s.siteCount u k c).Canon := ite h (ite (ite h.setReg64 h).setReg64 (ite h.setReg64 h))

theorem failRecords : (s.failRecords u k c).Canon := foldl (fun _ _ h1 => h1.flogRecord) h

theorem cycleRecords : (s.cycleRecords u k c).Canon := by
  unfold State.cycleRecords
  extract_lets _ _ s1 s2 s3
  have h1 : s1.Canon := ite h (foldl (fun _ _ h1 => h1.flogRecord) h)
  have h2 : s2.Canon := ite h1.failRecords h1
  have h3 : s3.Canon := ite (foldl (fun _ _ h3 => h3.flogRecord) h2) h2
  exact foldl (fun _ _ h4 => h4.flogRecord) h3

theorem maskTest : (s.maskTest u c).2.Canon :=
  ite_snd h (ite_snd h (pair (foldl (fun _ _ h1 => ite h1.flogRecord h1) h).event))

theorem takeTrigger {forced : Bool} : (s.takeTrigger u c forced).Canon :=
  (foldl (fun _ _ h1 => h1.flogRecord) h.setFlag.setFlag.setFlag.setReg.setReg64.setCu.count.event).setPhase

theorem trgCounters {v : TrgView} : (s.trgCounters u c v).Canon := foldl (fun _ _ h1 => ite h1.setReg h1) h

theorem trgPulse : (s.trgPulse u).Canon := ite h.mk h

theorem trgActions {w : Nat} : (s.trgActions u w).Canon := by
  unfold State.trgActions
  extract_lets s1 s2 s3
  have h1 : s1.Canon := ite h.trgPulse h
  have h2 : s2.Canon := ite h1.event h1
  have h3 : s3.Canon := foldl (fun _ _ h3 => ite (ite (ite h3.setReg h3).setCu (ite h3.setReg h3)).setCu (ite (ite
    h3.setReg h3).setCu (ite h3.setReg h3))) h2
  exact h3.setFld

theorem segCycle {w : Nat} : (s.segCycle u c w).Canon := by
  unfold State.segCycle
  extract_lets _ _ _ _ _ s1 _ _ s2 _ s3
  have h1 : s1.Canon := ite h.takeTrigger h
  have h2 : s2.Canon := ite h1.rawStore h1.setCu
  have h3 : s3.Canon := ite h2.setCu h2
  exact ite (ite h3.segEnd h3.setPhase) (ite h3.segEnd h3)

theorem trgCycle {v : TrgView} : (s.trgCycle u c v).Canon := by
  unfold State.trgCycle
  dsimp only
  refine ite (ite h.count h) ?_
  refine ite ?_ h
  split
  · exact h.maskTest.trgCounters.segCycle
  · exact h.maskTest.trgCounters.segCycle.trgActions

theorem endRecord {last : Nat} : (s.endRecord u k status cause last).Canon := ite h h.flogPut.event

theorem setStatus : (s.setStatus u k st).Canon := h.setFld.setFld.setFlag

theorem capFinish {record : Bool} : (s.capFinish u k status cause record).Canon := by
  unfold State.capFinish
  extract_lets _ s1 _ s2 _ _ _ _ s3
  have h1 : s1.Canon := ite h.setStatus.endRecord h.setStatus
  have h2 : s2.Canon := ite h1.segEnd h1
  have h3 : s3.Canon := h2.setCuPart.setFlag.setFlag.setFld
  exact ite h3.setCu.setPhase h3

theorem capSettle : (s.capSettle u).Canon := by
  unfold State.capSettle
  dsimp only
  refine foldl (fun _ _ h1 => ?_) h
  split
  · exact ite h1.capFinish h1
  · exact h1

theorem capEnd {e : Nat} : (s.capEnd k cause e).Canon :=
  foldl (fun _ _ h1 => (ite h1.setStatus h1).setCuPart.capSettle) h

theorem capIsolate : (s.capIsolate k).Canon := foldl (fun _ _ h1 => h1.capFinish) h

theorem capFaultArmed : (s.capFaultArmed k).Canon := foldl (fun _ _ h1 => h1.setStatus.capUnarm.setFlag) h

theorem capClear : (s.capClear u k).Canon := (foldl (fun _ _ h1 => h1.setReg) h.setReg).setCuPart

theorem capStart {ks : List Nat} {stamp : BitVec 64} : (s.capStart n ks stamp).Canon :=
  foldl (fun _ _ h1 => ite h1 (foldl (fun _ _ h2 => h2.capClear) h1).setCu.segStart) h

theorem capPush : (s.capPush n c).Canon := foldl (fun _ _ h1 => ite h1 h1.setCu) h

theorem capDeliver {shot : Option Shot} : (s.capDeliver n cycle shot).Canon :=
  foldl (fun _ _ h1 => ite h1.setCu.fault.gangFault h1.setCu) h

theorem capExternal : (s.capExternal code).Canon := foldl (fun _ _ h1 => ite h1.setCu h1) h

theorem capKinds : (s.capKinds u c).Canon := by
  unfold State.capKinds
  dsimp only
  refine ite ?_ (foldl (fun _ _ h1 => ite (foldl (fun _ _ h2 => h2.setFld) h1) h1) h)
  refine ite ?_ ?_
  · exact (foldl (fun _ _ h1 => ite (foldl (fun _ _ h2 => h2.setFld) h1) h1) h).setCu.segEnd
  · exact (foldl (fun _ _ h1 => ite (foldl (fun _ _ h2 => h2.setFld) h1) h1) h).setCu

theorem capProcess : (s.capProcess u c).Canon := by
  unfold State.capProcess
  extract_lets _ s1 _ _ _ _ _ _ s2 s3
  have h1 : s1.Canon := by
    unfold s1
    split
    · next heq =>
      exact (h.takeInj.snd heq).faultInj.gangFault
    · next heq =>
      exact h.takeInj.snd heq
  have h2 : s2.Canon := foldl (fun _ _ h2 => h2.verdict) h1.capKinds.setCu
  have h3 : s3.Canon := foldl (fun _ _ h3 => h3.siteCount) h2
  exact ite h2 (foldl (fun _ _ h4 => h4.cycleRecords) h3.trgCycle)

theorem keeps_execCaptureCycleProcess {u : Fin 8} : KeepsCanon (execCaptureCycleProcess u s) := by
  unfold execCaptureCycleProcess
  split
  · exact h
  · exact ite h h.setCu.capProcess.capSettle

omit h in
theorem keeps_capReleaseRule : (capReleaseRule u k v s).Canon := of_eff (fun _ h => ite h.capFree h)

omit h in
theorem keeps_capRdRule : (capRdRule u k v s).Canon := of_eff (fun _ h => h.setReg)

omit h in
theorem keeps_capRule {owners : State → State} (howners : ∀ u, u.Canon → (owners u).Canon) :
    (capRule owners u off v s).Canon := by
  unfold capRule
  dsimp only
  refine WRule.Canon.ite (of_eff (fun _ h => h.setReg)) ?_
  refine WRule.Canon.ite (of_eff (fun _ h => howners _ h.setReg)) ?_
  refine WRule.Canon.ite (of_eff (fun _ h => h.setReg)) ?_
  refine WRule.Canon.ite (of_eff (fun _ h => h.setReg)) ?_
  refine WRule.Canon.ite (of_eff (fun _ h => h.setReg)) ?_
  refine WRule.Canon.ite (of_eff (fun _ h => h.setReg)) ?_
  refine WRule.Canon.ite (of_eff (fun _ h => h.setReg)) ?_
  refine WRule.Canon.ite (WRule.Canon.ite (of_eff (fun _ h => h.setReg)) (of_eff (fun _ h => h.setReg))) ?_
  refine WRule.Canon.ite (of_eff (fun _ h => h.setReg)) ?_
  refine WRule.Canon.ite ?_ ?_
  · exact WRule.Canon.ite (of_eff (fun _ h => h.setReg)) (WRule.Canon.ite (of_eff (fun _ h => h.setReg)) keeps_ignored)
  · refine WRule.Canon.ite (of_eff (fun _ h => h.setReg)) ?_
    refine WRule.Canon.ite (of_eff (fun _ h => h.setReg)) ?_
    exact WRule.Canon.ite (WRule.Canon.ite keeps_capReleaseRule (WRule.Canon.ite keeps_capRdRule keeps_ignored))
      keeps_ignored

theorem capReset : (s.capReset u).Canon := ite h.segState.setFld.setPhase h.segState.setFld.setPhase

/-! ### The functions of Machine/Sent.lean -/

theorem addSents {l : List SentRec} : (s.addSents u cycle l).Canon := h.setCu

theorem sentFeed {level : Bool} : (s.sentFeed n ch cycle level).2.Canon := by
  refine foldl_snd (fun q u hq => ?_) (pair h)
  dsimp only
  split
  · exact hq
  · exact pair hq.setCu.addSents

theorem sentEnd : (s.sentEnd u n cycle).2.Canon := by
  unfold State.sentEnd
  split
  · exact h
  · exact pair h.addSents.setCu

/-! ### The functions of Machine/Timing.lean -/

theorem drop {t kind line pin : Nat} : (s.drop t kind line pin cycle).Canon :=
  ite h.count.setReg.fault h.count.setReg.fault.event

theorem enqueueEdge {c : CycleCtx} {w : Word} {shift : Nat} : (s.enqueueEdge c ch i w shift).Canon := by
  unfold State.enqueueEdge
  refine ite h ?_
  split
  · exact h.drop
  · exact h.setPin

theorem addFlight {f : Flight} : (s.addFlight n f).Canon := h.setSeq

theorem strobeDrop {c : CycleCtx} {j expect : Nat} : (s.strobeDrop c ch j expect).Canon := ite h.drop h.drop.addFlight

theorem enqueueStrobe {c : CycleCtx} {j : Nat} {w e : Word} {shift : Nat} :
    (s.enqueueStrobe c ch j w e shift).Canon := by
  unfold State.enqueueStrobe
  refine ite h ?_
  dsimp only
  split
  · exact ite h.strobeDrop h.setPin.addFlight
  · exact h.strobeDrop

theorem evalPin {c : CycleCtx} {strobes : Bool} : (s.evalPin c ch code strobes).2.Canon :=
  ite_snd (pair h.drop) (pair (ite (foldl (fun _ _ h1 => h1.enqueueStrobe) (foldl (fun _ _ h1 => h1.enqueueEdge) h))
    (foldl (fun _ _ h1 => h1.enqueueEdge) h)))

theorem tgCycle {pi ts : Nat} : (s.tgCycle n pi ts).Canon := by
  unfold State.tgCycle
  refine foldl (fun _ _ h1 => ?_) h
  dsimp only
  refine setTg ?_
  refine setFld ?_
  refine setFld ?_
  refine setFld ?_
  split
  · exact ite h1 h1.count
  · exact h1

theorem tpulse : (s.tpulse n).Canon := h.mk.stampEvent.fabSource

theorem cycleDone {period : Nat} : (s.cycleDone n period).Canon := h.setReg64.setSeq

theorem cycleRecord {d : Option Desc} {start vec : Nat} {tp : Bool} : (s.cycleRecord n d start vec tp).Canon := by
  unfold State.cycleRecord
  dsimp only
  refine foldl (fun _ _ h1 => ?_) (foldl (fun _ _ h1 => h1.tracePattern) h).setSeq.capPush
  split
  · exact h1.addSents
  · exact h1

theorem tableCheck : (s.tableCheck n chk).2.Canon := by
  unfold State.tableCheck
  split
  · next heq =>
    exact pair (h.takeInj.snd heq).faultInj.gangFault
  · next heq =>
    have h1 := h.takeInj.snd heq
    split
    · exact h1
    · exact pair h1.count
    · exact pair h1.fault.gangFault

theorem takeSide {w : Nat} {skipped : Bool} : (s.takeSide n d w skipped).Canon := ite h h.setSeq

theorem skipVectors : (s.skipVectors n d i).Canon := (foldl (fun _ _ h1 => h1.takeSide) h).setSeq

theorem placeCycle {c : CycleCtx} {lanes : List Nat} {ov : List (Nat × Nat)} {strobes : Bool} :
    (s.placeCycle n c lanes ov strobes).Canon := by
  unfold State.placeCycle
  split
  · next heq =>
    refine snd (foldl_snd (fun q ch hq => ?_) (pair h)) heq
    exact hq.evalPin
  · next heq =>
    refine gangFault (snd (foldl_snd (fun q ch hq => ?_) (pair h)) heq)
    exact hq.evalPin

theorem runCycle : (s.runCycle n d chk).Canon := by
  unfold State.runCycle
  extract_lets _ _ _ s1 _ s2
  have h1 : s1.Canon := ite h.skipVectors h
  have h2 : s2.Canon := ite h1.takeSide h1
  split
  · next heq =>
    have h3 := h2.setSeq.tgCycle.tableCheck.snd heq
    extract_lets s3
    have h4 : s3.Canon := ite h3.fault.gangFault h3
    split
    · extract_lets _ _ s4 _ s5 _ _ _ s6
      have h5 : s4.Canon := ite h4.setSeq h4.setSeq.placeCycle
      have h6 : s5.Canon := ite h5.cycleRecord.tpulse h5.cycleRecord
      have h7 : s6.Canon := ite h6.setSeq.setFld.setSeq h6.setSeq.setSeq
      exact h7.cycleDone

theorem unitCycle {lanes : Option (List Nat)} : (s.unitCycle n lanes chk).Canon := by
  unfold State.unitCycle
  dsimp only
  refine cycleDone ?_
  refine setSeq ?_
  refine cycleRecord ?_
  split
  · exact ite h.tgCycle.tableCheck.setReg64 h.tgCycle.tableCheck.setReg64.placeCycle
  · exact h.tgCycle.tableCheck

theorem keeps_execCycleStart {n : Fin 16} : KeepsCanon (execCycleStart n chk s) := by
  unfold execCycleStart
  dsimp only
  refine ite h.unitCycle ?_
  refine ite h.unitCycle ?_
  refine ite ?_ h
  split
  · exact ite h.runCycle h
  · exact h

theorem keeps_execEdgePlace {pin : Fin 256} {den : Bool} : KeepsCanon (execEdgePlace pin den s) := by
  unfold execEdgePlace
  dsimp only
  split
  · exact h
  · split
    · exact h.setPin.drop
    · exact h.setPin

theorem keeps_execStrobeSample {pin : Fin 256} {levels : List (Bool × Bool)} :
    KeepsCanon (execStrobeSample pin levels s) := by
  unfold execStrobeSample
  dsimp only
  split
  · exact h
  · exact ite (ite h.setPin.drop.setSeq h.setPin.drop.setSeq) h.setPin.setPin.setSeq

theorem sbStart {f : SbFrame} : (s.sbStart n f).Canon := h.setTg.setFlag

omit h in
theorem keeps_sbCmdRule : (sbCmdRule n v s).Canon := of_eff (fun _ h => h.sbStart)

theorem sbResponse {crcOk : Bool} {data : BitVec 16} : (s.sbResponse n crcOk data).2.Canon := by
  unfold State.sbResponse
  split
  · exact h
  · extract_lets inv
    have hinv : inv.Canon := by
      unfold inv
      split
      · next heq => exact (h.takeInj.snd heq).setTg
      · next heq => exact h.takeInj.snd heq
    split
    next t inj heq =>
      have h1 : t.Canon := by
        split at heq
        · cases heq
          exact hinv.setTg
        · cases heq
          exact hinv
      exact ite_snd (pair h1.setTg) (ite_snd (pair h1.setTg.setFlag.count)
        (ite_snd (pair h1.setTg.setFlag) (pair h1.setTg.setFlag.faultInj)))

theorem diagStop {result : Nat} : (s.diagStop n result).Canon := h.setFlag.setFld.safePins.event

omit h in
theorem keeps_diagCmdRule : (diagCmdRule n v s).Canon :=
  of_eff (fun _ h => ite (foldl (fun _ _ h1 => h1.setReg) h).setFld.setFlag (ite h.diagStop h))

theorem diagEnd : s.diagEnd.Canon := foldl (fun _ _ h1 => ite h1.diagStop h1) h

omit h in
theorem keeps_tgRule {t : Nat} : (tgRule t off v s).Canon := by
  unfold tgRule
  dsimp only
  refine WRule.Canon.ite (of_eff (fun _ h => h.setReg)) ?_
  refine WRule.Canon.ite (of_eff (fun _ h => h.setReg)) ?_
  refine WRule.Canon.ite (of_eff (fun _ h => h.setReg)) ?_
  refine WRule.Canon.ite (of_eff (fun _ h => h.setReg)) ?_
  refine WRule.Canon.ite (of_eff (fun _ h => h.setReg)) ?_
  refine WRule.Canon.ite (of_eff (fun _ h => h.setReg)) ?_
  refine WRule.Canon.ite (of_eff (fun _ h => h.setReg)) ?_
  refine WRule.Canon.ite (of_eff (fun _ h => h.setReg)) ?_
  refine WRule.Canon.ite (of_eff (fun _ h => h.setReg)) ?_
  refine WRule.Canon.ite keeps_sbCmdRule ?_
  exact WRule.Canon.ite (of_eff (fun _ h => h.setReg)) (WRule.Canon.ite (of_eff (fun _ h => h.setReg)) (WRule.Canon.ite
    keeps_diagCmdRule keeps_ignored))

/-! ### The functions of Machine/Span.lean -/

theorem vcCount : (s.vcCount n).Canon := h.setFld.setFld.raiseTo

theorem setLines {l : List CacheLine} : (s.setLines n l).Canon := h.setWalker.vcCount

theorem unpin {loops : List Nat} : (s.unpin n loops).Canon := ite h.setWalker.vcCount.event h

theorem walkerRestart {addr : Nat} : (s.walkerRestart n addr).Canon := ite h.setWalker h

theorem mispredict {addr : Nat} : (s.mispredict n addr).Canon := h.count.walkerRestart

theorem executed {pc reps : Nat} {taken : Bool} {next : Nat} : (s.executed n pc reps taken size next).Canon := by
  unfold State.executed
  dsimp only
  split
  · exact h.setWalker
  · exact ite h.setWalker (ite h.setWalker.mispredict h.setWalker.setWalker)

theorem setSpan {x : Span} : (s.setSpan k x).Canon := h.mk

theorem detSend {dtype : Nat} {body : BitVec 64} {aux : Nat} : (s.detSend k dtype body aux).Canon := h.detForward

theorem spanEnd : (s.spanEnd k code).Canon := h.setFld.setFld.event

theorem spanStop : (s.spanStop n cause).Canon := by
  unfold State.spanStop
  split
  · exact h
  · exact (ite h.detSend h).spanEnd

/-! ### The functions of Machine/Seq.lean -/

theorem setRun : (s.setRun n st).Canon := h.setFld

theorem setMto {b : Bool} : (s.setMto n b).Canon := h.setFlag

theorem setWto {b : Bool} : (s.setWto n b).Canon := h.setFlag

theorem setPmatch {v : Nat} : (s.setPmatch n v).Canon := h.setReg64

theorem capMto {l : List (Nat × Nat × Nat)} : (s.capMto n cycle l).Canon :=
  ite h (foldl (fun _ _ h1 => ite h1.setCu (foldl (fun _ _ h2 => h2.verdict.cycleRecords) h1)) h)

theorem matchTimeout {pc reps : Nat} {parts : List Nat} : (s.matchTimeout n pc reps parts).2.Canon :=
  pair (foldl (fun _ _ h1 => h1.maskPart) h.setMto).event

theorem matchZero {pc : Nat} : (s.matchZero n pc).2.Canon :=
  ite_snd (pair h.setMto.setPmatch.setReg) h.setMto.setPmatch.setReg.matchTimeout

theorem forgetAbort : (s.forgetAbort k).Canon := h.mk

theorem takeOut : (s.takeOut k code).Canon :=
  (ite h.maskPart.capIsolate h.capFaultArmed).safePins.forgetAbort.setFld.setPart

theorem ctxError : (s.ctxError k inj).Canon := h.faultInj.mk.takeOut

theorem ctxRead : (s.ctxRead k).2.Canon := by
  unfold State.ctxRead
  split
  · next heq =>
    exact pair (h.takeInj.snd heq).ctxError
  · next heq =>
    exact h.takeInj.snd heq

theorem endPart : (s.endPart n cause k).Canon :=
  ite (ite h.capEnd.forgetAbort.setPart h) (ite h.capEnd.forgetAbort.setFld.setPart (ite h.capFaultArmed.setFld.setPart
    h))

theorem leftovers {l : List SeqEffect} : (s.leftovers n cause l).Canon := by
  unfold State.leftovers
  refine foldl (fun _ _ h1 => ?_) h
  split
  · split
    · next heq =>
      exact (h1.matchZero.snd heq).capMto
  · exact ite h1.setWto h1
  · exact ite h1.addSents h1
  · exact h1

theorem gangStop : (s.gangStop n cause).Canon := by
  unfold State.gangStop
  extract_lets _ _ _ _ s1 _ _ _ _ s2 _ _ s3 _ _ s4
  have h1 : s1.Canon := ite h.leftovers.spanStop.setFld h.leftovers.spanStop
  have h2 : s2.Canon := h1.setFld.setReg.setReg.setSeq.unpin
  have h3 : s3.Canon := foldl (fun _ _ h3 => h3.endPart) h2.setWalker
  have h4 : s4.Canon := by
    unfold s4
    split
    · exact h3.safePins.tracePattern.fault
    · exact h3.safePins.tracePattern
  exact foldl (fun _ _ h5 => h5.ctxRead) h4.event

theorem seqEffect {e : SeqEffect} : (s.seqEffect n e).Canon := by
  unfold State.seqEffect
  dsimp only
  split
  · exact ite h.setFld (ite h.setFld (ite h.setFld (ite h.setSeq h.clrReg)))
  · exact h.setSeq
  · exact h.setSeq
  · exact h.setMto.setPmatch.setReg.setFlag.setSeq
  · exact h.matchZero.setSeq
  · exact h.setWto.setFlag
  · exact h.setWto
  · exact h.setReg
  · exact h.setCu
  · exact h.setSeq

theorem showDepth {d : Nat × Nat} : (s.showDepth n d).Canon := h.setFld.setFld

theorem startRep {rep vec : Nat} : (s.startRep n d rep vec).Canon := h.setSeq.setRun

theorem startBlock {vec : Nat} : (s.startBlock n d vec).Canon :=
  (foldl (fun _ _ h1 => h1.seqEffect) h.setAddr.setFlag.setFlag).showDepth.setSeq.startRep

theorem sentDone : (s.sentDone n).Canon := by
  unfold State.sentDone
  refine foldl (fun _ _ h1 => ?_) h
  split
  · next heq =>
    exact (h1.sentEnd.snd heq).setSeq

theorem spanBlock : (s.spanBlock n).Canon := by
  unfold State.spanBlock
  split
  · exact h
  · exact h.setSeq.addFlight

theorem endBlock : (s.endBlock n d).Canon := by
  unfold State.endBlock
  extract_lets s1 _ _ _ s2 _ s3 _ s4 s5 s6
  have h1 : s1.Canon := ite h.skipVectors h
  have h2 : s2.Canon := ite h1.spanBlock.count.setAddr.count h1.spanBlock.count.setAddr
  have h3 : s3.Canon := by
    unfold s3
    split
    · exact h2.setSeq.setReg
    · exact ite h2.setSeq.sentDone h2.setSeq
    · exact h2.setSeq
  have h4 : s4.Canon := foldl (fun _ _ h4 => h4.setTaskFlag) h3.capMto
  have h5 : s5.Canon := by
    unfold s5
    split
    · exact h4.setFld
    · exact h4
  have h6 : s6.Canon := ite h5.executed h5
  exact ite h4 h6.showDepth.unpin

theorem clearRun {mask : Word} : (s.clearRun n mask).Canon := h.clrReg

theorem pauseGang : (s.pauseGang n).Canon := (foldl (fun _ _ h1 => h1.setPart) h).setSeq.setRun.clearRun.event

theorem abortParts : (s.abortParts n).Canon := foldl (fun _ _ h1 => h1.capEnd.maskPart.safePins.forgetAbort.setPart) h

theorem advance {t : State} (heq : s.advance n = some t) : t.Canon := by
  unfold State.advance at heq
  dsimp only at heq
  split at heq
  · cases heq
  · split at heq
    · cases heq
      exact h.startRep
    · split at heq
      · cases heq
        exact h.setSeq.startBlock
      · cases heq
        exact h.gangStop
      · cases heq

theorem afterBlock {t : State} (heq : s.afterBlock n d = some t) : t.Canon := by
  unfold State.afterBlock at heq
  extract_lets q dry s1 at heq
  split at heq
  · cases heq
    exact h.gangStop
  · split at heq
    · cases heq
      exact h.fault.gangStop
    · split at heq
      · cases heq
        exact h.gangStop
      · have h1 : s1.Canon := h.abortParts
        rw [if_neg Bool.false_ne_true] at heq
        split at heq
        · cases heq
          exact h1.gangStop
        · split at heq
          · cases heq
            exact h1.gangStop
          · split at heq
            · cases heq
              exact h1.pauseGang
            · exact h1.advance heq

theorem nextUnit : (s.nextUnit n).Canon := h.setSeq

theorem holdOver : (s.holdOver n).Canon := ite h h.setSeq.setRun.event.event

theorem resumeGang {t : State} (heq : s.resumeGang n = some t) : t.Canon := by
  unfold State.resumeGang at heq
  extract_lets q back at heq
  have hback : ∀ u : State, u.Canon → (back u).Canon := fun u hu => (foldl (fun _ _ h => h.setPart) hu).clearRun.event
  split at heq
  · cases heq
  · split at heq
    · cases heq
      exact (hback _ h).nextUnit.setRun
    · split at heq
      · cases heq
        exact (hback _ h.setSeq).holdOver
      · obtain ⟨u, hu, rfl⟩ := Option.map_eq_some_iff.mp heq
        have h1 := hback u (h.advance hu)
        exact ite h1.holdOver h1

theorem endUnit {t : State} (heq : s.endUnit n = some t) : t.Canon := by
  unfold State.endUnit at heq
  extract_lets s1 q s2 at heq
  have h1 : s1.Canon := h.spanBlock
  have h2 : s2.Canon := h1.abortParts
  split at heq
  · cases heq
    exact h1.gangStop
  · split at heq
    · cases heq
      exact h2.gangStop
    · split at heq
      · split at heq
        · exact h2.resumeGang heq
        · cases heq
          exact h2.nextUnit
      · split at heq
        · cases heq
          exact h2.pauseGang
        · split at heq
          · cases heq
            exact h2.gangStop
          · split at heq
            · split at heq
              · cases heq
              · split at heq
                · cases heq
                  exact h2.holdOver
                · split at heq
                  · next hadv =>
                    cases heq
                    exact (h2.advance hadv).holdOver
                  · cases heq
                    exact h2.nextUnit
            · split at heq
              · cases heq
              · cases heq
                exact h2.setSeq.nextUnit

theorem keeps_execBlockBoundary {n : Fin 16} : KeepsCanon (execBlockBoundary n s) := by
  refine ite h ?_
  split
  · refine gangStop ?_
    split
    · exact ite h.endBlock h
    · exact h
  · refine ite ?_ (ite (getD (fun _ heq => h.endUnit heq) h) h)
    split
    · refine getD (fun _ heq => ?_) h
      obtain ⟨c, _, rfl⟩ := Option.map_eq_some_iff.mp heq
      exact h.gangStop
    · exact ite (getD (fun _ heq => h.endBlock.afterBlock heq) h) h

theorem sampleRequests : (s.sampleRequests n).Canon := ite h h.setSeq.mk

theorem decideMatch {timeout : Nat} : (s.decideMatch n timeout d).Canon := by
  unfold State.decideMatch
  dsimp only
  exact ite h.setPmatch.setSeq.executed (ite h.setPmatch.matchTimeout.setSeq.setSeq.executed h.setPmatch)

theorem decideWait {c : Byte} {noTimeout : Bool} {timeout : Nat} : (s.decideWait n c noTimeout timeout d).Canon :=
  ite (ite h.setBit h).setSeq.executed (ite h.setWto.setSeq.executed h)

theorem keeps_execDecisionPoint {n : Fin 16} : KeepsCanon (execDecisionPoint n s) := by
  unfold execDecisionPoint
  dsimp only
  split
  · exact h
  · refine ite h ?_
    split
    · exact h.setSeq.sampleRequests.setSeq.executed
    · exact h.setSeq.sampleRequests.decideMatch
    · exact h.setSeq.sampleRequests.decideWait
    · exact ite h.setSeq.sampleRequests.setSeq.executed h.setSeq.sampleRequests
    · exact h.setSeq.sampleRequests

theorem takeStall {line : Nat} {safe : Bool} : (s.takeStall n line cause safe).Canon := by
  unfold State.takeStall
  dsimp only
  refine ite h.count.setSeq.nextUnit.setRun.event.event ?_
  refine gangStop ?_
  split
  · exact h.count.detSend
  · exact h.count

theorem missLine {line : Nat} : (s.missLine n line).Canon := h.setAddr.count

theorem boundaryStalls {t : State} {safe : Bool} (heq : s.boundaryStalls n = some (t, safe)) : t.Canon := by
  unfold State.boundaryStalls at heq
  dsimp only at heq
  split at heq
  · cases heq
  · split at heq
    · split at heq
      · cases heq
        exact h
      · cases heq
    · split at heq
      · cases heq
        exact h.endBlock
      · cases heq

theorem keeps_execBoundaryStall {n : Fin 16} {line : BitVec 30} : KeepsCanon (execBoundaryStall n line s) := by
  unfold execBoundaryStall
  split
  · next heq =>
    have h1 := h.boundaryStalls heq
    exact ite h1.missLine.takeStall h
  · exact h

theorem keeps_execSeqLate {n : Fin 16} : KeepsCanon (execSeqLate n s) := by
  unfold execSeqLate
  split
  · next heq =>
    have h1 := h.boundaryStalls heq
    exact ite h1.takeStall h
  · exact h

theorem keeps_execMidBlockStall {n : Fin 16} {line : BitVec 30} : KeepsCanon (execMidBlockStall n line s) := by
  unfold execMidBlockStall
  dsimp only
  split
  · exact h
  · exact ite h.missLine.takeStall h

theorem accumulateFail : (s.accumulateFail n k cycle).Canon := ite h.setSeq h

theorem releaseResult {f : Flight} {fail : Bool} {sample : Option (Bool × Bool)} :
    (s.releaseResult n f fail sample).Canon := by
  unfold State.releaseResult
  dsimp only
  refine capDeliver ?_
  split
  · exact foldl (fun _ _ h1 => h1.accumulateFail) (ite (ite h.setSeq h.accumulateFail) h).sentFeed
  · exact ite (ite h.setSeq h.accumulateFail) h

theorem releaseRemote {f : Flight} {present : Bool} : (s.releaseRemote n f present).Canon := by
  unfold State.releaseRemote
  split
  · exact h
  · exact ite h.setSeq (ite h.setSpan (foldl (fun _ _ h1 => h1.setSeq) h.setSpan))

theorem keeps_execCondRelease {n : Fin 16} {present : Bool} : KeepsCanon (execCondRelease n present s) := by
  unfold execCondRelease
  dsimp only
  split
  · exact h
  · refine ite h.setSeq.releaseRemote ?_
    split
    · exact h.setSeq.releaseResult
    · exact ite h.setSeq.capDeliver.setSeq h.setSeq.capDeliver

theorem startRegs : (s.startRegs n).Canon :=
  foldl (fun _ _ h1 => h1.setReg.setFld.setTg) (foldl (fun _ _ h1 => h1.setReg) h).setFlag

theorem startSeq {clock : Nat} : (s.startSeq n clock).Canon := h.mk.setSeq

theorem startGang {clock : Nat} : (s.startGang n clock).Canon := by
  unfold State.startGang
  extract_lets _ _ s1 _ s2 _ _ _ s3 s4 _ s5
  have h1 : s1.Canon := foldl (fun _ _ h1 => h1.setPin) h.startRegs.startSeq
  have h2 : s2.Canon := foldl (fun _ _ h2 => h2.setPart) h1.setReg.clearRun
  have h3 : s3.Canon := ite h2.capStart.tracePattern h2.capStart.tracePattern.setWalker
  have h4 : s4.Canon := foldl (fun _ _ h4 => ite h4.setSyn h4) h3
  have h5 : s5.Canon := ite h4.mk h4
  exact foldl (fun _ _ h6 => h6.ctxRead) h5.event

theorem runRequest : (s.runRequest n op).Canon := by
  unfold State.runRequest
  dsimp only
  refine ite h ?_
  split
  · exact h.setFlag.detSend.setSpan
  · exact h.setFlag

omit h in
theorem keeps_seqRunRule : (seqRunRule n v s).Canon := by
  unfold seqRunRule
  extract_lets
  exact of_eff (fun _ h => ite (ite (ite (ite h.setFld.setFld.runRequest h.setFld.setFld).runRequest (ite
    h.setFld.setFld.runRequest h.setFld.setFld)).runRequest (ite (ite h.setFld.setFld.runRequest
    h.setFld.setFld).runRequest (ite h.setFld.setFld.runRequest h.setFld.setFld))) (ite (ite (ite (ite
    h.setFld.setFld.runRequest h.setFld.setFld).runRequest (ite h.setFld.setFld.runRequest h.setFld.setFld)).runRequest
    (ite (ite h.setFld.setFld.runRequest h.setFld.setFld).runRequest (ite h.setFld.setFld.runRequest
    h.setFld.setFld))).startGang (ite (ite (ite (ite h.setFld.setFld.runRequest h.setFld.setFld).runRequest (ite
    h.setFld.setFld.runRequest h.setFld.setFld)).runRequest (ite (ite h.setFld.setFld.runRequest
    h.setFld.setFld).runRequest (ite h.setFld.setFld.runRequest h.setFld.setFld))).setFlag (ite (ite (ite
    h.setFld.setFld.runRequest h.setFld.setFld).runRequest (ite h.setFld.setFld.runRequest h.setFld.setFld)).runRequest
    (ite (ite h.setFld.setFld.runRequest h.setFld.setFld).runRequest (ite h.setFld.setFld.runRequest
    h.setFld.setFld))))))

theorem regroup : (s.regroup n m).Canon :=
  ite h (foldl (fun _ _ h1 => h1.setFld.setWalker.vcCount.setFld) (foldl (fun _ _ h1 =>
    h1.setFld.setFld.setFld.setFlag.setFlag.setFld) h.setFld))

omit h in
theorem keeps_seqGangRule : (seqGangRule n v s).Canon := of_eff (fun _ h => h.regroup)

omit h in
theorem keeps_seqRule : (seqRule n off v s).Canon := by
  unfold seqRule
  dsimp only
  refine WRule.Canon.ite keeps_seqRunRule ?_
  refine WRule.Canon.ite keeps_seqGangRule ?_
  refine WRule.Canon.ite (of_eff (fun _ h => h.setReg.shadowWritten)) ?_
  refine WRule.Canon.ite (of_eff (fun _ h => h.setReg.shadowWritten)) ?_
  refine WRule.Canon.ite (of_eff (fun _ h => h.setReg.shadowWritten)) ?_
  refine WRule.Canon.ite (of_eff (fun _ h => h.setReg.shadowWritten)) ?_
  refine WRule.Canon.ite (of_eff (fun _ h => h.setReg.shadowWritten)) ?_
  refine WRule.Canon.ite (of_eff (fun _ h => h.setReg.shadowWritten)) ?_
  refine WRule.Canon.ite (of_eff (fun _ h => h.setReg)) ?_
  refine WRule.Canon.ite (of_eff (fun _ h => h.setReg)) ?_
  refine WRule.Canon.ite (of_eff (fun _ h => h.setFld)) ?_
  exact WRule.Canon.ite (of_eff (fun _ h => h.setFld)) (WRule.Canon.ite (of_eff (fun _ h => h.clrReg)) (of_eff (fun _ h
    => h)))

theorem seqRequest {bits : Nat} : (s.seqRequest a n bits).Canon := h.writeBy keeps_seqRunRule

theorem raiseTrigger : (s.raiseTrigger i).Canon := foldl (fun _ _ h1 => h1.setBit) h

/-! ### The functions of Machine/Wsq.lean -/

theorem dispatchStop : (s.dispatchStop n cause).Canon := ite h.gangStop h.setSeq

theorem entry {r : BlockHead} {halt legal : Bool} {go : State → State} (hgo : ∀ u, u.Canon → (go u).Canon) :
    (s.entry n r halt legal go).Canon :=
  ite h (ite (hgo _ h) h.dispatchStop)

theorem enqueue {q : Seq} : (s.enqueue n d q).Canon := ite h.setSeq.startBlock h.setSeq.setSeq

theorem emit {r : BlockHead} {f : Desc → Desc} {upd : Seq → Seq} : (s.emit n r f upd).Canon := by
  unfold State.emit
  dsimp only
  refine ite h ?_
  split
  · exact h.dispatchStop
  · exact ite h.enqueue h

theorem skip {effects : List SeqEffect} {next : Nat} : (s.skip n effects next).Canon := h.setSeq

theorem keeps_execWsqEndloop {n : Fin 16} {r : BlockHead} : KeepsCanon (execWsqEndloop n r s) := by
  refine h.entry fun u h => ?_
  split
  · exact h.dispatchStop
  · exact ite h.emit h.emit

theorem keeps_execWsqRet {n : Fin 16} {r : BlockHead} : KeepsCanon (execWsqRet n r s) := by
  refine h.entry fun u h => ?_
  dsimp only
  split
  · exact h.dispatchStop
  · exact h.emit

theorem emitEffect {r : BlockHead} {e : SeqEffect} : (s.emitEffect n r e).Canon := h.entry (fun _ h1 => h1.emit)

theorem generator {r : BlockHead} {legal : State → GenHead → Bool} {go : GenHead → State → State}
    (hgo : ∀ x u, u.Canon → (go x u).Canon) : (s.generator n r legal go).Canon :=
  ite h (ite h.dispatchStop (ite h (ite (hgo _ _ h) h.dispatchStop)))

theorem emitGen {r : BlockHead} {i : GenHead} {g : Gen} {reps : Nat} {exit : ExitKind} {effects : List SeqEffect}
    {upd : Seq → Seq} : (s.emitGen n r i g reps exit effects upd).Canon :=
  ite h.enqueue h

/-! ### The functions of Machine/Micro.lean -/

theorem setMicro {m : Micro} : (s.setMicro n m).Canon := h.setSeq

theorem ustop : (s.ustop n).Canon := h.setFld.setFlag

theorem umax : (s.umax n k).Canon := h.raiseTo

theorem endRoutine : (s.endRoutine n).Canon := h.setSeq

theorem microStop : (s.microStop n cause).Canon := h.endRoutine.dispatchStop

theorem microFault {bit : Nat} : (s.microFault n bit).Canon := h.ustop.fault.endRoutine.gangFault

theorem watchdog : (s.watchdog n).Canon := h.ustop.umax.microStop

theorem fetchCheck : (s.fetchCheck n chk).2.Canon := by
  unfold State.fetchCheck
  split
  · next heq =>
    exact pair (h.takeInj.snd heq).ustop.faultInj.faultInj.endRoutine.gangFault
  · next heq =>
    have h1 := h.takeInj.snd heq
    split
    · next heq =>
      exact pair (h1.takeInj.snd heq).ustop.faultInj.faultInj.endRoutine.gangFault
    · next heq =>
      have h2 := h1.takeInj.snd heq
      split
      · exact h2
      · exact pair h2.count.count
      · exact pair h2.ustop.faultInj.faultInj.endRoutine.gangFault

theorem uop {cycles : Nat} {ready legal : Bool} {f : State → State} (hf : ∀ u, u.Canon → (f u).Canon) :
    (s.uop n chk cycles ready legal f).Canon := by
  unfold State.uop
  dsimp only
  refine ite h ?_
  refine ite h.watchdog ?_
  refine ite h.microFault ?_
  split
  · next heq =>
    exact h.fetchCheck.snd heq
  · next heq =>
    have h1 := h.fetchCheck.snd heq
    exact ite h1.microFault (hf _ h1.setMicro)

theorem uopM {cycles : Nat} {f : Micro → Micro} : (s.uopM n chk cycles f).Canon := h.uop (fun _ h1 => h1.setMicro)

theorem uopShift {ra : Nat} {v : Word → Word} {outBit : Nat} : (s.uopShift n rd ra chk k v outBit).Canon := by
  unfold State.uopShift
  dsimp only
  exact h.uop (fun _ h1 => ite h1.fresh.setMicro h1.setMicro)

theorem keeps_execUopMovs {n rd : Fin 16} {sel : BitVec 6} : KeepsCanon (execUopMovs n rd sel chk s) := by
  refine h.uop fun u h => ?_
  split
  · exact h.setMicro
  · exact (h.fresh (w := 32)).setMicro

theorem setSpecial {sel : Nat} : (s.setSpecial n sel v).Canon := by
  unfold State.setSpecial
  dsimp only
  split
  · exact h.setMicro
  · exact h.setMicro
  · exact h.setMicro
  · exact h.setMicro
  · exact h.setSeq
  · exact h.setSeq
  · exact h.setMicro
  · exact h.setFld
  · exact h

theorem uopGoto {at0 target : Nat} {wasOpen : Bool} : (s.uopGoto n at0 target wasOpen).Canon :=
  ite h.setMicro.microFault h.setMicro

theorem keeps_execUopEmitd {n : Fin 16} : KeepsCanon (execUopEmitd n chk s) := by
  refine h.uop fun u h => ite h.microStop ?_
  split
  · exact h.microStop
  · exact h.enqueue

theorem boundary {t : State} (heq : s.boundary n = some t) : t.Canon := by
  unfold State.boundary at heq
  split at heq
  · cases heq
    exact h.gangStop
  · cases heq

theorem boundNext : (s.boundNext n).Canon := by
  unfold State.boundNext
  dsimp only
  split
  · next heq =>
    exact h.umax.boundary heq
  · exact ite (ite h.umax.setSeq.executed h.umax.setSeq) (ite h.umax.setSeq.executed h.umax.setSeq).mispredict

theorem keeps_execUopStk {n r : Fin 16} {_sel : BitVec 6} {_imm : BitVec 16} :
    KeepsCanon (execUopStk n r _sel _imm chk s) := by
  unfold execUopStk
  dsimp only
  exact h.uop (fun _ h1 => h1.fresh.setMicro)

/-! ### The functions of Machine/Mc.lean -/

theorem setStore {x : Store} : (s.setStore n x).Canon := h.setSeq

theorem release : (s.release n chk).Canon :=
  ite (ite h.count.count h).setFld.setFld.setStore.setBit.count.event (ite h.count.count h).setFld.setFld.event

omit h in
theorem keeps_mcDrainRule : (mcDrainRule v chk s).Canon :=
  of_eff (fun _ h => foldl (fun _ _ h1 => h1.release) (ite (foldl (fun _ _ h1 => h1.setBit) h.setFld) (foldl (fun _ _ h1
    => h1.setBit) h.setFld).event))

theorem drainWrite : (s.drainWrite a n on chk).Canon := h.writeBy keeps_mcDrainRule

omit h in
theorem keeps_mcReloadRule : (mcReloadRule v s).Canon := of_eff (fun _ h => h.orReg)

theorem keeps_execMcReloadDone {n : Fin 16} {masterOk : Bool} : KeepsCanon (execMcReloadDone n masterOk s) := by
  unfold execMcReloadDone
  refine ite h ?_
  dsimp only
  split
  · next heq =>
    exact (h.setBit.takeInj.snd heq).setFld.setStore.faultInj
  · next heq =>
    have h1 := h.setBit.takeInj.snd heq
    exact ite h1.setFld.setStore.faultInj h1.setFld.setStore.event

theorem ploadWord : (s.ploadWord v).Canon := (foldl (fun _ _ h1 => ite h1.setStore h1) h).mk.setFld

theorem ploadFin {pstate maj minor : Nat} : (s.ploadFin pstate maj minor).Canon :=
  ite h.setFld.setFld.setFld.setFld.event h.setFld.setFld.setFld.setFld.fault

omit h in
theorem keeps_ploadDataRule : (ploadDataRule a v s).Canon := of_eff (fun _ h => h.ploadWord)

omit h in
theorem keeps_ploadFinRule : (ploadFinRule a v s).Canon := of_eff (fun _ h => ite h.setFld h.setFld.ploadFin)

omit h in
theorem keeps_mcRule : (mcRule a off v s).Canon := by
  unfold mcRule
  refine WRule.Canon.ite (of_eff (fun _ h => h.setReg)) ?_
  refine WRule.Canon.ite keeps_mcDrainRule ?_
  refine WRule.Canon.ite keeps_mcReloadRule ?_
  exact WRule.Canon.ite (of_eff (fun _ h => h.setReg)) (WRule.Canon.ite keeps_ploadDataRule (WRule.Canon.ite
    keeps_ploadFinRule keeps_ignored))

/-! ### The functions of Machine/Pager.lean -/

theorem pagerUpd {f : Pager → Pager} : (s.pagerUpd f).Canon := h.mk

theorem tableSlot : s.tableSlot.2.Canon := by
  unfold State.tableSlot
  dsimp only
  refine ite_snd (pair h.setMem.pagerUpd) ?_
  split
  · next heq =>
    exact pair (h.hwAlloc.snd heq).pagerUpd.setMem.pagerUpd
  · next heq =>
    exact h.hwAlloc.snd heq

theorem pgrEnable : (State.pgrEnable on s).Canon := by
  unfold State.pgrEnable
  refine ite ?_ h
  split
  · next heq =>
    exact (h.tableSlot.snd heq).setFld
  · next heq =>
    exact h.tableSlot.snd heq

omit h in
theorem keeps_pgrCtrlRule {reset : State → State} (hreset : ∀ u, u.Canon → (reset u).Canon) :
    (pgrCtrlRule v reset s).Canon :=
  of_refused (fun _ h => (keeps_ctrlRule (fun _ _ h1 => h1.pgrEnable) hreset).eff _ h) (fun _ _ h => ite h.hwAlloc h)

theorem needTable {v : Nat} : (s.needTable v).2.Canon := by
  unfold State.needTable
  refine ite_snd h ?_
  split
  · next heq =>
    exact pair (h.tableSlot.snd heq).setMemNat
  · next heq =>
    exact h.tableSlot.snd heq

theorem setPageBits {v hi lo x : Nat} : (s.setPageBits v hi lo x).Canon := h.setPage

theorem setDramUsed : (s.setDramUsed n).Canon := h.setFld.raiseTo

theorem dropResident {v : Nat} : (s.dropResident v).Canon := h.freeFrame.pagerUpd.setDramUsed

theorem evictPage {v : Nat} : (s.evictPage v).Canon := h.dropResident.setPageBits.setPageBits

theorem fetchRequest {v : Nat} : (s.fetchRequest v).Canon := ite h.setPageBits.setPageBits.pagerUpd h

theorem preloadCheck : s.preloadCheck.Canon := ite h h.event

theorem fetchFrame : (State.fetchFrame k s).2.Canon := by
  induction k generalizing s with
  | zero => exact pair h.event
  | succ k ih =>
    unfold State.fetchFrame
    split
    · next heq => exact pair ((ite_snd h.hwAlloc (pair h)).snd heq).setDramUsed
    · next heq =>
      have h1 := (ite_snd h.hwAlloc (pair h)).snd heq
      split
      · exact ih h1.evictPage
      · exact pair h1.event

theorem pageAsk {v : Nat} : (s.pageAsk v).Canon := ite h.sendTo h

theorem fetchFail {v : Nat} : (s.fetchFail v f inj).Canon := by
  unfold State.fetchFail
  refine ite h.setPageBits.pagerUpd.pageAsk ?_
  exact ite h.setPageBits.freeFrame.setDramUsed.pagerUpd.fault.event.preloadCheck
    h.setPageBits.freeFrame.setDramUsed.pagerUpd.fault.event

theorem fetchArrive {v : Nat} {refused was : Bool} : (s.fetchArrive v f refused was data).Canon := by
  unfold State.fetchArrive
  extract_lets
  refine ite h.fetchFail ?_
  split
  · next heq =>
    exact (h.takeInj.snd heq).fetchFail
  · next heq =>
    have h1 := h.takeInj.snd heq
    refine ite h1.fetchFail ?_
    extract_lets _ s1 _ _ s2
    have h2 : s1.Canon := h1.setMem.setPageBits.setPageBits.setPageBits
    have h3 : s2.Canon := ite h2.pagerUpd.pagerUpd.count.faultInj h2.pagerUpd.pagerUpd.count
    exact ite h3.preloadCheck h3

theorem keeps_execFetchFrameObtained {page : BitVec 21} : KeepsCanon (execFetchFrameObtained page s) := by
  unfold execFetchFrameObtained
  dsimp only
  refine ite h ?_
  split
  · split
    · next heq =>
      have h1 := h.fetchFrame.snd heq
      exact ite h1.pagerUpd.pageAsk h1.pagerUpd.fetchFail.fetchFail
    · next heq =>
      exact h.fetchFrame.snd heq
  · exact h

theorem keeps_execPageFetchArrival {page : BitVec 21} {refused : Bool} :
    KeepsCanon (execPageFetchArrival page refused data s) := by
  unfold execPageFetchArrival
  split
  · exact h.fetchArrive
  · exact h

theorem keeps_execFetchTimeout {page : BitVec 21} : KeepsCanon (execFetchTimeout page s) := by
  unfold execFetchTimeout
  split
  · exact h.fetchFail
  · exact h

theorem freeFetchFrame : s.freeFetchFrame.2.Canon := by
  unfold State.freeFetchFrame
  refine ite_snd ?_ h
  split
  · next heq =>
    exact pair (h.hwAlloc.snd heq).setDramUsed
  · next heq =>
    exact h.hwAlloc.snd heq

theorem dropStamps {v : Nat} : (s.dropStamps v).Canon := foldl (fun _ _ h1 => h1.setWalker) h

theorem pageDelivered {node spage v : Nat} : (s.pageDelivered node spage v data).Canon := by
  unfold State.pageDelivered
  refine ite h ?_
  refine ite ?_ ?_
  · split
    · next heq =>
      exact (h.freeFetchFrame.snd heq).fetchRequest.pagerUpd.dropStamps.fetchArrive
    · next heq =>
      exact h.freeFetchFrame.snd heq
  · split
    · exact h.fetchArrive
    · split
      · next heq =>
        exact (h.freeFetchFrame.snd heq).pagerUpd.fetchArrive
      · next heq =>
        exact h.freeFetchFrame.snd heq
    · exact h

theorem preload {v : Nat} : (s.preload v).Canon := h.setPageBits.fetchRequest

theorem mapOne {o : MapOp} {v : Nat} : (s.mapOne o i v).2.Canon := by
  unfold State.mapOne
  refine ite_snd h ?_
  split
  · exact h
  · split
    · next heq =>
      exact h.needTable.snd heq
    · next heq =>
      have h1 := h.needTable.snd heq
      exact pair (ite h1.setPage.preload h1.setPage)

theorem dropPageLines {v : Nat} : (s.dropPageLines v).Canon := foldl (fun _ _ h1 => ite h1.setLines h1) h

theorem unmapOne {v : Nat} : (s.unmapOne v).2.Canon := ite_snd h (pair (ite h.dropResident h).setPage.dropPageLines)

theorem mapPage {o : MapOp} : (s.mapPage o i).2.Canon := by
  unfold State.mapPage
  dsimp only
  refine ite_snd h.mapOne ?_
  refine ite_snd h ?_
  refine ite_snd h.unmapOne ?_
  refine ite_snd (pair h.preload) ?_
  exact ite_snd (pair h.setPageBits) (ite_snd (pair (ite (ite h.setPageBits.setPageBits.fetchRequest
    h.setPageBits.setPageBits) h)) (pair h.setReg64.setFld))

theorem mapPages {o : MapOp} : (State.mapPages o k i s).2.2.Canon := by
  induction k generalizing s i with
  | zero => exact h
  | succ k ih =>
    unfold State.mapPages
    split
    · next heq => exact ih (h.mapPage.snd heq)
    · next heq => exact h.mapPage.snd heq

theorem mapEnd {done result : Nat} : (s.mapEnd done result).Canon := h.setFld.setFld.setFlag.pagerUpd.event

theorem keeps_execPgrMapOpDone : KeepsCanon (execPgrMapOpDone s) := by
  unfold execPgrMapOpDone
  split
  · exact h
  · dsimp only
    exact ite h.mapPages.mapEnd.event h.mapPages.mapEnd

omit h in
theorem keeps_mapOpRule : (mapOpRule v s).Canon := of_eff (fun _ h => ite h.mapEnd h.setFlag.pagerUpd)

theorem lineRoom {l : Nat} {t : State} (heq : s.lineRoom n l = some t) : t.Canon := by
  unfold State.lineRoom at heq
  split at heq
  · cases heq
    exact h
  · split at heq
    · split at heq
      · cases heq
        exact h.setLines
      · cases heq
    · cases heq

theorem lineDouble {l : Nat} : (s.lineDouble n l inj).Canon :=
  ite h.setLines.setWalker.faultInj.gangFault h.setLines.setWalker

theorem lineCheck {l : Nat} : (s.lineCheck n l chk).2.Canon := by
  unfold State.lineCheck
  split
  · next heq =>
    exact pair (h.takeInj.snd heq).lineDouble
  · next heq =>
    have h1 := h.takeInj.snd heq
    split
    · exact h1
    · exact pair h1.count
    · exact pair h1.lineDouble

theorem keeps_execLineFill {n : Fin 16} {line : BitVec 30} : KeepsCanon (execLineFill n line chk s) := by
  unfold execLineFill
  extract_lets
  refine ite h.lineCheck ?_
  split
  · exact h
  · refine ite h.fault.gangFault ?_
    split
    · exact h
    · next heq =>
      have h1 := h.lineRoom heq
      dsimp only
      split
      · next heq =>
        exact h1.count.setLines.lineCheck.snd heq
      · next heq =>
        have h2 := h1.count.setLines.lineCheck.snd heq
        split
        · exact h2.setWalker.faultInj
        · exact h2

omit h in
theorem keeps_vcCfgRule : (vcCfgRule n v s).Canon := of_eff (fun _ h => h.setFld.setFld.setWalker.vcCount.setFld)

omit h in
theorem keeps_vcRule : (vcRule off v s).Canon := by
  unfold vcRule
  exact WRule.Canon.ite keeps_vcCfgRule keeps_ignored

theorem collect {l : List Nat} : (s.collect n l).Canon := by
  unfold State.collect
  dsimp only
  split
  · exact h
  · exact h.setWalker

theorem walkRequest {a stamp : Nat} {r : WalkRec} : (s.walkRequest n a stamp r).2.Canon :=
  ite_snd (pair h.fetchRequest) (ite_snd (pair (foldl (fun _ _ h1 => h1.fetchRequest) h)) (pair (foldl (fun _ _ h1 =>
    h1.fetchRequest) h).setWalker))

theorem walkAlt {stamp limit a used : Nat} : (State.walkAlt n stamp limit k a used s).Canon := by
  induction k generalizing s a used with
  | zero => exact h
  | succ k ih =>
    refine ite h (ite h.fetchRequest (ite (ite h (ih h)) ?_))
    split
    · next heq => exact h.walkRequest.snd heq
    · next heq =>
      have h1 := h.walkRequest.snd heq
      exact ite h1.collect (ih h1.collect)

theorem pinLoop {c : Candidate} {left : Nat} : (s.pinLoop n c left).Canon := h.setWalker.vcCount.count.event

theorem walkStop : (s.walkStop n).Canon := h.setWalker

theorem walkTo {a : Nat} : (s.walkTo n a).Canon := h.setWalker

theorem walkFollow {r : WalkRec} {before reps : Nat} {l : List Nat} : (s.walkFollow n r before reps l).Canon := by
  refine ite ?_ (ite ?_ (ite ?_ (ite ?_ (ite h.walkTo (ite ?_ (ite h.walkStop
    (ite h.setWalker.walkTo (ite h.setWalker.walkTo h.walkTo))))))))
  · exact ite h.walkTo (ite h.walkStop (ite h.setWalker.setWalker.collect h.setWalker).walkTo)
  · split
    · exact h.walkStop
    · split
      · exact h.pinLoop
      · exact ite h.setWalker h.setWalker.walkTo
  · exact ite h.walkStop h.setWalker.walkTo
  · split
    · exact h.walkStop
    · exact h.setWalker.walkTo
  · exact ite h.setWalker.walkAlt.walkTo h.setWalker.walkAlt.walkTo

theorem walkPoison {v : Nat} : (s.walkPoison v).Canon := (ite h.dropResident h).setPageBits.fault.event

theorem walkRecord : (s.walkRecord n).Canon := by
  unfold State.walkRecord
  dsimp only
  refine ite h.walkTo ?_
  split
  · next heq =>
    exact h.walkRequest.snd heq
  · next heq =>
    exact (h.walkRequest.snd heq).collect.setWalker.walkFollow

theorem keeps_execWalkerStep {n : Fin 16} : KeepsCanon (execWalkerStep n s) := by
  unfold execWalkerStep
  dsimp only
  refine ite h ?_
  refine ite (ite h h.setWalker) ?_
  split
  · exact (ite h h.setWalker).fetchRequest
  · exact ite (ite h h.setWalker).walkPoison (ite h h.setWalker).walkRecord

theorem startMoved : (s.startMoved n).Canon := ite h h.setWalker

omit h in
theorem keeps_pgrSqRule : (pgrSqRule n off v s).Canon := by
  unfold pgrSqRule
  extract_lets
  exact WRule.Canon.ite (of_eff (fun _ h => h.storeReg)) (WRule.Canon.ite (of_eff (fun _ h => ite h.setWalker h))
    (WRule.Canon.ite (of_eff (fun _ h => h.setWalker)) keeps_plainRule))

omit h in
theorem keeps_pgrRule : (pgrRule off v s).Canon := by
  unfold pgrRule
  extract_lets
  exact WRule.Canon.ite (of_eff (fun _ h => h.storeReg)) (WRule.Canon.ite (of_eff (fun _ h => h.storeReg))
    (WRule.Canon.ite keeps_mapOpRule (WRule.Canon.ite keeps_pgrSqRule keeps_plainRule)))

theorem pgrReset : s.pgrReset.Canon := by
  unfold State.pgrReset
  dsimp only
  refine foldl (fun _ _ h1 => h1.setWalker) ?_
  refine pagerUpd ?_
  refine foldl (fun _ _ h1 => ?_) h
  refine setPageBits ?_
  split
  · exact h1.freeFrame.setDramUsed
  · exact h1

theorem vcReset : s.vcReset.Canon := foldl (fun _ _ h1 => h1.setWalker.vcCount) h

theorem mapCommand {count : Nat} {hold verify : Bool} : (s.mapCommand a op count hold verify).Canon :=
  h.writeBy keeps_mapOpRule

/-! ### The functions of Machine/Fabric.lean -/

theorem elect : s.elect.Canon := by
  unfold State.elect
  split
  · exact ite h (ite h.mk.mk.setFld.event h.mk).setReg64.setReg.setFlag.timeRole

theorem sendRoutes : s.sendRoutes.Canon := foldl (fun _ _ h1 => h1.sendLocal) h

theorem reroute : s.reroute.Canon := (ite h h.mk.unsettle.event).setFld

theorem regroupAll : s.regroupAll.Canon := by
  unfold State.regroupAll
  refine foldl (fun _ _ h1 => ?_) h
  split
  · exact foldl (fun _ _ h2 => ite h2.event h2) h1.mk

theorem sendJoins : s.sendJoins.Canon := foldl (fun _ _ h1 => h1.sendLocal) h

theorem tell : (s.tell f).Canon := ite h.setFport.sendLocal h

theorem fabUpdate : s.fabUpdate.Canon := by
  unfold State.fabUpdate
  extract_lets _ _ s1 s2
  have h1 : s1.Canon := foldl (fun _ _ h1 => h1.tell) h.elect.reroute.regroupAll
  have h2 : s2.Canon := ite h1.sendRoutes h1
  exact ite h2.sendJoins h2

theorem portLeave : (s.portLeave f st cause).Canon :=
  (ite h.setFport.setFpState.setFld.setFld.setTime.event h.setFport.setFpState.setFld.setFld.setTime).fabUpdate

theorem trainFails : (s.trainFails f cause).Canon := (ite h.count h.count.setFport.fault).portLeave

theorem portGate : (s.portGate f).Canon := ite (ite h.setFport.setFpState h) (ite h h.portLeave)

theorem portRetrain : (s.portRetrain f).Canon := ite h h.portLeave

theorem sendTs {b1 b3 : Nat} : (s.sendTs f b1 b3).Canon := foldl (fun _ _ h1 => h1.put) h

theorem keeps_execOsTs1 {f : Fin 6} {lane num : Fin 4} {slock offFreq : Bool} :
    KeepsCanon (execOsTs1 f lane num slock offFreq s) :=
  ite h (ite (ite h.setFpState.sendTs h).setFport.trainFails (ite (ite h.setFpState.sendTs h).setFport.sendTs (ite
    h.setFpState.sendTs h).setFport))

theorem eqFirst {l : Nat} : (s.eqFirst f l).Canon := by
  unfold State.eqFirst
  split
  · next heq =>
    have h1 := h.fresh.snd heq
    split
    · next heq =>
      exact (h1.fresh.snd heq).setFport.put

theorem keeps_execOsTs2 {f : Fin 6} {lane num : Fin 4} {peer : BitVec 4} : KeepsCanon (execOsTs2 f lane num peer s) :=
  ite h (ite h.setFport.trainFails (foldl (fun _ _ h1 => h1.eqFirst) h.setFport.setFld.setFpState.setFport))

theorem keeps_execOsEqr {f : Fin 6} {lane : Fin 4} {pre post : Byte} : KeepsCanon (execOsEqr f lane pre post s) := by
  unfold execOsEqr
  split
  · exact ite h.setFld.setFld.put h

theorem exchangeStart : (s.exchangeStart f).Canon := h.setFport.put.setTime

theorem eqCheck : (s.eqCheck f).Canon := ite h.setFport.setFpState.fabUpdate.tell.exchangeStart h

theorem keeps_execOsEqa {f : Fin 6} {lane : Fin 4} {_pre _post : Byte} {more : Option (Fin 9 × Fin 17)} :
    KeepsCanon (execOsEqa f lane _pre _post more s) := by
  unfold execOsEqa
  dsimp only
  refine ite h ?_
  split
  · exact h.setFport.put
  · exact h.setFport.put.eqCheck

theorem configCheck : (s.configCheck f).Canon := by
  unfold State.configCheck
  split
  · exact h
  · exact ite h.setFpState.setFld.setFld.setFport.event.fabUpdate.sendLocal h

theorem wordSeen : (s.wordSeen f).Canon := h.setFport

theorem loopLeave : (s.loopLeave f).Canon := (ite h.putSet h).setFld.portLeave

omit h in
theorem keeps_fpLbRule : (fpLbRule f v s).Canon :=
  of_eff (fun _ h => ite (ite h.setFlag h.setFlag.loopLeave) (ite h.setFlag.setFld.setFpState.setFport.setFlag.putSet
    h.setFlag.setFld.setFpState))

theorem peerGone {ev : Nat} : (s.peerGone f cause ev).Canon := ite h.portLeave.event h

theorem detFlush : (s.detFlush f).Canon := foldl (fun _ _ h1 => h1.put) h.setFport

theorem portsOff {b1 : Nat} : (s.portsOff b1).Canon :=
  foldl (fun _ _ h1 => (ite h1.detFlush.putSet.portLeave (ite h1.portLeave h1)).setFport) h

theorem portsWake : s.portsWake.Canon := foldl (fun _ _ h1 => h1.setFport) h

theorem srefLost : s.srefLost.Canon := foldl (fun _ _ h1 => ite h1 h1.portLeave) h

theorem lasting {m1 m2 : Nat} : (s.lasting f m1 m2 inj).Canon :=
  ite h.faultInj.event.setFport.setFld.setFpState.sendTs.fabUpdate h.faultInj.portLeave

theorem countViolations : (s.countViolations f m).Canon := foldl (fun _ _ h1 => h1.count) h

theorem attemptFails : (s.attemptFails f m inj).Canon := ite h.put.setFport h.put.lasting

theorem rxInject : (s.rxInject f).2.Canon := ite_snd h.takeInj (ite_snd h h.takeInj)

theorem rxPacket {seq : BitVec 12} {page : Bool} {act : State → State} (hact : ∀ u, u.Canon → (act u).Canon) :
    (s.rxPacket f seq page act).Canon := by
  unfold State.rxPacket
  refine ite h ?_
  dsimp only
  refine ite h.wordSeen.rxInject.attemptFails ?_
  refine ite ?_ (ite h.wordSeen.rxInject.count (ite h.wordSeen.rxInject h.wordSeen.rxInject.attemptFails))
  exact hact _ (ite h.wordSeen.rxInject.setFport.count.faultInj h.wordSeen.rxInject.setFport).count.put.put

theorem resend {bad : Nat → Bool} : (s.resend f m bad).Canon := ite h.lasting (foldl (fun _ _ h1 => h1.put) h.setFport)

theorem keeps_execLinkReplayTimeout {f : Fin 6} : KeepsCanon (execLinkReplayTimeout f s) := by
  unfold execLinkReplayTimeout
  split
  · exact h
  · exact ite h.resend h

omit h in
theorem keeps_fpCfgRule : (fpCfgRule f v s).Canon := of_eff (fun _ h => (ite h.setReg.loopLeave h.setReg).portGate)

omit h in
theorem keeps_fpRule : (fpRule f off v s).Canon := by
  unfold fpRule
  refine WRule.Canon.ite keeps_fpCfgRule ?_
  refine WRule.Canon.ite (of_eff (fun _ h => h.setReg)) ?_
  exact WRule.Canon.ite keeps_fpLbRule (WRule.Canon.ite (of_eff (fun _ h => h.setReg)) (WRule.Canon.ite (of_eff (fun _ h
    => ite h.portRetrain h)) keeps_ignored))

/-! ### The functions of Machine/Host.lean -/

theorem setHost {i : HostLink} : (s.setHost i).Canon := h.mk

theorem complete : (s.complete status data).Canon := h.setHost

theorem aerUc : (s.aerUc b).Canon := h.setBit.fault

theorem hostFetchFail : s.hostFetchFail.Canon := by
  unfold State.hostFetchFail
  refine foldl (fun _ _ h1 => ?_) h
  split
  · exact ite h1.fetchFail.fetchFail h1
  · exact h1

theorem hostStop : s.hostStop.Canon := h.dmaEndAll.hostFetchFail

theorem hqPageReset : s.hqPageReset.Canon := by
  have hregs := swf_sdrop regReset (fun o => decide (P.HQ ≤ o) && decide (o < P.HQ + 0x1000)) s.regs h.1
  exact ⟨hregs, h.2⟩

theorem hostReset : s.hostReset.Canon := h.setReg.setReg.setReg.mk.setReg.hqPageReset.hostStop.event

theorem cfgRead {i : CfgItem} : (s.cfgRead i).2.Canon := by
  unfold State.cfgRead
  split
  · exact h
  · exact h
  · exact h
  · split
    · next heq =>
      exact h.fresh.snd heq
  · exact h
  · split
    · next heq =>
      exact h.fresh.snd heq
  · exact h
  · exact h
  · exact h
  · exact h
  · exact h.fresh

theorem dState {d3 : Bool} : (s.dState d3).Canon := ite h (ite h.setFld.event.hostStop h.setFld.event)

theorem keeps_execPcieConfigRequest {req : CfgRequest} : KeepsCanon (execPcieConfigRequest req s) := by
  unfold execPcieConfigRequest
  refine ite h ?_
  refine ite h.complete ?_
  split
  · split
    · next heq =>
      exact (h.cfgRead.snd heq).complete
  · exact h.setFlag.complete
  · exact h.setFlag.setFlag.complete
  · exact h.dState.complete
  · exact h.clrReg.complete
  · exact h.clrReg.complete
  · exact h.complete

theorem bar2Abort {o : Nat} : (s.bar2Abort o).Canon := h.count.setReg64.event

theorem bar2Read {x : Nat × Nat} {chk : ReadCheck} : (s.bar2Read x chk).Canon := by
  unfold State.bar2Read
  split
  · exact h.bar2Abort.setHost
  · exact (ite h.count.srExit h.count.srExit.readCheck).setHost

theorem bar2Write {o : Nat} {l : List Byte} : (s.bar2Write o l).Canon := by
  unfold State.bar2Write
  split
  · exact h.bar2Abort
  · exact ite h.count.srExit.writeFail h.count.srExit.setMem

omit h in
theorem keeps_hostRule : (hostRule a off v s).Canon := by
  unfold hostRule
  refine WRule.Canon.ite (of_eff (fun _ h => h.setReg)) ?_
  refine WRule.Canon.ite (of_eff (fun _ h => h.setReg)) ?_
  refine WRule.Canon.ite (of_eff (fun _ h => h.setReg.setReg.event)) ?_
  refine WRule.Canon.ite (of_eff (fun _ h => h.setReg)) ?_
  refine WRule.Canon.ite (of_eff (fun _ h => h.setReg)) ?_
  refine WRule.Canon.ite (of_eff (fun _ h => h.setReg)) ?_
  refine WRule.Canon.ite (of_eff (fun _ h => h.setReg)) ?_
  exact WRule.Canon.ite (of_eff (fun _ h => h.setFlag.setHost)) (WRule.Canon.ite (of_eff (fun _ h => h.setReg))
    keeps_ignored)

theorem rpCommand {be : BitVec 4} : (s.rpCommand a op be).Canon := h.writeBy keeps_hostRule

theorem keeps_execRpCmdDone {res : BusResult} {crs : Bool} : KeepsCanon (execRpCmdDone res crs s) := by
  unfold execRpCmdDone
  split
  · exact h
  · dsimp only
    split
    · exact ite (ite h.setHost.setReg.fault h.setHost.setReg).setReg (ite h.setHost.setReg.fault h.setHost.setReg)
    · exact ite h.setHost.setReg.fault h.setHost.setReg

theorem keeps_execRpInboundRequest {addr : BitVec 64} {req : RpRequest} :
    KeepsCanon (execRpInboundRequest addr req s) := by
  unfold execRpInboundRequest
  dsimp only
  refine ite h ?_
  split
  · exact ite h.srExit.complete h.complete
  · exact ite (ite h.srExit.writeFail h.srExit.setMem) (ite h.setFld.setFld.event h.complete)

theorem keeps_execBusMasterCompletion {ch : Fin 32} {res : BusResult} :
    KeepsCanon (execBusMasterCompletion ch res s) := by
  unfold execBusMasterCompletion
  refine ite h ?_
  split
  · exact h.dmaRun
  · exact h.aerUc.dmaEnd
  · exact h.aerUc.dmaEnd
  · exact h.dmaEnd

theorem setHq {x : HostQ} : (s.setHq q x).Canon := h.setHost

theorem hqFail : (s.hqFail q b inj).Canon := h.faultInj.setFld.event

theorem hqSettle : (s.hqSettle q).Canon := ite h.setFld h

theorem hqWrite {a : Nat} {l : List Byte} : (s.hqWrite q a l).2.Canon := by
  unfold State.hqWrite
  split
  · next heq =>
    exact pair (h.takeInj.snd heq).hqFail
  · next heq =>
    have h1 := h.takeInj.snd heq
    exact ite_snd (pair h1.mk) (pair h1.hqFail)

theorem hqPost {cid : Nat} {result : BitVec 64} : (s.hqPost q cid status result).Canon := by
  unfold State.hqPost
  dsimp only
  split
  · next heq =>
    exact h.hqWrite.snd heq
  · next heq =>
    have h1 := h.hqWrite.snd heq
    exact (ite h1.setFld.setFlag h1.setFld).count.count.event

theorem keeps_execCommandFetch {q : Fin 16} {cmd : Option (BitVec 512)} : KeepsCanon (execCommandFetch q cmd s) := by
  unfold execCommandFetch
  dsimp only
  refine ite h ?_
  split
  · exact h.takeInj.fresh.hqPost.hqFail
  · exact h.takeInj.setHq.setFld

theorem keeps_execCompletionPost {q : Fin 16} : KeepsCanon (execCompletionPost q s) := by
  unfold execCompletionPost
  dsimp only
  refine ite h ?_
  split
  · exact h
  · exact h.setHq.hqPost.hqSettle

theorem hqEnd {result : BitVec 64} : (s.hqEnd q status result).Canon := by
  unfold State.hqEnd
  split
  · exact h
  · exact h.setHq

theorem hqFree : (s.hqFree q status).Canon := by
  unfold State.hqFree
  split
  · next heq =>
    exact (h.fresh.snd heq).hqEnd

theorem hqExec {act : BitVec 512 → State → State} (hact : ∀ x u, u.Canon → (act x u).Canon) :
    (s.hqExec q op act).Canon := by
  unfold State.hqExec
  split
  · exact h
  · split
    · exact h.hqEnd
    · exact ite h.hqEnd h.hqFree
    · exact h
    · exact hact _ _ h

theorem keeps_execHqBadOpcode {q : Fin 16} : KeepsCanon (execHqBadOpcode q s) := by
  unfold execHqBadOpcode
  split
  · exact ite h.hqEnd h
  · exact h

omit h in
theorem keeps_fwCplRule : (fwCplRule a v s).Canon :=
  of_refused (fun _ h => ite h.setHost.setHq.hqPost h.setHost.setHq.setHq) (fun _ _ h => h.setHost)

theorem hqDisable : (s.hqDisable q).Canon := ite h.setHq.setFld.hqSettle (ite h h.setHq.setFld)

omit h in
theorem keeps_hqCfgRule : (hqCfgRule q v s).Canon :=
  of_eff (fun _ h => ite h.setReg.setHq.setReg.setReg.setReg (ite h.setReg.hqDisable h.setReg))

omit h in
theorem keeps_hqRule : (hqRule a off v s).Canon := by
  unfold hqRule
  refine WRule.Canon.ite (of_eff (fun _ h => h.setReg)) ?_
  refine WRule.Canon.ite (of_eff (fun _ h => h.setReg)) ?_
  refine WRule.Canon.ite (of_eff (fun _ h => h.setHost)) ?_
  refine WRule.Canon.ite keeps_fwCplRule ?_
  refine WRule.Canon.ite ?_ (WRule.Canon.ite (of_eff (fun _ h => h.setReg)) keeps_ignored)
  extract_lets
  refine WRule.Canon.ite keeps_hqCfgRule ?_
  refine WRule.Canon.ite (of_eff (fun _ h => h.setReg)) ?_
  exact WRule.Canon.ite (of_eff (fun _ h => h.setReg)) (WRule.Canon.ite (of_eff (fun _ h => h.setReg)) (WRule.Canon.ite
    (of_eff (fun _ h => h.setReg)) keeps_ignored))

theorem hqWriteReg : (s.hqWriteReg a off v).Canon := h.writeBy keeps_hqRule

theorem hqQuarantine : s.hqQuarantine.Canon :=
  foldl (fun _ _ h1 => ite (foldl (fun _ _ h2 => h2.hqPost) (ite h1.hqFree h1).setHq).setFld h1) h

/-! ### The functions of Machine/Net.lean -/

theorem fabUpd {f : Fab → Fab} : (s.fabUpd f).Canon := h.mk

theorem keeps_execOsTsx {f : Fin 6} {num : Byte} : KeepsCanon (execOsTsx f num s) := by
  unfold execOsTsx
  dsimp only
  refine ite h ?_
  split
  · exact ite h.setTime h.put.sendLocal
  · exact h.put.sendLocal

theorem setDelay {d2 : Int} : (s.setDelay f d2).Canon := h.setFld.setFld

theorem keeps_execPktTsync {f : Fin 6} {seq : BitVec 12} {t2 t3 : BitVec 64} :
    KeepsCanon (execPktTsync f seq t2 t3 s) := by
  refine h.rxPacket fun u h => ?_
  split
  · exact h.setTime.setDelay.setFport.exchangeDone.configCheck.fabUpdate
  · exact h

theorem takeAddr {a : Option Nat} : (s.takeAddr a).Canon := by
  unfold State.takeAddr
  split
  · exact h.setFld
  · exact (ite h.setReg.setFld.event.event h.setReg.setFld.event).fabUpdate.sendRoutes

theorem passGrant {uid : Nat} {a : Option Nat} : (s.passGrant uid a).Canon := by
  unfold State.passGrant
  refine ite h.takeAddr ?_
  split
  · exact h.sendLocal
  · exact h

theorem keeps_execElectionSettle : KeepsCanon (execElectionSettle s) := by
  unfold execElectionSettle
  refine ite h ?_
  dsimp only
  split
  · exact h.setFld.fabUpd
  · exact h.setFld.sendLocal

theorem lateGrant {uid : Nat} : (s.lateGrant uid).Canon := by
  unfold State.lateGrant
  split
  · exact h.passGrant
  · split
    · exact h.fabUpd.passGrant.fabUpdate
    · exact h.passGrant

theorem keeps_execPktAssign {f : Fin 6} {seq : BitVec 12} {m : AssignMsg} : KeepsCanon (execPktAssign f seq m s) := by
  refine h.rxPacket fun u h => ?_
  split
  · exact h.passGrant
  · dsimp only
    split
    · exact h.fabUpd.sendLocal
    · exact ite h.fabUpd.lateGrant h.fabUpd.fabUpd

theorem rxUnicast {seq : BitVec 12} {k : Packet} {act : State → State} (hact : ∀ u, u.Canon → (act u).Canon) :
    (s.rxUnicast f seq k act).Canon :=
  h.rxPacket (fun _ h1 => ite h1 (ite (hact _ h1) h1.forward))

theorem rxEither {seq : BitVec 12} {k : Packet} {act : State → State} (hact : ∀ u, u.Canon → (act u).Canon) :
    (s.rxEither f seq k act).Canon :=
  ite (h.rxPacket (fun _ h1 => ite h1 (ite (hact _ h1.multicast) h1.multicast))) (h.rxUnicast hact)

theorem rmEnd {result reason index : Nat} : (s.rmEnd result reason index).Canon := h.fabUpd.setReg.event

theorem rmSend {wr : Bool} {count : Nat} : (s.rmSend wr count).Canon := by
  unfold State.rmSend
  dsimp only
  refine ite h.rmEnd ?_
  split
  · exact h.count.rmEnd
  · exact ite h.rmEnd h.setReg.fabUpd.sendTo

omit h in
theorem keeps_rmCmdRule : (rmCmdRule v s).Canon := of_eff (fun _ h => h.rmSend)

theorem rmCommand {count : Nat} : (s.rmCommand a op count).Canon := h.writeBy keeps_rmCmdRule

theorem keeps_execPktRrsp {f : Fin 6} {seq : BitVec 12} {hd : PktHead} {r : RegRsp} :
    KeepsCanon (execPktRrsp f seq hd r s) := by
  refine h.rxUnicast fun u h => ?_
  split
  · exact ite (ite h (foldl (fun _ _ h => h.setReg) h)).rmEnd h
  · exact h

theorem keeps_execPktUnreach {f : Fin 6} {seq : BitVec 12} {hd : PktHead} {lost : BitVec 10} :
    KeepsCanon (execPktUnreach f seq hd lost s) := by
  refine h.rxUnicast fun u h => ?_
  split
  · exact ite h.rmEnd h
  · exact h

theorem serve {spage grp : Nat} {mc : Bool} : (s.serve src spage grp mc).Canon :=
  ite h.sendTo (ite h.sendTo (ite h (ite h.sendTo h.fabUpd)))

theorem keeps_execPageDeliverySend : KeepsCanon (execPageDeliverySend s) := by
  unfold execPageDeliverySend
  split
  · exact h
  · split
    · exact h.fabUpd
    · exact ite (ite (ite h.multicast h) h.sendTo).fabUpd.count (ite (ite h.multicast h) h.sendTo).fabUpd

theorem deliveredOpt {x : Incoming} : (s.delivered? x).Canon := by
  unfold State.delivered?
  dsimp only
  refine ite (foldl (fun _ _ h1 => h1.pageDelivered) h) ?_
  refine foldl (fun _ _ h1 => ?_) h
  split
  · exact ite h1.fetchArrive h1
  · exact h1

theorem pageDataOpt {spage index : Nat} {mc : Bool} : (s.pageData? src spage index mc data).Canon := by
  unfold State.pageData?
  dsimp only
  split
  · exact h
  · exact ite h.fabUpd (ite h.fabUpd.deliveredOpt h.fabUpd)

theorem keeps_execPktPnak {f : Fin 6} {seq : BitVec 12} {hd : PktHead} {spage : BitVec 21} {cause : BitVec 4} :
    KeepsCanon (execPktPnak f seq hd spage cause s) := by
  refine h.rxUnicast fun u h => foldl (fun v e h => ?_) h
  split
  · exact ite h.fetchArrive h
  · exact h

theorem rxDet {d : DetHead} {dtype : Nat} {body : BitVec 64} {aux : Nat} {act : State → State}
    (hact : ∀ u, u.Canon → (act u).Canon) : (s.rxDet f d dtype body aux act).Canon := by
  unfold State.rxDet
  refine ite h ?_
  extract_lets
  split
  · next heq =>
    have h1 := h.wordSeen.takeInj.snd heq
    exact ite (hact _ (ite h1.count.faultInj h1).detForward) (ite h1.count.faultInj h1).detForward

theorem keeps_execCsyncStart {k : Fin 16} : KeepsCanon (execCsyncStart k s) :=
  ite h (ite h.setSpan.spanEnd.detSend (ite h.setSpan.spanEnd.detSend h.setSpan.setFld.setFld.setSpan.startGang))

theorem keeps_execCondSend {k : Fin 16} : KeepsCanon (execCondSend k s) := by
  unfold execCondSend
  dsimp only
  refine ite h ?_
  split
  · exact h
  · exact h.setSeq.detSend

theorem rxNotice {d : DetHead} {dtype : Nat} {cycle : Word} : (s.rxNotice f d dtype cycle).Canon :=
  h.rxDet (fun _ h1 => foldl (fun _ _ h2 => h2.setSpan) h1)

theorem keeps_execSpanNoticeApply {k : Fin 16} : KeepsCanon (execSpanNoticeApply k s) := by
  unfold execSpanNoticeApply
  dsimp only
  refine ite h ?_
  split
  · exact h
  · exact ite h.setSpan.gangFault (ite h.setSpan.setSeq (ite h.setSpan.setSeq (ite h.setSpan.setSeq h.setSpan.setSeq)))

omit h in
theorem keeps_spanCfgRule : (spanCfgRule k v s).Canon :=
  of_eff (fun _ h => ite h.setReg h.setReg.setReg.setSpan.fabUpdate)

omit h in
theorem keeps_spanGoRule : (spanGoRule k v s).Canon := of_eff (fun _ h => ite h.detSend.setReg64.setSpan h)

theorem fabRaise : (s.fabRaise k).Canon := h.raiseTrigger.capExternal.stampEvent

omit h in
theorem keeps_trigSendRule : (trigSendRule v).Canon := of_eff (fun _ h => foldl (fun _ _ h1 => h1.fabTrigger) h)

omit h in
theorem keeps_fabGrpRule : (fabGrpRule v).Canon := of_eff (fun _ h => h.fabUpd.fabUpdate.sendJoins)

omit h in
theorem keeps_fabRule : (fabRule off v s).Canon := by
  unfold fabRule
  dsimp only
  refine WRule.Canon.ite (of_eff (fun _ h => h.setReg.fabUpdate)) ?_
  refine WRule.Canon.ite (of_eff (fun _ h => h.setReg)) ?_
  refine WRule.Canon.ite (of_eff (fun _ h => h.setReg)) ?_
  refine WRule.Canon.ite keeps_fabGrpRule ?_
  refine WRule.Canon.ite (of_eff (fun _ h => h.setReg)) ?_
  refine WRule.Canon.ite (of_eff (fun _ h => h.setReg)) ?_
  refine WRule.Canon.ite keeps_rmCmdRule ?_
  refine WRule.Canon.ite (of_eff (fun _ h => h.setReg)) ?_
  refine WRule.Canon.ite (of_eff (fun _ h => h.setReg)) ?_
  refine WRule.Canon.ite (of_eff (fun _ h => h.setReg)) ?_
  refine WRule.Canon.ite (of_eff (fun _ h => h.setReg)) ?_
  refine WRule.Canon.ite keeps_trigSendRule ?_
  refine WRule.Canon.ite (of_eff (fun _ h => h.setReg)) ?_
  refine WRule.Canon.ite ?_ keeps_ignored
  refine WRule.Canon.ite keeps_spanCfgRule ?_
  exact WRule.Canon.ite (of_eff (fun _ h => h.setReg)) (WRule.Canon.ite (of_eff (fun _ h => h.setReg)) (WRule.Canon.ite
    keeps_spanGoRule keeps_ignored))

theorem fabTick : s.fabTick.Canon := by
  unfold State.fabTick
  dsimp only
  split
  · exact ite (foldl (fun _ _ h1 => h1.detTick) h).setFlag.fabUpd (foldl (fun _ _ h1 => h1.detTick) h)
  · exact foldl (fun _ _ h1 => h1.detTick) h

/-! ### The functions of Machine/Part.lean -/

theorem ownPage {l : List Nat} {whole : Nat → Bool} : (s.ownPage p l whole).Canon := by
  unfold State.ownPage
  split
  · exact h.setFld.setFld
  · exact ite h.setFld.setFld h.setFld.setFld
  · exact h.setFld.setFld

theorem ownCus : s.ownCus.Canon := foldl (fun _ _ h1 => h1.ownPage) h

theorem recomputeOwners : s.recomputeOwners.Canon := by
  unfold State.recomputeOwners
  extract_lets _ s1 s2 s3 s4 s5
  have h1 : s1.Canon := foldl (fun _ _ h1 => h1.ownPage) h
  have h2 : s2.Canon := foldl (fun _ _ h2 => h2.ownPage) h1
  have h3 : s3.Canon := foldl (fun _ _ h3 => h3.ownPage) h2
  have h4 : s4.Canon := foldl (fun _ _ h4 => h4.ownPage) h3
  have h5 : s5.Canon := foldl (fun _ _ h5 => h5.ownPage) h4
  exact h5.ownCus

theorem forgetCorrupt : (s.forgetCorrupt k).Canon := h.mk

omit h in
theorem keeps_partCfgRule : (partCfgRule k v s).Canon := by
  unfold partCfgRule
  extract_lets
  exact WRule.Canon.ite (of_eff (fun _ h => h.ctxRead)) (of_refused (fun _ h => (ite h.setFlag.forgetCorrupt
    h.setFlag).recomputeOwners.ctxRead) (fun _ _ h => ite h.ctxRead h))

omit h in
theorem keeps_partListRule {mask : Word} : (partListRule k off v mask s).Canon :=
  of_refused (fun _ h => h.setReg.ctxRead) (fun _ _ h => ite h.ctxRead h)

theorem partArm : (s.partArm k).Canon := by
  unfold State.partArm
  dsimp only
  split
  · exact ite h.capArm.setPart.count.setFld h.capArm.setPart.count
  · exact h.capArm.setPart.count

theorem partAbort : (s.partAbort k).Canon := ite h.runRequest h.mk

theorem partCommand : (s.partCommand op k).Canon := by
  unfold State.partCommand
  refine ite h.partArm ?_
  exact ite h.capDisarm.setPart (ite h.runRequest (ite h.runRequest (ite h.partAbort (ite h.setPart (ite h.setPart (ite
    h.takeOut.setFlag.event (ite h.setFlag.setPart h)))))))

omit h in
theorem keeps_partCmdRule : (partCmdRule a v s).Canon :=
  of_refused (fun _ h => h.partCommand) (fun _ _ h => ite h (ite h.ctxRead (ite h.capArm h)))

theorem partWrite : (s.partWrite a op k).Canon := h.writeBy keeps_partCmdRule

omit h in
theorem keeps_retRule : (retRule a i v s).Canon :=
  of_eff (fun _ h => ite (foldl (fun _ _ h1 => h1.setFlag) h.orReg) h.orReg)

omit h in
theorem keeps_mgmtRule {eff : State → State} (heff : ∀ u, u.Canon → (eff u).Canon) : (mgmtRule a eff).Canon :=
  of_eff (fun _ h => heff _ h)

omit h in
theorem keeps_partRule : (partRule a off v s).Canon := by
  unfold partRule
  extract_lets
  refine WRule.Canon.ite keeps_partCmdRule ?_
  refine WRule.Canon.ite (of_eff (fun _ h => h.setReg)) ?_
  refine WRule.Canon.ite keeps_retRule ?_
  refine WRule.Canon.ite (of_eff (fun _ h => h.setReg)) ?_
  refine WRule.Canon.ite (keeps_mgmtRule (fun _ h => h.mk)) ?_
  refine WRule.Canon.ite (keeps_mgmtRule (fun _ h => h.setReg)) ?_
  exact WRule.Canon.ite (WRule.Canon.ite keeps_partCfgRule (WRule.Canon.ite keeps_partListRule (WRule.Canon.ite
    keeps_ignored keeps_partListRule))) keeps_ignored

/-! ### The functions of Machine/Tia.lean -/

theorem setTu {x : Tu} : (s.setTu u x).Canon := h.mk

theorem setTuState : (s.setTuState u st).Canon := h.setFld

theorem setTuFlag {f : Nat → Nat → Fld} {b : Bool} : (s.setTuFlag u f b).Canon := h.setFlag

theorem tuEnd {cancel : Bool} : (s.tuEnd u cancel).Canon :=
  h.setTuFlag.setTuFlag.setTuFlag.setTuFlag.setTuFlag.setFld.setReg.setTuState.event

theorem tuDisarm : (s.tuDisarm u).Canon := ite h.tuEnd h

theorem tuDisarmAll : s.tuDisarmAll.Canon := foldl (fun _ _ h1 => h1.tuDisarm) h

theorem tuArm : (s.tuArm u).Canon := (foldl (fun _ _ h1 => h1.setReg) h.setReg).setTuState.setTu

theorem tuEnable : (s.tuEnable u on).Canon :=
  (ite (ite h.setTuFlag.setTu h.setTuFlag.setTuState) (ite h.setTuFlag.setTu
    h.setTuFlag.tuDisarm.setTuState)).deriveMode

omit h in
theorem keeps_tuCtrlRule : (tuCtrlRule u v s).Canon := by
  unfold tuCtrlRule
  extract_lets
  exact of_eff (fun _ h => ite (ite (ite h.setTuFlag.tuDisarm h.setTuFlag).tuEnable (ite h.setTuFlag.tuDisarm
    h.setTuFlag)).tuArm (ite (ite h.setTuFlag.tuDisarm h.setTuFlag).tuEnable (ite h.setTuFlag.tuDisarm h.setTuFlag)))

omit h in
theorem keeps_tiaRule : (tiaRule n off v s).Canon := by
  unfold tiaRule
  extract_lets
  refine WRule.Canon.ite (of_eff (fun _ h => h.setReg)) ?_
  refine WRule.Canon.ite ?_ keeps_ignored
  exact WRule.Canon.ite keeps_tuCtrlRule (WRule.Canon.ite (of_eff (fun _ h => h.setReg)) (WRule.Canon.ite (of_eff (fun _
    h => h.setReg)) keeps_ignored))

theorem takeStamp {e : FrontEdge} {stop : Bool} {count : Nat} : (s.takeStamp e u stop count).Canon :=
  ite h.setReg.setReg.setReg64.setFld.setFld.setFlag h.setReg.setReg.setReg64.setFld.setFld.setFlag

theorem channelEdge {e : FrontEdge} {rearm : Bool} {stop : Bool} : (s.channelEdge e rearm u stop).2.Canon :=
  ite_snd h (ite_snd (pair h.setTu) (ite_snd (pair h.setTu.setFlag.event) (pair h.setTu.takeStamp)))

theorem frontEdge {e : FrontEdge} : (s.frontEdge e).Canon := by
  unfold State.frontEdge
  extract_lets rearm step
  have hstep : ∀ (q : Bool × State) (u : Nat), q.2.Canon → (step q u).2.Canon := fun q u hq =>
    have h1 := hq.channelEdge.channelEdge
    ite h1.tuEnd h1
  split
  · next heq => exact ((foldl_snd hstep (pair h)).snd heq).mk
  · next heq => exact (foldl_snd hstep (pair h)).snd heq

theorem tuWrite {bits : Nat} : (s.tuWrite a u bits).Canon := h.writeBy keeps_tuCtrlRule

/-! ### The functions of Machine/Dec.lean -/

theorem setDec {c : Nat} {x : DecCh} : (s.setDec c x).Canon := h.mk

theorem setDecState {c : Nat} : (s.setDecState c st).Canon := h.setFld

theorem fadeEnd {c : Nat} : (s.fadeEnd c).Canon := h.setFlag.setFld.setDec.event

theorem swapTake {c : Nat} {fades : Bool} : (s.swapTake c fades).Canon := by
  unfold State.swapTake
  extract_lets _ _ _ _ _ _ _ s1
  have h1 : s1.Canon := h.setFlag.setFld.setFlag.setFlag.setFld
  exact ite h (ite h.setFlag.setFld (ite h.setFlag.setFld (ite h1.setDec (ite h.setFlag.setFld.setFlag.event.setFld
    h.setFlag.setFld.setFlag.event))))

theorem decRestart {c : Nat} {clear : Bool} : (s.decRestart c clear).Canon :=
  (ite h.fadeEnd h).swapTake.setDecState.setFld.setDec

theorem decFresh {c : Nat} : (s.decFresh c).Canon := h.decRestart.setDec

theorem decApply {c : Nat} : (s.decApply c).Canon :=
  ite h.setDec (ite h.setDec.decRestart (ite h.setDec.decRestart h.setDec))

theorem decTransfer {now : Nat → Bool} : (s.decTransfer n now).Canon :=
  foldl (fun _ _ h1 => ite h1.decApply h1.setDec) h.copyShadow.transferred.setFlag

theorem decPeak {c : Nat} {y : Int} : (s.decPeak c y).Canon := ite h.setDec.setReg.setReg.setReg64 h.setDec

theorem decRms {c : Nat} {y : Int} : (s.decRms c y).Canon := ite h.setDec.setReg64.setReg h.setDec

theorem decLimits {c : Nat} {y : Int} : (s.decLimits c y).Canon :=
  ite h (ite (ite (ite h.setReg64 h).setFlag (ite h.setReg64 h)).setFlag (ite (ite h.setReg64 h).setFlag (ite h.setReg64
    h))).event

theorem decDeliver {c : Nat} {y : Int} {sat first fade : Bool} : (s.decDeliver c y sat first fade).Canon := by
  unfold State.decDeliver
  extract_lets _ _ _ _ _ s1 _ s2
  have h1 : s1.Canon := ite h.setReg.setReg64.setFlag h.setReg.setReg64
  have h2 : s2.Canon := h1.setFlag.decPeak.decRms.setReg.decLimits
  refine ite ?_ h2.count
  split
  · next heq =>
    exact h2.count.queueOffer.snd heq
  · next heq =>
    exact (h2.count.queueOffer.snd heq).count

theorem coefCheck {c : Nat} : (s.coefCheck c chk).2.Canon := by
  unfold State.coefCheck
  dsimp only
  split
  · next heq =>
    exact pair (h.takeInj.snd heq).faultInj.setDecState
  · next heq =>
    have h1 := h.takeInj.snd heq
    split
    · exact h1
    · exact pair h1.count
    · exact pair h1.fault.setDecState

theorem decForm {c : Nat} : (s.decForm c).Canon :=
  ite h.setFld.count (ite h.decDeliver.setDec.setDecState.event h.decDeliver.setDec)

theorem decBoundary {c : Nat} : (s.decBoundary c).Canon := by
  unfold State.decBoundary
  extract_lets _ _ s1 _ s2 s3
  have h1 : s1.Canon := ite h.decTransfer (ite h.decApply h)
  have h2 : s2.Canon := ite h1 (ite h1.fadeEnd h1.setFld)
  have h3 : s3.Canon := ite h2.decRestart h2
  exact ite h3 h3.swapTake

theorem keeps_execDecOutputSample {ch : Fin 32} {us : List Word} : KeepsCanon (execDecOutputSample ch us chk s) := by
  unfold execDecOutputSample
  dsimp only
  refine ite h ?_
  split
  · next heq =>
    exact h.coefCheck.snd heq
  · next heq =>
    exact (h.coefCheck.snd heq).setDec.setReg.decForm.decBoundary

theorem decEnable {c : Nat} : (s.decEnable c on).Canon := by
  unfold State.decEnable
  extract_lets _ _ _ _ s1 s2 s3
  have h1 : s1.Canon := ite h.setFlag.setDecState.fadeEnd h.setFlag.setDecState
  have h2 : s2.Canon := ite h1.decApply h1
  have h3 : s3.Canon := ite (ite h.setFlag.setDecState h.setFlag.decFresh) h2.swapTake
  exact h3.deriveMode

omit h in
theorem keeps_decCtrlRule {c : Nat} : (decCtrlRule c v s).Canon :=
  of_eff (fun _ h => ite (ite h.decEnable h).setDec (ite h.decEnable h))

omit h in
theorem keeps_decSwapRule {c : Nat} : (decSwapRule c v).Canon :=
  of_eff (fun _ h => ite (ite h.count h).setDec.setFlag.setFlag (ite h.count h).setDec.setFlag.setFlag.swapTake)

omit h in
theorem keeps_decRule : (decRule n off v s).Canon := by
  unfold decRule
  extract_lets
  refine WRule.Canon.ite (of_eff (fun _ h => h.setReg)) ?_
  refine WRule.Canon.ite ?_ keeps_ignored
  exact WRule.Canon.ite keeps_decCtrlRule (WRule.Canon.ite keeps_decSwapRule (WRule.Canon.ite (of_eff (fun _ h =>
    h.setReg)) (of_eff (fun _ h => h.storeReg))))

omit h in
theorem keeps_coefRule {c o : Nat} : (coefRule c o v s).Canon := of_eff (fun _ h => h.setTab)

theorem keeps_execClockLossTimeout {n : Fin 4} : KeepsCanon (execClockLossTimeout n s) :=
  ite h (foldl (fun _ _ h1 => ite (ite h1.setDecState.decApply h1.setDecState) h1) h.setFlag.setFld).count.event.fault

theorem decResume : (s.decResume n).Canon := ite h (foldl (fun _ _ h1 => ite h1.decFresh h1) h)

theorem keeps_execFreqMeasureInterval {n : Fin 4} {edges : BitVec 12} :
    KeepsCanon (execFreqMeasureInterval n edges s) :=
  ite (foldl (fun _ _ h1 => ite (ite h1.setDecState.decApply h1.setDecState) h1) h.setFld.setFlag.fault) (ite
    h.setFld.setFlag.decResume h.setFld)

theorem decTick : s.decTick.Canon := by
  unfold State.decTick
  refine foldl (fun _ _ h1 => ?_) h
  split
  · next heq =>
    exact (h1.takeInj.snd heq).faultInj
  · next heq =>
    exact h1.takeInj.snd heq

theorem decCal {c : Nat} : (s.decCal c).Canon :=
  (ite (ite h.setDecState.setFlag.fadeEnd h.setDecState.setFlag).decApply (ite h.setDecState.setFlag.fadeEnd
    h.setDecState.setFlag)).swapTake

theorem decCalEnd {c : Nat} : (s.decCalEnd c).Canon := ite h (ite h.setDecState h.decRestart)

/-! ### The functions of Machine/Syn.lean -/

theorem setSynState : (s.setSynState n st).Canon := h.setFld

theorem synIdleWord : (s.synIdleWord n).Canon := foldl (fun _ _ h1 => h1.setFld) h

theorem shapeValue {shape θ : Nat} : (s.shapeValue shape θ).2.Canon := by
  unfold State.shapeValue
  refine ite_snd ?_ (ite_snd h (ite_snd h (ite_snd h h)))
  split
  · next heq =>
    exact h.fresh.snd heq

theorem synPinEdge {time : Nat} {level : Bool} : (s.synPinEdge ch time level).Canon := by
  unfold State.synPinEdge
  refine ite h ?_
  dsimp only
  split
  · exact h.fresh.drop
  · exact h.setPin

theorem synEdge {time : Nat} {level : Bool} : (s.synEdge n time level).Canon := foldl (fun _ _ h1 => h1.synPinEdge) h

theorem synDone : (s.synDone n).Canon := h.setSynState.event

theorem synCross : (s.synCross n).Canon := ite h (ite h.setSyn.synEdge (ite h.setSyn h.setSyn.synEdge.synDone))

theorem synFlush : (s.synFlush n).Canon := foldl (fun _ _ h1 => h1.synCross) h

theorem synHalt : (s.synHalt n st).Canon :=
  (foldl (fun _ _ h1 => h1.setPin) h).synIdleWord.setFlag.setFlag.setSynState.setSyn

theorem synFault {x : Nat} : (s.synFault n x inj).Canon := h.synHalt.faultInj

theorem synStopAll : s.synStopAll.Canon := foldl (fun _ _ h1 => ite h1.synHalt.event h1) h

theorem synGraceful : (s.synGraceful n).Canon :=
  ite h.synIdleWord.setFlag.setFlag.setSyn.setSynState h.synIdleWord.setFlag.setFlag.setSyn.synDone

theorem enterSeg {seg : Nat} : (s.enterSeg n seg).Canon := h.setFld.count.event.setSyn

theorem enterChain {seg : Nat} : (State.enterChain f s n seg).Canon := by
  induction f generalizing s seg with
  | zero => exact h.synFault
  | succ f ih =>
    have h1 := h.enterSeg (n := n) (seg := seg)
    exact ite h1.synFault (ite h1 (ite h1.synFault (ite h1.synGraceful (ih h1))))

theorem synDecide : (s.synDecide n).Canon :=
  ite h.synGraceful (ite h.setFlag.setFld.setSyn.event.enterChain (ite h (ite h.synGraceful h.enterChain)))

theorem synCommit : (s.synCommit n).Canon :=
  ite h (ite h.copyShadow.transferred.setFlag (ite h.copyShadow.transferred.setFlag.synFault
    h.copyShadow.transferred.setFlag.setSyn))

theorem synListCheck : (s.synListCheck n chk).2.Canon := by
  unfold State.synListCheck
  split
  · next heq =>
    exact pair (h.takeInj.snd heq).synFault
  · next heq =>
    have h1 := h.takeInj.snd heq
    split
    · exact h1
    · exact pair h1.count
    · exact pair h1.synFault

theorem synMarker : (s.synMarker n m).Canon := ite h (ite h.event.setReg64.mk h.event.setReg64)

theorem synOutput {y : Int} : (s.synOutput n y).Canon := foldl (fun _ _ h1 => h1.setFld) h

theorem synAdvance {seg : Nat} : (s.synAdvance n seg).Canon := ite h.setSyn (ite h.setSyn h.setSyn)

theorem synSample {start : Bool} : (s.synSample n chk start).Canon := by
  unfold State.synSample
  split
  · next heq =>
    exact h.synListCheck.snd heq
  · next heq =>
    have h1 := h.synListCheck.snd heq
    extract_lets
    split
    · extract_lets
      split
      · next heq =>
        have h2 := h1.shapeValue.snd heq
        extract_lets _ _ s1 _ _ _ s2 s3
        have h3 : s1.Canon := ite h2.setFlag h2
        have h4 : s2.Canon := h3.setFlag.setReg.setReg64.setSyn.synOutput
        have h5 : s3.Canon := foldl (fun _ _ h5 => h5.synMarker) h4
        exact ite h5.synAdvance.synFault (ite (foldl (fun _ _ h6 => ite h6 h6.synPinEdge) h5.synAdvance.setSyn) (ite
          h5.synAdvance.setSyn h5.synAdvance.setSyn.synEdge))

theorem synBoundary : (s.synBoundary n chk).Canon :=
  ite h.synCommit (ite h.synCommit.synDecide h.synCommit.synDecide.synSample)

theorem keeps_execSynStartInstant {n : Fin 16} : KeepsCanon (execSynStartInstant n chk s) := by
  unfold execSynStartInstant
  refine ite h ?_
  split
  · exact h
  · dsimp only
    refine ite ?_ ?_
    · exact h.setSyn.setReg64.setReg64.synCommit.setSynState.setFlag.event.enterChain
    · exact h.setSyn.setReg64.setReg64.synCommit.setSynState.setFlag.event.enterChain.synSample

theorem synArm : (s.synArm n).Canon := (ite h.setFlag h).setSynState.setSyn

omit h in
theorem keeps_synCtrlRule : (synCtrlRule n v s).Canon := by
  unfold synCtrlRule
  extract_lets
  exact of_eff (fun _ h => ite (ite (ite (ite h.setFlag.setSynState (ite h.setFlag.synHalt h.setFlag)).deriveMode (ite
    h.setFlag.setSynState (ite h.setFlag.synHalt h.setFlag))).synArm (ite (ite h.setFlag.setSynState (ite
    h.setFlag.synHalt h.setFlag)).deriveMode (ite h.setFlag.setSynState (ite h.setFlag.synHalt h.setFlag)))).setSyn (ite
    (ite (ite h.setFlag.setSynState (ite h.setFlag.synHalt h.setFlag)).deriveMode (ite h.setFlag.setSynState (ite
    h.setFlag.synHalt h.setFlag))).synArm (ite (ite h.setFlag.setSynState (ite h.setFlag.synHalt h.setFlag)).deriveMode
    (ite h.setFlag.setSynState (ite h.setFlag.synHalt h.setFlag)))))

theorem synRequest {target : Nat} {atEnd : Bool} {reach : Option Nat} : (s.synRequest n target atEnd reach).Canon :=
  ite h (ite (ite h.count h) (ite h.count h).setFlag.setFlag.setFld.setSyn)

theorem synTrigger : (s.synTrigger i).Canon :=
  foldl (fun _ _ h1 => ite (ite h1.setSyn h1).synRequest (ite h1.setSyn h1)) h

omit h in
theorem keeps_dpRule {o : Nat} : (dpRule n o off v s).Canon := by
  unfold dpRule
  extract_lets
  exact WRule.Canon.ite (of_eff (fun _ h => ite h.setReg.setFld h.setReg)) (WRule.Canon.ite (of_eff (fun _ h =>
    h.setReg)) (WRule.Canon.ite (of_eff (fun _ h => h.setReg)) keeps_ignored))

omit h in
theorem keeps_synRule : (synRule n off v s).Canon := by
  unfold synRule
  extract_lets
  refine WRule.Canon.ite keeps_synCtrlRule ?_
  refine WRule.Canon.ite (of_eff (fun _ h => h.setReg)) ?_
  refine WRule.Canon.ite (of_eff (fun _ h => h.setReg)) ?_
  refine WRule.Canon.ite (of_eff (fun _ h => h.setReg)) ?_
  refine WRule.Canon.ite (of_eff (fun _ h => h.setReg)) ?_
  refine WRule.Canon.ite (of_eff (fun _ h => h.synRequest)) ?_
  refine WRule.Canon.ite (of_eff (fun _ h => h.setReg)) ?_
  exact WRule.Canon.ite (of_eff (fun _ h => h.storeReg)) (WRule.Canon.ite (of_eff (fun _ h => h.storeReg))
    (WRule.Canon.ite keeps_dpRule keeps_ignored))

/-! ### The functions of Machine/Cal.lean -/

theorem calPump {t : Nat} : (s.calPump t).Canon := by
  unfold State.calPump
  split
  · exact h.mk.sbStart
  · exact h

theorem calSend {l : List (Nat × Nat)} : (s.calSend l).Canon := foldl (fun _ _ h1 => h1.calPump) h.mk

theorem calRestore : s.calRestore.Canon := by
  unfold State.calRestore
  exact h.mk.calSend

theorem calFrameEnd {t : Nat} {bad : Bool} : (s.calFrameEnd t bad).Canon :=
  (ite h (ite h.setBit.fault (ite h.mk.calRestore h))).calPump

theorem keeps_execSbFrameEnd {n : Fin 16} {crcOk : Bool} {data : BitVec 16} :
    KeepsCanon (execSbFrameEnd n crcOk data s) := by
  unfold execSbFrameEnd
  split
  · next heq =>
    exact h.sbResponse.snd heq
  · next heq =>
    have h1 := h.sbResponse.snd heq
    exact ite h1.calFrameEnd h1.setFld.setFld.event.calPump

theorem tuEnterCal : (s.tuEnterCal u).Canon := ite h h.setTu.setTuState.setTuFlag

theorem tuLeaveCal : (s.tuLeaveCal u).Canon := ite h h.setTuState.setTuFlag

theorem setBins {l : List Nat} : (s.setBins i l).Canon := foldl (fun _ _ h1 => h1.setReg) h

theorem calDrop : s.calDrop.Canon := h.mk

theorem calApply {written : List Nat} : (s.calApply written).Canon := by
  unfold State.calApply
  extract_lets _ s1 _ _ s2 s3 s4 s5 s6 _ _ _ s7
  have h1 : s1.Canon := foldl (fun _ _ h1 => h1.setFld) h
  have h2 : s2.Canon := foldl (fun _ _ h2 => h2.setFld) h1.mk
  have h3 : s3.Canon := foldl (fun _ _ h3 => h3.setBins) h2
  have h4 : s4.Canon := foldl (fun _ _ h4 => ite h4.setFld h4) h3
  have h5 : s5.Canon := foldl (fun _ _ h5 => h5.setReg) h4
  have h6 : s6.Canon := foldl (fun _ _ h6 => ite h6.setBit h6) h5
  have h7 : s7.Canon := h6.setReg.setFlag.mk.setFlag.calDrop
  exact ite h7.setFlag.setFld.mk.event h7

theorem calLeave : s.calLeave.Canon := by
  unfold State.calLeave
  extract_lets s1 s2 s3 _ s4
  have h1 : s1.Canon := foldl (fun _ _ h1 => h1.tuLeaveCal) h
  have h2 : s2.Canon := foldl (fun _ _ h2 => h2.decCalEnd) h1
  have h3 : s3.Canon := ite h2.setFlag h2
  have h4 : s4.Canon := h3.setFlag.setFld.setFld.setReg.count.event
  exact ite h4.setMode h4

theorem calGiveUp : (s.calGiveUp code).Canon := ite h h.setFld.setFld.setReg.calDrop.calRestore

theorem calQuarantine : s.calQuarantine.Canon := by
  unfold State.calQuarantine
  extract_lets s1 _ s2 s3 s4 _ s5
  have h1 : s1.Canon := foldl (fun _ _ h1 => h1.setBit) h
  have h2 : s2.Canon := foldl (fun _ _ h2 => h2.tuLeaveCal) h1.setFld.setReg
  have h3 : s3.Canon := foldl (fun _ _ h3 => h3.decCalEnd) h2
  have h4 : s4.Canon := ite h3.setFlag h3
  have h5 : s5.Canon := ite h h4.setFlag.setFld.setFld.count.event
  exact h5.mk.calDrop

theorem calFinish : s.calFinish.Canon := ite h.calGiveUp h.calApply.mk.setFld.calLeave

theorem calRange : (s.calRange r).Canon := h.setReg.event

theorem calNext : (s.calNext k).Canon := by
  unfold State.calNext
  split
  · exact h.calFinish
  · exact ite (ite h.setFld.event.mk h.setFld.event).calRange (ite h.setFld.event.mk h.setFld.event)

theorem calBegin : s.calBegin.Canon := by
  unfold State.calBegin
  dsimp only
  refine ite h.setReg.setReg.mk.calDrop.setFld.setFld.calLeave ?_
  refine calNext ?_
  refine setFlag ?_
  refine setFld ?_
  refine ite ?_ ?_
  · exact (foldl (fun _ _ h1 => h1.decCal) (foldl (fun _ _ h1 => h1.tuEnterCal)
      h.setReg.setReg.mk.calDrop.setFld)).setFlag
  · exact foldl (fun _ _ h1 => h1.decCal) (foldl (fun _ _ h1 => h1.tuEnterCal) h.setReg.setReg.mk.calDrop.setFld)

theorem calFail {line : Option (Nat × Nat)} : (s.calFail line).Canon := by
  unfold State.calFail
  dsimp only
  refine fault ?_
  refine count ?_
  split
  · exact h.mk
  · exact h

theorem calGood {l : Nat} : (s.calGood l).Canon := ite h.mk h

theorem calError {l : Nat} {ps : ℚ} : (s.calError l ps).Canon := h.mk

theorem calTaps {l taps : Nat} {scale : Option ℚ} : (s.calTaps l taps scale).Canon := h.mk

theorem calTable {hits : List TiaHits} : (s.calTable hits i).Canon := by
  unfold State.calTable
  dsimp only
  refine ite h.fault.calFail ?_
  split
  · next heq =>
    exact (h.takeInj.snd heq).faultInj.calFail
  · next heq =>
    have h1 := h.takeInj.snd heq
    exact ite h1.mk h1.fault.calFail

theorem calOut {stamps : List OutStamps} {l : Nat} : (s.calOut stamps l).Canon := by
  unfold State.calOut
  dsimp only
  split
  · exact h.fresh.mk.calFail
  · exact ite h.fresh.mk.calFail (ite h.fresh.mk.calFail h.fresh.mk.calTaps.calGood)

theorem calTh {readings : List ThReadings} {l : Nat} : (s.calTh readings l).Canon := by
  unfold State.calTh
  refine ite h.calFail ?_
  dsimp only
  split
  · exact ite h.mk.calFail h.mk.calGood
  · exact h.calFail

theorem keeps_execCalThItem {readings : List ThReadings} {sbFail : List (Fin 16)} :
    KeepsCanon (execCalThItem readings sbFail s) := by
  unfold execCalThItem
  refine ite h ?_
  dsimp only
  refine calNext ?_
  refine foldl (fun _ _ h1 => h1.calTh) ?_
  refine foldl (fun _ _ h1 => ?_) h
  split
  · next heq =>
    exact (h1.takeInj.snd heq).mk.faultInj
  · next heq =>
    have h2 := h1.takeInj.snd heq
    exact ite h2.mk.fault h2

theorem calIn {l : Nat} {d : Except Nat ℚ} {d' : Option ℚ} : (s.calIn l d d').Canon := by
  unfold State.calIn
  split
  · exact h.calFail
  · exact h.calFail
  · exact ite h.calFail h.calTaps.calError.calGood

theorem calDec {sums : List DecSums} {c : Nat} : (s.calDec sums r c).Canon := by
  unfold State.calDec
  dsimp only
  refine ite h ?_
  refine ite h.mk.setBit.calFail ?_
  split
  · exact h.mk.setBit.calFail
  · exact ite h.mk.setBit.calFail (ite h.mk.setBit.calFail h.mk)

theorem keeps_execCalDecItem {sums : List DecSums} : KeepsCanon (execCalDecItem sums s) := by
  unfold execCalDecItem
  refine ite h ?_
  dsimp only
  split
  · exact (foldl (fun _ _ h1 => h1.calDec) h).mk.calNext
  · exact (foldl (fun _ _ h1 => h1.calDec) h).mk.calRange

theorem stageRecord {r : CalRec} : (s.stageRecord r).Canon := by
  unfold State.stageRecord
  dsimp only
  split
  · exact h.mk
  · exact h.mk
  · exact h.mk
  · exact h.mk
  · exact h.mk
  · exact h.mk

theorem importEnd {record : Nat} : (s.importEnd st cause record).Canon := h.setFld.setFld.setFld.mk.event

theorem importWord : (s.importWord v).Canon := ite h.importEnd h.mk.setFld

theorem importCommit : s.importCommit.Canon := by
  unfold State.importCommit
  dsimp only
  split
  · exact h.importEnd
  · refine calSend ?_
    refine foldl (fun _ _ h1 => ?_) h.calDrop.mk
    split
    · exact h1.stageRecord
    · exact h1

omit h in
theorem keeps_impCtrlRule : (impCtrlRule v s).Canon :=
  of_eff (fun _ h => ite (ite (ite h.setReg.mk h).setReg.mk (ite h.setReg.mk h)).importCommit (ite (ite h.setReg.mk
    h).setReg.mk (ite h.setReg.mk h)))

theorem exportStart {v10 : Bool} : (s.exportStart v10).Canon := h.setReg.mk

theorem exportEnd {result : Nat} : (s.exportEnd result).Canon := h.setFlag.setFld.mk.event

theorem exportRead : (s.exportRead chk).Canon := by
  unfold State.exportRead
  split
  · exact h.answer
  · split
    · next heq =>
      have h1 := h.takeInj.snd heq
      exact ite h1.faultInj.exportEnd.answer (ite (ite h1.count h1).mk.setFld.exportEnd (ite h1.count
        h1).mk.setFld).answer

omit h in
theorem keeps_calCmdRule : (calCmdRule v s).Canon :=
  of_eff (fun _ h => ite (ite (ite h.calBegin h).setFlag.mk (ite h.calBegin h)).calGiveUp (ite (ite h.calBegin
    h).setFlag.mk (ite h.calBegin h)))

omit h in
theorem keeps_calRule : (calRule a off v s).Canon := by
  unfold calRule
  dsimp only
  refine WRule.Canon.ite (of_eff (fun _ h => h.storeReg)) ?_
  refine WRule.Canon.ite keeps_calCmdRule ?_
  refine WRule.Canon.ite (of_eff (fun _ h => h.setReg.setFlag)) ?_
  refine WRule.Canon.ite (of_eff (fun _ h => h.setReg)) ?_
  refine WRule.Canon.ite (of_eff (fun _ h => ite h.setReg.exportStart h.setReg)) ?_
  exact WRule.Canon.ite keeps_impCtrlRule (WRule.Canon.ite (of_eff (fun _ h => h.importWord)) keeps_ignored)

theorem calReset : s.calReset.Canon := (ite h.calGiveUp h).mk

theorem calCommand : (s.calCommand a v).Canon := h.writeBy keeps_calCmdRule

/-! ### The functions of Machine/Sched.lean -/

theorem unready : (s.unready k).Canon := h.mk

theorem checkTask : (s.checkTask k).Canon := by
  unfold State.checkTask
  split
  · next heq =>
    exact (h.takeInj.snd heq).unready.setTask.faultInj
  · next heq =>
    exact h.takeInj.snd heq

theorem dispatchFor : (s.dispatchFor i).Canon := by
  unfold State.dispatchFor
  split
  · exact h.unready.setTask.setReg.setReg.count.count.setReg64.traceSched
  · exact h

theorem freeHart : (s.freeHart i).Canon := h.setReg

theorem idleEvent : (s.idleEvent i).Canon := ite h.event h

theorem portWait : (s.portWait i).Canon := by
  unfold State.portWait
  dsimp only
  split
  · next heq =>
    exact (h.freeHart.setTask.traceSched.testReady.snd heq).traceSched
  · next heq =>
    exact h.freeHart.setTask.traceSched.testReady.snd heq

theorem portCommand : (s.portCommand i op).Canon := by
  unfold State.portCommand
  extract_lets s1 s2 s3
  have h1 : s1.Canon := ite h.portWait (ite h.freeHart.traceSched.makeReady.traceSched (ite
    h.freeHart.setTask.traceSched (ite h.freeHart.makeReady.traceSched h)))
  have h2 : s2.Canon := ite h1 h1.dispatchFor
  have h3 : s3.Canon := ite h2 h2.idleEvent
  exact h3.settle

omit h in
theorem keeps_portRule : (portRule a i v s).Canon := of_eff (fun _ h => h.portCommand)

theorem port : (s.port a i op).Canon := h.writeBy keeps_portRule

theorem arm : (s.arm k).Canon := by
  unfold State.arm
  dsimp only
  refine settle ?_
  split
  · next heq =>
    exact (h.checkTask.setTask.traceSched.testReady.snd heq).traceSched
  · next heq =>
    exact h.checkTask.setTask.traceSched.testReady.snd heq

theorem cancel {race : Option Nat} : (s.cancel k race).Canon := by
  unfold State.cancel
  extract_lets _ _ _ _ _ s1 _ s2
  have h1 : s1.Canon := ite h.checkTask.setTask.traceSched.traceSched (ite h.checkTask.setTask
    h.checkTask.setTask.traceSched)
  have h2 : s2.Canon := ite h1.unready.setTask.count.event h1.unready.setTask
  exact h2.settle

omit h in
theorem keeps_schedCmdRule {race : Option Nat} : (schedCmdRule v race s).Canon :=
  of_eff (fun _ h => ite h.arm (ite h.cancel (ite h.setTaskFlag h.setTask.settle)))

theorem schedCmd {k : TaskKind} {id : Nat} {race : Option Nat} : (s.schedCmd a op k id f race).Canon :=
  h.writeBy keeps_schedCmdRule

theorem orphan : (s.orphan i).Canon := ite h h.freeHart.setTask.traceSched.event.settle

theorem hartEnable : (State.hartEnable i on s).Canon := ite h.setHart.settle h.orphan.setHart

theorem hartStop : (s.hartStop i).Canon := ite h.orphan.event h

omit h in
theorem keeps_hartCtrlRule {reset : State → State} (hreset : ∀ u, u.Canon → (reset u).Canon) :
    (hartCtrlRule a i v reset).Canon := by
  unfold hartCtrlRule
  extract_lets
  exact of_refused (fun _ h => (keeps_ctrlRule (fun _ _ h1 => h1.hartEnable) hreset).eff _ h) (fun _ _ h =>
    (keeps_ctrlRule (fun _ _ h1 => h1.hartEnable) hreset).refused _ _ h)

omit h in
theorem keeps_cntClrRule : (cntClrRule i v).Canon := of_eff (fun _ h => ite h.setReg64.setReg64.setReg64 h)

omit h in
theorem keeps_hartAddrRule {hi : Bool} : (hartAddrRule a i off hi v s).Canon := of_eff (fun _ h => h.setReg)

omit h in
theorem keeps_hartRule : (hartRule a i off v s).Canon := by
  unfold hartRule
  extract_lets
  refine WRule.Canon.ite keeps_hartAddrRule ?_
  refine WRule.Canon.ite keeps_hartAddrRule ?_
  refine WRule.Canon.ite (of_eff (fun _ h => h.setReg)) ?_
  refine WRule.Canon.ite (of_eff (fun _ h => h.setReg)) ?_
  refine WRule.Canon.ite keeps_portRule ?_
  exact WRule.Canon.ite (of_eff (fun _ h => h.setReg)) (WRule.Canon.ite (of_eff (fun _ h => h.setReg)) (WRule.Canon.ite
    keeps_cntClrRule keeps_ignored))

omit h in
theorem keeps_schedRule : (schedRule off v s).Canon := by
  unfold schedRule
  refine WRule.Canon.ite (of_eff (fun _ h => h.setReg.settle)) ?_
  refine WRule.Canon.ite keeps_schedCmdRule ?_
  refine WRule.Canon.ite (of_eff (fun _ h => h.setReg)) ?_
  refine WRule.Canon.ite (of_eff (fun _ h => h.setReg)) ?_
  exact WRule.Canon.ite (of_eff (fun _ h => h.setReg)) (WRule.Canon.ite (of_eff (fun _ h => h.setReg)) (WRule.Canon.ite
    (of_eff (fun _ h => h.mk)) keeps_ignored))

theorem traceSwitch {pat : Bool} : (s.traceSwitch pat on).Canon := by
  unfold State.traceSwitch
  dsimp only
  refine ite h ?_
  refine ite ?_ h.releaseFrames.setFlag
  split
  · next heq =>
    exact (h.allocFrames.snd heq).setFld.setFlag.setReg.setReg.setTraceLost
  · next heq =>
    exact h.allocFrames.snd heq

theorem traceLook {pat : Bool} : (s.traceLook pat on).Canon := by
  unfold State.traceLook
  dsimp only
  refine ite h ?_
  split
  · exact h.ftRead
  · exact h

omit h in
theorem keeps_traceCtrlRule : (traceCtrlRule v s).Canon :=
  of_refused (fun _ h => h.traceSwitch.traceSwitch) (fun _ _ h => ite h.traceLook.traceLook.event h)

omit h in
theorem keeps_traceRdRule {pat : Bool} : (traceRdRule pat v s).Canon := of_eff (fun _ h => h.setReg)

omit h in
theorem keeps_tracePageRule : (tracePageRule off v s).Canon := by
  unfold tracePageRule
  refine WRule.Canon.ite keeps_traceCtrlRule ?_
  exact WRule.Canon.ite (of_eff (fun _ h => h.setReg)) (WRule.Canon.ite (of_eff (fun _ h => h.setReg)) (WRule.Canon.ite
    keeps_traceRdRule (WRule.Canon.ite keeps_traceRdRule keeps_ignored)))

theorem schedReset : s.schedReset.Canon := h.mk

/-! ### The functions of Machine/Red.lean -/

theorem followEntry {e : Nat} : (s.followEntry src e).Canon := ite h h.setTaskFlag

theorem nodeConsume {d : NodeDesc} : (s.nodeConsume d).Canon := ite (foldl (fun _ _ h1 => h1.setReg) h) h

theorem nodeEnd {d : NodeDesc} {result : BitVec 64} : (s.nodeEnd u d status result).Canon := by
  unfold State.nodeEnd
  dsimp only
  refine ite ?_ h.setFlag.mk.traceSched.setTask.event.followEntry
  refine ite ?_ ((foldl (fun _ _ h1 => h1.followEntry) h.setFlag.mk.traceSched.nodeConsume).count.setTask)
  refine settle ?_
  split
  · next heq =>
    exact ((foldl (fun _ _ h1 => h1.followEntry) h.setFlag.mk.traceSched.nodeConsume).count.setTask.testReady.snd
      heq).traceSched
  · next heq =>
    exact (foldl (fun _ _ h1 => h1.followEntry) h.setFlag.mk.traceSched.nodeConsume).count.setTask.testReady.snd heq

theorem nodeError {d : NodeDesc} : (s.nodeError u d status).Canon := by
  unfold State.nodeError
  split
  · next heq =>
    exact (h.fresh.snd heq).nodeEnd

theorem nodeWrites {l : List (Nat × Nat × (State → State))} (hl : ∀ x ∈ l, ∀ u : State, u.Canon → (x.2.2 u).Canon) :
    (State.nodeWrites l s).2.Canon := by
  induction l generalizing s with
  | nil => exact h
  | cons x t ih =>
    obtain ⟨hx, ht⟩ := List.forall_mem_cons.mp hl
    exact ite_snd (pair h) (ih (hx _ h) ht)

omit h in
theorem of_mem_nodeOp_writes {d : NodeDesc} : ∀ x ∈ (s.nodeOp d).writes, ∀ u : State, u.Canon → (x.2.2 u).Canon := by
  unfold State.nodeOp
  split
  · exact List.forall_mem_map.mpr fun _ _ _ h => h.setMem
  · exact fun _ hx => absurd hx List.not_mem_nil
  · refine List.forall_mem_append.mpr ⟨?_, List.forall_mem_map.mpr fun _ _ _ h => h.setMemNat⟩
    split
    · exact List.forall_mem_map.mpr fun _ _ _ h => h.setMem
    · exact fun _ hx => absurd hx List.not_mem_nil
  · exact fun _ hx => absurd hx List.not_mem_nil
  · exact List.forall_mem_map.mpr fun _ _ _ h => h.setMem
  · unfold State.nodeDma
    dsimp only
    split <;> exact fun _ hx => absurd hx List.not_mem_nil
  · exact List.forall_mem_map.mpr fun _ _ _ h => h.setMem
  · exact fun _ hx => absurd hx List.not_mem_nil

theorem nodeFail {d : NodeDesc} {write : Bool} : (s.nodeFail u d write inj).Canon := h.faultInj.nodeError

theorem nodeRun {fail : Option (Bool × Nat)} : (s.nodeRun u fail).Canon := by
  unfold State.nodeRun
  extract_lets d o
  refine ite h.nodeError (ite h.nodeError ?_)
  split
  next heq =>
    have h1 := (ite_snd h.takeInj (pair h)).snd heq
    split
    next heq =>
      have h2 := (ite_snd h1.takeInj (pair h1)).snd heq
      refine ite h2.nodeFail (ite h2.nodeFail ?_)
      split
      · exact (h2.nodeWrites fun x hx => of_mem_nodeOp_writes x (List.mem_of_mem_take hx)).nodeFail
      · have h3 := h2.nodeWrites (of_mem_nodeOp_writes (s := s) (d := d))
        split
        · next heq => exact (h3.snd heq).nodeFail
        · next heq =>
          have h4 := h3.snd heq
          exact ite h4.nodeError h4.nodeEnd

theorem dispatchNode : (s.dispatchNode k u).Canon := by
  unfold State.dispatchNode
  dsimp only
  refine ite h.checkTask ?_
  split
  · next heq =>
    exact (h.checkTask.unready.setTask.setReg.count.traceSched.mk.takeInj.snd heq).nodeFail
  · next heq =>
    have h1 := h.checkTask.unready.setTask.setReg.count.traceSched.mk.takeInj.snd heq
    exact ite h1.nodeFail (ite (ite h1.nodeError h1.dmaStart) h1)

theorem keeps_execNodeDispatch : KeepsCanon (execNodeDispatch s) := by
  unfold execNodeDispatch
  refine ite h ?_
  refine foldl (fun _ _ h1 => ?_) h
  refine ite h1 ?_
  split
  · exact h1.dispatchNode
  · exact h1

theorem redTick : s.redTick.Canon := foldl (fun _ _ h1 => ite h1.setReg64 h1) h

omit h in
theorem keeps_redRule : (redRule off v s).Canon := by
  unfold redRule
  extract_lets
  refine WRule.Canon.ite (of_eff (fun _ h => h.setReg)) ?_
  exact WRule.Canon.ite (of_eff (fun _ h => h.setReg)) (WRule.Canon.ite (of_eff (fun _ h => h.setReg)) (WRule.Canon.ite
    (of_eff (fun _ h => h.setReg)) keeps_ignored))

theorem redReset : s.redReset.Canon := (foldl (fun _ _ h1 => ite h1.setTask h1) h).mk

/-! ### The functions of Machine/PageReset.lean -/

theorem stopMeasurement : s.stopMeasurement.Canon := h.tuDisarmAll.synStopAll

theorem disableMeasurement : s.disableMeasurement.Canon :=
  foldl (fun _ _ h1 => ite h1.setFlag.synHalt h1) (foldl (fun _ _ h1 => ite h1.decEnable h1) (foldl (fun _ _ h1 => ite
    h1.tuEnable h1) h))

theorem calAbandon : s.calAbandon.Canon := ite h.calGiveUp h.setMode

theorem quarantineStops : s.quarantineStops.Canon := by
  unfold State.quarantineStops
  extract_lets _ s1 s2 _ s3 s4
  have h1 : s1.Canon := foldl (fun _ _ h1 => ite h1.gangStop h1) h.safePins.diagEnd
  have h2 : s2.Canon := foldl (fun _ _ h2 => ite h2 (ite h2.capFaultArmed h2).setFld.setPart) h1
  have h3 : s3.Canon := foldl (fun _ _ h3 => ite h3.setDecState h3) h2.stopMeasurement
  have h4 : s4.Canon := foldl (fun _ _ h4 => h4.hartStop) h3
  exact h4.dmaEndAll.hqQuarantine.calQuarantine.portsOff.dramSleep

theorem clearPage {k : PageKind} : (s.clearPage k p).Canon := by
  have hregs := swf_sdrop regReset
    (fun o => decide (p ≤ o) && decide (o < p + 0x1000) && !keptOver k (o - p)) s.regs h.1
  exact ⟨hregs, h.2⟩

theorem tgReset : (s.tgReset n).Canon := (ite h.diagStop h).setTg

theorem resetBefore {k : PageKind} : (s.resetBefore k p).Canon := by
  unfold State.resetBefore
  extract_lets
  split
  · exact ite h.gangStop h
  · exact (ite h.gangStop h).tgReset
  · exact h.pgrReset
  · exact h.vcReset
  · exact foldl (fun _ _ h1 => ite h1.tuEnable h1) h
  · exact foldl (fun _ _ h1 => ite h1.decEnable h1) h
  · exact ite h.setFlag.synHalt.deriveMode h
  · exact h.schedReset
  · exact h.hicReset
  · exact h.traceSwitch.traceSwitch
  · exact h.redReset
  · exact h.orphan.setHart
  · exact h.dramReset
  · exact h.dmaEndAll
  · exact (ite h.loopLeave h).portRetrain
  · exact h.fabUpd.setReg.setReg
  · exact h.hostReset
  · exact h.calReset
  · exact h

theorem resetAfter {old : State} {k : PageKind} : (s.resetAfter old k p).Canon := by
  unfold State.resetAfter
  extract_lets
  split
  · exact h.setSeq
  · exact ite (foldl (fun _ _ h2 => h2.setReg) h.setFld) h
  · exact h.capReset
  · exact h.mk
  · exact h.mk
  · exact h.setSyn
  · exact foldl (fun _ _ h2 => h2.vcCount) h
  · exact foldl (fun _ _ h2 => h2.setFld.setFld.setReg.setReg) h
  · exact h.mk
  · exact h.portGate
  · exact h.fabUpdate
  · exact h.mk
  · exact h.mk
  · exact h.timeReset
  · exact h.orReg
  · exact h

theorem blockReset : (s.blockReset p).Canon := by
  unfold State.blockReset
  split
  · exact h
  · exact h.resetBefore.clearPage.setReg.setReg.resetAfter.setFlag.setFlag.setFlag.mk.count

theorem resetEnd : (s.resetEnd p).Canon := by
  unfold State.resetEnd
  dsimp only
  split
  · exact ite h.setFlag.setFlag.setFld h.setFlag.setFlag
  · exact h.setFlag.setFlag

theorem keeps_execBlockResetEnd {page : Fin 115} : KeepsCanon (execBlockResetEnd page s) := by
  unfold execBlockResetEnd
  split
  · exact h
  · exact ite h.resetEnd h

/-! ### The functions of Machine/Monel.lean -/

theorem setOpen {c : Nat} : (s.setOpen i c).Canon := h.mk

theorem logFault {f : FaultRec} {c : Nat} {r : Reactions} : (s.logFault f c r).Canon := by
  unfold State.logFault
  refine ite h ?_
  refine ite ?_ (ite h.count.mk.event h.count.mk)
  extract_lets _ _ _ _ _ s1 _ s2
  have h1 : s1.Canon := h.setReg.setReg.setReg64.setReg
  have h2 : s2.Canon := by
    unfold s2
    split
    · next heq =>
      exact (h1.raiseTo.takeInj.snd heq).count.faultInj
    · next heq =>
      exact h1.raiseTo.takeInj.snd heq
  split
  · next heq =>
    exact (h2.takeInj.snd heq).faultInj
  · next heq =>
    exact h2.takeInj.snd heq

theorem recordFirst {l : List (FaultRec × Nat)} : (s.recordFirst l).Canon := by
  unfold State.recordFirst
  refine ite h ?_
  split
  · exact h
  · exact h.setReg.setReg64

theorem aliveStop : s.aliveStop.Canon := h.setFlag.setFlag

theorem quarantine : (s.quarantine src).Canon :=
  ite h h.mk.setFlag.quarantineStops.setFlag.aliveStop.setReg.setReg64.setMode

theorem sendNmi {mask : Nat} : (s.sendNmi mask).Canon := foldl (fun _ _ h1 => h1.setHart) h

theorem react {c : Nat} {r : Reactions} : (s.react src c r).Canon := by
  unfold State.react
  extract_lets s1 s2 s3 s4 s5
  have h1 : s1.Canon := ite h.setFlag h
  have h2 : s2.Canon := ite h1.aliveStop h1
  have h3 : s3.Canon := ite h2.event h2
  have h4 : s4.Canon := ite h3.sendNmi h3
  have h5 : s5.Canon := by
    unfold s5
    refine ite ?_ h4
    split
    · exact h4.blockReset
    · exact h4
  exact ite h5.mk h5

theorem countFault {f : FaultRec} : (s.countFault f).2.Canon := by
  unfold State.countFault
  extract_lets s1
  have h1 : s1.Canon := by
    unfold s1
    split
    · next heq => exact (h.takeInj.snd heq).mk.faultInj
    · next heq => exact h.takeInj.snd heq
  exact pair h1.setOpen.mk.count

theorem takeFault {f : FaultRec} : (s.takeFault f).2.Canon := by
  unfold State.takeFault
  split
  · next heq =>
    exact pair (h.countFault.snd heq).logFault.react

theorem takeFaults {l : List FaultRec} : (s.takeFaults l).2.Canon := by
  induction l generalizing s with
  | nil => exact h
  | cons f t ih => exact ih h.takeFault

theorem keeps_execFaultTake : KeepsCanon (execFaultTake s) := by
  unfold execFaultTake
  refine ite h ?_
  dsimp only
  split
  · exact h.mk.takeFaults.recordFirst.quarantine
  · exact h.mk.takeFaults.recordFirst

omit h in
theorem keeps_fltAckRule : (fltAckRule v).Canon := of_eff (fun _ h => h.setOpen)

omit h in
theorem keeps_fltKickRule : (fltKickRule a v).Canon := of_eff (fun _ h => ite h.mk h.mk.setFlag)

omit h in
theorem keeps_fltErrnRule : (fltErrnRule v s).Canon := of_eff (fun _ h => ite h.setFlag h)

omit h in
theorem keeps_fltDevInjRule : (fltDevInjRule a v).Canon := of_eff (fun _ h => h.devFault)

omit h in
theorem keeps_fltLogRdRule : (fltLogRdRule v s).Canon := of_eff (fun _ h => ite h.setReg.mk h.setReg)

omit h in
theorem keeps_fltCfgRule : (fltCfgRule v i).Canon := of_eff (fun _ h => h.mk)

omit h in
theorem keeps_fltPageRule : (fltPageRule a off v s).Canon := by
  unfold fltPageRule
  refine WRule.Canon.ite (of_eff (fun _ h => h.setReg)) ?_
  refine WRule.Canon.ite keeps_fltCfgRule ?_
  refine WRule.Canon.ite keeps_fltAckRule ?_
  refine WRule.Canon.ite (of_eff (fun _ h => ite h.setFlag h)) ?_
  refine WRule.Canon.ite keeps_fltLogRdRule ?_
  refine WRule.Canon.ite keeps_fltDevInjRule ?_
  refine WRule.Canon.ite (of_eff (fun _ h => h.setReg)) ?_
  refine WRule.Canon.ite (of_eff (fun _ h => h.setReg)) ?_
  exact WRule.Canon.ite (of_eff (fun _ h => h.setReg)) (WRule.Canon.ite keeps_fltKickRule (WRule.Canon.ite
    keeps_fltErrnRule keeps_ignored))

theorem keeps_execFenceEnd {page : Fin 115} : KeepsCanon (execFenceEnd page s) := by
  unfold execFenceEnd
  split
  · exact h
  · exact ite h h.mk

/-! ### The functions of Machine/Dev.lean -/

theorem keepRetained {old : State} : (old.keepRetained s).Canon := h.setReg.setReg.setReg

theorem keepFaultLog {old : State} : (old.keepFaultLog s).Canon := ⟨swf_copyWords h.1, h.2⟩

omit h in
theorem coldBase : s.coldBase.Canon := reset.mk.setFld

omit h in
theorem coldPower : s.coldPower.Canon := coldBase

theorem coldKept {chip : Bool} : (s.coldKept cause src chip).Canon :=
  (ite (coldBase.keepRetained.coldDram h).keepFaultLog (coldBase.keepRetained.coldDram h)).setFld.setFld.count

theorem enterBoot : s.enterBoot.Canon := h.mk.setFld

theorem tryBoot : s.tryBoot.Canon := ite h.enterBoot h

theorem chipCold : (s.chipCold cause src).Canon := h.coldKept.mk

omit h in
theorem keeps_rstChipRule : (rstChipRule v).Canon := of_eff (fun _ h => h.chipCold)

theorem keeps_execChipResetDelayExpire : KeepsCanon (execChipResetDelayExpire s) := by
  unfold execChipResetDelayExpire
  split
  · exact h.chipCold
  · exact h

theorem setSleep {z : Sleep} : (s.setSleep z).Canon := h.mk

theorem sleepAbort : (s.sleepAbort cause).Canon := (ite h.dramWake.portsWake h).setSleep.setFlag.setFlag.setFld.event

theorem sleepAdvance : s.sleepAdvance.Canon := ite h.portsOff.dramSleep.setSleep h

theorem sleepGate : s.sleepGate.Canon :=
  (ite h.setFlag.setMode.setFld.count.safePins.setTime.setFlag.hostReset
    h.setFlag.setMode.setFld.count.safePins.setTime).setSleep

theorem wakeEnd : (s.wakeEnd m).Canon := h.mk.setSleep.setMode.setFld.event

theorem wakeLatch : (s.wakeLatch src).Canon := ite h (ite h.setBit.sleepAbort h.setBit)

theorem modeRequest : (s.modeRequest r).Canon := by
  unfold State.modeRequest
  refine ite h ?_
  exact ite h.stopMeasurement.setMode (ite (ite h.calAbandon h.diagEnd.disableMeasurement.setMode) (ite h.setMode (ite
    h.stopMeasurement.setMode h.setFlag.setSleep.sleepAdvance)))

omit h in
theorem keeps_devModeRule : (devModeRule v s).Canon := of_refused (fun _ h => h.modeRequest) (fun _ _ h => h.event)

theorem requestMode : (s.requestMode a r).Canon := h.writeBy keeps_devModeRule

omit h in
theorem keeps_devBootRule : (devBootRule a v s).Canon := of_eff (fun _ h => ite h.setMode (ite h.setMode h))

theorem setTemp {t : BitVec 16} : (s.setTemp t).Canon := ite h.setFld.setFld h.setFld

omit h in
theorem keeps_devSyncRule : (devSyncRule v).Canon := by
  unfold devSyncRule
  dsimp only
  exact of_eff (fun _ h => ite h.setReg.fresh.mk h.setReg)

omit h in
theorem keeps_devRule : (devRule a off v s).Canon := by
  unfold devRule
  refine WRule.Canon.ite keeps_devModeRule ?_
  refine WRule.Canon.ite keeps_devBootRule ?_
  refine WRule.Canon.ite (of_eff (fun _ h => h.setReg)) ?_
  exact WRule.Canon.ite (of_eff (fun _ h => h.setReg)) (WRule.Canon.ite (of_eff (fun _ h => h.setReg)) (WRule.Canon.ite
    keeps_devSyncRule keeps_ignored))

omit h in
theorem keeps_rstRule : (rstRule off v).Canon := WRule.Canon.ite keeps_rstChipRule keeps_ignored

omit h in
theorem keeps_pwrRule : (pwrRule off v s).Canon := by
  unfold pwrRule
  dsimp only
  refine WRule.Canon.ite (of_eff (fun _ h => h.setReg.orReg)) ?_
  refine WRule.Canon.ite (of_eff (fun _ h => h.clrReg.orReg)) ?_
  refine WRule.Canon.ite (of_eff (fun _ h => h.setReg)) ?_
  exact WRule.Canon.ite (of_eff (fun _ h => h.setReg)) (WRule.Canon.ite (of_eff (fun _ h => ite h.setFlag h))
    keeps_ignored)

theorem smbus {always : Bool} {v : Nat} : (s.smbus always n v).Canon := ite h h.mk.wakeLatch

theorem setTap {t : Tap} : (s.setTap t).Canon := h.mk

theorem tapBypass : s.tapBypass.Canon := h.setTap

theorem keeps_execTapDebug {dmi : BitVec 41} : KeepsCanon (execTapDebug dmi s) := by
  unfold execTapDebug
  dsimp only
  exact ite h.tapBypass (ite h.setTap h.fresh.setTap)

/-! ### The functions of Machine/Boot.lean -/

theorem loadPatch {p : Option PatchImage} : (s.loadPatch p).Canon := by
  unfold State.loadPatch
  dsimp only
  split
  · exact h.setFld.ploadFin
  · exact ite (foldl (fun _ _ h1 => h1.setFld.setFld.ploadWord) h.setFld).setReg.ploadFin h.setFld.ploadFin

theorem loadMgmt {b : BootImage} : (s.loadMgmt b).Canon := h.mk.setHart

theorem startClocks {b : BootInputs} : (s.startClocks b).Canon :=
  ite (ite h.setFlag.setReg.setFlag.setFlag h.setFlag.devFault).tpllLock.setFlag (ite h.setFlag.setReg.setFlag.setFlag
    h.setFlag.devFault).devFault

theorem runImage {b : BootInputs} {img : BootImage} {fallback : Bool} : (s.runImage b img code fallback).Canon :=
  (ite h.devFault h).loadPatch.mk.setFld.setFlag.setReg.loadMgmt

theorem chooseImage {b : BootInputs} : (s.chooseImage b).Canon :=
  ite h.setFld.runImage (ite h.setFld.runImage h.setFld.devFault)

theorem keeps_execBootRomSequence {b : BootInputs} : KeepsCanon (execBootRomSequence b s) :=
  ite h (ite (ite h.mk.count.devFault h.mk).devFault (ite (ite h.mk.count.devFault h.mk).devFault (ite
    h.mk.count.devFault h.mk).startClocks.chooseImage))

theorem trigEvent : (s.trigEvent i).Canon := h.raiseTrigger.pulse.capExternal.synTrigger.fabSource.stampEvent

/-! ### The functions of Machine/RegRead.lean -/

theorem latchPair : (s.latchPair a off).Canon := by
  unfold State.latchPair
  split
  · exact h
  · exact foldl (fun _ _ h1 => h1.latch) h

theorem readClear : (s.readClear off).Canon := by
  unfold State.readClear
  split
  · exact h
  · exact ite h (ite h.mk h.setReg)

theorem binCheck : (s.binCheck off).Canon := by
  unfold State.binCheck
  split
  · refine ite ?_ h
    split
    · next heq =>
      exact (h.takeInj.snd heq).faultInj
    · next heq =>
      exact h.takeInj.snd heq
  · exact h

theorem readWord : (s.readWord a off).2.Canon := by
  unfold State.readWord
  refine ite_snd h.esHeadRead ?_
  refine ite_snd h.queuePop ?_
  refine ite_snd h.hicClaim ?_
  refine ite_snd (pair h.exportRead) ?_
  split
  · exact pair h.mk
  · exact pair h.latchPair.readClear.binCheck

theorem readBy : (s.readBy a off).Canon := by
  unfold State.readBy
  refine ite ?_ h
  split
  · next heq =>
    exact (h.readWord.snd heq).answer

/-! ### The functions of Machine/RegWrite.lean -/

theorem keeps_enableEffect {k : PageKind} : (enableEffect k n on s).Canon := by
  unfold enableEffect
  split
  · exact h.hartEnable
  · exact h.pgrEnable
  · exact h.portGate
  · exact h.dramEnable
  · exact h

omit h in
theorem keeps_pageCtrlRule {k : PageKind} : (pageCtrlRule a k n p v s).Canon := by
  unfold pageCtrlRule
  extract_lets reset r
  have hr : r.Canon := by
    unfold r
    split
    · exact keeps_hartCtrlRule fun _ h => h.blockReset
    · exact keeps_pgrCtrlRule fun _ h => h.blockReset
    · exact keeps_ctrlRule (fun _ _ h => h.keeps_enableEffect) fun _ h => h.blockReset
  exact WRule.Canon.ite (of_refused hr.eff hr.refused) hr

omit h in
theorem keeps_pageInjRule {k : PageKind} : (pageInjRule k p v).Canon :=
  WRule.Canon.ite (of_eff (fun _ h => foldl (fun _ _ h1 => h1.faultInj) h)) keeps_injRule

omit h in
theorem keeps_pageRule {k : PageKind} : (pageRule a k n p off v s).Canon := by
  unfold pageRule
  split
  · exact keeps_devRule
  · exact keeps_ignored
  · exact keeps_ignored
  · exact keeps_rstRule
  · exact keeps_pwrRule
  · exact keeps_seqRule
  · exact keeps_tgRule
  · exact keeps_pgrRule
  · exact keeps_vcRule
  · exact keeps_capRule (fun _ h => h.recomputeOwners)
  · exact keeps_tiaRule
  · exact keeps_decRule
  · exact keeps_synRule
  · exact keeps_schedRule
  · exact keeps_hicRule
  · exact keeps_tracePageRule
  · exact keeps_redRule
  · exact keeps_hartRule
  · exact keeps_fltPageRule
  · exact keeps_dramRule
  · exact keeps_allocRule
  · exact keeps_dmaRule
  · exact keeps_fqRule
  · exact keeps_fpRule
  · exact keeps_fabRule
  · exact keeps_hostRule
  · exact keeps_hqRule
  · exact keeps_timeRule
  · exact keeps_calRule
  · exact keeps_partRule
  · exact WRule.Canon.ite keeps_mcRule keeps_ignored

omit h in
theorem keeps_registerRule {k : PageKind} : (registerRule a k n p off v s).Canon :=
  WRule.Canon.ite keeps_pageCtrlRule (WRule.Canon.ite keeps_pageInjRule (WRule.Canon.ite (keeps_headerRule (fun _ _ h =>
    h) (fun _ h => h)) keeps_pageRule))

theorem dropLower : (s.dropLower a).Canon := h.mk

theorem storeTab : (s.storeTab p off v).Canon := h.setTab.shadowWritten

omit h in
theorem keeps_synListRule {wide : Bool} {v : BitVec 64} : (synListRule a n off wide v s).Canon :=
  WRule.Canon.ite (of_eff (fun _ h => h.setTab.storeTab)) (WRule.Canon.ite (of_eff (fun _ h => h.shadowWritten.mk))
    (of_eff (fun _ h => h.setTab.storeTab)))

omit h in
theorem keeps_tableWordRule {k : TableKind} : (tableWordRule k n off v s).Canon := by
  unfold tableWordRule
  dsimp only
  split
  · exact of_eff (fun _ h => h.storeTab)
  · exact of_eff (fun _ h => h.storeTab)
  · exact of_eff (fun _ h => h.storeTab)
  · exact of_eff (fun _ h => h.setTab)
  · exact keeps_ignored
  · exact of_eff (fun _ h => h.storeTab)
  · exact keeps_coefRule

omit h in
theorem keeps_tableAccess {k : TableKind} {wide : Bool} {v : BitVec 64} :
    (tableAccess a k n off wide v s).rule.Canon := by
  unfold tableAccess
  extract_lets r
  have hr : r.Canon := WRule.Canon.ite keeps_synListRule keeps_tableWordRule
  exact of_refused (fun _ h => hr.eff _ h.dropLower) fun _ _ h => (hr.refused _ _ h).dropLower

omit h in
theorem of_access {full wide : Bool} {v : BitVec 64} {x : Access} (heq : s.access a off full wide v = some x) :
    x.rule.Canon := by
  unfold State.access at heq
  dsimp only at heq
  split at heq
  · split at heq
    · cases heq
    · cases heq
      exact keeps_registerRule
  · split at heq
    · cases heq
      exact keeps_tableAccess
    · cases heq

theorem windowWrite {full wide : Bool} {v : BitVec 64} : (s.windowWrite a off full wide v).Canon := by
  unfold State.windowWrite
  split
  · next heq => exact h.checkedWrite (of_access heq)
  · exact ite h.devFault h

theorem writeWindow {full wide : Bool} {v : BitVec 64} : (s.writeWindow a off full wide v).Canon := ite h.windowWrite h

theorem writeReg : (s.writeReg a off v).Canon := h.writeWindow

theorem keeps_execBlockReset {page : Fin 115} : KeepsCanon (execBlockReset a page s) := by
  unfold execBlockReset
  split
  · exact h
  · exact h.writeReg

theorem keeps_execFaultInject {page : Fin 115} {bits : Word} : KeepsCanon (execFaultInject a page bits s) := by
  unfold execFaultInject
  split
  · exact h
  · exact h.writeReg

theorem keeps_execOwnerWrite {page : Fin 115} : KeepsCanon (execOwnerWrite a page v s) := by
  unfold execOwnerWrite
  split
  · exact h
  · exact h.writeReg

theorem keeps_execCommitRequest {page : Fin 115} {expect : Word} : KeepsCanon (execCommitRequest a page expect s) := by
  unfold execCommitRequest
  split
  · exact h
  · exact h.writeReg

theorem seqTransfer : (s.seqTransfer n).Canon := ite h.copyShadow.transferred.setFlag.startMoved h

theorem tgTransfer : (s.tgTransfer g).Canon := ite (foldl (fun _ _ h1 => h1.copyShadow.setFlag.event) h).transferred h

theorem decMove {now : Nat → Bool} : (s.decMove n now).Canon := ite h.decTransfer h

theorem keeps_execShadowTransfer {page : Fin 115} {channels : BitVec 8} :
    KeepsCanon (execShadowTransfer page channels s) := by
  unfold execShadowTransfer
  split
  · exact h
  · split
    · exact h.seqTransfer
    · exact h.tgTransfer
    · exact h.decMove
    · exact h.synCommit
    · exact h

/-! ### The functions of Machine/Cache.lean -/

theorem setL2 {l : List Line} : (s.setL2 l).Canon := h.mk

theorem setL1 {l : List Line} : (s.setL1 i l).Canon := h.setHart

theorem snoop : (s.snoop b).Canon := by
  unfold State.snoop
  refine foldl (fun _ _ h1 => ?_) h
  split
  · exact ite h1.setL2.setL1 h1
  · exact h1

theorem reachDram {a : Nat} : (s.reachDram a).Canon := h.srExit

theorem cleanL2 : (s.cleanL2 b).2.Canon := by
  unfold State.cleanL2
  split
  · exact ite_snd (ite_snd (pair h.setL2.reachDram) (pair h.setL2.reachDram.setMem)) h
  · exact h

theorem discard : (s.discard b).Canon := (foldl (fun _ _ h1 => h1.setL1) h).setL2

theorem busErr : (s.busErr i inj).Canon := h.faultInj

theorem giveUp {v : Victim} : (State.giveUp i s v).Canon := by
  unfold State.giveUp
  split
  · dsimp only
    split
    · exact (ite h.setL2 h).setL1
    · exact h
  · split
    · next heq =>
      have h1 := h.snoop.cleanL2.snd heq
      exact ite h1.discard h1.discard.busErr

theorem l2Check {chk : CacheCheck} : (s.l2Check chk).2.Canon := by
  unfold State.l2Check
  split
  · next heq =>
    exact pair (h.takeInj.snd heq).faultInj
  · next heq =>
    have h1 := h.takeInj.snd heq
    split
    · next heq =>
      exact pair (h1.takeInj.snd heq).count.faultInj
    · next heq =>
      have h2 := h1.takeInj.snd heq
      split
      · exact pair h2.count.fault
      · exact pair h2.fault
      · exact h2

theorem l1Check {dirty : Bool} {chk : CacheCheck} : (s.l1Check i dirty chk).2.Canon := by
  unfold State.l1Check
  split
  · next heq =>
    exact pair ((ite_snd h.takeInj h).snd heq).faultInj
  · next heq =>
    have h1 := (ite_snd h.takeInj h).snd heq
    split
    · next heq =>
      exact pair (h1.takeInj.snd heq).count.faultInj
    · next heq =>
      have h2 := h1.takeInj.snd heq
      split
      · exact pair h2.count.faultInj
      · exact ite_snd (pair h2.fault) (pair h2.count.faultInj)
      · exact h2

theorem dramFails {a : Nat} {chk : CacheCheck} : (s.dramFails i a chk).2.Canon := by
  unfold State.dramFails
  dsimp only
  split
  · next heq =>
    exact pair (h.reachDram.takeInj.snd heq).busErr
  · next heq =>
    have h1 := h.reachDram.takeInj.snd heq
    exact ite_snd (pair h1.busErr) h1

theorem fromL2 {chk : CacheCheck} : (s.fromL2 i b chk).2.Canon := by
  unfold State.fromL2
  dsimp only
  split
  · next heq =>
    exact h.snoop.l2Check.snd heq
  · next heq =>
    have h1 := h.snoop.l2Check.snd heq
    split
    · exact h1
    · split
      · next heq =>
        exact h1.dramFails.snd heq
      · next heq =>
        exact pair (h1.dramFails.snd heq).setL2

theorem fill {chk : CacheCheck} : (s.fill i chk b).2.Canon := by
  unfold State.fill
  split
  · split
    · next heq =>
      exact h.l1Check.snd heq
    · next heq =>
      exact h.l1Check.snd heq
  · split
    · next heq =>
      exact h.fromL2.snd heq
    · next heq =>
      exact pair (h.fromL2.snd heq).setL1

theorem readBlocks {get : State → Nat → Option (List Byte) × State} {l : List Nat}
    (hget : ∀ u b, u.Canon → (get u b).2.Canon) : (State.readBlocks get l s).2.Canon := by
  induction l generalizing s with
  | nil => exact h
  | cons b t ih =>
    unfold State.readBlocks
    split
    · next heq => exact (hget _ _ h).snd heq
    · next heq =>
      have h1 := ih ((hget _ _ h).snd heq)
      split
      · next heq => exact h1.snd heq
      · next heq => exact h1.snd heq

theorem cachedRead {chk : CacheCheck} {a : Nat} : (s.cachedRead i chk a n).2.Canon := by
  have h1 := h.readBlocks (get := fun s b => s.fill i chk b) (l := lineBlocks a n) fun _ _ h => h.fill
  unfold State.cachedRead
  split
  · next heq => exact h1.snd heq
  · next heq => exact h1.snd heq

theorem own : (State.own i s b).Canon := foldl (fun _ _ h1 => ite h1 h1.setHart) h

theorem pokeByte {a : Nat} {v : Byte} : (State.pokeByte i s a v).Canon := by
  unfold State.pokeByte
  split
  · exact h.setL1
  · exact h

theorem cachedWrite {chk : CacheCheck} {a : Nat} {d : List Byte} : (s.cachedWrite i chk a d).2.Canon := by
  unfold State.cachedWrite
  split
  · next heq =>
    exact h.cachedRead.snd heq
  · next heq =>
    exact pair (foldl (fun _ _ h2 => h2.pokeByte) (foldl (fun _ _ h2 => h2.own) (h.cachedRead.snd heq)))

theorem windowLoad {g : Agent} : (s.windowLoad g size off).2.Canon := by
  unfold State.windowLoad
  refine ite_snd ?_ ?_
  · split
    · next heq =>
      have h1 := h.readWord.snd heq
      split
      · next heq =>
        exact h1.readWord.snd heq
  · split
    · next heq =>
      exact h.readWord.snd heq

theorem windowStore {g : Agent} {v : BitVec 64} : (s.windowStore g size off v).Canon :=
  ite (ite h.writeWindow h.writeReg.writeReg) h.writeWindow

theorem hartLoad {i : Fin 8} {chk : CacheCheck} {a : Nat} : (s.hartLoad i chk size a).2.Canon := by
  unfold State.hartLoad
  dsimp only
  split
  · exact ite_snd h (pair h.windowLoad)
  · refine ite_snd h ?_
    split
    · next heq =>
      exact h.cachedRead.snd heq
    · next heq =>
      exact h.cachedRead.snd heq
  · refine ite_snd h ?_
    split
    · next heq =>
      exact h.dramFails.snd heq
    · next heq =>
      have h1 := h.dramFails.snd heq
      exact ite_snd (pair h1.busErr) h1
  · exact h

theorem hartStore {i : Fin 8} {chk : CacheCheck} {a : Nat} {v : BitVec 64} : (s.hartStore i chk size a v).2.Canon := by
  unfold State.hartStore
  dsimp only
  split
  · exact ite_snd h (pair h.windowStore)
  · refine ite_snd h ?_
    split
    · next heq =>
      exact h.cachedWrite.snd heq
    · next heq =>
      exact h.cachedWrite.snd heq
  · refine ite_snd h ?_
    split
    · next heq =>
      exact h.dramFails.snd heq
    · next heq =>
      have h1 := h.dramFails.snd heq
      exact ite_snd (pair h1.busErr) (pair h1.setMemNat)
  · exact h

theorem fetchBlock {chk : CacheCheck} : (s.fetchBlock i chk b).2.Canon := by
  unfold State.fetchBlock
  split
  · split
    · next heq =>
      exact h.l1Check.snd heq
  · split
    · next heq =>
      exact h.fromL2.snd heq
    · next heq =>
      exact pair (h.fromL2.snd heq).setHart

theorem fetchHalf {chk : CacheCheck} {a : Nat} : (s.fetchHalf i chk a).2.Canon := by
  unfold State.fetchHalf
  dsimp only
  split
  · refine ite_snd h ?_
    split
    · next heq =>
      exact h.fetchBlock.snd heq
    · next heq =>
      exact h.fetchBlock.snd heq
  · exact h

theorem hartFetch {refetch : Bool} {chk : CacheCheck} : (s.hartFetch i refetch chk).2.Canon := by
  unfold State.hartFetch
  dsimp only
  split
  · next heq =>
    exact (ite h.setHart h).fetchHalf.snd heq
  · next heq =>
    have h1 := (ite h.setHart h).fetchHalf.snd heq
    refine ite_snd h1 ?_
    split
    · next heq =>
      exact h1.fetchHalf.snd heq
    · next heq =>
      exact h1.fetchHalf.snd heq

theorem cboClean : (s.cboClean b).2.Canon := h.snoop.cleanL2

theorem cboFlush : (s.cboFlush b).2.Canon := by
  unfold State.cboFlush
  split
  · next heq =>
    exact pair (h.cboClean.snd heq).discard

theorem hartCbo {op : Cbo} {a : Nat} : (s.hartCbo i op a).2.Canon := by
  refine ite_snd (pair h) ?_
  split
  · refine ite_snd (pair h) ?_
    cases op with
    | clean =>
      split
      · next heq => exact h.cboClean.snd heq
      · next heq => exact pair (h.cboClean.snd heq).busErr
    | flush =>
      split
      · next heq => exact h.cboFlush.snd heq
      · next heq => exact pair (h.cboFlush.snd heq).busErr
    | inval =>
      split
      · next heq => exact (ite_snd h.cboFlush (pair h.discard)).snd heq
      · next heq => exact pair ((ite_snd h.cboFlush (pair h.discard)).snd heq).busErr
  · exact ite_snd (pair h) (pair h)
  · exact h
  · exact h

/-! ### The functions of Machine/MgmtMem.lean -/

theorem setSram {a : Nat} {d : List Byte} : (s.setSram a d).Canon := h.mk

theorem sramCheck : (s.sramCheck chk).Canon := by
  unfold State.sramCheck
  split
  · exact h
  · exact h.devFault
  · exact h.devFault

theorem mgmtLoad {flash : BitVec 64} {a : Nat} : (s.mgmtLoad flash chk size a).2.Canon := by
  unfold State.mgmtLoad
  dsimp only
  split
  · exact h
  · exact ite_snd (pair h.sramCheck.fresh) (pair h.sramCheck)
  · exact h
  · exact ite_snd h (pair h.fresh)
  · exact ite_snd h (pair h.windowLoad)
  · exact ite_snd h (ite_snd (pair h.reachDram) (pair h.reachDram))
  · exact h

theorem mgmtStore {a : Nat} {v : BitVec 64} : (s.mgmtStore chk size a v).2.Canon := by
  unfold State.mgmtStore
  dsimp only
  split
  · exact pair h.sramCheck.setSram
  · exact pair (ite h.mk h)
  · exact ite_snd h (pair h.windowStore)
  · exact ite_snd h (ite_snd (pair h.reachDram) (pair h.reachDram.setMemNat))
  · exact h

theorem mgmtFetch : (s.mgmtFetch chk).2.Canon := by
  unfold State.mgmtFetch
  dsimp only
  split
  · refine ite_snd (pair h.sramCheck.fresh) ?_
    split
    · exact pair h.sramCheck
    · exact pair h.sramCheck
  · split
    · exact h
    · exact h

/-! ### The functions of Machine/Csr.lean -/

theorem countTrap : (s.countTrap k).Canon := ite h.count h

theorem trap {tval : BitVec 64} : (s.trap k code tval).Canon := h.setHart.countTrap

theorem trapFree : (s.trapFree k code).Canon := by
  unfold State.trapFree
  split
  · next heq =>
    exact (h.fresh.snd heq).trap

theorem interrupt : (s.interrupt k i).Canon := h.setHart.countTrap

theorem takeNmi {a : BitVec 64} : (s.takeNmi k a).Canon := h.setHart.countTrap

/-! ### The functions of Machine/Hart.lean -/

theorem setX {v : BitVec 64} : (s.setX k r v).Canon := ite h h.setHart

theorem retireTo {a : BitVec 64} : (s.retireTo k a).Canon := ite h.setHart h

theorem retire : (s.retire k len).Canon := h.retireTo

theorem coreLoad {c : CoreIn} {a : Nat} : (State.coreLoad c size a s).2.Canon := by
  unfold State.coreLoad
  split
  · exact h.hartLoad
  · exact h.mgmtLoad

theorem coreStore {c : CoreIn} {a : Nat} {v : BitVec 64} : (State.coreStore c size a v s).2.Canon := by
  unfold State.coreStore
  split
  · exact h.hartStore
  · exact h.mgmtStore

theorem runLoad {c : CoreIn} {off : BitVec 64} {signed : Bool} : (s.runLoad c len rd rs1 off size signed).Canon := by
  unfold State.runLoad
  dsimp only
  split
  · next heq =>
    exact (h.coreLoad.snd heq).trapFree
  · next heq =>
    exact (h.coreLoad.snd heq).setX.retire

theorem runStore {c : CoreIn} {rs2 : Nat} {off : BitVec 64} : (s.runStore c len rs2 rs1 off size).Canon := by
  unfold State.runStore
  dsimp only
  split
  · next heq =>
    exact (h.coreStore.snd heq).trapFree
  · next heq =>
    exact (h.coreStore.snd heq).retire

theorem runLr {i : Fin 8} {env : HartEnv} : (s.runLr i env len rd rs1 size).Canon := by
  unfold State.runLr
  dsimp only
  split
  · exact h.trapFree
  · split
    · next heq =>
      exact (h.hartLoad.snd heq).trapFree
    · next heq =>
      exact (h.hartLoad.snd heq).setHart.setX.retire

theorem runSc {i : Fin 8} {env : HartEnv} {rs2 : Nat} : (s.runSc i env len rd rs1 rs2 size).Canon := by
  unfold State.runSc
  dsimp only
  split
  · exact h.trapFree
  · refine ite ?_ h.setHart.setX.retire
    split
    · next heq =>
      exact (h.setHart.hartStore.snd heq).trapFree
    · next heq =>
      exact (h.setHart.hartStore.snd heq).setX.retire

theorem runAmo {i : Fin 8} {env : HartEnv} {op : Amo} {rs2 : Nat} : (s.runAmo i env len op rd rs1 rs2 size).Canon := by
  unfold State.runAmo
  dsimp only
  split
  · exact h.trapFree
  · split
    · next heq =>
      exact (h.hartLoad.snd heq).trapFree
    · next heq =>
      have h1 := h.hartLoad.snd heq
      split
      · next heq =>
        exact (h1.hartStore.snd heq).trapFree
      · next heq =>
        exact (h1.hartStore.snd heq).setX.retire

theorem runCsr {op : CsrOp} {imm : Bool} {addr : Nat} : (s.runCsr k len op rd imm src addr).Canon := by
  unfold State.runCsr
  dsimp only
  split
  · exact h.trapFree
  · exact ite h.trapFree (ite (ite h.setX.retire.setHart h.setX.retire).setHart h.setX.retire)

theorem runWfi : (s.runWfi k len).Canon := ite h.trapFree h.retire.setHart

theorem runCbo {op : Cbo} : (s.runCbo i len op rs1).Canon := by
  unfold State.runCbo
  dsimp only
  refine ite h.trapFree ?_
  split
  · next heq =>
    exact (h.hartCbo.snd heq).trapFree
  · next heq =>
    exact (h.hartCbo.snd heq).retire

theorem runFenceI : (s.runFenceI i len).Canon := h.setHart.retire

theorem runHartOnly {c : CoreIn} {i : Rv} : (s.runHartOnly c len i).Canon := by
  unfold State.runHartOnly
  split
  · exact h.trapFree
  · split
    · exact h.runFenceI
    · exact h.runLr
    · exact h.runSc
    · exact h.runAmo
    · exact h.runCbo
    · exact h.trapFree

theorem runRv {c : CoreIn} {i : Rv} : (s.runRv c len i).Canon := by
  unfold State.runRv
  extract_lets
  split
  · exact h.setX.retire
  · exact h.setX.retire
  · exact h.setX.retireTo
  · exact h.setX.retireTo
  · exact ite h.retireTo h.retire
  · exact h.runLoad
  · exact h.runStore
  · exact h.setX.retire
  · exact h.setX.retire
  · exact h.retire
  · exact h.trap
  · exact h.trapFree
  · exact ite h.setHart.retireTo h.trapFree
  · exact h.runWfi
  · exact h.runCsr
  · exact h.runHartOnly
  · exact h.runHartOnly
  · exact h.runHartOnly
  · exact h.runHartOnly
  · exact h.runHartOnly

theorem runWord {c : CoreIn} {v : Nat} : (s.runWord c v).Canon := by
  unfold State.runWord
  split
  · exact h.trapFree
  · exact h.runRv

theorem hartStep {i : Fin 8} {env : HartEnv} : (s.hartStep i env).Canon := by
  unfold State.hartStep
  dsimp only
  split
  · next heq =>
    exact ((foldl (fun _ _ h1 => h1.giveUp) h).hartFetch.snd heq).trapFree
  · next heq =>
    exact ((foldl (fun _ _ h1 => h1.giveUp) h).hartFetch.snd heq).runWord

theorem whenAwake {f : State → State} (hf : ∀ u, u.Canon → (f u).Canon) : (s.whenAwake k f).Canon :=
  ite h (hf _ h.setHart)

theorem keeps_execHartWindowAccess {i : Fin 8} {store : Bool} {size : Fin 4} {off : BitVec 26} {v : BitVec 64} :
    KeepsCanon (execHartWindowAccess i store size off v s) := by
  refine h.whenAwake fun u h => ite ?_ ?_
  · split
    · next heq => exact (h.hartStore.snd heq).trapFree
    · next heq => exact h.hartStore.snd heq
  · split
    · next heq => exact (h.hartLoad.snd heq).trapFree
    · next heq => exact (h.hartLoad.snd heq).answer

theorem keeps_execHartInterrupt {i : Fin 8} : KeepsCanon (execHartInterrupt i s) := by
  unfold execHartInterrupt
  refine ite ?_ h
  split
  · exact h.interrupt
  · exact h

/-! ### The functions of Machine/Mgmt.lean -/

theorem mgmtStep {flash : BitVec 64} : (s.mgmtStep flash chk).Canon := by
  unfold State.mgmtStep
  split
  · next heq =>
    exact (h.mgmtFetch.snd heq).trapFree
  · next heq =>
    exact (h.mgmtFetch.snd heq).runWord

theorem keeps_execMgmtInterrupt : KeepsCanon (execMgmtInterrupt s) := by
  unfold execMgmtInterrupt
  refine ite h ?_
  refine ite h.takeNmi ?_
  split
  · exact h.interrupt
  · exact h

/-! ### The functions of Machine/RegMsg.lean -/

theorem writeRun {l : List (Nat × Word)} : (State.writeRun a l n s).2.2.Canon := by
  induction l generalizing s n with
  | nil => exact h
  | cons x t ih =>
    unfold State.writeRun
    split
    · exact h.windowWrite
    · exact ih h.windowWrite

theorem readRun : (State.readRun a off n s).2.Canon := by
  induction n generalizing s off with
  | zero => exact h
  | succ n ih => exact ih h.readWord

theorem keeps_execHqRegWrite {q : Fin 16} : KeepsCanon (execHqRegWrite q s) := by
  refine h.hqExec fun c u h => ite h.hqEnd ?_
  split
  · next heq => exact (h.writeRun.snd2 heq).hqEnd
  · next heq => exact (h.writeRun.snd2 heq).hqEnd

theorem keeps_execHqRegRead {q : Fin 16} : KeepsCanon (execHqRegRead q s) := by
  refine h.hqExec fun c u h => ite h.hqEnd (ite h.hqEnd (ite h ?_))
  split
  next heq =>
    have h1 := h.readRun.snd heq
    split
    · next heq => exact (h1.hqWrite.snd heq).hqEnd
    · next heq => exact h1.hqWrite.snd heq

theorem keeps_execHqXfer {q : Fin 16} : KeepsCanon (execHqXfer q s) := by
  refine h.hqExec fun c u h => ite (ite h h.hqEnd) (ite h.hqFree (ite h.hqEnd (ite h.hqEnd ?_)))
  split
  · next heq => exact (h.writeRun.snd2 heq).hqEnd
  · next heq => exact (h.writeRun.snd2 heq).setHq

theorem writeMsg {l : List (Nat × Word)} {bad : Option (Reason × Nat)} : (State.writeMsg a l i bad s).2.Canon := by
  induction l generalizing s i bad with
  | nil => exact h
  | cons x t ih => exact ih h.windowWrite

theorem peerRequest {src : BitVec 10} {r : RegReq} : (s.peerRequest src r).2.Canon := by
  unfold State.peerRequest
  dsimp only
  refine ite_snd h ?_
  refine ite_snd ?_ (pair h.count.readRun)
  split
  · next heq =>
    exact h.count.writeMsg.snd heq
  · next heq =>
    exact h.count.writeMsg.snd heq

theorem keeps_execPktRreq {f : Fin 6} {seq : BitVec 12} {hd : PktHead} {r : RegReq} :
    KeepsCanon (execPktRreq f seq hd r s) := by
  unfold execPktRreq
  dsimp only
  exact h.rxUnicast (fun _ h1 => h1.peerRequest.sendTo)

/-! ### The functions of Machine/Tick.lean -/

theorem hartTick : (s.hartTick i).Canon :=
  ite (ite (ite h h.setReg64) (ite h h.setReg64).setReg64).setHart (ite (ite h h.setReg64) (ite h h.setReg64).setReg64)

theorem mgmtTick : s.mgmtTick.Canon := ite h.setHart h

theorem syncTick : s.syncTick.Canon := h.mk

theorem clockTick : s.clockTick.Canon := by
  unfold State.clockTick
  exact (foldl (fun _ _ h1 => h1.hartTick) h.dmaTick.decTick.redTick.fabTick).mgmtTick.syncTick

theorem tick : s.tick.Canon := (ite h.timeTick h.timeTick.clockTick).mk

end State.Canon

end Sys2Proof.Machine
end

section
/-! PROOFS. The step keeps the canonical form: command by command. -/

namespace Sys2Proof.Machine

open Sys2Proof

theorem State.Canon.exec {s : State} (h : s.Canon) (i : Instr) : KeepsCanon (exec i s) := by
  cases i with
  | pwrgdAssert | rstNRelease | chipResetEnd => exact h.mk.tryBoot
  | pwrgdDeassert => exact coldPower
  | rstNAssert => exact ite h.mk h.mk.coldKept
  | rstChip => exact h.writeBy keeps_rstChipRule
  | bootRomSequence => exact h.keeps_execBootRomSequence
  | devBootDone | devBootTrained => exact h.writeBy keeps_devBootRule
  | railOutOfRange => exact ite h.mk h.mk.setBit.devFault
  | tpllLockLoss => exact ite h.setFlag.devFault h
  | syspllLockLoss => exact ite h.setBit.devFault h
  | thermWarn | thermTrip => exact ite h (ite h.setTemp.devFault h.setTemp)
  | devModeReqCalibrate | devModeReqReady | devModeReqDiagnose | devModeReqService | devModeReqDoze |
    devModeReqHibernate =>
    exact h.requestMode
  | sleepSample => exact ite (ite h.sleepAdvance.sleepGate h.sleepAdvance.sleepAbort) h.sleepAdvance
  | sleepDrainTimeout => exact ite h.sleepAbort h
  | wakeLatchSet => exact h.wakeLatch
  | wakeTimerExpire => exact ite h.wakeLatch h
  | wakeDozeComplete => exact ite h.dramWake.timeWake.wakeEnd.portsWake h
  | wakeHibernateComplete => exact ite h.tpllLock.timeWake.dramRetain.wakeEnd.portsWake h
  | trigInEvent => exact ite h.trigEvent h
  | syncInEvent => exact ite (ite h.stampEvent h.stampEvent.trigEvent) h
  | devSyncPulse => exact h.writeBy keeps_devSyncRule
  | trigOutPulseEnd | rhWindowEnd | railInRange => exact h.mk
  | qspiCommand => exact ite h h.mk
  | smbusMode | smbusTemp | smbusRail | smbusFirst | smbusUid | smbusAlive | smbusCause | smbusOther => exact h.smbus
  | tapReset | tapIdcode | tapFuseRead | tapFuseAddr | tapBypass => exact h.setTap
  | tapExtest | tapSamplePreload | tapClamp | tapHighz => exact ite h.setTap h.tapBypass
  | tapFuseProg => exact ite h.tapBypass (ite h.setTap (ite h.setTap (ite h.setTap (ite h.setTap h.mk.setTap))))
  | tapFuseProgDone => exact ite h.setTap h
  | tapFuseStat => exact ite h.tapBypass h.setTap
  | tapDebug => exact h.keeps_execTapDebug
  | registerWrite | tableWrite => exact h.writeWindow
  | reservedWrite | shadowWrite => exact h.writeReg
  | rcRead | coherentLoRead => exact h.readBy
  | blockReset => exact h.keeps_execBlockReset
  | blockResetEnd => exact h.keeps_execBlockResetEnd
  | faultInject => exact h.keeps_execFaultInject
  | ownerWrite => exact h.keeps_execOwnerWrite
  | commitRequest => exact h.keeps_execCommitRequest
  | shadowTransfer => exact h.keeps_execShadowTransfer
  | wsqEmit | wsqJump | wsqJumpc | wsqSignal => exact h.entry (fun _ h1 => h1.emit)
  | wsqRepeat | wsqMatch | wsqWait => exact h.entry (fun _ h1 => ite h1.skip h1.emit)
  | wsqLoop => exact h.entry (fun _ h1 => ite h1.emit (ite h1.skip (ite h1.dispatchStop h1.emit)))
  | wsqEndloop => exact h.keeps_execWsqEndloop
  | wsqCall | wsqHalt => exact h.entry (fun _ h1 => ite h1.dispatchStop h1.emit)
  | wsqRet => exact h.keeps_execWsqRet
  | wsqFlagSet | wsqFlagClear | wsqFlagInvert | wsqCclr | wsqTclr | wsqCapon | wsqCapoff | wsqMark => exact h.emitEffect
  | wsqTapstate | wsqTapshift | wsqSenttx | wsqSentrx => exact h.generator (fun _ _ h1 => ite h1.skip h1.emitGen)
  | customInstruction => exact h.entry (fun _ h1 => ite (ite h1 (ite h1.setSeq h1.dispatchStop)) (ite h1 h1.setSeq))
  | decisionPoint => exact h.keeps_execDecisionPoint
  | blockBoundary => exact h.keeps_execBlockBoundary
  | boundaryStall => exact h.keeps_execBoundaryStall
  | midBlockStall => exact h.keeps_execMidBlockStall
  | seqLate => exact h.keeps_execSeqLate
  | holdUnitDecision | pauseUnitDecision => exact ite h.setSeq.sampleRequests h
  | holdLimitReached => exact ite h.gangStop h
  | condRelease => exact h.keeps_execCondRelease
  | seqStart => exact h.writeBy keeps_seqRunRule
  | seqTriggerStart => exact ite h.setBit.startGang h
  | seqPause | seqResume | seqAbort => exact h.seqRequest
  | seqGang => exact h.writeBy keeps_seqGangRule
  | seqFlagSet | seqFlagClr | seqTrigPendClear => exact h.writeBy keeps_seqRule
  | uwdogExpire => exact ite h.watchdog h
  | uopNop | uopAdd | uopSub | uopAnd | uopOr | uopXor | uopAddi | uopOri | uopLui | uopCrc4Step | uopCrc6Step |
    uopSigSignal | uopSigMark | uopSigCapon | uopSigCapoff =>
    exact h.uopM
  | uopShl | uopShr => exact h.uopShift
  | uopMovs => exact h.keeps_execUopMovs
  | uopMovd => exact h.uop (fun _ h1 => h1.setSpecial)
  | uopLdp => exact h.uop (fun _ h1 => ite h1.setMicro h1.setMicro.microFault)
  | uopBr => exact h.uop (fun _ h1 => ite h1.uopGoto h1)
  | uopCallu | uopRetu => exact h.uop (fun _ h1 => h1.setMicro.uopGoto)
  | uopTstc => exact h.uop (fun _ h1 => ite h1.setMicro h1.microStop)
  | uopSeqop => exact h.uop (fun _ h1 => ite h1.microStop h1.setMicro)
  | uopOvl => exact h.uop (fun _ h1 => h1.setMicro)
  | uopOpush => exact h.uop (fun _ h1 => h1.setSeq)
  | uopEmitd => exact h.keeps_execUopEmitd
  | uopBoundNext => exact h.uop (fun _ h1 => h1.boundNext)
  | uopBoundAgain => exact h.uop fun _ h => getD (fun _ heq => h.umax.boundary heq) h.umax.setMicro
  | uopStop => exact h.uop (fun _ h1 => h1.microStop)
  | uopStk n r sel imm => exact h.keeps_execUopStk (_sel := sel) (_imm := imm)
  | mcDrain | mcRelease => exact h.drainWrite
  | mcReload => exact h.writeBy keeps_mcReloadRule
  | mcReloadDone => exact h.keeps_execMcReloadDone
  | mcPloadData => exact h.writeBy keeps_ploadDataRule
  | mcPloadFin => exact h.writeBy keeps_ploadFinRule
  | cycleStart => exact h.keeps_execCycleStart
  | edgePlace => exact h.keeps_execEdgePlace
  | strobeSample => exact h.keeps_execStrobeSample
  | sbFrameStart => exact h.writeBy keeps_sbCmdRule
  | sbFrameEnd => exact h.keeps_execSbFrameEnd
  | peDiagStart | peDiagAbort => exact h.writeBy keeps_diagCmdRule
  | peDiagEnd => exact ite h (foldl (fun _ _ h1 => h1.setReg) h).setFld.diagStop
  | pgrEnable => exact h.writeBy (keeps_pgrCtrlRule (fun _ h1 => h1))
  | pgrMap | pgrUnmap | pgrPreload | pgrRelease | pgrRefetch | pgrQuery => exact h.mapCommand
  | pgrMapOpDone => exact h.keeps_execPgrMapOpDone
  | walkerStep => exact h.keeps_execWalkerStep
  | fetchFrameObtained => exact h.keeps_execFetchFrameObtained
  | pageFetchArrival => exact h.keeps_execPageFetchArrival
  | fetchTimeout => exact h.keeps_execFetchTimeout
  | multicastPageDelivery => exact h.pageDelivered
  | lineFill => exact h.keeps_execLineFill
  | pgrSqHistClear | pgrSqHseed => exact h.writeBy keeps_pgrSqRule
  | vcSqCfg => exact h.writeBy keeps_vcCfgRule
  | capPRelease => exact h.writeBy keeps_capReleaseRule
  | capPFlogRd => exact h.writeBy keeps_capRdRule
  | captureCycleProcess => exact h.keeps_execCaptureCycleProcess
  | autoTriggerTimeout | trgTimerExpire => exact ite h.setCu h
  | rearmEnd => exact ite h.segStart h
  | tuArm | tuDisarm | tuEnWrite => exact h.tuWrite
  | frontEndEdge => exact ite h h.frontEdge
  | tuTimeout => exact ite h.tuEnd h
  | decOutputSample => exact h.keeps_execDecOutputSample
  | decEn | decRestart => exact h.writeBy keeps_decCtrlRule
  | clockLossTimeout => exact h.keeps_execClockLossTimeout
  | modClockResume => exact ite h h.setFlag.decResume.event
  | freqMeasureInterval => exact h.keeps_execFreqMeasureInterval
  | decSwapRequest => exact h.writeBy keeps_decSwapRule
  | coefBankWrite => exact ite (h.checkedWrite keeps_coefRule) h
  | synStart | synStop | synEnClear => exact h.writeBy keeps_synCtrlRule
  | synStartInstant => exact h.keeps_execSynStartInstant
  | synSampleBoundary => exact ite h.synFlush h.synFlush.setSyn.setReg64.synBoundary
  | synDrvEdge => exact h.synCross
  | synJump => exact h.writeBy keeps_synRule
  | hartEnable => exact h.writeBy (keeps_hartCtrlRule (fun _ h1 => h1))
  | hartInstruction => exact h.whenAwake (fun _ h1 => h1.hartStep)
  | hartWindowAccess => exact h.keeps_execHartWindowAccess
  | fenceI => exact h.whenAwake (fun _ h1 => h1.runFenceI)
  | cboClean | cboFlush | cboInval => exact h.whenAwake (fun _ h1 => h1.runCbo)
  | hartNmi => exact ite h.takeNmi h
  | hartInterrupt => exact h.keeps_execHartInterrupt
  | hartSchedWait | hartSchedYield | hartSchedEnd | hartSchedNext | hartSchedPreempted => exact h.port
  | schedArm | schedCancel | schedSetflag | schedClrflag => exact h.schedCmd
  | threadWaitTimeout => exact ite h.traceSched.makeReady.traceSched.settle h
  | nodeDispatch => exact h.keeps_execNodeDispatch
  | nodeComplete => exact ite h h.nodeRun
  | traceEnable => exact h.writeBy keeps_traceCtrlRule
  | hartCntClr => exact h.writeBy keeps_cntClrRule
  | hicSwi => exact h.writeBy keeps_swiRule
  | hicClaim => exact ite h.hicClaim.answer h
  | hicComplete => exact h.writeBy keeps_completeRule
  | msixIssue => exact ite h.msixIssue h
  | holdoffExpire => exact h.setHeldOff
  | faultTake => exact h.keeps_execFaultTake
  | chipResetDelayExpire => exact h.keeps_execChipResetDelayExpire
  | fltAck => exact h.writeBy keeps_fltAckRule
  | fenceEnd => exact h.keeps_execFenceEnd
  | fltKick => exact h.writeBy keeps_fltKickRule
  | kickMissed => exact ite h.aliveStop.devFault h
  | aliveToggle | dmaQueueWaitEnd => exact ite h.setFlag h
  | fltErrnRelease => exact h.writeBy keeps_fltErrnRule
  | fltDevInj => exact h.writeBy keeps_fltDevInjRule
  | fltLogRd => exact h.writeBy keeps_fltLogRdRule
  | osTs1 => exact h.keeps_execOsTs1
  | osTs2 => exact h.keeps_execOsTs2
  | osEqr => exact h.keeps_execOsEqr
  | osEqa _ _ pre post => exact h.keeps_execOsEqa (_pre := pre) (_post := post)
  | osEqd => exact ite h.setFport.setFlag.eqCheck h
  | osEios | osFts => exact ite h.setFport h
  | osTsx => exact h.keeps_execOsTsx
  | osLbk => exact ite (ite h.setFport h) (ite (ite h.portLeave.putSet h) (ite h.portLeave h))
  | osQuar | osSleep => exact h.peerGone
  | ts1Beacon => exact ite h.sendTs h
  | trainLimitExpire => exact ite h.trainFails h
  | lcwAck | lcwCredit => exact ite h h.wordSeen.setFport.pump
  | lcwNak => exact ite h.wordSeen.resend h
  | linkIdle => exact ite h.wordSeen h
  | badPacket => exact ite h (ite h.wordSeen.countViolations h.wordSeen.countViolations.attemptFails)
  | linkReplayTimeout => exact h.keeps_execLinkReplayTimeout
  | burstTimeout => exact ite h.attemptFails h
  | electricalIdleEnter => exact ite h.putSet.setFpState h
  | idleExitTimeout => exact ite h.lasting h
  | fpLbWrite => exact h.writeBy keeps_fpLbRule
  | feLbTimeout => exact ite h.setFport.setFlag.event h
  | fpRetrain => exact h.writeBy keeps_fpRule
  | pktLinkinfo => exact h.rxPacket (fun _ h1 => h1.setFport.setReg64.setReg.setFld.configCheck.fabUpdate)
  | pktRoute => exact h.rxPacket (fun _ h1 => ite h1.setFport.fabUpdate h1.setFport.fabUpdate.sendRoutes.sendJoins)
  | pktJoin => exact h.rxPacket (fun _ h1 => h1.setFport.fabUpdate)
  | pktTsync => exact h.keeps_execPktTsync
  | pktAssign => exact h.keeps_execPktAssign
  | pktRreq => exact h.keeps_execPktRreq
  | pktRrsp => exact h.keeps_execPktRrsp
  | pktUnreach => exact h.keeps_execPktUnreach
  | pktPreq => exact h.rxUnicast (fun _ h1 => h1.serve)
  | pktPbreq => exact h.rxUnicast (fun _ h1 => foldl (fun _ _ h2 => h2.serve) h1)
  | pktPdata | pktPrep => exact h.rxEither (fun _ h1 => h1.pageDataOpt)
  | pktPnak => exact h.keeps_execPktPnak
  | pageDeliverySend => exact h.keeps_execPageDeliverySend
  | electionSettle => exact h.keeps_execElectionSettle
  | assignCollectEnd => exact ite h (foldl (fun _ _ h1 => h1.passGrant) h.fabUpd)
  | fabRmRead | fabRmWrite => exact h.rmCommand
  | fabRmTimeout => exact ite h.rmEnd h
  | fabSpanEnable => exact h.writeBy keeps_spanCfgRule
  | fabSpanGo => exact h.writeBy keeps_spanGoRule
  | csync => exact h.rxDet (fun _ h1 => foldl (fun _ _ h2 => h2.setReg64.setSpan) h1)
  | csyncStart => exact h.keeps_execCsyncStart
  | condSend => exact h.keeps_execCondSend
  | detCond => exact h.rxDet (fun _ h1 => foldl (fun _ _ h2 => h2.setSpan) h1)
  | detStall | detPause | detResume | detAbort | detFault => exact h.rxNotice
  | detTrig => exact h.rxDet (fun _ h1 => ite h1.count.fabRaise h1.fabUpd)
  | detSyncLate => exact h.rxDet (fun _ h1 => h1)
  | spanNoticeApply => exact h.keeps_execSpanNoticeApply
  | fabTrigSend => exact h.writeBy keeps_trigSendRule
  | fabricTrigRaise => exact ite h.fabUpd.fabRaise h
  | timeExchange => exact ite h.linkWake.exchangeStart h
  | exchangeTimeout => exact h.keeps_execExchangeTimeout
  | holdoverTimeout => exact ite h.setSstate h
  | timeSet => exact h.writeBy keeps_timeCmdRule
  | trimSlewStep => exact ite h h.setTime
  | pgEnable => exact h.writeBy keeps_pgCfgRule
  | pulseFire => exact ite h.pgFire h
  | timeEsHeadRead => exact ite h.esHeadRead.answer h
  | dramRead => exact h.keeps_execDramRead
  | dramWrite => exact h.keeps_execDramWrite
  | scrubRead => exact ite h (ite h.readCheck.count h.readCheck)
  | caParityAlert => exact h.keeps_execCaParityAlert
  | caReplayTimeout => exact ite h.chanFail h
  | idleSelfRefreshEnter => exact ite h.setFld.event h
  | rhThrottleEnd => exact h.setFlag
  | dramInit => exact h.writeBy (keeps_ctrlRule (fun _ _ h1 => h1.dramEnable) (fun _ h1 => h1))
  | dramTrnCsSweep | dramTrnCaSweep | dramTrnMrw | dramTrnMrr | dramTrnWlevel | dramTrnRdSweep | dramTrnWrSweep |
    dramTrnApply | dramTrnVerify | dramResume | dramTrnRverify =>
    exact h.train
  | dramTrnDone => exact h.keeps_execDramTrnDone
  | dramTrnTimeout => exact ite h.setReg.event.trainFail h
  | allocMap => exact h.writeBy keeps_allocMapRule
  | frameAlloc | frameFree | frameRetire | frameQuery => exact h.frameCmd
  | allocServe => exact h.keeps_execAllocServe
  | dmaStart | dmaAbort => exact h.writeBy keeps_dmaRule
  | dmaDone => exact h.dmaRun
  | dmaQueueTimeout => exact ite h.dmaEnd h
  | fqEnable | fqPush | fqFlush => exact h.writeBy keeps_fqRule
  | fqPop => exact h.keeps_execFqPop
  | hostLinkReset => exact ite h h.hostReset
  | pcieConfigRequest => exact h.keeps_execPcieConfigRequest
  | bar2Read => exact ite h (ite h.complete (foldl (fun _ _ h1 => h1.bar2Read) h.complete))
  | bar2Write => exact ite h (ite h.aerUc (foldl (fun _ _ h1 => h1.bar2Write) h))
  | hifOffer | rpRetrain => exact h.writeBy keeps_hostRule
  | sqTailDoorbell | cqHeadDoorbell | fwCpl | hqQueueEnable | hqQueueDisable => exact h.hqWriteReg
  | commandFetch => exact h.keeps_execCommandFetch
  | hqNop => exact h.hqExec (fun _ _ h1 => h1.hqEnd)
  | hqRegWrite => exact h.keeps_execHqRegWrite
  | hqRegRead => exact h.keeps_execHqRegRead
  | hqXfer => exact h.keeps_execHqXfer
  | hqFw =>
    exact h.hqExec (fun _ _ h1 => ite h1.hqFree (ite h1 (ite h1.writeFail h1.setMem).setReg.raiseTo.setHq.event))
  | hqBadOpcode => exact h.keeps_execHqBadOpcode
  | completionPost => exact h.keeps_execCompletionPost
  | rpCfgRd | rpCfgWr | rpMemRd | rpMemWr => exact h.rpCommand
  | rpCmdDone => exact h.keeps_execRpCmdDone
  | rpInboundRequest => exact h.keeps_execRpInboundRequest
  | calStart | calGo | calAbandon => exact h.calCommand
  | calTiaItem => exact ite h (foldl (fun _ _ h1 => h1.calTable) h).calNext
  | calOutItem => exact ite h (foldl (fun _ _ h1 => h1.calOut) h).calNext
  | calThItem => exact h.keeps_execCalThItem
  | calInItem => exact ite h (foldl (fun _ _ h1 => h1.calIn) h).calNext
  | calDecItem => exact h.keeps_execCalDecItem
  | calRunTimeout => exact ite h.fault.calGiveUp h
  | calRestoreEnd => exact ite h.mk.calLeave h
  | calExportStart | calImportData => exact h.writeBy keeps_calRule
  | calExpDataRead => exact ite h.exportRead h
  | calImportBegin | calImportCancel | calImportCommit => exact h.writeBy keeps_impCtrlRule
  | calImportApply => exact ite h (ite h.calDrop.mk.importEnd h.calApply.mk.importEnd)
  | partArm | partDisarm | partPause | partResume | partAbort | partService | partEndService | partIsolate | partRecover
    =>
    exact h.partWrite
  | partDefine | partUndefine => exact h.writeBy keeps_partCfgRule
  | partRetire => exact h.writeBy keeps_retRule
  | contextCheckPass => exact foldl (fun _ _ h1 => h1.ctxError) h.ctxRead
  | srefLost => exact ite h h.setFlag.event.srefLost
  | srefBack => exact ite h h.setFlag.event
  | hostLinkUp => exact ite h h.setFlag.setFlag.setFld.setFld.event
  | rpLinkChange => exact ite h h.setReg.setFlag.event
  | msixTableWrite => exact ite h (ite h.mk.msixIssue h.mk)
  | busMasterCompletion => exact h.keeps_execBusMasterCompletion
  | mgmtInstruction => exact h.whenAwake (fun _ h1 => h1.mgmtStep)
  | mgmtInterrupt => exact h.keeps_execMgmtInterrupt
  | detMessageLost => exact ite h.wordSeen.countViolations.countViolations.lasting h
  | aspmL1Change => exact ite h (ite h.setFlag h.setFlag.wakeLatch)

theorem State.Canon.step {s : State} (h : s.Canon) : KeepsCanon (step s) := by
  unfold Machine.step
  split
  · exact h.tick
  · exact State.Canon.exec h.mk _

/-- Settles O59: a step is one command, or the tick of an empty queue, and each keeps the canonical form. -/
theorem everyStepKeepsCanonicalForm : Obligations.EveryStepKeepsCanonicalForm := by
  intro s t hs ht
  have h := (State.canonical_iff.mp hs).step
  rw [ht] at h
  exact State.canonical_iff.mpr h

end Sys2Proof.Machine
end

section
/-! PROOFS. A step takes the front of the queue (assumption 1); who writes the boot registers (20, R500); when the wake and sleep
registers are writable (20, R501). -/

namespace Sys2Proof.Machine

open Sys2Proof

/-- Settles O1: with a command in front, `step` is that command on the rest of the queue. -/
theorem stepTakesTheFront : Obligations.StepTakesTheFront := by
  intro c rest s h
  rw [Machine.step, h]

/-- A write that only MGMT may make, by another agent. -/
theorem State.writeBy_agent {s : State} {a : Agent} {k : PageKind} {p : Nat} (off : Nat) {r : WRule}
    (h : s.admits a k p = true) (hr : r.agentOk = false) :
    s.writeBy a k p off r = r.refused .agent (s.reject p off .agent) :=
  State.writeBy_refused off r .agent h (by rw [hr]; rfl)

/-- DEV_BOOT_PREF and DEV_BOOT are registers of page 0 past the common header. -/
theorem devBoot_registers : PageRegister 0 P.DEV .dev 0x50 ∧ PageRegister 0 P.DEV .dev 0x4C := by
  decide

theorem devBootPrefWrite_eq (s : State) (a : Agent) (v : Word) :
    exec (.registerWrite a (BitVec.ofNat 26 R.DEV_BOOT_PREF) 0xF v) s =
      .next (s.writeBy a .dev P.DEV R.DEV_BOOT_PREF (devRule a R.DEV_BOOT_PREF v s)) :=
  registerWrite_page devBoot_registers.1 s a v

theorem devBootWrite_eq (s : State) (a : Agent) (v : Word) :
    exec (.registerWrite a (BitVec.ofNat 26 R.DEV_BOOT) 0xF v) s =
      .next (s.writeBy a .dev P.DEV R.DEV_BOOT (devBootRule a v s)) :=
  registerWrite_page devBoot_registers.2 s a v

/-- Settles O26: the rules of both registers ask for the agent MGMT, and the two commands write DEV_BOOT under its rule. -/
theorem bootRegistersAreMgmtOnly : Obligations.BootRegistersAreMgmtOnly := by
  refine ⟨fun s v h hv => ?_, fun s h => devBootDone_ok h, fun s h => devBootTrained_ok h, fun s a v h ha => ?_⟩
  · rw [devBootPrefWrite_eq]
    exact congrArg _ (State.writeBy_ok _ _ h rfl rfl rfl rfl (bne_iff_ne.mpr hv))
  · have hr := State.admits_responds h
    rw [devBootPrefWrite_eq, devBootWrite_eq, devBoot_agent v hr ha]
    exact ⟨congrArg _ (State.writeBy_agent _ h (beq_eq_false_iff_ne.mpr ha)), rfl, devBootDone_agent hr ha,
      devBootTrained_agent hr ha⟩

/-- PWR_WAKE_EN, PWR_WAKE_TMR and PWR_SLEEP_TMO are registers of page 4 past the common header. -/
theorem pwrWake_registers : PageRegister 4 P.PWR .pwr 0x40 ∧ PageRegister 4 P.PWR .pwr 0x48 ∧ PageRegister 4 P.PWR .pwr 0x50 := by
  decide

section
variable (s : State) (a : Agent) (v : Word)

theorem pwrWakeEnWrite_eq : exec (.registerWrite a (BitVec.ofNat 26 R.PWR_WAKE_EN) 0xF v) s =
    .next (s.writeBy a .pwr P.PWR R.PWR_WAKE_EN (pwrRule R.PWR_WAKE_EN v s)) :=
  registerWrite_page pwrWake_registers.1 s a v

theorem pwrWakeTmrWrite_eq : exec (.registerWrite a (BitVec.ofNat 26 R.PWR_WAKE_TMR) 0xF v) s =
    .next (s.writeBy a .pwr P.PWR R.PWR_WAKE_TMR (pwrRule R.PWR_WAKE_TMR v s)) :=
  registerWrite_page pwrWake_registers.2.1 s a v

theorem pwrSleepTmoWrite_eq : exec (.registerWrite a (BitVec.ofNat 26 R.PWR_SLEEP_TMO) 0xF v) s =
    .next (s.writeBy a .pwr P.PWR R.PWR_SLEEP_TMO (pwrRule R.PWR_SLEEP_TMO v s)) :=
  registerWrite_page pwrWake_registers.2.2 s a v

end

/-- A write whose checks of the agent and of the owner pass, and whose check of the state does not. -/
theorem State.writeBy_state {s : State} {a : Agent} {k : PageKind} {p : Nat} (off : Nat) {r : WRule}
    (h : s.admits a k p = true) (hagent : r.agentOk = true) (howner : r.ownerOk = true) (hstate : r.stateOk = false) :
    s.writeBy a k p off r = r.refused .state (s.reject p off .state) :=
  State.writeBy_refused off r .state h (by rw [hagent, howner, hstate]; rfl)

/-- Settles O27: the rule of each of the three registers asks that DEV_MODE.BUSY is 0. -/
theorem wakeRegistersAreFixedWhileBusy : Obligations.WakeRegistersAreFixedWhileBusy := by
  refine ⟨fun s a v h hfree => ?_, fun s a v h hbusy => ?_⟩
  · have hstate : (!s.flag F.DEV_MODE_BUSY) = true := by rw [hfree]; rfl
    rw [pwrWakeEnWrite_eq, pwrWakeTmrWrite_eq, pwrSleepTmoWrite_eq]
    exact ⟨congrArg _ (State.writeBy_ok _ _ h rfl rfl hstate rfl rfl),
      congrArg _ (State.writeBy_ok _ _ h rfl rfl hstate rfl rfl),
      fun hv => congrArg _ (State.writeBy_ok _ _ h rfl rfl hstate rfl (bne_iff_ne.mpr hv))⟩
  · have hstate : (!s.flag F.DEV_MODE_BUSY) = false := by rw [hbusy]; rfl
    rw [pwrWakeEnWrite_eq, pwrWakeTmrWrite_eq, pwrSleepTmoWrite_eq]
    exact ⟨congrArg _ (State.writeBy_state _ h rfl rfl hstate), congrArg _ (State.writeBy_state _ h rfl rfl hstate),
      congrArg _ (State.writeBy_state _ h rfl rfl hstate)⟩

end Sys2Proof.Machine
end

section
/-! PROOFS. A fuse program never clears a fuse (20, R491, R530). -/

namespace Sys2Proof.Machine

open Sys2Proof

/-- Every fuse of the fields that R530 lets a program reach that is blown in `f` is blown in `g`. -/
structure Fuses.Within (f g : Fuses) : Prop where
  lifecycle : f.lifecycle &&& g.lifecycle = f.lifecycle
  revoke : f.revoke &&& g.revoke = f.revoke
  ckeyHash0 : f.ckeyHash0 &&& g.ckeyHash0 = f.ckeyHash0
  ckeyHash1 : f.ckeyHash1 &&& g.ckeyHash1 = f.ckeyHash1
  debugLock : f.debugLock = true → g.debugLock = true
  iso : f.iso = true → g.iso = true
  blown0 : f.blown0 = true → g.blown0 = true
  blown1 : f.blown1 = true → g.blown1 = true
  aat : ∀ i, f.aat.getD i 0 &&& g.aat.getD i 0 = f.aat.getD i 0

theorem Fuses.within_self (f : Fuses) : f.Within f :=
  ⟨BitVec.and_self, BitVec.and_self, BitVec.and_self, BitVec.and_self, id, id, id, id, fun _ => BitVec.and_self⟩

theorem and_or_absorb {w : Nat} (x y : BitVec w) : x &&& (x ||| y) = x := by
  ext i
  cases hx : x[i] <;> simp [hx]

/-- A program ors its data into what the fuses hold. -/
theorem Fuses.within_prog (f : Fuses) (st : List (Nat × Word)) (field word : Nat) (data : Word) :
    f.Within (f.prog st field word data) := by
  have h := f.within_self
  unfold Fuses.prog
  split
  · split
    · exact { h with ckeyHash0 := and_or_absorb _ _, blown0 := fun _ => rfl }
    · exact h
  split
  · split
    · exact { h with ckeyHash1 := and_or_absorb _ _, blown1 := fun _ => rfl }
    · exact h
  split
  · exact { h with revoke := and_or_absorb _ _ }
  split
  · exact { h with debugLock := fun hb => by simp [hb] }
  split
  · refine { h with aat := fun i => ?_ }
    rcases Nat.lt_or_ge word f.aat.length with hlt | hge
    · rcases eq_or_ne word i with rfl | hne
      · simp [List.getD_eq_getElem?_getD, hlt, and_or_absorb]
      · simp [List.getD_eq_getElem?_getD, List.getElem?_set_ne hne]
    · rw [List.set_eq_of_length_le hge]
      exact BitVec.and_self
  split
  · exact { h with iso := fun hb => by simp [hb] }
  · dsimp only
    split
    · exact { h with lifecycle := and_or_absorb _ _ }
    · exact { h with lifecycle := and_or_absorb _ _ }

/-- From `s` to `t` fuses are blown at most, and the registers stand. -/
def State.BlowsOnly (s t : State) : Prop := s.dev.fuses.Within t.dev.fuses ∧ t.regs = s.regs

theorem State.BlowsOnly.ite {s t u : State} {c : Prop} {_ : Decidable c} (ht : s.BlowsOnly t) (hu : s.BlowsOnly u) :
    s.BlowsOnly (if c then t else u) := by
  split
  · exact ht
  · exact hu

theorem tapFuseProg_blowsOnly {s t : State} {f w : BitVec 8} {d : BitVec 32} {v : Bool}
    (ht : exec (.tapFuseProg f w d v) s = .next t) : s.BlowsOnly t := by
  have hport (x : Tap) : s.BlowsOnly (s.setTap x) := ⟨s.dev.fuses.within_self, rfl⟩
  rw [exec_tapFuseProg, execTapFuseProg] at ht
  obtain rfl := Host.Outcome.next.inj ht
  exact .ite (hport _) (.ite (hport _) (.ite (hport _) (.ite (hport _) (.ite (hport _)
    ⟨s.dev.fuses.within_prog _ _ _ _, rfl⟩))))

/-- Settles O10: the one branch of FUSE_PROG that changes the fuses ors into them. -/
theorem fusesOnlyGainBits : Obligations.FusesOnlyGainBits := by
  intro s t f w d v ht
  obtain ⟨h, hregs⟩ := tapFuseProg_blowsOnly ht
  exact ⟨h.lifecycle, h.revoke, h.ckeyHash0, h.ckeyHash1, h.debugLock, h.iso, h.blown0, h.blown1, h.aat, hregs⟩

end Sys2Proof.Machine
end

section
/-! PROOFS. Parity alerts, self-refresh and row hammer of a channel (15, R394, R396, R397). -/

namespace Sys2Proof.Machine

open Sys2Proof

/-- Dropping by key clears the keys that are dropped and leaves the others. -/
theorem sget_sdrop {α : Type} (d : α) (p : Nat → Bool) (l : List (Nat × α)) (i : Nat) :
    sget d (sdrop p l) i = if p i then d else sget d l i := by
  induction l with
  | nil => exact (ite_self d).symm
  | cons e t ih =>
    obtain ⟨k, v⟩ := e
    rw [sdrop] at ih ⊢
    rcases eq_or_ne i k with rfl | hne
    · cases hp : p i
      · simp [sget, hp]
      · rw [List.filter_cons_of_neg (by simp [hp]), ih, hp, if_pos rfl, if_pos rfl]
    · rw [sget, if_neg hne]
      cases hp : p k
      · rw [List.filter_cons_of_pos (by simp [hp]), sget, if_neg hne, ih]
      · rw [List.filter_cons_of_neg (by simp [hp]), ih]

section
variable {s : State} {n : Fin 8}

/-- The states in which a channel replays: READY, replaying and self-refresh. -/
theorem chReplays (h : s.chState n = chReady ∨ s.chState n = chReplay ∨ s.chState n = chSelfRefresh) :
    (s.chState n == chReady || s.chState n == chReplay || s.chState n == chSelfRefresh) = true := by
  simpa [or_assoc] using h

section
variable (h : s.chState n = chReady ∨ s.chState n = chReplay ∨ s.chState n = chSelfRefresh)
include h

theorem caParityAlert_released : exec (.caParityAlert n .released) s =
    .next (((s.setFld (F.DRAM_STAT_STATE n) chReady).count (R.DRAM_REPLAY n)).fault (P.DRAM n) X.DRAM_CA_REPLAY) :=
  congrArg done (if_pos (chReplays h))

theorem caParityAlert_again : exec (.caParityAlert n .again) s = .next (s.chanFail n) :=
  congrArg done (if_pos (chReplays h))

theorem caParityAlert_held : exec (.caParityAlert n .held) s = .next (s.setFld (F.DRAM_STAT_STATE n) chReplay) :=
  congrArg done (if_pos (chReplays h))

end

theorem caParityAlert_other (o : AlertOutcome)
    (h : s.chState n = chOff ∨ s.chState n = chTraining ∨ s.chState n = chFaulted) :
    exec (.caParityAlert n o) s = .next s := by
  have hother : (s.chState n == chReady || s.chState n == chReplay || s.chState n == chSelfRefresh) = false := by
    rcases h with h | h | h <;> rw [h] <;> rfl
  exact congrArg done (if_neg (by rw [hother]; exact Bool.false_ne_true))

theorem caReplayTimeout_replaying (h : s.chState n = chReplay) : exec (.caReplayTimeout n) s = .next (s.chanFail n) := by
  rw [exec_caReplayTimeout, execCaReplayTimeout, if_pos (beq_iff_eq.mpr h)]

theorem caReplayTimeout_other (h : s.chState n ≠ chReplay) : exec (.caReplayTimeout n) s = .next s := by
  rw [exec_caReplayTimeout, execCaReplayTimeout, if_neg (mt beq_iff_eq.mp h)]

theorem idleSelfRefreshEnter_enters (hready : s.chState n = chReady) (hset : s.fld (F.DRAM_SR_IDLE_US n) ≠ 0)
    (hseq : s.seqBusy = false) (hcap : s.captureArmed = false) : exec (.idleSelfRefreshEnter n) s =
      .next ((s.setFld (F.DRAM_STAT_STATE n) chSelfRefresh).event (P.DRAM n) E.DRAM_SR_ENTER) := by
  rw [exec_idleSelfRefreshEnter, execIdleSelfRefreshEnter, if_pos (by simp [hready, hset, hseq, hcap])]

theorem idleSelfRefreshEnter_stays (h : s.chState n ≠ chReady ∨ s.fld (F.DRAM_SR_IDLE_US n) = 0 ∨ s.seqBusy = true ∨
    s.captureArmed = true) : exec (.idleSelfRefreshEnter n) s = .next s := by
  rw [exec_idleSelfRefreshEnter, execIdleSelfRefreshEnter, if_neg]
  rcases h with h | h | h | h <;> simp [h]

end

/-- The trackers of a channel have its number above bit 9 of their keys. -/
theorem rhKey_channel {sub b : Nat} (m : Nat) (hsub : sub < 2) (hb : b < 256) : rhKey m sub b / 512 = m := by
  unfold rhKey
  omega

/-- Settles O29: each event acts on the states it names; the window's end drops the trackers by the channel in their keys. -/
theorem dramChannelEvents : Obligations.DramChannelEvents := by
  refine ⟨fun s n h => ⟨caParityAlert_released h, caParityAlert_again h, caParityAlert_held h⟩,
    fun s n o h => caParityAlert_other o h, fun s n h => caReplayTimeout_replaying h, fun s n h => caReplayTimeout_other h,
    fun s n => idleSelfRefreshEnter_enters, fun s n h => idleSelfRefreshEnter_stays h, fun s n => exec_rhThrottleEnd n s,
    fun s n => ⟨_, exec_rhWindowEnd n s, rfl, fun _ => rfl, fun sub b hsub hb => ?_, fun m sub b hm hsub hb => ?_⟩⟩
  · exact (sget_sdrop [] (fun k => k / 512 == n.val) s.dram.rh _).trans (if_pos (beq_iff_eq.mpr (rhKey_channel _ hsub hb)))
  · exact (sget_sdrop [] (fun k => k / 512 == n.val) s.dram.rh _).trans
      (if_neg (mt beq_iff_eq.mp (by rwa [rhKey_channel _ hsub hb])))

end Sys2Proof.Machine
end

section
/-! PROOFS. A beat of a DMA transfer from DRAM to DRAM (16, R409, R412, R413). -/

namespace Sys2Proof.Machine

open Sys2Proof

/-- The two halves of a 64-bit pair are registers of their own. -/
theorem State.reg64_setReg64 (s : State) {lo hi : Nat} (v : BitVec 64) (h : lo ≠ hi) :
    (s.setReg64 lo hi v).reg64 lo hi = v := by
  rw [State.reg64, State.setReg64, State.reg_setReg_self, State.reg_setReg_other _ _ h, State.reg_setReg_self]
  apply BitVec.eq_of_getLsbD_eq
  intro i hi
  rw [BitVec.getLsbD_append]
  split
  · simp [*]
  · simp only [BitVec.getLsbD_setWidth, BitVec.getLsbD_ushiftRight]
    simp (disch := omega)
    omega

theorem State.reg64_setReg_other (s : State) {lo hi o : Nat} (v : Word) (hlo : lo ≠ o) (hhi : hi ≠ o) :
    (s.setReg o v).reg64 lo hi = s.reg64 lo hi := by
  rw [State.reg64, State.reg_setReg_other _ _ hlo, State.reg_setReg_other _ _ hhi, State.reg64]

theorem State.reg64_setFlag_other (s : State) {lo hi : Nat} {f : Fld} (b : Bool) (hlo : lo ≠ f.off) (hhi : hi ≠ f.off) :
    (s.setFlag f b).reg64 lo hi = s.reg64 lo hi := by
  rw [State.reg64, State.reg_setFlag_other _ _ hlo, State.reg_setFlag_other _ _ hhi, State.reg64]

@[simp] theorem State.memByte_setFlag (s : State) (f : Fld) (b : Bool) (a : Nat) : (s.setFlag f b).memByte a = s.memByte a := rfl

@[simp] theorem State.memByte_setReg (s : State) (o : Nat) (v : Word) (a : Nat) : (s.setReg o v).memByte a = s.memByte a := rfl

@[simp] theorem State.length_memBytes (s : State) (a n : Nat) : (s.memBytes a n).length = n := by
  rw [State.memBytes, List.length_map, List.length_range]

theorem State.getD_memBytes (s : State) {a n i : Nat} (h : i < n) : (s.memBytes a n).getD i 0 = s.memByte (a + i) := by
  simp [State.memBytes, List.getD_eq_getElem?_getD, h]

theorem State.reg_setMem (s : State) (a : Nat) (l : List Byte) (o : Nat) : (s.setMem a l).reg o = s.reg o := by
  induction l generalizing s a with
  | nil => rfl
  | cons b t ih => exact ih _ _

/-- The two halves of DMA_CH_DONE are apart from each other, from the CRC and from the status of the channel. -/
theorem dmaDone_apart (n k : Nat) : R.DMA_CH_DONE_LO n k ≠ R.DMA_CH_DONE_HI n k ∧
    (R.DMA_CH_DONE_LO n k ≠ R.DMA_CH_CRC n k ∧ R.DMA_CH_DONE_HI n k ≠ R.DMA_CH_CRC n k) ∧
    R.DMA_CH_DONE_LO n k ≠ R.DMA_CH_STAT n k ∧ R.DMA_CH_DONE_HI n k ≠ R.DMA_CH_STAT n k := by
  simp only [R.DMA_CH_DONE_LO, R.DMA_CH_DONE_HI, R.DMA_CH_CRC, R.DMA_CH_STAT]
  omega

/-- What a beat to DRAM does: its bytes are stored and counted. -/
def State.dmaStore (s : State) (ch dst : Nat) (l : List Byte) : State := (s.setMem dst l).dmaWrote ch l

section
variable (s : State) (ch dst : Nat) (l : List Byte)

theorem State.memByte_dmaStore (a : Nat) : (s.dmaStore ch dst l).memByte a = (s.setMem dst l).memByte a := rfl

/-- The count of a channel is DMA_CH_DONE; the CRC is a register of its own. -/
theorem State.done_dmaStore : (s.dmaStore ch dst l).reg64 (R.DMA_CH_DONE_LO (ch / 8) (ch % 8)) (R.DMA_CH_DONE_HI (ch / 8) (ch % 8)) =
    BitVec.ofNat 64 (s.dmaMoved ch + l.length) := by
  have hmoved : (s.setMem dst l).dmaMoved ch = s.dmaMoved ch := by
    rw [State.dmaMoved, State.reg64, State.reg_setMem, State.reg_setMem]
    rfl
  obtain ⟨hhalves, ⟨hlo, hhi⟩, -⟩ := dmaDone_apart (ch / 8) (ch % 8)
  rw [State.dmaStore, State.dmaWrote, State.reg64_setReg_other _ _ hlo hhi, State.reg64_setReg64 _ _ hhalves, hmoved]

end

section
variable {s : State} {ch o b c : Nat} (hplace : s.dmaPlace ch = (o, b, c))
include hplace

theorem State.dmaRead_dram {n : Nat} (data : List Byte) (hspace : (s.dmaSrc ch).space = spDram)
    (hup : s.rangeDown (((s.dmaSrc ch).row b c + o) % 2 ^ 40) n = false) :
    s.dmaRead ch n data = .ok (s.memBytes (((s.dmaSrc ch).row b c + o) % 2 ^ 40) n, s) := by
  rw [State.dmaRead, hplace]
  dsimp only
  rw [if_pos hspace, hup]
  rfl

theorem State.dmaBeat_dram {n src dst : Nat} (data : List Byte) (hn : n = s.dmaBeatLen ch)
    (hsrc : src = ((s.dmaSrc ch).row b c + o) % 2 ^ 40) (hdst : dst = ((s.dmaDst ch).row b c + o) % 2 ^ 40)
    (hfrom : (s.dmaSrc ch).space = spDram) (hto : (s.dmaDst ch).space = spDram) (hread : s.rangeDown src n = false)
    (hwrite : s.rangeDown dst n = false) (hinj : s.bit (R.xx_FLT_INJ (P.DMA (ch / 8))) X.DMA_BUF_UC = false) :
    s.dmaBeat ch data = s.dmaStore ch dst (s.memBytes src n) ∨
    s.dmaBeat ch data =
      (s.dmaStore ch dst (s.memBytes src n)).setFlag (F.DMA_CH_STAT_WAITING (ch / 8) (ch % 8)) true := by
  subst hn hsrc hdst
  have hstore : s.dmaWrite ch (o == 0) ((s.dmaDst ch).row b c + o)
      (s.memBytes (((s.dmaSrc ch).row b c + o) % 2 ^ 40) (s.dmaBeatLen ch)) =
      .ok (s.setMem (((s.dmaDst ch).row b c + o) % 2 ^ 40)
        (s.memBytes (((s.dmaSrc ch).row b c + o) % 2 ^ 40) (s.dmaBeatLen ch))) := by
    rw [State.dmaWrite, if_pos hto, State.writeFails, State.length_memBytes, hwrite]
    rfl
  rw [State.dmaBeat, hplace]
  simp only [State.dmaRead_dram hplace data hfrom hread, State.takeInj_clear hinj, hstore]
  split
  · exact .inr rfl
  · exact .inl rfl

end

/-- Settles O34: the beat stores the bytes read, and neither the count nor the mark of a wait touches DRAM. -/
theorem dmaBeatMovesBytes : Obligations.DmaBeatMovesBytes := by
  intro s ch o b c n src dst hplace hn hsrc hdst hfrom hto hread hwrite hinj
  have hdone := s.done_dmaStore ch dst (s.memBytes src n)
  rw [State.length_memBytes] at hdone
  have hbytes (i : Nat) (hi : i < n) : (s.dmaStore ch dst (s.memBytes src n)).memByte (dst + i) = s.memByte (src + i) := by
    rw [State.memByte_dmaStore, State.memByte_setMem_self _ _ _ _ (by rwa [State.length_memBytes]), State.getD_memBytes s hi]
  have hrest : s.memSameBut (s.dmaStore ch dst (s.memBytes src n)) dst n := fun a ha => by
    rw [State.memByte_dmaStore, State.memByte_setMem_other _ _ _ _ (by rwa [State.length_memBytes])]
  obtain ⟨-, -, hlo, hhi⟩ := dmaDone_apart (ch.val / 8) (ch.val % 8)
  rcases State.dmaBeat_dram hplace [] hn hsrc hdst hfrom hto hread hwrite hinj with h | h <;> rw [h]
  · exact ⟨hbytes, hrest, hdone⟩
  · refine ⟨fun i hi => ?_, fun a ha => ?_, ?_⟩
    · rw [State.memByte_setFlag, hbytes i hi]
    · rw [State.memByte_setFlag, hrest a ha]
    · rw [State.reg64_setFlag_other _ _ hlo hhi, hdone]

end Sys2Proof.Machine
end

section
/-! PROOFS. Starting, aborting and ending a DMA channel (16, R409 to R413, R424). -/

namespace Sys2Proof.Machine

open Sys2Proof

theorem State.reg_setReg64_other (s : State) {lo hi o : Nat} (v : BitVec 64) (hlo : o ≠ lo) (hhi : o ≠ hi) :
    (s.setReg64 lo hi v).reg o = s.reg o := by
  rw [State.setReg64, State.reg_setReg_other _ _ hhi, State.reg_setReg_other _ _ hlo]

theorem State.fld_eq_of_reg {s t : State} {f : Fld} (h : t.reg f.off = s.reg f.off) : t.fld f = s.fld f := by
  rw [State.fld, State.fld, h]

theorem State.reg64_eq_of_reg {s t : State} {lo hi : Nat} (hlo : t.reg lo = s.reg lo) (hhi : t.reg hi = s.reg hi) :
    t.reg64 lo hi = s.reg64 lo hi := by
  rw [State.reg64, State.reg64, hlo, hhi]

theorem State.memSame_of_dram {s t : State} (h : t.dram = s.dram) : s.memSame t := fun a => by
  rw [State.memByte, State.memByte, h]

/-! ### The start of a transfer -/

/-- The state in which the start checks are made: ACTIVE, not waiting, with nothing moved. -/
def State.dmaBegun (s : State) (ch : Nat) : State :=
  let n := ch / 8
  let c := ch % 8
  let s := (s.setFld (F.DMA_CH_STAT_STATE n c) 1).setFlag (F.DMA_CH_STAT_WAITING n c) false
  (s.setReg64 (R.DMA_CH_DONE_LO n c) (R.DMA_CH_DONE_HI n c) 0).setReg (R.DMA_CH_CRC n c) (s.reg (R.DMA_CH_CRC_SEED n c))

section
variable (s : State) (ch : Nat)

theorem State.dmaStart_eq : s.dmaStart ch =
    if (s.dmaBegun ch).dmaLen ch = 0 then (s.dmaBegun ch).dmaComplete ch
    else if !(s.dmaBegun ch).dmaLegal ch then (s.dmaBegun ch).dmaEnd ch dmaIllegal
    else if !(s.dmaBegun ch).dmaInside ch then (s.dmaBegun ch).dmaEnd ch dmaBadAddr
    else if (s.dmaBegun ch).dmaOverlaps ch then (s.dmaBegun ch).dmaEnd ch dmaOverlap
    else if (s.dmaBegun ch).dmaBlocked ch then
      (s.dmaBegun ch).setFlag (F.DMA_CH_STAT_WAITING (ch / 8) (ch % 8)) true
    else s.dmaBegun ch := rfl

theorem State.dram_dmaBegun : (s.dmaBegun ch).dram = s.dram := by
  rw [State.dmaBegun, State.setReg_dram, State.setReg64_dram, State.setFlag_dram, State.setFld_dram]

theorem State.memSame_dmaBegun : s.memSame (s.dmaBegun ch) := State.memSame_of_dram (s.dram_dmaBegun ch)

theorem State.dmaMoved_dmaBegun : (s.dmaBegun ch).dmaMoved ch = 0 := by
  obtain ⟨hhalves, ⟨hlo, hhi⟩, -⟩ := dmaDone_apart (ch / 8) (ch % 8)
  rw [State.dmaMoved, State.dmaBegun, State.reg64_setReg_other _ _ hlo hhi, State.reg64_setReg64 _ _ hhalves]
  rfl

variable {s ch}

/-- The start writes the status, the CRC and the count of its channel, which lie side by side. -/
theorem State.reg_dmaBegun {o : Nat} (h : o < R.DMA_CH_STAT (ch / 8) (ch % 8) ∨ R.DMA_CH_DONE_HI (ch / 8) (ch % 8) < o) :
    (s.dmaBegun ch).reg o = s.reg o := by
  simp only [R.DMA_CH_STAT, R.DMA_CH_DONE_HI] at h
  have hstat : o ≠ R.DMA_CH_STAT (ch / 8) (ch % 8) := by simp only [R.DMA_CH_STAT]; omega
  have hlo : o ≠ R.DMA_CH_DONE_LO (ch / 8) (ch % 8) := by simp only [R.DMA_CH_DONE_LO]; omega
  have hhi : o ≠ R.DMA_CH_DONE_HI (ch / 8) (ch % 8) := by simp only [R.DMA_CH_DONE_HI]; omega
  have hcrc : o ≠ R.DMA_CH_CRC (ch / 8) (ch % 8) := by simp only [R.DMA_CH_CRC]; omega
  rw [State.dmaBegun, State.reg_setReg_other _ _ hcrc, State.reg_setReg64_other _ _ hlo hhi,
    State.reg_setFlag_other _ _ hstat, State.reg_setFld_other _ _ hstat]

/-- The configuration of the channel lies below what the start writes. -/
theorem State.reg_dmaBegun_config {d : Nat} (h : d < 0x40) :
    (s.dmaBegun ch).reg (0xB0100 + d + 0x1000 * (ch / 8) + 0x80 * (ch % 8)) =
      s.reg (0xB0100 + d + 0x1000 * (ch / 8) + 0x80 * (ch % 8)) :=
  State.reg_dmaBegun (.inl (by simp only [R.DMA_CH_STAT]; omega))

theorem State.dmaLen_dmaBegun : (s.dmaBegun ch).dmaLen ch = s.dmaLen ch := by
  have hbc := State.reg_dmaBegun_config (s := s) (ch := ch) (d := 0x1C) (by decide)
  exact congrArg₂ (· * ·) (congrArg₂ (· * ·)
    (congrArg BitVec.toNat (State.reg_dmaBegun_config (s := s) (ch := ch) (d := 0x18) (by decide)))
    (State.fld_eq_of_reg (f := F.DMA_CH_BCCNT_BCNT (ch / 8) (ch % 8)) hbc))
    (State.fld_eq_of_reg (f := F.DMA_CH_BCCNT_CCNT (ch / 8) (ch % 8)) hbc)

theorem State.dmaCrcWr_dmaBegun : (s.dmaBegun ch).dmaCrcWr ch = s.dmaCrcWr ch :=
  State.flag_eq_of_reg (f := F.DMA_CH_CTRL_CRC_WR (ch / 8) (ch % 8))
    (State.reg_dmaBegun_config (s := s) (ch := ch) (d := 0) (by decide))

theorem State.dmaSrc_space_dmaBegun : ((s.dmaBegun ch).dmaSrc ch).space = (s.dmaSrc ch).space :=
  State.fld_eq_of_reg (f := F.DMA_CH_SPACE_SRC_SP (ch / 8) (ch % 8))
    (State.reg_dmaBegun_config (s := s) (ch := ch) (d := 4) (by decide))

theorem State.dmaSrc_addr_dmaBegun : ((s.dmaBegun ch).dmaSrc ch).addr = (s.dmaSrc ch).addr :=
  State.reg64_eq_of_reg (State.reg_dmaBegun_config (s := s) (ch := ch) (d := 8) (by decide))
    (State.reg_dmaBegun_config (s := s) (ch := ch) (d := 0xC) (by decide))

theorem State.queueCons_dmaBegun (h : ch < 32) (k cons : Nat) : (s.dmaBegun ch).queueCons k cons = s.queueCons k cons := by
  have hcfg : (s.dmaBegun ch).reg (R.FQ_Q_CFG k) = s.reg (R.FQ_Q_CFG k) :=
    State.reg_dmaBegun (.inr (by simp only [R.FQ_Q_CFG, R.DMA_CH_DONE_HI]; omega))
  rw [State.queueCons, State.queueCons, State.flag_eq_of_reg (f := F.FQ_Q_CFG_EN k) hcfg,
    State.fld_eq_of_reg (f := F.FQ_Q_CFG_CONS k) hcfg]

theorem State.dmaStart_empty (hlen : s.dmaLen ch = 0) (hcrc : s.dmaCrcWr ch = false) :
    s.dmaStart ch = (s.dmaBegun ch).dmaEnd ch dmaOk := by
  rw [State.dmaStart_eq, if_pos (State.dmaLen_dmaBegun.trans hlen), State.dmaComplete, State.dmaCrcWr_dmaBegun, hcrc,
    Bool.not_false, if_pos rfl]

theorem State.dmaStart_illegal (hch : ch < 32) (hlen : s.dmaLen ch ≠ 0) (hspace : (s.dmaSrc ch).space = spQueue)
    (hcons : s.queueCons ((s.dmaSrc ch).addr.toNat % 32) (0x40 + ch) = false) :
    s.dmaStart ch = (s.dmaBegun ch).dmaEnd ch dmaIllegal := by
  have hlegal : (s.dmaBegun ch).dmaLegal ch = false := by
    simp only [State.dmaLegal, State.dmaSrc_space_dmaBegun, State.dmaSrc_addr_dmaBegun, State.queueCons_dmaBegun hch, hspace,
      hcons, bne_self_eq_false, Bool.false_or, Bool.false_and]
  rw [State.dmaStart_eq, if_neg (State.dmaLen_dmaBegun.trans_ne hlen), hlegal, Bool.not_false, if_pos rfl]

end

/-! ### Writes of DMA_CH_CTRL -/

/-- The rule of DMA_CH_CTRL of a channel. -/
theorem dmaRule_ctrl (a : Agent) (ch : Fin 32) (v : Word) (s : State) :
    dmaRule a (ch.val / 8) (R.DMA_CH_CTRL (ch.val / 8) (ch.val % 8)) v s = dmaCtrlRule ch v s := by
  have hoff : R.DMA_CH_CTRL (ch.val / 8) (ch.val % 8) - R.DMA_CH_CTRL (ch.val / 8) 0 = 0x80 * (ch.val % 8) := by
    simp only [R.DMA_CH_CTRL]; omega
  have harb : R.DMA_CH_CTRL (ch.val / 8) (ch.val % 8) ≠ R.DMA_ARB 0 := by simp only [R.DMA_CH_CTRL, R.DMA_ARB]; omega
  have hin : R.DMA_CH_CTRL (ch.val / 8) 0 ≤ R.DMA_CH_CTRL (ch.val / 8) (ch.val % 8) ∧
      R.DMA_CH_CTRL (ch.val / 8) (ch.val % 8) < R.DMA_CH_CTRL (ch.val / 8) 8 := by simp only [R.DMA_CH_CTRL]; omega
  have hch : 8 * (ch.val / 8) + 0x80 * (ch.val % 8) / 0x80 = ch.val := by omega
  rw [dmaRule, if_neg harb, if_pos hin, hoff]
  dsimp only
  rw [if_pos (by omega), hch]

/-- The word of a START: START alone of the two commands, and the fields of `v`. -/
theorem dmaStart_word : ∀ n < 32, (BitVec.ofNat 32 (n * 4 + 1)).getLsbD 0 = true ∧
    (BitVec.ofNat 32 (n * 4 + 1)).getLsbD 1 = false ∧ BitVec.ofNat 32 (n * 4 + 1) &&& 0x7C = BitVec.ofNat 32 (n * 4) := by
  decide

/-- The word of an ABORT is no START. -/
theorem dmaAbort_word (x : Word) : ((x &&& 0x7C) ||| 2).getLsbD 0 = false := by
  simp

section
variable {s : State} {a : Agent} {ch : Fin 32} (h : s.admits a .dma (P.DMA (ch.val / 8)) = true)

theorem dmaStart_taken (v : BitVec 5) (hidle : s.dmaActive ch = false) (hmode : s.mode ≠ mQuarantine)
    (hsleep : s.dev.sleep.target = 0) (hadmits : s.admits a .dma (P.DMA (ch.val / 8)) = true) :
    exec (.dmaStart a ch v) s =
      .next ((s.setReg (R.DMA_CH_CTRL (ch.val / 8) (ch.val % 8)) (BitVec.ofNat 32 (v.toNat * 4))).dmaStart ch) := by
  obtain ⟨hstart, habort, hword⟩ := dmaStart_word v.toNat v.isLt
  have hstate : (dmaCtrlRule ch (BitVec.ofNat 32 (v.toNat * 4 + 1)) s).stateOk = true := by
    simp [dmaCtrlRule, hidle, hmode, hsleep]
  have hrange : (dmaCtrlRule ch (BitVec.ofNat 32 (v.toNat * 4 + 1)) s).rangeOk = true := by
    rw [dmaCtrlRule, hstart, habort]
    rfl
  rw [exec_dmaStart, execDmaStart, dmaRule_ctrl, State.writeBy_ok _ _ hadmits rfl rfl hstate rfl hrange]
  simp only [dmaCtrlRule, hidle, hstart, hword, Bool.false_eq_true, if_false, if_true]

include h

theorem dmaStart_refused (v : BitVec 5) (hbusy : s.dmaActive ch = true ∨ s.mode = mQuarantine) :
    exec (.dmaStart a ch v) s =
      .next (s.reject (P.DMA (ch.val / 8)) (R.DMA_CH_CTRL (ch.val / 8) (ch.val % 8)) .state) := by
  obtain ⟨hstart, -, -⟩ := dmaStart_word v.toNat v.isLt
  have hstate : (dmaCtrlRule ch (BitVec.ofNat 32 (v.toNat * 4 + 1)) s).stateOk = false := by
    rw [dmaCtrlRule, hstart]
    rcases hbusy with hbusy | hbusy <;> simp [hbusy]
  rw [exec_dmaStart, execDmaStart, dmaRule_ctrl, State.writeBy_state _ h rfl rfl hstate]
  rfl

/-- An ABORT passes the checks in every state. -/
theorem dmaAbort_eq : exec (.dmaAbort a ch) s = .next ((dmaCtrlRule ch
    ((s.reg (R.DMA_CH_CTRL (ch.val / 8) (ch.val % 8)) &&& 0x7C) ||| 2) s).eff s) := by
  rw [exec_dmaAbort, execDmaAbort, dmaRule_ctrl, State.writeBy_ok _ _ h rfl rfl (by simp [dmaCtrlRule]) rfl
    (by simp [dmaCtrlRule])]

theorem dmaAbort_ends (hactive : s.dmaActive ch = true) (hgoes : s.dmaMoved ch < s.dmaLen ch ∨ s.dmaWaiting ch = true) :
    exec (.dmaAbort a ch) s = .next (s.dmaEnd ch dmaAborted) := by
  have hnot : (decide (s.dmaLen ch ≤ s.dmaMoved ch) && !s.dmaWaiting ch) = false := by
    rcases hgoes with hgoes | hgoes
    · rw [decide_eq_false (by omega), Bool.false_and]
    · rw [hgoes, Bool.not_true, Bool.and_false]
  rw [dmaAbort_eq h]
  simp only [dmaCtrlRule, hactive, hnot, Bool.false_eq_true, if_true, if_false]

theorem dmaAbort_completes (hactive : s.dmaActive ch = true) (hmoved : s.dmaLen ch ≤ s.dmaMoved ch)
    (hwait : s.dmaWaiting ch = false) : exec (.dmaAbort a ch) s = .next (s.dmaComplete ch) := by
  rw [dmaAbort_eq h]
  simp only [dmaCtrlRule, hactive, hwait, decide_eq_true hmoved, Bool.not_false, Bool.and_true, if_true]

theorem dmaAbort_ignored (hidle : s.dmaActive ch = false) : exec (.dmaAbort a ch) s =
    .next (s.setReg (R.DMA_CH_CTRL (ch.val / 8) (ch.val % 8))
      (((s.reg (R.DMA_CH_CTRL (ch.val / 8) (ch.val % 8)) &&& 0x7C) ||| 2) &&& 0x7C)) := by
  have hstart := dmaAbort_word (s.reg (R.DMA_CH_CTRL (ch.val / 8) (ch.val % 8)))
  rw [dmaAbort_eq h]
  simp only [dmaCtrlRule, hidle, hstart, Bool.false_eq_true, if_false]

end

/-- DMA_CH_CTRL and DMA_CH_STAT are two registers. -/
theorem State.dmaActive_setReg_ctrl (s : State) (ch : Nat) (v : Word) :
    (s.setReg (R.DMA_CH_CTRL (ch / 8) (ch % 8)) v).dmaActive ch = s.dmaActive ch := by
  have hstat : R.DMA_CH_STAT (ch / 8) (ch % 8) ≠ R.DMA_CH_CTRL (ch / 8) (ch % 8) := by
    simp only [R.DMA_CH_STAT, R.DMA_CH_CTRL]; omega
  exact congrArg (· == 1) (State.fld_eq_of_reg (f := F.DMA_CH_STAT_STATE (ch / 8) (ch % 8)) (s.reg_setReg_other v hstat))

/-! ### DMA_DONE and the queue waits -/

section
variable {s : State} {ch : Fin 32}

theorem dmaDone_idle (d : List Byte) (e : Option (Nat × DmaError)) (hidle : s.dmaActive ch = false) :
    exec (.dmaDone ch d e) s = .next s := by
  rw [exec_dmaDone, execDmaDone]
  unfold State.dmaRun
  rw [hidle, Bool.not_false, Bool.true_or, if_pos rfl]

theorem dmaDone_completes (d : List Byte) (e : Option (Nat × DmaError)) (hactive : s.dmaActive ch = true)
    (hwait : s.dmaWaiting ch = false) (hmoved : s.dmaLen ch ≤ s.dmaMoved ch) :
    exec (.dmaDone ch d e) s = .next (s.dmaComplete ch) := by
  rw [exec_dmaDone, execDmaDone]
  unfold State.dmaRun
  rw [hactive, hwait, if_neg (by decide), if_pos hmoved]

theorem dmaDone_fails (d : List Byte) (e : DmaError) (hactive : s.dmaActive ch = true) (hwait : s.dmaWaiting ch = false)
    (hmoved : s.dmaMoved ch < s.dmaLen ch) : exec (.dmaDone ch d (some (0, e))) s = .next (s.dmaFail ch e) := by
  rw [exec_dmaDone, execDmaDone, State.dmaRun, hactive, hwait, if_neg (by decide), if_neg (by omega)]

end

/-- Settles O33: a START and an ABORT are writes of DMA_CH_CTRL under its rule, and what the start reads lies apart from what it writes. -/
theorem dmaTransfers : Obligations.DmaTransfers := by
  refine ⟨fun s a ch v h hidle hmode hsleep => dmaStart_taken v hidle hmode hsleep h, fun s a ch v h => dmaStart_refused h v,
    fun s ch hlen hcrc => ⟨_, State.dmaStart_empty hlen hcrc, s.dmaMoved_dmaBegun ch, s.memSame_dmaBegun ch⟩,
    fun s ch hlen hspace hcons => ⟨_, State.dmaStart_illegal ch.isLt hlen hspace hcons, s.dmaMoved_dmaBegun ch,
      s.memSame_dmaBegun ch⟩,
    fun s a ch h => dmaAbort_ends h, fun s a ch h => dmaAbort_completes h,
    fun s a ch h hidle _ => ⟨_, dmaAbort_ignored h hidle, (s.dmaActive_setReg_ctrl ch _).trans hidle, fun _ => rfl, fun o ho =>
      s.reg_setReg_other _ (by simpa using ho)⟩,
    fun s ch => dmaDone_idle, fun s ch => dmaDone_completes, fun s ch => dmaDone_fails, fun s ch hactive hwait hserve => ?_,
    fun s ch hrest => ?_, fun s ch hactive hwait htmo => ?_, fun s ch hrest => ?_⟩
  · rw [exec_dmaQueueWaitEnd, execDmaQueueWaitEnd, hactive, hwait, hserve]
    rfl
  · rw [exec_dmaQueueWaitEnd, execDmaQueueWaitEnd, if_neg]
    rcases hrest with hrest | hrest | hrest <;> simp [hrest]
  · rw [exec_dmaQueueTimeout, execDmaQueueTimeout, if_pos (by simp [hactive, hwait, htmo])]
  · rw [exec_dmaQueueTimeout, execDmaQueueTimeout, if_neg]
    rcases hrest with hrest | hrest <;> simp [hrest]

end Sys2Proof.Machine
end

section
/-! PROOFS. The words of the hardware queues (16, R417 to R425). -/

namespace Sys2Proof.Machine

open Sys2Proof

/-! ### The contents of a queue -/

@[simp] theorem State.queue_setQueue_self (s : State) (k : Nat) (q : Queue) : (s.setQueue k q).queue k = q :=
  sget_sset_self _ _ _ _

theorem State.queue_setQueue_other (s : State) {j k : Nat} (q : Queue) (h : j ≠ k) :
    (s.setQueue k q).queue j = s.queue j := sget_sset_other _ _ _ q h

theorem State.bit_setQueue (s : State) (k : Nat) (q : Queue) (o i : Nat) : (s.setQueue k q).bit o i = s.bit o i := rfl

theorem State.queue_eq_of_fq {s t : State} (h : t.fq = s.fq) (k : Nat) : t.queue k = s.queue k := by
  rw [State.queue, State.queue, h]

@[simp] theorem State.queue_setReg (s : State) (o : Nat) (v : Word) (k : Nat) : (s.setReg o v).queue k = s.queue k := rfl

@[simp] theorem State.queue_setFld (s : State) (f : Fld) (v k : Nat) : (s.setFld f v).queue k = s.queue k := rfl

@[simp] theorem State.queue_setFlag (s : State) (f : Fld) (b : Bool) (k : Nat) : (s.setFlag f b).queue k = s.queue k := rfl

@[simp] theorem State.queue_raiseTo (s : State) (o v k : Nat) : (s.raiseTo o v).queue k = s.queue k := by
  rw [State.raiseTo]
  split
  · exact State.queue_setReg _ _ _ _
  · rfl

@[simp] theorem State.queue_event (s : State) {p : Nat} (b : Nat) (hp : p % 0x1000 = 0) (k : Nat) :
    (s.event p b).queue k = s.queue k :=
  State.queue_eq_of_fq (congrArg State.fq (State.ReportsOnly.event s b hp).rest) k

/-- The words of a complete item are its words, the first marked as the header. -/
theorem map_fst_marked (item : List (BitVec 64)) :
    (item.zipIdx.map (fun x => (x.1, x.2 == 0))).map Prod.fst = item := by
  rw [List.map_map]
  exact List.zipIdx_map_fst 0 item

section
variable (s : State) (k : Nat) (item : List (BitVec 64))

/-- A complete item is appended in order. -/
theorem State.words_queueComplete :
    ((s.queueComplete k item).queue k).words.map Prod.fst = (s.queue k).words.map Prod.fst ++ item := by
  rw [State.queueComplete, State.queue_raiseTo, State.queue_setFlag, State.queue_setQueue_self, List.map_append,
    map_fst_marked]

theorem State.queue_queueComplete_other {j : Nat} (h : j ≠ k) : (s.queueComplete k item).queue j = s.queue j := by
  rw [State.queueComplete, State.queue_raiseTo, State.queue_setFlag, State.queue_setQueue_other _ _ h]

theorem State.words_queueFlush : ((s.queueFlush k).queue k).words = [] := by
  rw [State.queueFlush]
  dsimp only
  split
  · rw [State.queue_setQueue_self]
  split
  · rw [State.queue_setQueue_self]
  · rw [State.queue_event _ _ (by decide), State.queue_setFlag, State.queue_setFld, State.queue_setQueue_self]

end

/-! ### The rules of the registers of a queue -/

section
variable (a : Agent) (k : Fin 32) (v : Word) (s : State)

/-- The registers of queue `k` are the words from FQ_Q_CFG of `k` on. -/
theorem fqRegister_queue {d : Nat} (hd : d < 0x40) : (R.FQ_Q_CFG k + d - R.FQ_Q_CFG 0) / 0x40 = k.val ∧
    R.FQ_Q_CFG 0 ≤ R.FQ_Q_CFG k + d ∧ R.FQ_Q_CFG k + d < R.FQ_Q_CFG 32 := by
  simp only [R.FQ_Q_CFG]
  omega

theorem fqRule_cfg : fqRule a (R.FQ_Q_CFG k) v s = queueCfgRule k v s := by
  obtain ⟨hk, hin⟩ := fqRegister_queue k (d := 0) (by decide)
  rw [Nat.add_zero] at hk hin
  rw [fqRule, if_pos hin, hk]
  exact if_pos rfl

theorem fqRule_push : fqRule a (R.FQ_Q_PUSH_HI k) v s = queuePushRule a k v s := by
  obtain ⟨hk, hin⟩ := fqRegister_queue k (d := 0x14) (by decide)
  have hoff : R.FQ_Q_CFG k + 0x14 = R.FQ_Q_PUSH_HI k := by simp only [R.FQ_Q_CFG, R.FQ_Q_PUSH_HI]; omega
  rw [hoff] at hk hin
  rw [fqRule, if_pos hin, hk]
  dsimp only
  rw [if_neg (by simp only [R.FQ_Q_CFG, R.FQ_Q_PUSH_HI]; omega), if_neg (by simp only [R.FQ_Q_STAT, R.FQ_Q_PUSH_HI]; omega),
    if_neg (by simp only [R.FQ_Q_PUSH_LO, R.FQ_Q_PUSH_HI]; omega), if_pos rfl]

theorem fqRule_ctrl : fqRule a (R.FQ_Q_CTRL k) v s = { eff := fun s => if v.getLsbD 0 then s.queueFlush k else s } := by
  obtain ⟨hk, hin⟩ := fqRegister_queue k (d := 0x24) (by decide)
  have hoff : R.FQ_Q_CFG k + 0x24 = R.FQ_Q_CTRL k := by simp only [R.FQ_Q_CFG, R.FQ_Q_CTRL]; omega
  rw [hoff] at hk hin
  rw [fqRule, if_pos hin, hk]
  dsimp only
  rw [if_neg (by simp only [R.FQ_Q_CFG, R.FQ_Q_CTRL]; omega), if_neg (by simp only [R.FQ_Q_STAT, R.FQ_Q_CTRL]; omega),
    if_neg (by simp only [R.FQ_Q_PUSH_LO, R.FQ_Q_CTRL]; omega), if_neg (by simp only [R.FQ_Q_PUSH_HI, R.FQ_Q_CTRL]; omega),
    if_pos rfl]

end

/-! ### Enabling -/

/-- The state of a queue enabled with the word `v`. -/
def State.queueEnabled (s : State) (k : Nat) (v : Word) : State :=
  let t := (((s.setReg (R.FQ_Q_CFG k) (v &&& 0x81FFFFFF)).setQueue k Queue.init).setFlag (F.FQ_Q_STAT_OPEN k) false).setFld
    (F.FQ_Q_STAT_DISCARD_LEFT k) 0
  t.setFld F.FQ_POOL_FREE (t.fld F.FQ_POOL_FREE - bitsOf v.toNat 24 16)

section
variable {s : State} {k : Nat} {v : Word}

theorem State.queue_queueEnabled : (s.queueEnabled k v).queue k = Queue.init := by
  rw [State.queueEnabled, State.queue_setFld, State.queue_setFld, State.queue_setFlag, State.queue_setQueue_self]

theorem State.memSame_queueEnabled : s.memSame (s.queueEnabled k v) := by
  apply State.memSame_of_dram
  rw [State.queueEnabled, State.setFld_dram, State.setFld_dram, State.setFlag_dram]
  rfl

/-- A one-bit field is that bit of its register. -/
theorem State.flag_eq_getLsbD (s : State) {f : Fld} (h : f.hi = f.lo) : s.flag f = (s.reg f.off).getLsbD f.lo := by
  rw [State.flag, State.fld, bitsOf, h, Nat.add_sub_cancel_left, BitVec.getLsbD, Nat.testBit_eq_decide_div_mod_eq,
    Nat.shiftRight_eq_div_pow]
  exact beq_eq_decide _ _

theorem State.en_queueEnabled (hen : v.getLsbD 31 = true) : (s.queueEnabled k v).flag (F.FQ_Q_CFG_EN k) = true := by
  have hstat : R.FQ_Q_CFG k ≠ R.FQ_Q_STAT k := by simp only [R.FQ_Q_CFG, R.FQ_Q_STAT]; omega
  have hpool : R.FQ_Q_CFG k ≠ R.FQ_POOL := by simp only [R.FQ_Q_CFG, R.FQ_POOL]; omega
  have hreg : (s.queueEnabled k v).reg (R.FQ_Q_CFG k) = v &&& 0x81FFFFFF := by
    rw [State.queueEnabled, State.reg_setFld_other _ _ hpool, State.reg_setFld_other _ _ hstat,
      State.reg_setFlag_other _ _ hstat]
    exact State.reg_setReg_self _ _ _
  rw [State.flag_eq_getLsbD _ rfl, hreg, BitVec.getLsbD_and]
  exact Bool.and_eq_true_iff.mpr ⟨hen, (by decide : (0x81FFFFFF : Word).getLsbD 31 = true)⟩

theorem State.free_queueEnabled :
    (s.queueEnabled k v).fld F.FQ_POOL_FREE = s.fld F.FQ_POOL_FREE - bitsOf v.toNat 24 16 := by
  have hcfg : R.FQ_POOL ≠ R.FQ_Q_CFG k := by simp only [R.FQ_Q_CFG, R.FQ_POOL]; omega
  have hstat : R.FQ_POOL ≠ R.FQ_Q_STAT k := by simp only [R.FQ_Q_STAT, R.FQ_POOL]; omega
  have hkept : ((((s.setReg (R.FQ_Q_CFG k) (v &&& 0x81FFFFFF)).setQueue k Queue.init).setFlag (F.FQ_Q_STAT_OPEN k) false).setFld
      (F.FQ_Q_STAT_DISCARD_LEFT k) 0).fld F.FQ_POOL_FREE = s.fld F.FQ_POOL_FREE := by
    apply State.fld_eq_of_reg
    rw [State.reg_setFld_other _ _ hstat, State.reg_setFlag_other _ _ hstat]
    exact State.reg_setReg_other _ _ hcfg
  have hsmall : s.fld F.FQ_POOL_FREE < 2 ^ 10 := Nat.mod_lt _ (by decide)
  rw [State.queueEnabled, State.fld_setFld_self _ _ _ (by decide), hkept]
  exact Nat.mod_eq_of_lt (Nat.lt_of_le_of_lt (Nat.sub_le _ _) hsmall)

variable {a : Agent} {k : Fin 32} (h : s.admits a .fq P.FQ = true) (hoff : s.flag (F.FQ_Q_CFG_EN k) = false)
  (hen : v.getLsbD 31 = true)
include h hoff hen

theorem fqEnable_enables (hprod : bitsOf v.toNat 15 8 ≤ 2) (hcons : bitsOf v.toNat 7 0 ≤ 1) (hdepth : bitsOf v.toNat 24 16 ≠ 0)
    (hmax : bitsOf v.toNat 24 16 ≤ 256) (hfree : bitsOf v.toNat 24 16 ≤ s.fld F.FQ_POOL_FREE) :
    exec (.fqEnable a k v) s = .next (s.queueEnabled k v) := by
  rw [exec_fqEnable, execFqEnable, fqRule_cfg, State.writeBy_ok _ _ h rfl rfl (by simp [queueCfgRule, hoff, hen, hfree]) rfl
    (by simp [queueCfgRule, hprod, hcons, hdepth, hmax])]
  simp only [queueCfgRule, hoff, hen, Bool.false_eq_true, if_false, if_true, beq_iff_eq]
  rfl

theorem fqEnable_refused (hfree : s.fld F.FQ_POOL_FREE < bitsOf v.toNat 24 16) :
    exec (.fqEnable a k v) s = .next (s.reject P.FQ (R.FQ_Q_CFG k) .state) := by
  rw [exec_fqEnable, execFqEnable, fqRule_cfg, State.writeBy_state _ h rfl rfl (by simp [queueCfgRule, hoff, hen, hfree])]
  rfl

end

/-! ### Pushing, popping and flushing -/

section
variable {s : State} {a : Agent} {k : Fin 32} {lo : Word} (hi : Word) (h : s.admits a .fq P.FQ = true)
include h

section
variable (hprod : s.queueProd k 1 = true) (hlo : (s.queue k).lo = some (a.ident, lo))
include hprod hlo

theorem fqPush_header (hopen : (s.queue k).openLen = none) (hadmits : s.queueAdmits k (bitsOf lo.toNat 11 0) = true) :
    exec (.fqPush a k hi) s =
      .next ((s.setQueue k { s.queue k with lo := none }).queueOpen k 1 (bitsOf lo.toNat 11 0) a.ident) := by
  rw [exec_fqPush, execFqPush, fqRule_push, State.writeBy_ok _ _ h rfl rfl
    (by simp [queuePushRule, hprod, hlo, hopen, hadmits]) (by simp [queuePushRule, hlo]) rfl]
  simp only [queuePushRule, State.queue_setQueue_self, hopen, hlo, Option.map_some, Option.getD_some]

theorem fqPush_payload {n : Nat} (hopen : (s.queue k).openLen = some n) (hmine : (s.queue k).opener = a.ident) :
    exec (.fqPush a k hi) s = .next ((s.setQueue k { s.queue k with lo := none }).queuePayload k (hi ++ lo)) := by
  rw [exec_fqPush, execFqPush, fqRule_push, State.writeBy_ok _ _ h rfl rfl
    (by simp [queuePushRule, hprod, hopen, hmine]) (by simp [queuePushRule, hlo]) rfl]
  simp only [queuePushRule, State.queue_setQueue_self, hopen, hlo, Option.map_some, Option.getD_some]

end

theorem fqPush_refused (hprod : s.queueProd k 1 = false) :
    exec (.fqPush a k hi) s = .next (s.reject P.FQ (R.FQ_Q_PUSH_HI k) .state) := by
  rw [exec_fqPush, execFqPush, fqRule_push, State.writeBy_state _ h rfl rfl (by simp [queuePushRule, hprod])]
  rfl

theorem fqFlush_flushes : exec (.fqFlush a k) s = .next (s.queueFlush k) := by
  rw [exec_fqFlush, execFqFlush, fqRule_ctrl, State.writeBy_ok _ _ h rfl rfl rfl rfl rfl]
  rfl

end

theorem find?_serase_other {α : Type} (l : List (Nat × α)) {i j : Nat} (h : j ≠ i) :
    (serase l i).find? (fun e => e.1 == j) = l.find? (fun e => e.1 == j) := by
  induction l with
  | nil => rfl
  | cons e t ih =>
    obtain ⟨k, v⟩ := e
    rw [serase]
    split
    · next hik => rw [ih, List.find?_cons_of_neg (by simpa [← hik] using h.symm)]
    · rw [List.find?_cons, List.find?_cons, ih]

theorem find?_cons_serase_other {α : Type} (l : List (Nat × α)) {i j : Nat} (v : α) (h : j ≠ i) :
    ((i, v) :: serase l i).find? (fun e => e.1 == j) = l.find? (fun e => e.1 == j) := by
  rw [List.find?_cons_of_neg (by simpa using h.symm), find?_serase_other l h]

theorem State.flag_latch (s : State) (a : Agent) (o : Nat) (v : Word) (f : Fld) : (s.latch a o v).flag f = s.flag f := rfl

theorem State.flag_answer (s : State) (v : BitVec 64) (f : Fld) : (s.answer v).flag f = s.flag f := rfl

/-- What is latched for an agent last is read back; a latch of another register leaves it. -/
theorem State.latched_latch_self (s : State) (a : Agent) (o : Nat) (v : Word) : (s.latch a o v).latched a o = some v := by
  simp [State.latched, State.latch]

theorem State.latched_latch_other (s : State) (a : Agent) {o p : Nat} (v : Word) (h : o ≠ p) :
    (s.latch a p v).latched a o = s.latched a o := by
  have hkey : latchKey a o ≠ latchKey a p := by
    rw [latchKey, latchKey]
    omega
  exact congrArg (Option.map Prod.snd) (find?_cons_serase_other s.loLatch v hkey)

section
variable {s : State} {k : Nat}

theorem State.takeInj_setQueue {p b : Nat} (hinj : s.bit (R.xx_FLT_INJ p) b = false) (q : Queue) :
    (s.setQueue k q).takeInj p b = (false, s.setQueue k q) := by
  apply State.takeInj_clear
  rw [State.bit_setQueue, hinj]

/-- A word with no error is taken as it is. -/
theorem State.queueTake_clean {w : BitVec 64} {hdr : Bool} {l : List (BitVec 64 × Bool)}
    (hwords : (s.queue k).words = (w, hdr) :: l) (hinj : s.bit (R.xx_FLT_INJ P.FQ) X.FQ_WORD_UC = false) :
    ∃ items, s.queueTake k .clean =
      some (w, hdr, false, s.setQueue k { s.queue k with words := l, items := items, last := w }) := by
  rw [State.queueTake, hwords]
  dsimp only
  rw [State.takeInj_setQueue hinj]
  dsimp only
  rw [if_neg (by decide), if_neg (by decide)]
  exact ⟨_, rfl⟩

theorem State.queueTake_empty (chk : EccCheck) (hwords : (s.queue k).words = []) : s.queueTake k chk = none := by
  rw [State.queueTake, hwords]

theorem State.queuePop_word {a : Agent} {chk : EccCheck} {w : BitVec 64} {hdr bad : Bool} {t : State}
    (hcons : s.fld (F.FQ_Q_CFG_CONS k) = 1) (htake : s.queueTake k chk = some (w, hdr, bad, t)) : s.queuePop a k chk =
    (w.setWidth 32, (t.latch a (R.FQ_Q_POP_HI k) ((w >>> 32).setWidth 32)).latch a (R.FQ_Q_POP_INFO k)
      (BitVec.ofNat 32 (2 ^ 31 + (if bad then 2 ^ 29 else 0) + (if hdr then 2 ^ 27 else 0)))) := by
  rw [State.queuePop, hcons, htake]
  rfl

theorem State.queuePop_empty {a : Agent} {chk : EccCheck} (hcons : s.fld (F.FQ_Q_CFG_CONS k) = 1)
    (htake : s.queueTake k chk = none) : s.queuePop a k chk = ((s.queue k).last.setWidth 32,
      (((s.count (R.FQ_Q_UNDERRUN k)).setFlag (F.FQ_Q_STAT_UNDERRUN k) true).latch a (R.FQ_Q_POP_HI k)
        (((s.queue k).last >>> 32).setWidth 32)).latch a (R.FQ_Q_POP_INFO k) (BitVec.ofNat 32 (2 ^ 30))) := by
  rw [State.queuePop, hcons, htake]
  rfl

end

theorem fqPop_answers {s : State} {a : Agent} (k : Fin 32) (chk : EccCheck) (h : s.responds a = true) :
    exec (.fqPop a k chk) s = .next ((s.queuePop a k chk).2.answer ((s.queuePop a k chk).1.setWidth 64)) := by
  rw [exec_fqPop, execFqPop, if_pos h]

/-- Settles O35: the rules of FQ_Q_CFG, FQ_Q_PUSH_HI and FQ_Q_CTRL, and what is taken and latched by a pop. That the HI half waits for
the agent that read LO, and that a flush drops the words held, are the model's choices (log row 49). -/
theorem hardwareQueues : Obligations.HardwareQueues := by
  refine ⟨fun s a k v h hoff hen hprod hcons hdepth hmax hfree => ⟨_, fqEnable_enables h hoff hen hprod hcons hdepth hmax hfree,
      State.queue_queueEnabled, State.en_queueEnabled hen, State.free_queueEnabled, State.memSame_queueEnabled⟩,
    fun s a k v h hoff hen => fqEnable_refused h hoff hen, fun s a k hi lo h => fqPush_header hi h,
    fun s a k hi lo n h hprod hlo => fqPush_payload hi h hprod hlo, fun s a k hi h => fqPush_refused hi h,
    fun s k item => ⟨s.words_queueComplete k item, fun j => s.queue_queueComplete_other k item⟩,
    fun s a k w hdr l h hcons hwords hinj => ?_, fun s a k c h hcons hwords => ?_,
    fun s a k h => ⟨fqFlush_flushes h, s.words_queueFlush k⟩⟩
  · obtain ⟨items, htake⟩ := State.queueTake_clean hwords hinj
    have hapart : R.FQ_Q_POP_HI k ≠ R.FQ_Q_POP_INFO k := by simp only [R.FQ_Q_POP_HI, R.FQ_Q_POP_INFO]; omega
    rw [fqPop_answers k .clean h, State.queuePop_word hcons htake]
    refine ⟨_, rfl, rfl, congrArg Queue.words (State.queue_setQueue_self s k _), ?_, rfl⟩
    exact (State.latched_latch_other _ a _ hapart).trans (State.latched_latch_self _ a _ _)
  · rw [fqPop_answers k c h, State.queuePop_empty hcons (State.queueTake_empty c hwords)]
    refine ⟨_, rfl, rfl, ?_⟩
    rw [State.flag_answer, State.flag_latch, State.flag_latch, State.flag_setFlag_self _ _ _ rfl (by norm_num)]

end Sys2Proof.Machine
end

section
/-! PROOFS. The sleep controller's sample, latches and wakes (20, R493 to R496); rails, PLL locks, references and temperature
(20, R478 to R481, R323); the test access port (20, R527 to R530). -/

namespace Sys2Proof.Machine

open Sys2Proof

@[simp] theorem State.setSleep_sleep (s : State) (z : Sleep) : (s.setSleep z).dev.sleep = z := rfl

theorem State.sleepAdvance_of_steps {s : State} (h : s.dev.sleep.steps ≠ 1) : s.sleepAdvance = s := by
  simp [State.sleepAdvance, h]

theorem State.sleepAdvance_of_inFlight {s : State} (h : s.inFlight = true) : s.sleepAdvance = s := by
  simp [State.sleepAdvance, h]

theorem State.sleepGate_sleep (s : State) : s.sleepGate.dev.sleep = ⟨s.dev.sleep.target, 3, true⟩ := rfl

/-- A latch that is enabled, and that the mode lets set, sets (R493). -/
theorem State.wakeLatch_sets {s : State} {src : Nat} (hcold : s.mode ≠ mCold) (hen : s.bit R.PWR_WAKE_EN src = true)
    (hhib : s.mode = mHibernate → src ≠ 2 ∧ src ≠ 3) :
    s.wakeLatch src = if s.dev.sleep.target != 0 && !s.dev.sleep.gated then (s.setBit R.PWR_WAKE_STAT src true).sleepAbort 1
      else s.setBit R.PWR_WAKE_STAT src true := by
  have hno : (s.mode == mCold || !s.bit R.PWR_WAKE_EN src || (s.mode == mHibernate && (src == 2 || src == 3))) = false := by
    by_cases h : s.mode = mHibernate
    · simp [hcold, hen, hhib h]
    · simp [hcold, hen, h]
  rw [State.wakeLatch, hno]
  simp only [State.setBit_dev]
  rfl

/-- A latch that is not enabled or that the mode holds does not set (R493). -/
theorem State.wakeLatch_held {s : State} {src : Nat} (h : s.mode = mCold ∨ s.bit R.PWR_WAKE_EN src = false ∨
    (s.mode = mHibernate ∧ (src = 2 ∨ src = 3))) : s.wakeLatch src = s := by
  refine if_pos ?_
  rcases h with h | h | ⟨h, rfl | rfl⟩ <;> simp [h]

@[simp] theorem State.setMode_sleep (s : State) (m : Nat) : (s.setMode m).dev.sleep = s.dev.sleep := by
  rw [State.setMode, State.event_dev _ _ (by decide), State.count_dev, State.setFld_dev, State.setFld_dev]

/-- A wake ends the sleep record (R496). -/
theorem State.wakeEnd_sleep (s : State) (m : Nat) : (s.wakeEnd m).dev.sleep = ⟨0, 0, false⟩ := by
  rw [State.wakeEnd, State.event_dev _ _ (by decide), State.setFld_dev, State.setMode_sleep, State.setSleep_sleep]

@[simp] theorem State.portsWake_dev (s : State) : s.portsWake.dev = s.dev := by
  have hfold (l : List Nat) (t : State) : (l.foldl (fun s f => s.setFport f { s.fport f with off := false }) t).dev = t.dev := by
    induction l generalizing t with
    | nil => rfl
    | cons f l ih => exact ih _
  exact hfold _ s

/-- Settles O6: a case for each outcome of the sample, of a latch and of a wake. -/
theorem sleepAndWake : Obligations.SleepAndWake := by
  refine ⟨fun s m h hw => ?_, fun s m h hw => ?_, fun s m h hf => ⟨?_, ?_⟩, fun s src hc hh hen ht => ?_,
    fun s src hc hh hen ht hg => ?_, fun s src h => ?_, fun s hm hg ht hen => ?_, fun s ht => ?_, fun s n hm hw => ?_,
    fun s k n hm hw => ?_, fun s k n hw => ⟨?_, ?_⟩⟩
  · have hadv : s.sleepAdvance = s := State.sleepAdvance_of_steps (by simp [h])
    refine ⟨s.sleepGate, ?_, by rw [State.sleepGate_sleep, h]⟩
    simp [execSleepSample, hadv, h, hw]
  · have hadv : s.sleepAdvance = s := State.sleepAdvance_of_steps (by simp [h])
    simp [execSleepSample, hadv, h, show s.reg R.PWR_WAKE_STAT ≠ 0#32 from hw]
  · simp [execSleepDrainTimeout, h, hf]
  · simp [execSleepSample, State.sleepAdvance_of_inFlight hf, h]
  · rw [exec_wakeLatchSet, execWakeLatchSet, State.wakeLatch_sets hc hen (fun h => absurd h hh)]
    simp [ht]
  · rw [exec_wakeLatchSet, execWakeLatchSet, State.wakeLatch_sets hc hen (fun h => absurd h hh)]
    simp [ht, hg]
  · rw [exec_wakeLatchSet, execWakeLatchSet, State.wakeLatch_held]
    rcases h with h | h | ⟨h, hsrc⟩
    · exact .inl h
    · exact .inr (.inl h)
    · exact .inr (.inr ⟨h, hsrc.imp (congrArg Fin.val) (congrArg Fin.val)⟩)
  · have hlatch : s.wakeLatch 1 = s.setBit R.PWR_WAKE_STAT 1 true := by
      rw [State.wakeLatch_sets (by rw [hm]; decide) hen (fun _ => by decide)]
      simp [hg]
    simp [execWakeTimerExpire, hg, show s.reg R.PWR_WAKE_TMR ≠ 0#32 from ht, hlatch]
  · simp [execWakeTimerExpire, ht]
  · refine ⟨((s.dramWake.timeWake n.toNat).wakeEnd mReady).portsWake, ?_, by rw [State.portsWake_dev, State.wakeEnd_sleep]⟩
    simp [execWakeDozeComplete, hm, show s.reg R.PWR_WAKE_STAT ≠ 0#32 from hw]
  · refine ⟨((((s.tpllLock k.toNat).timeWake n.toNat).dramRetain).wakeEnd mTrain).portsWake, ?_,
      by rw [State.portsWake_dev, State.wakeEnd_sleep]⟩
    simp [execWakeHibernateComplete, hm, show s.reg R.PWR_WAKE_STAT ≠ 0#32 from hw]
  · simp [execWakeDozeComplete, hw]
  · simp [execWakeHibernateComplete, hw]

theorem State.setTemp_reads (s : State) (t : BitVec 16) : (s.setTemp t).fld F.PWR_TEMP_T = t.toNat := by
  have hset : (s.setFld F.PWR_TEMP_T t.toNat).fld F.PWR_TEMP_T = t.toNat := by
    rw [State.fld_setFld_self _ _ _ (by decide)]
    exact Nat.mod_eq_of_lt t.isLt
  rw [State.setTemp]
  split
  · rw [State.fld_setFld_other _ _ (by decide) (.inl (by decide)), hset]
  · exact hset

theorem getLsbD_or_pow {n : Nat} (x : BitVec n) (i : Fin n) : (x ||| BitVec.ofNat n (2 ^ i.val)).getLsbD i = true := by
  rw [BitVec.getLsbD_or, BitVec.getLsbD_ofNat, Nat.testBit_two_pow_self]
  simp

/-- Settles O7: a case for each side of the condition that each event has. -/
theorem clocksRailsTemperature : Obligations.ClocksRailsTemperature := by
  refine ⟨fun s r hm => ?_, fun s r hm => ?_, fun s r => ⟨_, rfl, getLsbD_or_pow _ r, rfl, rfl⟩, fun s h => ?_, fun s h => ?_,
    fun s p h => ?_, fun s t hm ht => ?_, fun s t hm ht => ?_, fun s t hm ht => ?_, State.setTemp_reads, fun s hm => ⟨?_, ?_⟩⟩
  · have hmode (d : Dev) : State.mode { s with dev := d } ≠ mCold := hm
    simp [execRailOutOfRange, hmode]
  · have hmode (d : Dev) : State.mode { s with dev := d } = mCold := hm
    simp [execRailOutOfRange, hmode]
  · simp [execTpllLockLoss, h]
  · simp [execTpllLockLoss, h]
  · simp [execSyspllLockLoss, h]
  · simp [execThermWarn, hm, ht]
  · simp [execThermWarn, hm, not_le.mpr ht]
  · simp [execThermTrip, hm, ht]
  · simp [execSrefLost, hm]
  · simp [execSrefBack, hm]

/-- EXTEST, CLAMP and HIGHZ act in COLD with the rails in range and power good only (R528). -/
theorem State.tapDrives_false {s : State} (h : s.mode ≠ mCold ∨ s.railsGood = false ∨ s.dev.pwrgd = false) :
    s.tapDrives = false := by
  rcases h with h | h | h <;> simp [State.tapDrives, h]

/-- The manufacturer's code and the revision stand beside bit 0 and the part number of the IDCODE (R527). -/
theorem idcodeWord_fields (rev id : Nat) (hid : id < 2 ^ 11) :
    (BitVec.ofNat 32 (rev * 2 ^ 28 + 0x2568 * 2 ^ 12 + id * 2 + 1)).getLsbD 0 = true ∧
      (BitVec.ofNat 32 (rev * 2 ^ 28 + 0x2568 * 2 ^ 12 + id * 2 + 1) >>> 12).setWidth 16 = (0x2568 : BitVec 16) := by
  constructor
  · rw [BitVec.getLsbD_ofNat, Nat.testBit_zero, decide_eq_true (by omega), Bool.true_and, decide_eq_true (by omega)]
  · refine BitVec.eq_of_toNat_eq ?_
    rw [BitVec.toNat_setWidth, BitVec.toNat_ushiftRight, BitVec.toNat_ofNat, Nat.shiftRight_eq_div_pow]
    change _ = 0x2568
    omega

/-- The word that FUSE_STAT captures: BUSY in bit 7, the result in the low bits (R528). -/
theorem fuseStat_bits (b : Bool) (r : BitVec 3) (o : BitVec 64) (ho : o = BitVec.ofNat 64 ((if b then 128 else 0) + r.toNat)) :
    o.getLsbD 7 = b ∧ o.setWidth 3 = r := by
  subst ho
  revert b r
  decide

/-- Settles O9: a case for each instruction and each side of its condition. -/
theorem testAccessPort : Obligations.TestAccessPort := by
  refine ⟨fun s => rfl, fun s c b hm hr hp => ?_, fun s c b h => ?_, fun s c b hr => ?_, fun s => rfl,
    idcodeWord_fields _ _ Config.jedecId.isLt,
    fun s x => rfl, fun s ha => ?_, fun s f w d v hm => ?_, fun s f w d v hm hb ha => ?_, fun s d hm hb hl => ?_,
    fun s v hb hr => ?_, fun s hm => ?_, fun s x hr hl => ?_, fun s x hr hl => ?_, fun s i => rfl⟩
  · have hdrives : s.tapDrives = true := by simp [State.tapDrives, hm, hr, hp]
    simp [execTapExtest, execTapClamp, execTapHighz, hdrives]
  · simp [execTapExtest, execTapClamp, execTapHighz, State.tapDrives_false h, State.tapBypass]
  · simp [execTapSamplePreload, hr]
  · simp [execTapFuseRead, ha, Fuses.word]
  · simp [execTapFuseProg, execTapFuseStat, hm]
  · simp [execTapFuseProg, hm, hb, ha]
  · have hcold : (s.mode != mCold) = false := by simp [hm]
    have hallowed : (!s.dev.fuses.progAllowed (0x12 : BitVec 8).toNat (0 : BitVec 8).toNat d) = false := by
      simp [Fuses.progAllowed, hl]
    have hkey : ((0x12 : BitVec 8) == 0x10 && s.dev.fuses.blown0 || (0x12 : BitVec 8) == 0x11 && s.dev.fuses.blown1) = false := rfl
    simp only [exec_tapFuseProg, execTapFuseProg, hcold, hb, hallowed, hkey, Bool.not_true, Bool.false_eq_true, if_false]
    exact ⟨_, rfl, rfl, rfl, rfl⟩
  · cases v <;> simp [execTapFuseProgDone, hb, hr]
  · simp only [exec_tapFuseStat, execTapFuseStat, hm]
    obtain ⟨hbusy, hres⟩ := fuseStat_bits s.dev.tap.busy s.dev.tap.result _ rfl
    exact ⟨_, rfl, hbusy, hres, rfl, rfl⟩
  · simp [execTapDebug, hr, hl]
  · simp only [exec_tapDebug, execTapDebug, hr, hl]
    exact ⟨_, rfl, rfl, rfl, rfl⟩

end Sys2Proof.Machine
end

section
/-! PROOFS. The host link, BAR2, MSI-X, the HIF agreement and the root port (17, R427 to R446). -/

namespace Sys2Proof.Machine

open Sys2Proof

/-! ### The link and configuration requests (R427 to R431) -/

/-- Training ends where the part is awake past BOOT, the link is down, and width and rate are ones that the link allows (R427). -/
theorem hostLinkUp_trains {s : State} {w : BitVec 4} {v : BitVec 3} (hresp : s.responds .host = true) (hboot : s.mode ≠ mBoot)
    (hdown : s.flag F.HOST_STAT_DL_UP = false) (hw : 0 < w.toNat)
    (hwidth : w.toNat ≤ (if s.flag F.HOST_CFG_MODE then 4 else 8)) (hv : 0 < v.toNat) (hspeed : v.toNat ≤ 5) :
    exec (.hostLinkUp w v) s = .next
      (((((s.setFlag F.HOST_STAT_CFG_READY true).setFlag F.HOST_STAT_DL_UP true).setFld F.HOST_STAT_WIDTH w.toNat).setFld
        F.HOST_STAT_SPEED v.toNat).event P.HOST E.HOST_LINK_UP) := by
  have hw0 : (w == 0) = false := beq_eq_false_iff_ne.mpr (by rintro rfl; exact absurd hw (lt_irrefl 0))
  have hv0 : (v == 0) = false := beq_eq_false_iff_ne.mpr (by rintro rfl; exact absurd hv (lt_irrefl 0))
  have hguard : (!s.responds .host || s.mode == mBoot || s.flag F.HOST_STAT_DL_UP || w == 0
      || decide ((if s.flag F.HOST_CFG_MODE then 4 else 8) < w.toNat) || v == 0 || decide (5 < v.toNat)) = false := by
    simp only [hresp, beq_eq_false_iff_ne.mpr hboot, hdown, hw0, hv0, decide_eq_false (not_lt.mpr hwidth),
      decide_eq_false (not_lt.mpr hspeed)]
    rfl
  rw [exec_hostLinkUp, execHostLinkUp, hguard, if_neg Bool.false_ne_true, done]

/-- Configuration requests are taken outside COLD, DOZE and HIBERNATE (R429). -/
theorem State.awake_of_modes {s : State} (hcold : s.mode ≠ mCold) (hdoze : s.mode ≠ mDoze) (hhib : s.mode ≠ mHibernate) :
    (s.mode == mCold || s.mode == mDoze || s.mode == mHibernate) = false := by
  simp [hcold, hdoze, hhib]

/-! ### Memory requests: BAR2 and the MSI-X table (R433, R434, R322) -/

/-- A request that stays in its segment is one part. -/
theorem bar2Parts_within (o : BitVec 36) {n : Nat} (h : o.toNat % 2 ^ 32 + n ≤ 2 ^ 32) : bar2Parts o.toNat n = [(o.toNat, n)] := by
  have hmin : min n (2 ^ 32 - o.toNat % 2 ^ 32) = n := min_eq_left (by omega)
  rw [bar2Parts, hmin, if_pos rfl]
  exact List.filter_eq_self.mpr fun x hx => by simp [List.mem_singleton.mp hx, o.isLt]

section
variable {s : State} (ht : s.hostTakes = true) (hd : s.fld F.HOST_STAT_DSTATE = 0)
include ht hd

theorem bar2Read_within (o : BitVec 36) {n : Fin 4097} (k : ReadCheck) (h : o.toNat % 2 ^ 32 + n.val ≤ 2 ^ 32) :
    exec (.bar2Read o n k) s = .next ((s.complete 0 []).bar2Read (o.toNat, n.val) k) := by
  simp [execBar2Read, ht, hd, bar2Parts_within o h]

theorem bar2Write_within (o : BitVec 36) {l : List Byte} (h : o.toNat % 2 ^ 32 + l.length ≤ 2 ^ 32) :
    exec (.bar2Write o l false) s = .next (s.bar2Write o.toNat l) := by
  simp [execBar2Write, ht, hd, bar2Parts_within o h]

/-- A write of the MSI-X table changes the entry; a message that its mask held goes out when nothing else holds it (R322). -/
theorem msixTableWrite_eq {i : BitVec 12} {v : Word} {t : State} (hu : t = { s with hic := { s.hic with
      msix := sset MsixEntry.init s.hic.msix (i.toNat / 16) ((s.msixEntry (i.toNat / 16)).write (i.toNat / 4 % 4) v) } }) :
    exec (.msixTableWrite i v) s = .next (
      if (s.msixEntry (i.toNat / 16)).masked && t.msixReady (i.toNat / 16) then t.msixIssue (i.toNat / 16) else t) := by
  simp [execMsixTableWrite, ht, hd, hu]

end

/-! ### The rules of the HOST page (R438, R446) -/

/-- A write of RETRAIN keeps the enable, and what the register stored of its two bits. -/
theorem retrain_bits (r : Word) : (r &&& 2) ||| (((r &&& 1) ||| 2) &&& 3) = (r &&& 3) ||| 2 := by
  rw [show (3 : Word) = 1 ||| 2 from rfl]
  ext i
  simp only [BitVec.getElem_or, BitVec.getElem_and]
  cases r[i] <;> cases (1 : Word)[i] <;> cases (2 : Word)[i] <;> rfl

theorem hostRule_offer (a : Agent) (v : Word) (s : State) : hostRule a R.HOST_HIF_OFFER v s =
    { stateOk := !s.hqAnyEnabled, rangeOk := decide (v.toNat % 65536 ≤ v.toNat / 65536), eff := fun s => s.hifOffer v } := rfl

theorem hostRule_rpCtrl (a : Agent) (v : Word) (s : State) : hostRule a R.HOST_RP_CTRL v s =
    { agentOk := drivesRp a, stateOk := s.flag F.HOST_CFG_MODE
      eff := fun s => s.setReg R.HOST_RP_CTRL ((s.reg R.HOST_RP_CTRL &&& 2) ||| (v &&& 3)) } := rfl

theorem hostRule_rpCmd (a : Agent) (v : Word) (s : State) : hostRule a R.HOST_RP_CMD v s =
    { agentOk := drivesRp a, stateOk := s.flag F.HOST_CFG_MODE && !s.flag F.HOST_RP_RES_BUSY
      rangeOk := decide (1 ≤ bitsOf v.toNat 31 28) && decide (bitsOf v.toNat 31 28 ≤ 4)
      eff := fun s => (s.setFlag F.HOST_RP_RES_BUSY true).setHost { s.host with rp := some (bitsOf v.toNat 31 28) } } := rfl

section
variable {s : State} {a : Agent} (h : s.admits a .hostp P.HOST = true)
include h

theorem hifOffer_enabled (v : Word) (hq : s.hqAnyEnabled = true) :
    exec (.hifOffer a v) s = .next (s.reject P.HOST R.HOST_HIF_OFFER .state) := by
  rw [exec_hifOffer, execHifOffer, hostRule_offer, State.writeBy_state _ h rfl rfl (by simp [hq])]

theorem hifOffer_crossed {v : Word} (hq : s.hqAnyEnabled = false) (hv : v.toNat / 65536 < v.toNat % 65536) :
    exec (.hifOffer a v) s = .next (s.reject P.HOST R.HOST_HIF_OFFER .range) := by
  rw [exec_hifOffer, execHifOffer, hostRule_offer,
    State.writeBy_refused _ _ .range h (by simp [hq, not_le.mpr hv, firstReason])]

theorem hifOffer_taken {v : Word} (hq : s.hqAnyEnabled = false) (hv : v.toNat % 65536 ≤ v.toNat / 65536) :
    exec (.hifOffer a v) s = .next (s.hifOffer v) := by
  rw [exec_hifOffer, execHifOffer, hostRule_offer, State.writeBy_ok _ _ h rfl rfl (by simp [hq]) rfl (by simp [hv])]

theorem rpCommand_agent (op : Nat) (b : BitVec 4) (ha : drivesRp a = false) :
    s.rpCommand a op b = s.reject P.HOST R.HOST_RP_CMD .agent := by
  rw [State.rpCommand, hostRule_rpCmd]
  exact State.writeBy_agent _ h ha

theorem rpCommand_state (op : Nat) (b : BitVec 4) (ha : drivesRp a = true)
    (hs : s.flag F.HOST_CFG_MODE = false ∨ s.flag F.HOST_RP_RES_BUSY = true) :
    s.rpCommand a op b = s.reject P.HOST R.HOST_RP_CMD .state := by
  rw [State.rpCommand, hostRule_rpCmd]
  exact State.writeBy_state _ h ha rfl (by rcases hs with hs | hs <;> simp [hs])

theorem rpCommand_taken {op : Nat} (b : BitVec 4) (ha : drivesRp a = true) (hm : s.flag F.HOST_CFG_MODE = true)
    (hb : s.flag F.HOST_RP_RES_BUSY = false) (hlo : 1 ≤ op) (hhi : op ≤ 4) :
    s.rpCommand a op b = (s.setFlag F.HOST_RP_RES_BUSY true).setHost { s.host with rp := some op } := by
  have hop : bitsOf (BitVec.ofNat 32 (op * 2 ^ 28 + b.toNat)).toNat 31 28 = op := by
    have hbe := b.isLt
    rw [BitVec.toNat_ofNat, bitsOf]
    omega
  rw [State.rpCommand, hostRule_rpCmd, hop,
    State.writeBy_ok _ _ h ha rfl (by simp [hm, hb]) rfl (by simp [hlo, hhi])]

theorem rpRetrain_eq : exec (.rpRetrain a) s = .next (
    if drivesRp a = false then s.reject P.HOST R.HOST_RP_CTRL .agent
    else if s.flag F.HOST_CFG_MODE = false then s.reject P.HOST R.HOST_RP_CTRL .state
    else s.setReg R.HOST_RP_CTRL ((s.reg R.HOST_RP_CTRL &&& 3) ||| 2)) := by
  rw [exec_rpRetrain, execRpRetrain, hostRule_rpCtrl]
  refine congrArg _ ?_
  split
  · exact State.writeBy_agent _ h ‹_›
  split
  · exact State.writeBy_state _ h (by simp_all) rfl ‹_›
  · rw [State.writeBy_ok _ _ h (by simp_all) rfl (by simp_all) rfl rfl]
    simp only [retrain_bits]

end

/-! ### The end of a root-port command (R446) -/

/-- The state in which a root-port command ends with a result. -/
theorem rpCmdDone_running {s : State} {op : Nat} (h : s.host.rp = some op) (r : BusResult) (crs : Bool) :
    exec (.rpCmdDone r crs) s = .next (
      let t := (s.setHost { s.host with rp := none }).setReg R.HOST_RP_RES (BitVec.ofNat 32 (rpResult r crs * 2 ^ 28))
      let t := if rpResult r crs == 3 || rpResult r crs == 5 then t.fault P.HOST X.HOST_RP_UC else t
      match r with
      | .data l => if (op == rpCfgRd || op == rpMemRd) && !crs then t.setReg R.HOST_RP_RDATA (BitVec.ofNat 32 (leNat (l.take 4)))
          else t
      | _ => t) := by
  rw [exec_rpCmdDone, execRpCmdDone, h] <;> rfl

/-- Settles O56: a case for each command of the link and each side of its conditions. What a link reset drops and when training ends
(log row 76), the bits of configuration space and of the advanced errors (log row 77, presumed), the parts of a BAR2 access (log row
78) and the corners of the root port (log row 81) are the model's choices. -/
theorem hostLink : Obligations.HostLink := by
  refine ⟨fun s => ⟨fun h => ?_, fun h => ?_⟩, fun s w v h => ?_,
    fun s w v hr hb hd hw hw' hv hv' => hostLinkUp_trains hr hb hd hw hw' hv hv', fun s q hc hd hh h => ?_,
    fun s e m d b hc hd hh h => ?_, fun s o n k l i v => ⟨fun h => ?_, fun h hd => ?_⟩,
    fun s t o n k l ht hd hu => ⟨?_, fun h ha => ?_, fun h => ?_, fun h ha => ?_, fun a u h ha hu => ⟨fun hf => ?_, fun hf => ?_⟩⟩,
    fun s t i v e ht hd he hu => ⟨fun hm => ?_, fun hm hr => ?_, fun hm hr => ?_⟩,
    fun s a v h => ⟨fun hq => ?_, fun hq hv => ?_, fun x hq hv hx => ?_, fun hq hv hx => ?_⟩,
    fun s c l ha hsp => ?_, fun s c r ha => ?_, fun s a b y h => ⟨fun ha => ?_, fun ha hm => ?_, fun ha hb => ?_,
      fun ha hm hb hy => ?_, fun ha hm => ?_⟩,
    fun s t op r l ht => ⟨fun h => ?_, fun h => ?_⟩,
    fun s u a n l hu => ⟨fun h => ?_, fun h ha => ?_, fun h ha => ?_, fun h ha hf => ?_, fun h ha hne => ?_, fun h ha he => ?_⟩,
    fun s w v => ⟨fun h b => ?_, fun h => ?_, fun h => ?_⟩⟩
  · simp [execHostLinkReset, h]
  · simp [execHostLinkReset, h]
  · simp [execHostLinkUp, h]
  · simp [execPcieConfigRequest, State.awake_of_modes hc hd hh, h]
  · simp only [exec_pcieConfigRequest, execPcieConfigRequest, State.awake_of_modes hc hd hh, h, Bool.not_true,
      Bool.false_eq_true, if_false, State.clrReg, State.cfgRead, and_self]
  · simp [execBar2Read, execBar2Write, execMsixTableWrite, h]
  · simp [execBar2Read, execBar2Write, execMsixTableWrite, h, hd]
  · simp [execBar2Write, ht, hd]
  · have hnone : t.bar2Addr o.toNat n.val = none := by rw [hu]; exact ha
    rw [bar2Read_within ht hd o k h, ← hu, State.bar2Read, hnone]
  · rw [bar2Read_within ht hd o k h, ← hu]
  · rw [bar2Write_within ht hd o h, State.bar2Write, ha]
  · rw [bar2Write_within ht hd o h, State.bar2Write, ha]
    simp only [← hu, hf, Bool.false_eq_true, if_false]
  · rw [bar2Write_within ht hd o h, State.bar2Write, ha]
    simp only [← hu, hf, if_true]
  · subst he
    simp [msixTableWrite_eq ht hd hu, hm]
  · subst he
    simp [msixTableWrite_eq ht hd hu, hm, hr]
  · subst he
    simp [msixTableWrite_eq ht hd hu, hm, hr]
  · exact hifOffer_enabled h v hq
  · exact hifOffer_crossed h hq hv
  · rw [hifOffer_taken h hq hv, State.hifOffer, hx]
  · rw [hifOffer_taken h hq hv, State.hifOffer, hx]
    exact congrArg (fun w => Host.Outcome.next (((s.setReg R.HOST_HIF_OFFER v).setReg R.HOST_HIF_AGREED w).event P.HOST E.HOST_HIF))
      (show BitVec.ofNat 32 (2 ^ 30) = 0x40000000 by decide)
  · simp [execBusMasterCompletion, ha, hsp]
  · simp [execBusMasterCompletion, ha]
  · rw [rpRetrain_eq h, if_pos ha]
    exact ⟨congrArg _ (rpCommand_agent h _ b ha), rfl⟩
  · rw [rpRetrain_eq h, if_neg (by simp [ha]), if_pos hm]
    exact ⟨congrArg _ (rpCommand_state h _ b ha (.inl hm)), rfl⟩
  · exact congrArg _ (rpCommand_state h _ b ha (.inr hb))
  · subst hy
    exact ⟨congrArg _ (rpCommand_taken h b ha hm hb (by decide) (by decide)),
      congrArg _ (rpCommand_taken h b ha hm hb (by decide) (by decide)),
      congrArg _ (rpCommand_taken h b ha hm hb (by decide) (by decide)),
      congrArg _ (rpCommand_taken h b ha hm hb (by decide) (by decide))⟩
  · rw [rpRetrain_eq h, if_neg (by simp [ha]), if_neg (by simp [hm])]
  · rw [exec_rpCmdDone, execRpCmdDone, h, done]
  · subst ht
    simp only [rpCmdDone_running h]
    refine ⟨fun hop => ?_, fun h1 h3 => ?_, ?_, ?_, ?_, ?_, ?_⟩
    · rcases hop with rfl | rfl <;> simp [rpResult]
    · simp [h1, h3, rpResult]
    · simp [rpResult]
    · simp [rpResult]
    · simp [rpResult]
    · simp [rpResult]
    · simp [rpResult]
  · simp [execRpInboundRequest, h]
  · simp [execRpInboundRequest, h, not_le.mpr ha]
  · simp [execRpInboundRequest, h, ha, hu]
  · simp [execRpInboundRequest, h, ha, ← hu, hf]
  · simp [execRpInboundRequest, h, not_le.mpr ha, hne]
  · simp [execRpInboundRequest, h, not_le.mpr ha, beq_iff_eq.mpr he]
  · simp [execRpLinkChange, h]
  · simp [execRpLinkChange, h]
  · simp [execRpLinkChange, h]

end Sys2Proof.Machine
end

section
/-! PROOFS. The queue pairs of the host interface (17, R438 to R447). -/

namespace Sys2Proof.Machine

open Sys2Proof

/-! ### The rules of the registers of a queue pair -/

section
variable (s : State) (a : Agent) (q : Fin 16) (v : Word)

theorem hqRule_cfg : hqRule a (R.HQ_Q_CFG q) v s = hqCfgRule q v s := by
  have hq := q.isLt
  have hself : (R.HQ_Q_CFG q.val - R.HQ_Q_CFG 0) / 0x40 = q.val := by simp only [R.HQ_Q_CFG]; omega
  rw [hqRule, if_neg (by simp only [R.HQ_Q_CFG, R.HQ_FW_RING]; omega), if_neg (by simp only [R.HQ_Q_CFG, R.HQ_FW_RD]; omega),
    if_neg (by simp only [R.HQ_Q_CFG, R.HQ_FW_CPL_LO]; omega), if_neg (by simp only [R.HQ_Q_CFG, R.HQ_FW_CPL_HI]; omega),
    if_pos (by simp only [R.HQ_Q_CFG]; omega), hself]
  exact if_pos rfl

/-- The rule of both doorbells: an index below the queue's size, while it runs (R439). -/
def doorbellRule (q off size : Nat) (v : Word) (s : State) : WRule :=
  { stateOk := s.hqState q == hqRun, rangeOk := decide (v.toNat % 4096 < size), eff := fun s => s.setReg off (v &&& 0xFFF) }

theorem hqRule_doorbell {off : Nat} (hlo : R.HQ_SQ_TAIL q ≤ off) (hhi : off < R.HQ_SQ_TAIL q + 8) : hqRule a off v s =
    doorbellRule q off (if off = R.HQ_SQ_TAIL q then s.fld (F.HQ_Q_SIZE_SQ_SIZE q) else s.fld (F.HQ_Q_SIZE_CQ_SIZE q)) v s := by
  have hq := q.isLt
  simp only [R.HQ_SQ_TAIL] at hlo hhi
  have hself : (off - R.HQ_SQ_TAIL 0) / 8 = q.val := by simp only [R.HQ_SQ_TAIL]; omega
  rw [hqRule, if_neg (by simp only [R.HQ_FW_RING]; omega), if_neg (by simp only [R.HQ_FW_RD]; omega),
    if_neg (by simp only [R.HQ_FW_CPL_LO]; omega), if_neg (by simp only [R.HQ_FW_CPL_HI]; omega),
    if_neg (by simp only [R.HQ_Q_CFG]; omega), if_pos (by simp only [R.HQ_SQ_TAIL]; omega), hself]
  rfl

theorem hqRule_sqTail : hqRule a (R.HQ_SQ_TAIL q) v s =
    doorbellRule q (R.HQ_SQ_TAIL q) (s.fld (F.HQ_Q_SIZE_SQ_SIZE q)) v s := by
  rw [hqRule_doorbell s a q v le_rfl (by omega), if_pos rfl]

theorem hqRule_cqHead : hqRule a (R.HQ_CQ_HEAD q) v s =
    doorbellRule q (R.HQ_CQ_HEAD q) (s.fld (F.HQ_Q_SIZE_CQ_SIZE q)) v s := by
  rw [hqRule_doorbell s a q v (by simp only [R.HQ_SQ_TAIL, R.HQ_CQ_HEAD]; omega)
    (by simp only [R.HQ_SQ_TAIL, R.HQ_CQ_HEAD]; omega), if_neg (by simp only [R.HQ_SQ_TAIL, R.HQ_CQ_HEAD]; omega)]

/-- A write that sets EN needs a queue that is not enabled and the conditions of R447. -/
theorem hqCfgRule_set (q : Nat) {v : Word} (hv : v.getLsbD 31 = true) : hqCfgRule q v s =
    { stateOk := !s.hqEnabled q && s.hqMayEnable q v, eff := fun s => (s.setReg (R.HQ_Q_CFG q) (v &&& 0x803F0000)).hqStart q } := by
  simp only [hqCfgRule, hv, if_true]

/-- A write that clears EN and changes no other field is taken in every state (R445). -/
theorem hqCfgRule_clear (q : Nat) {v : Word} (hv : v.getLsbD 31 = false)
    (hsame : (s.reg (R.HQ_Q_CFG q) ^^^ v) &&& 0x003F0000 = 0) : hqCfgRule q v s =
    { eff := fun t => if s.hqEnabled q then (t.setReg (R.HQ_Q_CFG q) (v &&& 0x803F0000)).hqDisable q
        else t.setReg (R.HQ_Q_CFG q) (v &&& 0x803F0000) } := by
  simp only [hqCfgRule, hv, hsame, beq_self_eq_true, Bool.or_true, Bool.false_eq_true, if_false]

theorem setEn_bit : (v ||| 0x80000000).getLsbD 31 = true := by
  simp

/-- Clearing EN alone changes no other field of HQ_Q_CFG. -/
theorem clearEn_bits (r : Word) :
    (r &&& 0x7FFFFFFF).getLsbD 31 = false ∧ (r ^^^ (r &&& 0x7FFFFFFF)) &&& 0x003F0000 = 0 := by
  constructor
  · simp
  · rw [show (0x003F0000 : Word) = 0x7FFFFFFF &&& 0x003F0000 from rfl]
    ext i
    simp only [BitVec.getElem_xor, BitVec.getElem_and]
    cases r[i] <;> cases (0x7FFFFFFF : Word)[i] <;> simp

theorem hqRule_fwCpl : hqRule a R.HQ_FW_CPL_HI v s = fwCplRule a v s := rfl

end

/-! ### Doorbells (R439) -/

section
variable {s : State} {a : Agent} (h : s.admits a .hq P.HQ = true)
include h

theorem doorbell_state {q : Nat} (off size : Nat) (v : Word) (hs : s.hqState q ≠ hqRun) :
    s.writeBy a .hq P.HQ off (doorbellRule q off size v s) = s.reject P.HQ off .state := by
  rw [State.writeBy_state _ h rfl rfl (beq_eq_false_iff_ne.mpr hs), doorbellRule]

theorem doorbell_stores {q size : Nat} (off : Nat) {v : Word} (hs : s.hqState q = hqRun) (hv : v.toNat % 4096 < size) :
    s.writeBy a .hq P.HQ off (doorbellRule q off size v s) = s.setReg off (v &&& 0xFFF) := by
  rw [State.writeBy_ok _ _ h rfl rfl (beq_iff_eq.mpr hs) rfl (decide_eq_true hv), doorbellRule]

theorem doorbell_range {q size : Nat} (off : Nat) {v : Word} (hs : s.hqState q = hqRun) (hv : size ≤ v.toNat % 4096) :
    s.writeBy a .hq P.HQ off (doorbellRule q off size v s) = s.reject P.HQ off .range := by
  rw [State.writeBy_refused _ _ .range h (by simp [doorbellRule, firstReason, hs, not_lt.mpr hv]), doorbellRule]

/-! ### Enabling and disabling (R445, R447) -/

theorem hqQueueEnable_refused (q : Fin 16) {v : Word}
    (hs : s.hqEnabled q = true ∨ s.hqMayEnable q (v ||| 0x80000000) = false) :
    exec (.hqQueueEnable a q v) s = .next (s.reject P.HQ (R.HQ_Q_CFG q) .state) := by
  have hstate : (!s.hqEnabled q && s.hqMayEnable q (v ||| 0x80000000)) = false := by
    rcases hs with hs | hs <;> rw [hs]
    · rfl
    · exact Bool.and_false _
  rw [exec_hqQueueEnable, execHqQueueEnable, State.hqWriteReg, hqRule_cfg, hqCfgRule_set s q (setEn_bit v),
    State.writeBy_state _ h rfl rfl hstate]

theorem hqQueueEnable_starts (q : Fin 16) {v : Word} (hen : s.hqEnabled q = false)
    (hmay : s.hqMayEnable q (v ||| 0x80000000) = true) : exec (.hqQueueEnable a q v) s =
      .next ((s.setReg (R.HQ_Q_CFG q) ((v ||| 0x80000000) &&& 0x803F0000)).hqStart q) := by
  have hstate : (!s.hqEnabled q && s.hqMayEnable q (v ||| 0x80000000)) = true := by
    rw [hen, hmay]
    rfl
  rw [exec_hqQueueEnable, execHqQueueEnable, State.hqWriteReg, hqRule_cfg, hqCfgRule_set s q (setEn_bit v),
    State.writeBy_ok _ _ h rfl rfl hstate rfl rfl]

theorem hqQueueDisable_eq (q : Fin 16) : exec (.hqQueueDisable a q) s = .next (
    if s.hqEnabled q then (s.setReg (R.HQ_Q_CFG q) (s.reg (R.HQ_Q_CFG q) &&& 0x7FFFFFFF &&& 0x803F0000)).hqDisable q
    else s.setReg (R.HQ_Q_CFG q) (s.reg (R.HQ_Q_CFG q) &&& 0x7FFFFFFF &&& 0x803F0000)) := by
  obtain ⟨hbit, hsame⟩ := clearEn_bits (s.reg (R.HQ_Q_CFG q))
  rw [exec_hqQueueDisable, execHqQueueDisable, State.hqWriteReg, hqRule_cfg, hqCfgRule_clear s q hbit hsame,
    State.writeBy_ok _ _ h rfl rfl rfl rfl rfl]

end

/-! ### Fetching a command (R443) -/

section
variable {s : State} (q : Fin 16)

/-- A queue that may not fetch waits. -/
theorem commandFetch_waits (c : Option (BitVec 512)) (h : s.hqState q ≠ hqRun ∨ (s.hq q).cmd.isSome = true ∨
    s.fld (F.HQ_Q_STAT_SQ_HEAD q) = s.fld (F.HQ_SQ_TAIL_TAIL q) ∨ s.cqFree q = 0 ∨ s.busMaster = false) :
    exec (.commandFetch q c) s = .next s := by
  rw [exec_commandFetch, execCommandFetch]
  refine congrArg _ (if_pos ?_)
  rcases h with h | h | h | h | h <;> simp [h]

section
variable (hs : s.hqState q = hqRun) (hc : (s.hq q).cmd = none)
  (hh : s.fld (F.HQ_Q_STAT_SQ_HEAD q) ≠ s.fld (F.HQ_SQ_TAIL_TAIL q)) (hf : s.cqFree q ≠ 0) (hb : s.busMaster = true)
  (ht : s.dev.sleep.target = 0) (hi : s.bit (R.xx_FLT_INJ P.HQ) X.HQ_FETCH_ERR = false)
include hs hc hh hf hb ht hi

theorem commandFetch_takes {c : BitVec 512} (hreach : s.hostReach (s.sqAddr q + 63) = true) :
    exec (.commandFetch q (some c)) s =
      .next ((s.setHq q { s.hq q with cmd := some c, started := false }).setFld (F.HQ_Q_STAT_SQ_HEAD q)
        (if s.fld (F.HQ_Q_STAT_SQ_HEAD q) + 1 = s.fld (F.HQ_Q_SIZE_SQ_SIZE q) then 0
          else s.fld (F.HQ_Q_STAT_SQ_HEAD q) + 1)) := by
  simp [execCommandFetch, hs, hc, hh, hf, hb, ht, State.takeInj_clear hi, hreach]

theorem commandFetch_fails : exec (.commandFetch q none) s =
    .next (((s.fresh 64).2.hqPost q 0xFFFF hsFetchErr (s.fresh 64).1).hqFail q X.HQ_FETCH_ERR false) := by
  simp [execCommandFetch, hs, hc, hh, hf, hb, ht, State.takeInj_clear hi]

end
end

/-! ### Executing a command (R441, R443) -/

section
variable {s : State} {q : Nat}

theorem State.hqCommand_idle (op : Nat) (hr : s.hqState q ≠ hqRun) (hs : s.hqState q ≠ hqStopping) : s.hqCommand q op = none := by
  simp [State.hqCommand, hr, hs]

theorem State.hqCommand_empty (op : Nat) (hc : (s.hq q).cmd = none) : s.hqCommand q op = none := by
  simp [State.hqCommand, hc]

theorem State.hqExec_none {op : Nat} (act : BitVec 512 → State → State) (h : s.hqCommand q op = none) : s.hqExec q op act = s := by
  rw [State.hqExec, h]

variable {c : BitVec 512} (hs : s.hqState q = hqRun) (hc : (s.hq q).cmd = some c)

include hc in
theorem State.hqEnd_eq (st : Nat) (r : BitVec 64) : s.hqEnd q st r =
    s.setHq q { s.hq q with cmd := none, started := false, out := (s.hq q).out ++ [(cmdNat c 0 2, st, r)] } := by
  rw [State.hqEnd, hc]

include hs hc

theorem State.hqCommand_running (op : Nat) : s.hqCommand q op = if cmdNat c 2 1 = op then some c else none := by
  simp [State.hqCommand, hs, hc, Option.filter_some]

theorem State.hqExec_wait (op : Nat) (act : BitVec 512 → State → State) (ha : s.hqAction q c = .wait) :
    s.hqExec q op act = s := by
  rw [State.hqExec, State.hqCommand_running hs hc]
  by_cases h : cmdNat c 2 1 = op
  · simp only [if_pos h, ha]
  · rw [if_neg h]

theorem State.hqExec_badField {op : Nat} (act : BitVec 512 → State → State) (ha : s.hqAction q c = .badField)
    (ho : cmdNat c 2 1 = op) (hlt : op < 3) : s.hqExec q op act = s.hqEnd q hsBadField 0 := by
  rw [State.hqExec, State.hqCommand_running hs hc, if_pos ho]
  simp only [ha, if_pos hlt]

theorem State.hqExec_run {op : Nat} (act : BitVec 512 → State → State) (ha : s.hqAction q c = .run)
    (ho : cmdNat c 2 1 = op) : s.hqExec q op act = act c s := by
  rw [State.hqExec, State.hqCommand_running hs hc, if_pos ho]
  simp only [ha]

end

/-- Where no command of any opcode is to be executed, none of the commands does anything. -/
theorem hqCommands_still {s : State} {q : Fin 16} (h : ∀ op, s.hqCommand q op = none) :
    exec (.hqNop q) s = .next s ∧ exec (.hqRegWrite q) s = .next s ∧ exec (.hqRegRead q) s = .next s ∧
      exec (.hqXfer q) s = .next s ∧ exec (.hqFw q) s = .next s := by
  refine ⟨?_, ?_, ?_, ?_, ?_⟩
  · rw [exec_hqNop, execHqNop, State.hqExec_none _ (h 0), done]
  · rw [exec_hqRegWrite, execHqRegWrite, State.hqExec_none _ (h 1), done]
  · rw [exec_hqRegRead, execHqRegRead, State.hqExec_none _ (h 2), done]
  · rw [exec_hqXfer, execHqXfer, State.hqExec_none _ (h 3), done]
  · rw [exec_hqFw, execHqFw, State.hqExec_none _ (h 4), done]

section
variable {s : State} {q : Fin 16} {c : BitVec 512} (hs : s.hqState q = hqRun) (hc : (s.hq q).cmd = some c)
include hs hc

/-- A command whose fence waits does nothing. -/
theorem hqCommands_fenced (ha : s.hqAction q c = .wait) :
    exec (.hqNop q) s = .next s ∧ exec (.hqRegWrite q) s = .next s ∧ exec (.hqRegRead q) s = .next s ∧
      exec (.hqXfer q) s = .next s ∧ exec (.hqFw q) s = .next s := by
  refine ⟨?_, ?_, ?_, ?_, ?_⟩
  · rw [exec_hqNop, execHqNop, State.hqExec_wait hs hc _ _ ha, done]
  · rw [exec_hqRegWrite, execHqRegWrite, State.hqExec_wait hs hc _ _ ha, done]
  · rw [exec_hqRegRead, execHqRegRead, State.hqExec_wait hs hc _ _ ha, done]
  · rw [exec_hqXfer, execHqXfer, State.hqExec_wait hs hc _ _ ha, done]
  · rw [exec_hqFw, execHqFw, State.hqExec_wait hs hc _ _ ha, done]

theorem hqBadOpcode_eq : exec (.hqBadOpcode q) s =
    .next (if s.hqAction q c = .badOpcode then s.hqEnd q hsBadOpcode 0 else s) := by
  simp [execHqBadOpcode, hs, hc]

variable (ha : s.hqAction q c = .run)
include ha

theorem hqNop_ends (ho : cmdNat c 2 1 = 0) : exec (.hqNop q) s = .next (s.hqEnd q hsOk 0) := by
  rw [exec_hqNop, execHqNop, State.hqExec_run hs hc _ ha ho, done]

/-! ### REG_WRITE and REG_READ (R441) -/

section
variable (ho : cmdNat c 2 1 = 1)
include ho

theorem hqRegWrite_tooMany (hn : 6 < cmdNat c 8 1) : exec (.hqRegWrite q) s = .next (s.hqEnd q hsBadField 0) := by
  rw [exec_hqRegWrite, execHqRegWrite, State.hqExec_run hs hc _ ha ho]
  simp [hn]

theorem hqRegWrite_empty (hn : cmdNat c 8 1 = 0) : exec (.hqRegWrite q) s = .next (s.hqEnd q hsOk 0) := by
  rw [exec_hqRegWrite, execHqRegWrite, State.hqExec_run hs hc _ ha ho]
  simp [hn, State.writeRun]

/-- One write: its offset and value stand in bytes 16 to 23. -/
theorem hqRegWrite_one (hn : cmdNat c 8 1 = 1) {o : Nat} {v : Word} (hoff : o = cmdNat c 16 4) (hok : cmdOffsetOk o = true)
    (hv : v = BitVec.ofNat 32 (cmdNat c 20 4)) : exec (.hqRegWrite q) s = .next (
      let t := s.windowWrite (.hostQueue q) o true false (v.setWidth 64)
      match s.windowReason (.hostQueue q) o true false (v.setWidth 64) with
      | some e => t.hqEnd q hsRejected (BitVec.ofNat 64 (256 * e.code))
      | none => t.hqEnd q hsOk 1) := by
  subst hv hoff
  rw [exec_hqRegWrite, execHqRegWrite, State.hqExec_run hs hc _ ha ho]
  cases he : s.windowReason (.hostQueue q) (cmdNat c 16 4) true false ((BitVec.ofNat 32 (cmdNat c 20 4)).setWidth 64) <;>
    simp [hn, hok, State.writeRun, he]

end

section
variable (ho : cmdNat c 2 1 = 2)
include ho

theorem hqRegRead_badField (h : 16 < cmdNat c 8 1 ∨ cmdNat c 16 8 % 4 ≠ 0) :
    exec (.hqRegRead q) s = .next (s.hqEnd q hsBadField 0) := by
  rw [exec_hqRegRead, execHqRegRead, State.hqExec_run hs hc _ ha ho]
  rcases h with h | h <;> simp [h]

theorem hqRegRead_empty (hn : cmdNat c 8 1 = 0) (hoff : cmdOffsetOk (cmdNat c 12 4) = true) (hh : cmdNat c 16 8 % 4 = 0) :
    exec (.hqRegRead q) s = .next (s.hqEnd q hsOk 0) := by
  rw [exec_hqRegRead, execHqRegRead, State.hqExec_run hs hc _ ha ho]
  simp [hn, hoff, hh]

/-- The values of well-formed reads go to host memory once bus-master requests may be issued. -/
theorem hqRegRead_eq {n o h : Nat} (hn : n = cmdNat c 8 1) (hoff : o = cmdNat c 12 4) (hh : h = cmdNat c 16 8) (hpos : 0 < n)
    (hmax : n ≤ 16) (hhost : h % 4 = 0) (hal : o % 4 = 0) (hwin : o + 4 * n ≤ 0x4000000)
    {x : List Word × State} (hx : x = State.readRun (.hostQueue q) o n s) :
    exec (.hqRegRead q) s = .next (
      if !s.busMaster then s
      else
        match x.2.hqWrite q h (x.1.flatMap (fun v => leBytes 4 v.toNat)) with
        | (true, s) => s.hqEnd q hsOk (BitVec.ofNat 64 n)
        | (false, s) => s) := by
  have hfirst : cmdOffsetOk o = true := by
    simp only [cmdOffsetOk, Bool.and_eq_true, beq_iff_eq, decide_eq_true_eq]
    omega
  have hlast : cmdOffsetOk (o + 4 * (n - 1)) = true := by
    simp only [cmdOffsetOk, Bool.and_eq_true, beq_iff_eq, decide_eq_true_eq]
    omega
  have hguard : (decide (16 < n) || !cmdOffsetOk o || (n != 0 && !cmdOffsetOk (o + 4 * (n - 1))) || h % 4 != 0) = false := by
    simp [hfirst, hlast, hhost, not_lt.mpr hmax]
  subst hx hn hoff hh
  rw [exec_hqRegRead, execHqRegRead, State.hqExec_run hs hc _ ha ho]
  simp only [hguard, Bool.false_eq_true, if_false, if_neg (Nat.pos_iff_ne_zero.mp hpos)] <;> rfl

end

/-! ### XFER (R441) and FW (R444) -/

section
variable {k : Nat} (ho : cmdNat c 2 1 = 3) (hk : k = s.fld (F.HQ_Q_CFG_DMA_CH q))
include ho

theorem hqXfer_noChannel (hst : (s.hq q).started = false) (hen : s.flag (F.HQ_Q_CFG_DMA_EN q) = false) :
    exec (.hqXfer q) s = .next (s.hqFree q hsBadField) := by
  rw [exec_hqXfer, execHqXfer, State.hqExec_run hs hc _ ha ho]
  simp [hst, hen]

include hk

theorem hqXfer_started (hst : (s.hq q).started = true) : exec (.hqXfer q) s = .next (
    if s.dmaActive k then s
    else s.hqEnd q (if s.fld (F.DMA_CH_STAT_STATUS (k / 8) (k % 8)) = dmaOk then hsOk else hsXferErr) (s.xferResult k)) := by
  subst hk
  rw [exec_hqXfer, execHqXfer, State.hqExec_run hs hc _ ha ho]
  simp [hst]

section
variable (hst : (s.hq q).started = false) (hen : s.flag (F.HQ_Q_CFG_DMA_EN q) = true) (hlen : cmdNat c 32 4 ≠ 0)
include hst hen hlen

theorem hqXfer_busy (hact : s.dmaActive k = true) : exec (.hqXfer q) s = .next (s.hqEnd q hsBusy (s.xferResult k)) := by
  subst hk
  rw [exec_hqXfer, execHqXfer, State.hqExec_run hs hc _ ha ho]
  simp [hst, hen, hlen, hact]

theorem hqXfer_starts (hact : s.dmaActive k = false) {n : Nat} {t : State}
    (hrun : State.writeRun (.hostQueue q) (s.xferWrites k c) 0 s = (n, none, t)) :
    exec (.hqXfer q) s = .next (t.setHq q { t.hq q with started := true }) := by
  subst hk
  rw [exec_hqXfer, execHqXfer, State.hqExec_run hs hc _ ha ho]
  simp [hst, hen, hlen, hact, hrun]

end
end

section
variable (ho : cmdNat c 2 1 = 4)
include ho

theorem hqFw_noRing (hen : s.flag F.HQ_FW_RING_EN = false) : exec (.hqFw q) s = .next (s.hqFree q hsBadField) := by
  rw [exec_hqFw, execHqFw, State.hqExec_run hs hc _ ha ho]
  simp [hen]

theorem hqFw_full (hen : s.flag F.HQ_FW_RING_EN = true) (hfull : 32767 ≤ s.fwLevel) : exec (.hqFw q) s = .next s := by
  rw [exec_hqFw, execHqFw, State.hqExec_run hs hc _ ha ho]
  simp [hen, hfull]

theorem hqFw_placed (hen : s.flag F.HQ_FW_RING_EN = true) (hroom : s.fwLevel < 32767) {p : Nat} {t u w : State}
    (hp : p = s.fld F.HQ_FW_RING_FRAME * 2 ^ 21 + (s.reg R.HQ_FW_WR).toNat % 32768 * 64)
    (ht : t = s.setMem p (leBytes 64 (putBits c.toNat 39 32 q.val))) (hu : u = t.setReg R.HQ_FW_WR (t.reg R.HQ_FW_WR + 1))
    (hw : w = u.raiseTo R.HQ_FW_MAX u.fwLevel) (hok : s.writeFails p 64 = false) : exec (.hqFw q) s =
      .next ((w.setHq q { w.hq q with cmd := none, fw := (w.hq q).fw ++ [cmdNat c 0 2] }).event P.HQ E.HQ_FW_CMD) := by
  subst hw hu ht hp
  rw [exec_hqFw, execHqFw, State.hqExec_run hs hc _ ha ho]
  simp only [hen, hok, not_le.mpr hroom, Bool.not_true, Bool.false_eq_true, if_false]

end
end

/-! ### Completions (R442 to R444) -/

section
variable {s : State} {q : Fin 16}

theorem completionPost_idle (hr : s.hqState q ≠ hqRun) (hs : s.hqState q ≠ hqStopping) : exec (.completionPost q) s = .next s := by
  simp [execCompletionPost, hr, hs]

theorem completionPost_empty (ho : (s.hq q).out = []) : exec (.completionPost q) s = .next s := by
  simp [execCompletionPost, ho]

theorem completionPost_oldest {c x : Nat} {r : BitVec 64} {l : List (Nat × Nat × BitVec 64)}
    (hs : s.hqState q = hqRun ∨ s.hqState q = hqStopping) (hb : s.busMaster = true) (ho : (s.hq q).out = (c, x, r) :: l) :
    exec (.completionPost q) s = .next (((s.setHq q { s.hq q with out := l }).hqPost q c x r).hqSettle q) := by
  rcases hs with hs | hs <;> simp [execCompletionPost, hs, hb, ho]

end

/-- The rule of HQ_FW_CPL_HI over the queue, the status and the CID that its word names. -/
theorem fwCplRule_eq (s : State) (a : Agent) {w : Word} {q st cid : Nat} (hq : q = w.toNat / 2 ^ 28)
    (hst : st = w.toNat / 2 ^ 16 % 256) (hcid : cid = w.toNat % 2 ^ 16) : fwCplRule a w s =
    { orderOk := (s.host.cplLo.map Prod.fst) == some a.ident
      stateOk := s.hqState q == hqRun && (s.hq q).fw.contains cid
      rangeOk := st == 0 || decide (0x80 ≤ st)
      eff := fun s =>
        let lo := (s.host.cplLo.map Prod.snd).getD 0
        let s := s.setHost { s.host with cplLo := none }
        let s := s.setHq q { s.hq q with fw := dropFirst cid (s.hq q).fw }
        if s.busMaster then s.hqPost q cid st (lo.setWidth 64)
        else s.setHq q { s.hq q with out := (s.hq q).out ++ [(cid, st, lo.setWidth 64)] }
      refused := fun _ s => s.setHost { s.host with cplLo := none } } := by
  have hw := w.isLt
  have hq' : bitsOf w.toNat 31 28 = q := by rw [hq, bitsOf]; omega
  have hst' : bitsOf w.toNat 23 16 = st := by rw [hst, bitsOf]; omega
  have hcid' : bitsOf w.toNat 15 0 = cid := by rw [hcid, bitsOf]; omega
  simp only [fwCplRule, hq', hst', hcid']

section
variable {s : State} {a : Agent} {w : Word} {q st cid : Nat} (h : s.admits a .hq P.HQ = true) (hq : q = w.toNat / 2 ^ 28)
  (hst : st = w.toNat / 2 ^ 16 % 256) (hcid : cid = w.toNat % 2 ^ 16)
include h hq hst hcid

theorem fwCpl_state (hs : s.hqState q ≠ hqRun) : exec (.fwCpl a w) s =
    .next ((s.reject P.HQ R.HQ_FW_CPL_HI .state).setHost
      { (s.reject P.HQ R.HQ_FW_CPL_HI .state).host with cplLo := none }) := by
  rw [exec_fwCpl, execFwCpl, State.hqWriteReg, hqRule_fwCpl, fwCplRule_eq s a hq hst hcid,
    State.writeBy_state _ h rfl rfl (by simp [hs])]

section
variable (hs : s.hqState q = hqRun) (hmem : cid ∈ (s.hq q).fw)
include hs hmem

theorem fwCpl_order (hlo : s.host.cplLo = none) : exec (.fwCpl a w) s =
    .next ((s.reject P.HQ R.HQ_FW_CPL_HI .order).setHost
      { (s.reject P.HQ R.HQ_FW_CPL_HI .order).host with cplLo := none }) := by
  rw [exec_fwCpl, execFwCpl, State.hqWriteReg, hqRule_fwCpl, fwCplRule_eq s a hq hst hcid,
    State.writeBy_refused _ _ .order h (by simp [firstReason, hs, hmem, hlo])]

theorem fwCpl_taken {lo : Word} (hlo : s.host.cplLo = some (a.ident, lo)) (hcode : st = 0 ∨ 0x80 ≤ st) {t u : State}
    (ht : t = s.setHost { s.host with cplLo := none }) (hu : u = t.setHq q { t.hq q with fw := dropFirst cid (t.hq q).fw }) :
    exec (.fwCpl a w) s = .next (if s.busMaster then u.hqPost q cid st (lo.setWidth 64)
      else u.setHq q { u.hq q with out := (u.hq q).out ++ [(cid, st, lo.setWidth 64)] }) := by
  subst hu ht
  rw [exec_fwCpl, execFwCpl, State.hqWriteReg, hqRule_fwCpl, fwCplRule_eq s a hq hst hcid,
    State.writeBy_ok _ _ h rfl rfl (by simp [hs, hmem]) (by simp [hlo]) (by simpa using hcode)]
  simp only [hlo]
  rfl

end
end

/-- Settles O57: a case for each command of a queue pair and each side of its conditions. That SQ_HEAD advances at the fetch, that a
write with EN = 0 keeps the other fields and when a completion of FW is rejected or waits are the model's choices (log row 79), and
so are the free RESULTs of `hqFree` and FETCH_ERR (log row 80). -/
theorem hostQueues : Obligations.HostQueues := by
  refine ⟨fun s a q v h => ⟨fun hs => ⟨?_, ?_⟩, fun hs => ⟨fun hv => ?_, fun hv => ?_, fun hv => ?_, fun hv => ?_⟩⟩,
    fun s q c => ⟨fun hs => ?_, fun hs => ?_, fun hs => ?_, fun hs => ?_, fun hs => ?_⟩,
    fun s q c k hk hs hc hh hf hb ht hi => ?_,
    fun s q => ⟨fun hr hs => ?_, fun hc => ?_, completionPost_empty, fun c x r l hs hb ho => completionPost_oldest hs hb ho⟩,
    fun s q c y hs hc hy => ?_, fun s t q c v o hs hc ha ho hn hoff hok hv ht => ⟨fun he => ?_, fun e he => ?_⟩,
    fun s q c n o k x hs hc ha ho hn hoff hk hpos hmax hhost hal hwin hx => ⟨fun hb => ?_, fun hb hw => ?_⟩,
    fun s q c k hs hc ha ho hk => ⟨fun hst hact => ?_, fun hst hact => ?_, hqXfer_noChannel hs hc ha ho,
      fun hst hen hlen hact => hqXfer_busy hs hc ha ho hk hst hen hlen hact,
      fun n t hst hen hlen hact hrun => hqXfer_starts hs hc ha ho hk hst hen hlen hact hrun⟩,
    fun s q c hs hc ha ho => ⟨hqFw_noRing hs hc ha ho, hqFw_full hs hc ha ho,
      fun p t u hp ht hu hen hroom hok => hqFw_placed hs hc ha ho hen hroom hp ht hu rfl hok⟩,
    fun s t u a w lo q cid st h hq hst hcid ht hu => ⟨fun hlo hs hmem hcode => ?_, fwCpl_state h hq hst hcid,
      fun hlo hs hmem => fwCpl_order h hq hst hcid hs hmem hlo⟩,
    fun s a q v h => ⟨fun hen => hqQueueEnable_refused h q (.inl hen), fun hmay => hqQueueEnable_refused h q (.inr hmay),
      hqQueueEnable_starts h q, fun hen => ?_, fun hen => ?_⟩⟩
  · rw [exec_sqTailDoorbell, execSqTailDoorbell, State.hqWriteReg, hqRule_sqTail, doorbell_state h _ _ v hs, done]
  · rw [exec_cqHeadDoorbell, execCqHeadDoorbell, State.hqWriteReg, hqRule_cqHead, doorbell_state h _ _ v hs, done]
  · rw [exec_sqTailDoorbell, execSqTailDoorbell, State.hqWriteReg, hqRule_sqTail, doorbell_stores h _ hs hv, done]
  · rw [exec_sqTailDoorbell, execSqTailDoorbell, State.hqWriteReg, hqRule_sqTail, doorbell_range h _ hs hv, done]
  · rw [exec_cqHeadDoorbell, execCqHeadDoorbell, State.hqWriteReg, hqRule_cqHead, doorbell_stores h _ hs hv, done]
  · rw [exec_cqHeadDoorbell, execCqHeadDoorbell, State.hqWriteReg, hqRule_cqHead, doorbell_range h _ hs hv, done]
  · exact commandFetch_waits q c (.inl hs)
  · exact commandFetch_waits q c (.inr (.inr (.inl hs)))
  · exact commandFetch_waits q c (.inr (.inr (.inr (.inl hs))))
  · exact commandFetch_waits q c (.inr (.inl hs))
  · exact commandFetch_waits q c (.inr (.inr (.inr (.inr hs))))
  · subst hk
    exact ⟨commandFetch_takes q hs hc hh hf hb ht hi, commandFetch_fails q hs hc hh hf hb ht hi⟩
  · obtain ⟨hnop, hwrite, hread, hxfer, hfw⟩ := hqCommands_still fun op => State.hqCommand_idle op hr hs
    exact ⟨hnop, hwrite, hread, hxfer, hfw, by simp [execHqBadOpcode, hr, hs], completionPost_idle hr hs⟩
  · obtain ⟨hnop, hwrite, hread, hxfer, hfw⟩ := hqCommands_still fun op => State.hqCommand_empty op hc
    exact ⟨hnop, hwrite, hread, hxfer, hfw, by simp [execHqBadOpcode, hc]⟩
  · have hend (st : Nat) (r : BitVec 64) : s.hqEnd q st r = y st r := by rw [State.hqEnd_eq hc, hy]
    refine ⟨fun ha => ?_, fun ha => ?_, hqCommands_fenced hs hc, fun ha ho => ?_, fun ha => ⟨fun ho => ?_, fun ho hn => ?_,
      fun ho hn => ?_, fun ho hn hoff hh => ?_, fun ho hn => ?_, fun ho hh => ?_⟩⟩
    · rw [hqBadOpcode_eq hs hc, if_pos ha, hend]
    · rw [hqBadOpcode_eq hs hc, if_neg ha]
    · rw [exec_hqNop, execHqNop, State.hqExec_badField hs hc _ ha ho (by decide), hend, done]
    · rw [hqNop_ends hs hc ha ho, hend]
    · rw [hqRegWrite_tooMany hs hc ha ho hn, hend]
    · rw [hqRegWrite_empty hs hc ha ho hn, hend]
    · rw [hqRegRead_empty hs hc ha ho hn hoff hh, hend]
    · rw [hqRegRead_badField hs hc ha ho (.inl hn), hend]
    · rw [hqRegRead_badField hs hc ha ho (.inr hh), hend]
  · rw [hqRegWrite_one hs hc ha ho hn hoff hok hv, he, ht]
  · rw [hqRegWrite_one hs hc ha ho hn hoff hok hv, he, ht]
  · rw [hqRegRead_eq hs hc ha ho hn hoff hk hpos hmax hhost hal hwin hx, hb]
    rfl
  · rw [hqRegRead_eq hs hc ha ho hn hoff hk hpos hmax hhost hal hwin hx, hb]
    generalize x.2.hqWrite q k (x.1.flatMap fun v => leBytes 4 v.toNat) = r at hw ⊢
    obtain ⟨b, u⟩ := r
    obtain rfl : b = true := hw
    rfl
  · rw [hqXfer_started hs hc ha ho hk hst, if_pos hact]
  · rw [hqXfer_started hs hc ha ho hk hst, if_neg (by simp [hact])]
  · rw [fwCpl_taken h hq hst hcid hs hmem hlo hcode ht hu]
    exact ⟨fun hb => by rw [hb, if_pos rfl], fun hb => by rw [hb, if_neg Bool.false_ne_true]⟩
  · rw [hqQueueDisable_eq h, if_pos hen]
  · rw [hqQueueDisable_eq h, if_neg (by simp [hen])]

end Sys2Proof.Machine
end
